-- ==== Sys2Proof/Word.lean ====
section
/-! DEFINITION. The word types of the XN-960 model: a register word, an octet, and a fixed-point code whose `none` is
the NaN code of R9. Everything that computes on them stands in Machine/Bits.lean. -/

namespace Sys2Proof

/-- A register word: every register is 32 bits wide (R12). -/
abbrev Word := BitVec 32

/-- An octet of a frame, of a memory or of an image. -/
abbrev Byte := BitVec 8

/-- A fixed-point value: its integer code (R8), or `none` for NaN (R9). -/
abbrev Q := Option Int

end Sys2Proof
end

