-- ==== Sys2Proof/Syntax.lean ====
section
/-! DEFINITION. The commands of the XN-960: one constructor of `Instr` for each row of the table of operations and
events, with the operands that the row's rules name, and the data that those operands are made of. -/

namespace Sys2Proof

/-! ## Names -/

/-- The two units of a pair, fixed by the UNIT_SEL strap (R3). -/
inductive UnitId where
  | a | b
deriving DecidableEq, Repr, Inhabited

/-- The role of a unit (R272 ROLE). -/
inductive Role where
  | none | active | standby
deriving DecidableEq, Repr, Inhabited

/-- The eight operating modes (R21, R61). -/
inductive Mode where
  | boot | load | selftest | standby | active | hold | maintenance | recovery
deriving DecidableEq, Repr, Inhabited

/-- The control functions (R80). -/
inductive Func where
  | joystick | autoHeading | autoPosition | autoTrack | berthPush | thrusterTest
deriving DecidableEq, Repr, Inhabited

/-- The life-cycle states (R431). -/
inductive LifeCycle where
  | factory | commissioning | inService | returned
deriving DecidableEq, Repr, Inhabited

/-- PHASE of resynchronisation (R322). -/
inductive Phase where
  | none | join | copy | settle | audit | mirrored | unmirrored
deriving DecidableEq, Repr, Inhabited

/-- Causes of the last reset release (R404 LOC_RESET_CAUSE). -/
inductive ResetCause where
  | powerApplied | supplySupervisor | clockMonitor | locRestart | endOfRecovery
deriving DecidableEq, Repr, Inhabited

/-- What releases reset in RESET_RELEASE (R65): power is applied; the supply supervisor, at this bus voltage in uQ8.8 V, so many ms after
reset was asserted (R450); or the clock monitor, at this reading in ms of its own reference (R28). -/
inductive Release where
  | power | supply (volts heldMs : Nat) | monitor (nowMs : Nat)
deriving DecidableEq, Repr, Inhabited

/-- A two-fold port: RING_1/RING_2, TONGS_1/TONGS_2, STN_1/STN_2, PWR_A/PWR_B, GNSS A/GNSS B, flash bank A/B. -/
inductive Side where
  | one | two
deriving DecidableEq, Repr, Inhabited

/-- The ports that serve HAP (R370). -/
inductive HapPort where
  | stn1 | stn2 | svc
deriving DecidableEq, Repr, Inhabited

/-- State of a link (R284, R327, R404). -/
inductive LinkState where
  | down | training | up
deriving DecidableEq, Repr, Inhabited

/-- The two control processors (R24). -/
inductive Processor where
  | fast | slow
deriving DecidableEq, Repr, Inhabited

/-- The two switches of a safe output channel (R333). -/
inductive Switch where
  | hs | ls
deriving DecidableEq, Repr, Inhabited

/-- The time unit's sources (R243). -/
inductive TimeSource where
  | gnssA | gnssB | ptp | pair
deriving DecidableEq, Repr, Inhabited

/-- State of a firmware bank in the boot header (R442). -/
inductive BankState where
  | empty | confirmed | provisional | suspect | failed
deriving DecidableEq, Repr, Inhabited

/-! ## Input records and frames -/

/-- The identity of a record (R44, R47). -/
structure RecordId where
  origin : UnitId
  source : Nat
  seq    : Nat
deriving DecidableEq, Repr, Inhabited

/-- One input record as its record frame carries it (R311 type 0x41). -/
structure InRecord where
  origin   : UnitId
  holdover : Bool
  /-- FLAGS bit 2: TOV is the sensor's own accepted time tag. -/
  tagged   : Bool
  source   : Nat
  seq      : Nat
  stamp    : Nat
  tov      : Nat
  payload  : List Byte
deriving DecidableEq, Repr, Inhabited

/-- What a receiver checks of every Tongs frame before its body (R310). -/
structure TongsHeader where
  /-- The link the copy arrived on. -/
  link    : Side
  fcsOk   : Bool
  crcOk   : Bool
  version : Nat
  /-- LENGTH equals the payload length. -/
  lengthOk : Bool
  epoch   : Nat
  unit    : UnitId
  role    : Role
  index   : Nat
  count   : Nat
  /-- Nanoseconds after the receiver's own E+0 at which the frame's last octet arrived. -/
  atNs    : Nat
deriving DecidableEq, Repr, Inhabited

/-- A vote on one operator command (R311 type 0x43). -/
structure Vote where
  id     : RecordId
  accept : Bool
deriving DecidableEq, Repr, Inhabited

/-- Body of a digest frame (R311 type 0x43). -/
structure DigestBody where
  overrun : Bool
  phase   : Phase
  command : Nat
  commit  : Nat
  votes   : List Vote
deriving DecidableEq, Repr, Inhabited

/-- Body of a Tongs heartbeat (R312). -/
structure HeartbeatBody where
  mode       : Mode
  mirrored   : Bool
  single     : Bool
  locked     : Bool
  phase      : Phase
  holdCause  : Nat
  imageId    : Nat
  fwDigest   : Nat
  txTick     : Nat
  txTime     : Nat
  echoTick   : Nat
  echoRx     : Nat
  copyStart  : Nat
  stepAt     : Nat
  stepNs     : Int
  /-- The full digest D, exchanged when a unit joins over Tongs (R105); `none` at other times. R312's 96 octets have no field for it:
  that it goes with the heartbeat is the model's choice (log 106). -/
  digest     : Option Nat
deriving DecidableEq, Repr, Inhabited

/-- Body of an update status frame (R444). -/
structure UpdateStatusBody where
  state       : Nat
  provisional : Bool
  committed   : Nat
deriving DecidableEq, Repr, Inhabited

/-- One set-point record of the command frame (R273). -/
structure SetPoint where
  decl  : Bool
  part  : Bool
  zero  : Bool
  held  : Bool
  test  : Bool
  kinds : Nat
  cause : Nat
  thrust  : Q
  power   : Q
  pitch   : Q
  rpm     : Q
  azimuth : Q
deriving DecidableEq, Repr, Inhabited

/-- A command frame (R272). -/
structure CommandFrame where
  epoch     : Nat
  unit      : UnitId
  role      : Role
  authority : Bool
  single    : Bool
  notMirrored : Bool
  func      : Option Func
  seq       : Nat
  imageId   : Nat
  digest    : Nat
  setPoints : List SetPoint
deriving DecidableEq, Repr, Inhabited

/-- A ring heartbeat (R281). -/
structure RingHeartbeat where
  epoch     : Nat
  unit      : UnitId
  role      : Role
  mode      : Mode
  mirrored  : Bool
  single    : Bool
  holdCause : Nat
  imageId   : Nat
  fwDigest  : Nat
deriving DecidableEq, Repr, Inhabited

/-- How a ring frame of EtherType 0x88B5 reached the unit: its ports and its checks (R271, R282). -/
structure RingRx where
  port : Side
  /-- Source address, and sequence number of the HSR tag (R266, R270). -/
  src : Nat
  hsrSeq : Nat
  /-- Instant of reception in ms, for the forget time of R266. -/
  nowMs : Nat
  fcsOk : Bool
  crcOk : Bool
  /-- TYPE, VERSION and LENGTH of its payload. -/
  type : Nat
  version : Nat
  length : Nat
deriving DecidableEq, Repr, Inhabited

/-- A feedback payload (R279), from the ring or from CAN (R293). -/
structure Feedback where
  unit    : Nat
  ready   : Bool
  following : Bool
  lossOfCommand : Bool
  loc     : Bool
  fault   : Bool
  limited : Bool
  fbSeq   : Nat
  echo    : Nat
  tag     : Nat
  thrust  : Q
  power   : Q
  pitch   : Q
  rpm     : Q
  azimuth : Q
deriving DecidableEq, Repr, Inhabited

/-- A forwarded HSR frame (R266, R251). -/
structure HsrFrame where
  inPort   : Side
  source   : Nat
  hsrSeq   : Nat
  /-- The node itself originated the frame. -/
  own      : Bool
  /-- The frame is addressed to this node (or to a multicast it takes), and the table has no row of its own for what it carries. -/
  forNode  : Bool
  /-- The frame also goes on to the other port. -/
  forward  : Bool
  ptpEvent : Bool
  /-- correctionField, in 2⁻¹⁶ ns. -/
  correction : Int
  /-- Ticks from E+0 µs at which its start-of-frame delimiter came in by one port and went out by the other (R251, R252). -/
  inTick   : Int
  outTick  : Int
  nowMs    : Nat
deriving DecidableEq, Repr, Inhabited

/-- The messages a CAN bus delivers (R290 to R293). -/
inductive CanBody where
  | busSection (sec : Nat) (lost : Bool) (seq : Nat) (limit nondp : Q)
  | plant (seq : Nat) (ties rooms : Nat) (soc : List Q)
  | panel (panel : Nat) (valid inCommand : Bool) (seq : Nat) (surge sway yaw : Q)
  | feedback (fb : Feedback)
deriving DecidableEq, Repr, Inhabited

/-- A CAN frame seen on a bus (R286, R289). -/
structure CanRx where
  bus : Nat
  /-- A CAN FD data frame with the ISO CRC (R286). -/
  known : Bool
  lengthOk : Bool
  typeOk : Bool
  crcOk : Bool
  /-- Its identifier, of 29 bits where `extended` (R286). -/
  ident : Nat
  extended : Bool
  /-- Tick of its stamp, the end of its arbitration field, counted from E+0 µs (R25, R241). -/
  tick : Int
  body : CanBody
deriving DecidableEq, Repr, Inhabited

/-- A sentence on a serial port (R304). -/
structure SentenceRx where
  port : Nat
  startOk : Bool
  endOk : Bool
  checksumOk : Bool
  /-- A framing error was met while it was received. -/
  framing : Bool
  /-- The source declared on the port for its talker and formatter. -/
  source : Option Nat
  /-- Tick of the start bit of its first character, counted from E+0 µs; negative in an earlier epoch (R304, R241). -/
  tick : Int
  /-- The UTC time of day in the declared time field, in ns (R305). -/
  timeField : Option Nat
  /-- Its characters without CR LF. -/
  chars : List Byte
deriving DecidableEq, Repr, Inhabited

/-- A window end of one Sieve chain (R260): the modulator's bits of the window. -/
structure SieveWindow where
  chain : Nat
  /-- Tick of the window end, counted from E+0 µs (R241, R260). -/
  tick : Int
  /-- The modulator bits of the window, oldest first (R257, R259). -/
  bits : List Bool
  /-- The modulator was overloaded somewhere in the window; the tick at which that cleared, or `none` while it lasts. -/
  overload : Bool
  clearedAt : Option Int
deriving DecidableEq, Repr, Inhabited

/-- What a channel gives of its signal at a solution (R224, R226): lock, its nine complex correlators in the order of their offsets,
very early to very late, and the pseudorange less the one predicted from the starting point, in fs (logs 133 and 143). -/
structure SignalObs where
  lock : Bool
  taps : List (Int × Int)
  range : Int
  /-- Delay of the broadcast ionosphere model on this signal, fs (R221). -/
  iono : Int
deriving DecidableEq, Repr, Inhabited

/-- SBAS corrections of a satellite (R221, R227), in fs: to its range, of the ionosphere on its first band, the variance of its residual
error; and the flag "not to be used". -/
structure SbasObs where
  range : Int
  iono : Option Int
  error : Nat
  doNotUse : Bool
deriving DecidableEq, Repr, Inhabited

/-- A satellite as an antenna's channels give it at a solution. -/
structure SatObs where
  system : Nat
  sv : Nat
  elevationMdeg : Nat
  /-- Unit vector from the antenna to the satellite: north, east, down, sQ1.30. -/
  sightN : Int
  sightE : Int
  sightD : Int
  /-- Its signals, the first band first (R221). -/
  signals : List SignalObs
  sbas : Option SbasObs
deriving DecidableEq, Repr, Inhabited

/-- An antenna's observations, with the earth-frame point from which ranges are predicted, sQ19.12 codes. -/
structure AntennaObs where
  north : Int
  east : Int
  down : Int
  sats : List SatObs
deriving DecidableEq, Repr, Inhabited

/-- The observations of one engine at an output instant (R226). -/
structure GnssSolution where
  engine : Side
  tov    : Nat
  /-- Tick at which its records reach ingress, counted from E+0 µs (R229). -/
  tick   : Int
  /-- Receiver clock offset against GPS time that the predictions take, fs. -/
  clock  : Int
  ant0   : AntennaObs
  ant1   : AntennaObs
  /-- TAI minus UTC from the GPS broadcast UTC parameters, when received (R249). -/
  utcOffset : Option Int
deriving DecidableEq, Repr, Inhabited

/-- A satellite visible at an antenna (R223). -/
structure Satellite where
  system : Nat
  sv : Nat
  elevationMdeg : Nat
  /-- Number of its signals that are visible. -/
  bands : Nat
deriving DecidableEq, Repr, Inhabited

/-- What the header of every PTP message says (R250): versionPTP, domainNumber, sourcePortIdentity (the 64 bits of the clock and the 16
of the port), sequenceId, and correctionField in 2⁻¹⁶ ns. -/
structure PtpHeader where
  version : Nat
  domain  : Nat
  source  : Nat
  seq     : Nat
  correction : Int
deriving DecidableEq, Repr, Inhabited

/-- The grandmaster that an Announce message describes, and how many clocks away it is. -/
structure ClockData where
  priority1 : Nat
  cls       : Nat
  accuracy  : Nat
  variance  : Nat
  priority2 : Nat
  identity  : Nat
  steps     : Nat
deriving DecidableEq, Repr, Inhabited

/-- A PTP message received (R250): instants as ticks from E+0 µs, times in ns, and the port identity of the requester that a response
names. -/
inductive PtpBody where
  | sync (rxTick : Int)
  | followUp (origin : Nat)
  | announce (clock : ClockData) (utcOffset : Option Int)
  | delayReq (rxTick : Int)
  | delayResp (rxTime requester : Nat)
  | pdelayReq (rxTick : Int)
  | pdelayResp (rxTick : Int) (rxTime requester : Nat)
  | pdelayRespFollowUp (txTime requester : Nat)
deriving DecidableEq, Repr, Inhabited

/-! ## HAP -/

/-- The part of a HAP request that every operation has (R372): the port on which it arrives, its source and destination, each an IPv4
address and a UDP port (R370), and its fields. The unit judges its MAC by the octets and the keys it holds (R377). -/
structure HapReq where
  port    : HapPort
  source  : Nat × Nat
  dest    : Nat × Nat
  magic   : Nat
  version : Nat
  /-- LENGTH. -/
  length  : Nat
  session : Nat
  reqSeq  : Nat
  /-- ADDR and COUNT of an operation that has no operand of its own for them. -/
  addr    : Nat
  count   : Nat
  flags   : Nat
  holdId  : Nat
  /-- Its last sixteen octets; empty without a session. -/
  mac     : List Byte
  /-- Requests that the unit has taken from its queue since it last counted them (R371): how fast it serves them is timing. -/
  served  : Nat
  /-- Tick of its start-of-frame delimiter, counted from E+0 µs (R252). -/
  tick    : Int
deriving DecidableEq, Repr, Inhabited

/-- A request to the recovery loader (R446), but for its OP: the port on which it arrives, its source and destination, each an IPv4 address
and a UDP port, its fields in order, its data octets and its CRC. -/
structure RecReq where
  port   : HapPort
  source : Nat × Nat
  dest   : Nat × Nat
  magic  : Nat
  /-- The octet that is zero. -/
  zero   : Nat
  seq    : Nat
  offset : Nat
  length : Nat
  /-- The two octets that are zero. -/
  zero2  : Nat
  data   : List Byte
  crc    : Nat
deriving DecidableEq, Repr, Inhabited

/-- FLAGS of a request (R372). -/
def HapReq.held (r : HapReq) : Bool := r.flags.testBit 0
def HapReq.repeated (r : HapReq) : Bool := r.flags.testBit 1

/-- A point in the life of a command written over HAP: its request reaches the unit (R383, R472, R395), or it takes
effect at E+80 µs after its acceptance (R58, R385). -/
inductive CmdPoint where
  | request (r : HapReq)
  | effect
deriving DecidableEq, Repr, Inhabited

/-! ## Start, key and measurements -/

/-- What LOAD finds at the KEY socket (R100). -/
structure KeyRead where
  /-- A carrier is seated before step 1. -/
  seated : Bool
  /-- The certificate of the secure element, its challenge and the signature over it (R92). -/
  certificate : List Byte
  challenge : List Byte
  signature : List Byte
  /-- The contact shows a removal after step 1 and before step 2 is done (R103). -/
  leftInStep2 : Bool
  /-- Key header and image slot were read without a read error, the key staying seated (step 3). -/
  readOk : Bool
  /-- The octets of the image slot. -/
  octets : List Byte
  /-- The long-term keys of slots 0 to 9 inside the secure element (R91); `none` is unprovisioned. -/
  slots : List (Option (List Byte))
  /-- The secure element answers the derivations of R93 (step 13). -/
  deriveOk : Bool
deriving DecidableEq, Repr, Inhabited

/-- What the mask ROM finds of one bank (R442): its manifest signature and whether its parts match. -/
structure BankCheck where
  signatureOk : Bool
  partsOk : Bool
deriving DecidableEq, Repr, Inhabited

/-- The findings of the start-up test (R70, R420). -/
structure SelfTestFindings where
  /-- Bit k: Skillet k fails, tile-store slices included. -/
  skillets : List Nat
  /-- Failing SRAM slices among 128 to 255. -/
  slices : List Nat
  /-- An I/O path of step 3 fails. -/
  ioFail : Bool
  /-- Safe output channels that fail the off-state test; (channel, fault code of R335). -/
  channels : List (Nat × Nat)
deriving DecidableEq, Repr, Inhabited

/-- Readings the slow processor publishes in the unit-local page at E+400 µs (R404, R265, R349, R419). -/
structure Readings where
  pwrA : Nat
  pwrB : Nat
  bus  : Nat
  power : Nat
  pwrOut : Nat
  tempBase : Q
  tempAsic : Q
  antennaMa : List Nat
  /-- Modulators overloaded, as a mask of inputs (R265). -/
  overloads : Nat
  /-- Requests taken from the queue since it was last counted (R371, R392); largest number of occupied slots and stalled cycles of the epoch (R150). -/
  served : Nat
  peak : Nat
  stalls : Nat
deriving DecidableEq, Repr, Inhabited

/-- An SRAM word found at fault (R30), by the internal offset of R29. -/
structure SramFault where
  offset : Nat
deriving DecidableEq, Repr, Inhabited

/-- Which part of MRAM an uncorrectable error lies in (R31). -/
inductive MramItem where
  | record (index : Nat)
  | panel | counters | tileHealth | lifeCycle
deriving DecidableEq, Repr, Inhabited

/-- A slow instance by its work (R53): the plan, a consequence case, the bundle adjustment. -/
inductive SlowJob where
  | plan | case (c : Nat) | adjustment
deriving DecidableEq, Repr, Inhabited

/-! ## The commands -/

/-- The commands of the block, one for each row of the table of operations and events. -/
inductive Instr where
  -- start and reset
  | resetRelease (cause : Release) (strapHigh : Bool) (crackOpen : Bool)
  | supplyReset (volts : Nat) (closeOutCompletes : Bool)
  | clockMonitorReset
  | clockMonitorRelease (nowMs : Nat) (strapHigh : Bool) (crackOpen : Bool)
  | bootComplete (headerOk : Bool) (bankA bankB : BankCheck)
  | keyReading (k : KeyRead)
  | loadComplete (tongs1 tongs2 stn1 stn2 : Bool)
  | ringLoopTrained
  | ringLoopTimeout
  | selftestComplete (f : SelfTestFindings)
  | unitBRoleWaitExpiry
  -- the epoch
  | inputCutoff (levels : Nat)
  | holdEntry
  | variantChange
  | heartbeatSend (ticks : Nat)
  | updateStatusSend
  | acknowledgementSend
  | inputCommit (late : List SlowJob)
  | fastWork
  | positionGradeRise
  | disputeEnd (heading : Bool)
  | disputeLimit (heading : Bool)
  | timeSuspectExit (source : Nat)
  | deadReckoningLimit
  | headingLost
  | estimatorGateMet
  | skippedUpdateLimit
  | allocationSaturation
  | zeroThrustFallback
  | feedbackTimeout (unit : Nat)
  | feedbackDiscrepancy (unit : Nat)
  | thrustUnitRejoin (unit : Nat)
  | sectionLimitStale (sec : Nat)
  | plantReportStale
  | joystickPanelTimeout (panel : Nat)
  | gnssEngineLost (engine : Side)
  | sltTrip (channel : Nat)
  | stsTrip (channel : Nat)
  | slsTrip
  | slsBlind
  | digestSend
  | fastWorkOverrun
  | emissionDecision
  | arbitrationOutcomeSend (upset : Nat)
  | arbitrationDecision
  | commandFrameEmit (startNs : Nat)
  | safeOutputSwitch
  | canRelease (offsetUs : Nat)
  | canWithdrawal (bus message offsetUs : Nat) (onWire : Bool)
  | slowWorkSlice
  | snapshotPublish (r : Readings)
  | snapshotSkip
  | recorderWrite
  | trivetRecordClose (levels : Nat)
  | antivalenceFault (pair : Nat)
  | antivalenceFaultClear (pair : Nat)
  | outputTestPulse (sw : Switch)
  | offPulseTest
  | pulseSenseCheck (channel : Nat) (level : Bool)
  | senseNodeCheck (h l : Nat)
  | outputOvercurrent (channel : Nat)
  | outputTestOverdue (channel : Nat)
  | pwrOutOutOfRange (volts : Nat)
  | pwrOutRestored (volts : Nat)
  | wirechkTimeout (channel : Nat)
  -- Tongs, ring and field traffic
  | tongsRecordFrameRx (h : TongsHeader) (records : List InRecord)
  | tongsAckRx (h : TongsHeader) (ids : List RecordId)
  | tongsDigestRx (h : TongsHeader) (body : DigestBody)
  | tongsHeartbeatRx (h : TongsHeader) (body : HeartbeatBody) (rxTick : Nat)
  | tongsPageRx (h : TongsHeader) (page : Nat) (content : List Byte)
  | tongsAuditRx (h : TongsHeader) (firstPage : Nat) (digests : List Nat)
  | tongsOutcomeRx (h : TongsHeader) (isMatch : Bool)
  | tongsUpdateStatusRx (h : TongsHeader) (body : UpdateStatusBody)
  | ringCommandFrameRx (rx : RingRx) (f : CommandFrame)
  | ringHeartbeatRx (rx : RingRx) (f : RingHeartbeat)
  | ringFrameForward (f : HsrFrame)
  | feedbackFrameRx (rx : RingRx) (tick : Int) (fb : Feedback)
  | canMessageRx (m : CanRx)
  | serialSentenceRx (s : SentenceRx)
  | sieveSample (w : SieveWindow)
  | gnssSolution (g : GnssSolution)
  | channelReallocation (engine : Side) (antenna0 antenna1 : List Satellite)
  | multipathFit (engine : Side) (antenna : Nat) (signal : Nat)
  | antennaShort (engine : Side) (antenna : Nat) (currentMa : Nat)
  | antennaOpen (engine : Side) (antenna : Nat)
  | antennaSupplyRetry (engine : Side) (antenna : Nat) (stillShort : Bool)
  | ptpMessageRx (port : Side) (ring : Bool) (h : PtpHeader) (body : PtpBody)
  | txStamp (ident : Nat) (tick : Int)
  | txStampExpiry
  -- HAP
  | hapRead (r : HapReq) (addr : Word) (count : Nat)
  | registerWrite (r : HapReq) (addr : Word) (words : List Word)
  | hapOpen (r : HapReq) (slot : Nat) (notify : Bool) (clientNonce serverNonce : List Byte) (newId : Nat)
  | hapClose (r : HapReq)
  | snapHold (r : HapReq)
  | snapRelease (r : HapReq)
  | keepalive (r : HapReq)
  | notifyAck (r : HapReq) (nseq : Nat)
  | notificationResend (slot : Nat)
  | sessionTimeout (slot : Nat)
  | snapshotHoldExpiry
  -- commands written over HAP
  | cmdToStandby (p : CmdPoint)
  | cmdToActive (p : CmdPoint) (func : Nat) (berth : Nat)
  | cmdSelectFunction (p : CmdPoint) (func : Nat) (berth : Nat)
  | cmdToMaintenance (p : CmdPoint)
  | locRestart (p : CmdPoint)
  | locMaint (p : CmdPoint)
  | locDmpRelease (p : CmdPoint)
  | evtAckAll (p : CmdPoint)
  | evtAckEvent (p : CmdPoint) (event : Nat)
  | evtMask (p : CmdPoint) (bank : Nat) (mask : Word)
  | logClear (p : CmdPoint) (unit : Word) (token : List Word)
  | mrtCntClear (p : CmdPoint)
  | ldlCntClear (p : CmdPoint)
  | estRestart (p : CmdPoint)
  | estBaAccept (p : CmdPoint) (slot seq : Nat)
  | estBaReject (p : CmdPoint) (slot seq : Nat)
  | alcUnitEnable (p : CmdPoint) (mask : Word)
  | alcPushForce (p : CmdPoint) (value : Word)
  | alcTest (p : CmdPoint) (unit : Word)
  | alcTestThrust (p : CmdPoint) (value : Word)
  | alcTestAz (p : CmdPoint) (value : Word)
  | mpcTargetWrite (p : CmdPoint) (first : Nat) (values : List Word)
  | mpcTrkCtrl (p : CmdPoint) (count : Word)
  | mpcTrkWaypointWrite (p : CmdPoint) (first : Nat) (values : List Word)
  | wskDisputeSel (p : CmdPoint) (value : Word)
  | wskExclude (p : CmdPoint) (value : Word)
  | gnaSysEnable (p : CmdPoint) (engine : Side) (value : Word)
  | sivSetSelect (p : CmdPoint) (chain : Nat) (value : Word)
  | canRestart (p : CmdPoint) (buses : Word)
  | canWarnWrite (p : CmdPoint) (bus : Nat) (value : Word)
  | tngSwap (p : CmdPoint)
  | trvReset (p : CmdPoint) (mask : Word)
  | trvWirechkOn (p : CmdPoint) (channel : Nat)
  | trvWirechkOff (p : CmdPoint) (channel : Nat)
  | pnlRefresh (p : CmdPoint)
  | lifeCycleTransition (p : CmdPoint) (unit : Word) (token : List Word)
  | ktlManualSkilletTest (p : CmdPoint) (item : Nat)
  | ktlManualSliceMarch (p : CmdPoint) (item : Nat)
  | ktlManualOutputTest (p : CmdPoint) (item : Nat)
  | ktlInjectCorrectable (p : CmdPoint) (item : Nat)
  | ktlInjectUncorrectable (p : CmdPoint) (item : Nat)
  | ktlInjectSkilletFail (p : CmdPoint) (item : Nat)
  | manualActionComplete (pass : Bool)
  | locKtlClear (p : CmdPoint) (value : Word)
  | updOpen (p : CmdPoint)
  | updVerify (p : CmdPoint)
  | updDiscard (p : CmdPoint)
  | stagingEraseComplete
  | stagingVerifyComplete
  | updCommit (p : CmdPoint) (hi lo : Word)
  | bankCopyComplete
  | txqOvfClear (p : CmdPoint)
  | blkSel (r : HapReq) (value : Word)
  | blkAddr (r : HapReq) (value : Word)
  | blkDataRead (r : HapReq) (count : Nat)
  | blkDataWrite (r : HapReq) (words : List Word)
  | recoveryErase (r : RecReq) (busy : Bool)
  | recoveryWrite (r : RecReq)
  | recoveryVerify (r : RecReq)
  | recoveryInstall (r : RecReq)
  -- hardware faults and measurements
  | lockstepMismatch (p : Processor)
  | watchdogExpiry (p : Processor)
  | eccUncorrectable (f : SramFault)
  | eccCorrected (f : SramFault)
  | mramUncorrectable (item : MramItem)
  | fatalDumpComplete (processorState : List Byte)
  | busWarning (volts : Nat)
  | inputAbsent (side : Side)
  | overvoltageDisconnect (side : Side)
  | holdupReady
  | ocxoStable
  | ocxoWarmupOverdue
  | temperatureWarning (base : Int)
  | temperatureLimit (base : Int)
  | keyPresenceChange (seated : Bool) (heldEpochs : Nat)
  | ringLinkDown (port : Side)
  | ringLinkUp (port : Side)
  | ringLinkTrainTimeout (port : Side)
  | ringBroken
  | ringRestored
  | ringFrameErrors
  | tongsLinkDown (port : Side)
  | tongsLinkUp (port : Side)
  | tongsPathLost
  | tongsPathReturn
  | ringPathLost
  | unmirroredStandbyEntry
  | stationLinkDown (port : Side)
  | stationFrameErrors (frames : Nat)
  | epochLockAcquired
  | epochLockLost
  | joinEnd
  | copyEnd
  | settleEnd
  | auditEnd
  | resyncAttemptFailed
  | resyncBackoffEnd
  | canErrorWarning (bus : Nat) (tec rec : Nat)
  | canErrorPassive (bus : Nat) (tec rec : Nat)
  | canBusOff (bus : Nat)
  | canBusRecovery (bus : Nat)
  | serialSourceSilent (source : Nat)
  | serialPortErrors (port : Nat)
  | ppsEdge
  | ppsMessageSend
  | incrementUpdate
  | sourceSelection
  | sourceQualified (src : TimeSource)
  | sourceDisqualified (src : TimeSource)
  | disciplineDisqualify (src : TimeSource)
  | holdoverEntry
  | holdoverEnd
  | slewComplete
  | gnssTimeMeasurement (engine : Side)
  | pairTimeMeasurement
  | panelEvaluation
  | panelRowComplete
  | compensationLineComplete
  | panelTemperatureRead (temp : Int)
  | frameMemoryCrcCheck
  | panelCrack (openEpochs : Nat)
  | kettleOpportunity (chunkCrc : Nat)
  | sramMarchComplete (pass : Bool)
  | skilletTestVerdict (pass : Bool)
  | knownAnswerFailure (skillet : Nat)
  | sliceRetire
  | kettleSliceOverdue
  | optimeSave
  | trivetSample (levels : Nat)
  | testPulseEnd
  | offPulseEnd (reached : Bool)
  | busWarningClear (volts : Nat)
  | inputReturn (side : Side)
  | overvoltageReconnect (side : Side)
  | temperatureFall (base : Int)
  | stationLinkUp (port : Side)
  | svcLinkUp
  | svcLinkDown
  | crackLoopClosed
  -- kind: 0 Sync, 1 Delay_Req, 2 Pdelay_Req (the message types of R253), 4 Follow_Up, 5 Announce, 6 Delay_Resp
  | ptpMessageSend (port : Side) (ring : Bool) (kind : Nat) (seq : Nat)
  | announceReceiptTimeout (port : Side)
  | supervisionFrameSend
  | canTransmitComplete (bus message : Nat)
  | burdenOvercurrent (chain : Nat) (currentUa : Nat)
  | burdenReconnect (chain : Nat)
deriving DecidableEq, Repr

end Sys2Proof
end

