-- ==== Sys2Proof/Decode.lean ====
section
/-! DEFINITION. Words of the command table. The table's rows give no bits (its rows are operations and events, not
encoded instructions), so no word spells a command. -/

namespace Sys2Proof

/-- The command that a word of the table spells: none, since no row of the table gives bits. -/
def decodeTableWord (_nbits _w : Nat) : Option Instr := none

end Sys2Proof
end

