-- ==== Sys2Proof/Schedule.lean ====
section
/-! DEFINITION. Compiled schedules as data (R109 to R119, R125 to R130, R139): what an assembly program reads, the operations of an
instance in retirement order with the format and place of every result, the tag of every variable, and the structure that Berlor's
firmware fixes (R114, R115). -/

namespace Sys2Proof

/-- The format of a value: its number of fraction bits, and signed or not (R8, R116). -/
structure Fmt where
  frac : Nat := 0
  signed : Bool := true
deriving DecidableEq, Repr, Inhabited

/-- Conditions of a comparison (R119). -/
inductive Cmp where
  | less | equal | greater
deriving DecidableEq, Repr, Inhabited

/-- What a tested pivot belongs to (R114, R125): a primal or a dual variable of a KKT system, the joint-space inertia of an azimuth
joint, or a diagonal entry of a triangular or constraint factor. -/
inductive PivotKind where
  | primal | dual | inertia | diagonal
deriving DecidableEq, Repr, Inhabited

/-- What the assembly programs read, by name (R110): the quantities that chapters 7 and 8 lay down, each formed by the rule named.
Where k counts components it runs north, east, heading, surge, sway, yaw rate, environmental north, east and yaw for the nine states
(R152); x, y, yaw elsewhere. -/
inductive AsmName where
  /-- The propagated estimate (R153, R166, R182). -/
  | state (k : Nat)
  /-- Entry i of the propagated square-root information factor, row by row (R153). -/
  | factor (i : Nat)
  /-- Whisk's fused position and heading referred to the cut-off: north, east, heading (R153). -/
  | row (k : Nat)
  /-- Entries of the inverse square root of the rows' covariance: north, north–east, east, heading (R153). -/
  | rowWeight (k : Nat)
  /-- Record of a slot's sensor at sample n as projected with the image geometry: north, east, heading (R160). -/
  | sampleRow (n slot k : Nat)
  /-- The estimate at sample n (R160). -/
  | sampleState (n k : Nat)
  /-- The GNSS baseline heading of engine e at sample n (R161). -/
  | sampleBaseline (n e : Nat)
  /-- Heave, roll and pitch from Whisk, and their rates of roll and pitch (R165). -/
  | attitude (k : Nat)
  /-- Whisk's wind force (R166, R182). -/
  | wind (k : Nat)
  /-- Force of thrust unit j along body x and y and its moment (R166). -/
  | applied (j k : Nat)
  /-- Azimuth joint j: angle, rate, commanded azimuth, slew rate, slew acceleration, stiffness and damping of the tracking (R165). -/
  | joint (j k : Nat)
  /-- Hull: at the present draft mass, and added mass in x, y and yaw (R165, R217); moments of inertia about x, y, z; linear and quadratic
  damping of the six degrees of freedom; restoring in heave, roll and pitch (R165). -/
  | hull (k : Nat)
  /-- Berth contact joint: compression, its rate, normal force, tangential velocity, bearing of the berth's normal, stiffness, damping,
  friction coefficient, contact point x and y (R167, R182). -/
  | contact (k : Nat)
  /-- The demand τ_req (R170 to R172, R175). -/
  | demand (k : Nat)
  /-- ε of a balance row (R175). -/
  | epsilon (k : Nat)
  /-- Thrust unit j: position x and y in body axes (R175). -/
  | lever (j k : Nat)
  /-- Thrust unit j: radius r of the thrust circle, half-plane normal x and y, interval midpoint c and half-width w, rudder bound w_r
  (R174). -/
  | limit (j k : Nat)
  /-- Thrust unit j: p(T_prev), rise and run of the segment of p, u(θ_m) x and y, T_prev, p_idle, q (R174). -/
  | power (j k : Nat)
  /-- Thrust unit j: w_F, w_Δ, F_prev x and y, π_s (R176). -/
  | cost (j k : Nat)
  /-- Bus section s: L_s, non-DP load H_s (R175, R178, R182). -/
  | bus (s k : Nat)
  /-- Stage limits of thrust unit j: T_lim, the changes that Ṫ_up, Ṫ_down and Ṫ allow within a stage, slew within a stage, κ and w_min of a
  rudder (R182). -/
  | stageLimit (j k : Nat)
  /-- Half-plane normal of unit j at stage n, x and y (R182). -/
  | stageNormal (n j k : Nat)
  /-- The target of R171, R191: north, east, heading, and the berth normal where only the component along the plane is held. -/
  | target (k : Nat)
  /-- Joystick surge and sway held over the plan (R171, R172), and the push demand (R183). -/
  | held (k : Nat)
  /-- Room r: S_r at the basis, E_r, floor, reserve, π_r (R178, R182, R183). -/
  | room (r k : Nat)
  /-- Share of room r in section s (R178, R182). -/
  | share (r s : Nat)
  /-- Weights of the plan's errors, terminal errors, changes of force, contact force and reserve (R183). -/
  | planWeight (k : Nat)
deriving DecidableEq, Repr, Inhabited

/-- An exact declared value: an integer over a power of two. -/
structure Fixed where
  value : Int := 0
  frac : Nat := 0
deriving DecidableEq, Repr, Inhabited

/-- A value that an assembly program reads: its code and its fraction bits (R110). Without a code it is absent (R118), or, with `overflowed`, NaN
because what forms it left its format. -/
structure AsmInput where
  code : Q
  frac : Nat
  overflowed : Bool := false
deriving DecidableEq, Repr, Inhabited

/-- What the values of an instance's result are, by name, where a tag does not say it by R139: Nymnil's compile report. -/
inductive OutName where
  /-- The nine states of an update (R152), and entry i of the new factor (R153). -/
  | state (k : Nat)
  | factor (i : Nat)
  /-- Slot's correction Δx, Δy, Δz, Δψ, and its posterior deviation (R159, R161). -/
  | correction (slot k : Nat)
  | deviation (slot k : Nat)
  /-- Hull acceleration, acceleration of azimuth joint j and of the compression (R166). -/
  | hullAccel (k : Nat)
  | jointAccel (j : Nat)
  | contactAccel
  /-- Tangential acceleration a_t and effective mass m_t of the contact point (R167). -/
  | tangentAccel
  | tangentMass
  /-- What 1 kN along the berth plane at the contact point adds to hull acceleration k (R166, R167). -/
  | tangentResponse (k : Nat)
  /-- Vessel state of a stage: north, east, heading, surge, sway, yaw rate; its normal contact force (R182). -/
  | vessel (stage k : Nat)
  | contact (stage : Nat)
deriving DecidableEq, Repr, Inhabited

/-- The operations of R119, with the copy of R130, the diagonal entry of R127, the pivot test of R125 and the pivot reciprocal of R126.
Operands are the sequence numbers of earlier results. -/
inductive SolverOp where
  /-- A parameter, an exact value with `frac` fraction bits, which LOAD converts to the step's format (R118). -/
  | param (value : Int) (frac : Nat)
  /-- A value that the assembly program reads, with the substitution for an absent one (R118). -/
  | read (name : AsmName) (absent : Int)
  /-- The starting value of a variable (R138 to R141). -/
  | start (v : Nat)
  | add (a b : Nat)
  | sub (a b : Nat)
  | neg (a : Nat)
  | absVal (a : Nat)
  | mul (a b : Nat)
  /-- One accumulation with `f` fraction bits: an optional first term, then products, each added or subtracted, in order
  (R120). -/
  | accumulate (f : Nat) (first : Option Nat) (terms : List (Nat × Nat × Bool))
  | recip (a : Nat)
  | div (a b : Nat)
  | sqrt (a : Nat)
  | sin (a : Nat)
  | cos (a : Nat)
  | atan2 (a b : Nat)
  | convert (a : Nat)
  | select (c : Cmp) (a b x y : Nat)
  | minimum (a b : Nat)
  | maximum (a b : Nat)
  /-- A copy from another tile store (R130). -/
  | copy (a : Nat)
  /-- A diagonal entry of the KKT matrix: the retry adds δ to a primal one and subtracts it from a dual one (R127). -/
  | diagonal (a : Nat) (dual : Bool)
  | pivot (a : Nat) (kind : PivotKind)
  | pivotRecip (a : Nat)
deriving DecidableEq, Repr, Inhabited

/-- One operation of a schedule: what it computes, the format of its result, the thrust unit whose block it belongs to
(R115), the iteration and the variable it counts for in an origin report (R128), and the Skillet it is assigned to in each fabric
variant: without Skillet 0 to 7, and the 8-tile one (R130, R144). -/
structure SolverStep where
  op : SolverOp
  fmt : Fmt := {}
  owner : Option Nat := none
  iter : Nat := 0
  var : Nat := 0
  places : List Nat := []
deriving DecidableEq, Repr, Inhabited

/-- A variable of an instance: its tag (R139), its format and its cold default (R140). -/
structure VarDecl where
  tag : Nat
  fmt : Fmt := {}
  cold : Int := 0
deriving DecidableEq, Repr, Inhabited

/-- The schedule of one problem and discrete state other than the unit mask (R112, R114). The regularised retry is the schedule of the
first attempt with δ on its diagonal entries (R127). -/
structure Schedule where
  cls : Nat
  contact : Bool := false
  case : Nat := 0
  vars : List VarDecl := []
  /-- The compiled iteration count, and the 4 further iterations of a cold instance (R141). -/
  steps : List SolverStep := []
  extra : List SolverStep := []
  /-- Sequence numbers of the final iterate, variable by variable, and of its cold form. -/
  result : List Nat := []
  coldResult : List Nat := []
  /-- Convergence: the first value is not above the second (R122); `none` for a direct computation. -/
  conv : Option (Nat × Nat) := none
  coldConv : Option (Nat × Nat) := none
  /-- Ends of the slices of a slow schedule, as numbers of operations from the first, ascending (R134); a schedule without any is one
  slice. -/
  slices : List Nat := []
  /-- Octets of the instance's region, and of its held warm-start source, on Skillets 0 to 7 in the 8-tile variant (R113, R144, R145). -/
  region : List Nat := []
  held : List Nat := []
  /-- Tags of the result's values that R139 does not code (Nymnil's compile report). -/
  report : List (OutName × Nat) := []
  /-- The positions of the instance's matrix in the order of the assembly program (R109): row and column as variables, and the operation
  that fills it. -/
  positions : List (Nat × Nat × Nat) := []
deriving DecidableEq, Repr, Inhabited

/-- The Skillet of a step in a variant. -/
def SolverStep.skillet (variant : Option Nat) (p : SolverStep) : Nat := p.places.getD (variant.getD 8) 0

/-- A schedule has operations on Skillet k (R113, R130). -/
def Schedule.uses (variant : Option Nat) (k : Nat) (p : Schedule) : Bool := (p.steps ++ p.extra).any fun x => x.skillet variant == k

/-- Tag of a reported value. -/
def Schedule.tagOf (n : OutName) (p : Schedule) : Option Nat := (p.report.find? (·.1 == n)).map (·.2)

/-! ## The structure that Nymnil's compile holds to (R114, R115, R125, R130, R173) -/

/-- Operands of an operation. -/
def SolverOp.operands : SolverOp → List Nat
  | .param .. | .read .. | .start .. => []
  | .add a b | .sub a b | .mul a b | .div a b | .atan2 a b | .minimum a b | .maximum a b => [a, b]
  | .neg a | .absVal a | .recip a | .sqrt a | .sin a | .cos a | .convert a | .copy a | .diagonal a _ | .pivot a _ | .pivotRecip a => [a]
  | .accumulate _ first terms => first.toList ++ (terms.map fun t => [t.1, t.2.1]).flatten
  | .select _ a b x y => [a, b, x, y]

/-- Every operand is an earlier result, of the same Skillet unless a copy fetches it (R130). -/
def localOperands (variant : Option Nat) (steps : List SolverStep) : Bool :=
  (List.range steps.length).all fun i => match steps[i]? with
    | some p => p.op.operands.all fun a => decide (a < i) && (match steps[a]?, p.op with
        | some _, .copy _ => true
        | some q, _ => q.skillet variant == p.skillet variant
        | none, _ => false)
    | none => true

/-- The structure of a class's matrix (R114). -/
inductive Pattern where
  | triangular | blockArrow | tree | blockSeparable | blockBanded
deriving DecidableEq, Repr, Inhabited

/-- The factorisation of a class (R114). -/
inductive Factorisation where
  | householder | articulated | ldl | bandedLdl
deriving DecidableEq, Repr, Inhabited

/-- Structure and factorisation of the classes 0 to 5 (R114). -/
def classForm : Nat → Pattern × Factorisation
  | 0 => (.triangular, .householder)
  | 1 => (.blockArrow, .householder)
  | 2 => (.tree, .articulated)
  | 3 => (.blockSeparable, .ldl)
  | _ => (.blockBanded, .bandedLdl)

/-- Fields of a tag (R139). -/
def sharedOf (t : Nat) : Bool := t.testBit 19
def ownerOf (t : Nat) : Nat := t / 2 ^ 20 % 16
def stageOf (t : Nat) : Nat := t / 2 ^ 24
def roleOf (t : Nat) : Nat := t / 2 ^ 14 % 4

/-- Two variables belong to one block, or one of them to the shared block. -/
def sameBlock (a b : Nat) : Bool := sharedOf a || sharedOf b || ownerOf a == ownerOf b

/-- A position whose row and column are variables i and j with these tags lies in a pattern (R114, R115): the triangle's upper half; a
sensor's block and the shared border; the hull and one joint; one unit's block and the shared block; that within a stage, or between
neighbouring stages. The hull of the tree is its shared block. -/
def Pattern.admits (p : Pattern) (i j a b : Nat) : Bool :=
  match p with
  | .triangular => decide (i ≤ j)
  | .blockArrow | .tree | .blockSeparable => sameBlock a b
  | .blockBanded => decide (stageOf a ≤ stageOf b + 1 ∧ stageOf b ≤ stageOf a + 1) && (stageOf a != stageOf b || sameBlock a b)

/-- The pivot by which a factorisation takes a variable (R114, R125): a multiplier is dual, every other variable of a KKT system primal; an
azimuth joint has its inertia, every other variable a diagonal entry. -/
def Factorisation.pivot (f : Factorisation) (tag : Nat) : PivotKind :=
  match f with
  | .householder => .diagonal
  | .articulated => if sharedOf tag then .diagonal else .inertia
  | .ldl | .bandedLdl => if roleOf tag = 2 then .dual else .primal

/-- Some operation of a list tests the pivot of a variable. -/
def testsPivot (v : Nat) (k : PivotKind) (steps : List SolverStep) : Bool :=
  steps.any fun p => p.var == v && (match p.op with
    | .pivot _ k' => k' == k
    | _ => false)

/-- Every pivot that R114 names is tested: of every variable, and in an interior-point class in every iteration. A shared variable of the
tree has a pivot only where the contact joint brings the constraint factor. -/
def pivotsTested (cls : Nat) (contact : Bool) (vars : List VarDecl) (steps : List SolverStep) : Bool :=
  let f := (classForm cls).2
  let rounds : List (List SolverStep) :=
    if cls < 3 then [steps] else ((steps.map (·.iter)).eraseDups).map fun i => steps.filter (·.iter == i)
  (List.range vars.length).all fun v =>
    let tag := (vars[v]?.map (·.tag)).getD 0
    (cls == 2 && sharedOf tag && !contact) || rounds.all fun r => testsPivot v (f.pivot tag) r

/-- The positions are filled in the order listed (R109), each once, within the pattern of the class (R114). -/
def positionsFormed (cls : Nat) (vars : List VarDecl) (l : List (Nat × Nat × Nat)) : Bool :=
  let tag (v : Nat) : Nat := (vars[v]?.map (·.tag)).getD 0
  l.all (fun x => (classForm cls).1.admits x.1 x.2.1 (tag x.1) (tag x.2.1)) &&
    (List.range (l.length - 1)).all (fun k => match l[k]?, l[k + 1]? with
      | some x, some y => decide (x.2.2 < y.2.2)
      | _, _ => true) &&
    (l.map fun x => (x.1, x.2.1)).eraseDups.length == l.length

/-- A unit's block reads nothing of another unit's: all blocks are coupled through the shared block alone (R115). -/
def coupledByShared (steps : List SolverStep) : Bool :=
  steps.all fun p => match p.owner with
    | none => true
    | some j => p.op.operands.all fun a => match steps[a]? with
      | some q => q.owner.isNone || q.owner == some j
      | none => true

/-- Pivots that a class tests (R114, R125). -/
def pivotAllowed (cls : Nat) (k : PivotKind) : Bool :=
  match k with
  | .primal | .dual => decide (3 ≤ cls)
  | .inertia => cls == 2
  | .diagonal => decide (cls < 3)

/-- Primal variables come before dual ones in a list of pivots. -/
def primalFirst : List PivotKind → Bool
  | [] => true
  | .dual :: r => r.all (· != .primal) && primalFirst r
  | _ :: r => primalFirst r

/-- The pivots of a block in elimination order. -/
def blockPivots (owner : Option Nat) (steps : List SolverStep) : List PivotKind :=
  (steps.filter (·.owner == owner)).filterMap fun p => match p.op with
    | .pivot _ k => some k
    | _ => none

/-- After the first pivot of the shared block no pivot of a unit block follows (R115). -/
def unitsFirst : List SolverStep → Bool
  | [] => true
  | p :: r =>
    (match p.op, p.owner with
      | .pivot .., none => r.all fun q => match q.op with
          | .pivot .. => q.owner.isNone
          | _ => true
      | _, _ => true) && unitsFirst r

/-- One iteration of one stage of a KKT factorisation is ordered as R115 lays down: unit blocks before the shared block, and in each
block primal before dual. -/
def ordered (steps : List SolverStep) : Bool :=
  unitsFirst steps && ((none : Option Nat) :: (List.range 16).map some).all fun o => primalFirst (blockPivots o steps)

/-- Variables of a unit's allocation block (R173): azimuth 8, tunnel 6, main propeller with rudder 8. -/
def blockTags : Nat → List Nat
  | 0 => [0x100, 0x200, 0x300, 0x4400, 0x8400, 0x4500, 0x8500, 0x8300]
  | 1 => [0x200, 0x300, 0x4400, 0x8400, 0x4300, 0x8300]
  | _ => [0x100, 0x200, 0x300, 0x4400, 0x8400, 0x4600, 0x8600, 0x8300]

/-- Variables of the shared block (R115, R175): three balance multipliers; a slack and a multiplier for each bus section. -/
def sharedTags (sections : Nat) : List Nat :=
  (List.range 3).map (fun k => 0x88000 + k) ++
    ((List.range sections).map fun i => [0x84300 + (i + 1), 0x88300 + (i + 1)]).flatten

/-- The tags of the allocation instance of units of these kinds (R115, R173, R175): kind codes as in `blockTags`. -/
def allocationTags (kinds : List Nat) (sections : Nat) : List Nat :=
  ((List.range kinds.length).map fun j => (blockTags (kinds.getD j 0)).map (· + j * 2 ^ 20)).flatten ++ sharedTags sections

/-- Stages of a class (R114): 240 of the plan, 60 of a consequence case. -/
def classStages (cls : Nat) : Nat := if cls = 4 then 240 else if cls = 5 then 60 else 1

/-- Stage for which an operation counts: that of its variable's tag. -/
def Schedule.stageAt (p : Schedule) (x : SolverStep) : Nat := stageOf ((p.vars[x.var]?.map (·.tag)).getD 0)

/-- Operation a brings the value of `n` with the sign given, through copies, conversions, sign changes and the regularised diagonal; at most
`fuel` operations deep. -/
def bringsValue (steps : List SolverStep) (n : AsmName) : (fuel : Nat) → (negated : Bool) → (a : Nat) → Bool
  | 0, _, _ => false
  | f + 1, neg, a => match (steps[a]?).map SolverStep.op with
    | some (SolverOp.read m _) => m == n && !neg
    | some (SolverOp.neg b) => bringsValue steps n f (!neg) b
    | some (SolverOp.copy b) | some (SolverOp.convert b) | some (SolverOp.diagonal b _) => bringsValue steps n f neg b
    | _ => false

/-- −ε_k stands on the dual diagonal of every balance row k (R175). -/
def epsilonPlaced (p : Schedule) : Bool :=
  (List.range p.vars.length).all fun v =>
    let t := (p.vars[v]?.map (·.tag)).getD 0
    let k := t % 2 ^ 20 - 0x88000
    !(decide (0x88000 ≤ t % 2 ^ 20) && decide (k < 3)) ||
      p.positions.any fun x => x.1 == v && x.2.1 == v && bringsValue (p.steps ++ p.extra) (.epsilon k) 8 true x.2.2

/-- A schedule as Nymnil compiles it: the stages, positions and pivots of its class (R109, R114, R125), local operands in every variant
(R130), blocks coupled through the shared block alone, the balance rows of R175 and, in every iteration and at every stage, the order of R115. The direct
computations of classes 0 and 2 have no convergence test and no further iterations. -/
def Schedule.formed (p : Schedule) : Bool :=
  let all := p.steps ++ p.extra
  decide (p.cls < 6) && p.vars.all (fun v => decide (stageOf v.tag < classStages p.cls)) &&
    ((p.cls != 0 && p.cls != 2) || (p.conv.isNone && p.coldConv.isNone && p.extra.isEmpty)) &&
    (none :: (List.range 8).map some).all (fun v => localOperands v all) &&
    positionsFormed p.cls p.vars p.positions && pivotsTested p.cls p.contact p.vars all && coupledByShared all &&
    all.all (fun x => match x.op with
      | .pivot _ k => pivotAllowed p.cls k
      | .diagonal .. => decide (3 ≤ p.cls)
      | _ => true) &&
    (decide (p.cls < 3) || epsilonPlaced p && (List.range 256).all fun i => (List.range (classStages p.cls)).all fun n =>
      ordered (all.filter fun x => x.iter == i && p.stageAt x == n))

end Sys2Proof
end

