-- ==== Sys2Proof/Image.lean ====
section
/-! DEFINITION. The configuration image as LOAD sets it up (R94 to R99): what the sections of R95 declare and the rules
read. How a section's octets spell these declarations is Nymnil's and not in the manual, so the decoding is a free
function of Config; this file only says what there is to declare. Every figure the manual gives a default for has
that default as its field's value. -/

namespace Sys2Proof

/-- A vector in a frame: lengths as sQ19.12 codes along x, y, z or along north, east, down (R16 to R18); for mounting angles sQ2.29
codes about x, y, z. -/
structure Vec3 where
  x : Int := 0
  y : Int := 0
  z : Int := 0
deriving DecidableEq, Repr, Inhabited

/-- A sensor frame: lever arm, and mounting angles about x, y and z (R18). -/
structure SensorFrame where
  lever : Vec3 := {}
  mount : Vec3 := {}
deriving DecidableEq, Repr, Inhabited

/-- What the vessel geometry section declares for the wind force (R217): air density, the area of each axis (for the moment an area
times a length), and each axis's 36 coefficients at 10° steps, all with 16 fraction bits. -/
structure WindDecl where
  density : Int := 0
  areas : List Int := [0, 0, 0]
  coefs : List (List Int) := []
deriving DecidableEq, Repr, Inhabited

/-- The kind of a thrust unit (R4, R173). -/
inductive UnitKind where
  | azimuth | tunnel | rudder
deriving DecidableEq, Repr, Inhabited

/-- A declared thrust unit (section 0x0002, R95; R173 to R179, R273, R297). Forces are sQ23.8 codes. -/
structure ThrustUnit where
  kind : UnitKind := .azimuth
  /-- Bus section 1 to 8. -/
  sect : Nat := 1
  rated : Int := 0
  /-- Idle power p_idle, uQ24.8 code. -/
  pIdle : Int := 0
  /-- Declared set-point kinds, KINDS of R273. -/
  kinds : Nat := 0
  /-- Declared idle rpm, sQ15.16 code. -/
  idleRpm : Int := 0
  /-- Source number of its feedback (R280, R293), and the source address of its drive on the ring (R270, R280). -/
  source : Nat := 0
  ringAddr : Nat := 0
  /-- Feedback arrives on CAN (R293), and commands go by CAN (R297): the message released and its phase. -/
  canMessage : Option Nat := none
  phase : Nat := 0
  /-- Tolerance of the thrust comparison, per mille of rated (default 10 %), and of azimuth, sQ2.29 code (default 10°). -/
  thrustTol : Int := 100
  azTol : Int := 93701651
  /-- Position in body axes, sQ19.12 codes (R171, R175). -/
  posX : Int := 0
  posY : Int := 0
  /-- Thrust rates up and down, sQ23.8 codes per second; slew rate, sQ2.29 codes per second (R174, R176). -/
  upRate : Int := 0
  downRate : Int := 0
  slew : Int := 0
  /-- Ṫ of the thrust interval, sQ23.8 code per second (R174); slew acceleration, sQ2.29 codes per second squared (R165). -/
  rate : Int := 0
  slewAccel : Int := 0
  /-- Stiffness and damping of the second-order tracking of the commanded azimuth, in s⁻² and s⁻¹ (R165). -/
  trackStiffness : Fixed := {}
  trackDamping : Fixed := {}
  /-- w_min of the rudder force bound, sQ23.8 code; q, the quadratic fit of the power curve; weights w_F and w_Δ (R174, R176). -/
  rudderMin : Int := 0
  quadratic : Fixed := {}
  wForce : Fixed := {}
  wChange : Fixed := {}
  /-- Minimum thrust, per mille of rated (R176, default 2 %). -/
  minThrust : Int := 20
  /-- Forbidden sectors, each clockwise from the first to the second azimuth, sQ2.29 codes (R174). -/
  sectors : List (Int × Int) := []
  /-- Thrust to pitch (sQ1.30), to rpm (sQ15.16) and to power (uQ24.8): points of rising thrust (R174, R176). -/
  pitchCurve : List (Int × Int) := []
  rpmCurve : List (Int × Int) := []
  powerCurve : List (Int × Int) := []
  /-- Rudder coefficient κ in units of 2⁻¹⁶, and rudder limit, sQ2.29 code (R176). -/
  kappa : Int := 0
  rudderLimit : Int := 0
  /-- Test limit, per mille of rated (default 20 %). -/
  testLimit : Int := 200
  /-- Safely Limited Thrust limit L_SLT (R340). -/
  slt : Option Int := none
  /-- SLT tolerance in epochs (R340, R344). -/
  sltTol : Nat := 40
  /-- Drive-ready pair, if declared (R328, R474). -/
  readyPair : Option Nat := none
  /-- Safe output channel, if mapped (R333). -/
  channel : Option Nat := none
deriving DecidableEq, Repr, Inhabited

/-- What a berth declares for one thrust unit's Safe Thrust Sector (R341). -/
structure BerthSector where
  /-- Permitted azimuth sector, from and to, sQ2.29 codes, clockwise from the first to the second. -/
  lo : Int := 0
  hi : Int := 0
  /-- Permitted sign of a tunnel unit's thrust: positive or not. -/
  positive : Bool := true
deriving DecidableEq, Repr, Inhabited

/-- A declared berth (R167, R188, R339 to R342). -/
structure Berth where
  north : Int := 0
  east : Int := 0
  maxPush : Int := 0
  /-- Bearing of the inward normal of the berth plane, sQ2.29 code (R167, R188). -/
  normal : Int := 0
  /-- Stiffness in kN/m, damping in kN·s/m and friction coefficient of the contact joint, with 16 fraction bits (R167). -/
  stiffness : Int := 0
  damping : Int := 0
  friction : Int := 0
  /-- Compression limit, sQ19.12 code, and minimum contact force, sQ23.8 code. -/
  compLimit : Int := 0
  minContact : Int := 0
  /-- Zone radius, sQ19.12 code (default 200 m). -/
  radius : Int := 819200
  /-- Speed limit, sQ10.21 code (default 1.0 m/s), if declared. -/
  speed : Option Int := some 2097152
  /-- Sectors by thrust unit, if declared. -/
  sectors : List (Option BerthSector) := []
deriving DecidableEq, Repr, Inhabited

/-- A room of the power system (R178, R182, R183): the section that it connects to, its energy in kWh with 8 fraction bits, and
percentages as uQ16.16 codes. -/
structure Room where
  sect : Nat := 1
  energy : Nat := 0
  reserve : Int := 1310720
  floor : Int := 327680
deriving DecidableEq, Repr, Inhabited

/-- A consequence case (R190), with its section factors f_1 to f_8 in uQ1.15. -/
structure CaseDecl where
  kind : Nat := 1
  index : Nat := 0
  mask : Nat := 0
  factors : List Nat := List.replicate 8 32768
deriving DecidableEq, Repr, Inhabited

/-- A sensor's source: latency, sample period in ns, and whether its records carry time tags (R214, R215, R305). -/
structure SourceDecl where
  source : Nat
  latency : Nat := 0
  period : Nat := 0
  tagged : Bool := false
deriving DecidableEq, Repr, Inhabited

/-- The kind of a position reference (R200, R159). -/
inductive RefKind where
  | gnssA | gnssB | absolute | rangeBearing | tautWire
deriving DecidableEq, Repr, Inhabited

/-- A position reference or a heading source (R200 to R204, R213). -/
structure RefDecl where
  kind : RefKind := .absolute
  source : Nat := 0
  group : Nat := 1
  /-- Gate factor k in units of 2⁻¹⁶ (default 3). -/
  gateFactor : Int := 196608
  /-- Gate floor: length or angle code, where declared (default 0.15 m; 0.5° for a heading source). -/
  gateFloor : Option Int := none
  /-- Declared standard deviation, where records report none. -/
  sigma : Option Int := none
  /-- Lever arm and mounting angles; for a GNSS reference the antennas' own lever arms stand in their place (R200, R232). -/
  frame : SensorFrame := {}
  /-- Earth position of the target of a range-and-bearing reference (R200). -/
  target : Vec3 := {}
  /-- Maximum age in ns (default 1 s). -/
  maxAge : Nat := 1000000000
deriving DecidableEq, Repr, Inhabited

/-- A Sieve chain's configuration (R256). -/
structure ChainDecl where
  /-- 0 disabled, 1 filter, 2 single-cycle settling. -/
  mode : Nat := 0
  /-- Output rate in kHz, filter mode. -/
  rate : Nat := 1
  current : Bool := false
  taps : Nat := 15
  /-- Declared coefficient sets, sQ0.31 codes. -/
  sets : List (List Int) := []
  initial : Nat := 0
  fade : Nat := 0
  /-- Record source number of the chain. -/
  source : Nat := 0
deriving DecidableEq, Repr, Inhabited

/-- A CAN identifier: 11 bits, or 29 bits where `extended` (R286). -/
structure CanId where
  number : Nat := 0
  extended : Bool := false
deriving DecidableEq, Repr, Inhabited

/-- A sent CAN message (R288, R296): bus pair 0 to 3, primary bus, single or dual, and what it carries. -/
structure CanMessage where
  primary : Nat := 1
  dual : Bool := false
  /-- Thrust unit commanded; `none` is the DP power message (R299). -/
  unit : Option Nat := none
  /-- Identifiers used by unit A and by unit B. -/
  identA : CanId := {}
  identB : CanId := {}
deriving DecidableEq, Repr, Inhabited

/-- A declared received CAN message (R288, R289): identifier, SECTION or PANEL (0 for neither), bus pair 0 to 3, source
number. -/
structure CanSource where
  ident : CanId
  sub : Nat := 0
  busPair : Nat := 0
  source : Nat := 0
deriving DecidableEq, Repr, Inhabited

/-- A serial source declared on a port (R304, R306). -/
structure SerialDecl where
  source : Nat
  port : Nat := 1
  period : Nat := 1000000000
  hasTime : Bool := false
deriving DecidableEq, Repr, Inhabited

/-- Mapping bits of an event (R355). -/
structure EventMap where
  dp : Bool
  uf : Bool
  notify : Bool
deriving DecidableEq, Repr, Inhabited

/-- A field of the panel (R408): first line group, double height, first column, text of VESSEL. -/
structure PanelField where
  group : Nat
  double : Bool := false
  /-- First pixel column and number of characters. -/
  column : Nat := 0
  width : Nat := 16
deriving DecidableEq, Repr, Inhabited

/-- Observability limits, tolerances and limits of the tuning and limits sections that the rules compare with. -/
structure Tuning where
  /-- Dead-reckoning limit in epochs (R82, default 60 s). -/
  drLimit : Nat := 120000
  /-- Position standard deviation threshold, sQ19.12 (R156, default 0.5 m). -/
  sigmaLimit : Int := 2048
  /-- Heading limit in epochs (R213, default 10 s). -/
  hdgLimit : Nat := 20000
  /-- Dispute limit in epochs (R211, default 30 s). -/
  disputeLimit : Nat := 60000
  /-- Pivot floors of classes 0 to 5, in codes of their pivots (R125); δ of the regularised retry (R127). -/
  floors : List Nat := [1, 1, 1, 1, 1, 1]
  delta : Int := 0
  deltaFrac : Nat := 0
  /-- Maximum age of a measurement in an update, ns (R153, default 200 ms). -/
  maxAge : Nat := 200000000
  /-- The covariance that the image declares for a start, as the entries of its square-root information factor, row by row (R157). -/
  startFactor : List Fixed := []
  /-- Process noise: the weight of the row that a step of propagation stacks for each of the nine states (R153). -/
  processNoise : List Fixed := []
  /-- ε of surge, sway and yaw (R175); w_E and β (R178); S_target in uQ16.16 % (R178, default 50 %). -/
  epsilon : List Fixed := [{}, {}, {}]
  wEnergy : Fixed := {}
  beta : Fixed := {}
  socTarget : Int := 3276800
  /-- Weights of the plan (R183): errors north, east, heading, surge, sway, yaw rate; terminal errors; change of force; contact force;
  shortfall of reserve. -/
  planWeights : List Fixed := []
  /-- Inflation factor of a skipped update, uQ16.16 (R155, default 1.05). -/
  inflation : Nat := 68813
  /-- Observability limits (R161, defaults 0.05 m and 0.1°). -/
  obsLen : Int := 205
  obsAng : Int := 937017
  /-- Saturation tolerances (R177, defaults 5 kN and 100 kN·m). -/
  satX : Int := 1280
  satY : Int := 1280
  satN : Int := 1600
  /-- Target step (R185, defaults 50 m and 30°). -/
  stepLen : Int := 204800
  stepAng : Int := 281104952
  /-- Largest track speed, sQ10.21 (R186). -/
  maxSpeed : Int := 0
  /-- Push rate per epoch in sQ23.8 codes times 1000 (R188, default 20 kN/s: 20 x 256 / 2000 per epoch). -/
  pushRate : Int := 2560
  /-- Gains of R170 by axis, with 16 fraction bits: kN/m, kN/m, kN·m/rad; kN/(m/s), kN/(m/s), kN·m/(rad/s). -/
  kp : List Int := [0, 0, 0]
  kd : List Int := [0, 0, 0]
  /-- Verdict limits (R192, defaults 3.0 m, 3°, 0.9). -/
  cqaPos : Int := 12288
  cqaHdg : Int := 28110495
  cqaUtil : Int := 58982
  /-- Full-scale joystick force and moment (R171): sQ23.8, sQ23.8, sQ27.4. -/
  joyX : Int := 0
  joyY : Int := 0
  joyN : Int := 0
deriving DecidableEq, Repr, Inhabited

/-- Addresses that the networks section declares for one unit (R95): source addresses on the ring and on Tongs, MAC and IPv4
address of STN_1, STN_2 and SVC (R250, R270, R310, R370), as numbers. -/
structure NetDecl where
  ring : Nat := 0
  tongs : Nat := 0
  macs : List Nat := [0, 0, 0]
  ips : List Nat := [0, 0, 0]
deriving DecidableEq, Repr, Inhabited

/-- The image in force (R102). -/
structure Image where
  /-- Header and signature block (R94, R96, R97). -/
  imageId : Nat := 0
  digest : List Byte := []
  formatMajor : Nat := 0
  formatMinor : Nat := 0
  sequence : Nat := 0
  nymnil : Nat := 0
  signer : Nat := 0
  length : Nat := 0
  single : Bool := true
  sections : Nat := 0
  ucodeMin : Nat := 0
  ucodeMax : Nat := 0
  /-- The sections' octets: what the compiled schedules and every other declaration are. -/
  content : List Byte := []
  /-- Section 0x0001 to 0x0003. -/
  units : List ThrustUnit := []
  berths : List Berth := []
  /-- Declared limit of each bus section, uQ24.8 codes. -/
  secLimits : List Int := []
  /-- Ties, by the sections they join. -/
  ties : List (Nat × Nat) := []
  rooms : List Room := []
  /-- Share of each room in each section with every tie closed, by section and room, with 16 fraction bits (R178). -/
  shares : List (List Nat) := []
  /-- Section 0x0004. -/
  sources : List SourceDecl := []
  refs : List RefDecl := []
  /-- Gyrocompasses, heading sources 0 to 2; the GNSS baseline headings of engine A and B, heading sources 3 and 4 (R213). -/
  gyros : List RefDecl := []
  hdgA : Option RefDecl := none
  hdgB : Option RefDecl := none
  /-- Sources of motion reference units, wind sensors, draft inputs. -/
  mrus : List Nat := []
  winds : List Nat := []
  drafts : List Nat := []
  /-- Growth of the inertial velocity's variance in each epoch, in units of 2⁻⁴² (m/s)² (R216). -/
  velGrowth : Int := 0
  /-- Frames of the wind sensors, and the wind force (R217). -/
  windFrames : List SensorFrame := []
  wind : WindDecl := {}
  /-- Lever arms of the antennas on GNSS_1 to GNSS_4; horizontal length and length tolerance (default 0.05 m) of each engine's
  baseline, sQ19.12 codes (R218, R221). -/
  antennas : List Vec3 := []
  /-- Phase-centre offset of each band of the antennas on GNSS_1 to GNSS_4: north, east and down of the antenna reference point, sQ19.12
  codes (R221, log 134). -/
  phaseCentres : List (List Vec3) := []
  baselines : List (Int × Int) := []
  /-- Draft tables of mass, and of added mass in x, y and yaw: points of rising draft (R165, R217). -/
  draftTables : List (List (Int × Int)) := []
  /-- The hull's moments of inertia about x, y and z; its linear and its quadratic damping in the six degrees of freedom; its restoring in
  heave, roll and pitch (R165). -/
  inertia : List Fixed := []
  linearDamping : List Fixed := []
  quadraticDamping : List Fixed := []
  restoring : List Fixed := []
  /-- Contact point at the forward end, body x and y, sQ19.12 codes (R167). -/
  contactX : Int := 0
  contactY : Int := 0
  /-- GNSS: source numbers of engine A and B, output rates, systems enabled. -/
  gnssA : Nat := 0
  gnssB : Nat := 0
  rateA : Nat := 1
  rateB : Nat := 1
  enableA : Nat := 0x1F
  enableB : Nat := 0x1F
  /-- Elevation mask in thousandths of a degree (R221, default 10°). -/
  elevation : Nat := 10000
  /-- Multipath thresholds in thousandths (R225, defaults 0.3 and 0.7). -/
  mpFlag : Nat := 300
  mpExclude : Nat := 700
  /-- SBAS satellites named in the sensors section (R223). -/
  sbasNamed : List Nat := []
  /-- Noise of an inter-system offset in ps/√s (R226, default 1 ns/√s); false-alarm probability in millionths (R228, default 10⁻⁵). -/
  interNoise : Nat := 1000
  falseAlarm : Nat := 10
  /-- PDOP limit, uQ16.16 (R228, default 6.0). -/
  pdop : Int := 393216
  /-- Sections 0x0005 and 0x0006. -/
  tuning : Tuning := {}
  /-- Number of joystick panels. -/
  panels : Nat := 0
  /-- Section 0x0008: addresses of unit A and unit B; VLAN ID and destination addresses of command, feedback and heartbeat frames
  (R270); address and UDP port of the PPS message (R236). -/
  netA : NetDecl := {}
  netB : NetDecl := {}
  vlan : Nat := 0
  ringDst : List Nat := [0x03005C960001, 0x03005C960002, 0x03005C960003]
  ppsAddr : Nat := 0
  ppsPort : Nat := 47561
  /-- Section 0x0007: pair types of R328, discrepancy times in samples of 125 µs, emergency-stop channels of each pair. -/
  pairTypes : List Nat := []
  discrepancy : List Nat := []
  estopMap : List (List Nat) := []
  /-- Tolerances of STS and SLS in epochs (R341, R342), minimum thrust of STS and SLS per mille of rated. -/
  stsTol : Nat := 100
  slsTol : Nat := 200
  stsMin : Int := 50
  slsMin : Int := 50
  /-- Margin by which allocation narrows a Safe Thrust Sector, sQ2.29 code (R174, R341), and margin below the Safely Limited Thrust limit,
  sQ23.8 code (R174). -/
  sectorMargin : Int := 0
  sltMargin : Int := 0
  /-- Channels on the off-pulse test (R336), test interval in hours (R335). -/
  offPulse : List Nat := []
  testInterval : Nat := 168
  /-- Section 0x0008: time. Order of sources (R243), loop time constant in s, slew limit in ppb, holdover and warm-up rates in ns/h, PTP uncertainty in ns. -/
  sourceOrder : List Nat := [1, 2, 3]
  loopTau : Nat := 100
  slewPpb : Nat := 10
  holdRate : Nat := 1500
  warmRate : Nat := 100000
  ptpUncert : Nat := 1000
  ptpDomain : List Nat := [0, 0]
  /-- PTP role of STN_1 and STN_2: 0 disabled, 1 slave only, 2 boundary clock (R250). -/
  ptpRole : List Nat := [0, 0]
  /-- Of STN_1 and STN_2: IEEE 802.3 with EtherType 0x88F7 instead of UDP over IPv4; logSyncInterval −4 to 0; logAnnounceInterval 0 to 3.
  priority1 and priority2 (R250). -/
  ptpLayer2 : List Bool := [false, false]
  ptpLogSync : List Int := [-3, -3]
  ptpLogAnnounce : List Nat := [1, 1]
  ptpPriority1 : Nat := 128
  ptpPriority2 : Nat := 128
  /-- Sieve chains, CAN buses in use, warning thresholds, sent messages, schedule matrix, serial sources. -/
  chains : List ChainDecl := []
  buses : List Nat := []
  warn : List Nat := []
  messages : List CanMessage := []
  /-- Rows 0 to 15: releases (message, offset in µs). -/
  schedule : List (List (Nat × Nat)) := []
  serial : List SerialDecl := []
  /-- Received CAN messages. -/
  canSources : List CanSource := []
  /-- Base pattern digests of classes 0 to 5, 32 octets each (R135). -/
  patterns : List (List Byte) := []
  /-- Compiled schedules (R112, R114). -/
  schedules : List Schedule := []
  /-- Section 0x000C. -/
  cases : List CaseDecl := []
  /-- Section 0x000D. -/
  mapping : List EventMap := []
  /-- Section 0x000E: fields 0 to 7, and the vessel's name. -/
  fields : List (Option PanelField) := []
  vessel : List Byte := []
  /-- Section 0x000F: slots with a roster station. -/
  roster : List Nat := []
  /-- Corrected ECC errors per second above which EV_010 is raised (R350). -/
  eccRate : Nat := 0
deriving DecidableEq, Repr, Inhabited

/-- Heading sources 0 to 4; `none` for one not declared (R213). -/
def Image.hdgs (g : Image) : List (Option RefDecl) := (List.range 3).map (g.gyros[·]?) ++ [g.hdgA, g.hdgB]

end Sys2Proof
end

