-- ==== Sys2Proof/Machine/Mirrored.lean ====
section
/-! DEFINITION. The control state that the two units of a pair hold alike (R313, R314): plain data, one structure for
each block. Every default value is the value after reset. Bracketed at the end of a field's comment: width; section
file and rule; reset value. -/

namespace Sys2Proof.Machine

/-! ## Operator commands -/

/-- An operator command as it stands in the committed set (R58, R383). -/
structure Command where
  /-- Identity of its record (R44). -/
  id    : RecordId := ⟨.a, 0, 0⟩
  /-- Record source: 0xFFE0 to 0xFFE2 (R383). -/
  source : Nat := 0
  /-- Roster slot of the station (R383). -/
  slot : Nat := 0
  /-- First register address written. -/
  addr  : Nat := 0
  /-- The words written, one for each register. -/
  words : List Word := []
  /-- Validation of this unit: `none` before fast work; status 0 accepts; 0x08 and 0x0A refuse (R58, R59, R375). -/
  verdict : Option Nat := none
  /-- DETAIL of a refusal: the index of the first word at fault, or 0xFF (R374). -/
  detail : Nat := 0
  /-- Epoch in which it was committed. -/
  epoch : Nat := 0
deriving DecidableEq, Repr, Inhabited

/-! ## Mode and function (chapter 3) -/

structure ModeState where
  /-- Mode of the pair, MOD_MODE. [8 bits; 03 R62, 19 R401; reset 0] -/
  pairMode : Mode := .boot
  /-- Control function in effect; `none` outside ACTIVE. [4 bits; 03 R80; reset 0] -/
  func : Option Func := none
  /-- Berth named in the BERTH-PUSH selection. [3 bits; 07 R167, 19 R401; reset 0] -/
  berth : Nat := 0
  /-- The last function change was forced: MOD_FUNC FORCED. [1 bit; 19 R400, 03 R81; reset 0] -/
  forced : Bool := false
  /-- MOD_MODE_EPOCH. [48 bits; 19 R400; reset 0] -/
  modeEpoch : Nat := 0
  /-- MOD_FUNC_EPOCH. [48 bits; 19 R400; reset 0] -/
  funcEpoch : Nat := 0
  /-- MAINTENANCE was entered from STANDBY. [1 bit; 03 R62, R88; reset 0] -/
  maintFromStandby : Bool := false
deriving DecidableEq, Repr, Inhabited

/-! ## Mortar and Ladle (chapters 5, 6) -/

/-- Failed instances of one class by kind of first origin (R128). -/
structure FailCount where
  pivot : Nat := 0
  other : Nat := 0
deriving DecidableEq, Repr, Inhabited

/-- An origin of NaN (R123, R128). -/
structure Origin where
  kind : Nat
  iter : Nat
  var  : Nat
deriving DecidableEq, Repr, Inhabited

structure Mortar where
  /-- MRT_STATUS bits 7 to 0 of the epoch. [8 bits; 05 R128; reset 0] -/
  status : Nat := 0
  /-- MRT_LAST_ORIGIN. [32 bits; 05 R128; reset 0] -/
  lastOrigin : Nat := 0
  /-- MRT_LAST_ORIGIN_EPOCH. [32 bits; 05 R128; reset 0] -/
  lastEpoch : Nat := 0
  /-- MRT_LAST_ORIGIN_VAR. [16 bits; 05 R128; reset 0] -/
  lastVar : Nat := 0
  /-- MRT_FAIL_EST to MRT_FAIL_CQA, by class code. [6 x 2 x 16 bits; 05 R128; reset 0] -/
  fails : List FailCount := List.replicate 6 {}
  /-- MRT_UNIT_MASK. [16 bits; 05 R128; reset 0] -/
  unitMask : Nat := 0
deriving DecidableEq, Repr, Inhabited

/-- A warm-start source: the final iterate of a successful instance, variable by variable (R137, R139). -/
structure WarmSource where
  ident  : Nat
  /-- Basis epoch of the instance. -/
  basis  : Nat
  /-- (tag, value code), in the order of the instance. -/
  values : List (Nat × Int)
deriving DecidableEq, Repr, Inhabited

/-- A warm-start register (R149): MODE, CAUSE, MATCHED, TOTAL. -/
structure WarmReg where
  mode    : Nat := 0
  cause   : Nat := 0
  matched : Nat := 0
  total   : Nat := 0
deriving DecidableEq, Repr, Inhabited

/-- What an instance gave (R122 to R124, R137 to R141). -/
structure Solved where
  /-- First origin in retirement order. -/
  origin : Option Origin
  /-- Ladle's marks: ill-posed, overflow. -/
  illPosed : Bool
  overflow : Bool
  converged : Bool
  warm : WarmReg
  iterate : WarmSource
deriving DecidableEq, Repr, Inhabited

structure Ladle where
  /-- LDL_ALC_IDENT. [64 bits; 06 R149; reset 0] -/
  alcIdent : Nat := 0
  /-- LDL_ALC_WARM. [32 bits; 06 R149; reset 0] -/
  alcWarm : WarmReg := {}
  /-- LDL_MPC_WARM. [32 bits; 06 R149; reset 0] -/
  mpcWarm : WarmReg := {}
  /-- LDL_CQA_WARM. [32 bits; 06 R149; reset 0] -/
  cqaWarm : WarmReg := {}
  /-- LDL_BA_WARM. [32 bits; 06 R149; reset 0] -/
  baWarm : WarmReg := {}
  /-- LDL_FALLBACK ABM_HELD. [8 bits; 06 R149; reset 0] -/
  abmHeld : Nat := 0
  /-- LDL_FALLBACK EST_SKIP. [8 bits; 06 R149; reset 0] -/
  estSkip : Nat := 0
  /-- LDL_FALLBACK MPC_KEPT. [8 bits; 06 R149; reset 0] -/
  mpcKept : Nat := 0
  /-- LDL_FALLBACK BA_KEPT. [1 bit; 06 R149; reset 0] -/
  baKept : Bool := false
  /-- LDL_FALLBACK ALC_ZERO. [1 bit; 06 R143, R149; reset 0] -/
  alcZero : Bool := false
  /-- LDL_FALLBACK ALC_HOLD. [3 bits; 06 R149; reset 0] -/
  alcHold : Nat := 0
  /-- LDL_COLD_CNT: ALC, MPC, CQA, BA. [4 x 8 bits; 06 R149; reset 0] -/
  coldAlc : Nat := 0
  coldMpc : Nat := 0
  coldCqa : Nat := 0
  coldBa  : Nat := 0
  /-- Warm-start source of thrust allocation. [data; 06 R137; reset none] -/
  alcSource : Option WarmSource := none
  /-- Warm-start source of the predictive plan. [data; 06 R137; reset none] -/
  mpcSource : Option WarmSource := none
  /-- Warm-start source of bundle adjustment. [data; 06 R137; reset none] -/
  baSource : Option WarmSource := none
  /-- Warm-start source of each consequence case. [64 x data; 06 R137; reset none] -/
  cqaSource : List (Option WarmSource) := List.replicate 64 none
deriving DecidableEq, Repr, Inhabited

/-! ## Estimation and vessel model (chapter 7) -/

/-- The nine estimator states (R152) and their deviations. -/
structure Estimate where
  north : Q := none
  east  : Q := none
  hdg   : Q := none
  u     : Q := none
  v     : Q := none
  r     : Q := none
  envN  : Q := none
  envE  : Q := none
  envYaw : Q := none
  sigPos : Q := none
  sigHdg : Q := none
deriving DecidableEq, Repr, Inhabited

structure Estimator where
  /-- The estimate in use (R154), EST_POS_N to EST_SIGMA_HDG once `shown`. [11 x 32 bits; 07 R152, R169; reset NaN] -/
  est : Estimate := {}
  /-- Square-root information factor of the last update, as the solver holds it. [data; 07 R153; reset empty] -/
  factor : List AsmInput := []
  /-- The estimator has started (first row of R157). [1 bit; 07 R157; reset 0] -/
  started : Bool := false
  /-- A successful update has been made since the first start: the state registers show it. [1 bit; 07 R169; reset 0] -/
  shown : Bool := false
  /-- A successful update has been made since the latest start or restart. [1 bit; 07 R157, 09 R203; reset 0] -/
  updatedSince : Bool := false
  /-- The estimate and factor that the articulated-body step has propagated to the next cut-off. [data; 07 R154; reset none] -/
  next : Option (Estimate × List AsmInput) := none
  /-- EST_STATUS CAUSE. [2 bits; 07 R157; reset 0] -/
  cause : Nat := 0
  /-- A restart for skipped updates waits for its basis epoch; RESTART_PENDING shows it while it is deferred. [1 bit; 07 R157, R158; reset 0] -/
  restartPending : Bool := false
  /-- An EST_RESTART command has taken effect and waits for its basis epoch. [1 bit; 07 R157; reset 0] -/
  restartCommanded : Bool := false
  /-- Consecutive skipped updates. [count; 07 R157, R158; reset 0] -/
  skipRun : Nat := 0
  /-- EST_STATUS SKIPPED, UPDATED, COV_OK of the epoch. [3 bits; 07 R169; reset 0] -/
  skipped : Bool := false
  updated : Bool := false
  covOk   : Bool := false
  /-- EST_STATUS GATE. [1 bit; 03 R74, 07 R169; reset 0] -/
  gate : Bool := false
  /-- EST_GATE RUN: consecutive epochs at position grade 2 or 3. [count; 03 R74, 07 R169; reset 0] -/
  gateRun : Nat := 0
  /-- EST_TOV. [64 bits; 07 R169; reset 0] -/
  tov : Nat := 0
  /-- EST_STATUS HOLDOVER. [1 bit; 07 R169; reset 0] -/
  holdover : Bool := false
  /-- EST_UPDATE_EPOCH. [48 bits; 07 R169; reset 0] -/
  updateEpoch : Nat := 0
deriving DecidableEq, Repr, Inhabited

/-- Components of a bundle-adjustment slot: Δx, Δy, Δz, Δψ (R159). -/
structure Correction where
  dx : Q := some 0
  dy : Q := some 0
  dz : Q := some 0
  dpsi : Q := some 0
deriving DecidableEq, Repr, Inhabited

structure BaSlot where
  /-- STATE field: 0 not estimated, 1 APPLIED, 2 PENDING, 3 OUT_OF_RANGE, 4 NOT_OBSERVED. [3 bits; 07 R162, R169; reset 0] -/
  state : Nat := 0
  /-- ACCEPTED. [1 bit; 07 R163; reset 0] -/
  accepted : Bool := false
  /-- Pending sequence number. [8 bits; 07 R162; reset 0] -/
  seq : Nat := 0
  /-- Correction in force. [4 x 32 bits; 07 R162, R164; reset 0] -/
  inForce : Correction := {}
  /-- Baseline. [4 x 32 bits; 07 R162; reset 0] -/
  baseline : Correction := {}
  /-- Pending values. [4 x 32 bits; 07 R162; reset NaN] -/
  pending : Correction := ⟨none, none, none, none⟩
deriving DecidableEq, Repr, Inhabited

/-- A committed record as it enters a sample (R160): slot (11 and 12 for the baseline headings of engine A and B), antenna, measurement
instant, and its position as projected with the image geometry, or its heading in `north`. -/
structure SampleRow where
  slot : Nat
  antenna : Nat
  instant : Int
  north : Q
  east : Q
deriving DecidableEq, Repr, Inhabited

/-- A bundle-adjustment sample of R160: its epoch and cut-off, the estimate as prior, and the row nearest it of each sensor, within
50 ms. -/
structure BaSample where
  epoch : Nat
  cutoff : Int
  prior : Estimate
  rows : List SampleRow
deriving DecidableEq, Repr, Inhabited

/-- What the bundle-adjustment instance gives for one slot (R161). -/
structure BaSlotResult where
  value : Correction
  /-- Posterior standard deviations. -/
  sigma : Correction
deriving DecidableEq, Repr, Inhabited

structure Bundle where
  /-- The eleven slots. [11; 07 R159; reset as BaSlot] -/
  slots : List BaSlot := List.replicate 11 {}
  /-- EST_BA_EPOCH. [48 bits; 07 R169; reset 0] -/
  epoch : Nat := 0
  /-- Epochs for which the window has held data. [count; 03 R76, 07 R161; reset 0] -/
  windowRun : Nat := 0
  /-- The samples of the window, oldest first. [at most 1200; 07 R160; reset empty] -/
  samples : List BaSample := []
  /-- Rows kept near the next sample (within 50 ms of it). [data; 07 R160; reset empty] -/
  recent : List SampleRow := []
deriving DecidableEq, Repr, Inhabited

/-- Accelerations that an articulated-body step gives (R166): hull surge and sway in sQ10.21, yaw in sQ5.26; each azimuth joint in
sQ5.26; the compression in sQ10.21. -/
structure Accels where
  hull : List Q := [some 0, some 0, some 0]
  joints : List Q := List.replicate 16 (some 0)
  contact : Q := some 0
deriving DecidableEq, Repr, Inhabited

structure Model where
  /-- Accelerations of the last successful step. [20 x 32 bits; 06 R142, 07 R166; DESIGN CHOICE 0 (log 1)] -/
  accel : Accels := {}
  /-- Modelled azimuths, EST_POD_AZ_j, and slew rates of the azimuth joints, sQ5.26. [16 x 32 bits, 16 x 32 bits; 07 R165, R169; reset NaN, 0] -/
  az : List Q := List.replicate 16 none
  azRate : List Q := List.replicate 16 (some 0)
  /-- A step has succeeded. [1 bit; 07 R169; reset 0] -/
  stepped : Bool := false
  /-- EST_ABM_STATUS CONTACT: the berth contact joint is engaged. [1 bit; 07 R167; reset 0] -/
  contact : Bool := false
  /-- BERTH of the engaged joint. [3 bits; 07 R169; reset 0] -/
  berth : Nat := 0
  /-- SLIP. [1 bit; 07 R167; reset 0] -/
  slip : Bool := false
  /-- COMP_LIMIT. [1 bit; 07 R168; reset 0] -/
  compLimit : Bool := false
  /-- HELD. [1 bit; 07 R168; reset 0] -/
  held : Bool := false
  /-- EST_CONTACT_FN, FT, D. [3 x 32 bits; 07 R169; reset NaN] -/
  fn : Q := none
  ft : Q := none
  d  : Q := none
  /-- Compression and its rate at the next cut-off, sQ19.12 and sQ10.21 codes. [2 x 32 bits; 07 R167, R168; reset NaN] -/
  dNext : Q := none
  dRate : Q := none
deriving DecidableEq, Repr, Inhabited

/-! ## Allocation, plan, consequence analysis (chapter 8) -/

/-- What the command frame carries for one thrust unit is a `SetPoint` of Syntax. -/
structure UnitState where
  /-- Removal causes present in the epoch, codes 1 to 5. [5 bits; 08 R179; reset none] -/
  present : List Nat := []
  /-- The unit is excluded from the mask. [1 bit; 08 R179; reset 0] -/
  excluded : Bool := false
  /-- Cause 0x3 is latched until ALC_UNIT_ENABLE. [1 bit; 08 R179, R180; reset 0] -/
  discrepancy : Bool := false
  /-- CLEAR: consecutive epochs without a cause while excluded. [8 bits; 08 R180; reset 0] -/
  clear : Nat := 0
  /-- CAUSE: the lowest cause of the latest epoch in which one was present, while excluded. [4 bits; 08 R179, R194; reset 0] -/
  cause : Nat := 0
  /-- Set-point that the last successful allocation formed for the unit. [data; 06 R142; reset none] -/
  allocated : Option SetPoint := none
  /-- Consecutive epochs without committed valid feedback (cause 0x2). [count; 08 R179; reset 0] -/
  fbMissing : Nat := 0
  /-- Run of discrepant epochs with valid feedback (cause 0x3). [count; 08 R179; reset 0] -/
  discRun : Nat := 0
  /-- ALC_U_j_FX, FY, P. [3 x 32 bits; 08 R194; reset 0] -/
  fx : Q := some 0
  fy : Q := some 0
  p  : Q := some 0
  /-- SECTOR, LIMIT. [2 bits; 08 R194; reset 0] -/
  sector : Bool := false
  limit  : Bool := false
  /-- Set-point formed for the last epoch, every kind filled; its record masks the kinds not declared. [data; 08 R174, 13 R273; reset zero] -/
  prev : SetPoint := ⟨false, false, false, false, false, 0, 0, some 0, some 0, some 0, some 0, some 0⟩
  /-- Most recent committed valid feedback. [data; 13 R279, R280; reset none] -/
  feedback : Option Feedback := none
  /-- Its time of validity. [64 bits; 13 R280; reset 0] -/
  feedbackTov : Nat := 0
  /-- Valid feedback has been committed since the entry to STANDBY. [1 bit; 13 R274; reset 0] -/
  fbSince : Bool := false
deriving DecidableEq, Repr, Inhabited

structure SectionState where
  /-- LOST. [1 bit; 08 R178, R194; reset 0] -/
  lost : Bool := false
  /-- FLOOR. [1 bit; 08 R178; reset 0] -/
  floor : Bool := false
  /-- AGE: epochs since the last committed limit report; holds at 0xFFFF. [16 bits; 08 R194; reset 0 (register), counts from STANDBY] -/
  age : Nat := 0
  /-- Reported limit and non-DP load. [2 x 32 bits; 08 R178, 14 R290; reset none] -/
  reported : Option Q := none
  nonDp : Q := some 0
  /-- ALC_SEC_s_LIMIT, POWER. [2 x 32 bits; 08 R194; reset 0] -/
  limit : Q := some 0
  power : Q := some 0
  /-- SEQ of the last report from this section's source, for R289. [32 bits; 14 R289; reset none] -/
  seq : Option Nat := none
deriving DecidableEq, Repr, Inhabited

structure Allocation where
  /-- The demand X, Y, N. [3 x 32 bits; 08 R170, R194; reset 0] -/
  demandX : Q := some 0
  demandY : Q := some 0
  demandN : Q := some 0
  /-- The residual. [3 x 32 bits; 08 R175, R194; reset 0] -/
  residX : Q := some 0
  residY : Q := some 0
  residN : Q := some 0
  /-- Runs of epochs with a residual beyond tolerance, by axis. [3 counts; 08 R177; reset 0] -/
  satRun : List Nat := [0, 0, 0]
  /-- The thrust units. [16; 08 R194; reset as UnitState] -/
  units : List UnitState := List.replicate 16 {}
  /-- The bus sections 1 to 8. [8; 08 R194; reset as SectionState] -/
  sections : List SectionState := List.replicate 8 {}
  /-- The first allocation since the entry to STANDBY has been assembled. [1 bit; 08 R179; reset 0] -/
  begun : Bool := false
  /-- ALC_PUSH_FORCE. [32 bits; 08 R194; reset 0] -/
  pushForce : Word := 0
  /-- ALC_TEST. [32 bits; 08 R194; reset 0] -/
  test : Word := 0
  /-- ALC_TEST_THRUST. [32 bits; 08 R194; reset 0] -/
  testThrust : Word := 0
  /-- ALC_TEST_AZ. [32 bits; 08 R194; reset 0] -/
  testAz : Word := 0
  /-- Push demand in effect. [32 bits; 08 R188; reset 0] -/
  push : Int := 0
  /-- An allocation has succeeded since the start of the estimator or of ACTIVE. [1 bit; 06 R143; reset 0] -/
  everSolved : Bool := false
  /-- A forced end of THRUSTER-TEST brings every set-point of this epoch to zero. [1 bit; 03 R81; reset 0] -/
  zeroDue : Bool := false
  /-- The allocation instance of the epoch was run. [1 bit; 08 R189; reset 0] -/
  ran : Bool := false
deriving DecidableEq, Repr, Inhabited

/-- One stage of a plan: thrust, reference position, heading, velocities (R170, R181). -/
structure PlanStage where
  tauX : Q := some 0
  tauY : Q := some 0
  tauN : Q := some 0
  north : Q := none
  east : Q := none
  hdg : Q := none
  u : Q := some 0
  v : Q := some 0
  r : Q := some 0
  /-- Azimuth of each thrust unit's force (R182). -/
  az : List Q := []
deriving DecidableEq, Repr, Inhabited

/-- A committed plan (R181 to R183). -/
structure Plan where
  basis : Nat
  stages : List PlanStage
  /-- Wind force that the plan assumed: x, y, n. -/
  wind : List Q
  /-- Lowest forecast state of charge of each room. -/
  socMin : List Q
  /-- Rooms forecast below their reserve, bit r. -/
  socLow : Nat
deriving DecidableEq, Repr, Inhabited

structure Waypoint where
  north : Word := 0
  east : Word := 0
  hdg : Word := 0
  spd : Word := 0
deriving DecidableEq, Repr, Inhabited

structure PlanState where
  /-- The plan in force. [data; 08 R181; reset none] -/
  plan : Option Plan := none
  /-- MPC_STATUS KEPT. [1 bit; 06 R142; reset 0] -/
  kept : Bool := false
  /-- The last committed plan forecast some room below its reserve (EV_111 run). [1 bit; 08 R183; reset 0] -/
  lowRun : Bool := false
  /-- MPC_TARGET_N, E, HDG. [3 x 32 bits; 08 R195; reset 0] -/
  targetN : Word := 0
  targetE : Word := 0
  targetHdg : Word := 0
  /-- Waypoint registers. [32 x 4 x 32 bits; 08 R195; reset 0] -/
  waypoints : List Waypoint := List.replicate 32 {}
  /-- MPC_TRK_STATE ACCEPTED, COUNT, LEG. [1, 6, 6 bits; 08 R195; reset 0] -/
  accepted : Bool := false
  count : Nat := 0
  leg : Nat := 0
  /-- Moving target of AUTO-TRACK: north, east, heading. [data; 08 R187; reset 0] -/
  trackN : Int := 0
  trackE : Int := 0
  trackHdg : Int := 0
  /-- Epochs for which the target has moved along its leg. [count; 08 R187; reset 0] -/
  legEpochs : Nat := 0
  /-- The targets take Whisk's fused position and heading in this epoch's fast work. [1 bit; 08 R185; reset 0] -/
  captureDue : Bool := false
  /-- Reported state of charge of each room. [8 x 32 bits; 08 R195; reset NaN] -/
  soc : List Q := List.replicate 8 none
deriving DecidableEq, Repr, Inhabited

/-- Result of one consequence case (R191). -/
structure CaseResult where
  converged : Bool
  distance : Q
  hdgError : Q
  util : Q
  socMin : List Q
  contactMin : Q
deriving DecidableEq, Repr, Inhabited

structure CaseState where
  /-- Verdict: 0 NOT_COMPUTED, 1 HELD, 2 MARGINAL, 3 NOT_HELD. [2 bits; 08 R192; reset 0] -/
  verdict : Nat := 0
  /-- A result has been committed. [1 bit; 08 R196; reset 0] -/
  committed : Bool := false
  converged : Bool := false
  /-- SOC_MIN in per cent, CAUSE bits. [8, 5 bits; 08 R196; reset 0] -/
  socMin : Nat := 0
  cause : Nat := 0
  /-- EXC_POS, EXC_HDG, UTIL. [3 x 32 bits; 08 R196; reset NaN] -/
  excPos : Q := none
  excHdg : Q := none
  util : Q := none
  /-- The case has committed a computed verdict in the first sweep. [1 bit; 03 R77; reset 0] -/
  swept : Bool := false
deriving DecidableEq, Repr, Inhabited

structure Consequence where
  /-- CLASS: 1 GREEN, 2 AMBER, 3 RED. [2 bits; 08 R193; reset 2] -/
  cls : Nat := 2
  /-- The first full sweep has begun. [1 bit; 03 R77; reset 0] -/
  begun : Bool := false
  /-- SWEEP: it is complete. [1 bit; 03 R77; reset 0] -/
  sweep : Bool := false
  /-- The cases. [64; 08 R196; reset as CaseState] -/
  cases : List CaseState := List.replicate 64 {}
deriving DecidableEq, Repr, Inhabited

/-! ## Whisk (chapter 9) -/

/-- One source of position or heading, as fusion holds it. -/
structure SourceState where
  /-- USE of R220. [3 bits; 09 R220; reset 0] -/
  use : Nat := 0
  /-- Time-suspect. [1 bit; 09 R215; reset 0] -/
  suspect : Bool := false
  /-- Epochs of the run out of the suspect state. [count; 09 R215; reset 0] -/
  agreeRun : Nat := 0
  /-- Epochs since the source's last committed record. [count; 09 R215; reset 0] -/
  sinceRecord : Nat := 0
  /-- The run out of the suspect state has begun. [1 bit; 09 R215; reset 0] -/
  running : Bool := false
  /-- The record that the source uses: its most recent one that is not absent. [data; 09 R202; reset none] -/
  record : Option InRecord := none
  /-- Its valid records within the maximum age, newest first. [list; 09 R202; reset empty] -/
  past : List InRecord := []
  /-- Measurement instant of the record in use. [64 bits; 09 R214; reset 0] -/
  instant : Int := 0
  /-- Projected position north, east, or heading in `north`. [2 x 32 bits; 09 R220; reset 0] -/
  north : Q := some 0
  east  : Q := some 0
  /-- Gate. [32 bits; 09 R203; reset 0] -/
  gate : Q := some 0
  /-- Drift. [32 bits; 09 R214; reset 0] -/
  drift : Q := some 0
  /-- Age at the cut-off. [32 bits; 09 R220; reset 0] -/
  age : Q := some 0
  /-- Consecutive epochs of absence. [count; 17 R350 EV_064; reset 0] -/
  absentFor : Nat := 0
  /-- Out of the used set in the last epoch (EV_082 run). [1 bit; 09 R205; reset 0] -/
  outRun : Bool := false
  /-- Heading and deviation of a heading source's latest record, as measured. [2 x data; 09 R213; reset none] -/
  value : Q := none
  sigma : Q := none
deriving DecidableEq, Repr, Inhabited

/-- State of the voting of one axis, position or heading (R205 to R213). -/
structure AxisState where
  /-- Reported and raw grade. [2 x 2 bits; 09 R207, R208; reset 0] -/
  grade : Nat := 0
  raw : Nat := 0
  /-- Consecutive epochs with the raw grade above the reported one. [count; 09 R208; reset 0] -/
  riseRun : Nat := 0
  /-- Dispute: 0 none, 1 resolved by prediction, 2 unresolved, 3 operator choice. [2 bits; 09 R209; reset 0] -/
  dispute : Nat := 0
  /-- The two disputed sources. [2 numbers; 09 R209; reset none] -/
  pair : Option (Nat × Nat) := none
  /-- Operator choice in force. [number; 09 R210; reset none] -/
  choice : Option Nat := none
  /-- Run of epochs in which the disputed sources agreed. [count; 09 R212; reset 0] -/
  agreeRun : Nat := 0
  /-- Runs of epochs in which the first and the second disputed source were absent. [2 counts; 09 R212; reset 0] -/
  absentRunA : Nat := 0
  absentRunB : Nat := 0
  /-- A third source is available while the dispute lasts. [1 bit; 09 R212; reset 0] -/
  third : Bool := false
  /-- Consecutive epochs the dispute has been unresolved. [count; 09 R211; reset 0] -/
  unresolvedRun : Nat := 0
  /-- Epochs at grade 0 (WSK_DR_EPOCHS, WSK_HDG_DR_EPOCHS). [32 bits; 09 R208, R213; reset 0] -/
  zeroRun : Nat := 0
  /-- The limit of grade 0 (dead-reckoning limit, heading limit) has been declared reached. [1 bit; 03 R82, 09 R213; reset 0] -/
  lost : Bool := false
  /-- The dispute limit has been declared reached. [1 bit; 09 R211; reset 0] -/
  limitHit : Bool := false
  /-- Members of the used set. [list; 09 R205; reset empty] -/
  used : List Nat := []
  /-- Newest measurement instant used in any epoch. [64 bits; 09 R219; reset none] -/
  newest : Option Int := none
deriving DecidableEq, Repr, Inhabited

/-- Last valid record of a motion reference unit, wind sensor or draft input, and its time-suspect state. -/
structure AuxSource where
  suspect : Bool := false
  agreeRun : Nat := 0
  sinceRecord : Nat := 0
  running : Bool := false
  record : Option InRecord := none
  instant : Int := 0
deriving DecidableEq, Repr, Inhabited

/-- Fused motion of an epoch (R198): roll, pitch, heave, three rates, three accelerations. -/
structure Motion where
  roll : Q := some 0
  pitch : Q := some 0
  heave : Q := some 0
  p : Q := some 0
  q : Q := some 0
  r : Q := some 0
  ax : Q := some 0
  ay : Q := some 0
  az : Q := some 0
deriving DecidableEq, Repr, Inhabited

structure Whisk where
  /-- Position references 0 to 7. [8; 09 R220; reset as SourceState] -/
  refs : List SourceState := List.replicate 8 {}
  /-- Heading sources 0 to 4. [5; 09 R213, R220; reset as SourceState] -/
  hdgs : List SourceState := List.replicate 5 {}
  /-- Motion reference units, wind sensors, draft inputs. [3, 4, 2; 09 R198, R217; reset none] -/
  mrus : List AuxSource := List.replicate 3 {}
  winds : List AuxSource := List.replicate 4 {}
  drafts : List AuxSource := List.replicate 2 {}
  /-- Time acceptance of the feedback source of each thrust unit. [16; 09 R214, 13 R280; reset none] -/
  feeds : List AuxSource := List.replicate 16 {}
  pos : AxisState := {}
  hdg : AxisState := {}
  /-- Inertial data valid. [1 bit; 09 R199; reset 0] -/
  inertial : Bool := false
  /-- A valid fused yaw rate exists. [1 bit; 09 R213; reset 0] -/
  yawValid : Bool := false
  /-- Fused motion. [9 x 32 bits; 09 R198; reset 0] -/
  motion : Motion := {}
  /-- Past fused attitude samples: (instant, roll, pitch), newest first. [list; 09 R201; reset empty] -/
  attitudes : List (Int × Q × Q) := []
  /-- Anchors of taut wires, by reference. [8; 09 R200; reset none] -/
  anchors : List (Option Vec3) := List.replicate 8 none
  /-- Those anchors as the image geometry gives them, by which bundle adjustment projects. [8; 07 R160, 09 R200; reset none] -/
  anchorsImage : List (Option Vec3) := List.replicate 8 none
  /-- WSK_POS_N, POS_E, HDG. [3 x 32 bits; 09 R220; reset 0] -/
  north : Q := some 0
  east : Q := some 0
  heading : Q := some 0
  /-- Covariance of the fused position (north, north-east, east, in 2⁻²⁴ m²) and deviation of the heading. [3 x data, 32 bits; 09 R206, R213; reset none] -/
  sigPos : List Q := []
  sigHdg : Q := none
  /-- Fused positions of the last 200 epochs, newest first. [at most 200; 09 R216; reset empty] -/
  history : List (Q × Q) := []
  /-- WSK_VEL_U, VEL_V. [2 x 32 bits; 09 R216; reset 0] -/
  velU : Q := some 0
  velV : Q := some 0
  /-- Variance of the fused velocity in 2⁻⁴² (m/s)². [data; 09 R216; DESIGN CHOICE none known (log 1)] -/
  velVar : Q := none
  /-- Epochs for which the velocity has been held. [count; 09 R216, R219; reset 0] -/
  velHeld : Nat := 0
  /-- Wind force and validity. [3 x 32, 1 bits; 09 R217; reset 0] -/
  windX : Q := some 0
  windY : Q := some 0
  windN : Q := some 0
  windValid : Bool := false
  /-- WSK_DRAFT. [32 bits; 09 R217; reset 0] -/
  draft : Q := some 0
  /-- Ages. [2 x 32 bits; 09 R219; reset 0] -/
  agePos : Q := some 0
  ageHdg : Q := some 0
  /-- WSK_TOV, HOLDOVER. [64, 1 bits; 09 R219; reset 0] -/
  tov : Nat := 0
  holdover : Bool := false
  /-- WSK_EXCLUDE. [32 bits; 09 R220; reset 0] -/
  exclude : Word := 0
  /-- Whisk has run since reset. [1 bit; 19 R405; reset 0] -/
  ran : Bool := false
deriving DecidableEq, Repr, Inhabited

/-! ## GNSS references (chapter 10) -/

structure GnssRef where
  /-- GNx_SYS_ENABLE. [5 bits; 10 R239; reset 0x1F] -/
  enable : Word := 0x1F
  /-- Systems enabled before the latest write, and the end in ns of the epoch in which that took effect: solutions up to it
  keep them. [5, 64 bits; 10 R239; reset 0x1F, 0] -/
  before : Word := 0x1F
  since : Nat := 0
  /-- The last solution with committed records made an exclusion (EV_073 run). [1 bit; 10 R228; reset 0] -/
  exclusionRun : Bool := false
  /-- The latest committed records excluded a signal for multipath. [1 bit; 10 R225, 17 R350 EV_074; reset 0] -/
  multipathRun : Bool := false
  /-- Most recent committed record of antenna 0 and 1: payload and origin. [2; 10 R239; reset none] -/
  ant0 : Option InRecord := none
  ant1 : Option InRecord := none
  /-- Epochs since a committed record showed the offset of Galileo, BeiDou, GLONASS; none before the first. [3 counts; 10 R226, 17 R350 EV_076; reset none] -/
  offsetAge : List (Option Nat) := [none, none, none]
  /-- Epochs without a committed valid record of the engine. [count; 10 R233; reset 0] -/
  silent : Nat := 0
  /-- LOST. [1 bit; 10 R239; reset 0] -/
  lost : Bool := false
deriving DecidableEq, Repr, Inhabited

/-! ## Time (chapter 11), analog inputs (12), ring (13), field buses (14), pair (15) -/

/-- Time state of the committed epoch-time record (R248, R254). -/
structure TimeMirror where
  /-- C(N). [64 bits; 11 R248, R254; reset 0] -/
  cutoff : Nat := 0
  /-- EXTRAP. [1 bit; 11 R248; reset 0] -/
  extrap : Bool := false
  /-- SOURCE: 0 none, 1 GNSS A, 2 GNSS B, 3 PTP. [2 bits; 11 R254; reset 0] -/
  source : Nat := 0
  /-- NEVER_LOCKED. [1 bit; 11 R254; reset 1] -/
  neverLocked : Bool := true
  /-- OCXO_UNSTABLE. [1 bit; 11 R254; reset 0] -/
  ocxoUnstable : Bool := false
  /-- STEP. [1 bit; 11 R254; reset 0] -/
  step : Bool := false
  /-- SLEW. [1 bit; 11 R254; reset 0] -/
  slew : Bool := false
  /-- HOLDOVER. [1 bit; 11 R254; reset 1] -/
  holdover : Bool := true
  /-- TIM_UNCERT. [32 bits; 11 R254; reset 0xFFFF_FFFF] -/
  uncert : Nat := 0xFFFFFFFF
  /-- TIM_UTC_OFFSET: valid, seconds. [17 bits; 11 R254; reset 0] -/
  utc : Option Int := none
deriving DecidableEq, Repr, Inhabited

/-- One chain of Sieve as the mirrored registers show it (R264). -/
structure ChainMirror where
  /-- SIV_n_CTRL SET. [32 bits; 12 R264; reset 0, set at LOAD] -/
  ctrl : Word := 0
  /-- SET: the set in force at the latest committed record. [2 bits; 12 R261, R264; reset 0, set at LOAD] -/
  setShown : Nat := 0
  /-- PHASE. [2 bits; 12 R264; reset 0] -/
  phase : Nat := 0
  /-- FADE. [8 bits; 12 R264; reset 0] -/
  fade : Nat := 0
  /-- Instant in ns at which the accepted selection took effect; `none` when no change is in progress. [64 bits; 12 R263; reset none] -/
  changedAt : Option Nat := none
  /-- Window end in ns at which the new set started, as committed. [64 bits; 12 R263; reset none] -/
  boundary : Option Int := none
  /-- Start of the chain after LOAD, ns. [64 bits; 12 R260, R262, R264 PHASE; reset none] -/
  startedAt : Option Int := none
  /-- ORIGIN of the latest committed sample. [1 bit; 12 R264; reset A] -/
  origin : UnitId := .a
  /-- Latest committed sample and its time of validity. [32, 64 bits; 12 R264; reset NaN, 0] -/
  value : Q := none
  tov : Nat := 0
  /-- VALID and FAULT bits of SIV_STATUS. [2 bits; 12 R264; reset 0] -/
  valid : Bool := false
  fault : Bool := false
  /-- The latest committed record was faulty (EV_089 run). [1 bit; 12 R262; reset 0] -/
  faultRun : Bool := false
deriving DecidableEq, Repr, Inhabited

/-- A joystick panel as committed (R292). -/
structure PanelState where
  valid : Bool := false
  inCommand : Bool := false
  surge : Q := none
  sway : Q := none
  yaw : Q := none
  /-- Epochs since its latest committed message; holds at 0xFFFF. [count; 14 R292; reset 0xFFFF] -/
  age : Nat := 0xFFFF
deriving DecidableEq, Repr, Inhabited

structure FieldMirror where
  /-- The four joystick panels. [4; 14 R292; reset as PanelState] -/
  panels : List PanelState := List.replicate 4 {}
  /-- The panel in command. [3 bits; 14 R307; reset none] -/
  command : Option Nat := none
  /-- TIES of the latest valid plant report. [8 bits; 14 R307; reset 0] -/
  plantTies : Nat := 0
  /-- ROOMS of that report. [8 bits; 14 R307; reset 0] -/
  plantRooms : Nat := 0
  /-- A plant report has been committed since the entry to STANDBY. [1 bit; 14 R291; reset 0] -/
  plantSeen : Bool := false
  /-- PLANT_STALE. [1 bit; 14 R291, R307; reset 1] -/
  plantStale : Bool := true
  /-- CAN_PMS_PLANT AGE. [16 bits; 14 R307; reset 0xFFFF] -/
  plantAge : Nat := 0xFFFF
  /-- CAN_b_WARN. [8 x 32 bits; 14 R307; reset 0x4040, set at LOAD] -/
  warn : List Word := List.replicate 8 0x4040
deriving DecidableEq, Repr, Inhabited

structure PairMirror where
  /-- TNG_STATUS CAUSE. [4 bits; 15 R326; reset 0] -/
  cause : Nat := 0
  /-- TNG_STATUS ACTIVE_UNIT. [1 bit; 15 R326; reset A] -/
  activeUnit : UnitId := .a
  /-- TNG_ROLE_EPOCH. [48 bits; 15 R326; reset 0] -/
  roleEpoch : Nat := 0
  /-- TNG_COUNTS ROLE_CHANGES. [16 bits; 15 R326; reset 0] -/
  roleChanges : Nat := 0
  /-- TNG_COUNTS DIVERGENCES. [16 bits; 15 R326; reset 0] -/
  divergences : Nat := 0
  /-- An accepted TNG_SWAP has taken effect: the roles change at the next E+0 µs. [1 bit; 15 R321; reset 0] -/
  swapDue : Bool := false
  /-- SEQ: the pair's entries to ACTIVE since its epoch 0. [16 bits; 13 R272, R283; reset 0] -/
  seq : Nat := 0
deriving DecidableEq, Repr, Inhabited

/-! ## Trivet (chapter 16) -/

/-- A safe output channel as decided from mirrored state (R334, R348). -/
structure SafeChannel where
  /-- PERMIT. [1 bit; 16 R334; reset 0] -/
  permit : Bool := false
  /-- Latched trips: SLT, STS, SLS, emergency stop. [4 bits; 16 R344, R348; reset 0] -/
  slt : Bool := false
  sts : Bool := false
  sls : Bool := false
  estop : Bool := false
  /-- Runs of epochs in which SLT and STS exceed for the channel's unit. [2 counts; 16 R344; reset 0] -/
  sltRun : Nat := 0
  stsRun : Nat := 0
  /-- RUN: any of SLT, STS, SLS exceeds; holds at 0xFFFF. [16 bits; 16 R348; reset 0] -/
  run : Nat := 0
deriving DecidableEq, Repr, Inhabited

/-- Combination of one input pair (R332). -/
structure PairInput where
  /-- Reads ACTIVE. [1 bit; 16 R332, R348; reset 0] -/
  active : Bool := false
  /-- Antivalence fault. [1 bit; 16 R332, R348; reset 0] -/
  fault : Bool := false
  /-- Fault by difference between the units. [1 bit; 16 R332; reset 0] -/
  diffFault : Bool := false
  /-- Consecutive epochs in which the units' STATE differ. [count; 16 R332; reset 0] -/
  diffRun : Nat := 0
  /-- Consecutive epochs of clean safe state in every counted record. [count; 16 R332; reset 0] -/
  cleanRun : Nat := 0
  /-- Reads its safe state. [1 bit; 16 R332; reset 1] -/
  safe : Bool := true
deriving DecidableEq, Repr, Inhabited

structure TrivetMirror where
  /-- The 16 pairs as combined. [16; 16 R332; reset as PairInput] -/
  pairs : List PairInput := List.replicate 16 {}
  /-- Newest committed Trivet record of unit A and unit B. [2; 16 R332; reset none] -/
  recA : Option InRecord := none
  recB : Option InRecord := none
  /-- The eight channels. [8; 16 R348; reset as SafeChannel] -/
  channels : List SafeChannel := List.replicate 8 {}
  /-- CONTACT, TAKEOVER, ESTOP. [3 bits; 16 R348; reset 0] -/
  contact : Bool := false
  takeover : Bool := false
  estop : Bool := false
  /-- Berth in force; none when NEAR is 0. [4 bits; 16 R339, R348; reset none] -/
  berth : Option Nat := none
  /-- TRV_SPEED. [32 bits; 16 R348; reset NaN] -/
  speed : Q := none
  /-- Run of epochs in which SLS exceeds; it has tripped in this run. [count, 1 bit; 16 R344; reset 0] -/
  slsRun : Nat := 0
  slsTripped : Bool := false
  /-- Epochs without a velocity source near a berth in ACTIVE; SLS_BLIND. [count, 1 bit; 16 R342; reset 0] -/
  blindRun : Nat := 0
  blind : Bool := false
deriving DecidableEq, Repr, Inhabited

/-! ## Event bank states (chapter 17) -/

structure EventMirror where
  /-- ACTIVE bits of scope M sources, as source numbers. [128 bits; 17 R352, R367; reset 0] -/
  active : List Nat := []
  /-- UNACK bits of scope M sources. [128 bits; 17 R352, R367; reset 0] -/
  unack : List Nat := []
  /-- The index with which each source was last raised. [list; 17 R358; reset empty] -/
  named : List (Nat × Nat) := []
  /-- EVT_MASK_b. [4 x 32 bits; 17 R354, R367; reset 0] -/
  masks : List Word := [0, 0, 0, 0]
  /-- EVT_LAST: source and severity; EVT_LAST_EPOCH. [10, 48 bits; 17 R367; reset 0] -/
  last : Option Nat := none
  lastEpoch : Nat := 0
deriving DecidableEq, Repr, Inhabited

end Sys2Proof.Machine
end

