-- ==== Sys2Proof/Machine/Local.lean ====
section
/-! DEFINITION. The state of one unit that its partner does not hold (R313, "Everything else is unit-local"): plain
data, one structure for each block. Every default value is the value after reset. Bracketed at the end of a field's
comment: width; section file and rule; reset value. -/

namespace Sys2Proof.Machine

/-! ## Epoch and exchange (chapter 2) -/

/-- An own record waiting to be committed (R42, R45). -/
structure OwnRecord where
  item : InRecord
  /-- Epochs in which it has been offered. -/
  offers : Nat := 0
deriving DecidableEq, Repr, Inhabited

structure Exchange where
  /-- Epoch number N. [48 bits; 02 R41, 00 R6; reset 0] -/
  epoch : Nat := 0
  /-- Reading of the time counter at E+0 µs of N. [64 bits; 02 R42; reset 0] -/
  cutoff : Nat := 0
  /-- Ingress buffers: own records not yet committed, in order of ingress. [list; 02 R42, R45; reset empty] -/
  buffer : List OwnRecord := []
  /-- Records offered to the exchange of N, by identity. [at most 128; 02 R43; reset empty] -/
  offered : List RecordId := []
  /-- Next ingress sequence number of each source. [32 bits each; 02 R47; reset 0] -/
  seqs : List (Nat × Nat) := []
  /-- Partner's records of N accepted so far, with the instant of arrival in ns. [list; 02 R44; reset empty] -/
  partner : List (InRecord × Nat) := []
  /-- Identities named in the own acknowledgement of N. [list; 02 R44; reset none] -/
  ackSent : Option (List RecordId) := none
  /-- Identities named in the partner's acknowledgement of N. [list; 02 R44; reset none] -/
  ackRx : Option (List RecordId) := none
  /-- Partner's records already committed while the pair is mirrored, by identity. [list; 02 R45; reset empty] -/
  seen : List RecordId := []
  /-- The committed set of N in canonical order. [list; 02 R47; reset empty] -/
  committed : List InRecord := []
  /-- Operator commands that took effect at E+80 µs of N. [list; 02 R49; reset empty] -/
  effected : List Command := []
  /-- Operator commands committed in N, with their validation. [list; 02 R58; reset empty] -/
  commands : List Command := []
  /-- Commands accepted in N−1 and due at E+80 µs of N. [list; 02 R58; reset empty] -/
  due : List Command := []
  /-- Fast work of N is complete. [1 bit; 02 R49; reset 0] -/
  fastDone : Bool := false
  /-- The unit has overrun in N. [1 bit; 02 R50; reset 0] -/
  overrun : Bool := false
  /-- Command digest and commitment digest of N. [2 x 64 bits; 02 R49; reset 0] -/
  cmdDigest : Nat := 0
  commitDigest : Nat := 0
  /-- Own digest frame of N has been sent. [1 bit; 02 R49; reset 0] -/
  digestSent : Bool := false
  /-- Partner's digest frame of N. [data; 02 R50; reset none] -/
  partnerDigest : Option DigestBody := none
  /-- The decision of E+340 µs has been made; the unit is to emit in N. [2 bits; 02 R50; reset 0] -/
  decided : Bool := false
  emit : Bool := false
  /-- The command frame of N has started. [1 bit; 13 R275; reset 0] -/
  emitted : Bool := false
  /-- Arbitration of N is under way. [1 bit; 02 R51; reset 0] -/
  arbitration : Bool := false
  /-- Own re-run of N matched its digest. [1 bit; 02 R51; reset none] -/
  rerun : Option Bool := none
  /-- Outcome received from the partner. [1 bit; 02 R51; reset none] -/
  partnerRerun : Option Bool := none
  /-- Emission is stopped by a fatal error until the next E+0 µs. [1 bit; 01 R24; reset 0] -/
  stopped : Bool := false
  /-- HOLD is due at the next E+0 µs, with this cause. [8 bits; 03 R66; reset none] -/
  holdDue : Option Nat := none
  /-- A fatal error is among what leads to HOLD: EV_011 comes with it. [1 bit; 17 R365; reset 0] -/
  fatalDue : Bool := false
  /-- The active role is to be taken at the next E+0 µs, with this TNG_STATUS CAUSE. [4 bits; 02 R50, R51; reset none] -/
  roleDue : Option Nat := none
  /-- Resynchronisation is to start at the next E+0 µs. [1 bit; 15 R323; reset 0] -/
  resyncDue : Bool := false
deriving DecidableEq, Repr, Inhabited

/-! ## Unit mode and life (chapters 1, 3) -/

structure UnitMode where
  /-- LOC_MODE: the unit's own mode. [3 bits; 03 R62, 19 R404; reset BOOT] -/
  mode : Mode := .boot
  /-- Role of the unit. [2 bits; 15 R327; reset none] -/
  role : Role := .none
  /-- LOC_HOLD_CAUSE[7:0]. [8 bits; 03 R85; reset 0] -/
  holdCause : Nat := 0
  /-- Cause of the last reset release. [3 bits; 19 R404; reset 0] -/
  resetCause : ResetCause := .powerApplied
  /-- The unit is held in reset or unpowered: it does nothing. [1 bit; 03 R65; reset 0] -/
  inReset : Bool := false
  /-- HOLD was entered from LOAD: no valid image. [1 bit; 03 R63; reset 0] -/
  holdFromLoad : Bool := false
  /-- MAINTENANCE of this unit was entered from STANDBY. [1 bit; 03 R62; reset 0] -/
  maintFromStandby : Bool := false
  /-- A manifest was committed or the life cycle changed in MAINTENANCE: only LOC_RESTART leaves it. [1 bit; 03 R88; reset 0] -/
  mustRestart : Bool := false
  /-- Epochs that unit B has waited for unit A in STANDBY. [count; 03 R71; reset 0] -/
  roleWait : Nat := 0
  /-- UNIT_SEL strap as read at reset release. [1 bit; 00 R3, 23 R454; DESIGN CHOICE A (log 1)] -/
  unit : UnitId := .a
  /-- The key was read and its image verified. [1 bit; 03 R69; reset 0] -/
  loaded : Bool := false
deriving DecidableEq, Repr, Inhabited

/-! ## Ring interface and relay (chapter 13) -/

/-- An entry of the HSR duplicate table: source address, sequence number, reception in ms, and the port of the first copy (R266). -/
structure HsrEntry where
  source : Nat
  seq : Nat
  atMs : Nat
  port : Side
deriving DecidableEq, Repr, Inhabited

structure RingLocal where
  /-- The bypass relay's coil is energised (relay open). [1 bit; 13 R268; reset 0] -/
  relayOpen : Bool := false
  /-- The internal loop has trained in LOAD. [1 bit; 03 R69; reset none] -/
  loopTrained : Option Bool := none
  /-- RING_1, RING_2. [2 x 2 bits; 13 R284; reset down] -/
  link1 : LinkState := .down
  link2 : LinkState := .down
  /-- BROKEN. [1 bit; 13 R282, R284; reset 0] -/
  broken : Bool := false
  /-- Evidence of the epoch: a frame arrived; on both ports; a link has been down. [3 bits; 13 R282; reset 0] -/
  seen : Bool := false
  seenBoth : Bool := false
  lostNow : Bool := false
  /-- Runs of one-sided and of two-sided evidence epochs. [2 counts; 13 R282; reset 0] -/
  oneSided : Nat := 0
  twoSided : Nat := 0
  /-- Epochs of the last 2000 with invalid frames, newest first: frames in each. [list; 13 R282; reset empty] -/
  invalid : List Nat := []
  /-- Invalid frames of the current epoch. [count; 13 R282; reset 0] -/
  invalidNow : Nat := 0
  /-- LOC_RNG_TX MUTED, LATE. [2 x 16 bits; 13 R284; reset 0] -/
  muted : Nat := 0
  late : Nat := 0
  /-- LOC_RNG_RX CRC_ERR, FOREIGN. [2 x 16 bits; 13 R284; reset 0] -/
  crcErr : Nat := 0
  foreign : Nat := 0
  /-- HSR duplicate table. [list; 13 R266; reset empty] -/
  hsrSeen : List HsrEntry := []
  /-- Sequence number of the next HSR supervision frame. [16 bits; 13 R266; DESIGN CHOICE 0 (log 1)] -/
  supSeq : Nat := 0
  /-- Nodes heard on the ring: (source, last frame in ms), forgotten after 60 s. [list; 13 R266; reset empty] -/
  nodes : List (Nat × Nat) := []
  /-- Epochs since a frame from the unit's own source address that it did not send; none when not in the last 2000. [count; 17 R350 EV_063; reset none] -/
  duplicate : Option Nat := none
  /-- HSR sequence number of the next own frame. [16 bits; 13 R266; DESIGN CHOICE 0 (log 1)] -/
  hsrSeq : Nat := 0
  /-- FB_SEQ of each feedback source's previous record (repeats). [16 x 16 bits; 13 R280; reset none] -/
  fbSeq : List (Option Nat) := List.replicate 16 none
deriving DecidableEq, Repr, Inhabited

/-! ## Time unit (chapter 11) -/

/-- Qualification of one time source (R243). -/
structure SourceQual where
  /-- Consecutive seconds with a measurement. [count; 11 R243; reset 0] -/
  good : Nat := 0
  /-- Consecutive seconds without one. [count; 11 R243; reset 0] -/
  bad : Nat := 0
  /-- Qualified. [1 bit; 11 R243, R255; reset 0] -/
  qualified : Bool := false
  /-- Latest measurement: offset of module time from the source in ps, with its deviation in ns. [data; 11 R243, 10 R234; reset none] -/
  offset : Option Int := none
  sigma : Nat := 0
  /-- A measurement arrived since the last whole second. [1 bit; 11 R243; reset 0] -/
  fresh : Bool := false
  /-- Last 16 offsets (PTP). [16 x data; 11 R246; reset empty] -/
  last16 : List Int := []
  /-- Consecutive seconds in which it needed y beyond ±5 ppm. [count; 11 R242; reset 0] -/
  beyond : Nat := 0
deriving DecidableEq, Repr, Inhabited

/-- A clock whose Announce messages a station port receives (R250): port identity, data, TAI − UTC, epochs since its latest Announce, and
epochs between that one and the one before. -/
structure Foreign where
  sender : Nat
  clock : ClockData
  utc : Option Int := none
  age : Nat := 0
  gap : Option Nat := none
deriving DecidableEq, Repr, Inhabited

/-- Peer delay of a ring port (R250, R251, R253). -/
structure RingPtp where
  /-- sequenceId of the Pdelay_Req sent, epochs since it, and its answer: (receive time, receive stamp, correction). [data,
  count, data; 11 R250, R253; reset none, DESIGN CHOICE 2000 (log 1), none] -/
  req : Option Nat := none
  reqAge : Nat := 2000
  resp : Option (Nat × Nat × Int) := none
  /-- Pdelay_Resp sent whose Follow_Up is still to go: (sequenceId, domain, requester). [data; 11 R253; reset none] -/
  answer : Option (Nat × Nat × Nat) := none
  /-- Peer delay measured, in 2⁻¹⁶ ns. [data; 11 R251; DESIGN CHOICE 0 (log 1)] -/
  peerDelay : Int := 0
deriving DecidableEq, Repr, Inhabited

/-- PTP state of a station port (R250). -/
structure PtpPort where
  /-- Epochs in SLAVE with a master of good clockClass; epochs since a Sync in SLAVE. [2 counts; 11 R243; reset 0] -/
  slaveFor : Nat := 0
  syncAge : Nat := 0
  /-- IEEE 1588 portState. [4 bits; 11 R255; reset 3] -/
  state : Nat := 3
  /-- clockClass of the port's master. [8 bits; 11 R255; reset 0] -/
  gmClass : Nat := 0
  /-- clockClass announced on the port. [8 bits; 11 R255; reset 0] -/
  sentClass : Nat := 0
  /-- domainNumber. [8 bits; 11 R255; reset 0, from the image] -/
  domain : Nat := 0
  /-- Port identity of the port's master. [80 bits; 11 R250; reset none] -/
  parent : Option Nat := none
  /-- Clocks heard by Announce on the port. [at most 5; 11 R250; reset empty] -/
  heard : List Foreign := []
  /-- Epochs since the port last heard an Announce, and since it sent Sync and Announce. [3 counts; 11 R250; reset 0, DESIGN CHOICE 0xFFFF (log 1), DESIGN CHOICE 0xFFFF (log 1)] -/
  announceAge : Nat := 0
  syncSent : Nat := 0xFFFF
  announceSent : Nat := 0xFFFF
  /-- Sync awaiting its Follow_Up: (sequence, receive stamp, correction). [data; 11 R250; reset none] -/
  sync : Option (Nat × Nat × Int) := none
  /-- Latest Sync pair: origin and receive stamps in ns, correction in 2⁻¹⁶ ns. [data; 11 R250; reset none] -/
  t12 : Option (Nat × Nat × Int) := none
  /-- sequenceId of the Delay_Req sent. [16 bits; 11 R250; reset none] -/
  delayReq : Option Nat := none
  /-- Path delay measured, in 2⁻¹⁶ ns. [data; 11 R250; DESIGN CHOICE 0 (log 1)] -/
  delay : Int := 0
deriving DecidableEq, Repr, Inhabited

structure TimeUnit where
  /-- Time counter: 2⁻³² ns. [64.32 bits; 11 R241, R245; reset 0] -/
  counter : Nat := 0
  /-- Increment, 2⁻³² ns. [8.32 bits; 11 R241, R255; reset 0x3_5555_5555] -/
  incr : Nat := 0x355555555
  /-- Own time state: source code of R243, holdover, never locked, slew, OCXO not stable. [LOC_TIM_STATE; 11 R255; reset 0x11] -/
  source : Option TimeSource := none
  holdover : Bool := true
  neverLocked : Bool := true
  slewing : Bool := false
  /-- Offset still to be slewed out, 2⁻³² ns, positive when the counter is ahead; codes that the slew adds to the increment. [2 x data; 11 R238, R242; reset 0] -/
  slewLeft : Int := 0
  slewTerm : Int := 0
  /-- OCXO at its operating temperature. [1 bit; 01 R27; reset 1, FLAGS bit 3 reads 0 at reset] -/
  ocxoStable : Bool := true
  /-- The latest changes of the holdover state, newest first: counter reading in ns and the state from there. [4; 00 R7, 10 R230; reset empty] -/
  holdLog : List (Nat × Bool) := []
  /-- Step decided: (whole second in ns at which it takes effect, step in ns). [data; 11 R244; reset none] -/
  step : Option (Nat × Int) := none
  /-- A step took effect since the previous cut-off. [1 bit; 11 R254; reset 0] -/
  stepDone : Bool := false
  /-- Δ in ns of a step decided since the last epoch-time record. [64 bits; 10 R238, 11 R248; reset none] -/
  stepNews : Option Int := none
  /-- Discipline loop: fractional frequency error y of the OCXO in 2⁻⁴⁸, limited to ±5 ppm; the loop's own memory. [2 x data; 11 R242; DESIGN CHOICE 0 (log 1)] -/
  freq : Int := 0
  loop : List Int := []
  /-- GNSS A, GNSS B, PTP, pair. [4; 11 R243; reset as SourceQual] -/
  quals : List SourceQual := List.replicate 4 {}
  /-- Uncertainty at entry to holdover, ns; its growth since, in ns per hour × epochs. [2 x data; 11 R246; reset 0] -/
  holdEntry : Nat := 0
  holdGrowth : Nat := 0
  /-- Latest PPS message: FLAGS, QERR, EDGE_TIME in ns, UNCERT, STEP. [24 octets; 10 R236, 11 R255; reset 0, UNCERT 0xFFFF_FFFF] -/
  ppsFlags : Nat := 0
  ppsQerr : Nat := 0
  ppsEdge : Nat := 0
  ppsUncert : Nat := 0xFFFFFFFF
  ppsStep : Int := 0
  /-- An edge has passed and the increment is to be set at the next E+0 µs. [1 bit; 11 R242; reset 0] -/
  incrDue : Bool := false
  /-- Epochs since the latest edge. [count; 11 R242; reset 0] -/
  edgeAge : Nat := 0
  /-- Latest PPS edge on TIME_OUT: its whole second in ns and q in ps. [data; 10 R235; reset none, PPS low] -/
  edge : Option (Nat × Nat) := none
  /-- An edge has passed and the heartbeat that follows it is to be measured. [1 bit; 15 R316; reset 0] -/
  pairDue : Bool := false
  /-- TAI − UTC from the GPS broadcast parameters; from the PTP master. [2 x 17 bits; 11 R249; reset none] -/
  utcGps : Option Int := none
  utcPtp : Option Int := none
  /-- Transmit stamp queue: (identifier, stamp, epochs held). [16 entries; 11 R253; reset empty] -/
  txq : List (Nat × Nat × Nat) := []
  /-- OVF, DROPS. [1, 16 bits; 11 R255; reset 0] -/
  txqOvf : Bool := false
  txqDrops : Nat := 0
  /-- STN_1 and STN_2. [2; 11 R255; reset as PtpPort] -/
  ptp : List PtpPort := List.replicate 2 {}
  /-- RING_1 and RING_2. [2; 11 R251; reset as RingPtp] -/
  ringPtp : List RingPtp := List.replicate 2 {}
deriving DecidableEq, Repr, Inhabited

/-! ## GNSS engines of the unit (chapter 10) -/

/-- A tracking channel (R223 to R225): one signal of one satellite at one antenna. -/
structure Channel where
  /-- System of R221 (0 GPS to 4 SBAS), satellite, band. [3, 8, 1 bits; 10 R223] -/
  system : Nat := 0
  sv : Nat := 0
  band : Nat := 0
  /-- Time of validity in ns from which the channel is in lock. [64 bits; 10 R225, R240; reset none] -/
  lock : Option Nat := none
  /-- The nine complex correlators, very early to very late. [9 x 2; 10 R224; reset 0] -/
  taps : List (Int × Int) := List.replicate 9 (0, 0)
  /-- Twice the value of the code discriminator in force. [data; 10 R225; reset 0] -/
  error : Int := 0
  /-- From the prompt correlator: carrier phase error, sign of the navigation data, carrier-to-noise ratio in thousandths of dB-Hz.
  [32, 1, 16 bits; 10 R224; reset 0] -/
  phase : Int := 0
  navSign : Bool := false
  cn0 : Nat := 0
  /-- Relative amplitude and delay of the latest fitted reflection, thousandths; counter second of the fit. [3 x data; 10 R225; reset 0, none] -/
  amplitude : Nat := 0
  delay : Nat := 0
  fitted : Option Nat := none
  /-- Flagged multipath; excluded from the solution. [2 bits; 10 R225; reset 0] -/
  flagged : Bool := false
  excluded : Bool := false
deriving DecidableEq, Repr, Inhabited

/-- One antenna input (R222, R240). -/
structure AntennaPort where
  /-- 0 normal, 1 open, 2 short, 3 not supplied. [2 bits; 10 R240; reset 0] -/
  state : Nat := 0
  /-- Supply current, mA; holds at 0xFF. [8 bits; 10 R240; reset 0] -/
  current : Nat := 0
  /-- The supply is on. [1 bit; 10 R222; reset 1, unit B of a pair off] -/
  supplied : Bool := true
  /-- Epochs with less than 5 mA; epochs since the supply was cut or last retried. [2 counts; 10 R222; reset 0] -/
  low : Nat := 0
  cutFor : Nat := 0
  /-- Channels allocated. [at most 60; 10 R223; reset empty] -/
  channels : List Channel := []
deriving DecidableEq, Repr, Inhabited

/-- An inter-system offset against GPS time as the engine carries it (R226). -/
structure InterSystem where
  /-- Offset in fs and its variance in fs². [2 x data; 10 R226; reset 0] -/
  value : Int := 0
  variance : Nat := 0
  /-- Time of validity in ns of the latest solution that used the system. [64 bits; 10 R226; reset none] -/
  last : Option Nat := none
deriving DecidableEq, Repr, Inhabited

structure Engine where
  ant0 : AntennaPort := {}
  ant1 : AntennaPort := {}
  /-- Inter-system offsets of Galileo, BeiDou, GLONASS. [3; 10 R226; reset as InterSystem] -/
  offsets : List InterSystem := List.replicate 3 {}
  /-- Receiver clock offset against GPS time and its variance, in fs and fs², of the latest solution with a valid position. [data; 10 R226, R234; reset none] -/
  clock : Option (Int × Nat) := none
  /-- Counter second of the latest time measurement. [data; 10 R234; reset none] -/
  timed : Option Nat := none
  /-- Latest time measurement in ps, and epochs since it. [32 bits, count; 10 R240; reset NaN] -/
  tofs : Q := none
  tofsAge : Nat := 0
  /-- Counter seconds of the last reallocation. [data; 10 R223; reset none] -/
  lastAlloc : Option Nat := none
deriving DecidableEq, Repr, Inhabited

/-! ## Sieve chains of the unit (chapter 12) -/

/-- One sample of a chain (R260, R261): its ingress stamp and time of validity in ns, value, validity, cross-fade. -/
structure SieveSample where
  stamp : Nat
  tov : Nat
  value : Q
  valid : Bool
  fading : Bool
deriving DecidableEq, Repr, Inhabited

/-- A chain's own working state (R258 to R263). -/
structure Chain where
  /-- The chain has started: reading of its start, in 2⁻³² ns. [data; 12 R260; reset none] -/
  start : Option Nat := none
  /-- Integrators and combs of the first stage, modulo 2³². [4, 4 x 32 bits; 12 R257, R258; reset 0] -/
  integrators : List Nat := [0, 0, 0, 0]
  combs : List Nat := [0, 0, 0, 0]
  /-- The input is in range fault at the latest window end. [1 bit; 12 R265; reset 0] -/
  ranged : Bool := false
  /-- LOAD has ended: the chain starts at its next window boundary. [1 bit; 12 R260; reset 0] -/
  armed : Bool := false
  /-- The latest window end, in 2⁻³² ns, and the epochs to the next one of a chain of 1 kHz or 500 Hz. [96, 2 bits; 12 R260; reset none, 0] -/
  ends : Option Nat := none
  boundaryIn : Nat := 0
  /-- Delay line of exact integrator-comb outputs, newest first. [at most 255; 12 R258; reset empty] -/
  line : List Int := []
  /-- Delay line of the old set during a change. [at most 255; 12 R263; reset empty] -/
  oldLine : List Int := []
  /-- Set in force in the chain; old set during a change. [2 bits each; 12 R263; reset 0, none] -/
  set : Nat := 0
  oldSet : Option Nat := none
  /-- A selection has taken effect and its restart waits for the next window boundary. [1 bit; 12 R263; reset none] -/
  selected : Option Nat := none
  /-- Valid-time samples of the cross-fade taken so far. [8 bits; 12 R263; reset 0] -/
  fadeK : Nat := 0
  /-- Instant at which the latest overload cleared, in 2⁻³² ns. [data; 12 R262; reset none] -/
  overloadEnd : Option Nat := none
  /-- Boundary from which the new set runs, in 2⁻³² ns. [data; 12 R263; reset none] -/
  restart : Option Nat := none
  /-- Samples stamped since the last cut-off. [at most 4; 12 R261; reset empty] -/
  samples : List SieveSample := []
  /-- The burden is cut off; epochs since it was. [1 bit, count; 23 R460; reset 0] -/
  burdenCut : Bool := false
  burdenFor : Nat := 0
deriving DecidableEq, Repr, Inhabited

structure SieveLocal where
  /-- Chains 0 to 15. [16; 12 R256; reset as Chain] -/
  chains : List Chain := List.replicate 16 {}
  /-- LOC_SIV_INPUT RANGE_FAULT, OVERLOAD. [2 x 16 bits; 12 R265; reset 0] -/
  rangeFault : Nat := 0
  overload : Nat := 0
deriving DecidableEq, Repr, Inhabited

/-! ## Field buses of the unit (chapter 14) -/

/-- A message in a transmit queue: message number, the unit's identifier, payload, epoch and offset of its release (R288, R295, R296). -/
structure Queued where
  message : Nat
  ident : CanId
  payload : List Byte
  epoch : Nat
  offset : Nat
  dual : Bool
deriving DecidableEq, Repr, Inhabited

structure CanBus where
  /-- STATE: 0 error active, 1 warning, 2 error passive, 3 bus-off, 4 held off, 5 disabled. [3 bits; 14 R308; reset 5] -/
  state : Nat := 5
  /-- An automatic recovery has begun since the latest bus-off. [1 bit; 14 R302; reset 0] -/
  begun : Bool := false
  /-- Epochs since each automatic recovery begun in the last 120 000 epochs. [list; 14 R302; reset empty] -/
  recoveries : List Nat := []
  /-- TEC, REC. [2 x 8 bits; 14 R308; reset 0] -/
  txErr : Nat := 0
  rxErr : Nat := 0
  /-- BUSOFF, MOVED, WITHDRAWN, FOREIGN. [4 x 8 bits; 14 R308; reset 0] -/
  busOffs : Nat := 0
  moved : Nat := 0
  withdrawn : Nat := 0
  foreign : Nat := 0
  /-- Transmit queue. [list; 14 R295; reset empty] -/
  queue : List Queued := []
deriving DecidableEq, Repr, Inhabited

structure SerialPort where
  /-- FRAMING, CHECKSUM, OVERLENGTH. [3 x 8 bits; 14 R308; reset 0] -/
  framing : Nat := 0
  checksum : Nat := 0
  overlength : Nat := 0
  /-- Errors of the last 2000 epochs, newest first, and of the current one. [list; 14 R306; reset empty] -/
  errors : List Nat := []
  errorsNow : Nat := 0
deriving DecidableEq, Repr, Inhabited

structure FieldLocal where
  /-- Buses 1 to 8. [8; 14 R308; reset as CanBus] -/
  buses : List CanBus := List.replicate 8 {}
  /-- Serial ports 1 to 8. [8; 14 R308; reset as SerialPort] -/
  ports : List SerialPort := List.replicate 8 {}
  /-- SEQ of the previous record of each CAN source. [list; 14 R289; reset empty] -/
  seqs : List (Nat × Nat) := []
  /-- Epochs since the last accepted sentence of each declared serial source; silence raised. [list; 14 R306; reset empty] -/
  serialAge : List (Nat × Nat) := []
  silent : List Nat := []
  /-- Messages waiting for release in this epoch: (offset, message). [list; 14 R295; reset empty] -/
  releases : List (Nat × Nat) := []
deriving DecidableEq, Repr, Inhabited

/-! ## The pair as the unit sees it (chapter 15) -/

/-- The most recent valid heartbeat of the partner on one path. -/
structure Heard where
  epoch : Nat
  role : Role
  mode : Mode
  mirrored : Bool
  single : Bool
  imageId : Nat
  fwDigest : Nat
  phase : Phase
deriving DecidableEq, Repr, Inhabited

structure PairLocal where
  /-- TONGS_1, TONGS_2. [2 x 2 bits; 15 R327; reset down] -/
  link1 : LinkState := .down
  link2 : LinkState := .down
  /-- Tongs path up; ring path up; ring active evidence. [3 bits; 15 R317, R327; reset 0] -/
  tongsPath : Bool := false
  ringPath : Bool := false
  ringActive : Bool := false
  /-- Epochs since a valid Tongs frame, a valid ring heartbeat, ring active evidence; hold at 0xFFFF. [3 counts; 15 R317; reset 0xFFFF] -/
  tongsAge : Nat := 0xFFFF
  ringAge : Nat := 0xFFFF
  activeAge : Nat := 0xFFFF
  /-- Arrivals in the current epoch. [bits; 15 R317; reset 0] -/
  tongsNow : Bool := false
  tongsBeatNow : Bool := false
  ringNow : Bool := false
  activeNow : Bool := false
  /-- Consecutive epochs with a valid Tongs heartbeat. [count; 15 R317; reset 0] -/
  beatRun : Nat := 0
  /-- Latest heartbeat report and epochs since it. [data; 15 R317; reset none] -/
  heard : Option Heard := none
  heardAge : Nat := 0xFFFF
  /-- A Tongs heartbeat with the mirrored flag clear arrived: not mirrored from the next E+0 µs. [1 bit; 15 R319; reset 0] -/
  partnerClear : Bool := false
  /-- First valid copies of this epoch and of the one before: (type, epoch, index). [2 lists; 15 R310; reset empty] -/
  copies : List (Nat × Nat × Nat) := []
  copiesBefore : List (Nat × Nat × Nat) := []
  /-- Evidence of two active units has been found and stands. [1 bit; 15 R320; reset 0] -/
  twoSeen : Bool := false
  /-- PHASE. [3 bits; 15 R322; reset none] -/
  phase : Phase := .none
  /-- COPY_START announced; epoch C; epoch S. [3 x 48 bits; 15 R322; reset none] -/
  copyStart : Option Nat := none
  /-- The timer step of JOIN has been made. [1 bit; 15 R322; reset 0] -/
  stepped : Bool := false
  copyEnd : Option Nat := none
  settleEnd : Option Nat := none
  /-- LOC_TNG_RESYNC ATTEMPTS, EPOCHS. [4, 16 bits; 15 R327; reset 0] -/
  attempts : Nat := 0
  phaseEpochs : Nat := 0
  /-- Pages not yet sent since their last change, as page numbers. [at most 512; 15 R322, R327; reset empty] -/
  unsent : List Nat := []
  /-- Page contents as last sent or received, to find the pages written in an epoch: (page, audit digest). [512; 15 R311, R322; reset empty] -/
  pageDigests : List (Nat × Nat) := []
  /-- Pages received in this epoch, applied at the next E+0 µs in SETTLE. [list; 15 R322; reset empty] -/
  pagesRx : List (Nat × List Byte) := []
  /-- Pages received since COPY began; COUNT of the page frames of this epoch. [list, count; 15 R311, R322; reset empty, 0] -/
  pagesSeen : List Nat := []
  pageCount : Nat := 0
  /-- Page and audit frames of this epoch have gone; pages that there were to send before. [1, 10 bits; 15 R311, R327; reset 0] -/
  mirrorSent : Bool := false
  remaining : Nat := 0
  /-- Consecutive AUDIT epochs with every digest equal. [count; 15 R322; reset 0] -/
  auditRun : Nat := 0
  /-- An audit digest differed in this epoch; an audit frame arrived; the partner's digests arrived. [3 bits; 15 R322, R323; reset 0] -/
  auditDiff : Bool := false
  auditSeen : Bool := false
  digestNow : Bool := false
  /-- Epochs of the pause of phase 6 after three failed attempts. [count; 15 R323; reset 0] -/
  backoff : Nat := 0
  /-- Epoch lock held. [1 bit; 15 R315, R327; reset 0] -/
  locked : Bool := false
  /-- Latest θ in half ticks. [data; 15 R315; reset none] -/
  theta : Option Int := none
  /-- Run of measurements within 30 ticks; epochs without a measurement; largest |θ| of the last 2000 epochs. [3 counts; 15 R315, R316; reset 0] -/
  lockRun : Nat := 0
  noMeasure : Nat := 0
  measuredNow : Bool := false
  thetas : List Nat := []
  /-- Transmit ticks (t₃) of the last two own heartbeats since the timer's last step: those whose echo can be under way. [2 x 64 bits; 15 R315; reset empty] -/
  txTicks : List Nat := []
  /-- Latest partner TX_TICK and own reception tick for the echo. [2 x 64 bits; 15 R312; reset 0] -/
  echoTick : Nat := 0
  echoRx : Nat := 0
  /-- Timer correction applied at the last E+0 µs, in ticks; ticks to shorten the epoch by. [data; 15 R315; reset 0] -/
  trim : Int := 0
  /-- LOC_TNG_ERR CRC_1, CRC_2, LATE. [8, 8, 16 bits; 15 R327; reset 0] -/
  crc1 : Nat := 0
  crc2 : Nat := 0
  lateFrames : Nat := 0
  /-- The full digest D exchanged with the partner, with the image ID it came with. [64, 256 bits; 04 R105; reset none] -/
  exchanged : Option (Nat × Nat) := none
  /-- A pair mismatch (image) or firmware mismatch is found. [2 bits; 04 R105, 15 R324; reset 0] -/
  imageMismatch : Bool := false
  fwMismatch : Bool := false
  /-- Latest heartbeat of the active unit that gives an offset: counter reading at its reception, TX_TIME, and
  (t₄ − t₁) − (t₃ − t₂) of R315 in ticks. [data; 15 R316; reset none] -/
  beat : Option (Nat × Nat × Int) := none
deriving DecidableEq, Repr, Inhabited

/-! ## Trivet of the unit (chapter 16) -/

/-- One filtered input channel (R329): last samples equal to `next` and their number. -/
structure FilterChannel where
  level : Bool := false
  next : Bool := false
  same : Nat := 0
deriving DecidableEq, Repr, Inhabited

/-- One antivalent pair as the unit samples it (R330, R331). -/
structure PairLocalInput where
  a : FilterChannel := {}
  b : FilterChannel := {}
  /-- Consecutive samples with equal levels. [count; 16 R330; reset 0] -/
  equalRun : Nat := 0
  /-- Consecutive samples reading the safe state antivalently. [count; 16 R330; reset 0] -/
  safeRun : Nat := 0
  /-- Antivalence fault of the unit. [1 bit; 16 R330; reset 0] -/
  fault : Bool := false
  /-- The pair read its safe state in some sample since the previous record. [1 bit; 16 R331; reset 0] -/
  safeSeen : Bool := false
deriving DecidableEq, Repr, Inhabited

/-- The unit's own switches, sense nodes and faults of a channel (R349). -/
structure ChannelLocal where
  /-- Fault code of R335; marked failed. [4, 1 bits; 16 R337, R349; reset 0] -/
  fault : Nat := 0
  failed : Bool := false
  /-- OVERDUE. [1 bit; 16 R335; reset 0] -/
  overdue : Bool := false
  /-- Wiring check holds the channel on; epochs it has lasted; commanded on at the next switching. [1 bit, counts; 16 R338; reset 0] -/
  wirechk : Bool := false
  wirechkEpochs : Nat := 0
  /-- HS and LS commanded on. [2 bits; 16 R349; reset 0] -/
  hs : Bool := false
  ls : Bool := false
  /-- Sense nodes at E+450 µs. [2 bits; 16 R349; reset H 0, L 1] -/
  h : Bool := false
  l : Bool := true
  /-- A test pulse of this switch is under way: the switch, and off-pulse or not. [2 bits; 16 R335, R336; reset none] -/
  pulse : Option (Switch × Bool) := none
  /-- The pulse was cancelled by a switching change, or its switch was changed at E+350 µs. [1 bit; 16 R335; reset 0] -/
  changed : Bool := false
  /-- Epochs since the last passed off-state test, which HOURS counts in whole hours. [count; 16 R349; reset 0] -/
  testAge : Nat := 0
deriving DecidableEq, Repr, Inhabited

structure TrivetLocal where
  /-- Pairs 0 to 15. [16; 16 R329; reset as PairLocalInput] -/
  pairs : List PairLocalInput := List.replicate 16 {}
  /-- LOC_TRV_RAW: the levels at E+375 µs of the previous epoch, and those of this one. [2 x 32 bits; 16 R349; reset 0] -/
  raw : Nat := 0
  rawNow : Nat := 0
  /-- Channels 0 to 7. [8; 16 R349; reset as ChannelLocal] -/
  channels : List ChannelLocal := List.replicate 8 {}
  /-- PWR_OUT outside its range: LOW. [1 bit; 16 R349; reset 1] -/
  pwrLow : Bool := true
  /-- PWR_OUT voltage. [16 bits; 16 R349; reset 0] -/
  volts : Nat := 0
  /-- Epochs for which PWR_OUT has been in range. [count; 16 R337; reset 0] -/
  pwrRun : Nat := 0
deriving DecidableEq, Repr, Inhabited

/-! ## Events, recorder and dump of the unit (chapter 17) -/

/-- A record that falls due (R360): event, kind 1 raised, 2 cleared, 3 acknowledged, and its data (R358). -/
structure DueRecord where
  event : Nat
  kind : Nat
  w0 : Nat := 0xFFFFFFFF
  w1 : Nat := 0
  value : Int := 0
deriving DecidableEq, Repr, Inhabited

/-- A record of the event recorder (R357). -/
structure EvRecord where
  opTime : Nat
  cycle : Nat
  epoch : Nat
  event : Nat
  kind : Nat
  flags : Nat
  rep : Nat
  lastDelta : Nat
  w0 : Nat
  w1 : Nat
  value : Int
  /-- An uncorrectable error lies in the record (R31). -/
  corrupt : Bool
deriving DecidableEq, Repr, Inhabited

structure EventLocal where
  /-- ACTIVE bits of scope L sources. [128 bits; 17 R352, R369; reset 0] -/
  active : List Nat := []
  /-- UNACK bits of scope L sources. [128 bits; 17 R352, R369; reset 0] -/
  unack : List Nat := []
  /-- The index with which each source was last raised. [list; 17 R358; reset empty] -/
  named : List (Nat × Nat) := []
  /-- Records due in the epoch, in order of raising. [list; 17 R360; reset empty] -/
  due : List DueRecord := []
  /-- Records of the epoch that stand already and whose notifications are still to be sent. [list; 17 R356, R363; reset empty] -/
  written : List DueRecord := []
  /-- DP ALARM relay energised. [1 bit; 17 R356; reset 0] -/
  dpRelay : Bool := false
  /-- UNIT FAULT relay energised. [1 bit; 17 R356; reset 0] -/
  ufRelay : Bool := false
  /-- An uncorrectable MRAM error was found in these items, rebuilt at the next start. [4 bits; 01 R31; reset none] -/
  mramBad : List MramItem := []
deriving DecidableEq, Repr, Inhabited

structure Recorder where
  /-- The records, index 0 first (MRAM). [at most 524 288 x 48 octets; 17 R361, 01 R29; reset empty] -/
  records : List EvRecord := []
  /-- FULL. [1 bit; 17 R361, R369; reset 0] -/
  full : Bool := false
  /-- Clears since manufacture. [32 bits; 17 R363, R369; reset 0] -/
  clears : Nat := 0
  /-- Operating time, ms. [40 bits; 17 R359, R369; reset 0] -/
  opTime : Nat := 0
  /-- Operating time as last saved to MRAM. [40 bits; 17 R359; reset 0] -/
  opSaved : Nat := 0
  /-- Half milliseconds counted since the last whole one. [1 bit; 17 R359; reset 0] -/
  opHalf : Bool := false
  /-- Power-cycle count. [24 bits; 17 R359, R369; reset 0] -/
  cycle : Nat := 0
  /-- Close-out was incomplete at the last power loss. [1 bit; 17 R362; reset 0] -/
  closeOutLost : Bool := false
deriving DecidableEq, Repr, Inhabited

/-- A fatal error whose dump is still to be written (R364, R365): cause, writer, epoch, and the operating time at its E+0 µs. -/
structure DumpDue where
  cause : Nat
  writer : Nat
  epoch : Nat
  opTime : Nat
deriving DecidableEq, Repr, Inhabited

structure Dump where
  /-- VALID. [1 bit; 17 R365, R369; reset 0] -/
  valid : Bool := false
  /-- Octets of the dump region that are not zero, by offset. [4 MB; 17 R364; reset empty] -/
  mem : List Host.Cell := []
  /-- CAUSE. [8 bits; 17 R365, R369; reset 0] -/
  cause : Nat := 0
  /-- LOST. [8 bits; 17 R366, R369; reset 0] -/
  lost : Nat := 0
  /-- BLOCKS. [7 bits; 17 R365, R369; reset 0] -/
  blocks : Nat := 0
  /-- EPOCH. [48 bits; 17 R365, R369; reset 0] -/
  epoch : Nat := 0
  /-- Word ranges read since the dump was written: sorted disjoint [first, last+1). [list; 17 R366; reset empty] -/
  readRanges : List (Nat × Nat) := []
  /-- A fatal error waits for its dump. [data; 17 R364; reset none] -/
  due : Option DumpDue := none
  /-- Committed sets of the last 64 epochs, oldest first. [64; 17 R364; reset empty] -/
  history : List (Nat × List InRecord) := []
deriving DecidableEq, Repr, Inhabited

/-! ## Host access (chapter 18) -/

/-- A published snapshot: its epoch and every register outside the bulk window (R55). -/
structure Snapshot where
  epoch : Nat := 0
  /-- Runs of consecutive registers: first address and their words. -/
  regs : List (Nat × List Word) := []
deriving DecidableEq, Repr, Inhabited

/-- A response datagram (R374). -/
structure Response where
  op : Nat
  session : Nat
  reqSeq : Nat
  addr : Nat := 0
  count : Nat := 0
  status : Nat
  detail : Nat := 0
  snapEpoch : Nat := 0
  unit : UnitId := .a
  mode : Mode := .boot
  data : List Word := []
  /-- MAC, sixteen octets; empty without a session (R374, R377). -/
  mac : List Byte := []
  /-- Port by which it leaves, and the address and UDP port it goes to: those of its request (R370). -/
  port : HapPort := .stn1
  dest : Nat × Nat := (0, 0)
deriving DecidableEq, Repr, Inhabited

/-- A notification waiting for its acknowledgement (R386, R387). -/
structure Notification where
  nseq : Nat
  epoch : Nat
  words : List Word
  /-- Times sent, and epochs since the last send. -/
  sends : Nat := 1
  age : Nat := 0
deriving DecidableEq, Repr, Inhabited

structure Session where
  /-- Session identifier. [16 bits; 18 R376; not zero while open] -/
  ident : Nat
  /-- Roster slot. [3 bits; 18 R376] -/
  slot : Nat
  notify : Bool
  /-- Port and source of its OPEN, by which and to which its notifications leave (R370, R386). [2, 48 bits; 18 R370] -/
  port : HapPort := .stn1
  peer : Nat × Nat := (0, 0)
  /-- Session key S. [256 bits; 18 R377] -/
  key : List Byte
  /-- Last accepted REQ_SEQ. [32 bits; 18 R378] -/
  lastSeq : Nat := 0
  /-- Stored response of the last answered request. [data; 18 R378] -/
  stored : Option Response := none
  /-- LOC_RESTART has been answered, the session's last response. [1 bit; 18 R385] -/
  closing : Bool := false
  /-- Epochs without a valid request. [count; 18 R377] -/
  idle : Nat := 0
  /-- HOLD_IDs held. [at most 4; 18 R381] -/
  holds : List Nat := []
  /-- Next NSEQ and unacknowledged notifications. [32 bits, at most 64; 18 R386, R387] -/
  nseq : Nat := 1
  notes : List Notification := []
  /-- BLK_SEL, BLK_ADDR. [8, 24 bits; 18 R391] -/
  blkSel : Nat := 0
  blkAddr : Nat := 0
deriving DecidableEq, Repr, Inhabited

/-- A held snapshot (R57). -/
structure Hold where
  ident : Nat
  snap : Snapshot
  /-- Epochs since its publication. -/
  age : Nat
deriving DecidableEq, Repr, Inhabited

/-- An operator command of this unit's stations that awaits its answer. -/
structure PendingCmd where
  id : RecordId
  session : Nat
  reqSeq : Nat
  addr : Nat
  count : Nat
  port : HapPort
  dest : Nat × Nat := (0, 0)
deriving DecidableEq, Repr, Inhabited

structure Hap where
  /-- Sessions, at most one for a slot. [at most 8; 18 R376; reset empty] -/
  sessions : List Session := []
  /-- Held snapshots. [at most 4; 02 R57; reset empty] -/
  holds : List Hold := []
  /-- Requests queued. [0 to 32; 18 R371; reset 0] -/
  queue : Nat := 0
  /-- LOC_HAP_ERR AUTH, BUSY, NOTIFY_LOST. [16, 8, 8 bits; 18 R392; reset 0] -/
  auth : Nat := 0
  busy : Nat := 0
  notifyLost : Nat := 0
  /-- Commands awaiting their answers. [list; 18 R384; reset empty] -/
  awaiting : List PendingCmd := []
  /-- Unit-local commands accepted and due at E+80 µs of the next epoch: address, words, epoch of ingress,
  slot. [list; 18 R385; reset empty] -/
  localDue : List (Nat × List Word × Nat × Nat) := []
  /-- The current published snapshot. [data; 02 R55; reset none: reads serve reset values] -/
  snap : Option Snapshot := none
  /-- The last snapshot published before HOLD, which serves HOLD outside the unit-local page. [data; 19 R398; reset none] -/
  frozen : Option Snapshot := none
  /-- Publications skipped; holds at 0xFFFF. [16 bits; 02 R55, 19 R404; reset 0] -/
  skips : Nat := 0
  /-- Working keys of slots 0 to 9. [10 x 256 bits; 04 R93; reset none] -/
  keys : List (Option (List Byte)) := List.replicate 10 none
deriving DecidableEq, Repr, Inhabited

/-! ## Supply, clocks, links of this chapter (chapters 19, 23) -/

structure Supply where
  /-- PWR_A, PWR_B, input bus, uQ8.8 V; input power, uQ8.8 W. [4 x 16 bits; 19 R404; reset 0] -/
  pwrA : Nat := 0
  pwrB : Nat := 0
  bus : Nat := 0
  power : Nat := 0
  /-- WARN, A_ABSENT, B_ABSENT, HOLDUP_READY. [4 bits; 19 R404; reset 0] -/
  warn : Bool := false
  aAbsent : Bool := false
  bAbsent : Bool := false
  holdup : Bool := false
  /-- Consecutive epochs with the input below 16.0 V, and above 88 V, of A and of B. [4 counts; 23 R449, R450; reset 0] -/
  aLow : Nat := 0
  bLow : Nat := 0
  aHigh : Nat := 0
  bHigh : Nat := 0
  /-- Input disconnected for overvoltage, A and B. [2 bits; 23 R449; reset 0] -/
  aCut : Bool := false
  bCut : Bool := false
  /-- LOC_TEMP BASE, ASIC, sQ7.8. [2 x 16 bits; 19 R404; reset NaN] -/
  base : Q := none
  asic : Q := none
  /-- Temperature above the warning limit; above the operating limit. [2 bits; 19 R402; reset 0] -/
  tempWarn : Bool := false
  tempLimit : Bool := false
  /-- LOC_CLK_STATE STABLE, WARM_S; Y_PPB reads from the discipline loop. [1, 12 bits; 19 R404; reset 0, 0] -/
  stable : Bool := false
  warmS : Nat := 0
  /-- Half milliseconds since power was applied, as the unit counts them out of reset. [count; 19 R404; reset 0] -/
  powered : Nat := 0
  /-- Milliseconds (monitor's own reference) of the clock-monitor releases of the last 600 s. [list; 01 R28; reset empty] -/
  monitorReleases : List Nat := []
  /-- The clock monitor has released reset three times within 600 s: it holds its next reset until a power cycle. [1 bit; 01 R28; reset 0] -/
  monitorLatched : Bool := false
  /-- The clock monitor, the supply supervisor hold the reset that is asserted. [2 bits; 01 R28, 03 R65; reset 0] -/
  monitorHolds : Bool := false
  supplyHolds : Bool := false
  /-- STN_1, STN_2, SVC links. [2, 2, 2 bits; 19 R404; reset down] -/
  stn1 : LinkState := .down
  stn2 : LinkState := .down
  svcUp : Bool := false
  /-- FRAME_ERR. [8 bits; 19 R404; reset 0] -/
  frameErr : Nat := 0
  /-- Frames with a failed FCS on the three ports: epochs of the last 2000, newest first. [list; 19 R405; reset empty] -/
  frameErrs : List Nat := []
  /-- LOC_KEY_STATE PRESENT, CHANGES. [1, 16 bits; 19 R404; reset 0] -/
  keyPresent : Bool := false
  keyChanges : Nat := 0
  /-- Removals and insertions between the key reading and the end of LOAD, reported at the entry to SELFTEST. [count; 04 R103; reset 0] -/
  keyDue : Nat := 0
  /-- Corrected errors of the last 2000 epochs, newest first. [list; 17 R350; reset empty] -/
  eccs : List Nat := []
  /-- Corrected single-bit errors outside the tile stores since reset. [count; 01 R30; reset 0] -/
  eccOther : Nat := 0
deriving DecidableEq, Repr, Inhabited

/-! ## Slow work of the unit (chapters 2, 5, 6) -/

/-- A value with its format. -/
structure Val where
  code : Q
  fmt : Fmt
deriving DecidableEq, Repr, Inhabited

/-- A schedule in progress: results so far, newest first, first origin, marks. -/
structure Running where
  vals : List Val := []
  count : Nat := 0
  origin : Option Origin := none
  illPosed : Bool := false
  overflow : Bool := false
deriving DecidableEq, Repr, Inhabited

/-- A slow instance in progress (R53, R111, R134): its basis record, taken at E+300 µs of its basis epoch, what its slices so far have
retired, and its result once all have run. -/
structure SlowRun where
  basis : Nat
  mask : Nat
  inputs : List (AsmName × AsmInput)
  source : Option WarmSource
  /-- Results of the slices run so far (R134). -/
  run : Running := {}
  result : Option Solved
  /-- Wind force at the basis epoch (R170), and whether the estimator gate was met there (R77). -/
  wind : List Q := []
  gate : Bool := false
  /-- Berth named where BERTH-PUSH was in effect at the basis (R188, R191, R192). -/
  berth : Option Nat := none
  /-- Skillets whose tile store has met an uncorrectable error since the basis epoch (R30). -/
  lost : List Nat := []
  /-- Bundle adjustment: samples of the window at which each slot's sensor, and a GNSS baseline heading, contributed (R161). -/
  samples : List Nat := []
  baseline : Nat := 0
deriving DecidableEq, Repr, Inhabited

/-- The slow instances of the unit between their slices, each in its own region of the tile stores (R113, R134). -/
structure SlowLocal where
  /-- Plan instance in progress. [data; 02 R53; reset none] -/
  plan : Option SlowRun := none
  /-- Bundle-adjustment instance in progress. [data; 02 R53; reset none] -/
  ba : Option SlowRun := none
  /-- Instance in progress of each consequence case. [64 x data; 02 R53; reset none] -/
  cases : List (Option SlowRun) := List.replicate 64 none
deriving DecidableEq, Repr, Inhabited

/-! ## Fabric of the unit (chapter 6) -/

/-- An entry of the slot table (R131, R364): occupied and completed, origin kind, instance, schedule sequence number, result, operands. -/
structure Slot where
  occupied : Bool := false
  completed : Bool := false
  origin : Nat := 0
  cls : Nat := 0
  case : Nat := 0
  seq : Nat := 0
  result : Q := some 0
  first : Q := some 0
  second : Q := some 0
deriving DecidableEq, Repr, Inhabited

/-- A result that retirement has written into a tile store (R133): its instance, sequence number and code. -/
structure TileWord where
  cls : Nat
  case : Nat
  seq : Nat
  code : Q
deriving DecidableEq, Repr, Inhabited

structure Fabric where
  /-- VARIANT: `none` is the 8-tile variant, else the Skillet left out. [4 bits; 06 R150; reset 8] -/
  variant : Option Nat := none
  /-- Variant due at the next E+0 µs. [4 bits; 06 R145; reset none] -/
  variantDue : Option (Option Nat) := none
  /-- TEST: Skillet out of service for a test. [4 bits; 06 R150; reset 0xF] -/
  test : Option Nat := none
  /-- MARKED (tile-health record in MRAM). [8 bits; 06 R150; reset 0] -/
  marked : List Nat := []
  /-- LOC_SKL_SWITCHES. [32 bits; 06 R150; reset 0] -/
  switches : Nat := 0
  /-- LOC_SKL_RELOC. [21 bits; 06 R150; reset 0] -/
  reloc : Nat := 0
  /-- LOC_LDL_SLOTS PEAK, STALLS. [10, 16 bits; 06 R150; reset 0] -/
  peak : Nat := 0
  stalls : Nat := 0
  /-- LOC_SKL_ECC. [32 bits; 06 R150; reset 0] -/
  ecc : Nat := 0
  /-- Skillets whose tile store met an uncorrectable error in this epoch: their instances fail. [list; 01 R30; reset empty] -/
  broken : List Nat := []
  /-- The variant before the change of this epoch, while live regions are relocated. [4 bits; 06 R145; reset none] -/
  moving : Option (Option Nat) := none
  /-- Held warm-start sources, by class and case, that lost a word to such an error. [list; 01 R30, 06 R145; reset empty] -/
  lostSources : List (Nat × Nat) := []
  /-- The tile stores of Skillets 0 to 7: what retirement wrote of each instance's latest run. [8 x 1 MB; 06 R129, R133; reset empty] -/
  tiles : List (List TileWord) := List.replicate 8 []
  /-- The slot table, entry 64 × tile + slot; a freed entry keeps its last operation. [512 x 32 octets; 06 R131, 17 R364; reset empty] -/
  slots : List Slot := List.replicate 512 {}
deriving DecidableEq, Repr, Inhabited

/-! ## Panel (chapter 20) -/

structure Panel where
  /-- Frame memory, the image committed to the glass: octets that are not zero, by offset. [9472 octets; 20 R407; DESIGN CHOICE 0, white (log 1)] -/
  frame : List Host.Cell := []
  /-- CRC-32 of the committed image as the journal holds it. [32 bits; 20 R414; reset that of the frame] -/
  crc : Nat := 0x756E00D3
  /-- STATE: 0 idle, 1 partial, 2 full. [2 bits; 20 R419; reset 0] -/
  state : Nat := 0
  /-- Rows of the update in progress still to drive, ascending, with their new content. [at most 128; 20 R409; reset empty] -/
  rows : List (Nat × List Byte) := []
  /-- ROW being driven. [8 bits; 20 R419; reset none] -/
  row : Option Nat := none
  /-- Epochs since the line in progress started. [count; 20 R410; reset 0] -/
  rowFor : Nat := 0
  /-- A compensation line is being driven on that row. [1 bit; 20 R413; reset 0] -/
  compensating : Bool := false
  /-- Rows already compensated in this update. [list; 20 R413; reset empty] -/
  compensated : List Nat := []
  /-- Intent record in MRAM: rows not committed. [list; 20 R416; reset empty] -/
  intent : List (Nat × List Byte) := []
  /-- Rows to be driven with the full-refresh waveform at the next update (close-out incomplete). [list; 20 R416; reset empty] -/
  fullRows : List Nat := []
  /-- Band in force; band of the readings, which the next group start takes; band of the most recent full refresh. [3 x 3 bits; 20 R411, R412; reset 0] -/
  band : Nat := 0
  bandSeen : Nat := 0
  fullBand : Nat := 0
  /-- FULL_PENDING. [1 bit; 20 R412; reset 0] -/
  fullPending : Bool := false
  /-- SUSPENDED, FROZEN, CRACK. [3 bits; 20 R411, R415; reset 0] -/
  suspended : Bool := false
  frozen : Bool := false
  crack : Bool := false
  /-- Panel temperature, sQ7.8. [16 bits; 20 R419; reset NaN] -/
  temp : Q := none
  /-- LINES, FULL, CRC. [16, 8, 8 bits; 20 R419; reset 0] -/
  lines : Nat := 0
  fulls : Nat := 0
  mismatches : Nat := 0
  /-- Balance records that are not zero: (row × 296 + column, balance), ascending. [37 888; 20 R413; reset 0] -/
  balance : List (Nat × Int) := []
  /-- The update in progress is the first of this start. [1 bit; 20 R417; reset 1] -/
  first : Bool := true
  /-- "RECOVERY" has been written into the MODE field. [1 bit; 20 R417; reset 0] -/
  recovery : Bool := false
  /-- The most recent alarm raised in this unit's state: event, operating time. [data; 20 R408; reset none] -/
  lastAlarm : Option (Nat × Nat) := none
deriving DecidableEq, Repr, Inhabited

/-! ## Kettle and life cycle (chapter 21) -/

structure Kettle where
  /-- Rotation position P of the next opportunity. [count; 21 R422; reset 0] -/
  pos : Nat := 0
  /-- POS, KIND, ITEM of the most recent opportunity; KIND 3 none yet. [8, 2, 8 bits; 21 R434; reset KIND 3] -/
  lastPos : Nat := 0
  lastKind : Nat := 3
  lastItem : Nat := 0
  /-- A slice is in progress: kind, item, epoch of its opportunity, directed. [data; 21 R423; reset none] -/
  running : Option (Nat × Nat × Nat × Bool) := none
  /-- Directed tests pending, in order: Skillets. [list; 21 R426; reset empty] -/
  directed : List Nat := []
  /-- Slices held by spares 252 and 253; withdrawn; used (tile-health record). [8, 8, 2, 2 bits; 21 R434; reset 0] -/
  slice0 : Nat := 0
  slice1 : Nat := 0
  withdrawn0 : Bool := false
  withdrawn1 : Bool := false
  used0 : Bool := false
  used1 : Bool := false
  /-- Slice to be retired at the next E+0 µs. [8 bits; 21 R427; reset none] -/
  retireDue : Option Nat := none
  /-- LOC_KTL_LAST: kind, found in SELFTEST, retired, item, count. [32 bits; 21 R434; reset 0] -/
  failKind : Nat := 0
  failStart : Bool := false
  failRetired : Bool := false
  failItem : Nat := 0
  failCount : Nat := 0
  /-- Manual action in progress: code, item. [12 bits; 21 R429; reset none] -/
  manual : Option (Nat × Nat) := none
  /-- The manual action waits for a slice in progress, and for its Skillet's return. [1 bit; 01 R35, 21 R429; reset 0] -/
  manualHeld : Bool := false
  /-- LOC_KTL_MRESULT RESULT, CODE, ITEM. [14 bits; 21 R434; reset 0] -/
  mResult : Nat := 0
  mCode : Nat := 0
  mItem : Nat := 0
  /-- Skillets that passed manual test 0x1 since the current start. [list; 21 R430; reset empty] -/
  mPassed : List Nat := []
  /-- Skillets whose next test is made to fail (0xA). [list; 21 R429; reset empty] -/
  injectFail : List Nat := []
  /-- Words made faulty by injection: (slice, uncorrectable). [list; 21 R429; reset empty] -/
  injected : List (Nat × Bool) := []
  /-- Entries to be removed from the tile-health record at the next start: SPARES, SKILLETS. [9 bits; 21 R430; reset 0] -/
  clearSpares : Bool := false
  clearSkillets : List Nat := []
  /-- Opportunities since each item of R422 was last tested: Skillets 0 to 7, slices 128 to 255, chunks 0 to 31. [168 counts; 21 R428; reset 0] -/
  untested : List Nat := List.replicate 168 0
deriving DecidableEq, Repr, Inhabited

structure Life where
  /-- Life-cycle state (MRAM). [2 bits; 21 R431, R434; reset FACTORY] -/
  state : LifeCycle := .factory
  /-- Transitions since manufacture. [8 bits; 21 R434; reset 0] -/
  count : Nat := 0
deriving DecidableEq, Repr, Inhabited

/-! ## Update manager and boot header (chapter 22) -/

/-- The figures of a firmware set, from its manifest (R435, R436): manifest digest (most significant 64 bits), versions, and
the image formats it accepts. -/
structure FwSet where
  digest : Nat
  secVer : Nat
  version : Nat
  imgMajor : Nat
  imgMinor : Nat
  gnssA : Nat
  gnssB : Nat
  ucode : Nat
  panelWf : Nat
deriving DecidableEq, Repr, Inhabited

/-- A bank and what the boot header holds of it (R442). -/
structure Bank where
  state : BankState := .empty
  /-- Figures of the manifest copied into the bank since delivery; `none` is the set delivered with the module. -/
  fw : Option FwSet := none
  /-- Its octets that do not read as erased, by offset, since such a copy (R436, R440). -/
  content : List Host.Cell := []
  /-- CRC-32C of its 32 chunks of 1 MB, recorded at activation (R425, R440). -/
  chunks : List Nat := []
  /-- The bank was written by RECOVERY (R446). -/
  byRecovery : Bool := false
deriving DecidableEq, Repr, Inhabited

structure Update where
  /-- STATE 0 to 7 of LOC_UPD_STATE. [4 bits; 22 R448; reset 0] -/
  state : Nat := 0
  /-- FAULT. [8 bits; 22 R448; reset 0] -/
  fault : Nat := 0
  /-- PROGRESS, MB. [8 bits; 22 R448; reset 0] -/
  progress : Nat := 0
  /-- Roster slot to which staging is bound. [3 bits; 22 R437; reset none] -/
  slot : Option Nat := none
  /-- Staging octets that do not read as erased, by offset. [48 MB; 22 R436; DESIGN CHOICE erased flash reads 0xFF (log 2)] -/
  staging : List Host.Cell := []
  /-- Verified manifest digest. [64 bits; 22 R448; reset 0] -/
  staged : Nat := 0
  /-- Commit record in the boot header: digest. [64 bits; 22 R439; reset none] -/
  commit : Option Nat := none
  /-- Banks A and B. [2; 22 R442; reset A CONFIRMED (00 R1), B EMPTY] -/
  bankA : Bank := { state := .confirmed }
  bankB : Bank := {}
  /-- Selected bank; running bank. [2 x 1 bit; 22 R442, R448; reset A] -/
  selected : Side := .one
  running : Side := .one
  /-- Boot-attempt count of the PROVISIONAL bank. [4 bits; 22 R443, R448; reset 0] -/
  attempts : Nat := 0
  /-- ROLLBACK. [4 bits; 22 R448; reset 0] -/
  rollback : Nat := 0
  /-- The bank fell to FAILED on trial: word 1 of the next EV_023 is 0x2. [1 bit; 22 R445; reset 0] -/
  trialFailed : Bool := false
  /-- Security floor. [16 bits; 22 R448; reset 0] -/
  floor : Nat := 0
  /-- Partner's latest update status frame. [data; 22 R444; reset none] -/
  partner : Option UpdateStatusBody := none
  /-- RECOVERY: verified content in staging; SEQ, OP and STATUS of the last answered request. [data; 22 R446; reset none] -/
  recVerified : Bool := false
  recSeq : Option Nat := none
  recOp : Nat := 0
  recStatus : Nat := 0
deriving DecidableEq, Repr, Inhabited

end Sys2Proof.Machine
end

