-- ==== Sys2Proof/Machine/State.lean ====
section
/-! DEFINITION. The state of one XN-960: everything the manual gives the module, as plain data. The mirrored control
state is `mir`; everything else is the unit's own (R313). -/

namespace Sys2Proof.Machine

/-- The mirrored state (R313), block by block. -/
structure Mirrored where
  /-- The epoch number as the pages hold it: from E+0 µs on that of the unit. [48 bits; 15 R313; reset 0] -/
  epoch : Nat := 0
  /-- Mode, function and their epochs. [03, 19] -/
  mode : ModeState := {}
  /-- Mortar. [05] -/
  mrt : Mortar := {}
  /-- Ladle. [06] -/
  ldl : Ladle := {}
  /-- State estimator. [07] -/
  est : Estimator := {}
  /-- Bundle adjustment. [07] -/
  ba : Bundle := {}
  /-- Articulated-body model. [07] -/
  abm : Model := {}
  /-- Thrust allocation. [08] -/
  alc : Allocation := {}
  /-- Predictive plan. [08] -/
  mpc : PlanState := {}
  /-- Consequence analysis. [08] -/
  cqa : Consequence := {}
  /-- Whisk. [09] -/
  wsk : Whisk := {}
  /-- GNSS A and GNSS B. [10] -/
  gnA : GnssRef := {}
  gnB : GnssRef := {}
  /-- Committed time state. [11] -/
  tim : TimeMirror := {}
  /-- Sieve chains. [16; 12 R264; reset as ChainMirror] -/
  siv : List ChainMirror := List.replicate 16 {}
  /-- Field buses. [14] -/
  fld : FieldMirror := {}
  /-- The pair. [15] -/
  pair : PairMirror := {}
  /-- Trivet. [16] -/
  trv : TrivetMirror := {}
  /-- Event banks. [17] -/
  evt : EventMirror := {}
deriving DecidableEq, Repr, Inhabited

/-- The configuration as LOAD left it (R100, R108). -/
structure Config where
  /-- IMAGE_VALID. [1 bit; 04 R108; reset 0] -/
  valid : Bool := false
  /-- CFG_FAULT CODE. [8 bits; 04 R108; reset 0] -/
  fault : Nat := 0
  /-- The image in force; every CFG_ register reads from it once valid. [at most 2 MB; 04 R102; reset none: an empty image] -/
  image : Image := {}
  /-- The unit's own addresses, taken from the networks section by the UNIT_SEL strap. [data; 04 R95; reset none: all zero] -/
  net : NetDecl := {}
deriving DecidableEq, Repr, Inhabited

/-- A PTP message that the unit sends (R250): kind as in PTP_MESSAGE_SEND, sequenceId, domainNumber, the port identity that it comes from, the
time it carries in ns, the port identity that it answers, correctionField in 2⁻¹⁶ ns, and what an Announce says of the grandmaster and of
TAI − UTC. Version 2.1. -/
structure PtpMessage where
  kind : Nat
  seq : Nat
  domain : Nat
  source : Nat
  time : Nat := 0
  requester : Nat := 0
  correction : Int := 0
  clock : Option ClockData := none
  utc : Option Int := none
deriving DecidableEq, Repr, Inhabited

/-- A frame, message or datagram that the unit sends. -/
inductive OutFrame where
  /-- Tongs record frame (R311 type 0x41): INDEX, COUNT, records. -/
  | record (index count : Nat) (records : List InRecord)
  /-- Tongs acknowledgement (0x42). -/
  | ack (ids : List RecordId)
  /-- Tongs digest frame (0x43). -/
  | digest (body : DigestBody)
  /-- Tongs heartbeat (R312). -/
  | heartbeat (body : HeartbeatBody)
  /-- Tongs page frame (0x45): INDEX, COUNT, page, content. -/
  | page (index count number : Nat) (content : List Byte)
  /-- Tongs audit frame (0x46). -/
  | audit (first : Nat) (digests : List Nat)
  /-- Tongs arbitration outcome (0x47). -/
  | outcome (isMatch : Bool)
  /-- Tongs update status frame (R444). -/
  | updateStatus (body : UpdateStatusBody)
  /-- Ring command frame (R272). -/
  | command (f : CommandFrame)
  /-- Ring heartbeat (R281). -/
  | ringHeartbeat (f : RingHeartbeat)
  /-- Ring frame forwarded to a port with its correctionField (R251, R266). -/
  | forwarded (port : Side) (source hsrSeq : Nat) (correction : Int)
  /-- HSR supervision frame (R266): its own sequence number and the node's source address. -/
  | supervision (seq node : Nat)
  /-- CAN message transmitted: bus, message, identifier, ESI, payload (R286, R288, R295, R297, R299). -/
  | can (bus message : Nat) (ident : CanId) (esi : Bool) (payload : List Byte)
  /-- PPS message (R236): UNIT, FLAGS, EDGE_TIME, QERR, UNCERT, STEP. -/
  | pps (unit : UnitId) (flags edge qerr uncert : Nat) (step : Int)
  /-- PTP message on a station or ring port (R250). -/
  | ptp (port : Side) (ring : Bool) (m : PtpMessage)
  /-- HAP response, or a notification as one with OP 0x10 (R374, R386). -/
  | response (r : Response)
  /-- RECOVERY response (R446): OP, SEQ, STATUS, and the address and UDP port to which it goes. -/
  | recovery (op seq status : Nat) (dest : Nat × Nat)
deriving DecidableEq, Repr

/-- A frame with what its header says of its sender: epoch number, unit and role (R272, R281, R310), and the HSR sequence number that both
copies of a ring frame carry (R266). -/
structure Sent where
  frame : OutFrame
  epoch : Nat
  unit : UnitId
  role : Role
  hsrSeq : Nat
deriving DecidableEq, Repr

/-- The state of the block. -/
structure State where
  /-- Mode, role, strap. [01, 03] -/
  um : UnitMode := {}
  /-- Epoch, exchange, commitment, digests. [02] -/
  ex : Exchange := {}
  /-- Configuration. [04] -/
  cfg : Config := {}
  /-- Fabric variant, marks, slot table occupancy. [06] -/
  fab : Fabric := {}
  /-- Slow instances in progress. [02, 06] -/
  slow : SlowLocal := {}
  /-- GNSS engines. [10] -/
  gnA : Engine := {}
  gnB : Engine := {}
  /-- Time unit. [11] -/
  time : TimeUnit := {}
  /-- Sieve. [12] -/
  siv : SieveLocal := {}
  /-- Ring interface. [13] -/
  rng : RingLocal := {}
  /-- CAN buses and serial ports. [14] -/
  fld : FieldLocal := {}
  /-- Tongs, paths, phases, lock. [15] -/
  pair : PairLocal := {}
  /-- Trivet. [16] -/
  trv : TrivetLocal := {}
  /-- Unit-local events. [17] -/
  evt : EventLocal := {}
  /-- Event recorder. [17] -/
  log : Recorder := {}
  /-- Fatal dump. [17] -/
  dmp : Dump := {}
  /-- Host access. [18] -/
  hap : Hap := {}
  /-- Supply, clocks, station links, key presence. [19, 23] -/
  sup : Supply := {}
  /-- Status panel. [20] -/
  pnl : Panel := {}
  /-- Kettle. [21] -/
  ktl : Kettle := {}
  /-- Life cycle. [21] -/
  life : Life := {}
  /-- Update manager and boot header. [22] -/
  upd : Update := {}
  /-- The mirrored state. [15 R313] -/
  mir : Mirrored := {}
  /-- Frames sent in the current epoch, newest first. [list; 02 R41; reset empty] -/
  out : List Sent := []
  /-- The mirrored state as it stands at E+80 µs, from which a re-run of fast work starts. [as R313; 02 R51; reset none] -/
  saved : Option Mirrored := none
  /-- THE MODEL'S OWN: number of free values drawn so far (DESIGN CHOICE 0, log 3). [count; -; DESIGN CHOICE 0 (log 3)] -/
  free : Nat := 0
  /-- THE MODEL'S OWN: the commands that are waiting, first in, first out. [list; -; empty] -/
  pending : List Instr := []
deriving DecidableEq, Repr

/-- Reasons for which the block stops. It has none: every command of the table has an effect in every state, so no
meaning raises the one reason named here. Safe. -/
inductive Fault where
  /-- Never raised: an internal contradiction of the block. Safe: nothing answers with it. -/
  | contradiction
deriving DecidableEq, Repr

/-- Reasons for which a command has no meaning. -/
inductive Refusal where
  /-- Raised by an arm of `exec` whose command is not modelled yet, by its mnemonic. Safe: the machine stops. -/
  | notModelled (mnemonic : String)
deriving DecidableEq, Repr

/-- The machine right after reset: BOOT, relay closed, both alarm relays de-energised, nothing committed, the
registers at the Reset column of their tables (R398), no command waiting. -/
def State.reset : State := {}

end Sys2Proof.Machine
end

