-- ==== Sys2Proof/Config.lean ====
section
/-! DEFINITION. What an installation fixes, and the free values: constants without a body, so that nothing proved of the
model can rest on what they are. Each is a value, a format or a numerical method that the manual leaves to the maker
or does not give. -/

namespace Sys2Proof.Cfg

open Sys2Proof Sys2Proof.Machine

/-- The n-th open value, drawn where the manual lets the machine go on with a value it does not state (log 3). -/
opaque freeValue : Nat → Nat

/-! ## Identity (R399, R404): fixed by firmware, board and ASIC -/

/-- The firmware set delivered with the module: its manifest's figures. -/
opaque delivered : FwSet
/-- The module's 64-bit serial number. -/
opaque serial : Nat
opaque boardRevision : Nat
opaque asicRevision : Nat

/-! ## Signatures (R92, R96) -/

/-- Ed25519 verification of a signature over a message under a public key. -/
opaque ed25519 : (key msg sig : List Byte) → Bool
/-- Berlor's configuration root key, key-identity root key, and the revoked signer IDs. -/
opaque configRoot : List Byte
/-- Berlor's firmware root key, in mask ROM (R438). -/
opaque firmwareRoot : List Byte
opaque revoked : List Nat
/-- The device public key in a certificate that verifies against Berlor's key-identity root; `none` if it does not. -/
opaque certificateKey : List Byte → Option (List Byte)

/-! ## Functions that the tiles compute by one fixed method, within 1 code of the exact value (R119) -/

/-- How far from the nearest code the method's result lies, for sine and cosine of an angle code and for an arctangent. -/
opaque sineError : Int → Int
opaque cosineError : Int → Int
opaque arctangentError : Int → Int → Int

/-! ## Nymnil's encodings -/

/-- What the sections declare, given the image's octets; header fields are read exactly elsewhere. -/
opaque decodeSections : List Byte → Image
/-- The content of a 4 KB page of the mirrored region: Nymnil places the mirrored state (R313, R314). -/
opaque mirrorPage : Mirrored → Nat → List Byte
/-- The mirrored state after a page's content has been written into the region. -/
opaque mirrorLoad : Mirrored → Nat → List Byte → Mirrored

/-- Where in an instance a word lost from a tile store shows first (R30): its kind among 0x2 to 0x4, iteration, variable. -/
opaque tileOrigin : (cls case skillet : Nat) → Origin

/-! ## Sieve (chapter 12): the factory gain and offset of an input, as fractions -/

/-- Gain in sQ5.26 codes per unit of the accumulator, and offset in codes, over one denominator (R258): by input, current
or voltage range, and mode of the chain. -/
opaque sieveGain : (input : Nat) → (current settling : Bool) → Int
opaque sieveOffset : (input : Nat) → (current settling : Bool) → Int
opaque sieveDen : (input : Nat) → (current settling : Bool) → Nat

/-! ## Time (chapter 11) -/

/-- Variance in fs² of a measurement by its carrier-to-noise ratio and elevation (R227); of the broadcast ionosphere model by elevation
(R221). Log 133. -/
opaque rangeVariance : (cn0 elevationMdeg : Nat) → Nat
/-- Carrier-to-noise ratio in thousandths of dB-Hz by the prompt correlator (R224), whose estimator the manual does not give (log 165). -/
opaque carrierToNoise : (before : Nat) → (prompt : Int × Int) → Nat
/-- Whether a signal was excluded for multipath, by a committed position record (log 139). -/
opaque signalExcluded : (payload : List Byte) → Bool
opaque ionoVariance : (elevationMdeg : Nat) → Nat

/-- Bound on the sum of squared normalised residuals of an antenna, with 16 fraction bits, by the false-alarm probability and the number
of its measurements (R228). Log 133. -/
opaque residualBound : (falseAlarm measurements : Nat) → Nat

/-- Fit of a direct path and one reflection to the nine correlator magnitudes of a signal (R225): relative amplitude in thousandths,
delay in thousandths of a chip. Log 135. -/
opaque reflection : (system band : Nat) → (magnitudes : List Nat) → Nat × Nat

/-- Receive and transmit latency in ns of an Ethernet port, calibrated at manufacture (R252): RING_1, RING_2, STN_1, STN_2, SVC,
TONGS_1, TONGS_2, numbered from 0. Log 142. -/
opaque rxLatency : (port : Nat) → Nat
opaque txLatency : (port : Nat) → Nat

/-- One second of the proportional-integral loop of R242, whose gains the manual does not give: time constant in s, the
loop's memory, the source's offset in ps and the offset still to be slewed out in 2⁻³² ns; it gives the memory and the
estimate of y in 2⁻⁴⁸. -/
opaque disciplineLoop : (tau : Nat) → (memory : List Int) → (offset slewLeft : Int) → List Int × Int
/-- Whether the standard deviation of R246 divides by one less than the number of offsets. -/
opaque sampleDivisor : Bool
/-- The unit's PTP clock: its 64-bit clockIdentity, and clockAccuracy by reported uncertainty and offsetScaledLogVariance, which R250
leaves to IEEE 1588. -/
opaque clockIdentity : Nat
opaque clockAccuracy : (uncertainty : Nat) → Nat
opaque clockVariance : (uncertainty : Nat) → Nat

/-! ## Panel (chapter 20): the firmware's font, the spacing of a field's parts, the waveform tables -/

/-- The text of a field of several parts, other than GRADE. -/
opaque panelText : (field : Nat) → (parts : List (List Nat)) → List Nat
/-- The pixel of a character in the font: 8 × 8 or 16 × 16, by row and column. -/
opaque glyph : (double : Bool) → (char row col : Nat) → BitVec 2
/-- A row of the glass after the mask ROM has written "RECOVERY" into the MODE field with its own waveform (R417), and the net
drive frames that this leaves on its pixels. -/
opaque recoveryRow : (row : Nat) → (old : List Byte) → List Byte
opaque recoveryBalance : (row : Nat) → (old : List Byte) → List Int
/-- Net drive frames that a row's waveform leaves on each of its 296 pixels: full refresh or not, band, old and new content. -/
opaque rowBalance : (full : Bool) → (band : Nat) → (old new : List Byte) → List Int

/-! ## Sensor payloads, by the field map declared for their source (R304), which Nymnil compiles -/

/-- The time-of-day field of a record's payload, in ns (R305). -/
opaque tagField : (content : List Byte) → (source : Nat) → (payload : List Byte) → Option Nat
/-- A motion reference unit's record: nine quantities of R198 when its own status word reports valid. -/
opaque decodeMotion : (content : List Byte) → (source : Nat) → (payload : List Byte) → Option (List Q)

/-- A position reference's record other than GNSS (R200, R203): the earth position of its measuring point, or the vector to its
anchor in sensor axes, and the deviations and correlation where it reports them. -/
structure FixRead where
  vector : Vec3 := {}
  sigma : Option (Int × Int × Int) := none
deriving DecidableEq, Repr, Inhabited

/-- That record, when valid. -/
opaque decodeFix : (content : List Byte) → (source : Nat) → (payload : List Byte) → Option FixRead
/-- A gyrocompass record: heading, and the standard deviation where it reports one, when valid. -/
opaque decodeHeading : (content : List Byte) → (source : Nat) → (payload : List Byte) → Option (Int × Option Int)
/-- A wind sensor's record: relative wind along its own x and y axes, sQ10.21, when valid. -/
opaque decodeWind : (content : List Byte) → (source : Nat) → (payload : List Byte) → Option (Int × Int)
/-- A draft input's record: draft, when valid. -/
opaque decodeDraft : (content : List Byte) → (source : Nat) → (payload : List Byte) → Q

/-! ## Means whose weights do not exist (R206, R213, R216): a deviation of zero, or a correlation of one -/

/-- Fused position and covariance from positions, deviations, correlations and halved weights. -/
opaque singularMean : List (Int × Int × Int × Int × Int × Bool) → Int × Int × List Int
/-- Fused heading and deviation from headings, deviations and halved weights. -/
opaque singularHeading : List (Int × Int × Bool) → Int × Int
/-- Fused velocity and variance from two velocities without variance. -/
opaque singularVelocity : (inertial reference : Q × Q) → Q × Q × Q

/-! ## The step of 500 µs (R154, R165, R166), whose integration rule the manual does not give -/

/-- The nine states propagated over one epoch with the hull accelerations, and the factor to which the stacked rows of process noise and of
the prior are reduced (R153, R154, R166). -/
opaque propagate : (content : List Byte) → Estimate → (rows : List (List AsmInput)) → (hull : List Q) → Estimate × List AsmInput
/-- A joint's coordinate and rate after 500 µs at an acceleration. -/
opaque advanceJoint : (coordinate rate acceleration : Q) → Q × Q

/-- What the recursion adds to the force of surge, sway and yaw besides the forces that the manual names: products of velocities and the reaction
of the joints (R165, log 164). -/
opaque recursionTerms : (AsmName → Rat) → Nat → Rat

/-! ## Allocation, plan and cases (chapter 8) -/

/-- What the maker's propagation over a stage adds to the rates times the stage's length (R182, log 164). -/
opaque propagationTerms : (AsmName → Rat) → (length : Rat) → (rates : Nat → Rat) → Nat → Rat

/-- The value of a declared curve beyond its first and last point. -/
opaque beyondCurve : (points : List (Int × Int)) → (x : Int) → Int
/-- Whether unit j's constraint of a QTY is active at an allocation's solution (R194). -/
opaque constraintActive : (content : List Byte) → (values : List (Nat × Int)) → (unit qty : Nat) → Bool

end Sys2Proof.Cfg
end

