-- ==== Sys2Proof/Machine/Bits.lean ====
section
/-! DEFINITION. Bit fields, octets in order, rounding and the codes of the fixed-point formats (R6, R8 to R14, R121,
R397), and the list operations the model is written with. -/

namespace Sys2Proof.Machine

/-! ## Counting -/

/-- A counter of `w` bits that holds at all ones. -/
def bump (w n : Nat) : Nat := min (n + 1) (2 ^ w - 1)

/-- Epoch a is newer than epoch b on the low 32 bits (R6). -/
def newer (a b : Nat) : Bool :=
  let d := (a + 2 ^ 32 - b % 2 ^ 32) % 2 ^ 32
  1 ≤ d && d ≤ 2 ^ 31 - 1

/-- The 48-bit epoch count (R6). -/
def epochWrap (n : Nat) : Nat := n % 2 ^ 48

/-! ## Octets, big-endian (R14) -/

/-- The value's `n` octets, most significant first. -/
def beBytes : Nat → Nat → List Byte
  | 0, _ => []
  | n + 1, v => BitVec.ofNat 8 (v / 256 ^ n) :: beBytes n v

/-- The number that octets spell, most significant first. -/
def beNat (bs : List Byte) : Nat := bs.foldl (fun a b => a * 256 + b.toNat) 0

/-- `n` octets of a list from offset `o`, as a number. -/
def octets (bs : List Byte) (o n : Nat) : Nat := beNat ((bs.drop o).take n)

/-- A word's four octets. -/
def wordBytes (w : Word) : List Byte := beBytes 4 w.toNat

/-- The words that octets spell, four at a time. -/
def bytesWords : List Byte → List Word
  | a :: b :: c :: d :: r => BitVec.ofNat 32 (beNat [a, b, c, d]) :: bytesWords r
  | _ => []

/-! ## Fields (R12) -/

/-- Field [hi:lo] of a word. -/
def fieldOf (w : Word) (hi lo : Nat) : Nat := (w.toNat / 2 ^ lo) % 2 ^ (hi - lo + 1)

/-- Bit b of a word. -/
def bitOf (w : Word) (b : Nat) : Bool := fieldOf w b b = 1

/-- A word put together from fields (value, width, lowest bit); each value is cut to its width. -/
def pack (fs : List (Nat × Nat × Nat)) : Word :=
  BitVec.ofNat 32 (fs.foldl (fun a f => a + f.1 % 2 ^ f.2.1 * 2 ^ f.2.2) 0)

def flag (b : Bool) : Nat := if b then 1 else 0

/-- The number whose bits are the members of a list. -/
def bitSet (l : List Nat) : Nat := l.foldl (fun a b => a ||| 2 ^ b) 0

/-- The set bits below `n` of a number, ascending. -/
def bitsOf (n v : Nat) : List Nat := (List.range n).filter fun i => v.testBit i

/-! ## Fixed-point codes (R8, R9, R397) -/

/-- Code of a signed value in a field of `w` bits; NaN is the sign bit alone, and so is a value beyond the field's range (R9, R397). -/
def codeS (w : Nat) : Q → Nat
  | some v => if v < 2 ^ (w - 1) ∧ -(2 ^ (w - 1)) < v then (v % (2 ^ w : Int)).toNat else 2 ^ (w - 1)
  | none => 2 ^ (w - 1)

/-- Code of an unsigned value in a field of `w` bits; NaN is all ones, and so is a value beyond the field's range (R9, R397). -/
def codeU (w : Nat) : Q → Nat
  | some v => if 0 ≤ v ∧ v < 2 ^ w - 1 then v.toNat else 2 ^ w - 1
  | none => 2 ^ w - 1

/-- Code of a reading in a 16-bit unsigned field (R397). -/
def code16 (n : Nat) : Nat := codeU 16 (some n)

def wordS (q : Q) : Word := BitVec.ofNat 32 (codeS 32 q)
def wordU (q : Q) : Word := BitVec.ofNat 32 (codeU 32 q)

/-- Value of a signed code of `w` bits. -/
def qS (w n : Nat) : Q :=
  if n = 2 ^ (w - 1) then none else some (if n < 2 ^ (w - 1) then (n : Int) else (n : Int) - 2 ^ w)

/-- Value of an unsigned code of `w` bits. -/
def qU (w n : Nat) : Q := if n = 2 ^ w - 1 then none else some n

def wordQ (w : Word) : Q := qS 32 w.toNat

/-- Two's-complement number of `w` bits, with no NaN code. -/
def signed (w n : Nat) : Int := if n < 2 ^ (w - 1) then (n : Int) else (n : Int) - 2 ^ w

/-- A signed value outside the range of a 32-bit signed format is NaN; nothing saturates (R9). -/
def rangeS (v : Int) : Q := if v ≤ 2 ^ 31 - 1 ∧ -(2 ^ 31 - 1) ≤ v then some v else none

/-- An unsigned value outside its range is NaN (R9). -/
def rangeU (v : Int) : Q := if 0 ≤ v ∧ v ≤ 2 ^ 32 - 2 then some v else none

/-- The nearest integer to v / d, halfway cases to the even one (R10). -/
def roundDiv (v : Int) (d : Nat) : Int :=
  let q := v / (d : Int)
  let r := v % (d : Int)
  if 2 * r > d then q + 1 else if 2 * r = d ∧ q % 2 = 1 then q + 1 else q

/-- The same of two numbers that are not negative. -/
def nearestNat (v d : Nat) : Nat := (roundDiv v d).toNat

/-- Narrowing of an exact value with f fraction bits to a signed format with n (R121). -/
def narrow (f n : Nat) (v : Int) : Q :=
  rangeS (if f > n then roundDiv v (2 ^ (f - n)) else v * 2 ^ (n - f))

/-- A sum of products as the 64-bit accumulator holds it: beyond its range it is NaN (R8, R9). -/
def acc64 (v : Int) : Q := if v ≤ 2 ^ 63 - 1 ∧ -(2 ^ 63 - 1) ≤ v then some v else none

/-- A sum of accumulator terms, taken in order: one partial sum out of range makes it NaN (R8, R9). -/
def sumAcc (l : List Q) : Q := l.foldl (fun a x => a.bind fun y => x.bind fun v => acc64 (y + v)) (some 0)

/-- Partial sums of exact terms, each a multiple of 1 / `unit` of an accumulator code: beyond the 64-bit range the sum is NaN (R8,
R9; which fraction bits the accumulators of Whisk and of the demand have, log 110). -/
def accSum (unit : Nat) (terms : List Int) : Q :=
  terms.foldl (fun a x => a.bind fun y => if (y + x).natAbs ≤ (2 ^ 63 - 1) * unit then some (y + x) else none) (some 0)

/-- A sum within the signed format (R119). -/
def qAdd (a b : Q) : Q := a.bind fun x => b.bind fun y => rangeS (x + y)

/-- Put into a list sorted by `le`, after its equals. -/
def insertBy {α : Type} (le : α → α → Bool) (x : α) : List α → List α
  | [] => [x]
  | y :: r => if le y x then y :: insertBy le x r else x :: y :: r

/-- Sorted by `le`; equals keep their order. -/
def sortBy {α : Type} (le : α → α → Bool) (l : List α) : List α := l.foldl (fun a x => insertBy le x a) []

/-- The median of three or more, an even count taking the mean of the middle two (R198, R217); the mean of two. -/
def medianOf (l : List Int) : Q :=
  let s := sortBy (fun a b => decide (a ≤ b)) l
  match s.length with
  | 0 => none
  | n + 1 =>
    if (n + 1) % 2 = 1 then s[n / 2]? else
      (s[n / 2]?).bind fun a => (s[n / 2 + 1]?).map fun b => roundDiv (a + b) 2

/-! ## Lists -/

/-- Element `i` changed by `f`; nothing happens out of range. -/
def modAt {α : Type} (l : List α) (i : Nat) (f : α → α) : List α := l.modify i f

/-- Every element changed by a function of its index. -/
def mapAt {α β : Type} (l : List α) (f : Nat → α → β) : List β := l.mapIdx f

/-- Put into an ascending list without repeats. -/
def insertNat (x : Nat) : List Nat → List Nat
  | [] => [x]
  | y :: r => if x < y then x :: y :: r else if x = y then y :: r else y :: insertNat x r

/-- Value bound to a key. -/
def lookupNat {β : Type} (k : Nat) : List (Nat × β) → Option β
  | [] => none
  | (a, b) :: r => if a = k then some b else lookupNat k r

/-- Bind a key in a list of ascending keys. -/
def insertKey {β : Type} (k : Nat) (v : β) : List (Nat × β) → List (Nat × β)
  | [] => [(k, v)]
  | (a, b) :: r => if k < a then (k, v) :: (a, b) :: r else if k = a then (k, v) :: r else (a, b) :: insertKey k v r

/-- Add a span of words [a, b) to an ascending list of disjoint spans. -/
def addSpan (a b : Nat) : List (Nat × Nat) → List (Nat × Nat)
  | [] => [(a, b)]
  | (c, d) :: r =>
    if b < c then (a, b) :: (c, d) :: r
    else if d < a then (c, d) :: addSpan a b r
    else addSpan (min a c) (max b d) r

/-! ## Addressed octets: memory in one canonical form -/

/-- The memory's form: addresses rising, no entry equal to what an unlisted address reads as. -/
def Memory.wf (dflt : Byte) (m : List (Nat × Byte)) : Bool :=
  match m with
  | [] => true
  | (_, v) :: [] => v != dflt
  | (a, v) :: (b, w) :: r => v != dflt && decide (a < b) && Memory.wf dflt ((b, w) :: r)

/-- Read one octet. -/
def memRead (dflt : Byte) (m : List (Nat × Byte)) (a : Nat) : Byte := (lookupNat a m).getD dflt

/-- Write one octet: writing what an unlisted address reads as removes the entry. -/
def memWrite (dflt : Byte) (a : Nat) (v : Byte) : List (Nat × Byte) → List (Nat × Byte)
  | [] => if v = dflt then [] else [(a, v)]
  | (b, w) :: r =>
    if a < b then (if v = dflt then (b, w) :: r else (a, v) :: (b, w) :: r)
    else if a = b then (if v = dflt then r else (a, v) :: r)
    else (b, w) :: memWrite dflt a v r

/-- Write octets from an address on. -/
def memWrites (dflt : Byte) (a : Nat) : List Byte → List (Nat × Byte) → List (Nat × Byte)
  | [], m => m
  | v :: r, m => memWrites dflt (a + 1) r (memWrite dflt a v m)

/-- Read `n` octets. -/
def memReads (dflt : Byte) (m : List (Nat × Byte)) (a n : Nat) : List Byte :=
  (List.range n).map fun i => memRead dflt m (a + i)

/-! ## Roots and distances, exact on codes -/

/-- Largest r with r * r ≤ n, by bits from the top. -/
def isqrtGo : Nat → Nat → Nat → Nat
  | 0, _, r => r
  | b + 1, n, r => let t := r + 2 ^ b; isqrtGo b n (if t * t ≤ n then t else r)

def isqrt (n : Nat) : Nat := isqrtGo 80 n 0

/-- √n to the nearest code; √n of an integer n is never halfway between two integers (R10). -/
def sqrtRound (n : Nat) : Nat := let r := isqrt n; if n > r * r + r then r + 1 else r

/-- An angle difference in sQ2.29 brought into −π to +π, as a distance on codes: 2π is 3 373 259 426 codes to the
nearest code (R213). -/
def angleDist (a b : Int) : Int :=
  let d := ((a - b) % 3373259426)
  if d ≤ 1686629713 then d else 3373259426 - d

end Sys2Proof.Machine
end

