-- ==== Sys2Proof/Machine/Arith.lean ====
section
/-! DEFINITION. The arithmetic of Mortar and the Skillets (R117 to R126): every operation of R119 on codes, narrowing,
the accumulator, pivots, origins of NaN, and the running of a schedule in retirement order. -/

namespace Sys2Proof.Machine

/-- Range of a format (R9). -/
def inRange (f : Fmt) (v : Int) : Q := if f.signed then rangeS v else rangeU v

/-- Narrowing of an exact value v with f fraction bits (R121). -/
def narrowTo (dst : Fmt) (f : Nat) (v : Int) : Q :=
  inRange dst (if f > dst.frac then roundDiv v (2 ^ (f - dst.frac)) else v * 2 ^ (dst.frac - f))

/-- One sum in a 64-bit accumulator: exact terms in units of 1 / `unit` accumulator codes, and `scale` of them to a code of the result (R8,
R9, R10). A NaN term makes it NaN. -/
def demandSum (unit scale : Nat) (terms : List Q) : Q :=
  if terms.all (·.isSome) then (accSum unit (terms.filterMap id)).bind fun v => rangeS (roundDiv v scale) else none

/-- Nearest code of an exact quotient n / d, d ≠ 0, halfway cases to the even code (R10). -/
def nearestQuot (n d : Int) : Int := if 0 < d then roundDiv n d.natAbs else roundDiv (-n) d.natAbs

/-- Nearest integer to √(a / 2^k) (R119, R10). -/
def nearestRoot (a k : Nat) : Int :=
  let r := isqrt (a / 2 ^ k)
  let lhs := 4 * a
  let rhs := (4 * r * r + 4 * r + 1) * 2 ^ k
  if rhs < lhs then r + 1 else if lhs = rhs ∧ r % 2 = 1 then r + 1 else r

/-- Nearest integer to √(a / d), d above 0 (R10). A tie is impossible but where a / d is a square of a half-integer. -/
def nearestRootQuot (a d : Nat) : Int :=
  let r := isqrt (a / d)
  let lhs := 4 * a
  let rhs := (4 * r * r + 4 * r + 1) * d
  if rhs < lhs then r + 1 else if lhs = rhs ∧ r % 2 = 1 then r + 1 else r

/-- Exact sum of two values aligned to the larger number of fraction bits. -/
def sumExact (neg : Bool) (a b : Int) (fa fb : Nat) : Int × Nat :=
  let f := max fa fb
  let x := a * 2 ^ (f - fa)
  let y := b * 2 ^ (f - fb)
  (if neg then x - y else x + y, f)

/-! ## Sine, cosine, arctangent (R119): one fixed method, within 1 code of the exact value -/

/-- A full turn and half a turn in sQ2.29 codes, to the nearest code. -/
def fullTurn : Int := 3373259426
def halfTurn : Int := 1686629713

/-- π with 128 fraction bits. -/
def piScaled : Int := 1069028584064966747859680373161870783300

/-- A sum t − t x²/((k+1)(k+2)) + … of a power series whose first term is `t`, with 128 fraction bits. -/
def powerSum : Nat → Nat → Int → Int → Int
  | 0, _, _, _ => 0
  | n + 1, k, x2, t => t + powerSum n (k + 2) x2 (-(t * x2 / 2 ^ 128) / ((k + 1) * (k + 2) : Nat))

/-- An angle code in sQ2.29 with 128 fraction bits, exactly reduced to −π to +π. -/
def reduced (a : Int) : Int :=
  let x := a * 2 ^ 99
  x - 2 * piScaled * nearestQuot x (2 * piScaled)

/-- Sine and cosine of an angle code, to at least 90 fraction bits of 128. -/
def sineScaled (a : Int) : Int := let x := reduced a; powerSum 40 1 (x * x / 2 ^ 128) x
def cosineScaled (a : Int) : Int := let x := reduced a; powerSum 40 0 (x * x / 2 ^ 128) (2 ^ 128)

/-- The nearest sQ1.30 code of an exact value with 128 fraction bits, or the code `err` beside it where that one too lies within 1 code
of the value: which of them the fixed method gives is free. -/
def withinCode (v err : Int) : Int :=
  let n := roundDiv v (2 ^ 98)
  let c := n + max (-1) (min 1 err)
  max (-(2 ^ 30)) (min (2 ^ 30) (if (c * 2 ^ 98 - v).natAbs ≤ 2 ^ 98 then c else n))

/-- Sine and cosine of an angle code in sQ2.29, in sQ1.30. -/
def sine (a : Int) : Int := withinCode (sineScaled a) (Cfg.sineError a)
def cosine (a : Int) : Int := withinCode (cosineScaled a) (Cfg.cosineError a)

/-- Largest code not above the angle of (x, y), y ≥ 0, by bits from the top. -/
def angleFloor : Nat → Int → Int → Int → Int
  | 0, _, _, c => c
  | b + 1, y, x, c =>
    let t := c + 2 ^ b
    angleFloor b y x (if t ≤ halfTurn ∧ 0 ≤ y * cosineScaled t - x * sineScaled t then t else c)

/-- Two-argument arctangent in sQ2.29, within 1 code of the exact value and within −π to +π; (0, 0) gives 0. -/
def arctangent (y x : Int) : Int :=
  let e := Cfg.arctangentError y x
  if y = 0 ∧ x = 0 then 0
  else if y = 0 ∧ 0 < x then max (-1) (min 1 e)
  else
    let v := min halfTurn (angleFloor 31 y.natAbs x 0 + (if 0 < e then 1 else 0))
    if y < 0 then -v else v

/-- What an operation gives: a code, or NaN with the kind of an origin; kind 0 is a NaN that only propagates (R123). -/
abbrev OpResult := Q × Nat

def ofNarrow (q : Q) : OpResult := (q, if q = none then 1 else 0)

/-- Range of the accumulator (R120). -/
def accRange (v : Int) : Q := if v ≤ 2 ^ 63 - 1 ∧ -(2 ^ 63 - 1) ≤ v then some v else none

/-- A product aligned or narrowed to the accumulator's fraction bits (R120). -/
def accTerm (f n : Nat) (p : Int) : Int := if n ≤ f then p * 2 ^ (f - n) else roundDiv p (2 ^ (n - f))

/-- Order of two values of any formats, exactly. -/
def compareVals (a b : Val) : Option Ordering :=
  a.code.bind fun x => b.code.map fun y =>
    let fr := max a.fmt.frac b.fmt.frac
    compare (x * 2 ^ (fr - a.fmt.frac)) (y * 2 ^ (fr - b.fmt.frac))

def holds (c : Cmp) (o : Ordering) : Bool :=
  match c, o with
  | .less, .lt => true
  | .equal, .eq => true
  | .greater, .gt => true
  | _, _ => false

/-- Conversion of a value to a format (R119). -/
def convertTo (dst : Fmt) (a : Val) : OpResult :=
  match a.code with
  | some x => ofNarrow (narrowTo dst a.fmt.frac x)
  | none => (none, 0)

/-- What an instance gives its operations: class, retry or not, pivot floor of the class, δ with its fraction bits, values read, and
starting values (R110, R125, R127, R138). -/
structure RunEnv where
  cls : Nat
  retry : Bool := false
  floor : Nat := 1
  delta : Int := 0
  deltaFrac : Nat := 0
  reads : AsmName → Option AsmInput
  starts : Nat → Val

/-- One multiply-accumulate on an accumulator and the kind of its first origin (R119, R120): a NaN operand makes it NaN without an
origin, a sum outside the range makes it NaN with kind 1, and it stays NaN. -/
def accStep (f : Nat) (env : Nat → Val) (acc : OpResult) (t : Nat × Nat × Bool) : OpResult :=
  match acc.1, (env t.1).code, (env t.2.1).code with
  | some x, some a, some b =>
    let p := accTerm f ((env t.1).fmt.frac + (env t.2.1).fmt.frac) (a * b)
    match accRange (if t.2.2 then x - p else x + p) with
    | some y => (some y, acc.2)
    | none => (none, 1)
  | _, _, _ => (none, acc.2)

/-- An accumulation (R120): its first term, its products in order, and the narrowing of the sum. -/
def accumulateAll (f : Nat) (first : Option Nat) (terms : List (Nat × Nat × Bool)) (env : Nat → Val) (dst : Fmt) : OpResult :=
  let init : OpResult := match first with
    | none => (some 0, 0)
    | some i => match (env i).code with
      | some c => (match accRange (accTerm f (env i).fmt.frac c) with
        | some y => (some y, 0)
        | none => (none, 1))
      | none => (none, 0)
  let acc := terms.foldl (accStep f env) init
  match acc.1 with
  | some x => ofNarrow (narrowTo dst f x)
  | none => acc

/-- A pivot, narrowed to its format, against the floor and the sign of its class (R125). -/
def testPivot (e : RunEnv) (kind : PivotKind) (dst : Fmt) (f : Nat) (v : Int) : OpResult :=
  match narrowTo dst f v with
  | none => (none, 1)
  | some p =>
    if p.natAbs < max 1 e.floor then (none, 2)
    else match kind with
      | .primal | .inertia => if 0 < p then (some p, 0) else (none, 3)
      | .dual => if p < 0 then (some p, 0) else (none, 3)
      | .diagonal => (some p, 0)

/-- The regularisation of a diagonal entry (R127): δ added to a primal one, subtracted from a dual one, in the retry only. -/
def regularise (e : RunEnv) (dual : Bool) (dst : Fmt) (f : Nat) (v : Int) : OpResult :=
  if e.retry then
    let r := sumExact dual v e.delta f e.deltaFrac
    ofNarrow (narrowTo dst r.2 r.1)
  else ofNarrow (narrowTo dst f v)

/-- An angle of any format in sQ2.29 (R119). -/
def angleCode (a : Val) : Q := a.code.map fun x =>
  if a.fmt.frac ≤ 29 then x * 2 ^ (29 - a.fmt.frac) else roundDiv x (2 ^ (a.fmt.frac - 29))

/-- One operation of R119, R125, R126, R127 or R130 on values already present. A NaN operand gives NaN, and that is no origin. A value read
that left its format is NaN with kind 6; an absent one takes its compiled substitution (R118). -/
def applyOp (e : RunEnv) (env : Nat → Val) (dst : Fmt) : SolverOp → OpResult
  | .param v fr => let q := narrowTo dst fr v; (q, if q = none then 6 else 0)
  | .read n absent =>
    match e.reads n with
    | some ⟨some x, fr, _⟩ => let q := narrowTo dst fr x; (q, if q = none then 6 else 0)
    | some ⟨none, _, true⟩ => (none, 6)
    | _ => (some absent, 0)
  | .start v => ((e.starts v).code, 0)
  | .add a b =>
    match (env a).code, (env b).code with
    | some x, some y => let r := sumExact false x y (env a).fmt.frac (env b).fmt.frac; ofNarrow (narrowTo dst r.2 r.1)
    | _, _ => (none, 0)
  | .sub a b =>
    match (env a).code, (env b).code with
    | some x, some y => let r := sumExact true x y (env a).fmt.frac (env b).fmt.frac; ofNarrow (narrowTo dst r.2 r.1)
    | _, _ => (none, 0)
  | .neg a =>
    match (env a).code with
    | some x => ofNarrow (inRange (env a).fmt (-x))
    | none => (none, 0)
  | .absVal a =>
    match (env a).code with
    | some x => ofNarrow (inRange (env a).fmt x.natAbs)
    | none => (none, 0)
  | .mul a b =>
    match (env a).code, (env b).code with
    | some x, some y => ofNarrow (narrowTo dst ((env a).fmt.frac + (env b).fmt.frac) (x * y))
    | _, _ => (none, 0)
  | .accumulate f first terms => accumulateAll f first terms env dst
  | .recip a =>
    match (env a).code with
    | some x => if x = 0 then (none, 5) else ofNarrow (inRange dst (nearestQuot (2 ^ ((env a).fmt.frac + dst.frac)) x))
    | none => (none, 0)
  | .div a b =>
    match (env a).code, (env b).code with
    | some x, some y =>
      if y = 0 then (none, 5)
      else ofNarrow (inRange dst (nearestQuot (x * 2 ^ (dst.frac + (env b).fmt.frac)) (y * 2 ^ (env a).fmt.frac)))
    | _, _ => (none, 0)
  | .sqrt a =>
    match (env a).code with
    | some x =>
      if x < 0 then (none, 5)
      else
        let n := (env a).fmt.frac
        let v := if n ≤ 2 * dst.frac then nearestRoot (x.natAbs * 2 ^ (2 * dst.frac - n)) 0
                 else nearestRoot x.natAbs (n - 2 * dst.frac)
        ofNarrow (inRange dst v)
    | none => (none, 0)
  | .sin a =>
    match angleCode (env a) with
    | some x => ofNarrow (narrowTo dst 30 (sine x))
    | none => (none, 0)
  | .cos a =>
    match angleCode (env a) with
    | some x => ofNarrow (narrowTo dst 30 (cosine x))
    | none => (none, 0)
  | .atan2 a b =>
    match (env a).code, (env b).code with
    | some x, some y =>
      let f := max (env a).fmt.frac (env b).fmt.frac
      ofNarrow (narrowTo dst 29 (arctangent (x * 2 ^ (f - (env a).fmt.frac)) (y * 2 ^ (f - (env b).fmt.frac))))
    | _, _ => (none, 0)
  | .convert a => convertTo dst (env a)
  | .select c a b x y =>
    match compareVals (env a) (env b) with
    | some o =>
      if (env x).code.isNone || (env y).code.isNone then (none, 0)
      else convertTo dst (if holds c o then env x else env y)
    | none => (none, 0)
  | .minimum a b =>
    match compareVals (env a) (env b) with
    | some o => convertTo dst (if o = .gt then env b else env a)
    | none => (none, 0)
  | .maximum a b =>
    match compareVals (env a) (env b) with
    | some o => convertTo dst (if o = .lt then env b else env a)
    | none => (none, 0)
  | .copy a => convertTo dst (env a)
  | .diagonal a dual =>
    match (env a).code with
    | some x => regularise e dual dst (env a).fmt.frac x
    | none => (none, 0)
  | .pivot a kind =>
    match (env a).code with
    | some x => testPivot e kind dst (env a).fmt.frac x
    | none => (none, 0)
  | .pivotRecip a =>
    match (env a).code with
    | some x =>
      if x = 0 then (none, 4)
      else
        let q := inRange dst (nearestQuot (2 ^ ((env a).fmt.frac + dst.frac)) x)
        (q, if q = none then 4 else 0)
    | none => (none, 0)

/-- A kind that marks the instance ill-posed; every other origin sets its overflow flag (R124). -/
def pivotKind (k : Nat) : Bool := k == 2 || k == 3 || k == 4

/-- Result number i. -/
def Running.get (r : Running) (i : Nat) : Val := r.vals.getD (r.count - 1 - i) { code := some 0, fmt := {} }

/-- A unit's block takes part when the mask has it; the shared block always does (R115). -/
def takesPart (mask : Nat) (owner : Option Nat) : Bool := (owner.map mask.testBit).getD true

/-- The format of a result: the operand's for a negation and an absolute value (R119), else the step's. -/
def resultFmt (env : Nat → Val) (p : SolverStep) : Fmt :=
  match p.op with
  | .neg a | .absVal a => (env a).fmt
  | _ => p.fmt

/-- One operation retires: its result is written, and an origin recorded (R133, R123). An operation of an excluded unit's
block is skipped (R115): it contributes zero. -/
def retire (e : RunEnv) (mask : Nat) (r : Running) (p : SolverStep) : Running :=
  let res : OpResult := if takesPart mask p.owner then applyOp e r.get p.fmt p.op else (some 0, 0)
  { vals := { code := res.1, fmt := resultFmt r.get p } :: r.vals, count := r.count + 1
    origin := if res.2 = 0 then r.origin else some (r.origin.getD ⟨res.2, min p.iter 255, p.var⟩)
    illPosed := r.illPosed || pivotKind res.2
    overflow := r.overflow || (res.2 != 0 && !pivotKind res.2) }

/-- Operations of a schedule run one after the other, whatever NaNs arise (R122). -/
def runSteps (e : RunEnv) (mask : Nat) (r : Running) (steps : List SolverStep) : Running := steps.foldl (retire e mask) r

end Sys2Proof.Machine
end

