-- ==== Sys2Proof/Machine/Digest.lean ====
section
/-! DEFINITION. SHA-256, HMAC-SHA-256 (R49, R93, R97, R135, R363, R377, R432), CRC-32C (R271) and CRC-32 (R95, R414),
computed octet by octet. -/

namespace Sys2Proof.Machine

/-! ## CRC -/

/-- One bit of a reflected CRC. -/
def crcBit (poly r : BitVec 32) : BitVec 32 := if r.getLsbD 0 then (r >>> 1) ^^^ poly else r >>> 1

/-- One octet of a reflected CRC. -/
def crcByte (poly r : BitVec 32) (b : Byte) : BitVec 32 :=
  let r := r ^^^ b.setWidth 32
  let r := crcBit poly (crcBit poly (crcBit poly (crcBit poly r)))
  crcBit poly (crcBit poly (crcBit poly (crcBit poly r)))

/-- CRC with initial value and final exclusive-or of all ones. -/
def crcOf (poly : BitVec 32) (bs : List Byte) : BitVec 32 := bs.foldl (crcByte poly) (-1) ^^^ -1

/-- CRC-32C: 0x1EDC_6F41 reflected (R271). -/
def crc32c (bs : List Byte) : Nat := (crcOf 0x82F63B78 bs).toNat

/-- CRC-32 of IEEE 802.3: 0x04C1_1DB7 reflected (R95). -/
def crc32 (bs : List Byte) : Nat := (crcOf 0xEDB88320 bs).toNat

/-! ## SHA-256 -/

/-- A number above 1 that none below it but 1 divides. -/
def isPrime (n : Nat) : Bool := decide (2 ≤ n) && (List.range n).all fun d => decide (d < 2) || n % d != 0

/-- The first `n` primes, for `n` up to 64 (the 64th is 311). -/
def primes (n : Nat) : List Nat := ((List.range 312).filter isPrime).take n

/-- The largest number of `b` bits, beside the bits of `r`, whose k-th power is at most `v`. -/
def rootBits (k v : Nat) : Nat → Nat → Nat
  | 0, r => r
  | b + 1, r => rootBits k v b (if (r + 2 ^ b) ^ k ≤ v then r + 2 ^ b else r)

/-- First 32 bits of the fraction of the k-th root of `p`. -/
def rootFraction (k p : Nat) : BitVec 32 := BitVec.ofNat 32 (rootBits k (p * 2 ^ (32 * k)) 38 0)

/-- Round constants: fractions of the cube roots of the first 64 primes. -/
def shaK : List (BitVec 32) := (primes 64).map (rootFraction 3)

structure Sha where
  a : BitVec 32
  b : BitVec 32
  c : BitVec 32
  d : BitVec 32
  e : BitVec 32
  f : BitVec 32
  g : BitVec 32
  h : BitVec 32

/-- Initial value: fractions of the square roots of the first eight primes. -/
def shaInit : Sha :=
  let h := (primes 8).map (rootFraction 2)
  let w (i : Nat) := h.getD i 0
  ⟨w 0, w 1, w 2, w 3, w 4, w 5, w 6, w 7⟩

def shaRound (s : Sha) (kw : BitVec 32) : Sha :=
  let s1 := s.e.rotateRight 6 ^^^ s.e.rotateRight 11 ^^^ s.e.rotateRight 25
  let ch := (s.e &&& s.f) ^^^ (~~~s.e &&& s.g)
  let t1 := s.h + s1 + ch + kw
  let s0 := s.a.rotateRight 2 ^^^ s.a.rotateRight 13 ^^^ s.a.rotateRight 22
  let mj := (s.a &&& s.b) ^^^ (s.a &&& s.c) ^^^ (s.b &&& s.c)
  ⟨t1 + (s0 + mj), s.a, s.b, s.c, s.d + t1, s.e, s.f, s.g⟩

/-- The next `n` words of the message schedule, from the last sixteen, newest first. -/
def shaExpand : Nat → List (BitVec 32) → List (BitVec 32)
  | 0, w => w
  | n + 1, w =>
    let w2 := w.getD 1 0
    let w7 := w.getD 6 0
    let w15 := w.getD 14 0
    let w16 := w.getD 15 0
    let s0 := w15.rotateRight 7 ^^^ w15.rotateRight 18 ^^^ (w15 >>> 3)
    let s1 := w2.rotateRight 17 ^^^ w2.rotateRight 19 ^^^ (w2 >>> 10)
    shaExpand n ((w16 + s0 + w7 + s1) :: w)

def shaBlock (s : Sha) (block : List (BitVec 32)) : Sha :=
  let w := (shaExpand 48 block.reverse).reverse
  let t := (List.zipWith (· + ·) shaK w).foldl shaRound s
  ⟨s.a + t.a, s.b + t.b, s.c + t.c, s.d + t.d, s.e + t.e, s.f + t.f, s.g + t.g, s.h + t.h⟩

/-- Blocks of sixteen words, `n` of them. -/
def shaBlocks : Nat → Sha → List (BitVec 32) → Sha
  | 0, s, _ => s
  | n + 1, s, ws => shaBlocks n (shaBlock s (ws.take 16)) (ws.drop 16)

/-- Padding: a one bit, zeros, the length in bits. -/
def shaPad (bs : List Byte) : List Byte :=
  bs ++ (0x80 :: List.replicate ((119 - bs.length % 64) % 64) 0) ++ beBytes 8 (8 * bs.length)

def sha256 (bs : List Byte) : List Byte :=
  let p := shaPad bs
  let s := shaBlocks (p.length / 64) shaInit (bytesWords p)
  (([s.a, s.b, s.c, s.d, s.e, s.f, s.g, s.h] : List (BitVec 32)).map wordBytes).flatten

/-- The most significant 64 bits of SHA-256 (R49). -/
def sha64 (bs : List Byte) : Nat := beNat ((sha256 bs).take 8)

/-- HMAC-SHA-256 under a key of at most 64 octets. -/
def hmac (key msg : List Byte) : List Byte :=
  let k := key ++ List.replicate (64 - key.length) 0
  sha256 ((k.map (· ^^^ 0x5c)) ++ sha256 ((k.map (· ^^^ 0x36)) ++ msg))

/-- The most significant 128 bits of an HMAC (R363, R377). -/
def mac128 (key msg : List Byte) : List Byte := (hmac key msg).take 16

/-- ASCII octets of a label. -/
def ascii (s : List Nat) : List Byte := s.map (BitVec.ofNat 8)

end Sys2Proof.Machine
end

