-- ==== Sys2Proof/Machine/Flags.lean ====
section
/-! DEFINITION. Event sources (chapter 17): their attributes, raising, clearing, acknowledging, the alarm relays and
the writing of records. -/

namespace Sys2Proof.Machine

/-- Severity of a source (R20, R350). -/
inductive Severity where
  | caution | warning | alarm
deriving DecidableEq, Repr, Inhabited

/-- FLAGS[1:0] of R357. -/
def Severity.code : Severity → Nat
  | .caution => 1
  | .warning => 2
  | .alarm => 3

/-- Attributes of a source (R350): severity, scope L, kind M (momentary). -/
structure EventAttr where
  sev : Severity := .caution
  scopeL : Bool := true
  momentary : Bool := true
deriving DecidableEq, Repr, Inhabited

/-- EV_000 to EV_031 of R350. -/
def eventBank0 : List EventAttr := [
   ⟨.warning, true, false⟩, ⟨.warning, true, false⟩, ⟨.warning, true, false⟩, ⟨.caution, true, true⟩,
   ⟨.warning, true, false⟩, ⟨.warning, false, false⟩, ⟨.caution, false, true⟩, ⟨.caution, true, true⟩,
   ⟨.warning, true, false⟩, ⟨.warning, true, true⟩, ⟨.caution, true, true⟩, ⟨.alarm, true, true⟩,
   ⟨.alarm, true, false⟩, ⟨.alarm, true, false⟩, ⟨.caution, true, true⟩, ⟨.alarm, true, false⟩,
   ⟨.alarm, true, false⟩, ⟨.caution, true, false⟩, ⟨.warning, true, false⟩, ⟨.caution, true, true⟩,
   ⟨.warning, true, true⟩, ⟨.caution, true, true⟩, ⟨.caution, false, true⟩, ⟨.warning, true, true⟩,
   ⟨.warning, true, true⟩, ⟨.caution, true, true⟩, ⟨.warning, true, false⟩, ⟨.warning, true, false⟩,
   ⟨.caution, true, true⟩, ⟨.alarm, true, false⟩, ⟨.caution, true, true⟩, ⟨.caution, true, true⟩]

/-- EV_032 to EV_063 of R350. -/
def eventBank1 : List EventAttr := [
   ⟨.warning, true, false⟩, ⟨.warning, true, false⟩, ⟨.warning, true, false⟩, ⟨.caution, true, true⟩,
   ⟨.caution, true, true⟩, ⟨.warning, true, true⟩, ⟨.warning, true, true⟩, ⟨.warning, true, false⟩,
   ⟨.warning, true, false⟩, ⟨.alarm, true, false⟩, ⟨.warning, true, false⟩, ⟨.warning, true, true⟩,
   ⟨.caution, true, true⟩, ⟨.caution, true, true⟩, ⟨.caution, true, true⟩, ⟨.warning, true, true⟩,
   ⟨.caution, true, false⟩, ⟨.warning, true, false⟩, ⟨.warning, true, true⟩, ⟨.alarm, true, false⟩,
   ⟨.caution, true, true⟩, ⟨.alarm, false, false⟩, ⟨.warning, true, false⟩, ⟨.warning, true, false⟩,
   ⟨.warning, true, false⟩, ⟨.caution, true, true⟩, ⟨.caution, true, true⟩, ⟨.caution, true, true⟩,
   ⟨.caution, true, true⟩, ⟨.caution, true, true⟩, ⟨.caution, true, false⟩, ⟨.caution, true, false⟩]

/-- EV_064 to EV_095 of R350. -/
def eventBank2 : List EventAttr := [
   ⟨.warning, false, false⟩, ⟨.warning, false, false⟩, ⟨.caution, false, false⟩, ⟨.caution, false, false⟩,
   ⟨.caution, false, false⟩, ⟨.caution, false, true⟩, ⟨.warning, false, false⟩, ⟨.warning, false, false⟩,
   ⟨.warning, true, false⟩, ⟨.caution, false, true⟩, ⟨.caution, false, true⟩, ⟨.caution, false, false⟩,
   ⟨.caution, false, true⟩, ⟨.caution, false, false⟩, ⟨.caution, false, true⟩, ⟨.alarm, false, false⟩,
   ⟨.warning, false, true⟩, ⟨.warning, false, true⟩, ⟨.caution, false, true⟩, ⟨.caution, false, true⟩,
   ⟨.alarm, false, false⟩, ⟨.caution, false, false⟩, ⟨.warning, false, false⟩, ⟨.caution, false, true⟩,
   ⟨.caution, false, false⟩, ⟨.warning, false, true⟩, ⟨.warning, false, false⟩, ⟨.alarm, false, false⟩,
   ⟨.warning, false, true⟩, ⟨.caution, false, true⟩, ⟨.caution, false, true⟩, ⟨.caution, false, true⟩]

/-- EV_096 to EV_127 of R350. -/
def eventBank3 : List EventAttr := [
   ⟨.warning, false, true⟩, ⟨.warning, false, true⟩, ⟨.caution, false, true⟩, ⟨.alarm, false, false⟩,
   ⟨.warning, false, true⟩, ⟨.warning, false, false⟩, ⟨.warning, false, true⟩, ⟨.caution, false, true⟩,
   ⟨.alarm, true, true⟩, ⟨.alarm, true, true⟩, ⟨.alarm, false, false⟩, ⟨.warning, false, false⟩,
   ⟨.alarm, false, true⟩, ⟨.warning, false, false⟩, ⟨.warning, false, false⟩, ⟨.caution, false, true⟩,
   ⟨.alarm, false, true⟩, ⟨.alarm, false, true⟩, ⟨.alarm, false, true⟩, ⟨.warning, false, false⟩,
   ⟨.alarm, true, true⟩, ⟨.alarm, false, false⟩, ⟨.warning, true, true⟩, ⟨.alarm, true, false⟩,
   ⟨.warning, true, true⟩, ⟨.warning, true, true⟩, ⟨.alarm, true, true⟩, ⟨.caution, false, true⟩,
   ⟨.caution, true, true⟩, ⟨.warning, false, true⟩, ⟨.alarm, false, false⟩, ⟨.caution, true, true⟩]

/-- The table of R350. -/
def eventTable : List EventAttr := eventBank0 ++ eventBank1 ++ eventBank2 ++ eventBank3

/-- Attributes of EV_e. -/
def attrOf (e : Nat) : EventAttr := eventTable.getD e {}

/-- ACTIVE of a source (R352). -/
def eventActive (e : Nat) (s : State) : Bool :=
  if (attrOf e).scopeL then s.evt.active.contains e else s.mir.evt.active.contains e

/-- UNACK of a source (R352). -/
def eventUnack (e : Nat) (s : State) : Bool :=
  if (attrOf e).scopeL then s.evt.unack.contains e else s.mir.evt.unack.contains e

/-! ## Mapping and relays (R354 to R356) -/

/-- A source is masked by EVT_MASK_b (R354). -/
def masked (e : Nat) (s : State) : Bool := bitOf (s.mir.evt.masks.getD (e / 32) 0) (e % 32)

/-- The fixed mapping, identical to Nymnil's default (R355). -/
def fixedMap (e : Nat) : EventMap :=
  let alarm := (attrOf e).sev == .alarm
  ⟨alarm && decide (32 ≤ e), alarm && decide (e < 32), true⟩

/-- The mapping in force: the image's once it has passed every step of R100 (R355). -/
def mapOf (e : Nat) (s : State) : EventMap :=
  if s.cfg.valid then s.cfg.image.mapping.getD e (fixedMap e) else fixedMap e

/-- Some unmasked source that `f` maps is ACTIVE or UNACK (R356). -/
def drives (f : EventMap → Bool) (s : State) : Bool :=
  (List.range 128).any fun e => f (mapOf e s) && !masked e s && (eventActive e s || eventUnack e s)

/-- Modes in which the UNIT FAULT relay may be energised (R63). -/
def ufMode : Mode → Bool
  | .standby | .active => true
  | _ => false

/-- Modes in which both relays are de-energised (R356). -/
def relayOff : Mode → Bool
  | .boot | .load | .recovery => true
  | _ => false

/-- The two alarm relays follow the event states and the mode (R356, R63). -/
def updateRelays (s : State) : State :=
  if relayOff s.um.mode || s.um.inReset then { s with evt := { s.evt with dpRelay := false, ufRelay := false } }
  else { s with evt := { s.evt with
    dpRelay := !drives (·.dp) s
    ufRelay := ufMode s.um.mode && !drives (·.uf) s } }

/-! ## Raising, clearing, acknowledging (R352, R353) -/

/-- A record falls due in the epoch (R360). -/
def addDue (r : DueRecord) (s : State) : State := { s with evt := { s.evt with due := s.evt.due ++ [r] } }

/-- The bits that a raise sets (R352): ACTIVE, UNACK of an alarm or warning, EVT_LAST of a mirrored source (R367), the
panel's last alarm (R408); the relays follow (R356). -/
def setRaised (e : Nat) (s : State) : State :=
  let a := attrOf e
  let unack (l : List Nat) := if a.sev = .caution then l else insertNat e l
  let s := if a.sev = .alarm then { s with pnl := { s.pnl with lastAlarm := some (e, s.log.opTime) } } else s
  updateRelays (if a.scopeL then
    { s with evt := { s.evt with active := insertNat e s.evt.active, unack := unack s.evt.unack } }
  else
    { s with mir := { s.mir with evt := { s.mir.evt with
        active := insertNat e s.mir.evt.active, unack := unack s.mir.evt.unack,
        last := some e, lastEpoch := s.ex.epoch } } })

/-- The index that a source was raised with stays with it while it is ACTIVE: its clear names the same (R358). -/
def noteIndex (e i : Nat) (s : State) : State :=
  if (attrOf e).scopeL then { s with evt := { s.evt with named := insertKey e i s.evt.named } }
  else { s with mir := { s.mir with evt := { s.mir.evt with named := insertKey e i s.mir.evt.named } } }

/-- The index that a source was last raised with. -/
def indexOf (e : Nat) (s : State) : Nat :=
  (lookupNat e (if (attrOf e).scopeL then s.evt.named else s.mir.evt.named)).getD 0xFFFFFFFF

/-- EV_e is raised with DATA of R358. A source raised while it is ACTIVE changes no state (R352): nothing falls due
(log 6). -/
def raiseWith (e w0 w1 : Nat) (v : Int) (s : State) : State :=
  if eventActive e s then s else addDue ⟨e, 1, w0, w1, v⟩ (noteIndex e w0 (setRaised e s))

/-- Raised with no index, code or value. -/
def raise (e : Nat) (s : State) : State := raiseWith e 0xFFFFFFFF 0 0 s

/-- Raised with an index. -/
def raiseAt (e i : Nat) (s : State) : State := raiseWith e i 0 0 s

/-- The cause of a condition source is gone: ACTIVE clears, recorded and notified (R352). -/
def clearEvent (e : Nat) (s : State) : State :=
  if eventActive e s then
    let s :=
      if (attrOf e).scopeL then { s with evt := { s.evt with active := s.evt.active.filter (· != e) } }
      else { s with mir := { s.mir with evt := { s.mir.evt with active := s.mir.evt.active.filter (· != e) } } }
    updateRelays (if (attrOf e).momentary then s else addDue { event := e, kind := 2, w0 := indexOf e s } s)
  else s

/-- A condition source follows its cause. -/
def condition (e : Nat) (on : Bool) (s : State) : State := if on then raise e s else clearEvent e s

/-- A condition source follows its cause, raised with an index. -/
def conditionAt (e i : Nat) (on : Bool) (s : State) : State := if on then raiseAt e i s else clearEvent e s

/-- EVT_ACK of one source (R353): UNACK clears, and the acknowledgement carries the station's roster index (R358). -/
def ackEvent (station e : Nat) (s : State) : State :=
  if eventUnack e s then
    let s :=
      if (attrOf e).scopeL then { s with evt := { s.evt with unack := s.evt.unack.filter (· != e) } }
      else { s with mir := { s.mir with evt := { s.mir.evt with unack := s.mir.evt.unack.filter (· != e) } } }
    updateRelays (addDue { event := e, kind := 3, w0 := station } s)
  else s

/-- EVT_ACK of every source. -/
def ackAll (station : Nat) (s : State) : State := (List.range 128).foldl (fun s e => ackEvent station e s) s

/-- Momentary sources clear at the end of the epoch, without a record (R352). -/
def endMomentary (s : State) : State :=
  let keep (l : List Nat) := l.filter fun e => !(attrOf e).momentary
  updateRelays { s with
    evt := { s.evt with active := keep s.evt.active }
    mir := { s.mir with evt := { s.mir.evt with active := keep s.mir.evt.active } } }

/-! ## Records (R357 to R362) -/

/-- FLAGS of a record (R357). -/
def recordFlags (e : Nat) (s : State) : Nat :=
  (attrOf e).sev.code + (if (attrOf e).scopeL then 4 else 0) + (if masked e s then 8 else 0)

/-- A new record of the epoch (R357). -/
def newRecord (d : DueRecord) (s : State) : EvRecord :=
  { opTime := s.log.opTime, cycle := s.log.cycle, epoch := s.ex.epoch, event := d.event, kind := d.kind
    flags := recordFlags d.event s, rep := 0, lastDelta := 0, w0 := d.w0, w1 := d.w1, value := d.value
    corrupt := false }

/-- The record is of scope L. -/
def EvRecord.scopeL (r : EvRecord) : Bool := r.flags.testBit 2

/-- Index of the last record of a scope. -/
def lastOfScope (l : Bool) (rs : List EvRecord) : Option Nat :=
  (List.range rs.length).foldl (fun a i => if ((rs[i]?).map EvRecord.scopeL) = some l then some i else a) none

/-- The folding rule of R360: the due record d of epoch n folds into r. -/
def folds (d : DueRecord) (n : Nat) (r : EvRecord) : Bool :=
  r.event == d.event && (r.kind == 1 || r.kind == 2) && (d.kind == 1 || d.kind == 2) &&
    decide (r.epoch + r.lastDelta ≤ n) && decide (n ≤ r.epoch + r.lastDelta + 2000)

/-- Folding rewrites REPEAT, LAST_DELTA and KIND (R360). -/
def foldInto (d : DueRecord) (n : Nat) (r : EvRecord) : EvRecord :=
  { r with rep := bump 16 r.rep, lastDelta := min (n - r.epoch) 0xFFFFFFFF, kind := d.kind }

/-- Number of the last index of the recorder (R361). -/
def lastIndex : Nat := 524287

/-- One due record is folded or written; at the last index EV_018 takes its place and recording stops (R360, R361). -/
def writeRecord (d : DueRecord) (s : State) : State :=
  if s.log.full then s
  else
    let n := s.ex.epoch
    let rs := s.log.records
    let target := (lastOfScope (attrOf d.event).scopeL rs).bind fun i =>
      (rs[i]?).bind fun r => if folds d n r then some i else none
    match target with
    | some i => { s with log := { s.log with records := modAt rs i (foldInto d n) } }
    | none =>
      if rs.length = lastIndex then
        let s := { s with log := { s.log with records := rs ++ [newRecord { event := 18, kind := 1 } s], full := true } }
        if eventActive 18 s then s
        else setRaised 18 { s with evt := { s.evt with written := s.evt.written ++ [{ event := 18, kind := 1 }] } }
      else { s with log := { s.log with records := rs ++ [newRecord d s] } }

/-- The writing order of R360: raises, clears, acknowledgements; scope M before L; EVENT ascending. -/
def dueBefore (a b : DueRecord) : Bool :=
  let key (d : DueRecord) := d.kind * 1000 + (if (attrOf d.event).scopeL then 500 else 0) + d.event
  decide (key a ≤ key b)

/-- The due records in writing order. -/
def dueOrder (l : List DueRecord) : List DueRecord := sortBy dueBefore l

/-- The records due are folded or written, and none is due any more (R360). -/
def writeDue (s : State) : State :=
  let l := dueOrder s.evt.due
  let s := l.foldl (fun s d => writeRecord d s) s
  { s with evt := { s.evt with due := [] } }

end Sys2Proof.Machine
end

