-- ==== Sys2Proof/Machine/Ops.lean ====
section
/-! DEFINITION. The named operations that several commands share: sending, free values, mode changes, input records,
the pair's predicates. -/

namespace Sys2Proof.Machine

/-! ## Frames and free values -/

/-- A frame as the unit sends it now. -/
def sentBy (s : State) (f : OutFrame) : Sent := ⟨f, s.ex.epoch, s.um.unit, s.um.role, s.rng.hsrSeq⟩

/-- A frame is sent. -/
def send (f : OutFrame) (s : State) : State := { s with out := sentBy s f :: s.out }

/-- Draw an open value (log 3). -/
def drawFree (s : State) : Nat × State := (Cfg.freeValue s.free, { s with free := s.free + 1 })

/-- Apply `f` when `c` holds. -/
def when (c : Bool) (f : State → State) (s : State) : State := if c then f s else s

/-! ## The installation and the pair -/

/-- A verified image declares a single unit. -/
def isSingle (s : State) : Bool := s.cfg.valid && s.cfg.image.single

/-- A verified image declares a pair. -/
def isPair (s : State) : Bool := s.cfg.valid && !s.cfg.image.single

/-- Life-cycle states that permit ACTIVE and THRUSTER-TEST (R431). -/
def activePermitted : LifeCycle → Bool
  | .commissioning | .inService => true
  | _ => false

def otherUnit : UnitId → UnitId
  | .a => .b
  | .b => .a

/-- Code of a unit in frames and registers. -/
def unitCode : UnitId → Nat
  | .a => 0
  | .b => 1

def roleCode : Role → Nat
  | .none => 0
  | .active => 1
  | .standby => 2

/-- Mode codes of R21. -/
def modeCode : Mode → Nat
  | .boot => 0
  | .load => 1
  | .selftest => 2
  | .standby => 3
  | .active => 4
  | .hold => 5
  | .maintenance => 6
  | .recovery => 7

/-- Function codes of R80. -/
def funcCode : Func → Nat
  | .joystick => 1
  | .autoHeading => 2
  | .autoPosition => 3
  | .autoTrack => 4
  | .berthPush => 5
  | .thrusterTest => 6

/-- Code of the function in effect; 0 outside ACTIVE. -/
def funcNum (f : Option Func) : Nat := (f.map funcCode).getD 0

/-- The function a code names. -/
def funcOf : Nat → Option Func
  | 1 => some .joystick
  | 2 => some .autoHeading
  | 3 => some .autoPosition
  | 4 => some .autoTrack
  | 5 => some .berthPush
  | 6 => some .thrusterTest
  | _ => none

def phaseCode : Phase → Nat
  | .none => 0
  | .join => 1
  | .copy => 2
  | .settle => 3
  | .audit => 4
  | .mirrored => 5
  | .unmirrored => 6

def linkCode : LinkState → Nat
  | .down => 0
  | .training => 1
  | .up => 2

/-- Phases in which a unit is mirrored (R322). -/
def phaseMirrored : Phase → Bool
  | .settle | .audit | .mirrored => true
  | _ => false

/-- The unit is mirrored, in the sense of R48 and of the heartbeat flag (R322). -/
def isMirrored (s : State) : Bool := isPair s && s.um.role != .none && phaseMirrored s.pair.phase

/-- A standby unit in JOIN, COPY or SETTLE (R322, R472). -/
def joining (s : State) : Bool :=
  s.um.role == .standby && (s.pair.phase == .join || s.pair.phase == .copy || s.pair.phase == .settle)

/-- The bank on a side; the running bank. -/
def bankOf (b : Side) (s : State) : Bank :=
  match b with
  | .one => s.upd.bankA
  | .two => s.upd.bankB

def runningBank (s : State) : Bank := bankOf s.upd.running s

/-- Figures of the firmware in a bank. -/
def bankFw (b : Bank) : FwSet := b.fw.getD Cfg.delivered

/-- Figures of the running firmware (R399). -/
def runningFw (s : State) : FwSet := bankFw (runningBank s)

/-- The FW_DIGEST of the running bank's manifest (R281). -/
def fwDigest (s : State) : Nat := (runningFw s).digest % 2 ^ 64

/-- The epoch timer runs: from the entry to LOAD (R398). -/
def timerRuns (s : State) : Bool := !s.um.inReset && s.um.mode != .boot && s.um.mode != .recovery

/-- Modes whose epochs commit input sets (R471). -/
def commits : Mode → Bool
  | .standby | .active | .maintenance => true
  | _ => false

/-- The unit commits input sets and forms records in this epoch (R471). -/
def formsRecords (s : State) : Bool :=
  timerRuns s && commits s.um.mode &&
    !(s.um.role == .standby && (s.pair.phase == .join || s.pair.phase == .copy || s.pair.phase == .none))

/-- The unit runs fast work: not in JOIN, COPY or SETTLE (R322). -/
def runsFastWork (s : State) : Bool :=
  timerRuns s && commits s.um.mode && !joining s && !(s.um.role == .standby && s.pair.phase == .none)

/-! ## Mode changes (R61 to R66) -/

/-- The transitions of R64; every other pair of modes has none. -/
def transition : Mode → Mode → Bool
  | .boot, .load => true
  | .boot, .recovery => true
  | .load, .selftest => true
  | .load, .hold => true
  | .selftest, .standby => true
  | .selftest, .hold => true
  | .standby, .active => true
  | .standby, .maintenance => true
  | .standby, .hold => true
  | .active, .hold => true
  | .maintenance, .hold => true
  | .active, .standby => true
  | .maintenance, .standby => true
  | .hold, .maintenance => true
  | .hold, .boot => true
  | .maintenance, .boot => true
  | .recovery, .boot => true
  | _, _ => false

/-- A listed transition: the unit's mode changes, EV_124 carries the old mode, the new mode and the cause of HOLD
(R64, R358), and the relays follow (R63, R356). An unlisted one does not exist. The transitions that leave BOOT raise
no EV_124 (log 7). -/
def changeMode (dst : Mode) (cause : Nat) (s : State) : State :=
  if transition s.um.mode dst then
    let old := s.um.mode
    let s := { s with um := { s.um with mode := dst } }
    let s := if old = .boot then s else raiseWith 124 (modeCode old) (modeCode dst) cause s
    updateRelays s
  else s

/-- The unit drops its role: no role, no phase (R318). -/
def dropRole (s : State) : State :=
  { s with
    um := { s.um with role := .none }
    pair := { s.pair with phase := .none, copyStart := none, stepped := false, copyEnd := none, settleEnd := none } }

/-- Records not committed when the unit leaves the epochs in which it commits are discarded (R471). -/
def discardRecords (s : State) : State :=
  { s with ex := { s.ex with buffer := [], offered := [], partner := [], committed := [] } }

/-- Both switches of every channel are commanded off. -/
def openOutputs (s : State) : State :=
  { s with trv := { s.trv with channels := s.trv.channels.map fun c => { c with hs := false, ls := false, pulse := none, wirechk := false } } }

/-- A fault that leads to HOLD is found: HOLD is due at E+0 µs of the next epoch (R66); the first cause stands. -/
def findFault (cause : Nat) (s : State) : State :=
  { s with ex := { s.ex with holdDue := some (s.ex.holdDue.getD cause) } }


/-- No control function is in effect outside ACTIVE (R80). -/
def endFunction (s : State) : State := { s with mir := { s.mir with mode := { s.mir.mode with func := none } } }

/-- A fatal error (R24): emission stops at once, HOLD is due, and the dump waits for `writer` (0 the fast processor, 1 the slow
one) unless a valid one is held (R364, R366). EV_011 comes with HOLD (R365). In HOLD itself there is the dump and EV_011 alone, and in
BOOT and RECOVERY, from which no transition leads to HOLD (R64), EV_011 alone (log 53). -/
def fatalError (cause writer : Nat) (s : State) : State :=
  let s := { s with ex := { s.ex with stopped := true, emit := false } }
  let dump (s : State) : State :=
    if s.dmp.valid then { s with dmp := { s.dmp with lost := bump 8 s.dmp.lost } }
    else { s with dmp := { s.dmp with due := some (s.dmp.due.getD ⟨cause, writer, s.ex.epoch, s.log.opTime⟩) } }
  if transition s.um.mode .hold then
    let s := findFault cause (dump s)
    { s with ex := { s.ex with fatalDue := true } }
  else if s.um.mode = .hold then raise 11 (dump s)
  else raise 11 s

/-- The entry to HOLD (R66, R83, R85): mode, cause, no role, outputs open, emission stopped, records discarded. -/
def enterHold (cause : Nat) (s : State) : State :=
  if transition s.um.mode .hold then
    let fromLoad := s.um.mode == .load
    let s := changeMode .hold cause s
    let s := { s with um := { s.um with holdCause := cause, holdFromLoad := fromLoad } }
    let s := openOutputs (discardRecords (dropRole (endFunction s)))
    { s with
      ex := { s.ex with holdDue := none, emit := false, due := [], roleDue := none }
      hap := { s.hap with frozen := s.hap.snap }
      fab := { s.fab with test := none }
      ktl := { s.ktl with running := none, manual := none, manualHeld := false, mResult := if s.ktl.manual.isSome then 0 else s.ktl.mResult } }
  else { s with ex := { s.ex with holdDue := none } }

/-! ## Input records (R25, R42 to R47, R471) -/

/-- Next ingress sequence number of a source (R47). -/
def nextSeq (source : Nat) (s : State) : Nat := (lookupNat source s.ex.seqs).getD 0

/-- Time of validity of a record with a sensor tag (R42, R214): the tag where Whisk accepts it; s − L when the tag
lies after the stamp; the stamp otherwise. -/
def validityOf (stamp latency : Nat) (tag : Option Nat) (accepted : Bool) : Nat × Bool :=
  match tag with
  | none => (stamp, false)
  | some t => if t > stamp then (stamp - latency, false) else if accepted then (t, true) else (stamp, false)

/-- A stamp: the counter reading at a tick counted from E+0 µs, truncated to whole nanoseconds (R241); a tick of an earlier epoch is
referred back at the increment in force (log 142). -/
def readingAt (tick : Int) (s : State) : Nat := (((s.time.counter : Int) + tick * s.time.incr) % 2 ^ 96).toNat / 2 ^ 32

/-- The stamp of a frame received on an Ethernet port, referred to the MDI (R252). -/
def arrivalStamp (port : Nat) (tick : Int) (s : State) : Nat := readingAt tick s - Cfg.rxLatency port

/-- The stamp of an event message sent from an Ethernet port, referred to the MDI (R252). -/
def departureStamp (port : Nat) (tick : Int) (s : State) : Nat := readingAt tick s + Cfg.txLatency port

/-- The holdover state at a time of validity (R7, R230). -/
def holdoverAt (tov : Nat) (s : State) : Bool :=
  match s.time.holdLog.find? fun e => decide (e.1 ≤ tov) with
  | some e => e.2
  | none => match s.time.holdLog.getLast? with
    | some e => !e.2
    | none => s.time.holdover

/-- The holdover state changes now. -/
def setHoldover (h : Bool) (s : State) : State :=
  if s.time.holdover = h then s
  else { s with time := { s.time with holdover := h, holdLog := ((s.time.counter / 2 ^ 32, h) :: s.time.holdLog).take 4 } }

/-- A record enters the ingress buffers with its sequence number (R47). -/
def putRecord (source stamp tov : Nat) (tagged holdover : Bool) (payload : List Byte) (s : State) : State :=
  let n := nextSeq source s
  let r : InRecord := { origin := s.um.unit, holdover, tagged, source, seq := n, stamp, tov, payload }
  { s with ex := { s.ex with
      buffer := s.ex.buffer ++ [{ item := r }]
      seqs := insertKey source ((n + 1) % 2 ^ 32) s.ex.seqs } }

/-- A record is formed where the unit forms records; elsewhere its data is discarded (R471). -/
def ingest (source stamp tov : Nat) (tagged : Bool) (payload : List Byte) (s : State) : State :=
  if formsRecords s then putRecord source stamp tov tagged (holdoverAt tov s) payload s else s

def recordId (r : InRecord) : RecordId := ⟨r.origin, r.source, r.seq⟩

/-- The canonical order of R47. -/
def canonicalBefore (a b : InRecord) : Bool :=
  if a.source ≠ b.source then decide (a.source < b.source)
  else if a.tov ≠ b.tov then decide (a.tov < b.tov)
  else if a.origin ≠ b.origin then a.origin == .a
  else if a.stamp ≠ b.stamp then decide (a.stamp < b.stamp)
  else if a.seq = b.seq then true
  else newer b.seq a.seq

def canonical (l : List InRecord) : List InRecord := sortBy canonicalBefore l

/-- A record as its record frame carries it (R311 type 0x41). -/
def recordBytes (r : InRecord) : List Byte :=
  let n := r.payload.length
  beBytes 1 (unitCode r.origin + 2 * flag r.holdover + 4 * flag r.tagged) ++ beBytes 1 n ++ beBytes 2 r.source ++
    beBytes 4 r.seq ++ beBytes 8 r.stamp ++ beBytes 8 r.tov ++ r.payload ++ List.replicate ((4 - n % 4) % 4) 0

/-- The committed records of a source, in canonical order. -/
def committedOf (source : Nat) (s : State) : List InRecord := s.ex.committed.filter (·.source == source)

/-- A copy of a committed record that is far older than the record `n` of its source (R45, R47): its number is about to come
round again, and the identity is given up. -/
def staleCopy (n e : RecordId) : Bool :=
  let d := (n.seq + 2 ^ 32 - e.seq % 2 ^ 32) % 2 ^ 32
  n.origin == e.origin && n.source == e.source && decide (2 ^ 31 ≤ d) && decide (d ≤ 2 ^ 32 - 2 ^ 30)

/-- The duplicated-input rule of R38: unit A's newest valid record of the source, else unit B's. -/
def chosenRecord (valid : InRecord → Bool) (source : Nat) (s : State) : Option InRecord :=
  let l := (committedOf source s).filter valid
  let newest (u : UnitId) := (l.filter (·.origin == u)).getLast?
  match newest .a with
  | some r => some r
  | none => newest .b

/-- Sample k of a chain's record is valid (R261). -/
def sieveValid (k : Nat) (p : List Byte) : Bool := (octets p 1 1).testBit (4 + k)

/-- A record of a Sieve chain whose latest sample is invalid is absent to every consumer (R73, R262). -/
def sampleValid (r : InRecord) (s : State) : Bool :=
  !(s.cfg.image.chains.any fun d => d.source == r.source && d.mode != 0) || sieveValid (octets r.payload 2 1 - 1) r.payload

/-! ## Pages (R311, R313) -/

/-- The audit digest of a page (R311). -/
def auditDigest (p : Nat) (s : State) : Nat := sha64 (Cfg.mirrorPage s.mir p)

/-- The partner's report of the last three epochs (R317). -/
def report (s : State) : Option Heard := if s.pair.heardAge ≤ 3 then s.pair.heard else none

end Sys2Proof.Machine
end

