-- ==== Sys2Proof/Machine/Solver.lean ====
section
/-! DEFINITION. Problem instances (chapters 5 and 6): schedule identity, warm starts, running an instance, failed instances
and their report. -/

namespace Sys2Proof.Machine

/-! ## Identity and variables (R112, R115, R135, R139) -/

/-- Classes whose pattern depends on the unit mask. -/
def masked35 (cls : Nat) : Bool := decide (3 ≤ cls)

/-- The schedule identity (R135). -/
def scheduleIdent (cls : Nat) (retry contact : Bool) (case mask : Nat) (s : State) : Nat :=
  sha64 (beBytes 1 cls ++ beBytes 1 (flag retry + 2 * flag contact) ++ beBytes 1 (if cls = 5 then case else 0) ++
    beBytes 1 0 ++ beBytes 2 (if masked35 cls then mask else 0xFFFF) ++ s.cfg.image.patterns.getD cls [])

/-- The compiled schedule of a problem (R112). -/
def scheduleOf (cls : Nat) (contact : Bool) (case : Nat) (s : State) : Schedule :=
  (s.cfg.image.schedules.find? fun p => p.cls == cls && p.contact == contact && p.case == (if cls = 5 then case else 0)).getD { cls }

/-- SHARED of a tag. -/
def tagShared (t : Nat) : Bool := t.testBit 19
/-- OWNER of a tag. -/
def tagOwner (t : Nat) : Nat := t / 2 ^ 20 % 16
/-- STAGE of a tag. -/
def tagStage (t : Nat) : Nat := t / 2 ^ 24
/-- ROLE of a tag. -/
def tagRole (t : Nat) : Nat := t / 2 ^ 14 % 4
/-- QTY of a tag. -/
def tagQty (t : Nat) : Nat := t / 2 ^ 8 % 64

/-- A variable stands in the instance of a unit mask. -/
def varIn (cls mask : Nat) (v : VarDecl) : Bool := !masked35 cls || tagShared v.tag || mask.testBit (tagOwner v.tag)

/-- Variables on which matching is counted: stage 0 only for classes 4 and 5 (R140). -/
def counted (cls : Nat) (t : Nat) : Bool := decide (cls < 4) || tagStage t == 0

/-! ## Warm starts (R137 to R141) -/

/-- The warm start of an instance with identity `ident`, and its register (R149). -/
def warmStart (sch : Schedule) (ident mask : Nat) (source : Option WarmSource) : WarmReg × List Int :=
  let vars := sch.vars.filter (varIn sch.cls mask)
  let tags := (vars.map (·.tag)).filter (counted sch.cls)
  let total := tags.length
  match source with
  | none => ({ mode := 3, cause := 2, matched := 0, total }, sch.vars.map (·.cold))
  | some src =>
    let mapped := sch.vars.map fun v => (lookupNat v.tag src.values).getD v.cold
    if src.ident = ident then ({ mode := 1, cause := 0, matched := 0, total }, mapped)
    else
      let matched := (tags.filter fun t => (lookupNat t src.values).isSome).length
      if 2 * matched < total then ({ mode := 3, cause := 1, matched, total }, sch.vars.map (·.cold))
      else ({ mode := 2, cause := 0, matched, total }, mapped)

/-! ## Running an instance -/

/-- The origin of an instance that a lost word has made NaN: ill-posed (R30). Where in the instance the word shows first is open. -/
def lostOrigin (cls case k : Nat) : Origin :=
  let o := Cfg.tileOrigin cls case k
  { o with kind := 2 + o.kind % 3 }

/-- A result as a word lost from the tile store of one of these Skillets leaves it (R30). -/
def spoiled (cls case : Nat) (lost : List Nat) (r : Solved) : Solved :=
  match lost with
  | k :: _ => { r with origin := some (lostOrigin cls case k), illPosed := true }
  | [] => r

/-- Skillets of a list on which an instance lies (R113, R144), or from which it is being relocated (R145). -/
def lyingOn (cls case : Nat) (contact : Bool) (l : List Nat) (s : State) : List Nat :=
  l.filter fun k => (scheduleOf cls contact case s).uses s.fab.variant k ||
    s.fab.moving.any fun v => (scheduleOf cls contact case s).uses v k

/-- A converged result: the first value is not above the second, and neither is NaN. -/
def convergedBy (c : Option (Nat × Nat)) (r : Running) : Bool :=
  match c with
  | none => true
  | some p => match compareVals (r.get p.1) (r.get p.2) with
    | some o => o != .gt
    | none => false

/-- A problem instance: class, retry, contact, case, unit mask, basis, values read and warm-start source (R112, R114). -/
structure Instance where
  cls : Nat
  retry : Bool := false
  contact : Bool := false
  case : Nat := 0
  mask : Nat := 0xFFFF
  basis : Nat
  inputs : List (AsmName × AsmInput)
  source : Option WarmSource := none

/-- The warm start of an instance. -/
def warmOf (i : Instance) (s : State) : WarmReg × List Int :=
  warmStart (scheduleOf i.cls i.contact i.case s) (scheduleIdent i.cls i.retry i.contact i.case i.mask s) i.mask i.source

/-- What its operations find. -/
def envOf (i : Instance) (s : State) : RunEnv :=
  let t := s.cfg.image.tuning
  { cls := i.cls, retry := i.retry, floor := t.floors.getD i.cls 1, delta := t.delta, deltaFrac := t.deltaFrac
    reads := fun n => (i.inputs.find? (·.1 == n)).map (·.2)
    starts := fun v =>
      { code := some ((warmOf i s).2.getD v 0), fmt := ((scheduleOf i.cls i.contact i.case s).vars.getD v { tag := 0 }).fmt } }

/-- The operations of an instance (R122, R141): compiled iterations, and 4 more when it starts cold. -/
def stepsOf (i : Instance) (s : State) : List SolverStep :=
  let sch := scheduleOf i.cls i.contact i.case s
  sch.steps ++ (if (warmOf i s).1.mode == 3 then sch.extra else [])

/-- What a run gave (R122 to R124, R137); a held source that lost a word, or a store that lost one in this epoch, spoils it (R30). -/
def solvedOf (i : Instance) (r : Running) (s : State) : Solved :=
  let sch := scheduleOf i.cls i.contact i.case s
  let w := (warmOf i s).1
  let cold := w.mode == 3
  let final := (sch.vars.zip (if cold then sch.coldResult else sch.result)).filter fun p => varIn i.cls i.mask p.1
  let values := final.filterMap fun p => (r.get p.2).code.map fun c => (p.1.tag, c)
  let solved : Solved :=
    { origin := r.origin, illPosed := r.illPosed, overflow := r.overflow
      converged := convergedBy (if cold then sch.coldConv else sch.conv) r, warm := w
      iterate := { ident := scheduleIdent i.cls i.retry i.contact i.case i.mask s, basis := i.basis, values } }
  let solved := spoiled i.cls i.case (lyingOn i.cls i.case i.contact s.fab.broken s) solved
  if i.source.isSome && s.fab.lostSources.contains (i.cls, i.case) then
    { solved with origin := some (lostOrigin i.cls i.case 0), illPosed := true }
  else solved

/-- Results as retirement writes them (R133): Skillet, sequence number, step and value of every operation issued from number `from'` on. -/
def retiredOps (i : Instance) (from' : Nat) (r : Running) (s : State) : List (Nat × Nat × SolverStep × Val) :=
  (List.range (r.count - from')).filterMap fun m => ((stepsOf i s)[from' + m]?).bind fun p =>
    if takesPart i.mask p.owner then some (p.skillet s.fab.variant, from' + m, p, r.get (from' + m)) else none

/-- The slot entry of a retired operation, freed, with the kind of its origin (R131, R133). -/
def slotOf (i : Instance) (e : RunEnv) (r : Running) (n : Nat) (p : SolverStep) (v : Val) : Slot :=
  let o := p.op.operands
  let operand (k : Nat) : Q := match o[k]? with
    | some a => (r.get a).code
    | none => some 0
  { occupied := false, completed := true, origin := (applyOp e r.get p.fmt p.op).2, cls := i.cls, case := i.case, seq := n, result := v.code
    first := operand 0, second := operand 1 }

/-- The tile stores and the slot table after the operations of an instance from number `from'` on have run: one operation at a time in the
lowest slot of its tile (log 112); the first of them overwrites the region's earlier run. -/
def keepRun (i : Instance) (from' : Nat) (r : Running) (s : State) : State :=
  let ops := retiredOps i from' r s
  let words (k : Nat) : List TileWord := (ops.filter (·.1 == k)).map fun o => ⟨i.cls, i.case, o.2.1, o.2.2.2.code⟩
  let slots := ops.foldl (fun l o => modAt l (64 * o.1) fun _ => slotOf i (envOf i s) r o.2.1 o.2.2.1 o.2.2.2) s.fab.slots
  let held (w : TileWord) : Bool := from' != 0 || w.cls != i.cls || w.case != i.case
  { s with fab := { s.fab with slots, tiles := mapAt s.fab.tiles fun k l => l.filter held ++ words k } }

/-- An instance runs: its result, and the fabric after it. -/
def runInstance (i : Instance) (s : State) : Solved × State :=
  let r := runSteps (envOf i s) i.mask {} (stepsOf i s)
  (solvedOf i r s, keepRun i 0 r s)

/-- The instance succeeded: it did not fail and it converged (R142). -/
def Solved.ok (r : Solved) : Bool := r.origin.isNone && r.converged

/-- Value of a reported quantity in a result, narrowed to n fraction bits (R121); none where the report does not name it. -/
def Solved.reported (r : Solved) (sch : Schedule) (name : OutName) (n : Nat) : Q :=
  (sch.tagOf name).bind fun t => (lookupNat t r.iterate.values).bind fun v =>
    (sch.vars.find? (·.tag == t)).bind fun d => narrow d.fmt.frac n v

/-- Value of a reported quantity in its own format. -/
def Solved.raw (r : Solved) (sch : Schedule) (name : OutName) : AsmInput :=
  match (sch.tagOf name).bind fun t => sch.vars.find? (·.tag == t) with
  | some d => { code := lookupNat d.tag r.iterate.values, frac := d.fmt.frac }
  | none => { code := none, frac := 0 }

/-- Value of a tagged variable in a result, narrowed to n fraction bits (R139, R121). -/
def Solved.tagged (r : Solved) (sch : Schedule) (tag n : Nat) : Q :=
  (lookupNat tag r.iterate.values).bind fun v => (sch.vars.find? (·.tag == tag)).bind fun d => narrow d.fmt.frac n v

/-- A held warm-start source that has lost a word is given up once an instance has read it (log 113). -/
def dropLostSource (cls case : Nat) (s : State) : State :=
  if s.fab.lostSources.contains (cls, case) then
    let l := s.mir.ldl
    let l := match cls with
      | 1 => { l with baSource := none }
      | 3 => { l with alcSource := none }
      | 4 => { l with mpcSource := none }
      | _ => { l with cqaSource := modAt l.cqaSource case fun _ => none }
    { s with mir := { s.mir with ldl := l }, fab := { s.fab with lostSources := s.fab.lostSources.filter (· != (cls, case)) } }
  else s

/-! ## Failed instances (R124, R128) -/

/-- Bit of MRT_STATUS for a failed instance of a class; the failed retry has bit 7 (R128). -/
def statusBit (cls : Nat) (retry : Bool) : Nat := if retry then 7 else cls

def setStatus (b : Nat) (s : State) : State :=
  { s with mir := { s.mir with mrt := { s.mir.mrt with status := s.mir.mrt.status ||| 2 ^ b } } }

/-- Iteration as reported: 0 for assembly and for classes that do not iterate. -/
def reportedIter (cls : Nat) (o : Origin) : Nat := if cls = 0 ∨ cls = 2 ∨ o.kind = 6 then 0 else min o.iter 255

/-- MRT_LAST_ORIGIN (R128). -/
def lastOriginWord (cls case : Nat) (retry : Bool) (o : Origin) : Nat :=
  cls * 2 ^ 28 + o.kind % 16 * 2 ^ 24 + (if cls = 5 then case % 64 else 0) * 2 ^ 16 + flag retry * 2 ^ 15 + reportedIter cls o

/-- Index of an event about an instance: its case, or none. -/
def caseIndex (cls case : Nat) : Nat := if cls = 5 then case else 0xFFFFFFFF

/-- A failed instance raises one event and updates the Mortar registers (R124, R128). -/
def noteFailure (cls case : Nat) (retry : Bool) (basis : Nat) (o : Origin) (s : State) : State :=
  let m := s.mir.mrt
  let count (c : FailCount) : FailCount :=
    if pivotKind o.kind then { c with pivot := bump 16 c.pivot } else { c with other := bump 16 c.other }
  let s := setStatus (statusBit cls retry) s
  let s := { s with mir := { s.mir with mrt := { s.mir.mrt with
    lastOrigin := lastOriginWord cls case retry o, lastEpoch := basis % 2 ^ 32, lastVar := o.var % 2 ^ 16
    fails := modAt m.fails cls count } } }
  raiseWith (if pivotKind o.kind then 97 else 96) (caseIndex cls case) o.kind 0 s

/-- The report of an instance that failed; nothing for one that did not. -/
def noteSolved (cls case : Nat) (retry : Bool) (basis : Nat) (r : Solved) (s : State) : State :=
  match r.origin with
  | some o => noteFailure cls case retry basis o s
  | none => s

/-- A cold start under the first case of R141 is counted, with EV_098. -/
def noteCold (cls case : Nat) (w : WarmReg) (s : State) : State :=
  if w.mode = 3 ∧ w.cause = 1 then
    let l := s.mir.ldl
    let l := match cls with
      | 1 => { l with coldBa := bump 8 l.coldBa }
      | 3 => { l with coldAlc := bump 8 l.coldAlc }
      | 4 => { l with coldMpc := bump 8 l.coldMpc }
      | 5 => { l with coldCqa := bump 8 l.coldCqa }
      | _ => l
    raiseAt 98 (caseIndex cls case) { s with mir := { s.mir with ldl := l } }
  else s

/-! ## Slow instances (R111, R134) -/

/-- Change the slow instances in progress. -/
def modSlow (f : SlowLocal → SlowLocal) (s : State) : State := { s with slow := f s.slow }

/-- The basis record of a slow instance, taken at E+300 µs of its basis epoch (R111). -/
def basisRecord (mask : Nat) (inputs : List (AsmName × AsmInput)) (source : Option WarmSource) (s : State) : SlowRun :=
  { basis := s.ex.epoch, mask, inputs, source, result := none
    wind := [s.mir.wsk.windX, s.mir.wsk.windY, s.mir.wsk.windN], gate := s.mir.est.gate
    berth := if s.mir.mode.func = some .berthPush then some s.mir.mode.berth else none }

/-- The instance of a basis record. -/
def slowInstance (cls case : Nat) (p : SlowRun) : Instance :=
  { cls, case, mask := p.mask, basis := p.basis, inputs := p.inputs, source := p.source }

/-- End of the slice that begins with operation `done` of `total`: the first boundary beyond it, or the end of the schedule. -/
def sliceEnd (slices : List Nat) (done total : Nat) : Nat := min total ((slices.find? fun b => decide (done < b)).getD total)

/-- The next slice of a slow instance runs (R134): every operation of it retires, and after the last slice the instance has its result. -/
def runSlow (cls case : Nat) (p : SlowRun) (s : State) : SlowRun × State :=
  match p.result with
  | some _ => (p, s)
  | none =>
    let i := slowInstance cls case p
    let steps := stepsOf i s
    let stop := sliceEnd (scheduleOf cls false case s).slices p.run.count steps.length
    let r := runSteps (envOf i s) i.mask p.run ((steps.drop p.run.count).take (stop - p.run.count))
    ({ p with run := r, result := if stop = steps.length then some (solvedOf i r s) else none }, keepRun i p.run.count r s)

end Sys2Proof.Machine
end

