-- ==== Sys2Proof/Machine/Operands.lean ====
section
/-! DEFINITION. The forms in which values stand in frames, messages, records and registers (chapters 13 and 14), and what
the image declares of them. -/

namespace Sys2Proof.Machine

/-! ## Declarations -/

/-- Thrust unit j is declared. -/
def declared (j : Nat) (s : State) : Bool := decide (j < s.cfg.image.units.length)

/-- Declaration of thrust unit j. -/
def unitDecl (j : Nat) (s : State) : ThrustUnit := s.cfg.image.units.getD j {}

/-- Numbers of the declared thrust units. -/
def unitIds (s : State) : List Nat := List.range (min 16 s.cfg.image.units.length)

/-- State of thrust unit j. -/
def unitState (j : Nat) (s : State) : UnitState := s.mir.alc.units.getD j {}

/-- Change the state of thrust unit j. -/
def modUnit (j : Nat) (f : UnitState → UnitState) (s : State) : State :=
  { s with mir := { s.mir with alc := { s.mir.alc with units := modAt s.mir.alc.units j f } } }

/-- Declaration of a source: latency, sample period, time tags (R214). -/
def sourceDecl (source : Nat) (s : State) : SourceDecl :=
  (s.cfg.image.sources.find? (·.source == source)).getD { source }

/-- The set-point kind `b` of R273 KINDS is declared for unit j. -/
def hasKind (b : Nat) (u : ThrustUnit) : Bool := u.kinds.testBit b

/-- Latency and sample period of unit j's feedback: zero and 4 epochs where not declared (R280). -/
def feedbackTiming (u : ThrustUnit) (s : State) : Nat × Nat :=
  match s.cfg.image.sources.find? (·.source == u.source) with
  | some d => (d.latency, if d.period = 0 then 2000000 else d.period)
  | none => (0, 2000000)

/-! ## Set-point records (R273, R274) -/

/-- FLAGS of a set-point record. -/
def setPointFlags (p : SetPoint) : Nat :=
  128 * flag p.decl + 64 * flag p.part + 32 * flag p.zero + 16 * flag p.held + 8 * flag p.test

/-- One 24-octet record of the set-point block. -/
def setPointBytes (j : Nat) (p : SetPoint) : List Byte :=
  beBytes 1 j ++ beBytes 1 (setPointFlags p) ++ beBytes 1 p.kinds ++ beBytes 1 p.cause ++
    beBytes 4 (codeS 32 p.thrust) ++ beBytes 4 (codeU 32 p.power) ++ beBytes 4 (codeS 32 p.pitch) ++
    beBytes 4 (codeS 32 p.rpm) ++ beBytes 4 (codeS 32 p.azimuth)

/-- A record with DECL 0: NaN in octets 4 to 23, zero in octets 1 to 3 (R274). -/
def undeclaredSetPoint : SetPoint := ⟨false, false, false, false, false, 0, 0, none, none, none, none, none⟩

/-- A set-point as its record carries it: a field whose kind is not declared holds NaN (R274). -/
def maskKinds (u : ThrustUnit) (p : SetPoint) : SetPoint :=
  let keep (b : Nat) (q : Q) : Q := if hasKind b u then q else none
  { p with thrust := keep 0 p.thrust, power := keep 1 p.power, pitch := keep 2 p.pitch, rpm := keep 3 p.rpm
           azimuth := keep 4 p.azimuth }

/-- The set-point block of the epoch: 16 records. -/
def setPoints (s : State) : List SetPoint :=
  (List.range 16).map fun j =>
    if declared j s then maskKinds (unitDecl j s) (unitState j s).prev else undeclaredSetPoint

/-- Octets of the set-point block. -/
def setPointBlock (s : State) : List Byte := (mapAt (setPoints s) setPointBytes).flatten

/-! ## Feedback (R279) -/

/-- STATUS of a feedback payload. -/
def feedbackStatus (f : Feedback) : Nat :=
  flag f.ready + 2 * flag f.following + 4 * flag f.lossOfCommand + 8 * flag f.loc + 16 * flag f.fault +
    32 * flag f.limited

/-- The 48 octets of a feedback payload. -/
def feedbackBytes (f : Feedback) : List Byte :=
  let b := beBytes 1 2 ++ beBytes 1 1 ++ beBytes 2 48 ++ beBytes 1 f.unit ++ beBytes 1 (feedbackStatus f) ++
    beBytes 2 f.fbSeq ++ beBytes 4 f.echo ++ beBytes 8 f.tag ++ beBytes 4 (codeS 32 f.thrust) ++
    beBytes 4 (codeU 32 f.power) ++ beBytes 4 (codeS 32 f.pitch) ++ beBytes 4 (codeS 32 f.rpm) ++
    beBytes 4 (codeS 32 f.azimuth) ++ beBytes 4 0
  b ++ beBytes 4 (crc32c b)

/-- What the 48 octets of a feedback payload say. -/
def feedbackOf (b : List Byte) : Feedback :=
  let st := octets b 5 1
  { unit := octets b 4 1, ready := st.testBit 0, following := st.testBit 1, lossOfCommand := st.testBit 2
    loc := st.testBit 3, fault := st.testBit 4, limited := st.testBit 5, fbSeq := octets b 6 2
    echo := octets b 8 4, tag := octets b 12 8, thrust := qS 32 (octets b 20 4), power := qU 32 (octets b 24 4)
    pitch := qS 32 (octets b 28 4), rpm := qS 32 (octets b 32 4), azimuth := qS 32 (octets b 36 4) }

/-! ## CAN messages (R289 to R293) -/

/-- Payload of a CAN record: bus, identifier with its form in bit 31, data (R289; octet places, log 8). -/
def canRecordBytes (bus : Nat) (ident : CanId) (data : List Byte) : List Byte :=
  beBytes 2 bus ++ beBytes 4 (ident.number + flag ident.extended * 2 ^ 31) ++ data

/-- The data of a CAN record's payload. -/
def canData (payload : List Byte) : List Byte := payload.drop 6

/-- Octets of a received CAN message. -/
def canBodyBytes : CanBody → List Byte
  | .busSection sec lost seq limit nondp =>
    let b := beBytes 1 0x21 ++ beBytes 1 sec ++ beBytes 1 (flag lost) ++ beBytes 1 seq ++
      beBytes 4 (codeU 32 limit) ++ beBytes 4 (codeU 32 nondp)
    b ++ beBytes 4 (crc32c b)
  | .plant seq ties rooms soc =>
    let b := beBytes 1 0x22 ++ beBytes 1 seq ++ beBytes 1 ties ++ beBytes 1 rooms ++
      ((List.range 8).map fun r => beBytes 4 (codeU 32 (soc.getD r none))).flatten ++ beBytes 8 0
    b ++ beBytes 4 (crc32c b)
  | .panel panel valid inCommand seq surge sway yaw =>
    let b := beBytes 1 0x31 ++ beBytes 1 panel ++ beBytes 1 (flag valid + 2 * flag inCommand) ++ beBytes 1 seq ++
      beBytes 4 (codeS 32 surge) ++ beBytes 4 (codeS 32 sway) ++ beBytes 4 (codeS 32 yaw)
    b ++ beBytes 4 (crc32c b)
  | .feedback fb => feedbackBytes fb

/-- SECTION, PANEL or neither: what tells the sources of one identifier apart (R289). -/
def canSub : CanBody → Nat
  | .busSection sec _ _ _ _ => sec
  | .panel panel _ _ _ _ _ _ => panel
  | _ => 0

/-- SEQ, or FB_SEQ of a feedback message. -/
def canSeq : CanBody → Nat
  | .busSection _ _ seq _ _ => seq
  | .plant seq _ _ _ => seq
  | .panel _ _ _ seq _ _ _ => seq
  | .feedback fb => fb.fbSeq

/-- A section report as its octets say (R290). -/
structure SectionReport where
  sec : Nat
  lost : Bool
  limit : Q
  nonDp : Q
deriving DecidableEq, Repr, Inhabited

def sectionOf (b : List Byte) : SectionReport :=
  ⟨octets b 1 1, (octets b 2 1).testBit 0, qU 32 (octets b 4 4), qU 32 (octets b 8 4)⟩

/-- A plant report (R291). -/
structure PlantReport where
  ties : Nat
  rooms : Nat
  soc : List Q
deriving DecidableEq, Repr, Inhabited

def plantOf (b : List Byte) : PlantReport :=
  ⟨octets b 2 1, octets b 3 1, (List.range 8).map fun r => qU 32 (octets b (4 + 4 * r) 4)⟩

/-- A panel message (R292): panel number and its new state. -/
def panelOf (b : List Byte) : Nat × PanelState :=
  let fl := octets b 2 1
  (octets b 1 1, { valid := fl.testBit 0, inCommand := fl.testBit 1, surge := qS 32 (octets b 4 4)
                   sway := qS 32 (octets b 8 4), yaw := qS 32 (octets b 12 4), age := 0 })

/-- Record source number of a CAN message: that of its identifier with SECTION or PANEL, accepted on either bus of its
pair (R288, R289); feedback only for the thrust unit it names (R293). -/
def canSource (bus : Nat) (ident : CanId) (body : CanBody) (s : State) : Option Nat :=
  let d := s.cfg.image.canSources.find? fun d =>
    d.ident == ident && d.sub == canSub body && d.busPair == (bus - 1) / 2
  match body with
  | .feedback fb => d.bind fun d =>
      if declared fb.unit s && (unitDecl fb.unit s).source == d.source then some d.source else none
  | _ => d.map (·.source)

/-- Time acceptance state of a source: its record source number found among references, heading sources, motion
reference units, wind sensors, draft inputs and drives (R214, R215). -/
def suspect (source : Nat) (s : State) : Bool :=
  let img := s.cfg.image
  let w := s.mir.wsk
  let inList (srcs : List Nat) (st : List AuxSource) := (srcs.zip st).any fun p => p.1 == source && p.2.suspect
  ((img.refs.map (·.source)).zip w.refs).any (fun p => p.1 == source && p.2.suspect) ||
    (img.hdgs.zip w.hdgs).any (fun p => p.1.any (·.source == source) && p.2.suspect) ||
    inList img.mrus w.mrus || inList img.winds w.winds || inList img.drafts w.drafts ||
    inList (img.units.map (·.source)) w.feeds

/-- A record of a source that carries time tags is formed with the time of validity of R42. -/
def ingestTagged (source stamp : Nat) (tag : Option Nat) (payload : List Byte) (s : State) : State :=
  let v := validityOf stamp (sourceDecl source s).latency tag (!suspect source s)
  ingest source stamp v.1 v.2 payload s

/-! ## What a unit sends -/

/-- AUTHORITY: 1 only in ACTIVE (R63, R272); a roleless unit sends it cleared (R275), and so does a unit whose life-cycle
state refuses ACTIVE (R431). -/
def authority (s : State) : Bool := s.um.mode == .active && s.um.role != .none && activePermitted s.life.state

/-- Function in the frames: that of ACTIVE, 0 elsewhere. -/
def frameFunc (s : State) : Nat := if s.um.mode = .active then funcNum s.mir.mode.func else 0

/-- Payload of a CAN command message for thrust unit j (R297). -/
def canCommandBytes (j : Nat) (s : State) : List Byte :=
  let b := beBytes 1 0x11 ++ beBytes 1 1 ++ beBytes 1 (flag (authority s) + 2 * flag s.cfg.image.single) ++
    beBytes 1 (frameFunc s) ++ beBytes 4 s.ex.epoch ++ beBytes 2 s.mir.pair.seq ++ beBytes 2 0 ++
    setPointBytes j ((setPoints s).getD j undeclaredSetPoint) ++ beBytes 8 s.cfg.image.imageId
  b ++ beBytes 4 (crc32c b)

/-- Payload of a DP power message (R299). -/
def powerBytes (s : State) : List Byte :=
  let p (k : Nat) : Q := if k < s.cfg.image.secLimits.length then (s.mir.alc.sections.getD k {}).power else none
  let b := beBytes 1 0x23 ++ beBytes 1 (flag (authority s) + 2 * flag s.mir.mpc.plan.isSome) ++ beBytes 2 0 ++
    beBytes 4 s.ex.epoch ++ ((List.range 8).map fun k => beBytes 4 (codeU 32 (p k))).flatten ++ beBytes 4 0
  b ++ beBytes 4 (crc32c b)

/-- Payload of a sent CAN message. -/
def canPayload (m : Nat) (s : State) : List Byte :=
  match (s.cfg.image.messages.getD m {}).unit with
  | some j => canCommandBytes j s
  | none => powerBytes s

/-- Releases of the epoch: row N mod 16 of the schedule matrix (R294), as (message, offset). -/
def epochReleases (s : State) : List (Nat × Nat) := s.cfg.image.schedule.getD (s.ex.epoch % 16) []

/-- Modes in which a unit emits command frames and CAN messages (R63, R275). -/
def emitMode : Mode → Bool
  | .standby | .active => true
  | _ => false

/-- The unit emits in this epoch: its mode emits, the decision of E+340 µs is to emit, nothing has stopped it, and it is on the ring (R24,
R50, R63, R268, R275). -/
def emitting (s : State) : Bool := emitMode s.um.mode && s.ex.emit && !s.ex.stopped && s.rng.relayOpen

/-- Content of the command digest (R49): epoch, set-point block, the payload of every release once. -/
def commandDigestOf (s : State) : Nat :=
  sha64 (beBytes 4 s.ex.epoch ++ setPointBlock s ++ ((epochReleases s).map fun r => canPayload r.1 s).flatten)

/-- Octets of an operator command that took effect, for the commitment digest (log 9). -/
def commandBytes (c : Command) : List Byte :=
  beBytes 1 (unitCode c.id.origin) ++ beBytes 2 c.id.source ++ beBytes 4 c.id.seq ++ beBytes 4 c.addr ++
    (c.words.map wordBytes).flatten

/-- Content of the commitment digest (R49). -/
def commitDigestOf (s : State) : Nat :=
  sha64 (beBytes 4 s.ex.epoch ++ (s.ex.committed.map recordBytes).flatten ++ (s.ex.effected.map commandBytes).flatten)

end Sys2Proof.Machine
end

