-- ==== Sys2Proof/Machine/Field.lean ====
section
/-! DEFINITION. CAN FD field buses and serial sensor ports (chapter 14). -/

namespace Sys2Proof.Machine

/-! ## Buses -/

/-- State of bus b, 1 to 8. -/
def busState (b : Nat) (s : State) : CanBus := s.fld.buses.getD (b - 1) {}

/-- Change bus b; there are only buses 1 to 8. -/
def modBus (b : Nat) (f : CanBus → CanBus) (s : State) : State :=
  if b = 0 then s else { s with fld := { s.fld with buses := modAt s.fld.buses (b - 1) f } }

/-- The paired bus of R285. -/
def pairedBus (b : Nat) : Nat := if b % 2 = 1 then b + 1 else b - 1

/-- The bus is bus-off or held off. -/
def busOff (b : Nat) (s : State) : Bool := (busState b s).state == 3 || (busState b s).state == 4

/-- The bus is in use: not disabled. -/
def busUsed (b : Nat) (s : State) : Bool := decide (1 ≤ b) && decide (b ≤ 8) && (busState b s).state != 5

/-- The bus takes part in the traffic: in use and not off. -/
def busOpen (b : Nat) (s : State) : Bool := busUsed b s && !busOff b s

/-- CAN_b_WARN of bus b: transmit and receive thresholds (R300, R307). -/
def warnOf (b : Nat) (s : State) : Nat × Nat :=
  let w := s.mir.fld.warn.getD (b - 1) 0x4040
  (fieldOf w 15 8, fieldOf w 7 0)

/-- STATE of a bus that is not off, from its error counters (R300, ISO 11898-1). -/
def counterState (warn : Nat × Nat) (tec rec : Nat) : Nat :=
  if 128 ≤ tec ∨ 128 ≤ rec then 2 else if warn.1 ≤ tec ∨ warn.2 ≤ rec then 1 else 0

/-- EV_048, EV_049 and EV_051 follow the buses' states (R300, R302, R352). -/
def busEvents (b : Nat) (s : State) : State :=
  let some' (f : CanBus → Bool) := s.fld.buses.any f
  let warned := (List.range 8).any fun i =>
    let c := busState (i + 1) s
    decide (c.state ≤ 2) && decide ((warnOf (i + 1) s).1 ≤ c.txErr ∨ (warnOf (i + 1) s).2 ≤ c.rxErr)
  let passive := some' fun c => c.state == 2
  let held := some' fun c => c.state == 4
  conditionAt 51 b held (conditionAt 49 b passive (conditionAt 48 b warned s))

/-- New error counters of a bus in use that is not off. -/
def setCounters (b tec rec : Nat) (s : State) : State :=
  if busOpen b s then
    let w := warnOf b s
    busEvents b (modBus b (fun c => { c with txErr := min tec 255, rxErr := min rec 255
                                             state := counterState w (min tec 255) (min rec 255) }) s)
  else s

/-- The error counters after an error on the bus: EV_048 where one has reached its warning threshold, nothing raised below it (R300). -/
def execCanErrorWarning (b tec rec : Nat) (s : State) : Host.Outcome State Fault Refusal :=
  .next (setCounters b tec rec s)

/-- A bus goes error passive: EV_049 (R300). -/
def execCanErrorPassive (b tec rec : Nat) (s : State) : Host.Outcome State Fault Refusal :=
  .next (if 128 ≤ tec ∨ 128 ≤ rec then setCounters b tec rec s else s)

/-- A frame is received without error: the receive error counter falls by 1, and from above 127 to a value of 119 to 127 that is free
(R300, ISO 11898-1, log 152). -/
def frameReceived (b : Nat) (s : State) : State :=
  let c := busState b s
  if c.rxErr = 0 then s
  else if c.rxErr ≤ 127 then setCounters b c.txErr (c.rxErr - 1) s
  else
    let d := drawFree s
    setCounters b c.txErr (119 + d.1 % 9) d.2

/-- The identifier of a sent message on this unit (R288). -/
def identOf (m : Nat) (s : State) : CanId :=
  let d := s.cfg.image.messages.getD m {}
  if s.um.unit = .a then d.identA else d.identB

/-- Arbitration of identifiers, lower wins: bit by bit, and of an 11-bit identifier and a 29-bit one that begins with the same bits the
first (R295, ISO 11898-1, log 152). -/
def arbKey (i : CanId) : Nat := if i.extended then 2 * i.number + 1 else i.number * 2 ^ 19

/-- Withdrawn messages are counted, with EV_052 (R295). -/
def withdraw (b n : Nat) (s : State) : State :=
  if n = 0 then s
  else raiseAt 52 b (modBus b (fun c => { c with withdrawn := min 255 (c.withdrawn + n) }) s)

/-- The message of highest priority in a queue. -/
def topMessage (q : List Queued) : Option Queued :=
  q.foldl (fun a m => match a with
    | none => some m
    | some t => if arbKey m.ident < arbKey t.ident then some m else some t) none

/-- Bus-off (R301): EV_050; the highest-priority single message moves to the paired bus, the other single messages are
withdrawn, dual messages stay. An automatic recovery begins when fewer than 3 began in the last 120 000 epochs; otherwise the bus is held
off, EV_051 (R302). -/
def execCanBusOff (b : Nat) (s : State) : Host.Outcome State Fault Refusal :=
  .next (if busOpen b s then
    let c := busState b s
    let recent := c.recoveries.filter (· < 120000)
    let begins := decide (recent.length < 3)
    let singles := c.queue.filter fun m => !m.dual
    let top := topMessage singles
    let p := pairedBus b
    let move := busOpen p s
    let s := modBus b (fun c => { c with
      state := if begins then 3 else 4, txErr := 255, busOffs := bump 8 c.busOffs, begun := begins
      recoveries := if begins then recent ++ [0] else recent
      moved := if move && top.isSome then bump 8 c.moved else c.moved
      queue := c.queue.filter (·.dual) }) s
    let s := match top with
      | some m => if move then modBus p (fun c => { c with queue := c.queue ++ [m] }) s else s
      | none => s
    let s := raiseAt 50 b s
    busEvents b (withdraw b (singles.length - (if move && top.isSome then 1 else 0)) s)
  else s)

/-- 128 occurrences of 11 recessive bits (R302): a bus whose automatic recovery had begun is error active again; one without is held off,
EV_051. -/
def execCanBusRecovery (b : Nat) (s : State) : Host.Outcome State Fault Refusal :=
  .next (if busUsed b s && (busState b s).state == 3 then
    if (busState b s).begun then
      busEvents b (modBus b (fun c => { c with state := 0, txErr := 0, rxErr := 0, begun := false }) s)
    else busEvents b (modBus b (fun c => { c with state := 4 }) s)
  else s)

/-- CAN_RESTART (R302, R307): the unit restarts the named buses that it holds off. -/
def restartBuses (mask : Nat) (s : State) : State :=
  (List.range 8).foldl (fun s i =>
    if mask.testBit i ∧ (busState (i + 1) s).state = 4 then
      busEvents (i + 1) (modBus (i + 1) (fun c =>
        { c with state := 0, txErr := 0, rxErr := 0, begun := false }) s)
    else s) s

/-! ## Sending (R294 to R296) -/

/-- One release into one bus's queue, with its identifier and payload; a disabled bus takes none (R285, R288). -/
def queueOn (b : Nat) (m off : Nat) (dual : Bool) (s : State) : State :=
  if busUsed b s then
    modBus b (fun c => { c with queue := c.queue ++ [⟨m, identOf m s, canPayload m s, s.ex.epoch, off, dual⟩] }) s
  else s

/-- A release (R295, R301): single messages on the primary bus, or the paired bus while the primary is off; dual ones on both, an off one
too; withdrawn when neither bus of the pair is open. A primary bus that is disabled releases nothing (R285). -/
def releaseMessage (m off : Nat) (s : State) : State :=
  let d := s.cfg.image.messages.getD m {}
  let p := d.primary
  let q := pairedBus p
  if ¬ busUsed p s then s
  else if !busOpen p s && !busOpen q s then withdraw p 1 s
  else if d.dual then queueOn q m off true (queueOn p m off true s)
  else if busOpen p s then queueOn p m off false s
  else queueOn q m off false s

/-- At its offset each message released in the epoch enters its queue (R295), on a unit with a role that emits its command frame in the
epoch (R296, R63). -/
def execCanRelease (offsetUs : Nat) (s : State) : Host.Outcome State Fault Refusal :=
  .next (if emitting s && s.um.role != .none then
    let now := s.fld.releases.filter fun r => r.2 == offsetUs
    let s := { s with fld := { s.fld with releases := s.fld.releases.filter fun r => r.2 != offsetUs } }
    now.foldl (fun s r => releaseMessage r.1 r.2 s) s
  else s)

/-- 500 µs have passed at an offset of this epoch since the release of a queued message (R295). -/
def outWaited (m offsetUs : Nat) (s : State) (q : Queued) : Bool :=
  q.message == m && decide (500 * q.epoch + q.offset + 500 ≤ 500 * s.ex.epoch + offsetUs)

/-- The queue without the copies of message m whose time is over; with `onWire` the oldest of them has won arbitration and completes. -/
def withdrawnQueue (m offsetUs : Nat) (onWire : Bool) (s : State) (l : List Queued) : List Queued :=
  let kept := l.filter fun q => !outWaited m offsetUs s q
  match (l.filter (outWaited m offsetUs s)).head? with
  | some q => if onWire then q :: kept else kept
  | none => kept

/-- A message without an arbitration win within 500 µs of its release is withdrawn; one in transmission at that instant completes (R295). -/
def execCanWithdrawal (b m offsetUs : Nat) (onWire : Bool) (s : State) : Host.Outcome State Fault Refusal :=
  .next (let l := (busState b s).queue
    let rest := withdrawnQueue m offsetUs onWire s l
    withdraw b (l.length - rest.length) (modBus b (fun c => { c with queue := rest }) s))

/-- The oldest queued copy of message m has won arbitration and completes: it is on the bus with its identifier, and with ESI while the
controller is error passive; it leaves the queue, and the transmit error counter falls (R286, R288, R295, R300). -/
def execCanTransmitComplete (b m : Nat) (s : State) : Host.Outcome State Fault Refusal :=
  .next (match (busState b s).queue.find? (·.message == m) with
    | some q =>
      if busOpen b s then
        let c := busState b s
        let s := send (.can b m q.ident (c.state == 2) q.payload) (modBus b (fun c => { c with queue := c.queue.erase q }) s)
        setCounters b (c.txErr - 1) c.rxErr s
      else s
    | none => s)

/-! ## Receiving (R286, R289 to R293) -/

/-- A valid message becomes an input record; a repeat of its source is discarded; anything else is counted as
FOREIGN. A frame without error lowers the receive error counter. -/
def execCanMessageRx (m : CanRx) (s : State) : Host.Outcome State Fault Refusal :=
  .next (if busOpen m.bus s && timerRuns s then
    let id : CanId := ⟨m.ident, m.extended⟩
    let s := if m.known then frameReceived m.bus s else s
    match canSource m.bus id m.body s with
    | some src =>
      if m.known && m.lengthOk && m.typeOk && m.crcOk then
        if lookupNat src s.fld.seqs = some (canSeq m.body) then s
        else
          let payload := canRecordBytes m.bus id (canBodyBytes m.body)
          let s := if formsRecords s then
              { s with fld := { s.fld with seqs := insertKey src (canSeq m.body) s.fld.seqs } } else s
          let stamp := readingAt m.tick s
          match m.body with
          | .feedback fb =>
            let tag := if fb.tag = 0 then none else some fb.tag
            ingestTagged src stamp tag payload s
          | _ => ingest src stamp stamp false payload s
      else modBus m.bus (fun c => { c with foreign := bump 8 c.foreign }) s
    | none => modBus m.bus (fun c => { c with foreign := bump 8 c.foreign }) s
  else s)

/-! ## Serial ports (R303 to R306) -/

/-- Change serial port p, 1 to 8. -/
def modPort (p : Nat) (f : SerialPort → SerialPort) (s : State) : State :=
  if p = 0 then s else { s with fld := { s.fld with ports := modAt s.fld.ports (p - 1) f } }

/-- Nanoseconds of a day. -/
def dayNs : Int := 86400000000000

/-- The tag of a UTC time of day, on the date that places it within 12 h of the ingress stamp, on the PTP timescale
(R305). -/
def tagOfDay (stamp tod : Nat) (utcOffset : Int) : Nat :=
  let off := utcOffset * 1000000000
  let utc : Int := stamp - off
  let t := utc / dayNs * dayNs + tod
  let t := if utc - t > dayNs / 2 then t + dayNs else if t - utc > dayNs / 2 then t - dayNs else t
  (t + off).toNat

/-- EV_056 stands while some declared source is silent. -/
def silenceEvent (s : State) : State := if s.fld.silent = [] then clearEvent 56 s else s

/-- A sentence (R304): a fault of its form is counted on its port; one of no declared source is discarded uncounted; an
accepted one is an input record stamped at its first start bit, with its time tag (R305). -/
def execSerialSentenceRx (x : SentenceRx) (s : State) : Host.Outcome State Fault Refusal :=
  .next (if timerRuns s && decide (1 ≤ x.port) && decide (x.port ≤ 8) then
    let count (f : SerialPort → SerialPort) := modPort x.port (fun p => let p := f p; { p with errorsNow := p.errorsNow + 1 }) s
    if x.framing || !x.startOk || !x.endOk then count fun p => { p with framing := bump 8 p.framing }
    else if 80 < x.chars.length then count fun p => { p with overlength := bump 8 p.overlength }
    else if !x.checksumOk then count fun p => { p with checksum := bump 8 p.checksum }
    else
      match x.source.bind fun n => s.cfg.image.serial.find? fun d => d.source == n && d.port == x.port with
      | none => s
      | some d =>
        let s := { s with fld := { s.fld with serialAge := insertKey d.source 0 s.fld.serialAge
                                              silent := s.fld.silent.filter (· != d.source) } }
        let s := silenceEvent s
        let stamp := readingAt x.tick s
        let tag := if d.hasTime then
            x.timeField.bind fun tod => s.mir.tim.utc.map fun off => tagOfDay stamp tod off
          else none
        let v := validityOf stamp (sourceDecl d.source s).latency tag (!suspect d.source s)
        let payload := beBytes 1 x.port ++ beBytes 1 (flag (holdoverAt v.1 s)) ++ beBytes 1 x.chars.length ++ beBytes 1 0 ++ x.chars
        ingest d.source stamp v.1 v.2 payload s
  else s)

/-- No accepted sentence of a declared source for three of its sample periods (R306): EV_056. -/
def execSerialSourceSilent (source : Nat) (s : State) : Host.Outcome State Fault Refusal :=
  .next (match s.cfg.image.serial.find? (·.source == source) with
    | some d =>
      if 3 * d.period ≤ (lookupNat source s.fld.serialAge).getD 0 * 500000 ∧ pastLoadMode s.um.mode then
        raiseAt 56 source { s with fld := { s.fld with silent := insertNat source s.fld.silent } }
      else s
    | none => s)
where
  /-- Modes past LOAD. -/
  pastLoadMode : Mode → Bool
    | .boot | .load | .recovery => false
    | _ => true

/-- More than 10 errors on a port in 2000 epochs (R306): EV_057. -/
def execSerialPortErrors (p : Nat) (s : State) : Host.Outcome State Fault Refusal :=
  .next (match s.fld.ports[p - 1]? with
    | some q => if 1 ≤ p ∧ 10 < q.errors.foldl (· + ·) q.errorsNow then raiseAt 57 p s else s
    | none => s)

end Sys2Proof.Machine
end

