-- ==== Sys2Proof/Machine/Geometry.lean ====
section
/-! DEFINITION. The frames and means of Whisk (R16 to R19, R200, R206, R213, R216 to R218) and of the berth contact (R167, R168): the
rules' formulas on codes, exact but for sines, cosines and arctangents (R119), each result rounded once (R10, log 13). -/

namespace Sys2Proof

/-! ## Vectors and rotations -/

def Vec3.add (a b : Vec3) : Vec3 := ⟨a.x + b.x, a.y + b.y, a.z + b.z⟩
def Vec3.sub (a b : Vec3) : Vec3 := ⟨a.x - b.x, a.y - b.y, a.z - b.z⟩
def Vec3.scale (k : Int) (a : Vec3) : Vec3 := ⟨k * a.x, k * a.y, k * a.z⟩
def Vec3.dot (a b : Vec3) : Int := a.x * b.x + a.y * b.y + a.z * b.z
def Vec3.cross (a b : Vec3) : Vec3 := ⟨a.y * b.z - a.z * b.y, a.z * b.x - a.x * b.z, a.x * b.y - a.y * b.x⟩

end Sys2Proof

namespace Sys2Proof.Machine

/-- A rotation by its rows. -/
structure Rotation where
  r0 : Vec3
  r1 : Vec3
  r2 : Vec3
deriving DecidableEq, Repr, Inhabited

def Rotation.apply (m : Rotation) (v : Vec3) : Vec3 := ⟨m.r0.dot v, m.r1.dot v, m.r2.dot v⟩

/-- One, with the fraction bits of a rotation's entries. -/
def rotOne : Int := 2 ^ 90

/-- The inverse of the rotation in the order z, y, x by three angles (R18, R19): from body to earth axes, or from sensor to body
axes. Entries have 90 fraction bits. -/
def frameRotation (x y z : Int) : Rotation :=
  let o : Int := 2 ^ 30
  let sx := sine x
  let cx := cosine x
  let sy := sine y
  let cy := cosine y
  let sz := sine z
  let cz := cosine z
  ⟨⟨cz * cy * o, cz * sy * sx - sz * cx * o, cz * sy * cx + sz * sx * o⟩,
   ⟨sz * cy * o, sz * sy * sx + cz * cx * o, sz * sy * cx - cz * sx * o⟩,
   ⟨-sy * o * o, cy * sx * o, cy * cx * o⟩⟩

/-- The vector of a sensor reading in body axes from the body origin, L + M · r, with 90 more fraction bits (R200). -/
def bodyVector (f : SensorFrame) (r : Vec3) : Vec3 :=
  (Vec3.scale rotOne f.lever).add ((frameRotation f.mount.x f.mount.y f.mount.z).apply r)

/-- Body origin from an absolute position of the measuring point: p_s − R_eb · L, north and east (R200). -/
def originAbsolute (eb : Rotation) (p lever : Vec3) : Int × Int :=
  let v := (Vec3.scale rotOne p).sub (eb.apply lever)
  (roundDiv v.x (2 ^ 90), roundDiv v.y (2 ^ 90))

/-- Body origin from a vector to an anchor: A − R_eb · (L + M · r_s), north and east (R200). -/
def originRelative (eb : Rotation) (anchor : Vec3) (f : SensorFrame) (r : Vec3) : Int × Int :=
  let v := (Vec3.scale (rotOne * rotOne) anchor).sub (eb.apply (bodyVector f r))
  (roundDiv v.x (2 ^ 180), roundDiv v.y (2 ^ 180))

/-- Anchor of a taut wire from the body origin's position, projected back along r_s (R200). -/
def anchorFrom (eb : Rotation) (north east : Int) (f : SensorFrame) (r : Vec3) : Vec3 :=
  let v := (Vec3.scale (rotOne * rotOne) ⟨north, east, 0⟩).add (eb.apply (bodyVector f r))
  ⟨roundDiv v.x (2 ^ 180), roundDiv v.y (2 ^ 180), roundDiv v.z (2 ^ 180)⟩

/-! ## Weighted means (R206, R213) -/

/-- Nearest integer to √(a / b), b > 0, halfway cases to the even one (R10). -/
def rootQuot (a b : Nat) : Int :=
  let m := isqrt (4 * a / b)
  if m % 2 = 0 then m / 2
  else if m * m * b = 4 * a ∧ m / 2 % 2 = 0 then m / 2
  else m / 2 + 1

/-- A used reference: position at the cut-off, its deviations and correlation (sQ1.30), and whether its weight is halved. -/
structure Fix where
  north : Int
  east : Int
  sigN : Int
  sigE : Int
  rho : Int
  half : Bool
deriving DecidableEq, Repr, Inhabited

/-- 1 or, with a halved weight, 2: what the covariance is multiplied by (R215). -/
def spread (half : Bool) : Int := if half then 2 else 1

/-- Determinant of a fix's covariance, scaled by 2^60 and by its `spread`. -/
def Fix.det (f : Fix) : Int := spread f.half * (f.sigN * f.sigN) * (f.sigE * f.sigE) * (2 ^ 60 - f.rho * f.rho)

/-- Product of all elements but one. -/
def others (l : List Int) (i : Nat) : Int := (l.eraseIdx i).foldl (· * ·) 1

/-- The mean weighted by inverse covariances, and the inverse of the summed weights as north, north-east and east elements in
2⁻²⁴ m² (R206); none where a covariance has no inverse. The weighted positions are summed in 64-bit accumulators of 2⁻²⁰ /m (log 110):
beyond their range the mean is NaN (R8, R9). -/
def weightedMean (l : List Fix) : Option (Q × Q × List Int) :=
  let ds := l.map Fix.det
  let ws := (List.range l.length).zip l |>.map fun p =>
    let f := p.2
    let k := others ds p.1
    let a := k * (f.sigE * f.sigE * 2 ^ 60)
    let b := -(k * (f.rho * f.sigN * f.sigE * 2 ^ 30))
    let c := k * (f.sigN * f.sigN * 2 ^ 60)
    (a, b, c, a * f.north + b * f.east, b * f.north + c * f.east)
  let a := (ws.map (·.1)).foldl (· + ·) 0
  let b := (ws.map (·.2.1)).foldl (· + ·) 0
  let c := (ws.map (·.2.2.1)).foldl (· + ·) 0
  let d := ds.foldl (· * ·) 1
  let unit : Nat := d.natAbs
  let sums : Option (Int × Int) := (accSum unit (ws.map fun w => w.2.2.2.1 * 2 ^ 32)).bind fun n =>
    (accSum unit (ws.map fun w => w.2.2.2.2 * 2 ^ 32)).map fun e => (n / 2 ^ 32, e / 2 ^ 32)
  let det := a * c - b * b
  if ds.all (fun x => decide (0 < x)) ∧ 0 < det then
    some (sums.map fun r => nearestQuot (c * r.1 - b * r.2) det, sums.map fun r => nearestQuot (a * r.2 - b * r.1) det,
      [nearestQuot (d * c) det, nearestQuot (-(d * b)) det, nearestQuot (d * a) det])
  else none

/-- A used heading: value at the cut-off, deviation, and whether its weight is halved. -/
structure Bearing where
  value : Int
  sigma : Int
  half : Bool
deriving DecidableEq, Repr, Inhabited

/-- The arctangent of the weighted sines and cosines, and the deviation of the mean (R213); none where a deviation is zero. The
sines and cosines are summed with weights in units of the largest one, in 64-bit accumulators of 2⁻³⁰ (log 110), which hold them. -/
def weightedHeading (l : List Bearing) : Option (Int × Int) :=
  let vs := l.map fun b => spread b.half * (b.sigma * b.sigma)
  let ws := (List.range l.length).map (others vs)
  let sum (f : Int → Int) : Int := ((ws.zip l).map fun p => p.1 * f p.2.value).foldl (· + ·) 0
  if vs.all fun x => decide (0 < x) then
    some (arctangent (sum sine) (sum cosine), rootQuot (vs.foldl (· * ·) 1).toNat (ws.foldl (· + ·) 0).toNat)
  else none

/-! ## Velocity (R216) -/

/-- A velocity in body axes, sQ10.21, with its variance in 2⁻⁴² (m/s)²; no variance where none is known yet. -/
structure Velocity where
  u : Q := none
  v : Q := none
  var : Q := none
deriving DecidableEq, Repr, Inhabited

/-- Inertial velocity: the previous one advanced over 500 µs by the body accelerations (sQ10.21) with the yaw-rate cross terms, its
variance grown by the declared rate. -/
def advanceVelocity (growth : Int) (ax ay r : Q) (p : Velocity) : Velocity :=
  let step (x a cross : Int) : Q := rangeS (x + roundDiv (a * 2 ^ 26 + cross) (2 ^ 26 * 2000))
  { u := p.u.bind fun u => p.v.bind fun v => ax.bind fun a => r.bind fun r => step u a (r * v)
    v := p.u.bind fun u => p.v.bind fun v => ay.bind fun a => r.bind fun r => step v a (-(r * u))
    var := p.var.map (· + growth) }

/-- Reference velocity: the difference of two fused positions 100 ms apart, in body axes; its variance is twice the position's over
(0.1 s)². -/
def differenceVelocity (dn de hdg : Int) (varPos : Q) : Velocity :=
  let c := cosine hdg
  let n := sine hdg
  { u := rangeS (roundDiv ((dn * c + de * n) * 10) (2 ^ 21))
    v := rangeS (roundDiv ((de * c - dn * n) * 10) (2 ^ 21))
    var := varPos.map (· * (200 * 2 ^ 18)) }

/-- The mean of two velocities weighted by inverse variances; `none` where both variances are zero. A velocity of unknown variance
has no weight. -/
def combineVelocities (i r : Velocity) : Option Velocity :=
  match i.var, r.var with
  | some a, some b =>
    if 0 < a + b then
      let mean (x y : Q) : Q := x.bind fun x => y.bind fun y => rangeS (nearestQuot (x * b + y * a) (a + b))
      some { u := mean i.u r.u, v := mean i.v r.v, var := some (nearestQuot (a * b) (a + b)) }
    else none
  | none, _ => some r
  | some _, none => some i

/-! ## Wind (R217) -/

/-- Relative wind at the body origin: the reading in body axes, with the sensor's own motion on its lever arm taken out, each
component summed in a 64-bit accumulator of 2⁻⁵¹ m/s (log 110; R8, R9). Rates are sQ5.26, lengths sQ19.12, wind sQ10.21. -/
def windAtOrigin (f : SensorFrame) (rates : Vec3) (x y : Int) : Q × Q :=
  let m := frameRotation f.mount.x f.mount.y f.mount.z
  let r := rates
  let l := f.lever
  let sum (terms : List Int) : Q := (accSum (2 ^ 60) terms).bind fun v => rangeS (roundDiv v (2 ^ 90))
  (sum [m.r0.x * x, m.r0.y * y, r.y * l.z * 2 ^ 73, -(r.z * l.y * 2 ^ 73)],
   sum [m.r1.x * x, m.r1.y * y, r.z * l.x * 2 ^ 73, -(r.x * l.z * 2 ^ 73)])

/-- ½ ρ V² A C(γ) / 1000 on one axis, with `frac` fraction bits; C is interpolated linearly between 10° steps. -/
def windAxis (d : WindDecl) (axis : Nat) (frac : Nat) (x y : Int) : Q :=
  let g := arctangent y x % fullTurn * 36
  let k := (g / fullTurn).toNat
  let t := g % fullTurn
  let cs := d.coefs.getD axis []
  let c := cs.getD (k % 36) 0 * (fullTurn - t) + cs.getD ((k + 1) % 36) 0 * t
  rangeS (nearestQuot (d.density * (x * x + y * y) * d.areas.getD axis 0 * c * 2 ^ frac) (2 * 2 ^ 90 * 1000 * fullTurn))

/-! ## Baseline heading (R218) -/

/-- North and east from antenna 0 to antenna 1, the baseline in body axes, its declared horizontal length and tolerance: the heading,
or absence where the length does not fit. -/
def baselineBearing (dn de : Int) (body : Vec3) (roll pitch b tol : Int) : Option Int :=
  let d2 := dn * dn + de * de
  if 0 < b ∧ d2 ≤ (b + tol) * (b + tol) ∧ (b ≤ tol ∨ (b - tol) * (b - tol) ≤ d2) then
    let sx := sine roll
    let cx := cosine roll
    let sy := sine pitch
    let cy := cosine pitch
    let levelX := cy * body.x * 2 ^ 30 + sy * (sx * body.y + cx * body.z)
    let levelY := (cx * body.y - sx * body.z) * 2 ^ 30
    some (arctangent de dn - arctangent levelY levelX)
  else none

/-- √(σ₁² + σ₂²) / b in sQ2.29. -/
def baselineSigma (s1 s2 b : Int) : Int := rootQuot ((s1 * s1 + s2 * s2).toNat * 2 ^ 58) (b * b).toNat

/-! ## Berth contact (R167, R168) -/

/-- How far the contact point of a position and heading lies beyond the berth plane along its inward normal. -/
def compressionAt (cx cy : Int) (planeN planeE normal : Int) (north east hdg : Int) : Q :=
  let c := cosine hdg
  let n := sine hdg
  let dn := (north - planeN) * 2 ^ 30 + cx * c - cy * n
  let de := (east - planeE) * 2 ^ 30 + cx * n + cy * c
  narrow 72 12 (dn * cosine normal + de * sine normal)

/-- Normal force k × d + c × ḋ while d and the sum are positive, else zero: the joint never pulls. -/
def normalForce (k c : Int) (d rate : Q) : Q :=
  d.bind fun d => rate.bind fun r =>
    let f := k * d * 2 ^ 9 + c * r
    if 0 < d ∧ 0 < f then narrow 37 8 f else some 0

/-- Velocity of a body point along the berth plane, 90° clockwise from the inward normal (R167, log 129): sQ10.21. -/
def tangentVelocity (cx cy normal hdg u v r : Int) : Q :=
  let c := cosine hdg
  let n := sine hdg
  let bu := u * 2 ^ 17 - r * cy
  let bv := v * 2 ^ 17 + r * cx
  narrow 98 21 ((bu * n + bv * c) * cosine normal - (bu * c - bv * n) * sine normal)

/-- The least-squares solve of R167: the Fₜ within ±μ Fₙ that brings v_t + (a_t + Fₜ / m_t) × 500 µs nearest to zero, and whether the
bound is active. Velocity and acceleration are sQ10.21, the mass sQ23.8, forces sQ23.8. -/
def tangentialForce (mu : Int) (fn vt at' mt : Q) : Q × Bool :=
  match fn, vt, at', mt with
  | some n, some v, some a, some m =>
    let free := -(m * (2000 * v + a))
    let bound := mu * n * 32
    if bound < free.natAbs then (narrow 29 8 (if 0 ≤ free then bound else -bound), true) else (narrow 29 8 free, false)
  | _, _, _, _ => (none, false)

/-! ## Forces of the thrust units (R166, R172, R176) -/

/-- Force of one unit's thrust at an azimuth, or a rudder angle, along body x and y, with 38 fraction bits; the rudder's force is κ Fx
times its angle while Fx is positive. NaN of either is NaN (R9). -/
def driveForce (d : ThrustUnit) (t az : Q) : Option (Int × Int) :=
  t.bind fun t => match d.kind with
    | .azimuth => az.map fun a => (t * cosine a, t * sine a)
    | .tunnel => some (0, t * 2 ^ 30)
    | .rudder => az.map fun a => (t * 2 ^ 30, if 0 < t then roundDiv (d.kappa * t * a) (2 ^ 15) else 0)

end Sys2Proof.Machine
end

