-- ==== Sys2Proof/Machine/Whisk.lean ====
section
/-! DEFINITION. Sensor alignment and fusion in Whisk (chapter 9). -/

namespace Sys2Proof.Machine

/-! ## Records, tags, instants (R42, R214) -/

/-- The octets of the image, by which the field maps read. -/
def imgContent (s : State) : List Byte := s.cfg.image.content

/-- Cut-off of the epoch, PTP-scale ns (R248). -/
def cutoffNs (s : State) : Int := s.mir.tim.cutoff

/-- The source's records carry the times of validity of their own blocks: GNSS engines and Sieve (R25, R214). -/
def ownTimed (source : Nat) (s : State) : Bool :=
  source == s.cfg.image.gnssA || source == s.cfg.image.gnssB || s.cfg.image.chains.any (·.source == source)

/-- The thrust unit whose feedback source this is. -/
def feedbackUnit (source : Nat) (s : State) : Option Nat :=
  (unitIds s).find? fun j => (unitDecl j s).source == source

/-- The time tag of a committed record, of a source that carries tags: TAG of a feedback payload (R279), the time field
of a sentence (R305). -/
def recordTag (r : InRecord) (s : State) : Option Int :=
  if r.tagged then some r.tov
  else match feedbackUnit r.source s with
    | some _ =>
      let fb := feedbackOf (if (unitDecl ((feedbackUnit r.source s).getD 0) s).canMessage.isSome then canData r.payload else r.payload)
      if fb.tag = 0 then none else some fb.tag
    | none =>
      if (sourceDecl r.source s).tagged then
        (Cfg.tagField (imgContent s) r.source r.payload).bind fun tod =>
          s.mir.tim.utc.map fun off => (tagOfDay r.stamp tod off : Int)
      else none

/-- Latency and sample period in ns of a source. -/
def timingOf (source : Nat) (s : State) : Nat × Nat :=
  match feedbackUnit source s with
  | some j => feedbackTiming (unitDecl j s) s
  | none => let d := sourceDecl source s; (d.latency, d.period)

/-- Drift of a record, ns (R214). -/
def driftOf (r : InRecord) (s : State) : Option Int :=
  if ownTimed r.source s then none
  else (recordTag r s).map fun t => (r.stamp : Int) - (timingOf r.source s).1 - t

/-- The measurement instant of a record (R214). -/
def instantOf (r : InRecord) (suspectNow : Bool) (s : State) : Int :=
  if ownTimed r.source s then r.tov
  else
    let late : Int := (r.stamp : Int) - (timingOf r.source s).1
    if suspectNow then late else (recordTag r s).getD late

/-! ## Time acceptance (R214, R215) -/

/-- The time-suspect state of a source. -/
structure TimeState where
  suspect : Bool
  agreeRun : Nat
  sinceRecord : Nat
  running : Bool
deriving DecidableEq, Repr, Inhabited

/-- Epochs of the run out of the suspect state (R215). -/
def suspectRun : Nat := 120000

/-- One epoch of a source's time acceptance: the drifts of its committed records, and its sample period in ns. -/
def acceptTimes (period : Nat) (any : Bool) (drifts : List Int) (t : TimeState) : TimeState :=
  let bad := drifts.any fun d => decide ((period : Int) < d.natAbs)
  let since := if any then 0 else t.sinceRecord + 1
  if bad then ⟨true, 0, since, false⟩
  else if t.suspect then
    if ¬ drifts.isEmpty then ⟨true, if t.running then t.agreeRun + 1 else 1, since, true⟩
    else if t.running ∧ 3 * period < since * 500000 then ⟨true, 0, since, false⟩
    else ⟨true, if t.running then t.agreeRun + 1 else 0, since, t.running⟩
  else ⟨false, 0, since, false⟩

/-- Time acceptance of the records of a source in this epoch. -/
def acceptSource (source : Nat) (t : TimeState) (s : State) : TimeState :=
  if ownTimed source s then ⟨false, 0, 0, false⟩
  else
    let l := committedOf source s
    acceptTimes (timingOf source s).2 (!l.isEmpty) (l.filterMap fun r => driftOf r s) t

def SourceState.time (x : SourceState) : TimeState := ⟨x.suspect, x.agreeRun, x.sinceRecord, x.running⟩
def SourceState.setTime (x : SourceState) (t : TimeState) : SourceState :=
  { x with suspect := t.suspect, agreeRun := t.agreeRun, sinceRecord := t.sinceRecord, running := t.running }
def AuxSource.time (x : AuxSource) : TimeState := ⟨x.suspect, x.agreeRun, x.sinceRecord, x.running⟩
def AuxSource.setTime (x : AuxSource) (t : TimeState) : AuxSource :=
  { x with suspect := t.suspect, agreeRun := t.agreeRun, sinceRecord := t.sinceRecord, running := t.running }

/-- Record source numbers of references, heading sources (none for a baseline or an undeclared one), auxiliary sensors
and drives, in the order of their states. -/
def refSource (i : Nat) (s : State) : Option Nat := (s.cfg.image.refs[i]?).map (·.source)
def hdgDecl (h : Nat) (s : State) : Option RefDecl := (s.cfg.image.hdgs[h]?).join
def hdgSource (h : Nat) (s : State) : Option Nat := if h < 3 then (hdgDecl h s).map (·.source) else none

/-- EV_085 when a source becomes suspect (R215), by its source number. -/
def suspectEvent (source : Nat) (before after : Bool) (s : State) : State :=
  if !before && after then raiseAt 85 source s else s

/-- Time acceptance of a list of sources: the new time states, and EV_085 for each that becomes suspect. -/
def acceptList (srcs : List (Option Nat × TimeState)) (s : State) : List TimeState × State :=
  let ts := srcs.map fun p => match p.1 with
    | some n => acceptSource n p.2 s
    | none => p.2
  (ts, (srcs.zip ts).foldl (fun s p => suspectEvent (p.1.1.getD 0) p.1.2.suspect p.2.suspect s) s)

/-- Stage 2: time acceptance of every committed record. -/
def timeAcceptance (s : State) : State :=
  let w := s.mir.wsk
  let img := s.cfg.image
  let refs := acceptList (mapAt w.refs fun i x => (refSource i s, x.time)) s
  let hdgs := acceptList (mapAt w.hdgs fun h x => (hdgSource h s, x.time)) refs.2
  let mrus := acceptList (mapAt w.mrus fun i x => (img.mrus[i]?, x.time)) hdgs.2
  let winds := acceptList (mapAt w.winds fun i x => (img.winds[i]?, x.time)) mrus.2
  let drafts := acceptList (mapAt w.drafts fun i x => (img.drafts[i]?, x.time)) winds.2
  let feeds := acceptList (mapAt w.feeds fun j x => ((img.units[j]?).map (·.source), x.time)) drafts.2
  let s := feeds.2
  { s with mir := { s.mir with wsk := { s.mir.wsk with
      refs := List.zipWith SourceState.setTime w.refs refs.1
      hdgs := List.zipWith SourceState.setTime w.hdgs hdgs.1
      mrus := List.zipWith AuxSource.setTime w.mrus mrus.1
      winds := List.zipWith AuxSource.setTime w.winds winds.1
      drafts := List.zipWith AuxSource.setTime w.drafts drafts.1
      feeds := List.zipWith AuxSource.setTime w.feeds feeds.1 } } }

/-- Some source is time-suspect. -/
def anySuspect (w : Whisk) : Bool :=
  w.refs.any (·.suspect) || w.hdgs.any (·.suspect) || w.mrus.any (·.suspect) || w.winds.any (·.suspect) ||
    w.drafts.any (·.suspect) || w.feeds.any (·.suspect)

/-- Leave the suspect state where a source's run is complete. -/
def leaveSuspect (t : TimeState) : TimeState := if t.suspect ∧ suspectRun ≤ t.agreeRun then ⟨false, 0, t.sinceRecord, false⟩ else t

/-- The sources that `which` names leave the time-suspect state at the end of their runs (R215); EV_085 ends with the last. -/
def leaveSuspects (which : Nat → Bool) (s : State) : State :=
  let w := s.mir.wsk
  let img := s.cfg.image
  let src (o : Option Nat) (x : SourceState) := if o.any which then x.setTime (leaveSuspect x.time) else x
  let aux (o : Option Nat) (x : AuxSource) := if o.any which then x.setTime (leaveSuspect x.time) else x
  let w := { w with
    refs := mapAt w.refs fun i x => src (refSource i s) x
    hdgs := mapAt w.hdgs fun h x => src (hdgSource h s) x
    mrus := mapAt w.mrus fun i x => aux img.mrus[i]? x
    winds := mapAt w.winds fun i x => aux img.winds[i]? x
    drafts := mapAt w.drafts fun i x => aux img.drafts[i]? x
    feeds := mapAt w.feeds fun j x => aux ((img.units[j]?).map (·.source)) x }
  let s := { s with mir := { s.mir with wsk := w } }
  if anySuspect w then s else clearEvent 85 s

/-- A source leaves the time-suspect state at the end of its run (R215). -/
def execTimeSuspectExit (source : Nat) (s : State) : Host.Outcome State Fault Refusal :=
  .next (leaveSuspects (· == source) s)

/-! ## Motion (R198, R199, R201) -/

/-- An angle brought into −π to +π, without −π (R19). -/
def wrapAngle (a : Int) : Int :=
  let m := a % 3373259426
  if m ≤ 1686629713 then m else m - 3373259426

/-- What a record reports by the field map of its source, when it is valid; none for an invalid sample of a Sieve chain (R262). -/
def motionOf (r : InRecord) (s : State) : Option (List Q) :=
  if sampleValid r s then Cfg.decodeMotion (imgContent s) r.source r.payload else none
def fixReadOf (r : InRecord) (s : State) : Option Cfg.FixRead :=
  if sampleValid r s then Cfg.decodeFix (imgContent s) r.source r.payload else none
def headingOf (r : InRecord) (s : State) : Option (Int × Option Int) :=
  if sampleValid r s then Cfg.decodeHeading (imgContent s) r.source r.payload else none
def windOf (r : InRecord) (s : State) : Option (Int × Int) :=
  if sampleValid r s then Cfg.decodeWind (imgContent s) r.source r.payload else none
def draftOf (r : InRecord) (s : State) : Q :=
  if sampleValid r s then Cfg.decodeDraft (imgContent s) r.source r.payload else none

/-- A motion reference unit's newest valid record, its quantities and its age within 20 epochs. -/
def mruSample (x : AuxSource) (s : State) : Option (List Q) :=
  x.record.bind fun r => if cutoffNs s - instantOf r x.suspect s ≤ 10000000 then motionOf r s else none

/-- One fused quantity: median of three, mean of two, or the one (R198). A record that holds NaN for it makes it NaN (R9). A unit that does
not deliver the quantity at all counts as none: DESIGN CHOICE (log 158). -/
def fuseQuantity (samples : List (List Q)) (k : Nat) : Q :=
  let l := samples.filterMap fun l => l[k]?
  if l.all (·.isSome) then
    match l.filterMap id with
    | [] => none
    | [a] => some a
    | l => medianOf l
  else none

/-- The longest maximum age declared for a position reference (R201). -/
def longestAge (s : State) : Int := (s.cfg.image.refs.map fun r => (r.maxAge : Int)).foldl max 0

/-- Stage 1: motion fusion. Roll and pitch lie within −π to +π (R19). A fused attitude sample has the newest instant of the valid units, and
a fused value that changes without a newer one gives no sample: DESIGN CHOICE (log 158). -/
def motionFusion (s : State) : State :=
  let w := s.mir.wsk
  let img := s.cfg.image
  let take (i : Nat) (x : AuxSource) : AuxSource :=
    match (img.mrus[i]?).bind fun n => chosenRecord (fun r => (motionOf r s).isSome) n s with
    | some r => { x with record := some r, instant := instantOf r x.suspect s }
    | none => x
  let mrus := mapAt w.mrus take
  let samples := mrus.filterMap fun x => mruSample x s
  let inertial := !samples.isEmpty
  let q := fuseQuantity samples
  let motion : Motion := if inertial then
      { roll := (q 0).map wrapAngle, pitch := (q 1).map wrapAngle, heave := q 2, p := q 3, q := q 4, r := q 5, ax := q 6, ay := q 7, az := q 8 }
    else w.motion
  let newest := (mrus.filter fun x => (mruSample x s).isSome).foldl (fun a x => max a x.instant) 0
  let fresh := inertial && (match w.attitudes.head? with
    | some h => decide (h.1 < newest)
    | none => true)
  let attitudes := match (if fresh then (newest, motion.roll, motion.pitch) :: w.attitudes else w.attitudes) with
    | [] => []
    | a :: l => a :: l.filter fun x => decide (cutoffNs s - x.1 ≤ longestAge s)
  let s := { s with mir := { s.mir with wsk := { w with
    mrus, motion, attitudes, inertial, yawValid := inertial && motion.r.isSome } } }
  condition 86 (!inertial) s

/-- Linear interpolation between two samples, rounded (R10). -/
def between (t0 t1 t v0 v1 : Int) : Int := v0 + nearestQuot ((v1 - v0) * (t - t0)) (t1 - t0)

/-- An angle in sQ2.29 after `dt` ns at a rate in sQ5.26. -/
def turned (angle rate dt : Int) : Int := angle + roundDiv (rate * 8 * dt) 1000000000

/-- Roll and pitch at an instant (R201): between the samples that bracket it, or beyond the newest by at most 20 ms, NaN where a sample or a
rate is (R9); none where the instant cannot be bracketed. While inertial data are not valid, the most recent fused ones (R199). -/
def attitudeAt (t : Int) (w : Whisk) : Option (Q × Q) :=
  let beyond (a rate : Q) (dt : Int) : Q := a.bind fun x => rate.map fun y => wrapAngle (turned x y dt)
  let within (t0 t2 : Int) (a b : Q) : Q := a.bind fun x => b.map fun y => between t0 t2 t x y
  match w.attitudes with
  | [] => none
  | (t1, r1, p1) :: _ =>
    if !w.inertial then some (w.motion.roll, w.motion.pitch)
    else if t1 ≤ t then
      if t - t1 ≤ 20000000 then some (beyond r1 w.motion.p (t - t1), beyond p1 w.motion.q (t - t1)) else none
    else
      let after := (w.attitudes.filter fun a => decide (t ≤ a.1)).getLast?
      let before := w.attitudes.find? fun a => decide (a.1 < t)
      match before, after with
      | some (t0, r0, p0), some (t2, r2, p2) => some (within t0 t2 r0 r2, within t0 t2 p0 p2)
      | _, some (t2, r2, p2) => if t = t2 then some (r2, p2) else none
      | _, _ => none

/-! ## Voting (R203 to R212) -/

/-- What the voting of one axis asks of its sources. -/
structure Ballot where
  declared : List Nat
  /-- Not absent. -/
  present : List Nat
  excluded : Nat → Bool
  agree : Nat → Nat → Bool
  inGate : Nat → Bool
  group : Nat → Nat

/-- Available: not absent and not excluded (R205). -/
def Ballot.avail (b : Ballot) : List Nat := b.present.filter fun i => !b.excluded i

/-- Every two of a list agree. -/
def Ballot.clique (b : Ballot) : List Nat → Bool
  | [] => true
  | i :: r => r.all (b.agree i) && b.clique r

/-- Number of distinct groups. -/
def Ballot.groups (b : Ballot) (l : List Nat) : Nat := (l.map b.group).eraseDups.length

/-- Sublists of a list. -/
def sublistsOf : List Nat → List (List Nat)
  | [] => [[]]
  | i :: r => (sublistsOf r).map (i :: ·) ++ sublistsOf r

/-- Lexicographically earlier. -/
def lexBefore : List Nat → List Nat → Bool
  | [], [] => false
  | [], _ => true
  | _, [] => false
  | a :: r, c :: q => decide (a < c) || (a == c && lexBefore r q)

/-- The better of two agreeing sets: larger, then more groups, then the lowest list of numbers (R205). -/
def Ballot.better (b : Ballot) (x y : List Nat) : Bool :=
  if x.length ≠ y.length then decide (y.length < x.length)
  else if b.groups x ≠ b.groups y then decide (b.groups y < b.groups x)
  else lexBefore x y

/-- The largest set of available sources in which every two agree. -/
def Ballot.largest (b : Ballot) : List Nat :=
  ((sublistsOf b.avail).filter b.clique).foldl (fun a x => if b.better x a then x else a) []

/-- The used set without a dispute, or the pair that enters one (R205). -/
def Ballot.open' (b : Ballot) : List Nat × Option (Nat × Nat) :=
  match b.avail with
  | [] => ([], none)
  | [i] => (if b.inGate i then [i] else [], none)
  | [i, j] => if b.agree i j then ([i, j], none) else ([], some (i, j))
  | _ =>
    let c := b.largest
    if 2 ≤ c.length then (c, none)
    else match b.avail.filter b.inGate with
      | [i] => ([i], none)
      | _ => ([], none)

/-- The used set and mode of a dispute (R209). -/
def Ballot.disputed (b : Ballot) (pair : Nat × Nat) (choice : Option Nat) : List Nat × Nat :=
  match choice with
  | some c => (if b.avail.contains c then [c] else [], 3)
  | none =>
    match [pair.1, pair.2].filter fun i => b.avail.contains i && b.inGate i with
    | [i] => ([i], 1)
    | _ => ([], 2)

/-- Epochs of a run that ends a dispute or raises a grade (R208, R212). -/
def voteRun : Nat := 200

/-- The runs of a dispute after this epoch (R212). -/
def disputeRuns (b : Ballot) (a : AxisState) : AxisState :=
  match a.pair with
  | some (x, y) =>
    let here (i : Nat) := b.avail.contains i
    { a with
      agreeRun := if here x && here y && b.agree x y then a.agreeRun + 1 else 0
      absentRunA := if b.present.contains x then 0 else a.absentRunA + 1
      absentRunB := if b.present.contains y then 0 else a.absentRunB + 1
      third := b.avail.any fun i => i != x && i != y }
  | none => { a with agreeRun := 0, absentRunA := 0, absentRunB := 0, third := false }

/-- A condition of R212 holds: from this epoch the dispute's rules apply no more. -/
def disputeOver (a : AxisState) : Bool :=
  a.pair.isSome &&
    (decide (voteRun ≤ a.agreeRun) || a.third || decide (voteRun ≤ a.absentRunA) || decide (voteRun ≤ a.absentRunB))

/-- The axis after its dispute's end: no pair, no choice (R212). -/
def endDispute (a : AxisState) : AxisState :=
  { a with dispute := 0, pair := none, choice := none, agreeRun := 0, absentRunA := 0, absentRunB := 0, third := false
           unresolvedRun := 0, limitHit := false }

/-- A dispute that is over ends (R212). -/
def settleDispute (a : AxisState) : AxisState := if disputeOver a then endDispute a else a

/-- The reported grade rises by one step in the epoch that completes a run (R208, R213). -/
def riseGrade (a : AxisState) : AxisState :=
  if voteRun ≤ a.riseRun ∧ a.grade < a.raw then { a with grade := a.grade + 1, riseRun := 0, zeroRun := 0, lost := false } else a

/-- A dispute has been unresolved for the dispute limit: from the next epoch the raw grade is 0 while it stays so (R211). -/
def limitDispute (limit : Nat) (a : AxisState) : AxisState :=
  if a.pair.isSome ∧ limit ≤ a.unresolvedRun ∧ 0 < a.unresolvedRun then { a with limitHit := true } else a

/-- USE of R220. -/
def Ballot.useOf (b : Ballot) (used : List Nat) (pair : Option (Nat × Nat)) (i : Nat) : Nat :=
  if !b.declared.contains i then 7
  else if !b.present.contains i then 0
  else if b.excluded i then 6
  else if pair.any fun p => p.1 == i || p.2 == i then (if used.contains i then 4 else 5)
  else if used.contains i then 1
  else if b.largest.length < 2 && !b.inGate i then 3
  else 2

/-- Raw grade (R207): `one` says whether grade 1 is available in the epoch. -/
def rawGrade (b : Ballot) (used : List Nat) (inertial unresolved limitHit : Bool) : Nat :=
  match b.groups used with
  | 0 => if inertial && unresolved && !limitHit then 1 else 0
  | 1 => if inertial then 1 else 0
  | 2 => 2
  | _ => 3

/-- The vote of the epoch on an axis whose ended dispute is settled (R205 to R209): used set, mode and pair, raw grade and runs. -/
def castVote (b : Ballot) (inertial : Bool) (a : AxisState) : AxisState :=
  let (used, mode, pair) : List Nat × Nat × Option (Nat × Nat) :=
    match a.pair with
    | some p => let r := b.disputed p a.choice; (r.1, r.2, some p)
    | none =>
      match b.open' with
      | (_, some p) => let r := b.disputed p none; (r.1, r.2, some p)
      | (u, none) => (u, 0, none)
  let unresolved := pair.isSome && mode == 2
  let limitHit := a.limitHit && unresolved
  let raw := rawGrade b used inertial unresolved limitHit
  { a with
    used, pair, dispute := mode
    unresolvedRun := if unresolved then a.unresolvedRun + 1 else 0, limitHit, raw
    grade := min a.grade raw
    riseRun := if a.grade < raw then a.riseRun + 1 else 0
    zeroRun := if min a.grade raw = 0 then bump 32 a.zeroRun else 0
    lost := a.lost && min a.grade raw == 0 }

/-- The sources' vote in the epoch on one axis (R205 to R213): a dispute that ends, the vote, the rise of the grade, the dispute
limit. The flag says whether a dispute starts in the epoch. -/
def voteAxis (b : Ballot) (inertial : Bool) (limit : Nat) (a : AxisState) : AxisState × Bool :=
  let a := settleDispute (disputeRuns b a)
  let v := castVote b inertial a
  (limitDispute limit (riseGrade v), a.pair.isNone && v.pair.isSome)

/-! ## Frame projection (R200 to R203) -/

/-- A GNSS payload's field of four octets, signed (R230). -/
def gnssField (payload : List Byte) (o : Nat) : Q := qS 32 (octets payload o 4)

/-- A position record of R230 is valid. -/
def gnssValid (payload : List Byte) : Bool := octets payload 1 1 != 0

/-- Antenna of a record. -/
def gnssAntenna (payload : List Byte) : Nat := octets payload 0 1

/-- Kind of reference i. -/
def refDecl (i : Nat) (s : State) : RefDecl := s.cfg.image.refs.getD i {}

def isGnssRef (d : RefDecl) : Bool := d.kind == .gnssA || d.kind == .gnssB

/-- The reference's record is valid. -/
def fixValid (d : RefDecl) (r : InRecord) (s : State) : Bool :=
  if isGnssRef d then gnssValid r.payload else (fixReadOf r s).isSome

/-- North and east standard deviations: reported, or the declared one (R203). -/
def fixSigma (d : RefDecl) (r : InRecord) (s : State) : Q × Q :=
  if isGnssRef d then (gnssField r.payload 24, gnssField r.payload 28)
  else match (fixReadOf r s).bind (·.sigma) with
    | some p => (some p.1, some p.2.1)
    | none => (d.sigma, d.sigma)

/-- Correlation of north and east; none with a declared deviation (R203). -/
def fixRho (d : RefDecl) (r : InRecord) (s : State) : Q :=
  if isGnssRef d then gnssField r.payload 36
  else match (fixReadOf r s).bind (·.sigma) with
    | some p => some p.2.2
    | none => some 0

/-- The larger of two values; NaN with NaN (R119). -/
def qMax (a b : Q) : Q := a.bind fun x => b.map fun y => max x y

/-- The epoch's record of reference i under R38; a GNSS reference takes antenna 0's, else antenna 1's (R232). -/
def newFix (i : Nat) (s : State) : Option InRecord :=
  let d := refDecl i s
  if isGnssRef d then
    match chosenRecord (fun r => gnssValid r.payload && gnssAntenna r.payload == 0) d.source s with
    | some r => some r
    | none => chosenRecord (fun r => gnssValid r.payload) d.source s
  else chosenRecord (fun r => fixValid d r s) d.source s

/-- The epoch's records of reference i other than that one, newest first, from the unit that R38 chooses (R202). -/
def newFixes (i : Nat) (s : State) : List InRecord :=
  let d := refDecl i s
  match newFix i s with
  | some r => (((committedOf d.source s).filter fun x =>
      x.origin == r.origin && fixValid d x s && (!isGnssRef d || gnssAntenna x.payload == gnssAntenna r.payload)).reverse.erase r)
  | none => []

/-- σ of a source whose covariance is doubled (R215). -/
def doubled (suspectNow : Bool) (sigma : Int) : Int := if suspectNow then nearestRoot (2 * sigma.natAbs * sigma.natAbs) 0 else sigma

/-- The gate max(k σ, g_min) (R203), with the default floor of the axis: 0.15 m, or 0.5° for a heading (R213). A deviation that is NaN,
or a gate outside the format, gives NaN (R9). -/
def gateOf (d : RefDecl) (floor : Int) (suspectNow : Bool) (sigma : Q) : Q :=
  sigma.bind fun v => rangeS (max (roundDiv (d.gateFactor * doubled suspectNow v) 65536) (d.gateFloor.getD floor))

/-- The default gate floors: 0.15 m in sQ19.12, 0.5° in sQ2.29. -/
def posFloor : Int := 614
def hdgFloor : Int := 4685083
/-- The heading that the projector uses in the epoch (R201). -/
def projectorHeading (s : State) : Option Int :=
  let w := s.mir.wsk
  match (if 1 ≤ w.hdg.grade then w.heading else none) with
  | some h => some h
  | none => if s.mir.est.started then s.mir.est.est.hdg else none

/-- A heading referred from the cut-off to an earlier instant by the fused yaw rate, NaN where that is (R9). -/
def headingAt (h t : Int) (s : State) : Q := s.mir.wsk.motion.r.map fun r => wrapAngle (turned h (-r) (cutoffNs s - t))

/-- Displacement in sQ19.12 after `dt` ns along earth axes at body velocities in sQ10.21 (R202). -/
def displaced (u v hdg dt : Int) : Int × Int :=
  let c := cosine hdg
  let n := sine hdg
  (roundDiv ((u * c - v * n) * dt) (2 ^ 39 * 1000000000), roundDiv ((u * n + v * c) * dt) (2 ^ 39 * 1000000000))

/-- Age register value of an instant: uQ16.16 ms (R219). -/
def ageCode (t : Int) (s : State) : Q := rangeU (roundDiv ((cutoffNs s - t) * 65536) 1000000)

/-- Correction in force of a slot (R164); a component not estimated counts as zero. -/
def slotInForce (slot : Nat) (s : State) : Correction := (s.mir.ba.slots.getD slot {}).inForce

/-- The sensor frame of reference i with a correction (R164, R200): the lever arm, for GNSS the record's antenna's (R232), and for a
relative reference the mounting yaw. -/
def frameWith (c : Correction) (i : Nat) (r : InRecord) (s : State) : SensorFrame :=
  let d := refDecl i s
  let lever := if isGnssRef d then
      s.cfg.image.antennas.getD ((if d.kind == .gnssB then 2 else 0) + gnssAntenna r.payload) {}
    else d.frame.lever
  let m := d.frame.mount
  { lever := lever.add ⟨c.dx.getD 0, c.dy.getD 0, c.dz.getD 0⟩, mount := ⟨m.x, m.y, m.z + c.dpsi.getD 0⟩ }

/-- The sensor frame with the correction in force (R164). -/
def frameOf (i : Nat) (r : InRecord) (s : State) : SensorFrame := frameWith (slotInForce i s) i r s

/-- What the record measures (R200, R230): the earth position of the measuring point, or the vector to the anchor; none with a NaN. -/
def fixVector (d : RefDecl) (r : InRecord) (s : State) : Option Vec3 :=
  if isGnssRef d then
    (gnssField r.payload 12).bind fun x => (gnssField r.payload 16).bind fun y => (gnssField r.payload 20).map fun z => ⟨x, y, z⟩
  else (fixReadOf r s).map (·.vector)

/-- R_eb at a roll, pitch and heading; none where one is NaN. -/
def earthFrame (att : Q × Q) (hdg : Q) : Option Rotation :=
  att.1.bind fun roll => att.2.bind fun pitch => hdg.map fun h => frameRotation roll pitch h

/-- The body origin's position from a record with a sensor frame, at an attitude and heading (R200): NaN where one of them is, or outside the
format (R9). -/
def projected (g : SensorFrame) (i : Nat) (r : InRecord) (anchor : Option Vec3) (att : Q × Q) (hdg : Q) (s : State) : Q × Q :=
  let d := refDecl i s
  let p : Option (Int × Int) := (earthFrame att hdg).bind fun eb => (fixVector d r s).bind fun v => match d.kind with
    | .rangeBearing => some (originRelative eb d.target g v)
    | .tautWire => anchor.map fun a => originRelative eb a g v
    | _ => some (originAbsolute eb v g.lever)
  (p.bind fun p => rangeS p.1, p.bind fun p => rangeS p.2)

/-- A projection, or the reason for absence: the attitude could not be bracketed (EV_087), or nothing to project. -/
inductive Projection where
  | absent
  | unbracketed
  | at (north east : Int)
deriving DecidableEq, Repr, Inhabited

/-- A declared serial source that has committed no record for three of its sample periods is absent (R306). -/
def silentSource (source since : Nat) (s : State) : Bool :=
  match s.cfg.image.serial.find? (·.source == source) with
  | some d => decide (3 * d.period ≤ since * 500000)
  | none => false

/-- The projected position of a reference's record at the cut-off (R200 to R202); a record whose position is NaN there is absent. -/
def projectRecord (i : Nat) (r : InRecord) (x : SourceState) (s : State) : Projection :=
  let d := refDecl i s
  let w := s.mir.wsk
  let t := instantOf r x.suspect s
  if (d.maxAge : Int) < cutoffNs s - t ∨ silentSource d.source x.sinceRecord s then .absent
  else match attitudeAt t w with
    | none => .unbracketed
    | some att =>
      match projectorHeading s, w.velU, w.velV with
      | some h, some u, some v =>
        let p := projected (frameOf i r s) i r (w.anchors.getD i none) att (headingAt h t s) s
        let m := displaced u v h (cutoffNs s - t)
        match p.1.bind fun n => rangeS (n + m.1), p.2.bind fun e => rangeS (e + m.2) with
        | some n, some e => .at n e
        | _, _ => .absent
      | _, _, _ => .absent

/-- The first record of a list, newest first, whose projection is not absent (R202), and whether a newer one's instant could not be
bracketed (EV_087, R201). -/
def firstProjected (i : Nat) (x : SourceState) (s : State) : List InRecord → Option (InRecord × Int × Int) × Bool
  | [] => (none, false)
  | r :: l =>
    match projectRecord i r x s with
    | .at n e => (some (r, n, e), false)
    | .absent => firstProjected i x s l
    | .unbracketed => let q := firstProjected i x s l; (q.1, true)

/-- A source's value registers while it is absent read NaN (R220). -/
def absentSource (x : SourceState) : SourceState := { x with north := none, east := none, gate := none, drift := none, age := none }

/-- One reference's state after projection, and whether it is present and whether an instant could not be bracketed. -/
def projectRef (i : Nat) (x : SourceState) (s : State) : SourceState × Bool × Bool :=
  if i < s.cfg.image.refs.length then
    let d := refDecl i s
    let known := (newFix i s).toList ++ newFixes i s ++ x.past
    let held := known.eraseDups.filter fun r => decide (cutoffNs s - instantOf r x.suspect s ≤ d.maxAge)
    let q := firstProjected i x s held
    match q.1 with
    | some (r, n, e) =>
      let sg := fixSigma d r s
      let t := instantOf r x.suspect s
      ({ x with
          record := some r, past := held, instant := t, age := ageCode t s
          gate := gateOf d posFloor x.suspect (qMax sg.1 sg.2), drift := (driftOf r s).bind rangeS
          north := some n, east := some e }, true, q.2)
    | none => (absentSource { x with record := none, past := held }, false, q.2)
  else (absentSource { x with use := 7 }, false, false)

/-- Square of the distance between two positions. -/
def dist2 (n0 e0 n1 e1 : Int) : Int := (n0 - n1) * (n0 - n1) + (e0 - e1) * (e0 - e1)

/-- The voting of the position references (R203 to R205). -/
def posBallot (refs : List SourceState) (present : List Nat) (s : State) : Ballot :=
  let at' (i : Nat) := refs.getD i {}
  let est := s.mir.est
  { declared := List.range (min 8 s.cfg.image.refs.length)
    present
    excluded := fun i => bitOf s.mir.wsk.exclude i
    agree := fun i j =>
      let x := at' i
      let y := at' j
      match x.gate, y.gate with
      | some gx, some gy => decide (dist2 (x.north.getD 0) (x.east.getD 0) (y.north.getD 0) (y.east.getD 0) ≤ gx * gx + gy * gy)
      | _, _ => false
    inGate := fun i =>
      let x := at' i
      !est.updatedSince ||
        (match est.est.north, est.est.east, x.gate with
          | some n, some e, some g => decide (dist2 (x.north.getD 0) (x.east.getD 0) n e ≤ g * g)
          | _, _, _ => false)
    group := fun i => (refDecl i s).group }

/-- A source newly out of the used set other than by dispute raises EV_082 (R205). -/
def outEvents (l : List (Nat × SourceState × Nat)) (s : State) : State :=
  l.foldl (fun s p => if (p.2.2 == 2 || p.2.2 == 3) && !p.2.1.outRun then raiseAt 82 p.1 s else s) s

/-- Sources with their USE and the run of R205 noted. -/
def noteUse (uses : Nat → Nat) (l : List SourceState) : List SourceState :=
  mapAt l fun i x => { x with use := uses i, absentFor := if uses i == 0 then x.absentFor + 1 else 0, outRun := uses i == 2 || uses i == 3 }

/-- Age of a fused output (R219): from the earliest instant used, or from the newest ever used. -/
def fusedAge (used : List SourceState) (newest : Option Int) (s : State) : Q :=
  match used with
  | [] => newest.bind fun t => ageCode t s
  | x :: r => ageCode (r.foldl (fun a y => min a y.instant) x.instant) s

/-- Newest instant used in any epoch. -/
def newestUsed (used : List SourceState) (newest : Option Int) : Option Int :=
  used.foldl (fun a x => some (max (a.getD x.instant) x.instant)) newest

/-- A dispute's start and its unresolved mode (R209): EV_083 and EV_084, for heading EV_078 and EV_079 (R351). -/
def disputeEvents (heading started : Bool) (after : AxisState) (s : State) : State :=
  let s := if started then raise (if heading then 78 else 83) s else s
  condition (if heading then 79 else 84) (after.dispute == 2) s

/-- A used reference as it enters the mean (R206, R215); none where a covariance is NaN. -/
def fixOf (i : Nat) (x : SourceState) (s : State) : Option Fix :=
  let d := refDecl i s
  x.record.bind fun r =>
    let sg := fixSigma d r s
    x.north.bind fun n => x.east.bind fun e => sg.1.bind fun a => sg.2.bind fun b => (fixRho d r s).map fun c =>
      ⟨n, e, a, b, c, x.suspect⟩

/-- The fused position and its covariance (R206): NaN where one of the covariances is (R9); where one has no inverse the manual states
no mean (log 14). -/
def fusePosition (l : List (Option Fix)) : Q × Q × List Q :=
  if l.all (·.isSome) then
    let l := l.filterMap id
    match weightedMean l with
    | some f => (f.1.bind rangeS, f.2.1.bind rangeS, f.2.2.map some)
    | none =>
      let f := Cfg.singularMean (l.map fun x => (x.north, x.east, x.sigN, x.sigE, x.rho, x.half))
      (rangeS f.1, rangeS f.2.1, f.2.2.map some)
  else (none, none, [none, none, none])

/-- Stages 4 and 5: projection, gating, voting and grading of position. -/
def positionFusion (s : State) : State :=
  let w := s.mir.wsk
  let res := mapAt w.refs fun i x => projectRef i x s
  let refs := res.map (·.1)
  let present := (List.range refs.length).filter fun i => ((res[i]?).map (·.2.1)).getD false
  let late := (List.range refs.length).filter fun i => ((res[i]?).map (·.2.2)).getD false
  let s := late.foldl (fun s i => raiseAt 87 i s) s
  let b := posBallot refs present s
  let v := voteAxis b w.inertial s.cfg.image.tuning.disputeLimit w.pos
  let a := v.1
  let uses := b.useOf a.used a.pair
  let s := outEvents (mapAt refs fun i x => (i, x, uses i)) s
  let used := a.used.map fun i => refs.getD i {}
  let fused := if used.isEmpty then (none, none, []) else fusePosition (a.used.map fun i => fixOf i (refs.getD i {}) s)
  let w' := s.mir.wsk
  let s := { s with mir := { s.mir with wsk := { w' with
    refs := noteUse uses refs
    pos := { a with newest := newestUsed used a.newest }
    north := fused.1, east := fused.2.1, sigPos := fused.2.2
    agePos := fusedAge used a.newest s } } }
  let s := if w.pos.grade > a.grade then raise 80 s else s
  let s := disputeEvents false v.2 a s
  condition 90 (a.grade == 0) s

/-- The anchor that a taut wire's record gives with a sensor frame: from the fused position and heading, at the attitude and heading of the
record's measurement instant (R200, R201). -/
def anchorOf (g : SensorFrame) (i : Nat) (r : InRecord) (s : State) : Option Vec3 :=
  let w := s.mir.wsk
  let t := instantOf r (w.refs.getD i {}).suspect s
  w.north.bind fun n => w.east.bind fun e => w.heading.bind fun h => (attitudeAt t w).bind fun att =>
    (earthFrame att (headingAt h t s)).bind fun eb => (fixVector (refDecl i s) r s).map fun v => anchorFrom eb n e g v

/-- The anchors of the taut wires, formed with one sensor frame each: taken in the first epoch in which the record is valid after deployment,
and given up when the wire reports none (R200). -/
def takeAnchors (frame : Nat → InRecord → SensorFrame) (s : State) (anchors : List (Option Vec3)) : List (Option Vec3) :=
  mapAt anchors fun i a =>
    let d := refDecl i s
    if i < s.cfg.image.refs.length ∧ d.kind = .tautWire then
      match newFix i s with
      | some r => if a.isSome then a else anchorOf (frame i r) i r s
      | none => if (committedOf d.source s).isEmpty then a else none
    else a

/-- The anchors of the epoch, with the corrections in force and with the image geometry (R160, R200); EV_069 for each one taken (R350). -/
def tautWires (s : State) : State :=
  let w := s.mir.wsk
  let anchors := takeAnchors (fun i r => frameOf i r s) s w.anchors
  let anchorsImage := takeAnchors (fun i r => frameWith {} i r s) s w.anchorsImage
  let taken := (List.range anchors.length).filter fun i => (w.anchors.getD i none).isNone && (anchors.getD i none).isSome
  taken.foldl (fun s i => raiseAt 69 i s) { s with mir := { s.mir with wsk := { w with anchors, anchorsImage } } }

/-! ## Heading (R213, R218) -/

/-- An engine's two records of one solution from one unit, unit A's first (R232, R218). -/
def baselinePair (source : Nat) (s : State) : Option (InRecord × InRecord) :=
  let l := (committedOf source s).filter fun r => gnssValid r.payload
  let pairOf (u : UnitId) : Option (InRecord × InRecord) :=
    ((l.filter fun r => r.origin == u && gnssAntenna r.payload == 0).getLast?).bind fun r0 =>
      ((l.filter fun r => r.origin == u && gnssAntenna r.payload == 1 && r.tov == r0.tov).getLast?).map fun r1 => (r0, r1)
  match pairOf .a with
  | some p => some p
  | none => pairOf .b

/-- The larger of the north and east deviations of a GNSS record (R203). -/
def gnssSigma (r : InRecord) : Q := qMax (gnssField r.payload 24) (gnssField r.payload 28)

/-- The baseline heading of an engine's two records, with its deviation (R218). The correction in force shifts both lever arms alike
(R232). -/
def baselineHeading (engine : Nat) (c : Correction) (r0 r1 : InRecord) (s : State) : Option (Int × Int) :=
  let img := s.cfg.image
  let shift : Vec3 := ⟨c.dx.getD 0, c.dy.getD 0, c.dz.getD 0⟩
  let arm (k : Nat) : Vec3 := (img.antennas.getD (2 * engine + k) {}).add shift
  let b := img.baselines.getD engine (0, 0)
  let diff (o : Nat) : Q := (gnssField r1.payload o).bind fun x => (gnssField r0.payload o).map fun y => x - y
  let w := s.mir.wsk.motion
  (diff 12).bind fun dn => (diff 16).bind fun de => w.roll.bind fun roll => w.pitch.bind fun pitch =>
    (gnssSigma r0).bind fun s0 => (gnssSigma r1).bind fun s1 =>
      (baselineBearing dn de ((arm 1).sub (arm 0)) roll pitch b.1 b.2).map fun h => (h, baselineSigma s0 s1 b.1)

/-- Heading and deviation of source h in this epoch's records; the declared deviation where the record reports none (R203, R213). -/
def newHeading (h : Nat) (s : State) : Option (InRecord × Int × Q) :=
  match hdgDecl h s with
  | none => none
  | some d =>
    if h < 3 then
      (chosenRecord (fun r => (headingOf r s).isSome) d.source s).bind fun r =>
        (headingOf r s).map fun v => (r, wrapAngle (v.1 + ((slotInForce (8 + h) s).dpsi.getD 0)), v.2.or d.sigma)
    else
      let src := if h = 3 then s.cfg.image.gnssA else s.cfg.image.gnssB
      let slot := (List.range s.cfg.image.refs.length).find? fun i => (refDecl i s).source == src
      let cor := (slot.map fun i => slotInForce i s).getD {}
      (baselinePair src s).bind fun p =>
        (baselineHeading (h - 3) cor p.1 p.2 s).map fun v => (p.1, wrapAngle v.1, some v.2)

/-- The engine of a baseline has committed records in this epoch. -/
def engineHeard (h : Nat) (s : State) : Bool :=
  decide (3 ≤ h) && !(committedOf (if h = 3 then s.cfg.image.gnssA else s.cfg.image.gnssB) s).isEmpty

/-- A heading source with this epoch's record taken; a solution that gives no baseline heading leaves none (R218). -/
def takeHeading (h : Nat) (x : SourceState) (s : State) : SourceState :=
  match newHeading h s with
  | some (r, v, sg) => { x with record := some r, value := some v, sigma := sg }
  | none => if engineHeard h s then { x with record := none } else x

/-- One heading source in the epoch: its value at the cut-off stands in `north`, its gate by its present time state (R203, R215). -/
def headingSource (h : Nat) (x : SourceState) (s : State) : SourceState × Bool :=
  match hdgDecl h s with
  | none => (absentSource { x with use := 7, record := none }, false)
  | some d =>
    let x := takeHeading h x s
    match x.record with
    | none => (absentSource x, false)
    | some r =>
      let t := instantOf r x.suspect s
      if (d.maxAge : Int) < cutoffNs s - t ∨ silentSource r.source x.sinceRecord s then (absentSource { x with instant := t }, false)
      else
        match x.value.bind fun v => s.mir.wsk.motion.r.map fun r => wrapAngle (turned v r (cutoffNs s - t)) with
        | some v =>
          ({ x with instant := t, age := ageCode t s, gate := gateOf d hdgFloor x.suspect x.sigma, drift := (driftOf r s).bind rangeS
                    north := some v }, true)
        | none => (absentSource { x with instant := t }, false)

/-- The voting of the heading sources (R213). -/
def hdgBallot (hdgs : List SourceState) (present : List Nat) (s : State) : Ballot :=
  let at' (i : Nat) := hdgs.getD i {}
  let est := s.mir.est
  { declared := (List.range 5).filter fun h => (hdgDecl h s).isSome
    present
    excluded := fun h => bitOf s.mir.wsk.exclude (8 + h)
    agree := fun i j =>
      let d := angleDist ((at' i).north.getD 0) ((at' j).north.getD 0)
      match (at' i).gate, (at' j).gate with
      | some gx, some gy => decide (d * d ≤ gx * gx + gy * gy)
      | _, _ => false
    inGate := fun i =>
      !est.updatedSince ||
        (match est.est.hdg, (at' i).gate with
          | some e, some g => decide (angleDist ((at' i).north.getD 0) e ≤ g)
          | _, _ => false)
    group := fun h => ((hdgDecl h s).map (·.group)).getD 0 }

/-- The fused heading of several sources and its deviation (R213); with a deviation of zero the manual states no mean (log 14). -/
def fuseHeading (l : List Bearing) : Q × Q :=
  let f := (weightedHeading l).getD (Cfg.singularHeading (l.map fun x => (x.value, x.sigma, x.half)))
  (some (wrapAngle f.1), some f.2)

/-- Stage 3: heading fusion. -/
def headingFusion (s : State) : State :=
  let w := s.mir.wsk
  let res := mapAt w.hdgs fun h x => headingSource h x s
  let hdgs := res.map (·.1)
  let present := (List.range hdgs.length).filter fun h => ((res[h]?).map (·.2)).getD false
  let b := hdgBallot hdgs present s
  let v := voteAxis b w.yawValid s.cfg.image.tuning.disputeLimit w.hdg
  let a := v.1
  let uses := b.useOf a.used a.pair
  let s := outEvents (mapAt hdgs fun i x => (i, x, uses i)) s
  let used := a.used.map fun i => hdgs.getD i {}
  let fused : Q × Q := match used with
    | [] => (none, none)
    | [x] => (x.north, x.sigma.map (doubled x.suspect))
    | l =>
      let bs := l.map fun x => x.north.bind fun n => x.sigma.map fun v => (⟨n, v, x.suspect⟩ : Bearing)
      if bs.all (·.isSome) then fuseHeading (bs.filterMap id) else (none, none)
  let w' := s.mir.wsk
  let s := { s with mir := { s.mir with wsk := { w' with
    hdgs := noteUse uses hdgs
    hdg := { a with newest := newestUsed used a.newest }
    heading := if a.grade = 0 then none else fused.1
    sigHdg := fused.2
    ageHdg := fusedAge used a.newest s } } }
  let s := if w.hdg.grade > a.grade then raise 81 s else s
  disputeEvents true v.2 a s

/-! ## Ego-motion, wind, draft (R216, R217) -/

/-- The variance of the fused position: the larger of north's and east's (log 13). -/
def positionVariance (cov : List Q) : Q := (cov.getD 0 none).bind fun a => (cov.getD 2 none).map fun b => max a b

/-- The mean of both velocities (R216); where neither has a variance the manual states none (log 14). -/
def fuseVelocity (i r : Velocity) : Velocity :=
  match combineVelocities i r with
  | some v => v
  | none => let f := Cfg.singularVelocity (i.u, i.v) (r.u, r.v); ⟨f.1, f.2.1, f.2.2⟩

/-- A velocity source, where it exists: a velocity that is NaN counts as one that cannot be formed (log 160). -/
def existing (v : Velocity) : Option Velocity := if v.u.isSome && v.v.isSome then some v else none

/-- Stage 6: the fused velocity. -/
def egoMotion (s : State) : State :=
  let w := s.mir.wsk
  let before := w.history[199]?
  let reference : Option Velocity :=
    match w.north, w.east, before, projectorHeading s with
    | some n, some e, some (some n0, some e0), some h => existing (differenceVelocity (n - n0) (e - e0) h (positionVariance w.sigPos))
    | _, _, _, _ => none
  let inertial : Option Velocity :=
    if w.inertial then
      existing (advanceVelocity s.cfg.image.velGrowth w.motion.ax w.motion.ay w.motion.r ⟨w.velU, w.velV, w.velVar⟩)
    else none
  let history := ((w.north, w.east) :: w.history).take 200
  let set (v : Velocity) : Whisk := { w with velU := v.u, velV := v.v, velVar := v.var, velHeld := 0 }
  let w := match inertial, reference with
    | some i, some r => set (fuseVelocity i r)
    | some v, none => set v
    | none, some v => set v
    | none, none => { w with velHeld := w.velHeld + 1 }
  { s with mir := { s.mir with wsk := { w with history } } }

/-- An auxiliary sensor's record: the one that the duplicated-input rule takes (R38); where no unit has a valid one, its most recent,
which reports invalid (R217). -/
def takeAux (source : Option Nat) (valid : InRecord → Bool) (x : AuxSource) (s : State) : AuxSource :=
  match source.bind fun n => (chosenRecord valid n s).or (chosenRecord (fun _ => true) n s) with
  | some r => { x with record := some r, instant := instantOf r x.suspect s }
  | none => x

/-- The record is within three of its declared sample periods at the cut-off (R217). -/
def within3 (x : AuxSource) (s : State) : Option InRecord :=
  x.record.bind fun r =>
    if cutoffNs s - instantOf r x.suspect s ≤ 3 * ((timingOf r.source s).2 : Int) then some r else none

/-- Stage 7: wind force and draft. -/
def windAndDraft (s : State) : State :=
  let w := s.mir.wsk
  let img := s.cfg.image
  let winds := mapAt w.winds fun i x =>
    takeAux img.winds[i]? (fun r => (windOf r s).isSome) x s
  let drafts := mapAt w.drafts fun i x =>
    takeAux img.drafts[i]? (fun r => (draftOf r s).isSome) x s
  let rates : Option Vec3 := w.motion.p.bind fun p => w.motion.q.bind fun q => w.motion.r.map fun r => ⟨p, q, r⟩
  let comps := (mapAt winds fun i x => (within3 x s).bind fun r =>
    (windOf r s).map fun v => match rates with
      | some p => windAtOrigin (img.windFrames.getD i {}) p v.1 v.2
      | none => (none, none)).filterMap id
  let mid (l : List Q) : Q :=
    if l.all (·.isSome) then (match l.filterMap id with
      | [a] => some a
      | m => medianOf m) else none
  let x := mid (comps.map (·.1))
  let y := mid (comps.map (·.2))
  let valid := !comps.isEmpty
  let force (axis frac : Nat) : Q := x.bind fun x => y.bind fun y => windAxis img.wind axis frac x y
  let ds := drafts.filterMap fun x => (within3 x s).bind fun r => draftOf r s
  let w := { w with
    winds, drafts, windValid := valid
    windX := if valid then force 0 8 else some 0
    windY := if valid then force 1 8 else some 0
    windN := if valid then force 2 4 else some 0
    draft := if ds.isEmpty then w.draft else some (roundDiv (ds.foldl (· + ·) 0) ds.length) }
  condition 88 (!valid) { s with mir := { s.mir with wsk := w } }

/-- A declared source of a list is absent or invalid. -/
def someInvalid (srcs : List Nat) (l : List AuxSource) (ok : AuxSource → Bool) : Bool :=
  (mapAt l fun i x => srcs[i]?.isSome && !ok x).any (·)

/-- Condition events of the sensors (R350, log 140): EV_064 position reference absent for 1 s, EV_065 gyrocompass, EV_066 motion
reference unit, EV_067 wind sensor, EV_068 draft input invalid, EV_077 range-and-bearing target lost. -/
def sensorEvents (s : State) : State :=
  let w := s.mir.wsk
  let img := s.cfg.image
  let declaredRef (i : Nat) : Bool := decide (i < min 8 img.refs.length)
  let s' := condition 64 ((mapAt w.refs fun i x => declaredRef i && decide (2000 ≤ x.absentFor)).any (·)) s
  let s' := condition 65 ((mapAt w.hdgs fun h x => decide (h < 3) && (hdgDecl h s).isSome && x.use == 0).any (·)) s'
  let s' := condition 66 (someInvalid img.mrus w.mrus fun x => (mruSample x s).isSome) s'
  let s' := condition 67 (someInvalid img.winds w.winds fun x =>
    (within3 x s).any fun r => (windOf r s).isSome) s'
  let s' := condition 68 (someInvalid img.drafts w.drafts fun x =>
    (within3 x s).any fun r => (draftOf r s).isSome) s'
  condition 77 ((mapAt w.refs fun i x => declaredRef i && (refDecl i s).kind == .rangeBearing && x.use == 0).any (·)) s'

/-- Step 1 of R151: the stages of R197 in order. -/
def whisk (s : State) : State :=
  let s := motionFusion s
  let s := timeAcceptance s
  let s := headingFusion s
  let s := positionFusion s
  let s := tautWires s
  let s := egoMotion s
  let s := sensorEvents (leaveSuspects (fun _ => true) (windAndDraft s))
  { s with mir := { s.mir with wsk := { s.mir.wsk with
    tov := s.mir.tim.cutoff, holdover := s.mir.tim.holdover, ran := true } } }

/-! ## Rows of the runs -/

/-- The reported position grade rises by one step after 200 epochs of a higher raw grade (R208). The vote of the epoch that completes the
run has already made the rise, which this row then finds done. -/
def execPositionGradeRise (s : State) : Host.Outcome State Fault Refusal :=
  .next (let a := s.mir.wsk.pos
    if voteRun ≤ a.riseRun ∧ a.grade < a.raw then
      clearEvent 90 { s with mir := { s.mir with wsk := { s.mir.wsk with pos := riseGrade a } } }
    else s)

/-- One axis of Whisk changed. -/
def modAxis (heading : Bool) (f : AxisState → AxisState) (s : State) : State :=
  { s with mir := { s.mir with wsk :=
    if heading then { s.mir.wsk with hdg := f s.mir.wsk.hdg } else { s.mir.wsk with pos := f s.mir.wsk.pos } } }

/-- An axis of Whisk. -/
def axisOf (heading : Bool) (s : State) : AxisState := if heading then s.mir.wsk.hdg else s.mir.wsk.pos

/-- A dispute ends (R212): any operator choice lapses, and EV_084 clears, for heading EV_079. The vote settles a dispute that is over by
itself. -/
def execDisputeEnd (heading : Bool) (s : State) : Host.Outcome State Fault Refusal :=
  .next (if disputeOver (axisOf heading s) then clearEvent (if heading then 79 else 84) (modAxis heading endDispute s) else s)

/-- A dispute unresolved for the dispute limit: the raw grade is 0 from the next epoch while it stays unresolved (R211). -/
def execDisputeLimit (heading : Bool) (s : State) : Host.Outcome State Fault Refusal :=
  .next (modAxis heading (limitDispute s.cfg.image.tuning.disputeLimit) s)

end Sys2Proof.Machine
end

