-- ==== Sys2Proof/Machine/Estimator.lean ====
section
/-! DEFINITION. The state estimator (R152 to R158). -/

namespace Sys2Proof.Machine

/-- Change the estimator. -/
def modEst (f : Estimator → Estimator) (s : State) : State := { s with mir := { s.mir with est := f s.mir.est } }

/-- AUTO-POSITION, AUTO-TRACK or BERTH-PUSH is in effect (R157, R158). -/
def positionFunc (s : State) : Bool :=
  match s.mir.mode.func with
  | some .autoPosition | some .autoTrack | some .berthPush => true
  | _ => false

/-! ## Values that an assembly program reads (R110, log 122) -/

/-- One value by its name. -/
def input (n : AsmName) (code : Q) (frac : Nat) : AsmName × AsmInput := (n, { code, frac })

/-- One value formed from others by its name: without a code it is NaN and not absent (R9, R118, log 122). -/
def formed (n : AsmName) (code : Q) (frac : Nat) : AsmName × AsmInput := (n, ⟨code, frac, code.isNone⟩)

/-- Formed values of one quantity by component, each with its fraction bits. -/
def formedAll (n : Nat → AsmName) (fracs : List Nat) (l : List Q) : List (AsmName × AsmInput) := mapAt l fun k q => formed (n k) q (fracs.getD k 0)

/-- Values of one quantity by component, each with its fraction bits. -/
def inputs (n : Nat → AsmName) (fracs : List Nat) (l : List Q) : List (AsmName × AsmInput) := mapAt l fun k q => input (n k) q (fracs.getD k 0)

/-- A declared value. -/
def fixedInput (n : AsmName) (f : Fixed) : AsmName × AsmInput := input n (some f.value) f.frac

/-- The nine states in the order of R152, and their fraction bits. -/
def Estimate.states (e : Estimate) : List Q := [e.north, e.east, e.hdg, e.u, e.v, e.r, e.envN, e.envE, e.envYaw]
def stateFracs : List Nat := [12, 12, 29, 21, 21, 26, 8, 8, 4]

/-- The estimate in use as an instance reads it (R110, R154). -/
def stateInputs (s : State) : List (AsmName × AsmInput) := formedAll .state stateFracs s.mir.est.est.states

/-! ## Deviations (R156) -/

/-- Entry (i, j), i ≤ j, of the square-root information factor, an upper triangle of nine rows held row by row. -/
def factorEntry (f : List AsmInput) (i j : Nat) : Option Rat :=
  match f[i * 9 - i * (i - 1) / 2 + (j - i)]? with
  | some ⟨some c, n, _⟩ => some (mkRat c (2 ^ n))
  | _ => none

/-- Row k of the factor's inverse, from its diagonal on; none while an entry is missing or a diagonal entry is zero. -/
def inverseRow (f : List AsmInput) (k : Nat) : Option (List Rat) :=
  (List.range (9 - k)).foldl (fun acc d => acc.bind fun ys =>
    let terms := (List.range d).map fun t => (factorEntry f (k + t) (k + d)).map fun r => ys.getD t 0 * r
    (factorEntry f (k + d) (k + d)).bind fun diag =>
      if diag = 0 ∨ terms.any (·.isNone) then none
      else some (ys ++ [((if d = 0 then 1 else 0) - (terms.filterMap id).foldl (· + ·) 0) / diag])) (some [])

/-- The standard deviation of state k: the root of the diagonal entry of the inverse information matrix, with n fraction bits. -/
def deviation (f : List AsmInput) (k n : Nat) : Q :=
  (inverseRow f k).bind fun ys =>
    let v := (ys.map fun y => y * y).foldl (· + ·) 0
    rangeS (rootQuot (v.num.natAbs * 2 ^ (2 * n)) v.den)

/-- An estimate with the deviations of its factor (log 123): for position the larger of north's and east's (R156). -/
def withDeviations (f : List AsmInput) (e : Estimate) : Estimate :=
  { e with sigPos := qMax (deviation f 0 12) (deviation f 1 12), sigHdg := deviation f 2 29 }

/-! ## Start and restart (R157) -/

/-- Epochs of skipped updates before a restart: 200 updates. -/
def skipLimit : Nat := 200

/-- Update basis epochs (R53). -/
def estBasis (n : Nat) : Bool := n % 10 == 0

/-- The estimate at the cut-off: what the last step propagated to it (R154). -/
def advanceEstimate (s : State) : State :=
  match s.mir.est.next with
  | some p => modEst (fun e => { e with est := p.1, factor := p.2, next := none }) s
  | none => s

/-- The state at a start or a restart (R157). -/
def startState (restart : Bool) (s : State) : State :=
  let w := s.mir.wsk
  let e := s.mir.est.est
  let keep (old : Q) : Q := if restart then old else some 0
  let factor := s.cfg.image.tuning.startFactor.map fun x => ({ code := some x.value, frac := x.frac } : AsmInput)
  let take (q old : Q) : Q := match q with | some v => some v | none => keep old
  modEst (fun x => { x with
    est := withDeviations factor
      { north := take w.north e.north, east := take w.east e.east, hdg := take w.heading e.hdg
        u := keep e.u, v := keep e.v, r := keep e.r, envN := some 0, envE := some 0, envYaw := some 0 }
    factor, started := true, updatedSince := false, gate := false, skipRun := 0, restartPending := false }) s

/-- The start at the first basis epoch in STANDBY; it also ends the hold of older set-points (R143). -/
def firstStart (s : State) : State :=
  if !s.mir.est.started && s.um.mode == .standby then
    modEst (fun x => { x with cause := 0 })
      (startState false { s with mir := { s.mir with alc := { s.mir.alc with everSolved := false } } })
  else s

/-- A start or restart due at this basis epoch takes effect (R157, R158); a restart raises EV_100. -/
def startOrRestart (s : State) : State :=
  let s := firstStart s
  let e := s.mir.est
  if !e.started then s
  else if e.restartCommanded then
    raiseWith 100 0xFFFFFFFF 2 0 (modEst (fun x => { x with cause := 2, restartCommanded := false }) (startState true s))
  else if e.restartPending && !positionFunc s then
    raiseWith 100 0xFFFFFFFF 1 0 (modEst (fun x => { x with cause := 1 }) (startState true s))
  else s

/-! ## The update (R153 to R156) -/

/-- An upper triangular W with Wᵀ W the inverse of a covariance [a b; b c] in 2⁻²⁴ m² (log 111): its three entries per metre with 16
fraction bits; none where there is no inverse. -/
def inverseRoot (a b c : Int) : Option (Int × Int × Int) :=
  let d := a * c - b * b
  if 0 < c ∧ 0 < d then
    let x := rootQuot ((b * b).toNat * 2 ^ 56) (c * d).toNat
    some (rootQuot (c.toNat * 2 ^ 56) d.toNat, if 0 ≤ b then -x else x, rootQuot (2 ^ 56) c.toNat)
  else none

/-- A measurement of an age in uQ16.16 ms is young enough to have a weight (R153). -/
def youngEnough (age : Q) (s : State) : Bool :=
  match age with
  | some a => decide (a * 1000000 ≤ (s.cfg.image.tuning.maxAge : Int) * 65536)
  | none => false

/-- The measurement rows: Whisk's fused position and heading, referred to the cut-off by the prior velocities over the difference from
their time of validity, which R219 makes the cut-off itself (R153). -/
def rowInputs (s : State) : List (AsmName × AsmInput) :=
  let e := s.mir.est.est
  let w := s.mir.wsk
  let dt := cutoffNs s - w.tov
  let m := displaced (e.u.getD 0) (e.v.getD 0) (e.hdg.getD 0) dt
  [input (.row 0) (w.north.bind fun v => rangeS (v + m.1)) 12, input (.row 1) (w.east.bind fun v => rangeS (v + m.2)) 12,
   input (.row 2) (w.heading.map fun v => wrapAngle (turned v (e.r.getD 0) dt)) 29]

/-- Their weights: the inverse square root of the covariance; zero for an absent or too old measurement (R153). -/
def weightInputs (s : State) : List (AsmName × AsmInput) :=
  let w := s.mir.wsk
  let pos : Q × Q × Q :=
    if w.north.isSome && w.east.isSome && youngEnough w.agePos s then
      match w.sigPos with
      | [some a, some b, some c] => match inverseRoot a b c with
        | some r => (some r.1, some r.2.1, some r.2.2)
        | none => (none, none, none)
      | _ => (none, none, none)
    else (some 0, some 0, some 0)
  let hdg : Q := if w.heading.isSome && youngEnough w.ageHdg s then
      w.sigHdg.bind fun v => if 0 < v then rangeS (nearestQuot (2 ^ 45) v) else none
    else some 0
  [input (.rowWeight 0) pos.1 16, input (.rowWeight 1) pos.2.1 16, input (.rowWeight 2) pos.2.2 16, input (.rowWeight 3) hdg 16]

/-- What the update reads (R110, R153). -/
def updateInputs (s : State) : List (AsmName × AsmInput) :=
  stateInputs s ++ mapAt s.mir.est.factor (fun i x => (.factor i, x)) ++ rowInputs s ++ weightInputs s

/-- The nine states of an update's result. -/
def reportedState (sch : Schedule) (r : Solved) : Estimate :=
  let q (k : Nat) : Q := r.reported sch (.state k) (stateFracs.getD k 0)
  { north := q 0, east := q 1, hdg := (q 2).map wrapAngle, u := q 3, v := q 4, r := q 5, envN := q 6, envE := q 7, envYaw := q 8 }

/-- The 45 entries of the new factor in an update's result, each in its own format. -/
def reportedFactor (sch : Schedule) (r : Solved) : List AsmInput :=
  (List.range 45).map fun i => r.raw sch (.factor i)

/-- Every row of the factor divided by the inflation factor (R155). -/
def inflate (s : State) : State :=
  let f := s.cfg.image.tuning.inflation
  modEst (fun x =>
    let factor := x.factor.map fun c => { c with code := c.code.bind fun v => rangeS (roundDiv (v * 65536) f) }
    { x with factor, est := withDeviations factor x.est }) s

/-- 200 consecutive skipped updates: a restart waits for the next basis epoch without a position function (R157). -/
def limitSkips (s : State) : State := if skipLimit ≤ s.mir.est.skipRun then modEst (fun x => { x with restartPending := true }) s else s

/-- A skipped update (R142, R155). -/
def skipUpdate (s : State) : State :=
  let s := inflate s
  let s := modEst (fun x => { x with skipped := true, skipRun := x.skipRun + 1 }) s
  limitSkips { s with mir := { s.mir with ldl := { s.mir.ldl with estSkip := bump 8 s.mir.ldl.estSkip } } }

/-- A successful update: it also cancels a deferred restart (R158). -/
def takeUpdate (r : Solved) (s : State) : State :=
  let sch := scheduleOf 0 false 0 s
  let factor := reportedFactor sch r
  let s := modEst (fun x => { x with
    est := withDeviations factor (reportedState sch r), factor, shown := true, updatedSince := true, updated := true, skipRun := 0
    restartPending := false, updateEpoch := s.ex.epoch }) s
  { s with mir := { s.mir with ldl := { s.mir.ldl with estSkip := 0 } } }

/-- Step 2 of R151, in epochs with N mod 10 = 0, from the estimator's start on. -/
def estimatorUpdate (s : State) : State :=
  if estBasis s.ex.epoch then
    let s := startOrRestart s
    if s.mir.est.started then
      let q := runInstance { cls := 0, basis := s.ex.epoch, inputs := updateInputs s } s
      let s := noteSolved 0 0 false s.ex.epoch q.1 q.2
      if q.1.ok then takeUpdate q.1 s else skipUpdate s
    else s
  else s

/-- The estimator gate is met (R74). -/
def meetGate (s : State) : State :=
  let e := s.mir.est
  if e.started ∧ ¬ e.gate ∧ 60000 ≤ e.gateRun ∧ e.covOk then raise 95 (modEst (fun x => { x with gate := true }) s) else s

/-- The epoch's flags, covariance comparison, the run towards the gate, and the gate (R74, R156, R169). -/
def estimatorStatus (s : State) : State :=
  let grade := s.mir.wsk.pos.grade
  let below := match s.mir.est.est.sigPos with
    | some v => decide (v < s.cfg.image.tuning.sigmaLimit)
    | none => false
  meetGate (modEst (fun x => { x with
    covOk := x.started && below
    gateRun := if 2 ≤ grade then bump 16 x.gateRun else 0
    tov := s.mir.tim.cutoff, holdover := s.mir.tim.holdover }) s)

/-- The estimator gate is met (R74): fast work has it so in the same epoch. -/
def execEstimatorGateMet (s : State) : Host.Outcome State Fault Refusal := .next (meetGate s)

/-- 200 consecutive skipped updates (R157): fast work has it so with the 200th. -/
def execSkippedUpdateLimit (s : State) : Host.Outcome State Fault Refusal := .next (limitSkips s)

end Sys2Proof.Machine
end

