-- ==== Sys2Proof/Machine/Adjust.lean ====
section
/-! DEFINITION. Bundle adjustment (R159 to R164). -/

namespace Sys2Proof.Machine

/-- Change the bundle adjustment. -/
def modBa (f : Bundle → Bundle) (s : State) : State := { s with mir := { s.mir with ba := f s.mir.ba } }

/-- Basis epochs of bundle adjustment, and its commit epochs (R53). -/
def baBasis (n : Nat) : Bool := n % 2000 == 0
def baCommit (n : Nat) : Bool := n % 2000 == 1000 && decide (1000 ≤ n)

/-- The slot's sensor: reference s, or gyrocompass s − 8 (R159). -/
def slotSource (slot : Nat) (s : State) : Option Nat := if slot < 8 then refSource slot s else hdgSource (slot - 8) s

/-- Components that a slot estimates: lever arm, angle (R159). -/
def slotLever (slot : Nat) (s : State) : Bool := slot < 8 && (slotSource slot s).isSome
def slotAngle (slot : Nat) (s : State) : Bool :=
  if slot < 8 then decide (slot < s.cfg.image.refs.length) && (refDecl slot s).kind == .rangeBearing
  else (slotSource slot s).isSome

/-! ## The window (R160) -/

/-- The row of a reference's record, projected with the image geometry (R160): none where there is nothing to project with. -/
def refRow (i : Nat) (r : InRecord) (s : State) : Option SampleRow :=
  let w := s.mir.wsk
  let t := instantOf r (w.refs.getD i {}).suspect s
  (attitudeAt t w).bind fun att => (projectorHeading s).bind fun h =>
    let p := projected (frameWith {} i r s) i r (w.anchorsImage.getD i none) att (headingAt h t s) s
    if p.1.isSome && p.2.isSome then
      some { slot := i, antenna := if isGnssRef (refDecl i s) then gnssAntenna r.payload else 0, instant := t, north := p.1, east := p.2 }
    else none

/-- The row of a gyrocompass record: its heading without correction. -/
def gyroRow (h : Nat) (r : InRecord) (s : State) : Option SampleRow :=
  (headingOf r s).map fun v =>
    { slot := 8 + h, antenna := 0, instant := instantOf r (s.mir.wsk.hdgs.getD h {}).suspect s, north := some (wrapAngle v.1), east := none }

/-- The row of an engine's baseline heading, with the image geometry. -/
def baselineRow (engine : Nat) (s : State) : Option SampleRow :=
  (baselinePair (if engine = 0 then s.cfg.image.gnssA else s.cfg.image.gnssB) s).bind fun p =>
    (baselineHeading engine {} p.1 p.2 s).map fun v =>
      { slot := 11 + engine, antenna := 0, instant := p.1.tov, north := some (wrapAngle v.1), east := none }

/-- A source's valid records of the epoch from the unit whose record is chosen for it (R38). -/
def chosenRecords (valid : InRecord → Bool) (chosen : Option InRecord) (source : Nat) (s : State) : List InRecord :=
  match chosen with
  | some c => (committedOf source s).filter fun r => r.origin == c.origin && valid r
  | none => []

/-- The rows of the epoch's committed records (R38, R160). -/
def epochRows (s : State) : List SampleRow :=
  let refs := (List.range (min 8 s.cfg.image.refs.length)).map fun i =>
    (chosenRecords (fun r => fixValid (refDecl i s) r s) (newFix i s) (refDecl i s).source s).filterMap fun r => refRow i r s
  let gyros := (List.range 3).map fun h => match hdgSource h s with
    | some n =>
      let valid (r : InRecord) : Bool := (headingOf r s).isSome
      (chosenRecords valid (chosenRecord valid n s) n s).filterMap fun r => gyroRow h r s
    | none => []
  refs.flatten ++ gyros.flatten ++ (List.range 2).filterMap fun e => if (hdgDecl (3 + e) s).isSome then baselineRow e s else none

/-- The row nearer an instant stands for its sensor and antenna; of two equally near the one met first: DESIGN CHOICE (log 158). -/
def keepNearest (at' : Int) (l : List SampleRow) (r : SampleRow) : List SampleRow :=
  let same (x : SampleRow) : Bool := x.slot == r.slot && x.antenna == r.antenna
  let far (x : SampleRow) : Nat := (x.instant - at').natAbs
  match l.find? same with
  | some o => if far r < far o then r :: l.filter (fun x => !same x) else l
  | none => r :: l

/-- Rows within 50 ms of an instant. -/
def near (at' : Int) (r : SampleRow) : Bool := decide ((r.instant - at').natAbs ≤ 50000000)

/-- The samples of R160: every 1000 epochs, with the rows nearest each, whenever their records are committed; the window is 1200 samples. -/
def sampleWindow (s : State) : State :=
  let mine := epochRows s
  let c := cutoffNs s
  let b := s.mir.ba
  let older := b.samples.map fun x =>
    { x with rows := (mine.filter (near x.cutoff)).foldl (keepNearest x.cutoff) x.rows }
  let recent := (b.recent ++ mine).filter (near c)
  let samples := if s.ex.epoch % 1000 = 0 then
      (older ++ [{ epoch := s.ex.epoch, cutoff := c, prior := s.mir.est.est, rows := recent.foldl (keepNearest c) [] }])
    else older
  let samples := samples.drop (samples.length - 1200)
  modBa (fun b => { b with samples, recent, windowRun := if samples.isEmpty then 0 else b.windowRun + 1 }) s

/-- The window has held data for 240 000 epochs (R76, R161): counted from its first sample, and judged in the epoch that asks (log 116). -/
def baReady (s : State) : Bool := decide (240000 ≤ s.mir.ba.windowRun)

/-! ## What an instance reads (R110, R160) -/

/-- The row of a slot's sensor in a sample: for GNSS antenna 0's, else antenna 1's (R232). -/
def slotRow (x : BaSample) (slot : Nat) : Option SampleRow :=
  match x.rows.find? fun r => r.slot == slot && r.antenna == 0 with
  | some r => some r
  | none => x.rows.find? (·.slot == slot)

/-- A row at the sample's cut-off, by the velocities of its prior (log 124): north, east, or a heading. -/
def rowAt (x : BaSample) (r : SampleRow) : List Q :=
  let e := x.prior
  let dt := x.cutoff - r.instant
  if r.slot < 8 then
    let m := displaced (e.u.getD 0) (e.v.getD 0) (e.hdg.getD 0) dt
    [r.north.bind fun v => rangeS (v + m.1), r.east.bind fun v => rangeS (v + m.2)]
  else [r.north.map fun v => wrapAngle (turned v (e.r.getD 0) dt)]

/-- The values of sample n. -/
def windowInputs (n : Nat) (x : BaSample) : List (AsmName × AsmInput) :=
  let slots := ((List.range 11).filterMap fun k => slotRow x k).map fun r =>
    inputs (.sampleRow n r.slot) (if r.slot < 8 then [12, 12] else [29]) (rowAt x r)
  let bases := (List.range 2).filterMap fun e => (slotRow x (11 + e)).map fun r =>
    input (.sampleBaseline n e) ((rowAt x r).headD none) 29
  slots.flatten ++ bases ++ inputs (.sampleState n) stateFracs x.prior.states

/-- Samples of the window of basis epoch b, by their place in it. -/
def windowOf (b : Nat) (s : State) : List (Nat × BaSample) :=
  (s.mir.ba.samples.filter fun x => decide (x.epoch ≤ b ∧ b < x.epoch + 1200000)).map fun x => (1199 - (b - x.epoch) / 1000, x)

/-- The basis record of bundle adjustment (R111), with the numbers of samples to which each slot's sensor and a GNSS baseline heading
contributed (R161). -/
def baTakeBasis (s : State) : State :=
  if baBasis s.ex.epoch then
    let l := windowOf s.ex.epoch s
    let r := basisRecord 0xFFFF ((l.map fun p => windowInputs p.1 p.2).flatten) s.mir.ldl.baSource s
    let has (x : BaSample) (k : Nat) : Bool := x.rows.any (·.slot == k)
    let r := { r with samples := (List.range 11).map fun k => (l.filter fun p => has p.2 k).length
                      baseline := (l.filter fun p => has p.2 11 || has p.2 12).length }
    modSlow (fun w => { w with ba := some r }) s
  else s

/-! ## Commit (R161, R162) -/

/-- What the instance gave for a slot; nothing where it was unsuccessful. -/
def slotResult (slot : Nat) (r : Solved) (s : State) : BaSlotResult :=
  let sch := scheduleOf 1 false 0 s
  let q (f : Nat → Nat → OutName) (k n : Nat) : Q := if r.ok then r.reported sch (f slot k) n else none
  { value := ⟨q .correction 0 12, q .correction 1 12, q .correction 2 12, q .correction 3 29⟩
    sigma := ⟨q .deviation 0 12, q .deviation 1 12, q .deviation 2 12, q .deviation 3 29⟩ }

/-- Components of a slot that commit (R161): lever arm x, y, z and angle. -/
def committing (slot : Nat) (p : SlowRun) (r : BaSlotResult) (s : State) : Bool × Bool × Bool × Bool :=
  let t := s.cfg.image.tuning
  let base := baReady s && decide (600 ≤ p.samples.getD slot 0) && (decide (slot < 8) || decide (600 ≤ p.baseline))
  let below (q : Q) (lim : Int) : Bool := match q with
    | some v => decide (v < lim)
    | none => false
  let lever (v sg : Q) := base && slotLever slot s && v.isSome && below sg t.obsLen
  (lever r.value.dx r.sigma.dx, lever r.value.dy r.sigma.dy, lever r.value.dz r.sigma.dz,
   base && slotAngle slot s && r.value.dpsi.isSome && below r.sigma.dpsi t.obsAng)

/-- A committed component differs from another value by at most a bound. -/
def withinOf (on : Bool) (v base : Q) (lim : Int) : Bool := !on || decide (((v.getD 0) - (base.getD 0)).natAbs ≤ lim.natAbs)

/-- Every committed component lies within bounds of a geometry: lengths in sQ19.12, angles in sQ2.29. -/
def allWithin (c : Bool × Bool × Bool × Bool) (v base : Correction) (len ang : Int) : Bool :=
  withinOf c.1 v.dx base.dx len && withinOf c.2.1 v.dy base.dy len && withinOf c.2.2.1 v.dz base.dz len &&
    withinOf c.2.2.2 v.dpsi base.dpsi ang

/-- The committed components over the values in force. -/
def overlay (c : Bool × Bool × Bool × Bool) (v old : Correction) : Correction :=
  { dx := if c.1 then v.dx else old.dx, dy := if c.2.1 then v.dy else old.dy, dz := if c.2.2.1 then v.dz else old.dz
    dpsi := if c.2.2.2 then v.dpsi else old.dpsi }

/-- No pending values. -/
def noPending : Correction := ⟨none, none, none, none⟩

/-- The outcome of a slot at a commit (R162): ±0.2 m, ±0.5° of the baseline; ±2.0 m, ±5.0° of the image geometry. A slot within the
bounds of its baseline that lies beyond those of the image geometry is OUT_OF_RANGE: that row is judged first (log 114). -/
def commitSlot (slot : Nat) (p : SlowRun) (r : BaSlotResult) (s : State) : State :=
  let c := committing slot p r s
  let old := s.mir.ba.slots.getD slot {}
  let set (x : BaSlot) (s : State) : State := modBa (fun b => { b with slots := modAt b.slots slot fun _ => x }) s
  if (slotSource slot s).isNone then s
  else if !(c.1 || c.2.1 || c.2.2.1 || c.2.2.2) then
    let s := set { old with state := 4, pending := noPending } s
    if old.state = 4 then s else raiseAt 94 slot s
  else if !allWithin c r.value {} 8192 46850825 then
    raiseAt 92 slot (set { old with state := 3, pending := noPending } s)
  else if allWithin c r.value old.baseline 819 4685083 then
    let v := overlay c r.value old.inForce
    let s := set { old with state := 1, inForce := v, pending := noPending } s
    if v = old.inForce then s else raiseAt 93 slot s
  else
    raiseAt 92 slot (set { old with state := 2, seq := (old.seq + 1) % 256, pending := overlay c r.value noPending } s)

/-- The commit of a completed bundle-adjustment instance (R53, R142, R161, R162). -/
def commitBa (p : SlowRun) (r : Solved) (s : State) : State :=
  let s := dropLostSource 1 0 (noteCold 1 0 r.warm (noteSolved 1 0 false p.basis r s))
  let l := s.mir.ldl
  let s := { s with mir := { s.mir with
    ldl := { l with baWarm := r.warm, baKept := !r.ok, baSource := if r.ok then some r.iterate else l.baSource } }
                    slow := { s.slow with ba := none } }
  let s := (List.range 11).foldl (fun s k => commitSlot k p (slotResult k r s) s) s
  if r.origin.isNone then modBa (fun b => { b with epoch := p.basis }) s else s

/-! ## Acceptance (R163) -/

/-- A slot is PENDING with this sequence number (R163). -/
def slotPending (slot seq : Nat) (s : State) : Bool :=
  match s.mir.ba.slots[slot]? with
  | some x => x.state == 2 && x.seq == seq
  | none => false

/-- Accept: the pending values become the correction in force and the baseline (R163). A component without a pending value keeps its
correction in force, which becomes its baseline (log 115). -/
def acceptSlot (slot : Nat) (s : State) : State :=
  modBa (fun b => { b with slots := modAt b.slots slot fun x =>
    let keep (p old : Q) : Q := if p.isSome then p else old
    let v : Correction := ⟨keep x.pending.dx x.inForce.dx, keep x.pending.dy x.inForce.dy, keep x.pending.dz x.inForce.dz,
                           keep x.pending.dpsi x.inForce.dpsi⟩
    { x with state := 1, accepted := true, inForce := v, baseline := v, pending := noPending } }) s

/-- Reject: the pending values are discarded (R163). -/
def rejectSlot (slot : Nat) (s : State) : State :=
  modBa (fun b => { b with slots := modAt b.slots slot fun x => { x with state := 1, pending := noPending } }) s

end Sys2Proof.Machine
end

