-- ==== Sys2Proof/Machine/Model.lean ====
section
/-! DEFINITION. The articulated-body model (R165 to R168). -/

namespace Sys2Proof.Machine

/-- The berth contact joint is engaged (R167). -/
def jointEngaged (s : State) : Bool := s.mir.mode.func == some .berthPush && s.mir.trv.contact

/-- Change the model. -/
def modAbm (f : Model → Model) (s : State) : State := { s with mir := { s.mir with abm := f s.mir.abm } }

/-- Declared berth b. -/
def berthDecl (b : Nat) (s : State) : Option Berth := s.cfg.image.berths[b]?

/-- The berth named in the BERTH-PUSH selection. -/
def namedBerth (s : State) : Berth := (berthDecl s.mir.mode.berth s).getD {}

/-- Modelled azimuths of the azimuth units; NaN for every other unit (R169). -/
def azimuths (az : List Q) (s : State) : List Q :=
  (List.range 16).map fun j => if declared j s && (unitDecl j s).kind == .azimuth then az.getD j none else none

/-- Contact as shown while the joint is not engaged (R169). -/
def noContact (m : Model) : Model := if m.stepped then { m with fn := some 0, ft := some 0, d := none, slip := false } else m

/-- A valid feedback record of unit j is committed in the epoch. -/
def freshFeedback (j : Nat) (s : State) : Option Feedback :=
  if (unitState j s).fbMissing = 0 then (unitState j s).feedback else none

/-- The azimuth joints before the step: a unit's angle is its azimuth feedback where a valid record of it is committed in the
epoch (R166), brought into −π to +π (R19). -/
def feedbackAngles (s : State) : State :=
  let take (j : Nat) (a : Q) : Q :=
    if declared j s && (unitDecl j s).kind == .azimuth then
      match (freshFeedback j s).bind (·.azimuth) with
      | some f => some (wrapAngle f)
      | none => a
    else a
  modAbm (fun m => { m with az := mapAt m.az take }) s

/-- The contact joint at the cut-off: engaged, it starts from the compression that the estimated position gives, at rest, and goes on
from where the last step brought it (R167, R168). -/
def contactJoint (engaged : Bool) (s : State) : State :=
  let b := s.mir.mode.berth
  let x := namedBerth s
  let img := s.cfg.image
  let e := s.mir.est.est
  let start : Q := e.north.bind fun n => e.east.bind fun k => e.hdg.bind fun h =>
    compressionAt img.contactX img.contactY x.north x.east x.normal n k h
  modAbm (fun m =>
    if engaged then
      let new := !m.contact || m.berth != b
      { m with contact := true, berth := b, d := if new then start else m.dNext, dRate := if new then some 0 else m.dRate }
    else noContact { m with contact := false, berth := 0, dNext := none, dRate := none }) s

/-- Normal force and tangential velocity of the engaged joint at the cut-off of N (R167). -/
def contactNormal (s : State) : Q :=
  let x := namedBerth s
  normalForce x.stiffness x.damping s.mir.abm.d s.mir.abm.dRate
def contactVelocity (s : State) : Q :=
  let e := s.mir.est.est
  e.hdg.bind fun h => e.u.bind fun u => e.v.bind fun v => e.r.bind fun r =>
    tangentVelocity s.cfg.image.contactX s.cfg.image.contactY (namedBerth s).normal h u v r

/-! ## What the step reads (R110, R165, R166) -/

/-- Force and moment of unit j: the thrust set-point of N − 1, replaced by valid thrust feedback committed in N, along the modelled
azimuth of a pod, or along the hull's axes. Forces sQ23.8, moment sQ27.4. -/
def appliedForce (j : Nat) (s : State) : Q × Q × Q :=
  let d := unitDecl j s
  let u := unitState j s
  let t : Q := match (freshFeedback j s).bind (·.thrust) with
    | some f => some f
    | none => u.prev.thrust
  let az := if d.kind = .azimuth then s.mir.abm.az.getD j none else u.prev.azimuth
  let p := driveForce d t az
  (p.bind fun p => narrow 38 8 p.1, p.bind fun p => narrow 38 8 p.2,
   p.bind fun p => demandSum (2 ^ 26) (2 ^ 46) [some (d.posX * p.2), some (-(d.posY * p.1))])

/-- Applied forces of the declared units. That of a pod whose azimuth is not known yet is absent: DESIGN CHOICE (log 158). -/
def appliedInputs (s : State) : List (AsmName × AsmInput) :=
  ((unitIds s).map fun j =>
    let p := appliedForce j s
    let l := if (unitDecl j s).kind = .azimuth ∧ s.mir.abm.az.getD j none = none then inputs (.applied j) else formedAll (.applied j)
    l [8, 8, 4] [p.1, p.2.1, p.2.2]).flatten

/-- The azimuth joints: angle, rate, commanded azimuth, slew rate and slew acceleration. -/
def jointInputs (s : State) : List (AsmName × AsmInput) :=
  let m := s.mir.abm
  (((unitIds s).filter fun j => (unitDecl j s).kind == .azimuth).map fun j =>
    let d := unitDecl j s
    inputs (.joint j) [29, 26, 29, 29, 29]
      [m.az.getD j none, m.azRate.getD j none, (unitState j s).prev.azimuth, some d.slew, some d.slewAccel] ++
    [fixedInput (.joint j 5) d.trackStiffness, fixedInput (.joint j 6) d.trackDamping]).flatten

/-- Value on a curve of rising points at x, linear and rounded convergently (R176). -/
def curveWithin (x : Int) : List (Int × Int) → Int
  | [] => 0
  | [(_, y)] => y
  | (x0, y0) :: (x1, y1) :: r =>
    if x ≤ x1 ∧ x0 < x1 then y0 + roundDiv ((y1 - y0) * (x - x0)) (x1 - x0).toNat else curveWithin x ((x1, y1) :: r)

/-- Value of a curve at x; beyond its first and last point the manual states none: a free value of the curve (log 12). -/
def curveAt (x : Int) (l : List (Int × Int)) : Int :=
  match l.head?, l.getLast? with
  | some a, some b => if a.1 ≤ x ∧ x ≤ b.1 then curveWithin x l else Cfg.beyondCurve l x
  | _, _ => 0

/-- Mass and added mass at the present draft (R165, R217); the hull's inertia, damping and restoring (R165). -/
def hullInputs (s : State) : List (AsmName × AsmInput) :=
  let img := s.cfg.image
  inputs .hull [8, 8, 8, 8] (img.draftTables.map fun t => s.mir.wsk.draft.map fun x => curveAt x t) ++
    mapAt (img.inertia ++ img.linearDamping ++ img.quadraticDamping ++ img.restoring) fun k f => fixedInput (.hull (4 + k)) f

/-- Whisk's wind force, and its heave, roll, pitch with the rates of roll and pitch. -/
def windInputs (s : State) : List (AsmName × AsmInput) :=
  let w := s.mir.wsk
  inputs .wind [8, 8, 4] [w.windX, w.windY, w.windN]
def attitudeInputs (s : State) : List (AsmName × AsmInput) :=
  let m := s.mir.wsk.motion
  inputs .attitude [12, 29, 29, 26, 26] [m.heave, m.roll, m.pitch, m.p, m.q]

/-- The contact joint: its state, and the geometry and coefficients of the named berth (R167). -/
def contactInputs (s : State) : List (AsmName × AsmInput) :=
  let b := namedBerth s
  formedAll .contact [12, 21, 8, 21, 29, 16, 16, 16, 12, 12]
    ([s.mir.abm.d, s.mir.abm.dRate, contactNormal s, contactVelocity s] ++
      [b.normal, b.stiffness, b.damping, b.friction, s.cfg.image.contactX, s.cfg.image.contactY].map some)

/-- What the step reads. -/
def stepInputs (engaged : Bool) (s : State) : List (AsmName × AsmInput) :=
  stateInputs s ++ attitudeInputs s ++ windInputs s ++ appliedInputs s ++ jointInputs s ++ hullInputs s ++
    (if engaged then contactInputs s else [])

/-! ## The step (R151, R166 to R168) -/

/-- A successful step's contact forces: Fₙ, and Fₜ from the tangential acceleration and effective mass that the step found (R167). -/
def contactForces (engaged : Bool) (r : Solved) (s : State) : State :=
  if engaged then
    let sch := scheduleOf 2 true 0 s
    let fn := contactNormal s
    let t := tangentialForce (namedBerth s).friction fn (contactVelocity s) (r.reported sch .tangentAccel 21) (r.reported sch .tangentMass 8)
    modAbm (fun m => { m with fn, ft := t.1, slip := t.2 }) s
  else modAbm noContact s

/-- A hull acceleration with `frac` fraction bits that the step finds from every force other than Fₜ, with what Fₜ adds to it: its response
is in sQ1.30 per kN (R166, R167). -/
def withTangent (frac : Nat) (base ft response : Q) : Q :=
  base.bind fun a => ft.bind fun t => if t = 0 then some a else response.bind fun w => rangeS (roundDiv (a * 2 ^ (38 - frac) + t * w) (2 ^ (38 - frac)))

/-- Accelerations in a step's result, with the tangential contact force just resolved (R166, R167). -/
def reportedAccels (engaged : Bool) (r : Solved) (s : State) : Accels :=
  let sch := scheduleOf 2 engaged 0 s
  let ft : Q := if engaged then s.mir.abm.ft else some 0
  let hull (k f : Nat) : Q := withTangent f (r.reported sch (.hullAccel k) f) ft (r.reported sch (.tangentResponse k) 30)
  { hull := [hull 0 21, hull 1 21, hull 2 26]
    joints := (List.range 16).map fun j => r.reported sch (.jointAccel j) 26
    contact := if engaged then r.reported sch .contactAccel 21 else some 0 }

/-- A change limited to ± a bound. -/
def limited (bound v : Int) : Int := max (-bound) (min bound v)

/-- An azimuth joint after 500 µs (R165): its rate changes by no more than the declared slew acceleration allows and stays within the
declared slew rate, its angle changes by no more than that rate allows (log 125). Before a joint's first azimuth feedback its angle is NaN and
stays so: DESIGN CHOICE, the manual gives none (log 158). -/
def advanceAzimuth (d : ThrustUnit) (az rate accel : Q) : Q × Q :=
  let p := Cfg.advanceJoint az rate accel
  (az.bind fun a => p.1.map fun b => wrapAngle (a + limited (roundDiv d.slew 2000) (wrapAngle (b - a))),
   rate.bind fun r => p.2.map fun q => limited (roundDiv d.slew 8) (r + limited (roundDiv d.slewAccel 16000) (q - r)))

/-- Every joint at the next cut-off, by the accelerations of the last successful step (R142, R165, R166). So EST_POD_AZ_j shows an azimuth at
the cut-off of N + 1, while EST_CONTACT_D shows the compression at that of N: the manual names neither instant, and both are DESIGN
CHOICE (log 158). -/
def advanceModel (s : State) : State :=
  modAbm (fun m =>
    let next (j : Nat) : Q × Q := advanceAzimuth (unitDecl j s) (m.az.getD j none) (m.azRate.getD j none) (m.accel.joints.getD j none)
    let c := Cfg.advanceJoint m.d m.dRate m.accel.contact
    { m with az := azimuths ((List.range 16).map fun j => (next j).1) s, azRate := (List.range 16).map fun j => (next j).2
             dNext := if m.contact then c.1 else none, dRate := if m.contact then c.2 else none }) s

/-- The rows that a step of propagation reduces (R153): the declared process noise of each state, stacked over the rows of the factor, which is
an upper triangle of nine. -/
def stackedRows (noise : List Fixed) (factor : List AsmInput) : List (List AsmInput) :=
  let zero : AsmInput := { code := some 0, frac := 0 }
  (mapAt noise fun k f => (List.range 9).map fun i => if i = k then { code := some f.value, frac := f.frac } else zero) ++
    (List.range 9).map fun i => List.replicate i zero ++ (factor.drop (i * 9 - i * (i - 1) / 2)).take (9 - i)

/-- The estimate and its factor propagated to the next cut-off by the hull accelerations (R153, R154, R156). -/
def propagateEstimate (s : State) : State :=
  if s.mir.est.started then
    let rows := stackedRows s.cfg.image.tuning.processNoise s.mir.est.factor
    let p := Cfg.propagate (imgContent s) s.mir.est.est rows s.mir.abm.accel.hull
    let e := { p.1 with hdg := p.1.hdg.map wrapAngle }
    modEst (fun x => { x with next := some (withDeviations p.2 e, p.2) }) s
  else s

/-- Step 3 of R151: the model advances to the next cut-off, by its own accelerations or, held, by the last ones (R142). -/
def modelStep (s : State) : State :=
  let engaged := jointEngaged s
  let s := contactJoint engaged (feedbackAngles s)
  let q := runInstance { cls := 2, contact := engaged, basis := s.ex.epoch, inputs := stepInputs engaged s } s
  let s := noteSolved 2 0 false s.ex.epoch q.1 q.2
  let s := if q.1.ok then
      let s := contactForces engaged q.1 (modAbm (fun m => { m with stepped := true, held := false }) s)
      let s := modAbm (fun m => { m with accel := reportedAccels engaged q.1 s }) s
      { s with mir := { s.mir with ldl := { s.mir.ldl with abmHeld := 0 } } }
    else
      let s := modAbm (fun m => { m with held := true }) s
      { s with mir := { s.mir with ldl := { s.mir.ldl with abmHeld := bump 8 s.mir.ldl.abmHeld } } }
  let s := advanceModel s
  let limit := ((berthDecl s.mir.mode.berth s).map (·.compLimit)).getD 0
  let beyond := engaged && (match s.mir.abm.d with | some d => decide (limit < d) | none => false)
  propagateEstimate (modAbm (fun m => { m with compLimit := beyond }) s)

end Sys2Proof.Machine
end

