-- ==== Sys2Proof/Machine/Trivet.lean ====
section
/-! DEFINITION. Trivet (chapter 16): sampling of the input pairs, their combination, the safe output channels and their
tests, the safety functions. -/

namespace Sys2Proof.Machine

/-! ## Declarations -/

/-- Type of a pair (R328). -/
inductive PairType where
  | unused | estop | takeover | ready | contact
deriving DecidableEq, Repr, Inhabited

def pairType (p : Nat) (s : State) : PairType :=
  match s.cfg.image.pairTypes.getD p 0 with
  | 1 => .estop
  | 2 => .takeover
  | 3 => .ready
  | 4 => .contact
  | _ => .unused

/-- Discrepancy time of a pair in samples of 125 µs, 20 ms unless declared (R330). -/
def discrepancyOf (p : Nat) (s : State) : Nat := s.cfg.image.discrepancy.getD p 160

/-- The thrust unit that a channel serves (R333). -/
def channelUnit (k : Nat) (s : State) : Option Nat := (unitIds s).find? fun j => (unitDecl j s).channel == some k

/-- Emergency-stop pairs mapped to a channel (R334). -/
def estopMapped (p k : Nat) (s : State) : Bool := pairType p s == .estop && (s.cfg.image.estopMap.getD p []).contains k

def modTrv (f : TrivetMirror → TrivetMirror) (s : State) : State := { s with mir := { s.mir with trv := f s.mir.trv } }

/-- Change a channel as decided from mirrored state. -/
def modSafe (k : Nat) (f : SafeChannel → SafeChannel) (s : State) : State :=
  modTrv (fun t => { t with channels := modAt t.channels k f }) s

/-- Change the unit's own state of a channel. -/
def modChannel (k : Nat) (f : ChannelLocal → ChannelLocal) (s : State) : State :=
  { s with trv := { s.trv with channels := modAt s.trv.channels k f } }

def safeChannel (k : Nat) (s : State) : SafeChannel := s.mir.trv.channels.getD k {}
def channelLocal (k : Nat) (s : State) : ChannelLocal := s.trv.channels.getD k {}

/-! ## Sampling (R328 to R331) -/

/-- One sample of a channel: a level shown in four consecutive samples becomes the filtered level (R329). -/
def filterSample (lv : Bool) (c : FilterChannel) : FilterChannel :=
  let n := if lv = c.next ∧ c.same ≠ 0 then min (c.same + 1) 4 else 1
  { level := if 4 ≤ n then lv else c.level, next := lv, same := n }

/-- The filtered levels read ACTIVE, and INACTIVE, antivalently (R328). -/
def antiActive (x : PairLocalInput) : Bool := x.a.level && !x.b.level
def antiInactive (x : PairLocalInput) : Bool := !x.a.level && x.b.level

/-- The safe state stands antivalently; the pair reads its safe state (R329, R330). -/
def antiSafe (t : PairType) (x : PairLocalInput) : Bool := if t = .takeover then antiActive x else antiInactive x
def readsSafe (t : PairType) (x : PairLocalInput) : Bool :=
  x.fault || !(if t = .takeover then antiInactive x else antiActive x)

/-- STATE of a pair in the record: it reads ACTIVE (R331). -/
def readsActive (t : PairType) (x : PairLocalInput) : Bool := if t = .takeover then readsSafe t x else !readsSafe t x

/-- One sample of every channel (R329): runs of R330 and SAFE_SEEN of R331 follow. -/
def sampleInputs (levels : Nat) (s : State) : State :=
  { s with trv := { s.trv with pairs := mapAt s.trv.pairs fun p x =>
      let x := { x with a := filterSample (levels.testBit (2 * p)) x.a, b := filterSample (levels.testBit (2 * p + 1)) x.b }
      let t := pairType p s
      { x with
        equalRun := if x.a.level = x.b.level then x.equalRun + 1 else 0
        safeRun := if antiSafe t x then x.safeRun + 1 else 0
        safeSeen := x.safeSeen || readsSafe t x } } }

/-- The samples of E+125 µs and E+250 µs. -/
def execTrivetSample (levels : Nat) (s : State) : Host.Outcome State Fault Refusal :=
  .next (if timerRuns s then sampleInputs levels s else s)

/-- The number with bit p set where `f` holds of pair p. -/
def pairBits (f : Nat → PairLocalInput → Bool) (s : State) : Nat :=
  bitSet ((List.range 16).filter fun p => f p (s.trv.pairs.getD p {}))

/-- Source number of a unit's Trivet records (R331). -/
def trivetSource : UnitId → Nat
  | .a => 0xFFF0
  | .b => 0xFFF1

/-- Reading of the time counter, in ns, `us` µs after E+0 µs: 300 ticks in each (R26). -/
def counterAt (us : Nat) (s : State) : Nat := (s.time.counter + 300 * us * s.time.incr) / 2 ^ 32

/-- The sample of E+375 µs closes the Trivet record, which enters the next epoch's ingress (R331). -/
def execTrivetRecordClose (levels : Nat) (s : State) : Host.Outcome State Fault Refusal :=
  .next (if timerRuns s then
      let s := sampleInputs levels s
      let payload := beBytes 2 (pairBits (fun p x => readsActive (pairType p s) x) s) ++
        beBytes 2 (pairBits (fun _ x => x.safeSeen) s) ++ beBytes 2 (pairBits (fun _ x => x.a.level == x.b.level) s) ++
        beBytes 2 (pairBits (fun _ x => x.fault) s)
      let at' := counterAt 375 s
      let s := ingest (trivetSource s.um.unit) at' at' false payload s
      let raw := bitSet (((List.range 16).map fun p =>
        let x := s.trv.pairs.getD p {}
        (if x.a.level then [2 * p] else []) ++ (if x.b.level then [2 * p + 1] else [])).flatten)
      { s with trv := { s.trv with rawNow := raw, pairs := s.trv.pairs.map fun x => { x with safeSeen := false } } }
    else s)

/-- Filtered levels equal in every sample for longer than the discrepancy time: the pair is in antivalence fault
(R330). Its record carries the fault into the committed set, where EV_115 is raised (R332, log 11). -/
def execAntivalenceFault (p : Nat) (s : State) : Host.Outcome State Fault Refusal :=
  .next (match s.trv.pairs[p]? with
    | some x =>
      if discrepancyOf p s < x.equalRun ∧ pairType p s ≠ .unused then
        { s with trv := { s.trv with pairs := modAt s.trv.pairs p fun x => { x with fault := true } } }
      else s
    | none => s)

/-- The safe state antivalently in every sample for 100 epochs clears the fault (R330). -/
def execAntivalenceFaultClear (p : Nat) (s : State) : Host.Outcome State Fault Refusal :=
  .next (match s.trv.pairs[p]? with
    | some x =>
      if 400 ≤ x.safeRun then
        { s with trv := { s.trv with pairs := modAt s.trv.pairs p fun x => { x with fault := false } } }
      else s
    | none => s)

/-! ## Combination (R332) -/

/-- The newest committed Trivet record of a unit. -/
def newestTrivet (u : UnitId) (old : Option InRecord) (s : State) : Option InRecord :=
  (committedOf (trivetSource u) s).foldl (fun a r => match a with
    | some o => if o.tov ≤ r.tov then some r else a
    | none => some r) old

/-- The record counts: its time of validity lies at most 4 epochs before the cut-off. -/
def countedRecord (r : Option InRecord) (s : State) : Option InRecord :=
  r.bind fun x => if cutoffNs s - x.tov ≤ 2000000 then some x else none

/-- Bit p of the field at octet `o` of a Trivet record. -/
def trivetBit (r : InRecord) (o p : Nat) : Bool := (octets r.payload o 2).testBit p

/-- One pair from the counted records. -/
def combinePair (t : PairType) (disc p : Nat) (l : List InRecord) (x : PairInput) : PairInput :=
  let safeIn (r : InRecord) : Bool := (if t = .takeover then trivetBit r 0 p else !trivetBit r 0 p)
  let fault := l.any fun r => trivetBit r 6 p
  let differ := match l with
    | [a, b] => trivetBit a 0 p != trivetBit b 0 p
    | _ => false
  let diffRun := if differ then x.diffRun + 1 else 0
  let clean := !l.isEmpty && l.all fun r => safeIn r && !trivetBit r 4 p && !trivetBit r 6 p
  let cleanRun := if clean then x.cleanRun + 1 else 0
  let diffFault := if x.diffFault then decide (cleanRun < 100) else decide (disc < 4 * diffRun)
  let safe := l.isEmpty || diffFault || l.any fun r => safeIn r || trivetBit r 2 p || trivetBit r 6 p
  { active := if t = .takeover then safe else !safe, fault := fault || diffFault, diffFault, diffRun, cleanRun, safe }

/-- Some pair of a type satisfies a predicate. -/
def anyPair (t : PairType) (f : PairInput → Bool) (s : State) : Bool :=
  (List.range 16).any fun p => pairType p s == t && f (s.mir.trv.pairs.getD p {})

/-- The berth-contact input is made (R328, R474). -/
def contactMade (s : State) : Bool := anyPair .contact (fun _ => true) s && !anyPair .contact (fun x => !x.active) s

/-- The combination of the epoch: pairs, inputs, EV_115, EV_117 and the emergency-stop trips (R332, R328, R343). -/
def combineInputs (s : State) : State :=
  let t := s.mir.trv
  let recA := newestTrivet .a t.recA s
  let recB := newestTrivet .b t.recB s
  let l := [countedRecord recA s, countedRecord recB s].filterMap id
  let pairs := mapAt t.pairs fun p x => combinePair (pairType p s) (discrepancyOf p s) p l x
  let s := modTrv (fun t => { t with recA, recB, pairs }) s
  let s := modTrv (fun t => { t with contact := contactMade s, takeover := anyPair .takeover (·.active) s
                                     estop := anyPair .estop (·.safe) s }) s
  let faulty := (List.range 16).find? fun p => pairType p s != .unused && (pairs.getD p {}).fault
  let s := conditionAt 115 (faulty.getD 0) faulty.isSome s
  let stop := (List.range 16).find? fun p => pairType p s == .estop && (pairs.getD p {}).safe
  let s := conditionAt 117 (stop.getD 0) stop.isSome s
  modTrv (fun t => { t with channels := mapAt t.channels fun k c =>
    { c with estop := c.estop || (List.range 16).any fun p => estopMapped p k s && (pairs.getD p {}).safe } }) s

/-- A thrust unit is ready (R474). -/
def unitReady (j : Nat) (s : State) : Bool :=
  match (unitDecl j s).readyPair with
  | some p => (s.mir.trv.pairs.getD p {}).active
  | none =>
    let u := unitState j s
    decide (u.fbMissing < 20) && (match u.feedback with
      | some f => f.ready
      | none => false)

/-! ## The berth in force (R339) -/

/-- Horizontal distance of the estimate in use from berth b's plane point, squared; 0 while there is no estimate. -/
def berthDist2 (b : Nat) (s : State) : Int :=
  match s.cfg.image.berths[b]?, s.mir.est.est.north, s.mir.est.est.east with
  | some d, some n, some e => dist2 n e d.north d.east
  | _, _, _ => 0

/-- The nearest of some berths, among equally near ones the lowest-numbered. -/
def nearestBerth (l : List Nat) (s : State) : Option Nat :=
  l.foldl (fun a b => match a with
    | none => some b
    | some c => if berthDist2 b s < berthDist2 c s then some b else a) none

/-- Berths within whose zone the estimate lies. -/
def berthsNear (s : State) : List Nat :=
  (List.range s.cfg.image.berths.length).filter fun b =>
    let r := (s.cfg.image.berths.getD b {}).radius
    s.mir.est.est.north.isSome && s.mir.est.est.east.isSome && decide (berthDist2 b s ≤ r * r)

/-- The berth in force. -/
def berthInForce (s : State) : Option Nat :=
  if s.mir.mode.func = some .berthPush then some s.mir.mode.berth
  else if s.mir.trv.contact then nearestBerth (List.range s.cfg.image.berths.length) s
  else nearestBerth (berthsNear s) s

/-! ## The safety functions (R339 to R344) -/

/-- Safety functions act on a thrust unit: ACTIVE, and its feedback does not report LOCAL. -/
def safetyActs (j : Nat) (s : State) : Bool :=
  s.mir.mode.pairMode == .active && (match (unitState j s).feedback with
    | some f => !f.loc
    | none => true)

/-- Safely Limited Thrust exceeds for unit j (R340). -/
def sltExceeds (j : Nat) (s : State) : Bool :=
  match (unitDecl j s).slt with
  | none => false
  | some lim =>
    let u := unitState j s
    safetyActs j s && (decide (40 ≤ u.fbMissing) || (match u.feedback.bind (·.thrust) with
      | some t => decide (lim < t.natAbs)
      | none => false))

/-- An azimuth lies in the sector that runs clockwise from `lo` to `hi`. -/
def inSector (az lo hi : Int) : Bool := decide ((az - lo) % 3373259426 ≤ (hi - lo) % 3373259426)

/-- Safe Thrust Sector exceeds for unit j (R341). -/
def stsExceeds (j : Nat) (s : State) : Bool :=
  match s.mir.trv.berth.bind fun b => ((s.cfg.image.berths.getD b {}).sectors[j]?).join, (unitState j s).feedback with
  | some sec, some f =>
    let d := unitDecl j s
    safetyActs j s && (match f.thrust with
      | none => false
      | some t =>
        decide (s.cfg.image.stsMin * d.rated < 1000 * t.natAbs) &&
          (match d.kind with
            | .azimuth => (match f.azimuth with
              | some a => !inSector a sec.lo sec.hi
              | none => false)
            | .tunnel => if sec.positive then decide (t < 0) else decide (0 < t)
            | .rudder => false))
  | _, _ => false

/-- A velocity source of R216 exists in the epoch. -/
def velocityExists (s : State) : Bool := s.mir.wsk.velHeld == 0 && s.mir.wsk.velU.isSome && s.mir.wsk.velV.isSome

/-- u² + v². -/
def speed2 (s : State) : Int :=
  let u := s.mir.wsk.velU.getD 0
  let v := s.mir.wsk.velV.getD 0
  u * u + v * v

/-- Safely Limited Speed exceeds (R342). -/
def slsExceeds (s : State) : Bool :=
  s.mir.mode.pairMode == .active && velocityExists s &&
    (match s.mir.trv.berth.bind fun b => (s.cfg.image.berths.getD b {}).speed with
      | some lim => decide (lim * lim < speed2 s)
      | none => false)

/-- The delivered thrust along the velocity direction, times the speed and 2³⁰ (R342). -/
def thrustAlong (j : Nat) (f : Feedback) (s : State) : Int :=
  let t := f.thrust.getD 0
  let u := s.mir.wsk.velU.getD 0
  let v := s.mir.wsk.velV.getD 0
  match (unitDecl j s).kind with
  | .azimuth => let a := f.azimuth.getD 0; t * (cosine a * u + sine a * v)
  | .rudder => t * u * 2 ^ 30
  | .tunnel => t * v * 2 ^ 30

/-- A Safely Limited Speed trip latches for unit j. -/
def slsQualifies (j : Nat) (s : State) : Bool :=
  safetyActs j s && (match (unitState j s).feedback with
    | some f => decide (s.cfg.image.slsMin * (unitDecl j s).rated * sqrtRound (speed2 s).toNat * 2 ^ 30 < 1000 * thrustAlong j f s)
    | none => false)

/-- A trip is latched on a channel. -/
def SafeChannel.latched (c : SafeChannel) : Bool := c.slt || c.sts || c.sls || c.estop

/-- The permit of channel k (R334). -/
def permitOf (k : Nat) (c : SafeChannel) (s : State) : Bool :=
  (s.mir.mode.pairMode == .standby || s.mir.mode.pairMode == .active) && !c.latched &&
    !(List.range 16).any fun p => estopMapped p k s && (s.mir.trv.pairs.getD p {}).safe

/-- The permits follow the latches and the inputs. -/
def updatePermits (s : State) : State :=
  modTrv (fun t => { t with channels := mapAt t.channels fun k c => { c with permit := permitOf k c s } }) s

/-- The runs of the safety functions after this epoch (R340 to R344, R348). -/
def safetyFunctions (s : State) : State :=
  let s := modTrv (fun t => { t with berth := berthInForce s
                                     speed := if velocityExists s then rangeS (sqrtRound (speed2 s).toNat) else none }) s
  let sls := slsExceeds s
  let blind := s.mir.mode.pairMode == .active && s.mir.trv.berth.isSome && !velocityExists s
  let s := modTrv (fun t => { t with
    slsRun := if sls then t.slsRun + 1 else 0, slsTripped := t.slsTripped && sls
    blindRun := if blind then t.blindRun + 1 else 0
    blind := t.blind && blind
    channels := mapAt t.channels fun k c =>
      match channelUnit k s with
      | some j =>
        let a := sltExceeds j s
        let b := stsExceeds j s
        { c with sltRun := if a then c.sltRun + 1 else 0, stsRun := if b then c.stsRun + 1 else 0
                 run := if a || b || sls then bump 16 c.run else 0 }
      | none => { c with sltRun := 0, stsRun := 0, run := 0 } }) s
  updatePermits s

/-! ## Trips (R344) -/

/-- The safety tolerance of SLT for a channel's unit. -/
def sltTolerance (k : Nat) (s : State) : Nat := ((channelUnit k s).map fun j => (unitDecl j s).sltTol).getD 40

/-! ## Switching (R334, R337, R338) -/

/-- The wiring check may hold channel k on (R338). -/
def wirechkHolds (k : Nat) (s : State) : Bool :=
  let c := channelLocal k s
  c.wirechk && s.um.mode == .maintenance && decide (c.wirechkEpochs < 20000) &&
    !(match channelUnit k s with
      | some j => unitReady j s
      | none => false)

/-- Channel k is to be on. -/
def channelOn (k : Nat) (s : State) : Bool :=
  let c := channelLocal k s
  !c.failed && !s.trv.pwrLow &&
    (((s.um.mode == .standby || s.um.mode == .active) && (safeChannel k s).permit) || wirechkHolds k s)

/-- At E+350 µs each channel is switched on or off; a change cancels the epoch's test pulse (R334, R335). -/
def execSafeOutputSwitch (s : State) : Host.Outcome State Fault Refusal :=
  .next (if timerRuns s then
      { s with trv := { s.trv with channels := mapAt s.trv.channels fun k c =>
          let on := channelOn k s
          let hold := wirechkHolds k s
          { c with hs := on, ls := on, pulse := none, changed := on != (c.hs && c.ls)
                   wirechk := hold, wirechkEpochs := if hold then c.wirechkEpochs + 1 else 0 } } }
    else s)

/-- A channel's test finds a fault: both switches off, marked failed, EV_116 with channel and code (R337). -/
def failChannel (k code : Nat) (s : State) : State :=
  let c := channelLocal k s
  let s := modChannel k (fun c => { c with hs := false, ls := false, pulse := none, failed := true, fault := code, wirechk := false }) s
  if c.failed && c.fault == code then s else raiseWith 116 k code 0 s

/-- A wiring-check channel switches off: its unit ready, 20 000 epochs, or MAINTENANCE left (R338). -/
def execWirechkTimeout (k : Nat) (s : State) : Host.Outcome State Fault Refusal :=
  .next (if (channelLocal k s).wirechk ∧ ¬ wirechkHolds k s then
      modChannel k (fun c => { c with wirechk := false, wirechkEpochs := 0, hs := false, ls := false }) s
    else s)

/-- PWR_OUT below 17.0 V or above 33.0 V, each ± 0.3 V: every channel off, LOW set (R337, R452). Volts in uQ8.8. -/
def execPwrOutOutOfRange (volts : Nat) (s : State) : Host.Outcome State Fault Refusal :=
  .next (if timerRuns s ∧ (volts ≤ 4428 ∨ 8372 ≤ volts) then
      raise 26 { s with trv := { s.trv with volts, pwrLow := true, pwrRun := 0
                                            channels := s.trv.channels.map fun c => { c with hs := false, ls := false, pulse := none } } }
    else s)

/-- PWR_OUT is in the range in which LOW clears: above 17.5 V and below 32.5 V, each ± 0.3 V (R452). -/
def pwrInRange (volts : Nat) : Bool := decide (4404 ≤ volts) && decide (volts ≤ 8396)

/-- After 20 epochs in range LOW clears, and the channels switch on at the next E+350 µs (R337). -/
def execPwrOutRestored (volts : Nat) (s : State) : Host.Outcome State Fault Refusal :=
  .next (if timerRuns s ∧ pwrInRange volts ∧ 20 ≤ s.trv.pwrRun then
      clearEvent 26 { s with trv := { s.trv with volts, pwrLow := false } }
    else s)

/-! ## Output tests (R335, R336) -/

/-- Both switches are commanded off. -/
def ChannelLocal.off (c : ChannelLocal) : Bool := !c.hs && !c.ls

/-- The channel pulsed in an epoch: N mod 2000 = 250k + `at`. -/
def pulseChannel (n offset : Nat) : Option Nat :=
  let r := (n + 2000 - offset) % 2000
  if r % 250 = 0 then some (r / 250) else none

/-- The native test pulse at E+400 µs: HS alone, or LS alone 125 epochs later, of a channel held off (R335). -/
def execOutputTestPulse (sw : Switch) (s : State) : Host.Outcome State Fault Refusal :=
  .next (if timerRuns s then
      match pulseChannel s.ex.epoch (if sw = .hs then 0 else 125) with
      | some k =>
        let c := channelLocal k s
        if c.off ∧ ¬ c.changed ∧ c.pulse.isNone then
          modChannel k (fun c => { c with pulse := some (sw, false), hs := sw == .hs, ls := sw == .ls }) s
        else s
      | none => s
    else s)

/-- The native test pulse ends at E+100 µs of the following epoch (R335). -/
def execTestPulseEnd (s : State) : Host.Outcome State Fault Refusal :=
  .next { s with trv := { s.trv with channels := s.trv.channels.map fun c =>
      match c.pulse with
      | some (_, false) => { c with pulse := none, hs := false, ls := false }
      | _ => c } }

/-- The sense node of the pulsed switch is judged 150 µs after the pulse began: H high, or L low; a pass is the channel's
off-state test (R335). -/
def execPulseSenseCheck (k : Nat) (level : Bool) (s : State) : Host.Outcome State Fault Refusal :=
  .next (match (channelLocal k s).pulse with
    | some (.hs, false) =>
      if level then modChannel k (fun c => { c with testAge := 0, overdue := false }) s else failChannel k 2 s
    | some (.ls, false) =>
      if level then failChannel k 4 s else modChannel k (fun c => { c with testAge := 0, overdue := false }) s
    | _ => s)

/-- Fault of a channel by its sense nodes at E+450 µs. -/
def senseFault (c : ChannelLocal) (h l : Bool) : Option Nat :=
  if c.pulse.isSome then none
  else if c.hs && c.ls then (if !h then some 2 else if l then some 4 else none)
  else if c.off then (if h then some 1 else if !l then some 3 else none)
  else none

/-- At E+450 µs the sense nodes of every channel are read and checked on the state held since E+350 µs (R335);
a channel under a pulse is judged by its pulse's own check (log 147). -/
def execSenseNodeCheck (h l : Nat) (s : State) : Host.Outcome State Fault Refusal :=
  .next (if timerRuns s then
      let s := { s with trv := { s.trv with channels := mapAt s.trv.channels fun k c =>
        { c with h := h.testBit k, l := l.testBit k } } }
      (List.range 8).foldl (fun s k =>
        match senseFault (channelLocal k s) (h.testBit k) (l.testBit k) with
        | some f => failChannel k f s
        | none => s) s
    else s)

/-- The off-pulse test at E+400 µs of a declared channel that is on; unit B 1000 epochs after unit A (R336). -/
def execOffPulseTest (s : State) : Host.Outcome State Fault Refusal :=
  .next (if timerRuns s then
      let off := if s.um.unit = .a then 0 else 1000
      match pulseChannel s.ex.epoch off with
      | some k =>
        let c := channelLocal k s
        let even := ((s.ex.epoch + 4000 - off) / 2000) % 2 == 0
        if c.hs ∧ c.ls ∧ s.cfg.image.offPulse.contains k ∧ ¬ c.changed then
          modChannel k (fun c => { c with pulse := some (if even then .hs else .ls, true), hs := !even, ls := even }) s
        else s
      | none => s
    else s)

/-- The switch is turned back on; a level not reached within its time is fault 0x1 or 0x3 (R336). -/
def execOffPulseEnd (reached : Bool) (s : State) : Host.Outcome State Fault Refusal :=
  .next ((List.range 8).foldl (fun s k =>
    match (channelLocal k s).pulse with
    | some (sw, true) =>
      if reached then modChannel k (fun c => { c with pulse := none, hs := true, ls := true }) s
      else failChannel k (if sw = .hs then 1 else 3) s
    | _ => s) s)

/-- Switch current above 2 A, in any state of the channel (R335, R462). -/
def execOutputOvercurrent (k : Nat) (s : State) : Host.Outcome State Fault Refusal :=
  .next (if k < 8 then failChannel k 5 s else s)

/-- Whole hours since the last passed off-state test (R349): 7 200 000 epochs each. -/
def testHours (c : ChannelLocal) : Nat := min 0xFFFF (c.testAge / 7200000)

/-- No off-state test for the declared interval (R335). -/
def execOutputTestOverdue (k : Nat) (s : State) : Host.Outcome State Fault Refusal :=
  .next (if k < 8 ∧ s.cfg.image.testInterval ≤ testHours (channelLocal k s) then
      modChannel k (fun c => { c with overdue := true }) s
    else s)

end Sys2Proof.Machine
end

