-- ==== Sys2Proof/Machine/Intake.lean ====
section
/-! DEFINITION. What the committed records of the field buses and the drives carry (R279, R280, R290 to R293), and their rows. -/

namespace Sys2Proof.Machine

def modAlc (f : Allocation → Allocation) (s : State) : State := { s with mir := { s.mir with alc := f s.mir.alc } }
def modMpc (f : PlanState → PlanState) (s : State) : State := { s with mir := { s.mir with mpc := f s.mir.mpc } }
def modMode (f : ModeState → ModeState) (s : State) : State := { s with mir := { s.mir with mode := f s.mir.mode } }
def modFld (f : FieldMirror → FieldMirror) (s : State) : State := { s with mir := { s.mir with fld := f s.mir.fld } }

/-! ## Field data of the committed set -/

/-- The 48 octets of feedback in a record of unit j. -/
def feedbackPayload (j : Nat) (r : InRecord) (s : State) : List Byte :=
  if (unitDecl j s).canMessage.isSome then canData r.payload else r.payload

/-- The feedback differs from the modelled thrust or azimuth by more than the tolerance (R179). The modelled thrust is a magnitude, and
the magnitude of the fed-back thrust is compared with it: its sign is no discrepancy (log 118). -/
def discrepant (j : Nat) (f : Feedback) (s : State) : Bool :=
  let d := unitDecl j s
  let p := (unitState j s).prev
  let thrust := match f.thrust, p.thrust with
    | some t, some q => decide (d.thrustTol * d.rated < 1000 * ((t.natAbs : Int) - q.natAbs).natAbs)
    | _, _ => false
  let az := d.kind == .azimuth && (match f.azimuth, s.mir.abm.az.getD j none with
    | some a, some m => decide (d.azTol < angleDist a m)
    | _, _ => false)
  thrust || az

/-- Runs without feedback that are told apart: they hold at 255, as the register AGE does (R283). -/
def missingLimit : Nat := 255

/-- The committed feedback of unit j (R280), with the runs of causes 0x2 and 0x3 (R179). -/
def takeFeedback (s : State) (j : Nat) : State :=
  match chosenRecord (fun r => (feedbackOf (feedbackPayload j r s)).unit == j) (unitDecl j s).source s with
  | some r =>
    let f := feedbackOf (feedbackPayload j r s)
    let bad := discrepant j f s
    modUnit j (fun u => { u with feedback := some f, feedbackTov := r.tov, fbMissing := 0, fbSince := true
                                 discRun := if bad then u.discRun + 1 else 0 }) s
  | none => modUnit j (fun u => { u with fbMissing := min missingLimit (u.fbMissing + 1) }) s

/-- Sources declared for received CAN messages whose data has TYPE `t`, with the newest such record of each (R38). -/
def canNewest (t : Nat) (s : State) : List (List Byte) :=
  ((s.cfg.image.canSources.map (·.source)).eraseDups.filterMap fun n =>
    chosenRecord (fun r => octets (canData r.payload) 0 1 == t) n s).map fun r => canData r.payload

/-- A section limit is stale after 400 epochs without a report, and before the first (R178). -/
def sectionStale (x : SectionState) : Bool := x.reported.isNone || decide (400 < x.age)

/-- Number of declared bus sections. -/
def sectionCount (s : State) : Nat := min 8 s.cfg.image.secLimits.length

/-- Section reports (R290, R178). -/
def takeSections (s : State) : State :=
  let reps := (canNewest 0x21 s).map sectionOf
  let take (k : Nat) (x : SectionState) : SectionState :=
    match reps.find? fun r => r.sec == k + 1 with
    | some r => { x with lost := r.lost, reported := some r.limit, nonDp := r.nonDp, age := 0 }
    | none => { x with age := bump 16 x.age }
  let s := modAlc (fun a => { a with sections := mapAt a.sections take }) s
  let stale : Bool := (List.range (sectionCount s)).any (fun k => sectionStale (s.mir.alc.sections.getD k {}))
  if stale then s else clearEvent 110 s

/-- The plant report (R291): last valid values stand. -/
def takePlant (s : State) : State :=
  match (canNewest 0x22 s).head? with
  | some b =>
    let p := plantOf b
    let s := modFld (fun f => { f with plantTies := p.ties, plantRooms := p.rooms, plantSeen := true, plantAge := 0
                                       plantStale := false }) s
    let keep (r : Nat) (old : Q) : Q :=
      if p.rooms.testBit r then (match p.soc.getD r none with
        | some v => some v
        | none => old) else old
    modMpc (fun m => { m with soc := mapAt m.soc keep }) s
  | none => modFld (fun f => { f with plantAge := bump 16 f.plantAge }) s

/-- A panel is valid: VALID set in a message at most 40 epochs old (R292). -/
def panelValid (k : Nat) (s : State) : Bool :=
  let p := s.mir.fld.panels.getD k {}
  decide (k < s.cfg.image.panels) && p.valid && decide (p.age ≤ 40)

/-- The functions that use the joystick. -/
def usesJoystick (f : Option Func) : Bool := f == some .joystick || f == some .autoHeading

/-- Panel messages and the panel in command (R292). -/
def takePanels (s : State) : State :=
  let reps := (canNewest 0x31 s).map panelOf
  let take (k : Nat) (x : PanelState) : PanelState :=
    match reps.find? fun r => r.1 == k with
    | some r => r.2
    | none => { x with age := bump 16 x.age }
  let s := modFld (fun f => { f with panels := mapAt f.panels take }) s
  modFld (fun f => { f with command := (List.range 4).find? fun k => panelValid k s && (f.panels.getD k {}).inCommand }) s

/-- EV_053: no panel in command while a function uses the joystick (R292). -/
def joystickEvent (s : State) : State := condition 53 (usesJoystick s.mir.mode.func && s.mir.fld.command.isNone) s

/-- Everything that the committed records of the field buses and the drives carry. -/
def fieldIntake (s : State) : State :=
  takePanels (takePlant (takeSections ((unitIds s).foldl takeFeedback s)))

/-- A section limit not refreshed within 400 epochs: EV_110 (R178). -/
def execSectionLimitStale (sec : Nat) (s : State) : Host.Outcome State Fault Refusal :=
  .next (if 1 ≤ sec ∧ sec ≤ sectionCount s ∧ commits s.um.mode ∧ sectionStale (s.mir.alc.sections.getD (sec - 1) {}) then
      raiseAt 110 sec s
    else s)

/-- A plant report older than 400 epochs is stale; its last values stay in use (R291). -/
def execPlantReportStale (s : State) : Host.Outcome State Fault Refusal :=
  .next (if 400 < s.mir.fld.plantAge ∨ ¬ s.mir.fld.plantSeen then modFld (fun f => { f with plantStale := true }) s else s)

/-- A panel whose latest message is older than 40 epochs is no longer valid (R292). -/
def execJoystickPanelTimeout (k : Nat) (s : State) : Host.Outcome State Fault Refusal :=
  .next (if 40 < (s.mir.fld.panels.getD k {}).age then
      let s := modFld (fun f => { f with panels := modAt f.panels k fun p => { p with valid := false }
                                         command := if f.command = some k then none else f.command }) s
      joystickEvent s
    else s)

end Sys2Proof.Machine
end

