-- ==== Sys2Proof/Machine/Function.lean ====
section
/-! DEFINITION. The control function: its selection and forced changes, the contact joint's targets and push demand, and the track
(R80 to R82, R185, R187, R188). -/

namespace Sys2Proof.Machine

/-! ## Function changes (R80 to R82, R185, R187, R188) -/

/-- The estimate in use at E+80 µs: what the last step propagated to the cut-off, before this epoch's update. -/
def estimateNow (s : State) : Estimate :=
  match s.mir.est.next with
  | some p => p.1
  | none => s.mir.est.est

/-- A target register takes a value that exists. -/
def targetWord (q : Q) (old : Word) : Word :=
  match q with
  | some v => wordS (some v)
  | none => old

/-- The targets take the estimate in use at E+80 µs (R185, R188). -/
def captureEstimate (s : State) : State :=
  let e := estimateNow s
  modMpc (fun m => { m with targetN := targetWord e.north m.targetN, targetE := targetWord e.east m.targetE
                            targetHdg := targetWord e.hdg m.targetHdg }) s

/-- The targets take Whisk's fused position and heading where they exist (R185). -/
def captureFused (s : State) : State :=
  if s.mir.mpc.captureDue then
    let w := s.mir.wsk
    modMpc (fun m => { m with targetN := targetWord w.north m.targetN, targetE := targetWord w.east m.targetE
                              targetHdg := targetWord w.heading m.targetHdg, captureDue := false }) s
  else s

/-- A function takes effect: MOD_FUNC and its epoch (R400). EV_126 ends with the function that it accompanied. -/
def setFunction (f : Option Func) (berth : Nat) (forced : Bool) (s : State) : State :=
  let s := modMode (fun m => { m with func := f, berth := if f = some .berthPush then berth else 0, forced
                                      funcEpoch := s.ex.epoch }) s
  let s := modMpc (fun m => { m with leg := 0, legEpochs := 0 }) s
  let s := if f = some .berthPush then s else modAlc (fun a => { a with push := 0 }) s
  clearEvent 126 s

/-- A function takes effect by selection, with its targets (R185, R187). -/
def selectFunction (f : Func) (berth : Nat) (s : State) : State :=
  let s := setFunction (some f) berth false s
  match f with
  | .autoPosition => captureEstimate s
  | .autoHeading => if s.mir.est.updatedSince then captureEstimate s else modMpc (fun m => { m with captureDue := true }) s
  | .autoTrack =>
    let w0 := s.mir.mpc.waypoints.getD 0 {}
    let w1 := s.mir.mpc.waypoints.getD 1 {}
    modMpc (fun m => { m with leg := 1, trackN := (wordQ w0.north).getD 0, trackE := (wordQ w0.east).getD 0
                              trackHdg := (wordQ w1.hdg).getD 0 }) s
  | _ => s

/-- A forced change of function (R81): EV_125. -/
def forceFunction (f : Func) (s : State) : State := raise 125 (setFunction (some f) 0 true s)

/-- Some alarm is ACTIVE (R81): of the mirrored state, and, where the unit is not mirrored, of its own (log 162). -/
def alarmActive (s : State) : Bool :=
  let alarm (e : Nat) : Bool := (attrOf e).sev == .alarm
  s.mir.evt.active.any alarm || (!isMirrored s && s.evt.active.any alarm)

/-- Every thrust unit at zero thrust, its azimuth held (R81, R143). -/
def zeroSetPoint (u : ThrustUnit) (p : SetPoint) : SetPoint :=
  { p with thrust := some 0, power := some 0, pitch := some 0, rpm := some u.idleRpm, azimuth := some (p.azimuth.getD 0) }


/-- Position grade 0 for longer than the dead-reckoning limit (R82): AUTO-HEADING with joystick request, EV_125 and EV_126. -/
def limitDeadReckoning (s : State) : State :=
  let a := s.mir.wsk.pos
  if s.cfg.image.tuning.drLimit < a.zeroRun then
    let s := { s with mir := { s.mir with wsk := { s.mir.wsk with pos := { a with lost := true } } } }
    if s.mir.mode.func = some .autoPosition ∨ s.mir.mode.func = some .autoTrack then raise 126 (forceFunction .autoHeading s) else s
  else s

/-- Heading grade 0 for the heading limit (R213): HDG_LOST, EV_091, and AUTO-HEADING gives way to JOYSTICK (R81). -/
def loseHeading (s : State) : State :=
  let a := s.mir.wsk.hdg
  if s.cfg.image.tuning.hdgLimit ≤ a.zeroRun ∧ 0 < a.zeroRun then
    let s := raise 91 { s with mir := { s.mir with wsk := { s.mir.wsk with hdg := { a with lost := true } } } }
    if s.mir.mode.func = some .autoHeading then forceFunction .joystick s else s
  else s

/-- Take-over; an alarm or lost contact in THRUSTER-TEST, after which every set-point of the epoch is zero (R81). -/
def forceJoystick (s : State) : State :=
  match s.mir.mode.func with
  | none => s
  | some f =>
    if f = .thrusterTest ∧ (alarmActive s ∨ ¬ s.mir.trv.contact) then
      modAlc (fun a => { a with zeroDue := true }) (forceFunction .joystick s)
    else if s.mir.trv.takeover && f != .joystick then forceFunction .joystick s
    else s

/-- The forced changes of R81, decided in fast work before the epoch's commands are validated. -/
def forcedChanges (s : State) : State := forceJoystick (loseHeading (limitDeadReckoning s))

/-- Position grade 0 beyond the limit (R82): fast work has it so in the same epoch. -/
def execDeadReckoningLimit (s : State) : Host.Outcome State Fault Refusal := .next (limitDeadReckoning s)

/-- Heading grade 0 for the heading limit (R213): fast work has it so in the same epoch. -/
def execHeadingLost (s : State) : Host.Outcome State Fault Refusal := .next (loseHeading s)

/-! ## BERTH-PUSH (R167, R188) -/

/-- Engagement and loss of the contact joint: targets, push demand, EV_108 (R188). -/
def berthContact (s : State) : State :=
  if s.mir.mode.func = some .berthPush then
    let now := jointEngaged s
    let was := s.mir.abm.contact
    if now && !was then modAlc (fun a => { a with push := 0 }) (captureEstimate s)
    else if !now && was then raiseAt 108 s.mir.mode.berth (modAlc (fun a => { a with push := 0 }) (captureEstimate s))
    else s
  else s

/-- The push demand ramps at the push rate (R188); codes of sQ23.8 times 1000. -/
def rampPush (s : State) : State :=
  let s := condition 109 (s.mir.mode.func == some .berthPush && s.mir.abm.compLimit) s
  if jointEngaged s then
    let rate := s.cfg.image.tuning.pushRate
    let set := (wordQ s.mir.alc.pushForce).getD 0
    let goal := 1000 * (match berthDecl s.mir.mode.berth s with
      | some b => min set b.maxPush
      | none => set)
    modAlc (fun a => { a with push :=
      if s.mir.abm.compLimit then max 0 (a.push - rate)
      else if a.push < goal then min goal (a.push + rate) else max goal (a.push - rate) }) s
  else modAlc (fun a => { a with push := 0 }) s

/-! ## AUTO-TRACK (R187) -/

/-- The target moves along the straight leg at the speed of the leg's end, and stops at the last waypoint. In the epoch that reaches a
waypoint the target stands at it: what it would have travelled past it is not carried into the next leg (log 120). -/
def advanceTrack (s : State) : State :=
  if s.mir.mode.func = some .autoTrack then
    let m := s.mir.mpc
    let a := m.waypoints.getD (m.leg - 1) {}
    let b := m.waypoints.getD m.leg {}
    let n0 := (wordQ a.north).getD 0
    let e0 := (wordQ a.east).getD 0
    let n1 := (wordQ b.north).getD 0
    let e1 := (wordQ b.east).getD 0
    let d2 := dist2 n1 e1 n0 e0
    let k := m.legEpochs + 1
    let travelled : Int := ((wordQ b.spd).getD 0).natAbs * k
    let hdg := (wordQ b.hdg).getD 0
    if d2 * (1024000 * 1024000) ≤ travelled * travelled then
      let last := decide (m.count ≤ m.leg + 1)
      modMpc (fun m => { m with trackN := n1, trackE := e1, trackHdg := hdg
                                leg := if last then m.leg else m.leg + 1, legEpochs := if last then m.legEpochs else 0 }) s
    else
      let len : Int := 1024000 * sqrtRound d2.toNat
      modMpc (fun m => { m with trackN := n0 + nearestQuot ((n1 - n0) * travelled) len
                                trackE := e0 + nearestQuot ((e1 - e0) * travelled) len, trackHdg := hdg, legEpochs := k }) s
  else s

end Sys2Proof.Machine
end

