-- ==== Sys2Proof/Machine/Demand.lean ====
section
/-! DEFINITION. The demand (R170 to R172, R188): each component is one sum in a 64-bit accumulator of 24 fraction bits, narrowed once
(R8, R9, R121, log 110). -/

namespace Sys2Proof.Machine

/-! ## The plan in force (R170, R181) -/

/-- Stage in force and epochs into it; the final stage is repeated beyond stage 239 (R181). -/
def stageInForce (p : Plan) (n : Nat) : Nat × Nat :=
  let d := n - p.basis - 100
  if 240 ≤ d / 500 then (239, 0) else (d / 500, if d / 500 = 239 then 0 else d % 500)

/-- The stage in force lies beyond stage 239 (R181, R195). -/
def beyondPlan (p : Plan) (n : Nat) : Bool := decide (240 ≤ (n - p.basis - 100) / 500)

/-- 500 times a reference, interpolated linearly between two stages (R170). -/
def lerp (a b : Q) (f : Nat) : Q := a.bind fun x => b.map fun y => x * (500 - f) + y * f

/-- 500 times a heading, interpolated the short way. -/
def lerpAngle (a b : Q) (f : Nat) : Q := a.bind fun x => b.map fun y => 500 * x + wrapAngle (y - x) * f

/-- 500 times an angle difference, brought into ±π. -/
def wrap500 (a : Int) : Int :=
  let m := a % (500 * fullTurn)
  if m ≤ 500 * halfTurn then m else m - 500 * fullTurn

/-- 500 times the difference of a reference, already scaled, and a value. -/
def errorOf (ref value : Q) : Q := ref.bind fun x => value.map fun y => x - 500 * y

/-- The errors of R170 times 500: north, east, heading, surge, sway, yaw rate. -/
structure Errors where
  n : Q := some 0
  e : Q := some 0
  h : Q := some 0
  u : Q := some 0
  v : Q := some 0
  r : Q := some 0
deriving DecidableEq, Repr, Inhabited

/-- Heading and yaw rate that the feedback terms use before the first successful update (R171). -/
def earlyHeading (s : State) : Q :=
  match s.mir.wsk.heading with
  | some v => some v
  | none => s.mir.est.est.hdg

/-- The errors against the plan's references; before the first successful update those of R171's list. -/
def planErrors (p : Plan) (s : State) : Errors :=
  let k := stageInForce p s.ex.epoch
  let a := p.stages.getD k.1 {}
  let b := p.stages.getD (min 239 (k.1 + 1)) a
  let f := k.2
  let e := s.mir.est.est
  let href := lerpAngle a.hdg b.hdg f
  if s.mir.est.updatedSince then
    { n := errorOf (lerp a.north b.north f) e.north, e := errorOf (lerp a.east b.east f) e.east
      h := (errorOf href e.hdg).map wrap500, u := errorOf (lerp a.u b.u f) e.u
      v := errorOf (lerp a.v b.v f) e.v, r := errorOf (lerp a.r b.r f) e.r }
  else
    { h := (errorOf href (earlyHeading s)).map wrap500, r := errorOf (lerp a.r b.r f) s.mir.wsk.motion.r }

/-- The errors of AUTO-HEADING while no plan is in force: MPC_TARGET_HDG at rest. -/
def headingErrors (s : State) : Errors :=
  let e := s.mir.est
  let h := if e.updatedSince then e.est.hdg else earlyHeading s
  let r := if e.updatedSince then e.est.r else s.mir.wsk.motion.r
  { h := (errorOf ((wordQ s.mir.mpc.targetHdg).map (500 * ·)) h).map wrap500, r := errorOf (some 0) r }

/-! ## Sums -/


/-- A multiple of a value. -/
def times (k : Int) (q : Q) : Q := q.map (k * ·)

/-- One code of a force, and of a moment, in the units of the feedback terms. -/
def forceUnit : Int := 500 * 2 ^ 50
def momentUnit : Int := 500 * 2 ^ 41

/-- A force demand, and a moment demand, from its terms. -/
def forceSum (terms : List Q) : Q := demandSum (500 * 2 ^ 34) (500 * 2 ^ 50) terms
def momentSum (terms : List Q) : Q := demandSum (500 * 2 ^ 21) (500 * 2 ^ 41) terms

/-- The feedback terms of R170, the position error rotated into body axes by the estimated heading: surge, sway, yaw. -/
def feedbackTerms (x : Errors) (s : State) : List Q × List Q × List Q :=
  let t := s.cfg.image.tuning
  let psi := s.mir.est.est.hdg
  let c := (psi.map cosine)
  let n := (psi.map sine)
  let prod (k : Int) (a b : Q) : Q := a.bind fun x => if x = 0 then some 0 else b.map fun y => k * x * y
  let kp (i : Nat) := t.kp.getD i 0
  let kd (i : Nat) := t.kd.getD i 0
  ([prod (kp 0) x.n c, prod (kp 0) x.e n, times (kd 0 * 2 ^ 21) x.u],
   [prod (kp 1) x.e c, prod (-(kp 1)) x.n n, times (kd 1 * 2 ^ 21) x.v],
   [times (kp 2) x.h, times (kd 2 * 2 ^ 3) x.r])

/-- The demand of R170 by the plan in force, or the feedback terms alone, with the push demand's terms (R188). -/
def planDemand (push : Q × Q) (s : State) : Q × Q × Q :=
  match s.mir.mpc.plan with
  | some p =>
    let f := feedbackTerms (planErrors p s) s
    let a := p.stages.getD (stageInForce p s.ex.epoch).1 {}
    let w := s.mir.wsk
    let wp (i : Nat) := p.wind.getD i (some 0)
    (forceSum (times forceUnit a.tauX :: f.1 ++ [times (-forceUnit) w.windX, times forceUnit (wp 0), push.1]),
     forceSum (times forceUnit a.tauY :: f.2.1 ++ [times (-forceUnit) w.windY, times forceUnit (wp 1), push.2]),
     momentSum (times momentUnit a.tauN :: f.2.2 ++ [times (-momentUnit) w.windN, times momentUnit (wp 2)]))
  | none =>
    let f := feedbackTerms (headingErrors s) s
    (forceSum (f.1 ++ [push.1]), forceSum (f.2.1 ++ [push.2]), momentSum f.2.2)

/-- The joystick demand: deflection times full scale (R171); zero when no panel commands (R292). -/
def joystickDemand (s : State) : Q × Q × Q :=
  match s.mir.fld.command with
  | some k =>
    let p := s.mir.fld.panels.getD k {}
    let t := s.cfg.image.tuning
    let axis (q : Q) (full : Int) : Q := q.bind fun v => narrow 31 0 (v * full)
    (axis p.surge t.joyX, axis p.sway t.joyY, axis p.yaw t.joyN)
  | none => (some 0, some 0, some 0)

/-- The push demand in body axes, in the units of the feedback terms (R188). -/
def pushDemand (s : State) : Q × Q :=
  match berthDecl s.mir.mode.berth s with
  | some b =>
    let a := s.mir.est.est.hdg.map fun h => b.normal - h
    (a.map fun a => s.mir.alc.push * cosine a * 2 ^ 19, a.map fun a => s.mir.alc.push * sine a * 2 ^ 19)
  | none => (some 0, some 0)

/-- The generalised force of the drives' committed thrust feedback (R172): a drive that has committed none adds nothing. -/
def feedbackForce (s : State) : Q × Q × Q :=
  let l := (unitIds s).map fun j =>
    let d := unitDecl j s
    match (unitState j s).feedback with
    | some f => (d, driveForce d f.thrust f.azimuth)
    | none => (d, some (0, 0))
  (demandSum (2 ^ 14) (2 ^ 30) (l.map fun p => p.2.map (·.1)), demandSum (2 ^ 14) (2 ^ 30) (l.map fun p => p.2.map (·.2)),
   demandSum (2 ^ 26) (2 ^ 46) (l.map (fun p => p.2.map fun v => p.1.posX * v.2) ++ l.map fun p => p.2.map fun v => -(p.1.posY * v.1)))

/-- The demand of the epoch (R170 to R172). -/
def demandOf (s : State) : Q × Q × Q :=
  let none' : Q × Q := (some 0, some 0)
  match s.mir.mode.func with
  | none => feedbackForce s
  | some .joystick => joystickDemand s
  | some .autoHeading => ((joystickDemand s).1, (joystickDemand s).2.1, (planDemand none' s).2.2)
  | some .autoPosition | some .autoTrack => planDemand none' s
  | some .berthPush => planDemand (pushDemand s) s
  | some .thrusterTest => (some 0, some 0, some 0)

end Sys2Proof.Machine
end

