-- ==== Sys2Proof/Machine/Posing.lean ====
section
/-! DEFINITION. What Mortar forms for the problems of chapter 8: power limits, room shares and prices (R178), the constraints of each
thrust unit (R174), the balance and power rows (R175), the cost (R176), each under the name by which an assembly program reads it. -/

namespace Sys2Proof.Machine

/-! ## Power data (R178) -/

/-- Sum of the idle powers of the participating units on section k + 1. -/
def idleSum (k : Nat) (s : State) : Int :=
  ((unitIds s).filter fun j => !(unitState j s).excluded && (unitDecl j s).sect == k + 1).foldl
    (fun a j => a + (unitDecl j s).pIdle) 0

/-- The limits in use, L_s, and FLOOR (R178). A report whose LIMIT is NaN leaves the declared limit in use, and STALE reads 0 (log 117). -/
def sectionLimits (s : State) : State :=
  let use (k : Nat) (x : SectionState) : SectionState :=
    if k < sectionCount s then
      let lim : Int := if sectionStale x then s.cfg.image.secLimits.getD k 0
        else match x.reported with
          | some (some v) => v
          | _ => s.cfg.image.secLimits.getD k 0
      let idle := idleSum k s
      { x with limit := rangeU (max lim idle), floor := decide (lim < idle) }
    else { x with limit := none, power := none }
  modAlc (fun a => { a with sections := mapAt a.sections use }) s

/-- Sections joined to one of a set by closed ties, once. -/
def joinOnce (ties : List (Nat × Nat)) (l : List Nat) : List Nat :=
  ties.foldl (fun l t =>
    if l.contains t.1 then insertNat t.2 l else if l.contains t.2 then insertNat t.1 l else l) l

/-- Sections that a section reaches over closed ties (R178); at most 8 sections. -/
def reached (ties : List (Nat × Nat)) (sec : Nat) : List Nat :=
  (List.range 8).foldl (fun l _ => joinOnce ties l) [sec]

/-- The ties closed, by the last plant report; every tie before the first (R178), with one left out. -/
def closedTies (without : Option Nat) (s : State) : List (Nat × Nat) :=
  let f := s.mir.fld
  ((List.range s.cfg.image.ties.length).filter fun t =>
    (!f.plantSeen || f.plantTies.testBit t) && without != some t).filterMap fun t => s.cfg.image.ties[t]?

/-- A section is left with no room. -/
def noRoom (ties : List (Nat × Nat)) (sec : Nat) (s : State) : Bool :=
  !(s.cfg.image.rooms.any fun r => (reached ties sec).contains r.sect)

/-- What a case changes in the power system (R190): a room absent from the shares, a tie open. -/
structure PowerCase where
  room : Option Nat := none
  tie : Option Nat := none

/-- Share of room r in section k + 1 as it stands: zero for a room that is absent or cut off, the others scaled to sum to 1 (R178). -/
def shareOf (p : PowerCase) (k r : Nat) (s : State) : Rat :=
  let rooms := s.cfg.image.rooms
  let ties := closedTies p.tie s
  let feeds (i : Nat) : Bool := p.room != some i && (match rooms[i]? with
    | some x => (reached ties (k + 1)).contains x.sect
    | none => false)
  let declared (i : Nat) : Nat := if feeds i then ((s.cfg.image.shares.getD k []).getD i 0) else 0
  let sum := ((List.range rooms.length).map declared).foldl (· + ·) 0
  if sum = 0 then 0 else mkRat (declared r) sum

/-- A declared value as a fraction. -/
def fixedRat (f : Fixed) : Rat := mkRat f.value (2 ^ f.frac)

/-- The nearest code of a fraction with n fraction bits (R10). -/
def ratCode (n : Nat) (q : Rat) : Int := nearestQuot (q.num * 2 ^ n) q.den

/-- State of charge from which room r is taken, in per cent: the last valid one, S_target before the first (R178). -/
def roomCharge (r : Nat) (s : State) : Int := (s.mir.mpc.soc.getD r none).getD s.cfg.image.tuning.socTarget

/-- Energy price of room r (R178). -/
def roomPrice (r : Nat) (s : State) : Rat :=
  let t := s.cfg.image.tuning
  fixedRat t.wEnergy * (1 + fixedRat t.beta * mkRat (max 0 (t.socTarget - roomCharge r s)) t.socTarget.toNat)

/-- Energy price of section k + 1: the share-weighted mean of the prices of the rooms that feed it; w_E where every room is cut off. -/
def sectionPrice (p : PowerCase) (k : Nat) (s : State) : Rat :=
  let l := List.range s.cfg.image.rooms.length
  if l.all fun r => shareOf p k r s == 0 then fixedRat s.cfg.image.tuning.wEnergy
  else (l.map fun r => shareOf p k r s * roomPrice r s).foldl (· + ·) 0

/-! ## The unit mask -/

/-- The unit mask in force: every declared unit not excluded. -/
def maskInForce (s : State) : Nat := bitSet ((unitIds s).filter fun j => !(unitState j s).excluded)

/-! ## Constraints of a unit (R174) -/

/-- T_lim: the smallest of the rated thrust, the Safely Limited Thrust limit less its margin, and the limit that R188 states, the maximum push
of the berth named in BERTH-PUSH (log 126). -/
def thrustLimit (j : Nat) (s : State) : Int :=
  let d := unitDecl j s
  let t := match d.slt with
    | some l => min d.rated (l - s.cfg.image.sltMargin)
    | none => d.rated
  match if s.mir.mode.func = some .berthPush then berthDecl s.mir.mode.berth s else none with
  | some b => min t b.maxPush
  | none => t

/-- The previous thrust set-point: a declared unit's is never NaN (R274), which holds of every set-point that the model forms. -/
def prevThrust (j : Nat) (s : State) : Int := ((unitState j s).prev.thrust).getD 0

/-- What a rate per second allows in a time of 1 / `per` s. -/
def allowed (rate : Int) (per : Nat) : Int := roundDiv rate per

/-- Radius of the thrust circle over 1 / `per` s. -/
def circleRadius (per j : Nat) (s : State) : Int := min (thrustLimit j s) ((prevThrust j s).natAbs + allowed (unitDecl j s).upRate per)

/-- The thrust interval over 1 / `per` s: its ends. -/
def thrustInterval (per j : Nat) (s : State) : Int × Int :=
  let lim := thrustLimit j s
  let step := allowed (unitDecl j s).rate per
  (max (-lim) (prevThrust j s - step), min lim (prevThrust j s + step))

/-- Bound of the rudder force. -/
def rudderBound (j : Nat) (s : State) : Int :=
  max (roundDiv ((unitDecl j s).kappa * max (prevThrust j s) 0) 65536) (unitDecl j s).rudderMin

/-- A quarter turn in sQ2.29. -/
def quarterTurn : Int := 843314857

/-- Forbidden sectors of unit j: declared, and in BERTH-PUSH outside the berth's narrowed Safe Thrust Sector (R174). -/
def forbidden (j : Nat) (s : State) : List (Int × Int) :=
  let d := unitDecl j s
  let m := s.cfg.image.sectorMargin
  d.sectors ++ (if s.mir.mode.func = some .berthPush ∧ d.kind = .azimuth then
    match (berthDecl s.mir.mode.berth s).bind fun b => (b.sectors[j]?).join with
    | some q => [(q.hi - m, q.lo + m)]
    | none => []
  else [])

/-- The edge of a forbidden sector nearest an azimuth, within 90° of it. -/
def nearestEdge (az : Int) (l : List (Int × Int)) : Option Int :=
  ((l.map fun q => [q.1, q.2]).flatten.filter fun e => decide ((angleDist e az : Int) ≤ quarterTurn)).foldl (fun a e => match a with
    | none => some e
    | some o => if angleDist e az < angleDist o az then some e else some o) none

/-- Azimuth of the half-plane's normal: 90° from the nearest edge towards the azimuth θ, else θ itself. With θ on the edge itself, where
'towards' has no direction, it stands clockwise of the edge: DESIGN CHOICE (log 158). -/
def normalAzimuth (az : Int) (l : List (Int × Int)) : Int :=
  match nearestEdge az l with
  | some e => wrapAngle (if 0 ≤ wrapAngle (az - e) then e + quarterTurn else e - quarterTurn)
  | none => az

/-- Modelled azimuth θ_m of unit j: EST_POD_AZ_j. -/
def podAzimuth (j : Nat) (s : State) : Q := s.mir.abm.az.getD j none

/-- A unit vector at an azimuth, sQ1.30. -/
def unitVector (az : Q) : List Q := [az.map cosine, az.map sine]

/-- The segment of a curve that holds x: its rise and its run. On a point that two segments share it is the earlier one: DESIGN CHOICE
(log 158). -/
def segmentOf (x : Int) : List (Int × Int) → Option (Int × Int)
  | (x0, y0) :: (x1, y1) :: r => if x0 ≤ x ∧ x ≤ x1 ∧ x0 < x1 then some (y1 - y0, x1 - x0) else segmentOf x ((x1, y1) :: r)
  | _ => none

/-- The limits of unit j over 1 / `per` s: radius; half-plane normal; interval midpoint and half-width; rudder bound. -/
def limitInputs (per j : Nat) (s : State) : List (AsmName × AsmInput) :=
  let n := unitVector ((podAzimuth j s).map fun a => normalAzimuth a (forbidden j s))
  let iv := thrustInterval per j s
  match (unitDecl j s).kind with
  | .azimuth => inputs (.limit j) [8, 30, 30] (some (circleRadius per j s) :: n)
  | .tunnel => [input (.limit j 3) (some (iv.1 + iv.2)) 9, input (.limit j 4) (some (iv.2 - iv.1)) 9]
  | .rudder => [input (.limit j 3) (some (iv.1 + iv.2)) 9, input (.limit j 4) (some (iv.2 - iv.1)) 9,
                input (.limit j 5) (some (rudderBound j s)) 8]

/-- The power relation of unit j (R174). -/
def powerInputs (j : Nat) (s : State) : List (AsmName × AsmInput) :=
  let d := unitDecl j s
  let t : Int := (prevThrust j s).natAbs
  let seg := segmentOf t d.powerCurve
  inputs (.power j) [8, 8, 8, 30, 30, 8, 8]
    ([some (curveAt t d.powerCurve), seg.map (·.1), seg.map (·.2)] ++ unitVector (podAzimuth j s) ++ [some t, some d.pIdle]) ++
  [fixedInput (.power j 7) d.quadratic]

/-- The cost of unit j (R176): w_F, w_Δ, the previous force, and the price of its section. -/
def costInputs (p : PowerCase) (j : Nat) (s : State) : List (AsmName × AsmInput) :=
  let d := unitDecl j s
  let u := unitState j s
  let f := driveForce d u.prev.thrust u.prev.azimuth
  [fixedInput (.cost j 0) d.wForce, fixedInput (.cost j 1) d.wChange, formed (.cost j 2) (f.bind fun v => narrow 38 8 v.1) 8,
   formed (.cost j 3) (f.bind fun v => narrow 38 8 v.2) 8, input (.cost j 4) (some (ratCode 16 (sectionPrice p (d.sect - 1) s))) 16]

/-- Position of unit j, by which the balance forms its moment (R175). -/
def leverInputs (j : Nat) (s : State) : List (AsmName × AsmInput) :=
  inputs (.lever j) [12, 12] [some (unitDecl j s).posX, some (unitDecl j s).posY]

/-- Everything of unit j over 1 / `per` s. -/
def unitInputs (p : PowerCase) (per j : Nat) (s : State) : List (AsmName × AsmInput) :=
  limitInputs per j s ++ powerInputs j s ++ costInputs p j s ++ leverInputs j s

/-! ## The shared block (R175) -/

/-- ε of the balance rows: −ε_k stands on the dual diagonal of row k. -/
def epsilonInputs (s : State) : List (AsmName × AsmInput) := mapAt s.cfg.image.tuning.epsilon fun k f => fixedInput (.epsilon k) f

/-- Limit and non-DP load of every section, with a factor for each limit in uQ1.15. -/
def busInputs (factor : Nat → Nat) (s : State) : List (AsmName × AsmInput) :=
  ((List.range (sectionCount s)).map fun k =>
    let x := s.mir.alc.sections.getD k {}
    [formed (.bus (k + 1) 0) (x.limit.bind fun l => rangeU (roundDiv (l * factor k) 32768)) 8, input (.bus (k + 1) 1) x.nonDp 8]).flatten

/-- The whole factor 1. -/
def wholeLimit (_ : Nat) : Nat := 32768

/-- What allocation and its retry read (R110, R127, R173 to R176). -/
def allocationInputs (mask : Nat) (s : State) : List (AsmName × AsmInput) :=
  let a := s.mir.alc
  formedAll .demand [8, 8, 4] [a.demandX, a.demandY, a.demandN] ++ epsilonInputs s ++ busInputs wholeLimit s ++
    (((unitIds s).filter fun j => mask.testBit j).map fun j => unitInputs {} 2000 j s).flatten

end Sys2Proof.Machine
end

