-- ==== Sys2Proof/Machine/Alloc.lean ====
section
/-! DEFINITION. Thrust allocation: removal and rejoining of thrust units, set-points, the allocation instance with its retry and
fallback, and the safety trips (chapter 8; R127, R142, R143, R340 to R344). -/

namespace Sys2Proof.Machine

/-! ## Removal and rejoining (R179, R180) -/

/-- The causes present in the committed state: 0x1, 0x4 and 0x5 now, 0x2 and 0x3 while they last. -/
def causesOf (j : Nat) (s : State) : List Nat :=
  let d := unitDecl j s
  let u := unitState j s
  (if unitReady j s then [] else [1]) ++ (if u.present.contains 2 && decide (20 ≤ u.fbMissing) then [2] else []) ++
    (if u.discrepancy then [3] else []) ++
    (if d.channel.any (fun k => (safeChannel k s).latched) then [4] else []) ++
    (if (s.mir.alc.sections.getD (d.sect - 1) {}).lost then [5] else [])

/-- Lowest cause present. -/
def lowestCause (u : UnitState) : Nat := u.present.foldl (fun a c => if a = 0 then c else min a c) 0

/-- The causes present, and CAUSE: the lowest one, which stays while the unit is excluded and none is present (R179, R194). -/
def setCauses (l : List Nat) (u : UnitState) : UnitState :=
  { u with present := l, cause := if l.isEmpty then u.cause else lowestCause { u with present := l } }

/-- A unit meets a removal cause: it is excluded from the masks from N + 1, EV_102 with unit and cause. -/
def removeUnit (j c : Nat) (s : State) : State :=
  let u := unitState j s
  let s := modUnit j (fun u => { setCauses (insertNat c u.present) u with excluded := true, clear := 0 }) s
  if u.excluded then s else raiseWith 102 j c 0 s

/-- The epoch's causes of every declared unit, with the count towards rejoining. -/
def removalCauses (s : State) : State :=
  (unitIds s).foldl (fun s j =>
    let l := causesOf j s
    let u := unitState j s
    let s := modUnit j (fun u => { setCauses l u with clear := if u.excluded && l.isEmpty then bump 8 u.clear else 0 }) s
    match l with
    | [] => s
    | c :: _ => if u.excluded then s else removeUnit j c s) s

/-- No valid thrust feedback for 20 epochs: cause 0x2. -/
def execFeedbackTimeout (j : Nat) (s : State) : Host.Outcome State Fault Refusal :=
  .next (if declared j s ∧ 20 ≤ (unitState j s).fbMissing then removeUnit j 2 s else s)

/-- Feedback differing in each of 2000 epochs with a valid record: cause 0x3, until ALC_UNIT_ENABLE. -/
def execFeedbackDiscrepancy (j : Nat) (s : State) : Host.Outcome State Fault Refusal :=
  .next (if declared j s ∧ 2000 ≤ (unitState j s).discRun then
      removeUnit j 3 (modUnit j (fun u => { u with discrepancy := true }) s)
    else s)

/-- A unit without a cause for 20 consecutive epochs rejoins in the next (R180); so does one whose cause 0x3 ALC_UNIT_ENABLE has cleared
(log 119). -/
def execThrustUnitRejoin (j : Nat) (s : State) : Host.Outcome State Fault Refusal :=
  .next (if declared j s ∧ (unitState j s).excluded ∧ (unitState j s).present = [] ∧ 20 ≤ (unitState j s).clear then
      modUnit j (fun u => { u with excluded := false, clear := 0, cause := 0 }) s
    else s)

/-! ## Set-points (R174, R176, R189, R274) -/

/-- An azimuth kept out of the sectors: inside one it goes to the edge nearer the modelled azimuth. -/
def keepOut (from' az : Int) (l : List (Int × Int)) : Int :=
  l.foldl (fun az q =>
    if inSector az q.1 q.2 ∧ wrapAngle (az - q.1) ≠ 0 ∧ wrapAngle (az - q.2) ≠ 0 then
      (if angleDist from' q.1 ≤ angleDist from' q.2 then wrapAngle q.1 else wrapAngle q.2)
    else az) az

/-- The azimuth set-point: a wanted azimuth within the slew limits of the modelled one and outside the sectors. -/
def azimuthTo (j : Nat) (want : Int) (s : State) : Int :=
  let d := unitDecl j s
  let p := ((unitState j s).prev.azimuth).getD 0
  let m := (podAzimuth j s).getD p
  keepOut m (wrapAngle (m + limited (allowed d.slew 2000) (wrapAngle (want - m)))) (forbidden j s)

/-- A set-point from a signed thrust and an azimuth or rudder angle (R176); what lies outside its format is NaN (R9). -/
def formSetPoint (j : Nat) (t az : Int) (s : State) : SetPoint :=
  let d := unitDecl j s
  let m : Int := t.natAbs
  let sg (v : Int) : Int := if t < 0 then -v else v
  { (unitState j s).prev with
    thrust := rangeS t, power := rangeU (curveAt m d.powerCurve), pitch := rangeS (sg (curveAt m d.pitchCurve))
    rpm := rangeS (sg (curveAt m d.rpmCurve)), azimuth := some az }

/-- A thrust whose magnitude is clamped below at T_prev − Ṫ_down × 500 µs (R176). -/
def clampDown (j : Nat) (t : Int) (s : State) : Int :=
  let m : Int := max t.natAbs ((prevThrust j s).natAbs - allowed (unitDecl j s).downRate 2000)
  if t < 0 then -m else m

/-- A rudder angle within the declared limit. -/
def clampRudder (j : Nat) (a : Int) (s : State) : Int := limited (unitDecl j s).rudderLimit a

/-- The set-point of a participating unit from its allocated force (R176). -/
def allocatedSetPoint (j : Nat) (fx fy : Int) (s : State) : SetPoint :=
  let d := unitDecl j s
  match d.kind with
  | .azimuth =>
    let m : Int := nearestRoot (fx * fx + fy * fy).toNat 0
    let az := if 1000 * m < d.minThrust * d.rated then wrapAngle (((unitState j s).prev.azimuth).getD 0)
      else azimuthTo j (arctangent fy fx) s
    formSetPoint j (clampDown j m s) az s
  | .tunnel => formSetPoint j (clampDown j fy s) 0 s
  | .rudder =>
    formSetPoint j (clampDown j fx s)
      (if fx ≤ 0 ∨ d.kappa ≤ 0 then 0 else clampRudder j (nearestQuot (fy * 2 ^ 45) (d.kappa * fx)) s) s

/-- The set-point under THRUSTER-TEST: the test values, of their own sign, within the limits, rates and sectors of R174 and R176 (R189). -/
def testSetPoint (j : Nat) (s : State) : SetPoint :=
  let t := (wordQ s.mir.alc.testThrust).getD 0
  let a := (wordQ s.mir.alc.testAz).getD 0
  let iv := thrustInterval 2000 j s
  let inside := clampDown j (max iv.1 (min iv.2 t)) s
  match (unitDecl j s).kind with
  | .azimuth => formSetPoint j (clampDown j (limited (circleRadius 2000 j s) t) s) (azimuthTo j a s) s
  | .tunnel => formSetPoint j inside 0 s
  | .rudder => formSetPoint j inside (clampRudder j a s) s

/-- The set-points outside ACTIVE follow the drive's latest feedback committed since the entry to STANDBY (R274), its azimuth within −π to +π
(R19). -/
def followSetPoint (j : Nat) (s : State) : SetPoint :=
  let d := unitDecl j s
  let p := (unitState j s).prev
  match if (unitState j s).fbSince then (unitState j s).feedback else none with
  | some f =>
    let keep (q old : Q) : Q := match q with
      | some v => some v
      | none => old
    { p with thrust := keep f.thrust p.thrust, power := keep f.power p.power, pitch := keep f.pitch p.pitch
             rpm := keep f.rpm p.rpm, azimuth := keep (f.azimuth.map wrapAngle) p.azimuth }
  | none => { p with thrust := some 0, power := some 0, pitch := some 0, rpm := some d.idleRpm, azimuth := some 0 }

/-! ## Allocation (R127, R142, R143, R172 to R177) -/

/-- Tag of a primal variable of unit j in a stage: STAGE, OWNER, ROLE 0b00, QTY (R139). -/
def primalTag (stage j qty : Nat) : Nat := stage * 2 ^ 24 + j * 2 ^ 20 + qty * 2 ^ 8

/-- Allocated force of unit j in a stage of a result, sQ23.8: a tunnel unit has no Fx (R173). -/
def forceOf (r : Solved) (sch : Schedule) (stage j : Nat) (s : State) : Q × Q :=
  (if (unitDecl j s).kind = .tunnel then some 0 else r.tagged sch (primalTag stage j 1) 8, r.tagged sch (primalTag stage j 2) 8)

/-- Common fields of a record in the epoch. -/
def markSetPoint (j : Nat) (part zero held test : Bool) (p : SetPoint) (s : State) : SetPoint :=
  let u := unitState j s
  { p with decl := true, part, zero, held, test, kinds := (unitDecl j s).kinds, cause := if u.excluded then u.cause else 0 }

/-- Put a set-point in place. -/
def putSetPoint (j : Nat) (p : SetPoint) (s : State) : State := modUnit j (fun u => { u with prev := p }) s

/-- The set-point of a unit from its allocated force; a force outside its format makes it NaN (R9). -/
def setPointOf (j : Nat) (f : Q × Q) (s : State) : SetPoint :=
  match f with
  | (some x, some y) => allocatedSetPoint j x y s
  | _ => { (unitState j s).prev with thrust := none, power := none, pitch := none, rpm := none }

/-- No kind of a set-point that the unit declares is NaN, nor its thrust (R124, R274). -/
def soundSetPoint (d : ThrustUnit) (p : SetPoint) : Bool :=
  let has (b : Nat) (q : Q) : Bool := !hasKind b d || q.isSome
  p.thrust.isSome && has 1 p.power && has 2 p.pitch && has 3 p.rpm && has 4 p.azimuth

/-- A result gives every unit of the mask a set-point that may be sent: no force and no declared kind is NaN (R124). -/
def emittable (mask : Nat) (r : Solved) (s : State) : Bool :=
  ((unitIds s).filter fun j => mask.testBit j).all fun j => soundSetPoint (unitDecl j s) (setPointOf j (forceOf r (scheduleOf 3 false 0 s) 0 j s) s)

/-- The part of unit j in a successful allocation: its force, LIMIT and SECTOR, and its set-point. -/
def takeUnit (r : Solved) (s : State) (j : Nat) : State :=
  let f := forceOf r (scheduleOf 3 false 0 s) 0 j s
  let active (q : Nat) := Cfg.constraintActive (imgContent s) r.iterate.values j q
  let sp := setPointOf j f s
  putSetPoint j (markSetPoint j true false false false sp s)
    (modUnit j (fun u => { u with fx := f.1, fy := f.2, limit := active 4, sector := active 5, allocated := some sp }) s)

/-- No force of the unit: its registers. -/
def noForce (u : UnitState) : UnitState := { u with fx := some 0, fy := some 0, limit := false, sector := false }

/-- Zero thrust for every unit in the failed instance's mask (R143). -/
def zeroThrust (mask : Nat) (s : State) : State :=
  ((unitIds s).filter fun j => mask.testBit j).foldl (fun s j =>
    let p := zeroSetPoint (unitDecl j s) (unitState j s).prev
    putSetPoint j (markSetPoint j true true false false p s) (modUnit j noForce s)) s

/-- The emitted set-points in THRUSTER-TEST (R189). No allocation is attempted: the run of unsuccessful ones is broken and zero thrust is
not commanded under R143; LDL_ALC_IDENT and LDL_ALC_WARM keep what the last attempt left there (log 121). A test set-point that would hold
NaN is zero (R124, log 163). -/
def thrusterTest (s : State) : State :=
  let s := clearEvent 99 { s with mir := { s.mir with
    mrt := { s.mir.mrt with unitMask := 0 }, ldl := { s.mir.ldl with alcHold := 0, alcZero := false } } }
  let s := modAlc (fun a => { a with ran := false }) s
  let t := fieldOf s.mir.alc.test 3 0
  (unitIds s).foldl (fun s j =>
    let q := testSetPoint j s
    let p := if j = t ∧ soundSetPoint (unitDecl j s) q then q else zeroSetPoint (unitDecl j s) (unitState j s).prev
    putSetPoint j (markSetPoint j false false false (j == t) p s) (modUnit j noForce s)) s

/-- Record of an allocation attempt in Ladle's registers (R149). -/
def noteAllocation (r : Solved) (s : State) : State :=
  { s with mir := { s.mir with ldl := { s.mir.ldl with alcIdent := r.iterate.ident, alcWarm := r.warm } } }

/-- An attempt: one whose set-points would hold NaN has left their formats in forming them, and has failed with an overflow (R9, R124,
log 163). -/
def attempt (i : Instance) (s : State) : Solved × State :=
  let q := runInstance i s
  if q.1.ok && !emittable i.mask q.1 s then ({ q.1 with origin := some ⟨1, 0, 0⟩, overflow := true }, q.2) else q

/-- First attempt and, where it is unsuccessful, the regularised retry from the same inputs and source (R127, R128, R137). -/
def runAllocation (mask : Nat) (s : State) : Option Solved × State :=
  let i : Instance := { cls := 3, mask, basis := s.ex.epoch, inputs := allocationInputs mask s, source := s.mir.ldl.alcSource }
  let q := attempt i s
  let s := noteCold 3 0 q.1.warm (noteSolved 3 0 false s.ex.epoch q.1 (noteAllocation q.1 q.2))
  if q.1.ok then (some q.1, s)
  else
    let q := attempt { i with retry := true } s
    let s := dropLostSource 3 0 (noteCold 3 0 q.1.warm (noteSolved 3 0 true s.ex.epoch q.1 (setStatus 6 q.2)))
    if q.1.ok then (some q.1, s) else (none, s)

/-- A successful allocation: forces, set-points, warm-start source; the fallback ends (R142, R143). -/
def takeAllocation (mask : Nat) (r : Solved) (s : State) : State :=
  let s := { s with mir := { s.mir with ldl := { s.mir.ldl with alcSource := some r.iterate, alcHold := 0, alcZero := false } } }
  let s := clearEvent 99 (modAlc (fun a => { a with everSolved := true, units := a.units.map fun u => { u with allocated := none } }) s)
  ((unitIds s).filter fun j => mask.testBit j).foldl (takeUnit r) s

/-- Attempt and retry unsuccessful: the set-points of the last successful allocation are held for four epochs, then zero thrust; zero at
once while none has succeeded (R142, R143). A unit that had no part in that allocation stays at zero thrust (log 130). -/
def fallbackAllocation (mask : Nat) (s : State) : State :=
  let n := min 7 (s.mir.ldl.alcHold + 1)
  let zero := decide (5 ≤ n) || !s.mir.alc.everSolved
  let s := { s with mir := { s.mir with ldl := { s.mir.ldl with alcHold := n, alcZero := zero } } }
  if zero then zeroThrust mask s
  else ((unitIds s).filter fun j => mask.testBit j).foldl (fun s j =>
    let u := unitState j s
    putSetPoint j (markSetPoint j true false true false (u.allocated.getD (zeroSetPoint (unitDecl j s) u.prev)) s) s) s

/-- Units outside the mask: zero thrust, azimuth held, their cause (R274). -/
def excludedUnits (mask : Nat) (s : State) : State :=
  ((unitIds s).filter fun j => !mask.testBit j).foldl (fun s j =>
    let p := zeroSetPoint (unitDecl j s) (unitState j s).prev
    putSetPoint j (markSetPoint j false false false false p s) (modUnit j noForce s)) s

/-- Outside ACTIVE every emitted set-point follows feedback (R172, R274). -/
def followFeedback (s : State) : State :=
  if s.mir.mode.pairMode = .active then s
  else (unitIds s).foldl (fun s j => putSetPoint j (followSetPoint j s) s) s

/-- Residual r = BF − τ_req of the forces in use (R175), each component one sum in a 64-bit accumulator (log 110). -/
def residualOf (s : State) : Q × Q × Q :=
  let l := (unitIds s).map fun j => (unitDecl j s, unitState j s)
  let a := s.mir.alc
  let neg (k : Int) (q : Q) : Q := times (-k) q
  (demandSum 1 1 (l.map (fun p => p.2.fx) ++ [neg 1 a.demandX]), demandSum 1 1 (l.map (fun p => p.2.fy) ++ [neg 1 a.demandY]),
   demandSum 1 (2 ^ 16) (l.map (fun p => times p.1.posX p.2.fy) ++ l.map (fun p => times (-p.1.posY) p.2.fx) ++ [neg (2 ^ 16) a.demandN]))

/-- A residual beyond its tolerance; NaN lies beyond any. -/
def beyondTol (q : Q) (tol : Int) : Bool :=
  match q with
  | some v => decide (tol < v.natAbs)
  | none => true

/-- Powers of the units at the emitted set-points, and of the sections (R194). -/
def unitPowers (mask : Nat) (s : State) : State :=
  let s := (unitIds s).foldl (fun s j =>
    let pw := if mask.testBit j then rangeU (curveAt (prevThrust j s).natAbs (unitDecl j s).powerCurve) else some 0
    modUnit j (fun u => { u with p := pw }) s) s
  let total (k : Nat) (x : SectionState) : SectionState :=
    if k < sectionCount s then
      { x with power := (sumAcc (((unitIds s).filter fun j => mask.testBit j && (unitDecl j s).sect == k + 1).map
          fun j => (unitState j s).p)).bind rangeU }
    else x
  modAlc (fun a => { a with sections := mapAt a.sections total }) s

/-- Residuals, saturation runs, powers of units and sections (R175, R177, R194). EV_101 is ALLOCATION_SATURATION's. -/
def allocationStatus (mask : Nat) (s : State) : State :=
  let r := residualOf s
  let t := s.cfg.image.tuning
  let run (q : Q) (tol : Int) (n : Nat) : Nat := if beyondTol q tol then n + 1 else 0
  let s := modAlc (fun a => { a with
    residX := r.1, residY := r.2.1, residN := r.2.2
    satRun := [run r.1 t.satX (a.satRun.getD 0 0), run r.2.1 t.satY (a.satRun.getD 1 0), run r.2.2 t.satN (a.satRun.getD 2 0)] }) s
  unitPowers mask (if s.mir.alc.satRun.any (fun n => decide (20 ≤ n)) then s else clearEvent 101 s)

/-- EV_099 in every epoch of ACTIVE in which zero thrust is commanded (R143). -/
def zeroEvent (s : State) : State :=
  if s.mir.ldl.alcZero ∧ s.mir.mode.pairMode = .active ∧ s.mir.alc.ran then raise 99 s else s

/-- Step 4 of R151: demand, allocation, set-points, status. -/
def allocationStep (s : State) : State :=
  let s := if s.mir.alc.begun then s else modAlc (fun a => { a with begun := true }) (removalCauses s)
  let s := sectionLimits s
  let d := demandOf s
  let s := modAlc (fun a => { a with demandX := d.1, demandY := d.2.1, demandN := d.2.2 }) s
  if s.mir.mode.func = some .thrusterTest then allocationStatus 0 (thrusterTest s)
  else
    let mask := maskInForce s
    let s := { s with mir := { s.mir with mrt := { s.mir.mrt with unitMask := mask } } }
    let s := modAlc (fun a => { a with ran := true }) s
    let q := runAllocation mask s
    let s := match q.1 with
      | some r => takeAllocation mask r q.2
      | none => fallbackAllocation mask q.2
    zeroEvent (allocationStatus mask (followFeedback (excludedUnits mask s)))

/-- From the fifth epoch of a run, or at once while none has succeeded, zero thrust is commanded, with EV_099 in ACTIVE (R143): fast work has
commanded it. -/
def execZeroThrustFallback (s : State) : Host.Outcome State Fault Refusal := .next (zeroEvent s)

/-- A residual beyond tolerance in each of 20 epochs: the axis is saturated, EV_101 in the first such epoch (R177). -/
def execAllocationSaturation (s : State) : Host.Outcome State Fault Refusal :=
  .next (match (List.range 3).find? (fun k => decide (20 ≤ s.mir.alc.satRun.getD k 0)) with
    | some k => raiseAt 101 k s
    | none => s)

/-! ## Safety trips (R340 to R344) -/

/-- A trip has latched on channel k: the permit falls and the unit is excluded with cause 0x4 from N + 1. -/
def tripped (k : Nat) (s : State) : State :=
  let s := updatePermits s
  match channelUnit k s with
  | some j => removeUnit j 4 s
  | none => s

/-- Safely Limited Thrust completes its tolerance on channel k (R340). -/
def sltTrip (k : Nat) (s : State) : State :=
  match channelUnit k s with
  | some j =>
    if sltTolerance k s ≤ (safeChannel k s).sltRun ∧ sltExceeds j s ∧ ¬ (safeChannel k s).slt then
      raiseAt 112 j (tripped k (modSafe k (fun c => { c with slt := true }) s))
    else s
  | none => s

/-- Safe Thrust Sector completes its tolerance on channel k (R341). -/
def stsTrip (k : Nat) (s : State) : State :=
  match channelUnit k s with
  | some j =>
    if s.cfg.image.stsTol ≤ (safeChannel k s).stsRun ∧ stsExceeds j s ∧ ¬ (safeChannel k s).sts then
      raiseAt 113 j (tripped k (modSafe k (fun c => { c with sts := true }) s))
    else s
  | none => s

/-- Safely Limited Speed completes its tolerance (R342): EV_114, and a trip on every channel that qualifies. -/
def slsTrip (s : State) : State :=
  if s.cfg.image.slsTol ≤ s.mir.trv.slsRun ∧ slsExceeds s ∧ ¬ s.mir.trv.slsTripped then
    raise 114 ((List.range 8).foldl (fun s k =>
      match channelUnit k s with
      | some j => if slsQualifies j s then tripped k (modSafe k (fun c => { c with sls := true }) s) else s
      | none => s) (modTrv (fun t => { t with slsTripped := true }) s))
  else s

/-- 200 epochs near a berth in ACTIVE without a velocity source: SLS_BLIND and EV_114 (R342). -/
def slsBlind (s : State) : State :=
  if 200 ≤ s.mir.trv.blindRun ∧ ¬ s.mir.trv.blind then raise 114 (modTrv (fun t => { t with blind := true }) s) else s

/-- The trips of the epoch's fast work (R344). -/
def safetyTrips (s : State) : State :=
  slsBlind (slsTrip ((List.range 8).foldl (fun s k => stsTrip k (sltTrip k s)) s))

/-- The trips as rows: fast work has them in the epoch that completes their tolerances. -/
def execSltTrip (k : Nat) (s : State) : Host.Outcome State Fault Refusal := .next (sltTrip k s)
def execStsTrip (k : Nat) (s : State) : Host.Outcome State Fault Refusal := .next (stsTrip k s)
def execSlsTrip (s : State) : Host.Outcome State Fault Refusal := .next (slsTrip s)
def execSlsBlind (s : State) : Host.Outcome State Fault Refusal := .next (slsBlind s)

/-! ## The end of THRUSTER-TEST (R81) -/

/-- Every set-point at zero thrust, its azimuth as it stood in `before` (R81). -/
def zeroThrusters (before : List UnitState) (s : State) : State :=
  (unitIds s).foldl (fun s j =>
    modUnit j (fun u => { u with prev := { zeroSetPoint (unitDecl j s) (before.getD j {}).prev with
      decl := u.prev.decl, part := u.prev.part, kinds := u.prev.kinds, cause := u.prev.cause, test := false, zero := false, held := false } }) s) s

/-- An alarm that this epoch's fast work has raised ends THRUSTER-TEST too; whichever way it ended, every set-point of the epoch is zero
(R81). -/
def endTest (before : List UnitState) (s : State) : State :=
  let s := if s.mir.mode.func = some .thrusterTest ∧ alarmActive s then
      modAlc (fun a => { a with zeroDue := true }) (forceFunction .joystick s)
    else s
  if s.mir.alc.zeroDue then unitPowers s.mir.mrt.unitMask (zeroThrusters before (modAlc (fun a => { a with zeroDue := false }) s)) else s

end Sys2Proof.Machine
end

