-- ==== Sys2Proof/Machine/Outlook.lean ====
section
/-! DEFINITION. What the predictive plan and the consequence cases read and give (R171, R172, R178, R182, R183, R188, R190, R191). -/

namespace Sys2Proof.Machine

/-! ## Masks, targets, limits -/

/-- The unit mask of an instance whose basis is this epoch: the allocation unit mask of the epoch (R190); in THRUSTER-TEST, where no
allocation runs, every declared unit not excluded (log 131). -/
def epochMask (s : State) : Nat := if s.mir.mode.func = some .thrusterTest then maskInForce s else s.mir.mrt.unitMask

/-- Cases that the image uses. -/
def caseCount (s : State) : Nat := min 64 s.cfg.image.cases.length

def caseDecl (c : Nat) (s : State) : CaseDecl := s.cfg.image.cases.getD c {}

/-- The unit mask of a case (R190). -/
def caseMask (c : Nat) (s : State) : Nat :=
  let d := caseDecl c s
  let m := epochMask s
  let without (f : Nat → Bool) : Nat := bitSet ((unitIds s).filter fun j => m.testBit j && !f j)
  match d.kind with
  | 1 => without (· == d.index)
  | 2 => without fun j => (unitDecl j s).sect == d.index
  | 4 =>
    let ties := closedTies (some d.index) s
    without fun j => noRoom ties (unitDecl j s).sect s
  | 5 => without fun j => d.mask.testBit j
  | _ => m

/-- Section factors of a case: zero for a lost section (R190). -/
def caseFactor (d : CaseDecl) (k : Nat) : Nat := if d.kind = 2 ∧ d.index = k + 1 then 0 else d.factors.getD k 32768

/-- What a case changes in the power system. -/
def casePower (d : CaseDecl) : PowerCase :=
  match d.kind with
  | 3 => { room := some d.index }
  | 4 => { tie := some d.index }
  | _ => {}

/-- Position and heading held, with the berth normal where only the component along the plane is (R171, R188). In BERTH-PUSH that is so
after a loss of contact too, though 'the function holds them' could be read as every axis: DESIGN CHOICE (log 158). -/
def holdTarget (f : Option Func) (s : State) : List (AsmName × AsmInput) :=
  let m := s.mir.mpc
  let targets := inputs .target [12, 12, 29] [wordQ m.targetN, wordQ m.targetE, wordQ m.targetHdg]
  let e := s.mir.est.est
  match f with
  | some .autoPosition => targets
  | some .autoTrack => inputs .target [12, 12, 29] [some m.trackN, some m.trackE, some m.trackHdg]
  | some .berthPush => targets ++ [input (.target 3) (some (namedBerth s).normal) 29]
  | _ => inputs .target [12, 12, 29] [e.north, e.east, e.hdg]

/-- The target of the plan by the function in effect; outside ACTIVE that of JOYSTICK (R171, R172). -/
def planTarget (s : State) : List (AsmName × AsmInput) :=
  match s.mir.mode.func with
  | some .autoHeading => [input (.target 2) (wordQ s.mir.mpc.targetHdg) 29]
  | f => holdTarget f s

/-- Surge and sway held over the plan, and the push demand (R171, R172, R183). -/
def heldInputs (s : State) : List (AsmName × AsmInput) :=
  let j : Q × Q × Q := if s.mir.mode.func = some .autoHeading then joystickDemand s else (some 0, some 0, some 0)
  inputs .held [8, 8, 8] [j.1, j.2.1, some (roundDiv s.mir.alc.push 1000)]

/-! ## What an instance reads (R110, R182, R183) -/

/-- Azimuth of unit j in a stage of the previous plan; before any, the modelled one (R182, log 127). A unit without a force in that plan has
none, and its half-plane the normal that the schedule substitutes: DESIGN CHOICE (log 158). -/
def previousAzimuth (n j : Nat) (s : State) : Q :=
  match s.mir.mpc.plan with
  | some p => (p.stages.getD n {}).az.getD j none
  | none => podAzimuth j s

/-- Limits of unit j within a stage of 1 / `per` s, and the half-plane normal of every stage; `place` is the stage of the previous plan
that a stage takes its azimuth from. -/
def stageInputs (per stages : Nat) (place : Nat → Nat) (j : Nat) (s : State) : List (AsmName × AsmInput) :=
  let d := unitDecl j s
  inputs (.stageLimit j) [8, 8, 8, 8, 29, 16, 8]
    ([thrustLimit j s, allowed d.upRate per, allowed d.downRate per, allowed d.rate per, allowed d.slew per, d.kappa, d.rudderMin].map some) ++
  (if d.kind = .azimuth then
    ((List.range stages).map fun n => inputs (.stageNormal n j) [30, 30]
      (unitVector ((previousAzimuth (place n) j s).map fun a => normalAzimuth a (forbidden j s)))).flatten
  else [])

/-- The rooms: charge at the basis, energy, floor, reserve, price; and their shares (R178, R182, R183). -/
def roomInputs (p : PowerCase) (s : State) : List (AsmName × AsmInput) :=
  ((List.range s.cfg.image.rooms.length).map fun r =>
    let d := s.cfg.image.rooms.getD r {}
    inputs (.room r) [16, 8, 16, 16, 16]
      [some (roomCharge r s), some d.energy, some d.floor, some d.reserve, some (ratCode 16 (roomPrice r s))] ++
    (List.range (sectionCount s)).map fun k => input (.share r (k + 1)) (some (ratCode 30 (shareOf p k r s))) 30).flatten

/-- Everything that the plan and the cases read alike (R182, R183, R191). -/
def outlookInputs (p : PowerCase) (factor : Nat → Nat) (per stages : Nat) (place : Nat → Nat) (mask : Nat) (s : State) :
    List (AsmName × AsmInput) :=
  stateInputs s ++ windInputs s ++ hullInputs s ++ epsilonInputs s ++ busInputs factor s ++ roomInputs p s ++
    mapAt s.cfg.image.tuning.planWeights (fun k f => fixedInput (.planWeight k) f) ++
    (if jointEngaged s then contactInputs s else []) ++
    (((unitIds s).filter fun j => mask.testBit j).map fun j => unitInputs p per j s ++ stageInputs per stages place j s).flatten

/-- What the plan reads: 240 stages of 0.25 s. -/
def planInputs (mask : Nat) (s : State) : List (AsmName × AsmInput) :=
  planTarget s ++ heldInputs s ++ outlookInputs {} wholeLimit 4 240 id mask s

/-- What case c reads: 60 stages of 1 s with the failure in effect, its limits and shares, and the targets of the function in effect, or the
estimate outside AUTO-POSITION, AUTO-TRACK and BERTH-PUSH (R190, R191). -/
def caseInputs (c mask : Nat) (s : State) : List (AsmName × AsmInput) :=
  let d := caseDecl c s
  holdTarget s.mir.mode.func s ++ heldInputs s ++ outlookInputs (casePower d) (caseFactor d) 1 60 (fun n => min 239 (4 * n)) mask s

/-! ## Values of a solution -/

/-- A value read at the basis, as a code. -/
def codeOf (n : AsmName) (l : List (AsmName × AsmInput)) : Q := ((l.find? (·.1 == n)).bind fun p => p.2.code)

/-- The substitution compiled for an absent value (R118). -/
def absentOf (n : AsmName) (p : Schedule) : Option Rat :=
  p.steps.findSome? fun x => match x.op with
    | .read m absent => if m == n then some (mkRat absent (2 ^ x.fmt.frac)) else none
    | _ => none

/-- A value read at the basis as a fraction: the instance's own substitution where it is absent, NaN where it left its format. So a
section without a valid non-DP load is forecast with the load that the schedule substitutes for it (R118): DEDUCED (log 168). -/
def ratOf (sch : Schedule) (n : AsmName) (l : List (AsmName × AsmInput)) : Option Rat :=
  match l.find? (·.1 == n) with
  | some (_, ⟨some c, f, _⟩) => some (mkRat c (2 ^ f))
  | some (_, ⟨none, _, true⟩) => none
  | _ => absentOf n sch

/-- A variable's value as a fraction. -/
def Solved.exact (r : Solved) (sch : Schedule) (tag : Nat) : Option Rat :=
  (lookupNat tag r.iterate.values).bind fun v => (sch.vars.find? (·.tag == tag)).map fun d => mkRat v (2 ^ d.fmt.frac)

/-- One sum of exact values in a 64-bit accumulator of 24 fraction bits (R8, R9, log 110): NaN with a NaN term or beyond its range. -/
def ratSum (l : List (Option Rat)) : Option Rat :=
  l.foldl (fun a x => a.bind fun y => x.bind fun z =>
    if (y + z) * 2 ^ 24 ≤ 2 ^ 63 - 1 ∧ -(2 ^ 63 - 1) ≤ (y + z) * 2 ^ 24 then some (y + z) else none) (some 0)

/-- Units of a mask. -/
def unitsOf (mask : Nat) (s : State) : List Nat := (unitIds s).filter fun j => mask.testBit j

/-- Power of section k + 1 in a stage, kW. -/
def stagePower (p : SlowRun) (r : Solved) (sch : Schedule) (stage k : Nat) (s : State) : Option Rat :=
  ratSum (((unitsOf p.mask s).filter fun j => (unitDecl j s).sect == k + 1).map fun j => r.exact sch (primalTag stage j 3))

/-- Charge of room r one stage of `dt` s on: S − 100 dt Σ_s share (ΣP_j + H_s) / E_r, E_r in kW·s (R182). -/
def nextCharge (dt : Rat) (p : SlowRun) (sol : Solved) (sch : Schedule) (r stage : Nat) (x : Option Rat) (s : State) : Option Rat :=
  let term (k : Nat) : Option Rat := (ratOf sch (.share r (k + 1)) p.inputs).bind fun w =>
    (ratSum [stagePower p sol sch stage k s, ratOf sch (.bus (k + 1) 1) p.inputs]).map fun y => w * y
  (ratSum ((List.range (sectionCount s)).map term)).bind fun drawn => (ratOf sch (.room r 1) p.inputs).bind fun e =>
    if e = 0 then none else ratSum [x, some (-(100 * dt * drawn / (3600 * e)))]

/-- Forecast charges of room r at stages 0 to `stages` − 1, newest first. -/
def charges (dt : Rat) (p : SlowRun) (sol : Solved) (sch : Schedule) (r stages : Nat) (s : State) : List (Option Rat) :=
  (List.range (stages - 1)).foldl (fun l k => nextCharge dt p sol sch r k (l.headD none) s :: l) [ratOf sch (.room r 0) p.inputs]

/-- Lowest of some values; a NaN among them makes it NaN. -/
def lowestOf {α : Type} [Min α] (l : List (Option α)) : Option α :=
  match l with
  | [] => none
  | x :: l => l.foldl (fun a b => a.bind fun x => b.map fun y => min x y) x

/-- Lowest forecast charge of room r. -/
def lowestCharge (dt : Rat) (p : SlowRun) (sol : Solved) (sch : Schedule) (r stages : Nat) (s : State) : Option Rat :=
  lowestOf (charges dt p sol sch r stages s)

/-- Lowest forecasts of the declared rooms in per cent with 16 fraction bits, brought into a format by `fit`; NaN for an undeclared room. -/
def lowestCodes (fit : Int → Q) (low : Nat → Option Rat) (s : State) : List Q :=
  (List.range 8).map fun r => if r < s.cfg.image.rooms.length then (low r).bind fun v => fit (ratCode 16 v) else none

/-! ## The plan's result (R170, R181, R183) -/

/-- A stage of the plan: its thrust Σ BF, its vessel state, and the azimuth of each unit's force. -/
def planStage (p : SlowRun) (r : Solved) (sch : Schedule) (n : Nat) (s : State) : PlanStage :=
  let l := (unitsOf p.mask s).map fun j => (j, forceOf r sch n j s)
  let q (k f : Nat) : Q := r.reported sch (.vessel n k) f
  { tauX := demandSum 1 1 (l.map fun p => p.2.1), tauY := demandSum 1 1 (l.map fun p => p.2.2)
    tauN := demandSum 1 (2 ^ 16) (l.map (fun p => times (unitDecl p.1 s).posX p.2.2) ++ l.map fun p => times (-(unitDecl p.1 s).posY) p.2.1)
    north := q 0 12, east := q 1 12, hdg := (q 2 29).map wrapAngle, u := q 3 21, v := q 4 21, r := q 5 26
    az := (List.range 16).map fun j => (l.find? (·.1 == j)).bind fun p => p.2.1.bind fun x => p.2.2.map fun y => arctangent y x }

/-- What a plan gives (R181 to R183). A forecast that is NaN counts as below the reserve (log 159). -/
def planOf (p : SlowRun) (r : Solved) (s : State) : Plan :=
  let sch := scheduleOf 4 false 0 s
  let low (k : Nat) : Option Rat := lowestCharge (1 / 4) p r sch k 240 s
  let short (k : Nat) : Bool := match low k, ratOf sch (.room k 3) p.inputs with
    | some v, some reserve => decide (v < reserve)
    | _, _ => true
  { basis := p.basis, stages := (List.range 240).map fun n => planStage p r sch n s, wind := p.wind, socMin := lowestCodes rangeU low s
    socLow := bitSet ((List.range (min 8 s.cfg.image.rooms.length)).filter short) }

/-! ## A case's result (R191) -/

/-- Largest of some codes; NaN among them makes it NaN. -/
def largest (l : List Q) : Q := l.foldl qMax (some 0)

/-- Distance of a predicted position from the target; in BERTH-PUSH the tangential excursion plus any separation from the plane. -/
def caseDistance (p : SlowRun) (n e h : Q) (s : State) : Q :=
  n.bind fun n => e.bind fun e => (codeOf (.target 0) p.inputs).bind fun tn => (codeOf (.target 1) p.inputs).bind fun te =>
    let dn := n - tn
    let de := e - te
    match p.berth with
    | none => rangeS (nearestRoot (dn * dn + de * de).toNat 0)
    | some b =>
      let x := (berthDecl b s).getD {}
      let along := roundDiv (de * cosine x.normal - dn * sine x.normal).natAbs (2 ^ 30)
      h.bind fun h => (compressionAt s.cfg.image.contactX s.cfg.image.contactY x.north x.east x.normal n e h).bind fun d =>
        rangeS (along + max 0 (-d))

/-- Utilisation of a unit in a stage, |F| / T_lim in uQ16.16. Of a unit whose limit is 0, for which the manual states none, it is 0: DESIGN
CHOICE (log 158). -/
def unitUse (p : SlowRun) (r : Solved) (sch : Schedule) (n j : Nat) (s : State) : Q :=
  let f := forceOf r sch n j s
  f.1.bind fun x => f.2.bind fun y => (codeOf (.stageLimit j 0) p.inputs).bind fun t =>
    if 0 < t then rangeU (rootQuot ((x * x + y * y).toNat * 2 ^ 32) (t * t).toNat) else some 0

/-- Utilisation of section k + 1 in a stage, ΣP / L in uQ16.16. Of a section whose limit is 0, for which the manual states none, it is 0
without power and NaN with any, as a division by zero is in R119: DESIGN CHOICE (log 158). -/
def sectionUse (p : SlowRun) (r : Solved) (sch : Schedule) (n k : Nat) (s : State) : Q :=
  (ratOf sch (.bus (k + 1) 0) p.inputs).bind fun l => (stagePower p r sch n k s).bind fun w =>
    if l = 0 then (if w = 0 then some 0 else none) else rangeU (ratCode 16 (w / l))

/-- What a case gives (R191). -/
def caseOf (c : Nat) (p : SlowRun) (r : Solved) (s : State) : CaseResult :=
  let sch := scheduleOf 5 false c s
  let v (n k f : Nat) : Q := r.reported sch (.vessel n k) f
  let stages := List.range 60
  { converged := r.converged
    distance := largest (stages.map fun n => caseDistance p (v n 0 12) (v n 1 12) (v n 2 29) s)
    hdgError := largest (stages.map fun n => (v n 2 29).bind fun h => (codeOf (.target 2) p.inputs).map fun t => (angleDist h t : Int))
    util := largest (stages.map fun n => qMax (largest ((unitsOf p.mask s).map fun j => unitUse p r sch n j s))
      (largest ((List.range (sectionCount s)).map fun k => sectionUse p r sch n k s)))
    socMin := lowestCodes rangeS (fun k => lowestCharge 1 p r sch k 60 s) s
    contactMin := lowestOf (stages.map fun n => r.reported sch (.contact n) 8) }

end Sys2Proof.Machine
end

