-- ==== Sys2Proof/Machine/Foresight.lean ====
section
/-! DEFINITION. The predictive plan and the consequence cases: basis, warm start, commit, verdict (R53, R54, R77, R181, R184, R192, R193). -/

namespace Sys2Proof.Machine

def modLdl (f : Ladle → Ladle) (s : State) : State := { s with mir := { s.mir with ldl := f s.mir.ldl } }
def modCqa (f : Consequence → Consequence) (s : State) : State := { s with mir := { s.mir with cqa := f s.mir.cqa } }

/-- The run of case c. -/
def setRun (c : Nat) (p : Option SlowRun) (s : State) : State := modSlow (fun w => { w with cases := modAt w.cases c fun _ => p }) s

/-- Change case c. -/
def modCase (c : Nat) (f : CaseState → CaseState) (s : State) : State :=
  modCqa (fun q => { q with cases := modAt q.cases c f }) s

/-! ## Warm-start shift (R184) -/

/-- Stages k for which min(k + m, last) is the source's stage st. -/
def shiftedTo (m last st : Nat) : List Nat :=
  if st < last then (if m ≤ st then [st - m] else [])
  else (List.range (last + 1)).filter fun k => decide (last ≤ k + m)

/-- A tag with another STAGE. -/
def retag (t k : Nat) : Nat := t % 2 ^ 24 + k * 2 ^ 24

/-- The source aligned to a new basis: the variable of STAGE k takes the value of the same tag at STAGE min(k + m, last). -/
def shiftSource (m last : Nat) (w : WarmSource) : WarmSource :=
  { w with values := (w.values.map fun p => (shiftedTo m last (tagStage p.1)).map fun k => (retag p.1 k, p.2)).flatten }

/-! ## The plan (R181, R183) -/

/-- Basis epochs of the plan (R53). -/
def planBasis (n : Nat) : Bool := n % 100 == 0

/-- The plan's basis record (R111), with its source shifted by whole stages of 500 epochs. -/
def planTakeBasis (s : State) : State :=
  if planBasis s.ex.epoch then
    let src := s.mir.ldl.mpcSource.map fun w => shiftSource ((s.ex.epoch - w.basis) / 500) 239 w
    modSlow (fun w => { w with plan := some (basisRecord (epochMask s) (planInputs (epochMask s) s) src s) }) s
  else s

/-- The commit of a completed plan instance (R53, R142, R181, R183). -/
def commitPlan (p : SlowRun) (r : Solved) (s : State) : State :=
  let s := dropLostSource 4 0 (noteCold 4 0 r.warm (noteSolved 4 0 false p.basis r s))
  let s := modSlow (fun w => { w with plan := none }) s
  let s := modLdl (fun l => { l with mpcWarm := r.warm }) s
  if r.ok then
    let o := planOf p r s
    let s := modLdl (fun l => { l with mpcKept := 0, mpcSource := some r.iterate }) s
    let low := o.socLow != 0
    let s := if low && !s.mir.mpc.lowRun then raise 111 s else s
    modMpc (fun m => { m with plan := some o, kept := false, lowRun := low }) s
  else
    let s := modLdl (fun l => { l with mpcKept := bump 8 l.mpcKept }) s
    modMpc (fun m => { m with kept := m.plan.isSome }) s

/-! ## Consequence cases (R190 to R193) -/

/-- Case c has its basis in epoch n (R53). -/
def caseBasis (c n : Nat) : Bool := n % 2000 == 30 * c

/-- The basis record of the case whose basis epoch this is, if any; the first sweep begins at the first case-0 basis with
the estimator gate met (R77, R111, R184). -/
def caseTakeBasis (s : State) : State :=
  match (List.range (caseCount s)).find? fun c => caseBasis c s.ex.epoch with
  | some c =>
    let s := if c = 0 ∧ s.mir.est.gate then modCqa (fun q => { q with begun := true }) s else s
    let src := (s.mir.ldl.cqaSource.getD c none).map fun w => shiftSource ((s.ex.epoch - w.basis) / 2000) 59 w
    let rec' := basisRecord (caseMask c s) (caseInputs c (caseMask c s) s) src s
    let rec' := { rec' with gate := rec'.gate && s.mir.cqa.begun }
    setRun c (some rec') s
  | none => s

/-- A value lies above a limit; NaN counts as above it (log 159). -/
def above (q : Q) (lim : Int) : Bool :=
  match q with
  | some v => decide (lim < v)
  | none => true

/-- Twice a value lies above a limit; NaN counts as above it (log 159). -/
def aboveHalf (q : Q) (lim : Int) : Bool :=
  match q with
  | some v => decide (lim < 2 * v)
  | none => true

/-- Some room's lowest forecast lies at or below its own declared floor (R192); NaN counts as at it (log 159). -/
def roomAtFloor (r : CaseResult) (s : State) : Bool :=
  (List.range s.cfg.image.rooms.length).any fun k =>
    match r.socMin.getD k none with
    | some v => decide (v ≤ (s.cfg.image.rooms.getD k {}).floor)
    | none => true

/-- The predicted normal force falls below the berth's declared minimum, in BERTH-PUSH (R192); NaN counts as below it (log 159). Where the
joint was not engaged at the basis no force is predicted (R182). -/
def contactLow (p : SlowRun) (r : CaseResult) (s : State) : Bool :=
  p.inputs.any (·.1 == .contact 0) && match p.berth, r.contactMin with
  | some b, some v => decide (v < ((berthDecl b s).getD {}).minContact)
  | some _, none => true
  | none, _ => false

/-- Conditions met (CAUSE of R196). -/
def caseCause (p : SlowRun) (r : CaseResult) (s : State) : Nat :=
  let t := s.cfg.image.tuning
  flag (above r.distance t.cqaPos) + 2 * flag (above r.hdgError t.cqaHdg) + 4 * flag (roomAtFloor r s || contactLow p r s) +
    8 * flag (above r.util t.cqaUtil) + 16 * flag (aboveHalf r.distance t.cqaPos || aboveHalf r.hdgError t.cqaHdg)

/-- The verdict of conditions met: the first that applies (R192). -/
def verdictOf (cause : Nat) : Nat := if cause % 8 ≠ 0 then 3 else if cause / 8 ≠ 0 then 2 else 1

/-- Lowest forecast over the declared rooms, in whole per cent, rounded convergently, 0 to 100 (R196); 0 for one that is NaN (log 159). -/
def socPercent (r : CaseResult) (s : State) : Nat :=
  match lowestOf (r.socMin.take s.cfg.image.rooms.length) with
  | some v => min 100 (roundDiv v 65536).toNat
  | none => 0

/-- Class status of the verdicts (R193): 3 RED, 2 AMBER, 1 GREEN. -/
def classOf (s : State) : Nat :=
  let vs := (s.mir.cqa.cases.take (caseCount s)).map (·.verdict)
  if vs.contains 3 then 3 else if vs.contains 2 || vs.contains 0 || !s.mir.cqa.sweep then 2 else 1

/-- The class status is derived anew: EV_106 stands in RED, EV_107 in AMBER entered from GREEN (R193). -/
def updateClass (s : State) : State :=
  let old := s.mir.cqa.cls
  let new := classOf s
  let s := modCqa (fun q => { q with cls := new }) s
  let s := condition 106 (new == 3) s
  if new = 2 ∧ old = 1 then raise 107 s else if new ≠ 2 then clearEvent 107 s else s

/-- The sweep of R77 is complete when every used case has committed a computed verdict of it. -/
def updateSweep (s : State) : State :=
  let l := s.mir.cqa.cases.take (caseCount s)
  if s.mir.cqa.begun ∧ l.all (·.swept) then modCqa (fun q => { q with sweep := true }) s else s

/-- The commit of a completed case (R53, R192, R193). -/
def commitCase (c : Nat) (p : SlowRun) (r : Solved) (s : State) : State :=
  let s := setRun c none (dropLostSource 5 c (noteCold 5 c r.warm (noteSolved 5 c false p.basis r s)))
  let s := modLdl (fun l => { l with cqaWarm := r.warm
                                     cqaSource := if r.ok then modAt l.cqaSource c (fun _ => some r.iterate) else l.cqaSource }) s
  let s := if r.ok then
      let o := caseOf c p r s
      let cause := caseCause p o s
      modCase c (fun x => { x with verdict := verdictOf cause, committed := true, converged := r.converged
                                   socMin := socPercent o s, cause, excPos := o.distance, excHdg := o.hdgError, util := o.util
                                   swept := x.swept || p.gate }) s
    else
      raiseAt 103 c (modCase c (fun x => { x with verdict := 0, committed := true, converged := r.converged, socMin := 0
                                                  cause := 0, excPos := none, excHdg := none, util := none }) s)
  updateClass (updateSweep s)

/-! ## Commit epochs (R53, R54) -/

/-- A slow result is not physically complete at its commit epoch: EV_105, HOLD at the next E+0 µs (R54). -/
def lateResult (s : State) : State := findFault 5 (raise 105 s)

/-- An instance in progress at its commit epoch, `span` epochs after its basis: its result commits, unless it is late. A word lost in
a tile store while it ran makes it fail (R30). -/
def commitJob (cls case span : Nat) (late : Bool) (p : Option SlowRun) (commit : SlowRun → Solved → State → State) (s : State) : State :=
  match p with
  | some x =>
    if epochWrap (x.basis + span) ≠ s.ex.epoch then s
    else match x.result with
      | some r => if late then lateResult s else commit x (spoiled cls case x.lost r) s
      | none => lateResult s
  | none => s

/-- The slow results of this epoch commit, each by itself (R53, R54). -/
def commitSlow (late : List SlowJob) (s : State) : State :=
  let s := commitJob 4 0 100 (late.contains .plan) s.slow.plan commitPlan s
  let s := commitJob 1 0 1000 (late.contains .adjustment) s.slow.ba commitBa s
  (List.range (caseCount s)).foldl (fun s c =>
    commitJob 5 c 30 (late.contains (.case c)) (s.slow.cases.getD c none) (commitCase c) s) s

/-- Basis records of the slow instances of this epoch (R111). -/
def takeBasisRecords (s : State) : State := baTakeBasis (caseTakeBasis (planTakeBasis s))

/-- The next slice of one slow instance in progress runs (R134). -/
def runJob (cls case : Nat) (p : Option SlowRun) (put : SlowRun → State → State) (s : State) : State :=
  match p with
  | some p => let q := runSlow cls case p s; put q.1 q.2
  | none => s

/-- A slice of every slow instance in progress runs in the slow window of an epoch (R134). -/
def runSlices (s : State) : State :=
  let s := runJob 4 0 s.slow.plan (fun p => modSlow fun w => { w with plan := some p }) s
  let s := runJob 1 0 s.slow.ba (fun p => modSlow fun w => { w with ba := some p }) s
  (List.range (caseCount s)).foldl (fun s c => runJob 5 c (s.slow.cases.getD c none) (fun p => setRun c (some p)) s) s

end Sys2Proof.Machine
end

