-- ==== Sys2Proof/Machine/Modes.lean ====
section
/-! DEFINITION. The permissives and requirements of the modes and functions, and the changes of the pair mode (R62, R64,
R79, R80, R88, R272, R400, R401). -/

namespace Sys2Proof.Machine

/-! ## Permissives (R79, R400 MOD_AVAIL) -/

/-- A unit of the pair holds the active role: this one, the partner of a standby, or the partner as it reports itself. -/
def roleHeld (s : State) : Bool := s.um.role != .none || (report s).any (·.role == .active)

/-- No emergency-stop pair reads its safe state or is in antivalence fault. -/
def estopClear (s : State) : Bool := !anyPair .estop (fun x => x.safe || x.fault) s

/-- At least one thrust unit is ready (R474). -/
def driveReady (s : State) : Bool := (unitIds s).any fun j => unitReady j s

/-- The requirements that AUTO-POSITION, AUTO-TRACK and BERTH-PUSH share (R80). -/
def positionReady (s : State) : Bool :=
  s.mir.est.gate && decide (1 ≤ s.mir.wsk.pos.grade) && s.mir.mpc.plan.isSome

/-- Berth b declares a Safe Thrust Sector. -/
def berthSectors (b : Nat) (s : State) : Bool :=
  match berthDecl b s with
  | some d => d.sectors.any (·.isSome)
  | none => false

/-- The requirements of R80 for a function; for BERTH-PUSH those of a berth. -/
def funcReady (f : Func) (berth : Option Nat) (s : State) : Bool :=
  match f with
  | .joystick => (List.range 4).any fun k => panelValid k s
  | .autoHeading => s.mir.wsk.heading.isSome && !s.mir.wsk.hdg.used.isEmpty
  | .autoPosition => positionReady s
  | .autoTrack => positionReady s && s.mir.mpc.accepted
  | .berthPush => positionReady s && s.mir.trv.contact &&
      (match berth with
        | some b => berthSectors b s
        | none => (List.range s.cfg.image.berths.length).any fun b => berthSectors b s)
  | .thrusterTest => s.mir.trv.contact && activePermitted s.life.state && declared (fieldOf s.mir.alc.test 3 0) s

/-- A function may be selected at the entry to ACTIVE (R80). -/
def entryFunc : Func → Bool
  | .joystick | .autoHeading | .autoPosition => true
  | _ => false

/-- Function `f` may be selected from function `from'` (R80). -/
def selectableFrom (f from' : Func) : Bool :=
  match f with
  | .joystick | .autoHeading => true
  | .autoPosition => from' == .joystick || from' == .autoHeading || from' == .autoTrack || from' == .berthPush
  | .autoTrack => from' == .autoPosition
  | .berthPush => from' == .autoPosition || from' == .autoTrack
  | .thrusterTest => from' == .joystick

/-- Functions of R80 with the code f. -/
def funcList : List Func := [.joystick, .autoHeading, .autoPosition, .autoTrack, .berthPush, .thrusterTest]

/-- MOD_AVAIL (R400); zero until the unit has run fast work (R398). -/
def modAvail (s : State) : Word :=
  if s.mir.wsk.ran then
    let fs := funcList.filter fun f => funcReady f none s
    pack [(flag (roleHeld s), 1, 0), (flag (estopClear s), 1, 1), (flag (driveReady s), 1, 2), (flag s.mir.est.gate, 1, 3),
          (flag s.mir.mpc.plan.isSome, 1, 4), (bitSet (fs.map fun f => funcCode f - 1), 6, 8)]
  else 0

/-! ## Changes of the pair mode -/

/-- Slow work that does not run in a mode stops: plan and consequence cases in MAINTENANCE (R63). -/
def stopSlow (dst : Mode) (s : State) : State :=
  if dst = .maintenance then
    modSlow (fun w => { w with plan := none, cases := w.cases.map fun _ => none }) s
  else s

/-- Slow work that runs in a mode (R63): the plan and the cases; bundle adjustment. -/
def foresightMode : Mode → Bool
  | .standby | .active => true
  | _ => false

/-- The pair mode changes, and this unit's own mode with it (R62, R64): MOD_MODE and its epoch, EV_124. Leaving ACTIVE ends
the function and EV_099. -/
def changePairMode (dst : Mode) (s : State) : State :=
  let leaving := s.mir.mode.pairMode == .active && dst != .active
  let s := if leaving then clearEvent 99 (setFunction none 0 false s) else s
  let s := modMode (fun m => { m with pairMode := dst, modeEpoch := s.ex.epoch, maintFromStandby := dst == .maintenance }) s
  let s := changeMode dst 0 s
  let s := { s with um := { s.um with maintFromStandby := dst == .maintenance } }
  let s := if dst = .standby then modAlc (fun a => { a with units := a.units.map fun u => { u with fbSince := false } }) s else s
  stopSlow dst s

/-- Entry to ACTIVE (R401): SEQ counts it (R272), and no allocation has succeeded in it yet (R143). -/
def enterActive (f : Func) (berth : Nat) (s : State) : State :=
  let s := changePairMode .active s
  let s := { s with mir := { s.mir with pair := { s.mir.pair with seq := (s.mir.pair.seq + 1) % 65536 } } }
  selectFunction f berth (modAlc (fun a => { a with everSolved := false }) s)

/-- THRUSTER-TEST selected or left leaves the set-points of the epoch before; AUTO-TRACK starts its first leg. -/
def selectInActive (f : Func) (berth : Nat) (s : State) : State := selectFunction f berth s

end Sys2Proof.Machine
end

