-- ==== Sys2Proof/Machine/Bank.lean ====
section
/-! DEFINITION. Firmware banks (chapter 22): the manifest, its verification in staging, copying into a bank, and the fate of a
bank on trial (R435 to R446). -/

namespace Sys2Proof.Machine

/-! ## The manifest (R435, R436) -/

/-- An entry of the part table. -/
structure Part where
  type : Nat
  version : Nat
  offset : Nat
  length : Nat
  hash : List Byte
deriving DecidableEq, Repr, Inhabited

/-- Length of a manifest; of what its digest and signature cover. -/
def manifestLen : Nat := 376
def signedLen : Nat := 312

/-- Octets of the staging area; of a bank. -/
def stagingSize : Nat := 48 * 2 ^ 20
def bankSize : Nat := 32 * 2 ^ 20

/-- Entry k of the part table. -/
def partAt (m : List Byte) (k : Nat) : Part :=
  let o := 24 + 48 * k
  { type := octets m o 2, version := octets m (o + 4) 4, offset := octets m (o + 8) 4, length := octets m (o + 12) 4
    hash := (m.drop (o + 16)).take 32 }

def partsOf (m : List Byte) : List Part := (List.range 6).map (partAt m)

/-- Largest size of a part type (R436). -/
def partMax : Nat → Nat
  | 1 => 16 * 2 ^ 20
  | 2 => 4 * 2 ^ 20
  | 3 => 4 * 2 ^ 20
  | 4 => 2 * 2 ^ 20
  | 5 => 2 ^ 20
  | 6 => 4096
  | _ => 0

/-- Two parts do not overlap. -/
def disjointParts (a b : Part) : Bool := decide (a.offset + a.length ≤ b.offset) || decide (b.offset + b.length ≤ a.offset)

/-- Every part lies apart from the parts after it. -/
def allDisjoint : List Part → Bool
  | [] => true
  | p :: r => r.all (disjointParts p) && allDisjoint r

/-- Step 1 of R438. -/
def manifestFormed (m : List Byte) : Bool :=
  let ps := partsOf m
  octets m 0 4 == 0x4D4E4654 && octets m 4 2 == 1 && octets m 6 2 == 6 && octets m 8 4 == manifestLen &&
    [1, 2, 3, 4, 5, 6].all (fun t => (ps.filter (·.type == t)).length == 1) &&
    ps.all (fun p => decide (p.length ≤ partMax p.type) && p.offset % 0x10000 == 0 && decide (0x10000 ≤ p.offset)) &&
    allDisjoint ps

/-- The part of a type. -/
def partOf (t : Nat) (m : List Byte) : Part := ((partsOf m).find? (·.type == t)).getD default

/-- The manifest digest's most significant 64 bits. -/
def manifestDigest (m : List Byte) : Nat := sha64 (m.take signedLen)

/-- The figures of a manifest (R435, R436, R399). -/
def manifestFw (m : List Byte) : FwSet :=
  { digest := manifestDigest m, secVer := octets m 16 2, version := octets m 12 4, imgMajor := octets m 20 2
    imgMinor := octets m 22 2, gnssA := (partOf 2 m).version, gnssB := (partOf 3 m).version, ucode := (partOf 4 m).version
    panelWf := (partOf 5 m).version }

/-! ## Verification (R438) -/

/-- Octets of staging; erased flash reads 0xFF (log 2). -/
def stagingOctets (o n : Nat) (s : State) : List Byte := memReads 0xFF s.upd.staging o n

/-- The manifest in staging. -/
def stagedManifest (s : State) : List Byte := stagingOctets 0 manifestLen s

/-- Entries of the expected partner version part. -/
def expectedPartners (m : List Byte) (s : State) : List Nat :=
  let p := partOf 6 m
  (List.range (p.length / 8)).map fun i => beNat (stagingOctets (p.offset + 8 * i) 8 s)

/-- Whether step k of R438 holds. -/
def verifyStep (k : Nat) (s : State) : Bool :=
  let m := stagedManifest s
  let f := manifestFw m
  match k with
  | 1 => manifestFormed m
  | 2 => Cfg.ed25519 Cfg.firmwareRoot (m.take signedLen) (m.drop signedLen)
  | 3 => decide (s.upd.floor ≤ f.secVer)
  | 4 => (partsOf m).all fun p => sha256 (stagingOctets p.offset p.length s) == p.hash
  | 5 => !s.cfg.valid ||
      (f.imgMajor == s.cfg.image.formatMajor && decide (s.cfg.image.formatMinor ≤ f.imgMinor) &&
        decide (s.cfg.image.ucodeMin ≤ f.ucode) && decide (f.ucode ≤ s.cfg.image.ucodeMax))
  | _ => (expectedPartners m s).contains (fwDigest s)

/-- The first step up to `last` that fails is the fault code; 0 when every one passes. -/
def verifyStaging (last : Nat) (s : State) : Nat :=
  (((List.range last).map (· + 1)).find? fun k => !verifyStep k s).getD 0

/-! ## A bank's new content (R436, R440, R446) -/

def otherSide : Side → Side
  | .one => .two
  | .two => .one

def setBank (b : Side) (f : Bank → Bank) (s : State) : State :=
  match b with
  | .one => { s with upd := { s.upd with bankA := f s.upd.bankA } }
  | .two => { s with upd := { s.upd with bankB := f s.upd.bankB } }

/-- The cells of staging that belong to the manifest or to a part. -/
def partCells (m : List Byte) (cells : List Host.Cell) : List Host.Cell :=
  cells.filter fun c => decide (c.1 < manifestLen) ||
    (partsOf m).any fun p => decide (p.offset ≤ c.1) && decide (c.1 < p.offset + p.length)

/-- The bank that the manifest and every part in staging make: PROVISIONAL, with its chunk CRCs. -/
def newBank (byRecovery : Bool) (s : State) : Bank :=
  let m := stagedManifest s
  let content := partCells m s.upd.staging
  { state := .provisional, fw := some (manifestFw m), content, byRecovery
    chunks := (List.range 32).map fun c => crc32c (memReads 0xFF content (2 ^ 20 * c) (2 ^ 20)) }

/-- Bank b takes the content of staging and is selected; its starts count from zero (R68). -/
def installBank (b : Side) (byRecovery : Bool) (s : State) : State :=
  let s := setBank b (fun _ => newBank byRecovery s) s
  { s with upd := { s.upd with selected := b, attempts := 0, trialFailed := false } }

/-! ## The new bank on trial (R445) -/

/-- The running bank is confirmed: the security floor rises to its version. The other bank is the previous one. -/
def confirmBank (s : State) : State :=
  let v := (runningFw s).secVer
  let s := setBank s.upd.running (fun b => { b with state := .confirmed }) s
  { s with upd := { s.upd with floor := max s.upd.floor v } }

/-- The partner has failed to commit: the bank is FAILED, the previous one selected, EV_024. -/
def failBank (s : State) : State :=
  let s := setBank s.upd.running (fun b => { b with state := .failed }) s
  raise 24 { s with upd := { s.upd with selected := otherSide s.upd.running, trialFailed := true } }

/-- STANDBY or a later mode (R445), by the codes of R21. -/
def trialMode : Mode → Bool
  | .standby | .active | .hold | .maintenance => true
  | _ => false

/-- The rows of R445 for a unit that runs a PROVISIONAL bank, in order. -/
def bankDecision (s : State) : State :=
  if trialMode s.um.mode ∧ (runningBank s).state = .provisional ∧ isPair s then
    match s.pair.heard with
    | some h =>
      if h.fwDigest = fwDigest s then confirmBank s
      else match s.upd.partner with
        | some p => if p.committed = fwDigest s then s else failBank s
        | none => s
    | none => s
  else s

/-- At the entry to STANDBY: a single-unit image or a bank written by RECOVERY confirms; the count of starts clears (R68,
R445). -/
def standbyBank (s : State) : State :=
  let s := { s with upd := { s.upd with attempts := 0 } }
  if (runningBank s).state = .provisional ∧ (isSingle s ∨ (runningBank s).byRecovery) then confirmBank s else bankDecision s

end Sys2Proof.Machine
end

