-- ==== Sys2Proof/Machine/Pair.lean ====
section
/-! DEFINITION. The pair (chapter 15): Tongs links and frames, paths, roles, resynchronisation, epoch lock. -/

namespace Sys2Proof.Machine

/-! ## Links (R309) -/

def setTongs (p : Side) (l : LinkState) (s : State) : State :=
  match p with
  | .one => { s with pair := { s.pair with link1 := l } }
  | .two => { s with pair := { s.pair with link2 := l } }

/-- EV_039 for TONGS_1, EV_040 for TONGS_2. -/
def tongsEvent : Side → Nat
  | .one => 39
  | .two => 40

/-- Loss of a Tongs link in a pair image (R309). -/
def execTongsLinkDown (p : Side) (s : State) : Host.Outcome State Fault Refusal :=
  .next (if isPair s then raise (tongsEvent p) (setTongs p .down s) else s)

/-- A Tongs link comes up at 2500 Mbit/s (R309). -/
def execTongsLinkUp (p : Side) (s : State) : Host.Outcome State Fault Refusal :=
  .next (if isPair s then clearEvent (tongsEvent p) (setTongs p .up s) else s)

/-! ## Roles (R71, R318 to R321) -/

/-- The phase changes: the count of its epochs starts again, EV_119 ends with the unmirrored standby, and a COPY_START announced before
stands for COPY alone (R312). -/
def setPhase (p : Phase) (s : State) : State :=
  let s := if s.pair.phase = .unmirrored ∧ p ≠ .unmirrored then clearEvent 119 s else s
  { s with pair := { s.pair with
    phase := p, phaseEpochs := 0, auditRun := 0, auditDiff := false, copyStart := if p = .copy then s.pair.copyStart else none } }

/-- A standby unit begins to resynchronise, from JOIN (R322). -/
def startJoin (s : State) : State :=
  let s := setPhase .join s
  { s with pair := { s.pair with stepped := false } }

/-- What TNG_STATUS, TNG_ROLE_EPOCH and TNG_COUNTS show of a role change (R326). -/
def noteRole (cause : Nat) (active : UnitId) (s : State) : State :=
  { s with mir := { s.mir with pair := { s.mir.pair with
    cause, activeUnit := active, roleEpoch := s.ex.epoch, roleChanges := bump 16 s.mir.pair.roleChanges } } }

/-- A role is taken or handed over: EV_127 (R318, R321). -/
def roleChange (cause : Nat) (active : UnitId) (s : State) : State := raise 127 (noteRole cause active s)

/-- A standby unit takes the active role (R318, R50, R51). What it has heard of its partner as the active unit is no
evidence of a second active unit (R320). -/
def takeActive (cause : Nat) (s : State) : State :=
  let s := setPhase .none s
  let s := { s with
    um := { s.um with role := .active }
    ex := { s.ex with roleDue := none, resyncDue := false }
    pair := { s.pair with activeAge := 0xFFFF, heardAge := 0xFFFF, locked := false, theta := none, lockRun := 0, stepped := false } }
  roleChange cause s.um.unit s

/-- The active role at cold start (R71, R72): the epoch count starts at 0 at the entry to STANDBY; cause 0x0, and no role change before it
(R326, log 153). -/
def coldActive (s : State) : State :=
  { s with
    um := { s.um with role := .active, roleWait := 0 }
    ex := { s.ex with epoch := s.um.roleWait }
    pair := { s.pair with phase := .none }
    mir := { s.mir with pair := { s.mir.pair with cause := 0, activeUnit := s.um.unit, roleEpoch := 0 } } }

/-- Image IDs, digests and firmware digests match (R105, R324). -/
def matching (s : State) : Bool := !s.pair.imageMismatch && !s.pair.fwMismatch

/-- A unit takes the standby role: the partner's pair mode, and resynchronisation from JOIN (R71). -/
def takeStandby (h : Heard) (s : State) : State :=
  let s := startJoin { s with um := { s.um with role := .standby, roleWait := 0 }, pair := { s.pair with attempts := 0 } }
  if h.mode = .active ∨ h.mode = .maintenance then
    let s := if s.um.mode = .standby then changeMode h.mode 0 s else s
    { s with um := { s.um with maintFromStandby := h.mode == .maintenance }
             mir := { s.mir with mode := { s.mir.mode with pairMode := h.mode } } }
  else s

/-- A partner holds a role: standby where images and firmware match, no role otherwise (R71, R106, R324). A unit whose life cycle does not
permit ACTIVE does not join an active pair (R431). -/
def joinRole (h : Heard) (s : State) : State :=
  if matching s && (h.mode != .active || activePermitted s.life.state) then takeStandby h s else s

/-- The role table of R71, for a unit in STANDBY without a role. Rows in order; the last row's expiry is
UNIT_B_ROLE_WAIT_EXPIRY. -/
def roleTable (s : State) : State :=
  if s.um.mode ≠ .standby ∨ s.um.role ≠ .none then s
  else if isSingle s then (if eventActive 15 s then s else coldActive s)
  else
    match report s with
    | some h =>
      if h.role ≠ .none then joinRole h s
      else if h.mode = .standby ∧ matching s then (if s.um.unit = .a then coldActive s else s)
      else if s.um.unit = .a then coldActive s
      else s
    | none => if s.um.unit = .a then coldActive s else s

/-- A partner in STANDBY that counts as present (R71, R106). -/
def partnerInStandby (s : State) : Bool :=
  match report s with
  | some h => h.role != .none || (h.mode == .standby && matching s)
  | none => false

/-- Unit B has waited 20 000 epochs without unit A in STANDBY: it takes the active role (R71). -/
def execUnitBRoleWaitExpiry (s : State) : Host.Outcome State Fault Refusal :=
  .next (if s.um.mode = .standby ∧ s.um.role = .none ∧ s.um.unit = .b ∧ isPair s ∧ 20000 ≤ s.um.roleWait ∧
      !partnerInStandby s then coldActive s else s)

/-- Tongs path as evaluated at E+0 µs (R317). -/
def tongsUp (s : State) : Bool := (s.pair.tongsPath && decide (s.pair.tongsAge < 3)) || decide (200 ≤ s.pair.beatRun)


/-- A pair mode (R62). -/
def pairModeOf : Mode → Bool
  | .standby | .active | .maintenance => true
  | _ => false

/-- The partner's MODE is a unit mode (R62). MAINTENANCE is one only where the partner holds no role, which its ROLE says (log 10). -/
def unitModeSeen (m : Mode) : Bool := !pairModeOf m

/-- A standby unit holds the pair mode (R62): its own mode changes to it by the listed transitions, through STANDBY where none
leads there at once. -/
def followPairMode (s : State) : State :=
  let m := s.mir.mode.pairMode
  if s.um.role = .standby ∧ pairModeOf m ∧ pairModeOf s.um.mode ∧ m ≠ s.um.mode then
    let s := if transition s.um.mode m then s else changeMode .standby 0 s
    let s := changeMode m 0 s
    { s with um := { s.um with maintFromStandby := m == .maintenance } }
  else s

/-- In JOIN a standby unit knows the pair mode from the active unit's report (R62, R71); outside ACTIVE no function is in effect (R80). -/
def joinPairMode (s : State) : State :=
  match report s with
  | some h =>
    if s.um.role = .standby ∧ s.pair.phase = .join ∧ h.role = .active ∧ pairModeOf h.mode then
      let m := { s.mir.mode with pairMode := h.mode }
      { s with mir := { s.mir with mode := if h.mode = .active then m else { m with func := none, berth := 0, forced := false } } }
    else s
  | none => s

/-- The rows of R318. -/
inductive StandbyChoice where
  | takeUnitMode | remain | unmirrored | takePathsLost
deriving DecidableEq, Repr, Inhabited

/-- The first row of R318 that applies to a unit in the standby role. -/
def standbyChoice (s : State) : StandbyChoice :=
  let r := report s
  let gone : Bool := match r with
    | some h => unitModeSeen h.mode || h.role == .none
    | none => false
  let isActive : Bool := match r with
    | some h => h.role == .active
    | none => false
  if gone then .takeUnitMode
  else if tongsUp s then .remain
  else if s.pair.ringAge < 3 then (if isActive then .unmirrored else .remain)
  else if s.pair.activeAge < 3 then .unmirrored
  else .takePathsLost

/-- The unmirrored standby (R319): it emits nothing, commits its own records, and EV_119 is raised on entry. -/
def enterUnmirrored (s : State) : State :=
  if s.pair.phase = .unmirrored then s else raise 119 (setPhase .unmirrored s)

/-- Active evidence from the partner (R317, R320). -/
def activeEvidence (s : State) : Bool := decide (s.pair.activeAge < 3) || (report s).any (·.role == .active)

/-- Unit B drops its role and applies R71 again: standby, or no role in STANDBY (R320). -/
def dropAndRejoin (s : State) : State :=
  let s := { dropRole s with ex := { s.ex with emit := false } }
  let s := match report s with
    | some h => if h.role ≠ .none then joinRole h s else s
    | none => s
  if s.um.role = .none then changeMode .standby 0 (endFunction s) else s

/-- Two active units (R320): both raise EV_118 when the evidence is found, and unit A is the active one; unit B drops its role and rejoins
under R71. R320 names no EV_127. -/
def twoActive (s : State) : State :=
  let found := s.um.role == .active && isPair s && activeEvidence s
  let first := found && !s.pair.twoSeen
  let s := { s with pair := { s.pair with twoSeen := found } }
  if first then
    let s := noteRole 6 .a (raise 118 s)
    if s.um.unit = .b then dropAndRejoin s else s
  else s

/-- Both units exchange roles at E+0 µs after an accepted TNG_SWAP (R321), and each knows the other's new role. -/
def swapRoles (s : State) : State :=
  if s.mir.pair.swapDue then
    let s := { s with mir := { s.mir with pair := { s.mir.pair with swapDue := false } } }
    let heard (r : Role) : Option Heard := s.pair.heard.map fun h => { h with role := r }
    match s.um.role with
    | .active =>
      roleChange 5 (otherUnit s.um.unit) { s with um := { s.um with role := .standby }
                                                  pair := { s.pair with activeAge := 0xFFFF, heard := heard .active } }
    | .standby =>
      roleChange 5 s.um.unit { s with um := { s.um with role := .active }
                                      pair := { s.pair with activeAge := 0xFFFF, heard := heard .standby, theta := none,
                                                            locked := false, lockRun := 0 } }
    | .none => s
  else s

/-- A role due under R50 or R51 is taken at E+0 µs (R317: it takes precedence). -/
def takeRoleDue (s : State) : State :=
  match s.ex.roleDue with
  | some c => if s.um.role = .standby then takeActive c s else { s with ex := { s.ex with roleDue := none } }
  | none => s

/-! ## Resynchronisation (R322, R323) -/

/-- Every page has still to be sent. -/
def allPages : List Nat := List.range 512

/-- COPY begins: on the standby unit, and on the active unit with every page unsent; the active unit goes on announcing the epoch in
which it began (R312, R322). -/
def enterCopy (s : State) : State :=
  let s := setPhase .copy s
  { s with pair := { s.pair with copyStart := if s.um.role = .active then some (s.pair.copyStart.getD s.ex.epoch) else none
                                 stepped := false, copyEnd := none, settleEnd := none
                                 unsent := if s.um.role = .active then allPages else []
                                 pageDigests := [], pagesRx := [], pagesSeen := [] } }

/-- A divergence resynchronises the standby unit from the next E+0 µs: COPY and EV_046 (R323); the active unit sends
pages again. -/
def startResync (s : State) : State :=
  if s.ex.resyncDue then
    let s := { s with ex := { s.ex with resyncDue := false } }
    if s.pair.phase = .mirrored then
      let s := if s.um.role = .standby then raise 46 s else s
      enterCopy s
    else s
  else s

/-- The correction of the standby unit's timer after a measurement, at most 3 ticks towards θ = 0 (R315). -/
def trimEpoch (s : State) : State :=
  if s.um.role = .standby ∧ s.pair.measuredNow then
    let t := roundDiv (s.pair.theta.getD 0) 2
    { s with pair := { s.pair with trim := -(max (-3) (min 3 t)) } }
  else { s with pair := { s.pair with trim := 0 } }

/-- The JOIN timer step (R322): the standby unit's timer moves by −θ, on the scale of TX_TICK, in one step: it takes the
active unit's epoch number, and the rest of θ lengthens or shortens the epoch. Any other epoch has the correction of R315. -/
def joinStep (s : State) : State :=
  match s.pair.phase, s.pair.copyStart, s.pair.theta with
  | .join, some _, some th =>
    if s.um.role = .standby ∧ ¬ s.pair.stepped then
      let t := (s.ex.epoch : Int) * 150000 - roundDiv th 2
      let m := roundDiv t 150000
      { s with ex := { s.ex with epoch := epochWrap m.toNat }
               pair := { s.pair with stepped := true, trim := t - m * 150000, theta := none, thetas := [], txTicks := [] } }
    else trimEpoch s
  | _, _, _ => trimEpoch s

/-- Latest commit epoch S of any slow instance with basis at or before C (R322, R53). -/
def settleEpoch (cases c : Nat) : Nat :=
  let plan := c / 100 * 100 + 100
  let ba := c / 2000 * 2000 + 1000
  let case (k : Nat) := if 30 * k ≤ c then (c - 30 * k) / 2000 * 2000 + 30 * k + 30 else 0
  (List.range cases).foldl (fun a k => max a (case k)) (max plan ba)

/-- Pages received in SETTLE are applied at E+0 µs of the next epoch (R322). -/
def applyPages (s : State) : State :=
  { s with mir := s.pair.pagesRx.foldl (fun m p => Cfg.mirrorLoad m p.1 p.2) s.mir, pair := { s.pair with pagesRx := [] } }

/-- At COPY_START JOIN ends, on the standby unit once its timer has been moved: COPY (R322). -/
def execJoinEnd (s : State) : Host.Outcome State Fault Refusal :=
  .next (if s.pair.phase = .join ∧ s.pair.copyStart.any (fun c => decide (c ≤ s.ex.epoch)) ∧ (s.um.role = .active ∨ s.pair.stepped) then
      enterCopy s
    else s)

/-- Every page has been sent since its last change, as the active unit knows; the standby unit, to which no frame says so, knows that none
was sent that it lacks (R322, log 154). -/
def pagesComplete (s : State) : Bool :=
  if s.um.role = .active then s.pair.unsent.isEmpty else allPages.all fun p => s.pair.pagesSeen.contains p

/-- No page remains to be sent: as the active unit knows, and as the standby unit sees by fewer than 8 page frames in an epoch, or by the
active unit's PHASE (R322, log 154). -/
def pagesDone (s : State) : Bool :=
  if s.um.role = .active then s.pair.unsent.isEmpty
  else decide (s.pair.pageCount < 8) || (report s).any fun h => h.phase == .audit

/-- COPY ends at the end of the first epoch C in which every page has been sent in an epoch at or after its last change:
SETTLE begins (R322). -/
def execCopyEnd (s : State) : Host.Outcome State Fault Refusal :=
  .next (if s.pair.phase = .copy ∧ pagesComplete s then
      let c := s.ex.epoch
      let s := setPhase .settle s
      { s with pair := { s.pair with copyEnd := some c, settleEnd := some (settleEpoch s.cfg.image.cases.length c) } }
    else s)

/-- SETTLE ends at the end of epoch S, once no page remains to be sent: AUDIT begins (R322). -/
def execSettleEnd (s : State) : Host.Outcome State Fault Refusal :=
  .next (if s.pair.phase = .settle ∧ s.pair.settleEnd.getD 0 ≤ s.ex.epoch ∧ pagesDone s then
      setPhase .audit s
    else s)

/-- Eight consecutive epochs with every digest equal and the lock held make the standby unit MIRRORED (R322). -/
def execAuditEnd (s : State) : Host.Outcome State Fault Refusal :=
  .next (if s.um.role = .standby ∧ s.pair.phase = .audit ∧ 8 ≤ s.pair.auditRun ∧ s.pair.locked then
      let s := setPhase .mirrored s
      { s with pair := { s.pair with attempts := 0 } }
    else s)

/-- An attempt has failed (R323): COPY or SETTLE ran out of time, or AUDIT found a difference. -/
def attemptFailed (s : State) : Bool :=
  s.um.role == .standby &&
    ((s.pair.phase == .copy && decide (2000 ≤ s.pair.phaseEpochs)) ||
     (s.pair.phase == .settle && decide (s.pair.copyEnd.getD 0 + 3000 ≤ s.ex.epoch)) ||
     (s.pair.phase == .audit && s.pair.auditDiff))

/-- The next attempt starts in COPY; after three failures the unit stays in phase 6 for 120 000 epochs (R323). -/
def execResyncAttemptFailed (s : State) : Host.Outcome State Fault Refusal :=
  .next (if attemptFailed s then
      let n := s.pair.attempts + 1
      let s := raise 47 s
      let s := if 3 ≤ n then enterUnmirrored s else enterCopy s
      { s with pair := { s.pair with attempts := n, backoff := if 3 ≤ n then 120000 else 0 } }
    else s)

/-- After 120 000 epochs in phase 6 a new series of attempts starts, from JOIN, while images and firmware match (R322 to R324). -/
def execResyncBackoffEnd (s : State) : Host.Outcome State Fault Refusal :=
  .next (if s.um.role = .standby ∧ s.pair.phase = .unmirrored ∧ 3 ≤ s.pair.attempts ∧ s.pair.backoff = 0 ∧ matching s then
      startJoin { s with pair := { s.pair with attempts := 0 } }
    else s)

/-! ## Paths (R317) -/

/-- No valid Tongs frame in three epochs: the path is lost, EV_041. -/
def execTongsPathLost (s : State) : Host.Outcome State Fault Refusal :=
  .next (if isPair s ∧ timerRuns s ∧ 3 ≤ s.pair.tongsAge then
      raise 41 { s with pair := { s.pair with tongsPath := false } }
    else s)

/-- 200 consecutive epochs with a valid Tongs heartbeat: the path returns. -/
def execTongsPathReturn (s : State) : Host.Outcome State Fault Refusal :=
  .next (if isPair s ∧ timerRuns s ∧ 200 ≤ s.pair.beatRun then
      clearEvent 41 { s with pair := { s.pair with tongsPath := true } }
    else s)

/-- No ring heartbeat of the partner in three epochs: the ring path is lost, EV_042. -/
def execRingPathLost (s : State) : Host.Outcome State Fault Refusal :=
  .next (if isPair s ∧ timerRuns s ∧ 3 ≤ s.pair.ringAge then
      raise 42 { s with pair := { s.pair with ringPath := false } }
    else s)

/-- A standby unit becomes an unmirrored standby (R318, R319). -/
def execUnmirroredStandbyEntry (s : State) : Host.Outcome State Fault Refusal :=
  .next (if s.um.role = .standby ∧ isPair s ∧ standbyChoice s = .unmirrored then
      let s := enterUnmirrored s
      { s with ex := { s.ex with emit := false } }
    else s)

/-! ## Epoch lock (R315, R316) -/

/-- 200 epochs with |θ| at most 30 ticks acquire the lock. -/
def execEpochLockAcquired (s : State) : Host.Outcome State Fault Refusal :=
  .next (if s.um.role = .standby ∧ ¬ s.pair.locked ∧ 200 ≤ s.pair.lockRun then
      { s with pair := { s.pair with locked := true } }
    else s)

/-- |θ| above 300 ticks, or 20 epochs without a measurement, lose the lock (R315): EV_043, and a mirrored standby unit
goes to JOIN (R323). -/
def execEpochLockLost (s : State) : Host.Outcome State Fault Refusal :=
  .next (if s.um.role = .standby ∧ s.pair.locked ∧
      (600 < ((s.pair.theta.getD 0).natAbs) ∨ 20 ≤ s.pair.noMeasure) then
      let s := raise 43 { s with pair := { s.pair with locked := false, lockRun := 0 } }
      if phaseMirrored s.pair.phase then startJoin s else s
    else s)

/-! ## Tongs frames (R310 to R312) -/

/-- A valid frame (R310). -/
def tongsValid (h : TongsHeader) (s : State) : Bool :=
  h.fcsOk && h.crcOk && h.version == 1 && h.lengthOk && h.unit != s.um.unit

/-- A frame with a failed FCS or CRC is counted on its link (R327). -/
def countTongsCrc (h : TongsHeader) (s : State) : State :=
  if h.fcsOk && h.crcOk then s
  else match h.link with
    | .one => { s with pair := { s.pair with crc1 := bump 8 s.pair.crc1 } }
    | .two => { s with pair := { s.pair with crc2 := bump 8 s.pair.crc2 } }

/-- Reception of a frame of a type: `f` acts on the first valid copy of each TYPE, EPOCH and INDEX (R310), a copy being known for the rest
of the epoch and the whole next one; a valid frame is evidence of the Tongs path (R317). -/
def tongsRx (type : Nat) (h : TongsHeader) (f : State → State) (s : State) : State :=
  if isPair s && timerRuns s then
    if tongsValid h s then
      let s := { s with pair := { s.pair with tongsNow := true } }
      if s.pair.copies.contains (type, h.epoch, h.index) || s.pair.copiesBefore.contains (type, h.epoch, h.index) then s
      else f { s with pair := { s.pair with copies := (type, h.epoch, h.index) :: s.pair.copies } }
    else countTongsCrc h s
  else s

/-- The frame belongs to the unit's own epoch. -/
def ofEpoch (h : TongsHeader) (s : State) : Bool := h.epoch == s.ex.epoch

/-- Record frame (R44): accepted when its last octet arrives by E+63 µs, else discarded, counted in LATE, EV_036. -/
def execTongsRecordFrameRx (h : TongsHeader) (records : List InRecord) (s : State) :
    Host.Outcome State Fault Refusal :=
  .next (tongsRx 0x41 h (fun s =>
    if isMirrored s && ofEpoch h s then
      if h.atNs ≤ 63000 then
        let fresh := records.filter fun r => !s.ex.seen.contains (recordId r)
        { s with ex := { s.ex with partner := s.ex.partner ++ fresh.map fun r => (r, h.atNs) } }
      else
        raise 36 { s with pair := { s.pair with lateFrames := bump 16 s.pair.lateFrames } }
    else s) s)

/-- Acknowledgement (R44): held when received by E+80 µs. -/
def execTongsAckRx (h : TongsHeader) (ids : List RecordId) (s : State) : Host.Outcome State Fault Refusal :=
  .next (tongsRx 0x42 h (fun s =>
    if isMirrored s && ofEpoch h s && decide (h.atNs ≤ 80000) then
      { s with ex := { s.ex with ackRx := some (s.ex.ackRx.getD [] ++ ids) } }
    else s) s)

/-- Digest frame (R50): held when received by E+340 µs. -/
def execTongsDigestRx (h : TongsHeader) (body : DigestBody) (s : State) : Host.Outcome State Fault Refusal :=
  .next (tongsRx 0x43 h (fun s =>
    if ofEpoch h s && decide (h.atNs ≤ 340000) then
      { s with ex := { s.ex with partnerDigest := some body }, pair := { s.pair with digestNow := !body.overrun } }
    else s) s)

/-- Arbitration outcome (R51): held when received by E+480 µs. -/
def execTongsOutcomeRx (h : TongsHeader) (isMatch : Bool) (s : State) : Host.Outcome State Fault Refusal :=
  .next (tongsRx 0x47 h (fun s =>
    if s.ex.arbitration && ofEpoch h s && decide (h.atNs ≤ 480000) then
      { s with ex := { s.ex with partnerRerun := some isMatch } }
    else s) s)

/-- Page (R322): written into the mirrored region in COPY; applied at the next E+0 µs in SETTLE. -/
def execTongsPageRx (h : TongsHeader) (page : Nat) (content : List Byte) (s : State) :
    Host.Outcome State Fault Refusal :=
  .next (tongsRx 0x45 h (fun s =>
    if s.um.role = .standby ∧ page < 512 then
      let s := { s with pair := { s.pair with pageCount := h.count } }
      match s.pair.phase with
      | .copy => { s with mir := Cfg.mirrorLoad s.mir page content, pair := { s.pair with pagesSeen := insertNat page s.pair.pagesSeen } }
      | .settle => { s with pair := { s.pair with pagesRx := s.pair.pagesRx ++ [(page, content)] } }
      | _ => s
    else s) s)

/-- Audit digests (R322, R323): compared with the unit's own pages; a difference in MIRRORED starts COPY at the next
epoch, and in AUDIT fails the attempt. -/
def execTongsAuditRx (h : TongsHeader) (first : Nat) (digests : List Nat) (s : State) :
    Host.Outcome State Fault Refusal :=
  .next (tongsRx 0x46 h (fun s =>
    if s.um.role = .standby ∧ (s.pair.phase = .audit ∨ s.pair.phase = .mirrored) ∧ ofEpoch h s then
      let own := (List.range digests.length).map fun i => auditDigest (first + i) s
      let s := { s with pair := { s.pair with auditSeen := true } }
      if own = digests then s
      else if s.pair.phase = .mirrored then { s with ex := { s.ex with resyncDue := true } }
      else { s with pair := { s.pair with auditDiff := true } }
    else s) s)

/-- The image check of a heartbeat (R105, R106): the image IDs differ, or the digests D exchanged for this image ID do; EV_015 follows
the mismatch. -/
def checkImage (imageId : Nat) (s : State) : State :=
  let bad := imageId != s.cfg.image.imageId || (match s.pair.exchanged with
    | some e => e.1 == imageId && e.2 != beNat s.cfg.image.digest
    | none => false)
  condition 15 bad { s with pair := { s.pair with imageMismatch := bad } }

/-- The firmware check of a heartbeat (R324): EV_016 follows the mismatch. -/
def checkFirmware (fw : Nat) (s : State) : State :=
  let bad := fw != fwDigest s
  condition 16 bad { s with pair := { s.pair with fwMismatch := bad } }

/-- Number of a Tongs port among the Ethernet ports. -/
def tongsPortNo : Side → Nat
  | .one => 5
  | .two => 6

/-- The offset measurement of a standby unit from a heartbeat of the active unit that echoes one of its own (R315): 2θ in ticks. Echoes of
heartbeats sent before the timer's last step give none. The reception is stamped by the counter as every frame is (R252). -/
def measureTheta (link : Side) (body : HeartbeatBody) (rxTick : Nat) (s : State) : State :=
  if s.um.role = .standby ∧ s.pair.txTicks.contains body.echoTick then
    let th : Int := ((rxTick : Int) - body.txTick) - ((body.echoRx : Int) - body.echoTick)
    let rx := arrivalStamp (tongsPortNo link) ((rxTick : Int) - (s.ex.epoch * 150000 : Nat)) s
    let round : Int := ((body.echoRx : Int) - body.txTick) - ((body.echoTick : Int) - rxTick)
    { s with pair := { s.pair with theta := some th, measuredNow := true, beat := some (rx, body.txTime, round) } }
  else s

/-- The step that the active unit announces (R247): a mirrored standby unit applies it at the same edge, and none when the active unit
announces none any more. -/
def takeAnnouncedStep (body : HeartbeatBody) (s : State) : State :=
  if s.um.role = .standby ∧ isMirrored s then
    { s with time := { s.time with step := if s.time.counter < body.stepAt * 2 ^ 32 then some (body.stepAt, body.stepNs) else none } }
  else s

/-- The active unit's part of JOIN and its PHASE (R322): COPY_START is the first epoch after the first JOIN heartbeat;
its phase follows the standby unit's into SETTLE, AUDIT and MIRRORED. -/
def followPartner (h : TongsHeader) (body : HeartbeatBody) (s : State) : State :=
  if s.um.role = .active ∧ h.role = .standby ∧ matching s then
    match body.phase with
    | .join =>
      let s := if s.pair.phase = .join then s else setPhase .join s
      if s.pair.copyStart = none then { s with pair := { s.pair with copyStart := some (epochWrap (s.ex.epoch + 1)) } } else s
    | .audit | .mirrored => if s.pair.phase = body.phase then s else setPhase body.phase s
    | _ => s
  else s

/-- Heartbeat on Tongs (R312): path and role evidence, image and firmware checks, epoch offset, announcements. A
single-unit image that hears another XN-960 raises EV_015 (R107). -/
def execTongsHeartbeatRx (h : TongsHeader) (body : HeartbeatBody) (rxTick : Nat) (s : State) :
    Host.Outcome State Fault Refusal :=
  .next (
    if isSingle s && timerRuns s then
      (if tongsValid h s then raise 15 { s with pair := { s.pair with tongsNow := true } } else s)
    else tongsRx 0x44 h (fun s =>
      let s := { s with pair := { s.pair with
        tongsBeatNow := true, partnerClear := s.pair.partnerClear || !body.mirrored, echoTick := body.txTick, echoRx := rxTick
        heard := some { epoch := h.epoch, role := h.role, mode := body.mode, mirrored := body.mirrored
                        single := body.single, imageId := body.imageId, fwDigest := body.fwDigest
                        phase := body.phase }
        exchanged := match body.digest with
          | some d => some (body.imageId, d)
          | none => s.pair.exchanged
        heardAge := 0 } }
      let s := bankDecision (checkFirmware body.fwDigest (checkImage body.imageId s))
      let s := followPartner h body s
      if h.role = .active then
        let s := takeAnnouncedStep body (measureTheta h.link body rxTick s)
        { s with pair := { s.pair with
            copyStart := if body.copyStart ≠ 0 ∧ s.um.role = .standby ∧ s.pair.phase = .join then some body.copyStart else s.pair.copyStart } }
      else s) s)

/-- Update status frame (R444): the latest is held, and a bank on trial is decided (R445). -/
def execTongsUpdateStatusRx (h : TongsHeader) (body : UpdateStatusBody) (s : State) : Host.Outcome State Fault Refusal :=
  .next (tongsRx 0x48 h (fun s => bankDecision { s with upd := { s.upd with partner := some body } }) s)

/-! ## Sending -/

/-- A unit or its partner joins over Tongs: in STANDBY without a role, or in JOIN. The full digest D is then exchanged (R105); the
times at which it goes, and the heartbeat as its carrier, are the model's choice (log 106). -/
def exchangesDigest (s : State) : Bool :=
  (s.um.mode == .standby && (s.um.role == .none || s.pair.phase == .join)) ||
    (match report s with
      | some h => (h.mode == .standby && h.role == .none) || h.phase == .join
      | none => false)

/-- The heartbeat of E+10 µs (R312). -/
def heartbeatBody (ticks : Nat) (s : State) : HeartbeatBody :=
  let active := s.um.role == .active
  { mode := s.um.mode, mirrored := isMirrored s, single := s.cfg.image.single, locked := s.pair.locked
    phase := s.pair.phase, holdCause := s.um.holdCause, imageId := s.cfg.image.imageId, fwDigest := fwDigest s
    txTick := s.ex.epoch * 150000 + ticks, txTime := readingAt ticks s, echoTick := s.pair.echoTick
    echoRx := s.pair.echoRx, copyStart := if active then s.pair.copyStart.getD 0 else 0
    stepAt := if active then (s.time.step.map (·.1)).getD 0 else 0
    stepNs := if active then (s.time.step.map (·.2)).getD 0 else 0
    digest := if exchangesDigest s then some (beNat s.cfg.image.digest) else none }

/-- The ring heartbeat (R281). -/
def ringHeartbeat (s : State) : RingHeartbeat :=
  { epoch := s.ex.epoch % 2 ^ 32, unit := s.um.unit, role := s.um.role, mode := s.um.mode, mirrored := isMirrored s
    single := s.cfg.image.single, holdCause := s.um.holdCause, imageId := s.cfg.image.imageId, fwDigest := fwDigest s }

/-- The unit has left LOAD with an image (R63, R312). -/
def pastLoad (s : State) : Bool := timerRuns s && s.um.mode != .load && s.cfg.valid

/-- An own ring frame goes out with the next HSR sequence number (R266). -/
def sendRing (f : OutFrame) (s : State) : State :=
  let s := send f s
  { s with rng := { s.rng with hsrSeq := (s.rng.hsrSeq + 1) % 65536 } }

/-- At E+10 µs the Tongs heartbeat of a pair (R312) and, while the relay is open, the ring heartbeat (R281); a single
unit sends no Tongs frame (R325). -/
def execHeartbeatSend (ticks : Nat) (s : State) : Host.Outcome State Fault Refusal :=
  .next (if pastLoad s then
      let s := if isPair s then
          let b := heartbeatBody ticks s
          { send (.heartbeat b) s with pair := { s.pair with txTicks := (b.txTick :: s.pair.txTicks).take 2 } }
        else s
      if s.rng.relayOpen then sendRing (.ringHeartbeat (ringHeartbeat s)) s else s
    else s)

/-- At E+20 µs of every 200th epoch a unit of a pair that has left LOAD sends its update status (R444). -/
def execUpdateStatusSend (s : State) : Host.Outcome State Fault Refusal :=
  .next (if isPair s ∧ pastLoad s ∧ s.ex.epoch % 200 = 0 then
      send (.updateStatus { state := s.upd.state, provisional := (runningBank s).state == .provisional
                            committed := s.upd.commit.getD 0 }) s
    else s)

/-- Audit frame of the active unit in AUDIT and MIRRORED (R311). -/
def sendAudit (s : State) : State :=
  if s.um.role = .active ∧ (s.pair.phase = .audit ∨ s.pair.phase = .mirrored) then
    let first := 64 * (s.ex.epoch % 8)
    send (.audit first ((List.range 64).map fun i => auditDigest (first + i) s)) s
  else s

/-- Page frames of the active unit in COPY and SETTLE (R322): the pages written in the epoch first, then pages not yet
sent, at most 8 in all. A page counts as written when its content has changed (log 146). REMAINING shows what there is to send before
they go (R327). -/
def sendPages (s : State) : State :=
  if s.um.role = .active ∧ (s.pair.phase = .copy ∨ s.pair.phase = .settle) then
    let dig := allPages.map fun p => (p, auditDigest p s)
    let written := allPages.filter fun p =>
      lookupNat p s.pair.pageDigests != none && lookupNat p s.pair.pageDigests != lookupNat p dig
    let order := written ++ s.pair.unsent.filter fun p => !written.contains p
    let now := order.take 8
    let s := (mapAt now fun i p => (i, p)).foldl (fun s p => send (.page p.1 now.length p.2 (Cfg.mirrorPage s.mir p.2)) s) s
    { s with pair := { s.pair with unsent := order.drop 8, pageDigests := dig, remaining := order.length } }
  else { s with pair := { s.pair with remaining := s.pair.unsent.length } }

/-- Page and audit frames, once in an epoch (R311). -/
def sendMirror (s : State) : State :=
  if isPair s && timerRuns s && !s.pair.mirrorSent then
    let s := sendAudit (sendPages s)
    { s with pair := { s.pair with mirrorSent := true } }
  else s

end Sys2Proof.Machine
end

