-- ==== Sys2Proof/Machine/Registers.lean ====
section
/-! DEFINITION. The register file (chapter 19 and the register tables of every chapter): which addresses are assigned, what
each register reads, and which may be written. A snapshot is a copy of it (R55). -/

namespace Sys2Proof.Machine

/-! ## Words -/

def wn (n : Nat) : Word := BitVec.ofNat 32 n

/-- The two words of a 64-bit value, most significant first (R13). -/
def pairWords (v : Nat) : List Word := [wn (v / 2 ^ 32), wn v]

def nanS : Word := 0x80000000
def nanU : Word := 0xFFFFFFFF

/-- A signed value of 32 bits, NaN out of range. -/
def intWord (v : Int) : Word := wordS (rangeS v)

/-- Consecutive registers at a base. -/
abbrev RegRun := Nat × List Word

/-! ## Identity, mode, events, supply, configuration -/

/-- ID_FW_VERSION to ID_LIMITS (R399). -/
def idRegs (s : State) : List RegRun :=
  let f := runningFw s
  [(0x0, [0x584E3936, 0x42524C52, wn f.version] ++ pairWords (fwDigest s) ++
    [pack [(f.imgMajor, 16, 16), (f.imgMinor, 16, 0)], wn f.ucode, pack [(f.gnssA, 16, 16), (f.gnssB, 16, 0)],
     wn (f.panelWf % 65536), 0x10084008])]

/-- MOD_ and CYC_ registers (R400). The pair mode reads 0 before the first entry to STANDBY, the function outside ACTIVE (R80). -/
def modeRegs (s : State) : List RegRun :=
  let m := s.mir.mode
  let on := m.pairMode == .active
  [(0x10000, [wn (modeCode m.pairMode),
    pack [(if on && m.func == some .berthPush then m.berth else 0, 3, 16), (flag (on && m.forced), 1, 12), (if on then funcNum m.func else 0, 4, 8)],
    modAvail s, 0, wn m.modeEpoch, wn m.funcEpoch, wn (s.ex.epoch / 2 ^ 32 % 65536), wn s.ex.epoch])]

/-- Bits of bank b of a set of sources. -/
def bankBits (l : List Nat) (b : Nat) : Word := wn (bitSet ((l.filter fun e => e / 32 == b).map (· % 32)))

/-- EVT_ registers (R367). -/
def evtRegs (s : State) : List RegRun :=
  let e := s.mir.evt
  let banks (f : Nat → Word) := (List.range 4).map f
  [(0x20000, banks (bankBits e.active) ++ banks (bankBits e.unack) ++ banks (fun b => e.masks.getD b 0) ++
    [0, pack [((e.last.map fun x => (attrOf x).sev.code).getD 0, 2, 8), (e.last.getD 0, 7, 0)], wn e.lastEpoch])]

/-- SUP_ and CLK_ registers (R402). -/
def supRegs : List RegRun :=
  [(0x30000, [0x10000D00, 0x0F000000, 0x50005A00]), (0x30100, [0x0960000A, 0x04030608, 0x1E186000])]

/-- CFG_ registers (R108): each reads its reset value until the image is verified, but for CFG_FAULT. -/
def cfgRegs (s : State) : List RegRun :=
  let c := s.cfg
  let i : Image := if c.valid then c.image else {}
  let digest := if c.valid then i.digest else []
  [(0x40000, [pack [(if c.valid then (if i.single then 1 else 2) else 0, 2, 1), (flag c.valid, 1, 0)], wn (c.fault % 256)] ++
    pairWords i.imageId ++ (List.range 8).map (fun k => wn (octets digest (4 * k) 4)) ++
    [pack [(i.formatMajor, 16, 16), (i.formatMinor, 16, 0)], wn i.sequence, wn i.nymnil, wn i.signer, wn i.length,
     wn (i.sections % 32768)])]

/-! ## Solver -/

/-- MRT_ registers (R128). -/
def mrtRegs (s : State) : List RegRun :=
  let m := s.mir.mrt
  [(0x100000, [wn m.status, wn m.lastOrigin, wn m.lastEpoch, wn (m.lastVar % 65536)] ++
    (List.range 6).map (fun k => let c := m.fails.getD k {}; pack [(c.pivot, 16, 16), (c.other, 16, 0)]) ++
    [0, wn (m.unitMask % 65536)])]

/-- A warm-start register (R149). -/
def warmWord (w : WarmReg) : Word := pack [(w.mode, 2, 30), (w.cause, 2, 28), (w.matched, 12, 12), (w.total, 12, 0)]

/-- LDL_ registers (R149). -/
def ldlRegs (s : State) : List RegRun :=
  let l := s.mir.ldl
  [(0x100100, pairWords l.alcIdent ++ [warmWord l.alcWarm, warmWord l.mpcWarm, warmWord l.cqaWarm, warmWord l.baWarm,
    pack [(l.abmHeld, 8, 24), (l.estSkip, 8, 16), (l.mpcKept, 8, 8), (flag l.baKept, 1, 4), (flag l.alcZero, 1, 3), (l.alcHold, 3, 0)],
    wn ((s.mir.mpc.plan.map (·.basis)).getD 0),
    pack [(l.coldBa, 8, 24), (l.coldCqa, 8, 16), (l.coldMpc, 8, 8), (l.coldAlc, 8, 0)], 0])]

/-! ## Control functions -/

/-- One slot of bundle adjustment (R169): a component that the slot does not estimate reads NaN from the end of LOAD. -/
def slotRegs (k : Nat) (s : State) : RegRun :=
  let b := s.mir.ba.slots.getD k {}
  let shown (on : Bool) (q : Q) : Word := if s.cfg.valid && !on then nanS else wordS q
  let lever := slotLever k s
  let pend (q : Q) : Word := if b.state = 2 then wordS q else nanS
  (0x200100 + 0x40 * k,
    [pack [(b.seq, 8, 24), (flag b.accepted, 1, 8), (b.state, 3, 0)], shown lever b.inForce.dx, shown lever b.inForce.dy,
     shown lever b.inForce.dz, shown (slotAngle k s) b.inForce.dpsi, pend b.pending.dx, pend b.pending.dy, pend b.pending.dz,
     pend b.pending.dpsi])

/-- Slots in a state. -/
def slotsIn (st : Nat) (s : State) : Nat := bitSet ((List.range 11).filter fun k => (s.mir.ba.slots.getD k {}).state == st)

/-- EST_ registers (R169). -/
def estRegs (s : State) : List RegRun :=
  let e := s.mir.est
  let x := e.est
  let q (v : Q) : Word := if e.shown then wordS v else nanS
  let a := s.mir.abm
  let m (v : Q) : Word := if a.stepped then wordS v else nanS
  [(0x200000, [pack [(e.cause, 2, 6), (flag e.holdover, 1, 5), (flag (e.restartPending && positionFunc s), 1, 4),
      (flag e.covOk, 1, 3), (flag e.skipped, 1, 2), (flag e.updated, 1, 1), (flag e.gate, 1, 0)],
      q x.north, q x.east, q x.hdg, q x.u, q x.v, q x.r, q x.envN, q x.envE, q x.envYaw, q x.sigPos, q x.sigHdg] ++
      pairWords e.tov ++ [wn e.updateEpoch, wn (min e.gateRun 65535), 0]),
   (0x200080, [pack [(flag (baReady s), 1, 31), (slotsIn 3 s, 11, 16), (slotsIn 2 s, 11, 0)], 0, wn s.mir.ba.epoch])] ++
  (List.range 11).map (fun k => slotRegs k s) ++
  [(0x200400, [pack [(a.berth, 3, 5), (flag a.slip, 1, 3), (flag a.compLimit, 1, 2), (flag a.held, 1, 1), (flag a.contact, 1, 0)],
      m a.fn, m a.ft, m a.d]),
   (0x200440, (List.range 16).map fun j => m (a.az.getD j none))]

/-- ALC_ registers of one thrust unit (R194); its values stand until the first allocation's assembly. -/
def alcUnitRegs (j : Nat) (s : State) : RegRun :=
  let u := unitState j s
  (0x201100 + 0x10 * j,
    if declared j s then
      [pack [(if u.excluded then u.cause else 0, 4, 28), (flag u.sector, 1, 9), (flag u.limit, 1, 8),
         (if u.excluded then min u.clear 255 else 0, 8, 0)], wordS u.fx, wordS u.fy, wordU u.p]
    else if s.mir.alc.begun then [0xF0000000, nanS, nanS, nanU]
    else [0, 0, 0, 0])

/-- ALC_ registers of bus section k + 1 (R194). -/
def alcSectionRegs (k : Nat) (s : State) : RegRun :=
  let x := s.mir.alc.sections.getD k {}
  (0x201200 + 0x10 * k,
    if k < sectionCount s then
      (if s.mir.alc.begun then
        [pack [(flag x.lost, 1, 31), (flag (sectionStale x), 1, 30), (flag x.floor, 1, 29),
           (if x.reported.isNone then 0xFFFF else min x.age 0xFFFF, 16, 0)], wordU x.limit, wordU x.power]
      else [0, 0, 0])
    else if s.mir.alc.begun then [0, nanU, nanU]
    else [0, 0, 0])

/-- An angle as it is reported: within −π to +π, without −π (R19). -/
def angleWord (w : Word) : Word := wordS ((wordQ w).map wrapAngle)

/-- Saturated axes (R177). -/
def satBits (s : State) : Nat := bitSet ((List.range 3).filter fun k => decide (20 ≤ s.mir.alc.satRun.getD k 0))

/-- ALC_ registers (R194). -/
def alcRegs (s : State) : List RegRun :=
  let a := s.mir.alc
  let some' (f : SectionState → Bool) := a.begun && (List.range (sectionCount s)).any fun k => f (a.sections.getD k {})
  [(0x201000, [pack [(flag (s.mir.mode.func == some .thrusterTest), 1, 5), (flag (some' sectionStale), 1, 4),
      (flag (some' (·.floor)), 1, 3), (satBits s, 3, 0)],
      wordS a.demandX, wordS a.demandY, wordS a.demandN, wordS a.residX, wordS a.residY, wordS a.residN, 0,
      a.pushForce, a.test, a.testThrust, angleWord a.testAz])] ++
  (List.range 16).map (fun j => alcUnitRegs j s) ++ (List.range 8).map (fun k => alcSectionRegs k s)

/-- MPC_ registers (R195). -/
def mpcRegs (s : State) : List RegRun :=
  let m := s.mir.mpc
  let rooms := s.cfg.image.rooms.length
  let stage : Nat × Nat := match m.plan with
    | some p => stageInForce p s.ex.epoch
    | none => (0, 0)
  let beyond : Bool := match m.plan with
    | some p => beyondPlan p s.ex.epoch
    | none => false
  [(0x202000, [pack [((m.plan.map (·.socLow)).getD 0, 8, 8), (flag beyond, 1, 2), (flag m.kept, 1, 1), (flag m.plan.isSome, 1, 0)],
      wn (min stage.1 239), m.targetN, m.targetE, angleWord m.targetHdg, 0,
      pack [(flag m.accepted, 1, 31), (m.count, 6, 8), (if s.mir.mode.func = some .autoTrack then m.leg else 0, 6, 0)]]),
   (0x202080, (List.range 8).map fun r => if r < rooms then wordU (m.soc.getD r none) else nanU),
   (0x2020A0, (List.range 8).map fun r => if r < rooms then wordU ((m.plan.map fun p => p.socMin.getD r none).getD none) else nanU)] ++
  mapAt m.waypoints fun i w => (0x202100 + 0x10 * i, [w.north, w.east, angleWord w.hdg, w.spd])

/-- Number of cases of the image with a verdict. -/
def verdicts (v : Nat) (s : State) : Nat :=
  ((List.range (min 64 s.cfg.image.cases.length)).filter fun c => (s.mir.cqa.cases.getD c {}).verdict == v).length

/-- CQA_ registers (R196): a case that the image does not use reads its reset values. -/
def cqaRegs (s : State) : List RegRun :=
  let q := s.mir.cqa
  [(0x203000, [pack [(q.cls, 2, 30), (flag q.sweep, 1, 29), (verdicts 0 s, 7, 22), (verdicts 3 s, 7, 15), (verdicts 2 s, 7, 8),
      (verdicts 1 s, 7, 0)]])] ++
  (List.range 64).map fun c =>
    let x := q.cases.getD c {}
    let v (w : Word) (nan : Word) : Word := if x.verdict = 0 then nan else w
    (0x203100 + 0x10 * c,
      match s.cfg.image.cases[c]? with
      | some d =>
        if x.committed then
          [pack [(x.verdict, 2, 30), (flag x.converged, 1, 29), (d.kind, 3, 24), (d.index, 8, 16), (x.socMin, 8, 8), (x.cause, 5, 0)],
           v (wordS x.excPos) nanS, v (wordS x.excHdg) nanS, v (wordU x.util) nanU]
        else [0, nanS, nanS, nanU]
      | none => [0, nanS, nanS, nanU])

/-! ## Whisk -/

/-- Bits of a list where a predicate holds. -/
def bitsWhere {α : Type} (f : α → Bool) (l : List α) : Nat :=
  bitSet ((List.range l.length).filter fun i => ((l[i]?).map f).getD false)

/-- Whole seconds counted towards leaving the time-suspect state (R215, R220). -/
def agreeSeconds (sus : Bool) (run : Nat) : Nat := if sus then min 60 (run / 2000) else 0

/-- STATE of a source. -/
def sourceWord (x : SourceState) (group : Nat) : Word :=
  pack [(agreeSeconds x.suspect x.agreeRun, 6, 8), (group, 4, 4), (flag x.suspect, 1, 3), (x.use, 3, 0)]

/-- WSK_ registers (R220); they read zero until Whisk first runs (R398). -/
def wskRegs (s : State) : List RegRun :=
  let w := s.mir.wsk
  let v (x : Word) : Word := if w.ran then x else 0
  let dr (n : Nat) : Word := wn (min n 0xFFFFFFFF)
  [(0x300000, [v (pack [(flag w.windValid, 1, 15), (flag w.holdover, 1, 14), (flag w.hdg.lost, 1, 13), (flag w.inertial, 1, 12),
      (w.hdg.dispute, 2, 10), (w.pos.dispute, 2, 8), (w.hdg.raw, 2, 6), (w.hdg.grade, 2, 4), (w.pos.raw, 2, 2), (w.pos.grade, 2, 0)]),
      v (wordS w.north), v (wordS w.east), v (wordS w.heading), v (wordS w.velU), v (wordS w.velV), v (wordS w.motion.roll),
      v (wordS w.motion.pitch), v (wordS w.motion.heave), v (wordS w.windX), v (wordS w.windY), v (wordS w.windN)] ++
      pairWords w.tov ++ [v (wordU w.agePos), v (wordU w.ageHdg), dr w.pos.zeroRun, 0, w.exclude,
      pack [(bitsWhere (·.suspect) w.winds, 4, 16), (bitsWhere (·.suspect) w.mrus, 3, 13), (bitsWhere (·.suspect) w.hdgs, 5, 8),
        (bitsWhere (·.suspect) w.refs, 8, 0)], dr w.hdg.zeroRun, v (wordS w.draft)])] ++
  (mapAt w.refs fun i x =>
    (0x300100 + 0x20 * i, [v (sourceWord x ((s.cfg.image.refs[i]?).map (·.group) |>.getD 0)), v (wordS x.north), v (wordS x.east),
      v (wordS x.gate), v (wordS x.drift), v (wordU x.age)])) ++
  mapAt w.hdgs fun h x =>
    (0x300200 + 0x10 * h, [v (sourceWord x ((hdgDecl h s).map (·.group) |>.getD 0)), v (wordS x.north), v (wordS x.gate),
      v (wordU x.age)])

/-! ## GNSS, time, Sieve, ring, field buses -/

/-- The record's position is valid and within the maximum age of its reference (R202, R239). -/
def posOk (ref : RefKind) (r : Option InRecord) (s : State) : Bool :=
  match r, s.cfg.image.refs.find? (·.kind == ref) with
  | some r, some d => gnssValid r.payload && decide (cutoffNs s - (r.tov : Int) ≤ (d.maxAge : Int))
  | some r, none => gnssValid r.payload
  | none, _ => false

/-- One antenna of an engine (R239): its most recent committed record, with NaN values while it is absent or invalid. -/
def antennaRegs (base : Nat) (r : Option InRecord) : RegRun :=
  match r with
  | none => (base, [0, 0, 0, nanS, nanS, nanS, nanS, nanS, nanS, nanS, nanU])
  | some r =>
    let p := r.payload
    let ok := gnssValid p
    let v (o : Nat) : Word := if ok then wn (octets p o 4) else nanS
    (base, [pack [(octets p 44 2, 16, 16), (unitCode r.origin, 1, 15), (octets p 2 1, 3, 8), (octets p 1 1, 2, 6), (min 63 (octets p 3 1), 6, 0)]] ++
      pairWords (octets p 4 8) ++ [v 12, v 16, v 20, v 24, v 28, v 32, v 36, if ok then wn (octets p 40 4) else nanU])

/-- The most recent committed record of an engine: antenna 0's, or antenna 1's when it is newer (R239). -/
def latestFix (g : GnssRef) : Option InRecord :=
  match g.ant0, g.ant1 with
  | some a, some b => if a.tov < b.tov then some b else some a
  | some a, none => some a
  | none, b => b

/-- Ranging systems used in the most recent solution: bit k is system k of R221, whose nibbles of SYS stand GPS first, in the records of
both antennas (R230, R239). -/
def systemsUsed (g : GnssRef) : Nat :=
  match latestFix g with
  | none => 0
  | some r =>
    let l := ([g.ant0, g.ant1].filterMap id).filter (·.tov == r.tov)
    bitSet ((List.range 4).filter fun k => l.any fun x => decide (octets x.payload 44 2 / 16 ^ (3 - k) % 16 ≠ 0))

/-- GNA_ or GNB_ registers at a base (R239). -/
def gnssRegs (base : Nat) (kind : RefKind) (rate : Nat) (g : GnssRef) (s : State) : List RegRun :=
  let r := latestFix g
  let ofs (o : Nat) : Word := match r with
    | some x => if gnssValid x.payload then wn (octets x.payload o 4) else nanS
    | none => nanS
  [(base, [pack [(flag (r.any fun x => (octets x.payload 2 1).testBit 0), 1, 8),
      (systemsUsed g, 4, 4), (flag g.lost, 1, 2),
      (flag (posOk kind g.ant1 s), 1, 1), (flag (posOk kind g.ant0 s), 1, 0)],
      g.enable, wn (if s.cfg.valid then rate % 256 else 0), ofs 48, ofs 52, ofs 56]),
   antennaRegs (base + 0x100) g.ant0, antennaRegs (base + 0x140) g.ant1]

/-- TIM_ registers (R254). -/
def timRegs (s : State) : List RegRun :=
  let t := s.mir.tim
  let o := s.cfg.image.sourceOrder
  [(0x500000, [pack [(flag t.extrap, 1, 7), (t.source, 2, 5), (flag t.neverLocked, 1, 4), (flag t.ocxoUnstable, 1, 3), (flag t.step, 1, 2),
      (flag t.slew, 1, 1), (flag t.holdover, 1, 0)]] ++ pairWords t.cutoff ++
      [wn t.uncert, (match t.utc with | some v => pack [(1, 1, 31), ((v % 65536).toNat, 16, 0)] | none => 0),
       if s.cfg.valid then pack [(o.getD 0 0, 4, 8), (o.getD 1 0, 4, 4), (o.getD 2 0, 4, 0)] else 0x123])]

/-- SIV_ registers (R264). -/
def sivRegs (s : State) : List RegRun :=
  let l := s.mir.siv
  [(0x600000, [pack [(bitsWhere (·.fault) l, 16, 16), (bitsWhere (·.valid) l, 16, 0)]])] ++
  mapAt l fun n c =>
    let d := s.cfg.image.chains.getD n {}
    let filter := d.mode == 1
    (0x600100 + 0x20 * n,
      [c.ctrl, pack [(unitCode c.origin, 1, 31), (d.mode, 2, 28), (if filter then d.rate else 0, 4, 24),
         (flag (d.current && d.mode != 0), 1, 23), (c.phase, 2, 18), (c.setShown, 2, 16), (c.fade, 8, 8), (if filter then d.taps else 0, 8, 0)],
       if c.valid then wordS c.value else nanS] ++ pairWords c.tov)

/-- RNG_ registers (R283). -/
def rngRegs (s : State) : List RegRun :=
  let fb (j : Nat) : Option Feedback := (unitState j s).feedback
  let loss := bitSet ((List.range 16).filter fun j => (fb j).any (·.lossOfCommand))
  let fresh := bitSet ((List.range 16).filter fun j => (fb j).isSome && decide ((unitState j s).fbMissing < 20))
  [(0x700000, [pack [(s.mir.pair.seq, 16, 16), (flag (s.mir.mode.pairMode == .active), 1, 0)], pack [(loss, 16, 16), (fresh, 16, 0)]])] ++
  (List.range 16).map fun j =>
    (0x700100 + 0x10 * j,
      match fb j with
      | some f => [pack [(f.fbSeq, 16, 16), (feedbackStatus f, 6, 8), (min 255 (unitState j s).fbMissing, 8, 0)],
                   wordS f.thrust, wordS (f.azimuth.map wrapAngle), wordU f.power]
      | none => [0xFF, nanS, nanS, nanU])

/-- CAN_ registers (R307). -/
def canRegs (s : State) : List RegRun :=
  let f := s.mir.fld
  let p : Option PanelState := f.command.bind fun k => f.panels[k]?
  let valid := bitSet ((List.range 4).filter fun k => panelValid k s)
  let joy (g : PanelState → Q) : Word := wordS (p.bind g)
  [(0x800000, [pack [(f.command.getD 7, 3, 16), (valid, 4, 8), (flag f.plantStale, 1, 0)], joy (·.surge), joy (·.sway), joy (·.yaw),
      pack [(f.plantTies, 8, 24), (f.plantRooms, 8, 16), (min f.plantAge 0xFFFF, 16, 0)], 0]),
   (0x800100, f.warn)]

/-! ## Pair, Trivet, commands -/

/-- TNG_STATUS PAIR (R326). -/
def pairField (s : State) : Nat :=
  if !s.cfg.valid || s.cfg.image.single then 0
  else match s.pair.phase with
    | .mirrored => 4
    | .join | .copy | .settle | .audit => 3
    | .unmirrored => 2
    | .none => if (report s).isSome then 2 else 1

/-- TNG_ registers (R326). -/
def tngRegs (s : State) : List RegRun :=
  let p := s.mir.pair
  [(0x900000, [pack [(p.cause, 4, 8), (unitCode p.activeUnit, 1, 4), (pairField s, 3, 0)], wn p.roleEpoch, 0,
      pack [(p.roleChanges, 16, 16), (p.divergences, 16, 0)]])]

/-- Latched trips of a channel. -/
def tripBits (c : SafeChannel) : Nat := flag c.slt + 2 * flag c.sts + 4 * flag c.sls + 8 * flag c.estop

/-- TRV_ registers (R348). -/
def trvRegs (s : State) : List RegRun :=
  let t := s.mir.trv
  [(0xA00000, [pack [(bitsWhere (·.latched) t.channels, 8, 8), (flag t.contact, 1, 7), (flag t.takeover, 1, 6), (flag t.estop, 1, 5),
      (flag t.blind, 1, 4), (flag t.berth.isSome, 1, 3), (t.berth.getD 0, 3, 0)],
      pack [(bitsWhere (·.fault) t.pairs, 16, 16), (bitsWhere (·.active) t.pairs, 16, 0)], wordS t.speed, 0, 0]),
   (0xA00100, mapAt t.channels fun k c =>
      pack [((channelUnit k s).getD 0xF, 4, 28), (flag c.permit, 1, 23), (tripBits c, 4, 16), (min c.run 0xFFFF, 16, 0)])]

/-- Registers of commands alone, which read zero (R368, R418, R433, R447). -/
def commandRegs (s : State) : List RegRun :=
  let fields := if s.cfg.valid then bitsWhere (·.isSome) s.cfg.image.fields else 0
  [(0xB00000, List.replicate 5 0), (0xC00000, [wn (fields % 256), 0]), (0xD00000, List.replicate 5 0), (0xE00000, [0, 0])]

/-! ## The unit-local page -/

/-- Y_PPB: the fractional frequency error in ppb; NaN before a source has been selected (R404, R242). -/
def yPpb (t : TimeUnit) : Q := if t.neverLocked then none else some (roundDiv (t.freq * 1000000000) (2 ^ 48))

/-- LOC_ registers of R404. -/
def locUnitRegs (s : State) : List RegRun :=
  let u := s.sup
  [(0xFF0000, pairWords Cfg.serial ++
      [pack [(Cfg.boardRevision, 8, 24), (Cfg.asicRevision, 8, 16), (unitCode s.um.unit, 1, 0)]]),
   (0xFF0010, [pack [(flag (s.um.mode == .maintenance && !s.um.maintFromStandby), 1, 8), (modeCode s.um.mode, 3, 0)],
      wn (s.um.holdCause % 256), 0, 0, wn (min s.hap.skips 0xFFFF), wn (causeCode s.um.resetCause)]),
   (0xFF0030, [pack [(flag u.keyPresent, 1, 31), (u.keyChanges, 16, 0)]]),
   (0xFF0040, [pack [(code16 u.pwrA, 16, 16), (code16 u.pwrB, 16, 0)],
      pack [(flag u.warn, 1, 31), (flag (u.aAbsent || u.aCut), 1, 30), (flag (u.bAbsent || u.bCut), 1, 29), (flag u.holdup, 1, 28), (code16 u.bus, 16, 0)],
      wn (code16 u.power), pack [(codeS 16 u.base, 16, 16), (codeS 16 u.asic, 16, 0)],
      pack [(flag u.stable, 1, 31), (u.warmS, 12, 16), (codeS 16 (yPpb s.time), 16, 0)]]),
   (0xFF0B00, [pack [(u.frameErr, 8, 24), (if u.svcUp then 2 else 0, 2, 4), (linkCode u.stn2, 2, 2), (linkCode u.stn1, 2, 0)]])]
where
  /-- CAUSE of LOC_RESET_CAUSE. -/
  causeCode : ResetCause → Nat
    | .powerApplied => 0
    | .supplySupervisor => 1
    | .clockMonitor => 2
    | .locRestart => 3
    | .endOfRecovery => 4

/-- LOC_SKL_ and LOC_LDL_ registers (R150). -/
def locFabricRegs (s : State) : List RegRun :=
  let f := s.fab
  [(0xFF0400, [pack [(flag (!f.marked.isEmpty), 1, 16), (bitSet f.marked, 8, 8), (f.test.getD 0xF, 4, 4), (f.variant.getD 8, 4, 0)],
      wn (min f.switches 0xFFFFFFFF), wn (f.reloc % 2 ^ 21), pack [(min f.peak 512, 10, 16), (min f.stalls 0xFFFF, 16, 0)], wn (min f.ecc 0xFFFFFFFF)])]

/-- Channels of an antenna in lock, and its signals flagged multipath (R240). -/
def inLock (a : AntennaPort) : Nat := min 60 (a.channels.filter (·.lock.isSome)).length
def flagged (a : AntennaPort) : Nat := min 63 (a.channels.filter (·.flagged)).length

/-- LOC_GNA_ or LOC_GNB_ registers (R240). -/
def locGnssRegs (base : Nat) (g : Engine) : RegRun :=
  (base, [pack [(inLock g.ant1, 6, 24), (flagged g.ant1, 6, 16), (inLock g.ant0, 6, 8), (flagged g.ant0, 6, 0)],
    pack [(min 255 g.ant1.current, 8, 16), (min 255 g.ant0.current, 8, 8), (g.ant1.state, 2, 2), (g.ant0.state, 2, 0)],
    wordS (if g.tofsAge ≤ 4000 then g.tofs else none)])

/-- Source codes of R243. -/
def sourceCode : Option TimeSource → Nat
  | none => 0
  | some .gnssA => 1
  | some .gnssB => 2
  | some .ptp => 3
  | some .pair => 4

/-- Latest offset of the selected source, ps; NaN with no selected source or beyond range (R255). -/
def selectedOffset (t : TimeUnit) : Q :=
  if sourceCode t.source = 0 then none else ((t.quals.getD (sourceCode t.source - 1) {}).offset).bind rangeS

/-- PTP state of a station port (R255). -/
def ptpWord (p : PtpPort) : Word := pack [(p.state, 4, 28), (p.gmClass, 8, 16), (p.sentClass, 8, 8), (p.domain, 8, 0)]

/-- LOC_TIM_ registers (R255). -/
def locTimeRegs (s : State) : List RegRun :=
  let t := s.time
  let q (k : Nat) : Nat := flag ((t.quals.getD k {}).qualified)
  [(0xFF0600, [pack [(q 0 + 2 * q 1 + 4 * q 2 + 8 * q 3, 4, 8), (sourceCode t.source, 3, 5), (flag t.neverLocked, 1, 4),
      (flag !t.ocxoStable, 1, 3), (flag t.step.isSome, 1, 2), (flag t.slewing, 1, 1), (flag t.holdover, 1, 0)],
      wn (t.incr / 2 ^ 32 % 256), wn t.incr, wordS (selectedOffset t),
      pack [(t.ppsFlags, 4, 28), (t.ppsQerr, 12, 0)], wn (t.ppsEdge / 1000000000), wn t.ppsUncert, wordS (rangeS t.ppsStep),
      pack [(flag t.txqOvf, 1, 31), (t.txq.length, 5, 16), (t.txqDrops, 16, 0)], ptpWord (t.ptp.getD 0 {}), ptpWord (t.ptp.getD 1 {})])]

/-- LOC_SIV_INPUT and LOC_RNG_ registers (R265, R284). -/
def locRingRegs (s : State) : List RegRun :=
  let r := s.rng
  [(0xFF0700, [pack [(s.siv.rangeFault, 16, 16), (s.siv.overload, 16, 0)]]),
   (0xFF0800, [pack [(flag r.broken, 1, 7), (flag r.relayOpen, 1, 6), (linkCode r.link2, 2, 2), (linkCode r.link1, 2, 0)],
      pack [(r.muted, 16, 16), (r.late, 16, 0)], pack [(r.crcErr, 16, 16), (r.foreign, 16, 0)]])]

/-- LOC_CAN_ and LOC_SER_ registers (R308). -/
def locFieldRegs (s : State) : List RegRun :=
  (mapAt s.fld.buses fun i b =>
    (0xFF0900 + 0x10 * i,
      [pack [(b.state, 3, 24), (min 3 (b.recoveries.filter (· < 120000)).length, 2, 20), (b.txErr, 8, 8), (b.rxErr, 8, 0)],
       pack [(b.busOffs, 8, 24), (b.moved, 8, 16), (b.withdrawn, 8, 8), (b.foreign, 8, 0)]])) ++
  [(0xFF0A00, mapAt s.fld.ports fun i p =>
    let silent := s.cfg.image.serial.any fun d => d.port == i + 1 && s.fld.silent.contains d.source
    pack [(flag silent, 1, 31), (p.framing, 8, 16), (p.checksum, 8, 8), (p.overlength, 8, 0)])]

/-- LOC_TNG_ registers (R327): θ in ns is 10/6 of its half ticks. -/
def locPairRegs (s : State) : List RegRun :=
  let p := s.pair
  let theta : Q := if s.um.role = .active then none else p.theta.bind fun t => rangeS (roundDiv (t * 10) 6)
  [(0xFF0C00, [pack [(roleCode s.um.role, 2, 12), (phaseCode p.phase, 3, 8), (flag p.locked, 1, 7), (flag p.ringActive, 1, 6),
      (flag p.ringPath, 1, 5), (flag p.tongsPath, 1, 4), (linkCode p.link2, 2, 2), (linkCode p.link1, 2, 0)], wordS theta,
      pack [(p.crc1, 8, 24), (p.crc2, 8, 16), (p.lateFrames, 16, 0)],
      pack [(min 3 p.attempts, 4, 28), (min 512 p.remaining, 10, 16), (min 0xFFFF p.phaseEpochs, 16, 0)]])]

/-- LOC_TRV_ registers (R349). -/
def locTrivetRegs (s : State) : List RegRun :=
  let t := s.trv
  [(0xFF0D00, [wn t.raw, pack [(flag t.pwrLow, 1, 31), (code16 t.volts, 16, 0)]]),
   (0xFF0D10, mapAt t.channels fun k c =>
      pack [(c.fault, 4, 28), (flag c.failed, 1, 27), (flag c.overdue, 1, 26), (flag (s.cfg.image.offPulse.contains k), 1, 25),
        (flag c.wirechk, 1, 24), (flag c.hs, 1, 23), (flag c.ls, 1, 22), (flag c.h, 1, 21), (flag c.l, 1, 20), (testHours c, 16, 0)])]

/-- Words 0x0 to 0x8_7FFF of the dump have all been read since it was written (R366). -/
def dumpRead (d : Dump) : Bool := d.valid && d.readRanges.any fun r => r.1 == 0 && decide (0x88000 ≤ r.2)

/-- LOC_EVT_, LOC_LOG_ and LOC_DMP_ registers (R369). -/
def locLogRegs (s : State) : List RegRun :=
  let l := s.log
  let d := s.dmp
  let banks (f : Nat → Word) := (List.range 4).map f
  [(0xFF0E00, banks (bankBits s.evt.active) ++ banks (bankBits s.evt.unack) ++
      [pack [(flag l.full, 1, 31), (l.records.length, 20, 0)], wn (l.opTime / 2 ^ 32 % 256), wn l.opTime, wn (l.cycle % 2 ^ 24), wn l.clears]),
   (0xFF0E40, [pack [(flag d.valid, 1, 31), (flag (dumpRead d), 1, 30), (d.cause, 8, 16), (d.lost, 8, 8), (d.blocks, 7, 0)],
      wn (if d.valid then d.epoch else 0), 0])]

/-- LOC_HAP_ registers (R392). -/
def locHapRegs (s : State) : List RegRun :=
  let h := s.hap
  [(0xFF0F00, [pack [(min 32 h.queue, 6, 16), (bitSet (h.holds.map fun x => x.ident - 1), 4, 8), (bitSet (h.sessions.map (·.slot)), 8, 0)],
      pack [(h.auth, 16, 16), (h.busy, 8, 8), (h.notifyLost, 8, 0)]])]

/-- Rows with a pixel that awaits compensation (R413), and the largest magnitude. -/
def balanceRows (l : List (Nat × Int)) : List Nat :=
  ((l.filter fun b => decide (16 ≤ b.2.natAbs)).map fun b => b.1 / 296).eraseDups
def balanceMax (l : List (Nat × Int)) : Nat := l.foldl (fun a b => max a b.2.natAbs) 0

/-- LOC_PNL_ registers (R419). -/
def locPanelRegs (s : State) : List RegRun :=
  let p := s.pnl
  [(0xFF1000, [pack [(flag p.crack, 1, 31), (flag p.frozen, 1, 30), (flag p.suspended, 1, 29), (flag p.fullPending, 1, 28), (p.band, 3, 16),
      (p.row.getD 0xFF, 8, 8), (p.state, 2, 0)], wn (codeS 16 p.temp), pack [(p.lines, 16, 16), (p.fulls, 8, 8), (p.mismatches, 8, 0)],
      pack [(min 255 (balanceRows p.balance).length, 8, 8), (min 255 (balanceMax p.balance), 8, 0)]])]

/-- State codes of R431. -/
def lifeCode : LifeCycle → Nat
  | .factory => 0
  | .commissioning => 1
  | .inService => 2
  | .returned => 3

/-- LOC_KTL_ and LOC_LC_ registers (R434). -/
def locKettleRegs (s : State) : List RegRun :=
  let k := s.ktl
  let directed := !k.directed.isEmpty || k.running.any (·.2.2.2)
  [(0xFF1100, [pack [(flag k.manual.isSome, 1, 31), (flag directed, 1, 30), (k.lastPos, 8, 16), (k.lastKind, 2, 14), (k.lastItem, 8, 0)],
      pack [(k.slice0, 8, 24), (k.slice1, 8, 16), (flag k.withdrawn1, 1, 3), (flag k.withdrawn0, 1, 2), (flag k.used1, 1, 1), (flag k.used0, 1, 0)],
      pack [(k.failKind, 2, 30), (flag k.failStart, 1, 29), (flag k.failRetired, 1, 28), (k.failItem, 8, 16), (k.failCount, 16, 0)], 0,
      pack [(k.mResult, 2, 30), (k.mCode, 4, 8), (k.mItem, 8, 0)], 0,
      lcWord s])]
where
  /-- LOC_LC_STATE. -/
  lcWord (s : State) : Word := pack [(lifeCode s.life.state, 2, 8), (s.life.count, 8, 0)]

/-- Bank states of R442 as LOC_UPD_BANKS codes them. -/
def bankCode : BankState → Nat
  | .empty => 0
  | .confirmed => 1
  | .provisional => 2
  | .suspect => 3
  | .failed => 4

def sideCode : Side → Nat
  | .one => 0
  | .two => 1

/-- LOC_UPD_ registers (R448). -/
def locUpdateRegs (s : State) : List RegRun :=
  let u := s.upd
  [(0xFF1200, [0, pack [(u.state, 4, 28), (if u.state = 5 then u.fault else 0, 8, 16), (u.progress, 8, 0)]] ++
      pairWords (if u.state = 4 ∨ u.state = 6 ∨ u.state = 7 then u.staged else 0) ++
      [pack [(min 3 u.attempts, 4, 24), (u.rollback, 4, 16), (bankCode u.bankB.state, 4, 8), (bankCode u.bankA.state, 4, 4), (sideCode u.running, 1, 0)],
       pack [(u.floor, 16, 16), ((runningFw s).secVer, 16, 0)]])]

/-! ## The whole file -/

/-- Every register outside the unit-local page and the bulk window. -/
def mirroredRegs (s : State) : List RegRun :=
  idRegs s ++ modeRegs s ++ evtRegs s ++ supRegs ++ cfgRegs s ++ mrtRegs s ++ ldlRegs s ++ estRegs s ++ alcRegs s ++ mpcRegs s ++
    cqaRegs s ++ wskRegs s ++ gnssRegs 0x400000 .gnssA s.cfg.image.rateA s.mir.gnA s ++ gnssRegs 0x410000 .gnssB s.cfg.image.rateB s.mir.gnB s ++
    timRegs s ++ sivRegs s ++ rngRegs s ++ canRegs s ++ tngRegs s ++ trvRegs s ++ commandRegs s

/-- Every register of the unit-local page. -/
def localRegs (s : State) : List RegRun :=
  locUnitRegs s ++ locFabricRegs s ++ [locGnssRegs 0xFF0500 s.gnA, locGnssRegs 0xFF0510 s.gnB] ++ locTimeRegs s ++ locRingRegs s ++
    locFieldRegs s ++ locPairRegs s ++ locTrivetRegs s ++ locLogRegs s ++ locHapRegs s ++ locPanelRegs s ++ locKettleRegs s ++ locUpdateRegs s

/-- The registers of a snapshot (R55). -/
def allRegs (s : State) : List RegRun := mirroredRegs s ++ localRegs s

/-- The word at an address, when a run holds it. -/
def regAt (runs : List RegRun) (a : Nat) : Option Word :=
  match runs with
  | [] => none
  | r :: rest => if r.1 ≤ a ∧ a < r.1 + 4 * r.2.length ∧ (a - r.1) % 4 = 0 then r.2[(a - r.1) / 4]? else regAt rest a

/-- Bases of the blocks of R393. -/
def blockBases : List Nat :=
  [0x0, 0x10000, 0x20000, 0x30000, 0x40000, 0x100000, 0x200000, 0x300000, 0x400000, 0x410000, 0x500000, 0x600000, 0x700000,
   0x800000, 0x900000, 0xA00000, 0xB00000, 0xC00000, 0xD00000, 0xE00000, 0xF00000, 0xFF0000]

/-- The block of an address: the last base at or below it. -/
def blockOf (a : Nat) : Nat := blockBases.foldl (fun m b => if b ≤ a then b else m) 0

/-- An address of the bulk window's registers (R391). -/
def bulkAddr (a : Nat) : Bool := a == 0xF00000 || a == 0xF00004 || a == 0xF00008 || a == 0xF0000C || a == 0xF00010

/-- The unit-local page. -/
def isLocal (a : Nat) : Bool := decide (0xFF0000 ≤ a) && decide (a ≤ 0xFFFFFF)

/-- Some chapter assigns the address (R393). -/
def assigned (a : Nat) (s : State) : Bool := bulkAddr a || (regAt (allRegs s) a).isSome

/-- A range of registers is whole: word addresses, all assigned, within one block (R373, R393). -/
def rangeOk (a n : Nat) (s : State) : Bool :=
  a % 4 == 0 && blockOf a == blockOf (a + 4 * (n - 1)) && (List.range n).all fun i => assigned (a + 4 * i) s

/-- Registers of access wo (R391). -/
def isWo (a : Nat) : Bool := a == 0xF00000 || a == 0xF00004 || a == 0xF00008

/-- Registers of the unit-local page that may be written: cmd and w1c (R255, R369, R404, R434, R448). -/
def localWritable (a : Nat) : Bool :=
  a == 0xFF0018 || a == 0xFF001C || a == 0xFF0620 || a == 0xFF0E48 || a == 0xFF110C || a == 0xFF1114 || a == 0xFF1200

/-- Within an array of registers. -/
def within (base stride count a : Nat) : Bool := decide (base ≤ a) && decide (a < base + stride * count) && (a - base) % stride == 0

/-- Registers outside the unit-local page whose access is rw or cmd. -/
def commandWritable (a : Nat) : Bool :=
  a == 0x1000C || within 0x20020 4 4 a || a == 0x20030 || a == 0x100028 || a == 0x100124 || a == 0x200040 || a == 0x200084 ||
    a == 0x20101C || within 0x201020 4 4 a || within 0x202008 4 3 a || a == 0x202014 || within 0x202100 4 128 a || a == 0x300044 ||
    a == 0x300048 || a == 0x400004 || a == 0x410004 || within 0x600100 0x20 16 a || a == 0x800014 || within 0x800100 4 8 a ||
    a == 0x900008 || a == 0xA0000C || a == 0xA00010 || within 0xB00000 4 5 a || a == 0xC00004 || within 0xD00000 4 5 a ||
    a == 0xE00000 || a == 0xE00004

/-- The snapshot that is published at E+400 µs of the epoch (R55). -/
def snapshotOf (s : State) : Snapshot := { epoch := s.ex.epoch, regs := allRegs s }

end Sys2Proof.Machine
end

