-- ==== Sys2Proof/Machine/Panel.lean ====
section
/-! DEFINITION. The status panel (chapter 20): rendering, updates row by row, bands, full refreshes, balance, and the guard
of the image. -/

namespace Sys2Proof.Machine

def modPnl (f : Panel → Panel) (s : State) : State := { s with pnl := f s.pnl }

/-! ## Rendering (R407, R408) -/

/-- Octets of a row; rows; pixels of a row. -/
def rowOctets : Nat := 74
def rowCount : Nat := 128

/-- Decimal digits of a number. -/
def digits (n : Nat) : List Nat := (Nat.toDigits 10 n).map (·.toNat)

/-- Eight hexadecimal digits of a word. -/
def hex8 (n : Nat) : List Nat :=
  (List.range 8).map fun i => let d := n / 16 ^ (7 - i) % 16; if d < 10 then 48 + d else 55 + d

def txt (t : String) : List Nat := t.toList.map (·.toNat)

/-- Operating time in tenths of an hour: whole part and tenth. -/
def hoursText (ms : Nat) : List Nat :=
  let t := (roundDiv ms 360000).toNat
  digits (t / 10) ++ [46] ++ digits (t % 10)

/-- Mode by its code (R21). -/
def modeName : Nat → List Nat
  | 0 => txt "BOOT"
  | 1 => txt "LOAD"
  | 2 => txt "SELFTEST"
  | 3 => txt "STANDBY"
  | 4 => txt "ACTIVE"
  | 5 => txt "HOLD"
  | 6 => txt "MAINTENANCE"
  | _ => txt "RECOVERY"

def funcName : Func → List Nat
  | .joystick => txt "JOYSTICK"
  | .autoHeading => txt "AUTO-HEADING"
  | .autoPosition => txt "AUTO-POSITION"
  | .autoTrack => txt "AUTO-TRACK"
  | .berthPush => txt "BERTH-PUSH"
  | .thrusterTest => txt "THRUSTER-TEST"

/-- Role by its code in LOC_TNG_LINK. -/
def roleName : Nat → List Nat
  | 1 => txt "ACTIVE"
  | 2 => txt "STANDBY"
  | _ => txt "NO ROLE"

def className : Nat → List Nat
  | 1 => txt "GREEN"
  | 2 => txt "AMBER"
  | _ => txt "RED"

/-- The snapshot of the epoch (R409): the published one, or what it would show. -/
def panelSnapshot (s : State) : Snapshot := (s.hap.snap.filter fun x => x.epoch == s.ex.epoch).getD (snapshotOf s)

/-- UNACK of a source as a snapshot shows it: in EVT_UNACK_b by scope M, in LOC_EVT_UNACK_b by scope L (R367, R369). -/
def shownUnack (e : Nat) (reg : Nat → Word) : Bool :=
  bitOf (reg ((if (attrOf e).scopeL then 0xFF0E10 else 0x20010) + 4 * (e / 32))) (e % 32)

/-- The parts of a field's content, taken from the registers of a snapshot (R408). -/
def fieldParts (f : Nat) (reg : Nat → Word) (s : State) : List (List Nat) :=
  match f with
  | 0 => [(s.cfg.image.vessel.take 16).map (·.toNat)]
  | 1 => [if bitOf (reg 0xFF0008) 0 then txt "B" else txt "A", hex8 (reg 0xFF0004).toNat]
  | 2 => [roleName (fieldOf (reg 0xFF0C00) 13 12)]
  | 3 =>
    let mode := fieldOf (reg 0xFF0010) 2 0
    modeName mode ::
      (if mode = 5 then [digits (reg 0xFF0014).toNat]
       else match funcOf (fieldOf (reg 0x10004) 11 8) with
        | some g => if mode = 4 then [funcName g] else []
        | none => [])
  | 4 => [className (fieldOf (reg 0x203000) 31 30)]
  | 5 => [txt "POS", digits (fieldOf (reg 0x300000) 1 0), txt "HDG", digits (fieldOf (reg 0x300000) 5 4)]
  | 6 => match s.pnl.lastAlarm with
      | some (e, ms) => [digits e, hoursText ms] ++ (if shownUnack e reg then [txt "UNACK"] else [])
      | none => []
  | _ => [txt "C", digits (reg 0xFF0E2C).toNat, txt "T", hoursText ((reg 0xFF0E24).toNat * 2 ^ 32 + (reg 0xFF0E28).toNat)]

/-- The text of a field: one part as it stands; the parts of GRADE with a space between; of any other field by `Cfg.panelText` (log 19). -/
def fieldText (f : Nat) : List (List Nat) → List Nat
  | [p] => p
  | ps => if f = 5 then (ps.intersperse [32]).flatten else Cfg.panelText f ps

/-- Declared fields, by number. -/
def panelFields (s : State) : List (Nat × PanelField × List Nat) :=
  let snap := panelSnapshot s
  (List.range 8).filterMap fun f =>
    (s.cfg.image.fields[f]?).join.map fun d => (f, d, (fieldText f (fieldParts f (fun a => (regAt snap.regs a).getD 0) s)).take d.width)

/-- The pixel at column x of row r; white where no field writes. -/
def pixelAt (fs : List (Nat × PanelField × List Nat)) (r x : Nat) : Nat :=
  let hit := fs.find? fun f =>
    let d := f.2.1
    let sz := if d.double then 16 else 8
    decide (8 * d.group ≤ r) && decide (r < 8 * d.group + sz) && decide (d.column ≤ x) && decide (x < d.column + sz * f.2.2.length)
  match hit with
  | some f =>
    let d := f.2.1
    let sz := if d.double then 16 else 8
    (Cfg.glyph d.double (f.2.2.getD ((x - d.column) / sz) 32) (r - 8 * d.group) ((x - d.column) % sz)).toNat
  | none => 0

/-- The 74 octets of row r as rendered: four pixels to an octet, the first in bits 7:6 (R407). -/
def renderRow (fs : List (Nat × PanelField × List Nat)) (r : Nat) : List Byte :=
  (List.range rowOctets).map fun o =>
    let p (i : Nat) := pixelAt fs r (4 * o + i)
    BitVec.ofNat 8 (p 0 * 64 + p 1 * 16 + p 2 * 4 + p 3)

/-- A row of the frame memory. -/
def frameRow (r : Nat) (s : State) : List Byte := memReads 0 s.pnl.frame (rowOctets * r) rowOctets

/-! ## Balance (R413) -/

/-- Pixel number of column x of row r. -/
def pixelKey (r x : Nat) : Nat := 296 * r + x

/-- Put a balance record, keeping the list without zeros. -/
def setBalance (k : Nat) (v : Int) (l : List (Nat × Int)) : List (Nat × Int) :=
  if v = 0 then l.filter (·.1 != k) else insertKey k v l

/-- Some pixel of the row has a record of magnitude 16 or more. -/
def needsCompensation (r : Nat) (s : State) : Bool := (balanceRows s.pnl.balance).contains r

/-- At most 16 compensating frames: every record of the row moves towards zero. -/
def compensateRow (r : Nat) (l : List (Nat × Int)) : List (Nat × Int) :=
  l.filterMap fun b =>
    if b.1 / 296 = r then
      let v := if 0 ≤ b.2 then max 0 (b.2 - 16) else min 0 (b.2 + 16)
      if v = 0 then none else some (b.1, v)
    else some b

/-! ## Driving rows (R409 to R412) -/

/-- The update ends: nothing is driven. A full refresh that has not driven every row is scheduled again (R412). -/
def endUpdate (s : State) : State :=
  modPnl (fun p => { p with fullPending := p.fullPending || (p.state == 2 && !p.rows.isEmpty)
                            state := 0, rows := [], row := none, compensating := false, compensated := []
                            fulls := if p.state = 2 ∧ p.rows.isEmpty then bump 8 p.fulls else p.fulls
                            fullBand := if p.state = 2 ∧ p.rows.isEmpty then p.band else p.fullBand }) s

/-- The band is taken at a group start; two or more bands from that of the most recent full refresh schedule one. -/
def takeBand (s : State) : State :=
  modPnl (fun p =>
    let b := p.bandSeen
    { p with band := b, fullPending := p.fullPending || (p.state == 1 && decide (b ≥ p.fullBand + 2 ∨ p.fullBand ≥ b + 2)) }) s

/-- The next row of the update starts, its compensation line first where it needs one. While the panel is suspended no group
starts, and while it is frozen no row. -/
def startRow (s : State) : State :=
  match s.pnl.rows with
  | [] => endUpdate s
  | (r, _) :: _ =>
    let newGroup : Bool := match s.pnl.row with
      | some q => decide (q / 8 ≠ r / 8)
      | none => true
    if s.pnl.frozen ∨ (newGroup ∧ s.pnl.suspended) then endUpdate s
    else
      let s := if newGroup then takeBand s else s
      modPnl (fun p => { p with row := some r, rowFor := 0, compensating := needsCompensation r s && !p.compensated.contains r }) s

/-- A row's commit (R410, R416): frame memory, image CRC, balance records, journal. -/
def commitRow (r : Nat) (new : List Byte) (s : State) : State :=
  let old := frameRow r s
  let full := s.pnl.state == 2 || s.pnl.fullRows.contains r
  let net := Cfg.rowBalance full s.pnl.band old new
  modPnl (fun p =>
    let frame := memWrites 0 (rowOctets * r) new p.frame
    { p with
      frame, crc := crc32 (memReads 0 frame 0 (rowOctets * rowCount)), lines := bump 16 p.lines
      rows := p.rows.filter (·.1 != r), intent := p.intent.filter (·.1 != r), fullRows := p.fullRows.filter (· != r)
      balance := (List.range 296).foldl (fun l x =>
        setBalance (pixelKey r x) ((lookupNat (pixelKey r x) l).getD 0 + net.getD x 0) l) p.balance }) s

/-- The row in progress completes and is committed; a compensation line in progress is completed instead. -/
def completeLine (s : State) : State :=
  match s.pnl.row, s.pnl.rows with
  | some r, (q, new) :: _ =>
    if q ≠ r then s
    else if s.pnl.compensating then
      modPnl (fun p => { p with compensating := false, compensated := insertNat r p.compensated, balance := compensateRow r p.balance }) s
    else commitRow r new s
  | _, _ => s

/-- The panel is driven from LOAD onwards (R417). -/
def panelRuns (s : State) : Bool := timerRuns s

/-- The update of an evaluation: every row for a full refresh; otherwise the rows that differ, rows to be compensated or driven
anew, and in the first update of a start the rows of the last intent (R409, R412, R413, R416, R417). -/
def updateRows (s : State) : List (Nat × List Byte) :=
  let fs := panelFields s
  (List.range rowCount).filterMap fun r =>
    let new := renderRow fs r
    if s.pnl.fullPending || new != frameRow r s || needsCompensation r s || s.pnl.fullRows.contains r ||
        (s.pnl.first && s.pnl.intent.any (·.1 == r)) then some (r, new) else none

/-- The evaluation at E+400 µs of epochs with N mod 2000 = 1000 (R409): the rows and the intent of an update that starts at the next
E+0 µs. The UPDATED field is written whenever another row is. -/
def execPanelEvaluation (s : State) : Host.Outcome State Fault Refusal :=
  .next (if panelRuns s ∧ s.ex.epoch % 2000 = 1000 ∧ s.pnl.state = 0 ∧ ¬ s.pnl.frozen ∧ ¬ s.pnl.suspended then
      let rows := updateRows s
      if rows.isEmpty then s
      else modPnl (fun p => { p with
          rows, intent := rows, state := if p.fullPending then 2 else 1, first := false, row := none, compensated := [] }) s
    else s)

/-- At E+0 µs the update of the last evaluation starts (R409), and the line in progress is an epoch older. -/
def panelEpoch (s : State) : State :=
  if s.pnl.state ≠ 0 ∧ s.pnl.row = none then
    startRow (modPnl (fun p => { p with fullPending := p.fullPending && p.state != 2 }) s)
  else modPnl (fun p => { p with rowFor := p.rowFor + 1 }) s

/-- Epochs that a line takes, by band: partial, and with the full-refresh waveform (R410). -/
def partialEpochs : List Nat := [48, 40, 36, 32, 28, 24, 22, 20]
def fullEpochs : List Nat := [64, 60, 56, 52, 48, 44, 40, 36]

/-- Epochs that the line in progress takes (R410). -/
def lineEpochs (s : State) : Nat :=
  if s.pnl.state = 2 ∨ s.pnl.row.any (s.pnl.fullRows.contains ·) then fullEpochs.getD s.pnl.band 64 else partialEpochs.getD s.pnl.band 48

/-- The waveform of a row completes (R410): it is committed and the next row follows without a gap. -/
def execPanelRowComplete (s : State) : Host.Outcome State Fault Refusal :=
  .next (if panelRuns s ∧ s.pnl.row.isSome ∧ ¬ s.pnl.compensating ∧ lineEpochs s ≤ s.pnl.rowFor then startRow (completeLine s) else s)

/-- A compensation line completes (R413); the row's waveform follows it as the next line, unless the panel is frozen (R415). -/
def execCompensationLineComplete (s : State) : Host.Outcome State Fault Refusal :=
  .next (if panelRuns s ∧ s.pnl.row.isSome ∧ s.pnl.compensating then
      (if s.pnl.frozen then endUpdate (completeLine s) else modPnl (fun p => { p with rowFor := 0 }) (completeLine s))
    else s)

/-! ## Temperature (R411) -/

/-- The lower boundary of band b is passed upwards by 0.5 °C; its upper boundary is passed downwards by 0.5 °C. -/
def crossUp (t : Int) (a b : Nat) : Nat := if 1600 * (b : Int) + 128 ≤ t then max b a else a
def crossDown (t : Int) (a b : Nat) : Nat := if t ≤ 1600 * ((b : Int) + 1) - 128 then min a b else a

/-- The band of a reading in sQ7.8: a boundary, each 6.25 °C, is crossed only when the temperature passes it by 0.5 °C. -/
def bandAfter (band : Nat) (t : Int) : Nat :=
  (List.range 8).foldl (crossDown t) ((List.range 8).foldl (crossUp t) band)

/-- A reading of the sensor behind the glass: band, suspension outside 0.0 °C to 50.0 °C, resumption 0.5 °C inside. -/
def execPanelTemperatureRead (t : Int) (s : State) : Host.Outcome State Fault Refusal :=
  .next (if panelRuns s then
      modPnl (fun p => { p with
        temp := rangeS t, bandSeen := bandAfter p.bandSeen t
        suspended := if t < 0 ∨ 12800 < t then true else if 128 ≤ t ∧ t ≤ 12672 then false else p.suspended }) s
    else s)

/-! ## Guarding the image and the glass (R414, R415) -/

/-- At N mod 2000 = 0 the CRC of the frame memory is compared with that of the committed image. -/
def execFrameMemoryCrcCheck (s : State) : Host.Outcome State Fault Refusal :=
  .next (if panelRuns s ∧ s.ex.epoch % 2000 = 0 ∧ crc32 (memReads 0 s.pnl.frame 0 (rowOctets * rowCount)) ≠ s.pnl.crc then
      raise 28 (modPnl (fun p => { p with mismatches := bump 8 p.mismatches, fullPending := true }) s)
    else s)

/-- The crack loop has read open for so many consecutive epochs: from 200 on the panel is frozen, and EV_027 stands while the loop is
open. -/
def execPanelCrack (openEpochs : Nat) (s : State) : Host.Outcome State Fault Refusal :=
  .next (if panelRuns s then
      let s := modPnl (fun p => { p with crack := true }) s
      if 200 ≤ openEpochs then raise 27 (modPnl (fun p => { p with frozen := true }) s) else s
    else s)

/-- The crack loop reads closed again: EV_027 clears; the freeze lasts until a start at which the loop reads closed. -/
def execCrackLoopClosed (s : State) : Host.Outcome State Fault Refusal :=
  .next (if panelRuns s then clearEvent 27 (modPnl (fun p => { p with crack := false }) s) else s)

/-- PNL_REFRESH takes effect: a full refresh is scheduled (R412). -/
def refreshPanel (s : State) : State := modPnl (fun p => { p with fullPending := true }) s

end Sys2Proof.Machine
end

