-- ==== Sys2Proof/Machine/Ring.lean ====
section
/-! DEFINITION. The ring interface (chapter 13): links, evidence, frames received, forwarded and sent. -/

namespace Sys2Proof.Machine

/-! ## Links (R268, R269, R284) -/

/-- State of a ring link. -/
def ringLink (p : Side) (s : State) : LinkState :=
  match p with
  | .one => s.rng.link1
  | .two => s.rng.link2

def setRing (p : Side) (l : LinkState) (s : State) : State :=
  match p with
  | .one => { s with rng := { s.rng with link1 := l } }
  | .two => { s with rng := { s.rng with link2 := l } }

/-- EV_032 for RING_1, EV_033 for RING_2 (R269). -/
def ringEvent : Side → Nat
  | .one => 32
  | .two => 33

/-- The coil is energised: both PHYs begin to train with their neighbours (R268, R69). -/
def openRelay (s : State) : State :=
  { s with rng := { s.rng with relayOpen := true, link1 := .training, link2 := .training, lostNow := true } }

/-- The coil is off: the unit is absent from the ring (R268). -/
def closeRelay (s : State) : State :=
  { s with rng := { s.rng with relayOpen := false, link1 := .down, link2 := .down, seen := false, seenBoth := false } }

/-- The internal loop has trained (R69): the relay opens at the end of LOAD. -/
def execRingLoopTrained (s : State) : Host.Outcome State Fault Refusal :=
  .next (if s.um.mode = .load ∧ s.um.loaded then { s with rng := { s.rng with loopTrained := some true } } else s)

/-- The internal loop has not trained within 3 s (R69): the relay stays closed; EV_032, EV_033. -/
def execRingLoopTimeout (s : State) : Host.Outcome State Fault Refusal :=
  .next (if s.um.mode = .load ∧ s.um.loaded ∧ s.rng.loopTrained ≠ some true then
      raise 33 (raise 32 { s with rng := { s.rng with loopTrained := some false } })
    else s)

/-- Loss of a ring link while the relay is open (R269): the unit carries on with one link. An epoch in which a link is
down is no evidence epoch (R282). -/
def execRingLinkDown (p : Side) (s : State) : Host.Outcome State Fault Refusal :=
  .next (if s.rng.relayOpen then
      let s := setRing p .down s
      raise (ringEvent p) { s with rng := { s.rng with seen := false, seenBoth := false, lostNow := true } }
    else s)

/-- A ring link trains with its neighbour at 1000 Mbit/s (R269, R284). -/
def execRingLinkUp (p : Side) (s : State) : Host.Outcome State Fault Refusal :=
  .next (if s.rng.relayOpen then clearEvent (ringEvent p) (setRing p .up s) else s)

/-- A ring link has not trained within 5 s of the relay opening (R269). -/
def execRingLinkTrainTimeout (p : Side) (s : State) : Host.Outcome State Fault Refusal :=
  .next (if s.rng.relayOpen ∧ ringLink p s ≠ .up then raise (ringEvent p) s else s)

/-! ## Evidence (R282) -/

/-- Both ring links are up. -/
def ringBothUp (s : State) : Bool := s.rng.relayOpen && s.rng.link1 == .up && s.rng.link2 == .up

/-- The duplicate table keeps an entry for 400 ms (R266). -/
def hsrLive (nowMs : Nat) (l : List HsrEntry) : List HsrEntry := l.filter fun e => decide (nowMs < e.atMs + 400)

/-- The first copy of a frame that arrived within the forget time. -/
def hsrFirst (src seq nowMs : Nat) (s : State) : Option HsrEntry :=
  (hsrLive nowMs s.rng.hsrSeen).find? fun e => e.source == src && e.seq == seq

/-- A copy enters the duplicate table unless one is known. -/
def hsrNote (src seq nowMs : Nat) (port : Side) (s : State) : State :=
  let live := hsrLive nowMs s.rng.hsrSeen
  { s with rng := { s.rng with hsrSeen := if (hsrFirst src seq nowMs s).isSome then live else live ++ [⟨src, seq, nowMs, port⟩] } }

/-- A valid copy of the kind that R282 judges by has arrived; `first` is the copy known before it. -/
def ringEvidence (rx : RingRx) (first : Option HsrEntry) (s : State) : State :=
  if ringBothUp s then
    { s with rng := { s.rng with seen := true, seenBoth := s.rng.seenBoth || first.any (·.port != rx.port) } }
  else s

/-- An invalid frame is counted: a failed FCS or CRC in CRC_ERR, anything else in FOREIGN (R284). -/
def countRing (rx : RingRx) (s : State) : State :=
  if rx.fcsOk && rx.crcOk then { s with rng := { s.rng with foreign := bump 16 s.rng.foreign } }
  else { s with rng := { s.rng with crcErr := bump 16 s.rng.crcErr } }

/-- An invalid command or feedback frame also counts towards EV_035 (R282). -/
def countInvalid (rx : RingRx) (s : State) : State :=
  let s := countRing rx s
  { s with rng := { s.rng with invalidNow := s.rng.invalidNow + 1 } }

/-- FCS, CRC, TYPE, VERSION and LENGTH of a frame hold (R276, R280, R281). -/
def ringFormed (type length : Nat) (rx : RingRx) : Bool :=
  rx.fcsOk && rx.crcOk && rx.type == type && rx.version == 1 && rx.length == length

/-- And it comes from the address declared for its sender (R270, R280). -/
def ringValid (type length addr : Nat) (rx : RingRx) : Bool := ringFormed type length rx && rx.src == addr

/-- Addresses that the image declares for the partner (R95). -/
def partnerNet (s : State) : NetDecl :=
  match s.um.unit with
  | .a => s.cfg.image.netB
  | .b => s.cfg.image.netA

/-- A copy arrives on a ring port: one with a wrong FCS is counted; the first copy is delivered, valid or not; a later one is evidence where
`evident` says so, and goes no further (R266, R282). -/
def takeCopy (rx : RingRx) (valid evident : Bool) (count deliver : State → State) (s : State) : State :=
  if !rx.fcsOk then count s
  else
    let first := hsrFirst rx.src rx.hsrSeq rx.nowMs s
    let s := hsrNote rx.src rx.hsrSeq rx.nowMs rx.port s
    let s := if valid && evident then ringEvidence rx first s else s
    if first.isSome then s else if valid then deliver s else count s

/-- One epoch more since a frame from the unit's own address; EV_063 ends after 2000 (log 141). -/
def ageDuplicate (s : State) : State :=
  match s.rng.duplicate with
  | some n =>
    if 2000 ≤ n + 1 then clearEvent 63 { s with rng := { s.rng with duplicate := none } }
    else { s with rng := { s.rng with duplicate := some (n + 1) } }
  | none => s

/-- At the end of an epoch its evidence enters the runs and its invalid frames the window of 2000 epochs. -/
def closeEvidence (s : State) : State :=
  let r := s.rng
  let r :=
    if r.seen && ringBothUp s && !r.lostNow then
      if r.seenBoth then { r with oneSided := 0, twoSided := r.twoSided + 1 }
      else { r with oneSided := r.oneSided + 1, twoSided := 0 }
    else r
  let s := { s with rng := { r with seen := false, seenBoth := false, lostNow := !ringBothUp s, invalid := (r.invalidNow :: r.invalid).take 1999, invalidNow := 0 } }
  ageDuplicate s

/-- 2000 one-sided evidence epochs: the ring is broken, EV_034. -/
def execRingBroken (s : State) : Host.Outcome State Fault Refusal :=
  .next (if 2000 ≤ s.rng.oneSided then raise 34 { s with rng := { s.rng with broken := true } } else s)

/-- 2000 two-sided evidence epochs: EV_034 clears. -/
def execRingRestored (s : State) : Host.Outcome State Fault Refusal :=
  .next (if 2000 ≤ s.rng.twoSided then clearEvent 34 { s with rng := { s.rng with broken := false } } else s)

/-- More than 100 invalid command or feedback frames in 2000 epochs: EV_035. -/
def execRingFrameErrors (s : State) : Host.Outcome State Fault Refusal :=
  .next (if 100 < s.rng.invalid.foldl (· + ·) s.rng.invalidNow then raise 35 s else s)

/-! ## Frames of the partner (R275, R281, R317) -/

/-- A command frame of the partner is ring evidence; ROLE 0x01 is active evidence (R317). It never enters the committed
set. -/
def execRingCommandFrameRx (rx : RingRx) (f : CommandFrame) (s : State) : Host.Outcome State Fault Refusal :=
  .next (if s.rng.relayOpen then
      takeCopy rx (ringValid 1 420 (partnerNet s).ring rx && f.unit != s.um.unit) (isPair s) (countInvalid rx)
        (fun s => if f.role = .active then { s with pair := { s.pair with activeNow := true } } else s) s
    else s)

/-- The 48-bit epoch whose low 32 bits a frame carries: by serial order it lies at most 2³¹ − 1 after an earlier one, or before it
(R6). -/
def widenEpoch (prev low : Nat) : Nat :=
  let d := (low + 2 ^ 32 - prev % 2 ^ 32) % 2 ^ 32
  epochWrap (if d < 2 ^ 31 then prev + d else prev + d + 2 ^ 48 - 2 ^ 32)

/-- What a heartbeat of the partner reports. -/
def takeRingReport (f : RingHeartbeat) (s : State) : State :=
  let prev := (s.pair.heard.map (·.epoch)).getD s.ex.epoch
  let s := { s with pair := { s.pair with
    ringNow := true, activeNow := s.pair.activeNow || f.role == .active
    heard := some { epoch := widenEpoch prev f.epoch, role := f.role, mode := f.mode, mirrored := f.mirrored
                    single := f.single, imageId := f.imageId, fwDigest := f.fwDigest
                    phase := (s.pair.heard.map (·.phase)).getD .none }
    heardAge := 0 } }
  bankDecision (checkFirmware f.fwDigest (checkImage f.imageId s))

/-- A ring heartbeat of the partner is ring path evidence and a partner report, and its image and firmware are checked
(R317, R105, R324). A single-unit image that hears another XN-960 raises EV_015 (R107). -/
def execRingHeartbeatRx (rx : RingRx) (f : RingHeartbeat) (s : State) : Host.Outcome State Fault Refusal :=
  .next (if s.rng.relayOpen then
      if isSingle s then
        takeCopy rx (ringFormed 3 40 rx) false (countRing rx) (fun s => raise 15 { s with pair := { s.pair with ringNow := true } }) s
      else
        takeCopy rx (ringValid 3 40 (partnerNet s).ring rx && f.unit != s.um.unit) true (countRing rx) (takeRingReport f) s
    else s)

/-! ## Feedback (R279, R280) -/

/-- The frame is valid: its own checks, a declared thrust unit, and the source address declared for its drive (R280). -/
def feedbackValid (rx : RingRx) (fb : Feedback) (s : State) : Bool :=
  declared fb.unit s && ringValid 2 48 (unitDecl fb.unit s).ringAddr rx

/-- Number of a ring port among the Ethernet ports. -/
def ringPortNo : Side → Nat
  | .one => 0
  | .two => 1

/-- A feedback frame becomes an input record of its source; a repeat is discarded. -/
def takeDriveFrame (port : Side) (tick : Int) (fb : Feedback) (s : State) : State :=
  if s.rng.fbSeq.getD fb.unit none = some fb.fbSeq then s
  else if formsRecords s then
    let s := { s with rng := { s.rng with fbSeq := modAt s.rng.fbSeq fb.unit (fun _ => some fb.fbSeq) } }
    let u := unitDecl fb.unit s
    let tag := if fb.tag = 0 then none else some fb.tag
    let stamp := arrivalStamp (ringPortNo port) tick s
    let v := validityOf stamp (feedbackTiming u s).1 tag (!suspect u.source s)
    ingest u.source stamp v.1 v.2 (feedbackBytes fb) s
  else s

/-- A valid feedback frame is taken; an invalid one is counted. -/
def execFeedbackFrameRx (rx : RingRx) (tick : Int) (fb : Feedback) (s : State) : Host.Outcome State Fault Refusal :=
  .next (if s.rng.relayOpen then
      takeCopy rx (feedbackValid rx fb s) (isSingle s) (countInvalid rx) (takeDriveFrame rx.port tick fb) s
    else s)

/-! ## HSR (R266, R251) -/

/-- Peer-delay state of a ring port. -/
def ringPtp (p : Side) (s : State) : RingPtp := s.time.ringPtp.getD (ringPortNo p) {}

/-- Residence time of a forwarded frame in 2⁻¹⁶ ns, from its ingress and egress stamps (R251, R252). -/
def residence (f : HsrFrame) (s : State) : Int :=
  ((departureStamp (ringPortNo (otherSide f.inPort)) f.outTick s : Int) - arrivalStamp (ringPortNo f.inPort) f.inTick s) * 65536

/-- correctionField of a forwarded frame: a PTP event message gains the residence time and the receiving port's peer
delay (R251). -/
def forwardedCorrection (f : HsrFrame) (s : State) : Int :=
  if f.ptpEvent then f.correction + residence f s + (ringPtp f.inPort s).peerDelay else f.correction

/-- The unit's own source address on the ring (R270). -/
def ringAddress (s : State) : Nat := s.cfg.net.ring

/-- The sender of a frame is heard; a node not heard for 60 s is forgotten (R266). -/
def hearNode (f : HsrFrame) (s : State) : State :=
  { s with rng := { s.rng with
    nodes := insertKey f.source f.nowMs (s.rng.nodes.filter fun e => decide (f.nowMs < e.2 + 60000)) } }

/-- A frame from the unit's own source address that it did not send: EV_063, until none has come for 2000 epochs (log 141). -/
def foreignOwn (f : HsrFrame) (s : State) : State :=
  if f.source = ringAddress s then raise 63 { s with rng := { s.rng with duplicate := some 0 } } else s

/-- An HSR frame: one's own is removed; the first copy addressed to the node is delivered and its duplicate discarded;
others go on to the other port. -/
def execRingFrameForward (f : HsrFrame) (s : State) : Host.Outcome State Fault Refusal :=
  .next (if s.rng.relayOpen ∧ ¬ f.own then
      let s := foreignOwn f (hearNode f s)
      let s := if f.forNode then hsrNote f.source f.hsrSeq f.nowMs f.inPort s else s
      if f.forward ∧ ringLink (otherSide f.inPort) s = .up then
        send (.forwarded (otherSide f.inPort) f.source f.hsrSeq (forwardedCorrection f s)) s
      else s
    else s)

/-- HSR supervision frames every 2 s (R266). -/
def execSupervisionFrameSend (s : State) : Host.Outcome State Fault Refusal :=
  .next (if s.rng.relayOpen then
      let s := sendRing (.supervision s.rng.supSeq (ringAddress s)) s
      { s with rng := { s.rng with supSeq := (s.rng.supSeq + 1) % 65536 } }
    else s)

/-! ## The command frame (R272, R275) -/

/-- The command frame of the epoch. -/
def commandFrame (s : State) : CommandFrame :=
  { epoch := s.ex.epoch % 2 ^ 32, unit := s.um.unit, role := s.um.role, authority := authority s
    single := s.cfg.image.single, notMirrored := s.cfg.image.single || !isMirrored s
    func := if s.um.mode = .active then s.mir.mode.func else none
    seq := s.mir.pair.seq, imageId := s.cfg.image.imageId, digest := s.ex.cmdDigest, setPoints := setPoints s }


/-- An emitting unit starts its command frame on both ports, once an epoch; a start after E+352 µs counts in LATE
(R275, R284). -/
def execCommandFrameEmit (startNs : Nat) (s : State) : Host.Outcome State Fault Refusal :=
  .next (if emitting s && !s.ex.emitted then
      let s := sendRing (.command (commandFrame s)) { s with ex := { s.ex with emitted := true } }
      if 352000 < startNs then { s with rng := { s.rng with late := bump 16 s.rng.late } } else s
    else s)

end Sys2Proof.Machine
end

