-- ==== Sys2Proof/Machine/Reset.lean ====
section
/-! DEFINITION. Reset: what its assertion ends, what the close-out domain completes, and the state in which a unit starts
(R28, R31, R65, R359, R362, R398, R416, R451). -/

namespace Sys2Proof.Machine

/-! ## Assertion (R65, R451) -/

/-- The panel line in progress: completed and committed by the close-out domain; else its row is driven with the full-refresh
waveform at the next start (R416). -/
def closeOutPanel (complete : Bool) (s : State) : State :=
  match s.pnl.row with
  | none => s
  | some r =>
    if complete then completeLine s
    else modPnl (fun p => { p with fullRows := insertNat r p.fullRows }) { s with log := { s.log with closeOutLost := true } }

/-- Records that are due but not begun are lost (R362). -/
def closeOutRecords (s : State) : State :=
  if s.evt.due.isEmpty then s
  else { s with evt := { s.evt with due := [] }, log := { s.log with closeOutLost := true } }

/-- Reset asserts: the current mode ends without a transition, the unit emits nothing and its relays fall (R28, R65). -/
def assertReset (complete : Bool) (s : State) : State :=
  let s := closeOutRecords (closeOutPanel complete s)
  let s := openOutputs (discardRecords (dropRole (closeRelay s)))
  let s := { s with
    um := { s.um with mode := .boot, inReset := true }
    ex := { s.ex with emit := false, due := [], holdDue := none, roleDue := none, resyncDue := false }
    hap := {}
    pnl := { s.pnl with state := 0, rows := [], row := none, compensating := false } }
  updateRelays s

/-! ## Start -/

/-- MRAM counters restart from zero where an uncorrectable error was found in them (R31). -/
def countersBad (s : State) : Bool := s.evt.mramBad.contains .counters

/-- The recorder at a start: operating time saved plus 1000 ms, one power cycle more (R359). -/
def startRecorder (s : State) : Recorder :=
  let l := s.log
  if countersBad s then { records := l.records, full := l.full }
  else
    let t := min (l.opSaved + 1000) (2 ^ 40 - 1)
    { records := l.records, full := l.full, clears := l.clears, opTime := t, opSaved := t, cycle := min (l.cycle + 1) 0xFFFFFF }

/-- The tile-health record at a start, with the entries cleared by LOC_KTL_CLEAR removed (R430): marked Skillets. -/
def startMarks (s : State) : List Nat :=
  if s.evt.mramBad.contains .tileHealth then [] else s.fab.marked.filter fun k => !s.ktl.clearSkillets.contains k

/-- The spares at a start. -/
def startKettle (s : State) : Kettle :=
  let k := s.ktl
  if s.evt.mramBad.contains .tileHealth then {}
  else if k.clearSpares then {}
  else { slice0 := k.slice0, slice1 := k.slice1, withdrawn0 := k.withdrawn0, withdrawn1 := k.withdrawn1
         used0 := k.used0, used1 := k.used1 }

/-- The life-cycle state at a start: unreadable is RETURNED (R31). -/
def startLife (s : State) : Life :=
  { state := if s.evt.mramBad.contains .lifeCycle then .returned else s.life.state
    count := if countersBad s || s.evt.mramBad.contains .lifeCycle then 0 else s.life.count }

/-- What flash holds of the update manager: a commit record shows as COMMITTED (R441). -/
def startUpdate (s : State) : Update :=
  let u := s.upd
  { bankA := u.bankA, bankB := u.bankB, selected := u.selected, running := u.running, attempts := u.attempts, floor := u.floor
    commit := u.commit, staging := u.staging, trialFailed := u.trialFailed
    state := if u.commit.isSome then 6 else 0, staged := u.commit.getD 0 }

/-- The glass, the journal and the temperature band of the last full refresh stay; a freeze ends at a start at which the crack
loop reads closed (R415 to R417). -/
def startPanel (crackOpen : Bool) (s : State) : Panel :=
  let p := s.pnl
  { frame := p.frame, crc := p.crc, intent := p.intent, balance := p.balance, fullBand := p.fullBand, fullRows := p.fullRows
    fullPending := p.fullPending || s.evt.mramBad.contains .panel, first := true, crack := crackOpen, frozen := p.frozen && crackOpen }

/-- A valid dump survives; one interrupted by reset counts as absent (R365, R366). -/
def startDump (s : State) : Dump :=
  if s.dmp.valid then { s.dmp with due := none, history := [] } else {}

/-- The oscillator and the clock monitor have their own supply state: only power cycles them (R27, R28). -/
def startSupply (powered : Bool) (s : State) : Supply :=
  if powered then {}
  else { stable := s.sup.stable, warmS := s.sup.warmS, powered := s.sup.powered, monitorReleases := s.sup.monitorReleases, monitorLatched := s.sup.monitorLatched }

/-- The marks of failed channels, which last until a start-up test passes the channel (R337). -/
def startTrivet (s : State) : TrivetLocal :=
  { channels := s.trv.channels.map fun c => { failed := c.failed, fault := c.fault } }

/-- The state in which a unit starts (R65, R398): every register at its Reset value but for what MRAM and flash hold. -/
def stateAtStart (cause : ResetCause) (unit : UnitId) (crackOpen : Bool) (s : State) : State :=
  { um := { resetCause := cause, unit }
    fab := { marked := startMarks s }
    log := startRecorder s
    dmp := startDump s
    sup := startSupply (cause == .powerApplied) s
    pnl := startPanel crackOpen s
    ktl := startKettle s
    life := startLife s
    trv := startTrivet s
    upd := startUpdate s
    free := s.free
    pending := s.pending }

/-- The events of a start: a valid dump held, a full recorder, a close-out not completed, an unplanned reset. -/
def startEvents (cause : ResetCause) (lost : Bool) (t : State) : State :=
  let t := when t.dmp.valid (raise 17) t
  let t := when t.log.full (setRaised 18) t
  let t := when lost (raise 30) t
  when (cause == .supplySupervisor || cause == .clockMonitor) (raise 3) t

/-- The unit starts in BOOT. -/
def resetUnit (cause : ResetCause) (unit : UnitId) (crackOpen : Bool) (s : State) : State :=
  startEvents cause s.log.closeOutLost (stateAtStart cause unit crackOpen s)

/-! ## The rows -/

/-- The strap high is unit B (R3, R454). -/
def strapUnit (high : Bool) : UnitId := if high then .b else .a

/-- Releases of the clock monitor in the 600 s before `now`, and this one. -/
def recentReleases (nowMs : Nat) (l : List Nat) : List Nat := (l.filter fun t => decide (nowMs ≤ t + 600000)) ++ [nowMs]

/-- The clock monitor releases the reset that it holds; the third release within 600 s latches it, so that it holds its next reset
until a power cycle (R28). The unit starts unless the supply supervisor still holds it. -/
def monitorRelease (nowMs : Nat) (strapHigh crackOpen : Bool) (s : State) : State :=
  if s.um.inReset ∧ s.sup.monitorHolds ∧ ¬ s.sup.monitorLatched then
    let l := recentReleases nowMs s.sup.monitorReleases
    let s := { s with sup := { s.sup with monitorReleases := l, monitorLatched := decide (3 ≤ l.length), monitorHolds := false } }
    if s.sup.supplyHolds then s else resetUnit .clockMonitor (strapUnit strapHigh) crackOpen s
  else s

/-- 13.0 V + 0.2 V; 15.0 V − 0.2 V, in uQ8.8 (R450). -/
def busResetMax : Nat := 3379
def busReleaseMin : Nat := 3789

/-- The supply supervisor releases reset at 15.0 V rising, and not before 50 ms (R65, R450); the unit starts unless the clock monitor holds
it. -/
def supplyRelease (volts heldMs : Nat) (strapHigh crackOpen : Bool) (s : State) : State :=
  if s.um.inReset ∧ s.sup.supplyHolds ∧ busReleaseMin ≤ volts ∧ 50 ≤ heldMs then
    let s := { s with sup := { s.sup with supplyHolds := false } }
    if s.sup.monitorHolds then s else resetUnit .supplySupervisor (strapUnit strapHigh) crackOpen s
  else s

/-- Reset release (R65): power is applied, or the supply supervisor or the clock monitor releases the reset it holds. -/
def execResetRelease (cause : Release) (strapHigh crackOpen : Bool) (s : State) : Host.Outcome State Fault Refusal :=
  .next (match cause with
    | .power => resetUnit .powerApplied (strapUnit strapHigh) crackOpen s
    | .supply volts heldMs => supplyRelease volts heldMs strapHigh crackOpen s
    | .monitor nowMs => monitorRelease nowMs strapHigh crackOpen s)

/-- The input bus falls to 13.0 V (R65); the close-out is assured once the hold-up store has been charged (R451). -/
def execSupplyReset (volts : Nat) (closeOutCompletes : Bool) (s : State) : Host.Outcome State Fault Refusal :=
  .next (if volts ≤ busResetMax then
      let t := if s.um.inReset then s else assertReset (s.sup.holdup || closeOutCompletes) s
      { t with sup := { t.sup with supplyHolds := true } }
    else s)

/-- The clock monitor holds Xonena in reset (R28). -/
def execClockMonitorReset (s : State) : Host.Outcome State Fault Refusal :=
  let t := if s.um.inReset then s else assertReset true s
  .next { t with sup := { t.sup with monitorHolds := true } }

/-- The clock monitor releases its reset after 1 s of good clocks, unless three releases occurred within 600 s (R28). -/
def execClockMonitorRelease (nowMs : Nat) (strapHigh crackOpen : Bool) (s : State) : Host.Outcome State Fault Refusal :=
  .next (monitorRelease nowMs strapHigh crackOpen s)

end Sys2Proof.Machine
end

