-- ==== Sys2Proof/Machine/Command.lean ====
section
/-! DEFINITION. Operator commands: what validation refuses and what a command does when it takes effect (R58, R59, R87, R382,
R396, R401 and the rules of each register). -/

namespace Sys2Proof.Machine

/-! ## Words of a command -/

/-- The registers that a command addresses, with their words. -/
def regsOf (addr : Nat) (words : List Word) : List (Nat × Word) := mapAt words fun i w => (addr + 4 * i, w)

/-- Bits of a word that a mask names. -/
def anyBit (w : Word) (mask : Nat) : Bool := (w &&& BitVec.ofNat 32 mask) != 0

/-- MOD_CMD fields. -/
def cmdMode (w : Word) : Nat := fieldOf w 2 0
def cmdFunc (w : Word) : Nat := fieldOf w 11 8
def cmdBerth (w : Word) : Nat := fieldOf w 18 16

/-- Waypoint register: its waypoint and which of its four values. -/
def waypointOf (a : Nat) : Nat × Nat := ((a - 0x202100) / 0x10, (a - 0x202100) % 0x10 / 4)

/-- Bits described "Must be zero" in the registers outside the unit-local page (R396). -/
def mustBeZero (a : Nat) : Nat :=
  if a = 0x1000C then 0xFFF8F0F8
  else if a = 0x20030 then 0x7FFFFF80
  else if a = 0x200084 then 0x7F00FFF0
  else if a = 0x20101C then 0xFFFF0000
  else if a = 0x201024 then 0xFFFFFFF0
  else if a = 0x202014 then 0xFFFFFFC0
  else if a = 0x300044 then 0xFFFFFEF0
  else if a = 0x300048 then 0xFFFFE000
  else if a = 0x400004 ∨ a = 0x410004 then 0xFFFFFFE0
  else if within 0x600100 0x20 16 a then 0xFFFFFFFC
  else if a = 0x800014 ∨ a = 0xA0000C then 0xFFFFFF00
  else if within 0x800100 4 8 a then 0xFFFF0000
  else if a = 0xA00010 then 0xFFFFFEF8
  else if a = 0xB00000 then 0xFFFFFFFE
  else if a = 0xD00000 then 0xFFFFFCFE
  else 0

/-- Alarm sources of a bank as bits. -/
def alarmBits (b : Nat) : Nat := bitSet ((List.range 32).filter fun k => (attrOf (32 * b + k)).sev == .alarm)

/-- The word is wrong by its own register's field table, whatever the state: a bit that must be zero, a code that is not
used, a value that is refused or does not exist (R382, R396; NaN, log 21). -/
def wordFault (a : Nat) (w : Word) (s : State) : Bool :=
  anyBit w (mustBeZero a) ||
  (if a = 0x1000C then (cmdFunc w != 0 && cmdMode w != 4) || (cmdBerth w != 0 && cmdFunc w != 5)
   else if within 0x20020 4 4 a then anyBit w (alarmBits ((a - 0x20020) / 4))
   else if a = 0x200084 then decide (10 < fieldOf w 3 0)
   else if a = 0x201020 ∨ a = 0x201028 ∨ a = 0x20102C ∨ within 0x202008 4 3 a then (wordQ w).isNone
   else if a = 0x201024 then !declared (fieldOf w 3 0) s
   else if a = 0x202014 then decide (fieldOf w 5 0 < 2) || decide (32 < fieldOf w 5 0)
   else if a = 0x400004 ∨ a = 0x410004 then fieldOf w 3 0 == 0
   else if within 0x800100 4 8 a then fieldOf w 15 8 == 0 || fieldOf w 7 0 == 0
   else false)

/-! ## Mode rules (R87, R401, R472) -/

/-- Registers whose writes only MAINTENANCE takes (R87). -/
def maintOnly (a : Nat) : Bool :=
  a == 0x800014 || within 0xB00000 4 5 a || a == 0xE00000 || a == 0xE00004 || within 0xD00000 4 5 a || a == 0xC00004 || a == 0xA00010

/-- A write that MAINTENANCE takes (R87): its own actions, EVT_ACK, EVT_MASK_b, the return to STANDBY. -/
def maintTakes (r : Nat × Word) (s : State) : Bool :=
  maintOnly r.1 || r.1 == 0x20030 || within 0x20020 4 4 r.1 || (r.1 == 0x1000C && cmdMode r.2 == 3 && s.um.maintFromStandby)

/-- The unit's mode takes every write of a committed command. -/
def modeTakes (rs : List (Nat × Word)) (s : State) : Bool :=
  match s.um.mode with
  | .maintenance => rs.all fun r => maintTakes r s
  | .standby | .active => rs.all fun r => !maintOnly r.1
  | _ => false

/-- The partner reports ACTIVE: a unit of the pair is in ACTIVE (R64). A mirrored partner has this unit's own pair mode, whatever its last
heartbeat said. -/
def partnerActive (s : State) : Bool :=
  isPair s && !isMirrored s && (match report s with
    | some h => h.mode == .active
    | none => false)

/-- MOD_CMD is refused (R64, R79, R80, R88, R401, R431). -/
def modeRefused (w : Word) (s : State) : Bool :=
  let pm := s.mir.mode.pairMode
  let f := cmdFunc w
  let berth := if f = 5 then some (cmdBerth w) else none
  let noBerth := f == 5 && (berthDecl (cmdBerth w) s).isNone
  match cmdMode w with
  | 3 => !(pm == .active || (pm == .maintenance && s.mir.mode.maintFromStandby && !s.um.mustRestart))
  | 4 =>
    if pm = .standby then
      match funcOf (if f = 0 then 1 else f) with
      | some g => !(roleHeld s && estopClear s && driveReady s && activePermitted s.life.state && entryFunc g && funcReady g berth s)
      | none => true
    else if pm = .active then
      match funcOf f, s.mir.mode.func with
      | some g, some cur => noBerth || g == cur || !(selectableFrom g cur && funcReady g berth s)
      | _, _ => true
    else true
  | 6 => pm != .standby || partnerActive s
  | _ => true

/-! ## Rules of single registers -/

def modWsk (f : Whisk → Whisk) (s : State) : State := { s with mir := { s.mir with wsk := f s.mir.wsk } }

/-- Position and heading from which a target's step is measured (R185): the estimate in use once updated, else Whisk's. -/
def stepBase (s : State) : Q × Q × Q :=
  if s.mir.est.updatedSince then (s.mir.est.est.north, s.mir.est.est.east, s.mir.est.est.hdg)
  else (s.mir.wsk.north, s.mir.wsk.east, s.mir.wsk.heading)

/-- Two positions lie within the declared step. -/
def withinStep (n e n' e' : Int) (s : State) : Bool :=
  let t := s.cfg.image.tuning.stepLen
  decide ((n - n') * (n - n') + (e - e') * (e - e') ≤ t * t)

/-- The word that a register holds after the write. -/
def after (rs : List (Nat × Word)) (a : Nat) (old : Word) : Word := (lookupNat a rs).getD old

/-- A target write is refused (R185). -/
def targetRefused (rs : List (Nat × Word)) (s : State) : Bool :=
  let m := s.mir.mpc
  let n := wordQ (after rs 0x202008 m.targetN)
  let e := wordQ (after rs 0x20200C m.targetE)
  let h := wordQ (after rs 0x202010 m.targetHdg)
  let b := stepBase s
  let pos := (lookupNat 0x202008 rs).isSome || (lookupNat 0x20200C rs).isSome
  let posBad := match n, e, b.1, b.2.1 with
    | some n, some e, some bn, some be => !withinStep n e bn be s
    | _, _, _, _ => true
  let hdgBad := match h, b.2.2 with
    | some h, some bh => decide (s.cfg.image.tuning.stepAng < angleDist h bh)
    | _, _ => true
  (pos && posBad) || ((lookupNat 0x202010 rs).isSome && hdgBad)

/-- A step from one place and heading to a waypoint within the declared step of R185. -/
def waypointStep (n e h : Q) (w : Waypoint) (s : State) : Bool :=
  match n, e, h, wordQ w.north, wordQ w.east, wordQ w.hdg with
  | some n, some e, some h, some n', some e', some h' =>
    withinStep n' e' n e s && decide (angleDist h' h ≤ s.cfg.image.tuning.stepAng)
  | _, _, _, _, _, _ => false

/-- Every waypoint lies within the step of its predecessor. -/
def chainSteps (s : State) : Q × Q × Q → List Waypoint → Bool
  | _, [] => true
  | b, w :: r => waypointStep b.1 b.2.1 b.2.2 w s && chainSteps s (wordQ w.north, wordQ w.east, wordQ w.hdg) r

/-- A waypoint's speed lies within the declared maximum. -/
def speedOk (w : Waypoint) (s : State) : Bool :=
  match wordQ w.spd with
  | some v => decide (0 ≤ v) && decide (v ≤ s.cfg.image.tuning.maxSpeed)
  | none => false

/-- A track is accepted (R186). -/
def trackOk (count : Nat) (s : State) : Bool :=
  let ws := s.mir.mpc.waypoints.take count
  let e := s.mir.est.est
  s.mir.mode.func != some .autoTrack && chainSteps s (e.north, e.east, e.hdg) ws && ws.all fun w => speedOk w s

/-- Largest push that ALC_PUSH_FORCE takes (R188). -/
def pushLimit (s : State) : Int :=
  if s.mir.mode.func = some .berthPush then ((berthDecl s.mir.mode.berth s).map (·.maxPush)).getD 0
  else (s.cfg.image.berths.map (·.maxPush)).foldl max 0

/-- A write of ALC_TEST or ALC_TEST_THRUST is refused (R189). -/
def testRefused (rs : List (Nat × Word)) (s : State) : Bool :=
  let a := s.mir.alc
  let j := fieldOf (after rs 0x201024 a.test) 3 0
  let named := (lookupNat 0x201024 rs).isSome
  let present := (unitState j s).present
  let barred := named && (present.contains 1 || present.contains 4 || present.contains 5)
  let u := unitDecl j s
  let beyond := match wordQ (after rs 0x201028 a.testThrust) with
    | some t => decide (u.testLimit * u.rated < 1000 * (t.natAbs : Int))
    | none => true
  barred || beyond

/-- A dispute choice is refused (R210). -/
def disputeRefused (w : Word) (s : State) : Bool :=
  let x := if bitOf w 8 then s.mir.wsk.hdg else s.mir.wsk.pos
  let i := fieldOf w 3 0
  !(x.dispute != 0 && (match x.pair with
    | some p => p.1 == i || p.2 == i
    | none => false))

/-- A chain's declaration. -/
def chainDecl (n : Nat) (s : State) : ChainDecl := s.cfg.image.chains.getD n {}

/-- A set selection is refused (R263). -/
def sieveRefused (n : Nat) (w : Word) (s : State) : Bool :=
  let d := chainDecl n s
  let c := s.mir.siv.getD n {}
  !(decide (fieldOf w 1 0 < d.sets.length) && d.mode == 1 && c.phase == 0 && c.changedAt.isNone)

/-- A latched trip's cause is present on channel k (R345). -/
def tripCause (k : Nat) (s : State) : Bool :=
  let c := safeChannel k s
  let unit (f : Nat → Bool) : Bool := match channelUnit k s with
    | some j => f j
    | none => false
  (c.slt && unit (sltExceeds · s)) || (c.sts && unit (stsExceeds · s)) || (c.sls && slsExceeds s) ||
    (c.estop && (List.range 16).any fun p =>
      estopMapped p k s && ((s.mir.trv.pairs.getD p {}).safe || (s.mir.trv.pairs.getD p {}).fault))

/-- A wiring check is refused on this unit (R338); switching off is not. -/
def wirechkRefused (w : Word) (s : State) : Bool :=
  let k := fieldOf w 2 0
  bitOf w 8 && ((channelLocal k s).failed || (match channelUnit k s with
    | some j => unitReady j s
    | none => false))

/-! ## Tokens (R363, R432) -/

/-- Octets that five words carry after the first. -/
def tokenBytes (rs : List (Nat × Word)) (base : Nat) : List Byte :=
  ((List.range 4).map fun i => wordBytes ((lookupNat (base + 4 + 4 * i) rs).getD 0)).flatten

/-- The token of a recorder clear. -/
def clearToken (s : State) (w : List Byte) : List Byte :=
  mac128 w (ascii [76, 67, 76, 82] ++ beBytes 8 Cfg.serial ++ beBytes 4 s.log.cycle ++ beBytes 4 s.log.clears)

/-- The token of a life-cycle transition. -/
def lifeToken (target : Nat) (s : State) (w : List Byte) : List Byte :=
  mac128 w (ascii [76, 67, 89, 67] ++ beBytes 8 Cfg.serial ++ beBytes 4 s.log.cycle ++ beBytes 4 target ++ beBytes 4 s.life.count)

/-- A token equals that of the working key of a slot. -/
def tokenHolds (slot : Nat) (given : List Byte) (f : List Byte → List Byte) (s : State) : Bool :=
  match s.hap.keys.getD slot none with
  | some w => given == f w
  | none => false

/-- The command names this unit. -/
def namesUnit (w : Word) (s : State) : Bool := fieldOf w 0 0 == unitCode s.um.unit

/-- All `n` words from a base are covered by the write. -/
def coversAll (base n : Nat) (rs : List (Nat × Word)) : Bool := (List.range n).all fun i => (lookupNat (base + 4 * i) rs).isSome

/-- A recorder clear is refused (R363). -/
def logClearRefused (rs : List (Nat × Word)) (s : State) : Bool :=
  !coversAll 0xB00000 5 rs ||
    (namesUnit (after rs 0xB00000 0) s && !tokenHolds 8 (tokenBytes rs 0xB00000) (clearToken s) s)

/-- Life-cycle states by their code. -/
def lifeOf : Nat → LifeCycle
  | 0 => .factory
  | 1 => .commissioning
  | 2 => .inService
  | _ => .returned

/-- The arcs of R431. -/
def lifeArc : LifeCycle → LifeCycle → Bool
  | .factory, .commissioning => true
  | .commissioning, .inService => true
  | .commissioning, .returned => true
  | .inService, .returned => true
  | .returned, .commissioning => true
  | _, _ => false

/-- A life-cycle transition is refused (R432). -/
def lifeRefused (rs : List (Nat × Word)) (s : State) : Bool :=
  let w := after rs 0xD00000 0
  let target := fieldOf w 9 8
  !coversAll 0xD00000 5 rs ||
    (namesUnit w s && !(lifeArc s.life.state (lifeOf target) && tokenHolds 9 (tokenBytes rs 0xD00000) (lifeToken target s) s))

/-- The digest that UPD_COMMIT names. -/
def commitDigest64 (rs : List (Nat × Word)) : Nat := (after rs 0xE00000 0).toNat * 2 ^ 32 + (after rs 0xE00004 0).toNat

/-- A manifest commit is refused (R439). -/
def commitRefused (rs : List (Nat × Word)) (s : State) : Bool :=
  let d := commitDigest64 rs
  let partner : Bool := match report s with
    | some h => h.fwDigest == d
    | none => false
  !coversAll 0xE00000 2 rs || !(s.upd.state == 4 && s.upd.staged == d) ||
    !((s.mir.mode.pairMode == .maintenance && s.um.maintFromStandby && isMirrored s) || isSingle s ||
      (s.um.mode == .maintenance && !s.um.maintFromStandby && partner))

/-! ## Validation (R58, R374, R375) -/

/-- A register's word is refused by its rule in the present state. -/
def wordRefused (a : Nat) (w : Word) (s : State) : Bool :=
  if a = 0x1000C then modeRefused w s
  else if a = 0x200040 then positionFunc s
  else if a = 0x200084 then !slotPending (fieldOf w 3 0) (fieldOf w 23 16) s
  else if a = 0x20101C then (bitsOf 16 w.toNat).any fun j => (unitState j s).present.any (· != 3)
  else if a = 0x201020 then (match wordQ w with
    | some v => decide (pushLimit s < v)
    | none => true)
  else if a = 0x202014 then !trackOk (fieldOf w 5 0) s
  else if within 0x202100 4 128 a then s.mir.mode.func == some .autoTrack
  else if a = 0x300044 then disputeRefused w s
  else if within 0x600100 0x20 16 a then sieveRefused ((a - 0x600100) / 0x20) w s
  else if a = 0x900008 then s.pair.phase != .mirrored
  else if a = 0xA0000C then (bitsOf 8 w.toNat).any fun k => tripCause k s
  else if a = 0xA00010 then wirechkRefused w s
  else if a = 0xC00004 then s.pnl.suspended || s.pnl.frozen
  else false

/-- Rules over several registers of one write. -/
def groupRefused (rs : List (Nat × Word)) (s : State) : Bool :=
  let touches (f : Nat → Bool) : Bool := rs.any fun r => f r.1
  (touches (within 0x202008 4 3) && targetRefused rs s) ||
    (touches (fun a => a == 0x201024 || a == 0x201028) && testRefused rs s) ||
    (touches (within 0xB00000 4 5) && logClearRefused rs s) ||
    (touches (within 0xD00000 4 5) && lifeRefused rs s) ||
    (touches (fun a => a == 0xE00000 || a == 0xE00004) && commitRefused rs s)

/-- Index of the first word that its field table refuses. -/
def firstFault (addr : Nat) (words : List Word) (s : State) : Option Nat :=
  (List.range words.length).find? fun i => wordFault (addr + 4 * i) (words.getD i 0) s

/-- Validation of a committed command: status and DETAIL; status 0 accepts. -/
def validate (addr : Nat) (words : List Word) (s : State) : Nat × Nat :=
  let rs := regsOf addr words
  if !modeTakes rs s then (8, 0xFF)
  else match firstFault addr words s with
    | some i => (8, i)
    | none => if rs.any (fun r => wordRefused r.1 r.2 s) || groupRefused rs s then (8, 0xFF) else (0, 0)

/-! ## Taking effect (R58) -/

/-- Roster index of the station of a slot (R358). -/
def stationIndex (slot : Nat) (s : State) : Nat := s.cfg.image.roster.idxOf slot

/-- MOD_CMD takes effect (R401). -/
def applyModCmd (w : Word) (s : State) : State :=
  match cmdMode w with
  | 3 => changePairMode .standby s
  | 4 =>
    match funcOf (if s.mir.mode.pairMode = .standby ∧ cmdFunc w = 0 then 1 else cmdFunc w) with
    | some f => if s.mir.mode.pairMode = .standby then enterActive f (cmdBerth w) s else selectInActive f (cmdBerth w) s
    | none => s
  | 6 => changePairMode .maintenance s
  | _ => s

/-- EVT_MASK_b (R354). -/
def applyMask (b : Nat) (w : Word) (s : State) : State :=
  updateRelays { s with mir := { s.mir with evt := { s.mir.evt with masks := modAt s.mir.evt.masks b (fun _ => w) } } }

/-- The named unit's recorder is emptied: EV_019 stands at index 0 (R363). -/
def clearRecorder (slot : Nat) (s : State) : State :=
  let n := s.log.records.length
  let s := { s with log := { s.log with records := [], full := false, clears := (s.log.clears + 1) % 2 ^ 32 } }
  let d : DueRecord := { event := 19, kind := 1, w0 := stationIndex slot s, value := n }
  let s := clearEvent 18 (setRaised 19 s)
  { s with log := { s.log with records := [newRecord d s] }, evt := { s.evt with written := s.evt.written ++ [d] } }

/-- The named unit's life-cycle state changes (R432). -/
def applyLife (w : Word) (s : State) : State :=
  if namesUnit w s then
    raise 25 { s with life := { state := lifeOf (fieldOf w 9 8), count := bump 8 s.life.count }, um := { s.um with mustRestart := true } }
  else s

/-- The commit record is written (R439). -/
def applyCommit (d : Nat) (s : State) : State :=
  raise 22 { s with upd := { s.upd with commit := some d, state := 6, staged := d }, um := { s.um with mustRestart := true } }

/-- A waypoint register; it clears ACCEPTED (R186). -/
def applyWaypoint (a : Nat) (w : Word) (s : State) : State :=
  let k := waypointOf a
  modMpc (fun m => { m with
    accepted := false
    waypoints := modAt m.waypoints k.1 fun x => match k.2 with
      | 0 => { x with north := w }
      | 1 => { x with east := w }
      | 2 => { x with hdg := w }
      | _ => { x with spd := w } }) s

/-- SIV_n_CTRL: the change begins, and PHASE leaves running (R263). -/
def applySieve (n : Nat) (w : Word) (s : State) : State :=
  let s := { s with mir := { s.mir with siv := modAt s.mir.siv n fun c => { c with
    ctrl := w, changedAt := some (s.mir.tim.cutoff + 80000), boundary := none, phase := 3, fade := (chainDecl n s).fade } } }
  { s with siv := { s.siv with chains := modAt s.siv.chains n fun c => { c with selected := some (fieldOf w 1 0) } } }

/-- A dispute choice (R210). -/
def applyDispute (w : Word) (s : State) : State :=
  let f (x : AxisState) : AxisState := { x with choice := some (fieldOf w 3 0) }
  modWsk (fun k => if bitOf w 8 then { k with hdg := f k.hdg } else { k with pos := f k.pos }) s

/-- TRV_RESET clears the latches of the named channels (R345). -/
def applyReset (mask : Nat) (s : State) : State :=
  let clear (k : Nat) (c : SafeChannel) : SafeChannel :=
    if mask.testBit k then { c with slt := false, sts := false, sls := false, estop := false } else c
  updatePermits (modTrv (fun t => { t with channels := mapAt t.channels clear }) s)

/-- TRV_WIRECHK (R338): the channel switches at E+350 µs. -/
def applyWirechk (w : Word) (s : State) : State :=
  modChannel (fieldOf w 2 0) (fun c => { c with wirechk := bitOf w 8, wirechkEpochs := 0 }) s

/-- GNx_SYS_ENABLE takes effect in the epoch with this cut-off: both engines apply it to solutions of later epochs (R239). -/
def enableSystems (w : Word) (cutoff : Nat) (g : GnssRef) : GnssRef :=
  { g with enable := w, before := g.enable, since := cutoff + 500000 }

/-- One word of a command takes effect; `slot` is the station's. -/
def applyWord (slot : Nat) (rs : List (Nat × Word)) (a : Nat) (w : Word) (s : State) : State :=
  if a = 0x1000C then applyModCmd w s
  else if within 0x20020 4 4 a then applyMask ((a - 0x20020) / 4) w s
  else if a = 0x20030 then (if bitOf w 31 then ackAll (stationIndex slot s) s else ackEvent (stationIndex slot s) (fieldOf w 6 0) s)
  else if a = 0x100028 then { s with mir := { s.mir with mrt := { s.mir.mrt with fails := List.replicate 6 {} } } }
  else if a = 0x100124 then modLdl (fun l => { l with coldAlc := 0, coldMpc := 0, coldCqa := 0, coldBa := 0 }) s
  else if a = 0x200040 then modEst (fun e => { e with restartCommanded := true }) s
  else if a = 0x200084 then (if bitOf w 31 then rejectSlot (fieldOf w 3 0) s else acceptSlot (fieldOf w 3 0) s)
  else if a = 0x20101C then
    (bitsOf 16 w.toNat).foldl (fun s j => modUnit j (fun u => { u with discrepancy := false, discRun := 0 }) s) s
  else if a = 0x201020 then modAlc (fun x => { x with pushForce := w }) s
  else if a = 0x201024 then modAlc (fun x => { x with test := w }) s
  else if a = 0x201028 then modAlc (fun x => { x with testThrust := w }) s
  else if a = 0x20102C then modAlc (fun x => { x with testAz := w }) s
  else if a = 0x202008 then modMpc (fun m => { m with targetN := w }) s
  else if a = 0x20200C then modMpc (fun m => { m with targetE := w }) s
  else if a = 0x202010 then modMpc (fun m => { m with targetHdg := w }) s
  else if a = 0x202014 then modMpc (fun m => { m with accepted := true, count := fieldOf w 5 0 }) s
  else if within 0x202100 4 128 a then applyWaypoint a w s
  else if a = 0x300044 then applyDispute w s
  else if a = 0x300048 then modWsk (fun k => { k with exclude := w }) s
  else if a = 0x400004 then { s with mir := { s.mir with gnA := enableSystems w s.mir.tim.cutoff s.mir.gnA } }
  else if a = 0x410004 then { s with mir := { s.mir with gnB := enableSystems w s.mir.tim.cutoff s.mir.gnB } }
  else if within 0x600100 0x20 16 a then applySieve ((a - 0x600100) / 0x20) w s
  else if a = 0x800014 then restartBuses w.toNat s
  else if within 0x800100 4 8 a then
    let b := (a - 0x800100) / 4
    let s := { s with mir := { s.mir with fld := { s.mir.fld with warn := modAt s.mir.fld.warn b (fun _ => w) } } }
    busEvents (b + 1) (modBus (b + 1) (fun c => if c.state < 3 then { c with state := counterState (warnOf (b + 1) s) c.txErr c.rxErr } else c) s)
  else if a = 0x900008 then { s with mir := { s.mir with pair := { s.mir.pair with swapDue := true } } }
  else if a = 0xA0000C then applyReset w.toNat s
  else if a = 0xA00010 then applyWirechk w s
  else if a = 0xB00000 then (if namesUnit w s then clearRecorder slot s else s)
  else if a = 0xC00004 then refreshPanel s
  else if a = 0xD00000 then applyLife w s
  else if a = 0xE00000 then applyCommit (commitDigest64 rs) s
  else s

/-- A command takes effect as a whole. -/
def applyCommand (c : Command) (s : State) : State :=
  let rs := regsOf c.addr c.words
  rs.foldl (fun s r => applyWord c.slot rs r.1 r.2 s) s

/-- A due command takes effect and enters the commitment digest (R49, R58). -/
def takeEffect (c : Command) (s : State) : State :=
  let s := applyCommand c s
  { s with ex := { s.ex with effected := s.ex.effected ++ [c] } }

/-! ## Fast work of the epoch of commitment (R58, R59) -/

/-- The command selects AUTO-HEADING or AUTO-POSITION (R185). -/
def selectsTarget (c : Command) : Bool :=
  (regsOf c.addr c.words).any fun r => r.1 == 0x1000C && cmdMode r.2 == 4 && (cmdFunc r.2 == 2 || cmdFunc r.2 == 3)

/-- The command writes a target register. -/
def writesTarget (c : Command) : Bool := (regsOf c.addr c.words).any fun r => within 0x202008 4 3 r.1

/-- Validation of the commands in canonical order: a register claimed by an earlier command, or a target beside a selection,
supersedes (R59, R185). That the other registers of a superseded command are not claimed against later commands is the model's
choice (log 108). -/
def validateAll (s : State) (selection : Bool) : List Nat → List Command → List Command
  | _, [] => []
  | claimed, c :: r =>
    let mine := (regsOf c.addr c.words).map (·.1)
    if mine.any claimed.contains || (selection && writesTarget c) then
      { c with verdict := some 0x0A, detail := 0 } :: validateAll s selection claimed r
    else
      let v := validate c.addr c.words s
      { c with verdict := some v.1, detail := v.2 } :: validateAll s selection (claimed ++ mine) r

/-- Each unit validates the commands committed in the epoch (R58). -/
def validateCommands (s : State) : State :=
  let l := s.ex.commands
  { s with ex := { s.ex with commands := validateAll s (l.any selectsTarget) [] l } }

/-- Votes of the digest frame: one for each command that was validated. -/
def votesOf (s : State) : List Vote :=
  s.ex.commands.filterMap fun c =>
    match c.verdict with
    | some 0x0A => none
    | some v => some ⟨c.id, v == 0⟩
    | none => none

/-! ## Unit-local commands (R86, R255, R366, R385, R395, R429, R430, R437) -/

/-- Bits that must be zero in the unit-local page. -/
def localMustBeZero (a : Nat) : Nat :=
  if a = 0xFF110C then 0xFFFFF000 else if a = 0xFF1114 then 0xFFFFFD00 else if a = 0xFF1200 then 0xFFFFFFFC else 0

/-- The action codes of R429. -/
def manualCode (c : Nat) : Bool := c == 1 || c == 2 || c == 3 || c == 8 || c == 9 || c == 0xA

/-- The item exists for the action. -/
def manualItem (code item : Nat) : Bool := if code = 1 ∨ code = 0xA ∨ code = 3 then decide (item < 8) else true

/-- A unit-local word is wrong by its own field table. -/
def localFault (a : Nat) (w : Word) : Bool :=
  anyBit w (localMustBeZero a) ||
  (if a = 0xFF110C then !(manualCode (fieldOf w 11 8) && manualItem (fieldOf w 11 8) (fieldOf w 7 0))
   else if a = 0xFF1200 then fieldOf w 1 0 == 0
   else false)

/-- The answering unit's mode takes a unit-local write (R63, R64, R86, R366, R404, R437). -/
def localMode (a : Nat) (s : State) : Bool :=
  match s.um.mode with
  | .standby | .active => a == 0xFF0620 || a == 0xFF0E48 || a == 0xFF1200
  | .maintenance => a == 0xFF0018 || a == 0xFF0E48 || a == 0xFF1200 || a == 0xFF110C || a == 0xFF1114
  | .hold => a == 0xFF0018 || a == 0xFF001C || a == 0xFF0E48 || a == 0xFF1200
  | _ => false

/-- Manual tests and the clear of R430, injections (R431). -/
def manualPermitted : LifeCycle → Bool
  | .inService => false
  | _ => true

def clearPermitted : LifeCycle → Bool
  | .factory | .returned => true
  | _ => false

/-- A unit-local write is refused in the present state. -/
def localRefused (a : Nat) (w : Word) (s : State) : Bool :=
  if a = 0xFF0E48 then !dumpRead s.dmp
  else if a = 0xFF110C then
    !manualPermitted s.life.state || s.ktl.manual.isSome ||
      (decide (8 ≤ fieldOf w 11 8) && s.um.maintFromStandby)
  else if a = 0xFF1114 then
    !clearPermitted s.life.state || (bitsOf 8 w.toNat).any fun k => !s.ktl.mPassed.contains k
  else if a = 0xFF1200 then s.upd.state == 6 || s.upd.state == 7
  else false

/-- Status and DETAIL of a unit-local write at ingress. -/
def localVerdict (addr : Nat) (words : List Word) (s : State) : Nat × Nat :=
  let rs := regsOf addr words
  if !rs.all (fun r => localMode r.1 s) then (7, 0)
  else match (List.range words.length).find? fun i => localFault (addr + 4 * i) (words.getD i 0) with
    | some i => (8, i)
    | none => if rs.any fun r => localRefused r.1 r.2 s then (8, 0xFF) else (0, 0)

/-- LOC_RESTART (R86, R385, R440): records due are written, and the unit starts in BOOT; with a commit record the copy into the
other bank comes first. -/
def restartUnit (s : State) : State :=
  if s.upd.commit.isSome then
    { s with upd := { s.upd with state := 7, progress := 0 } }
  else
    let s := writeDue (changeMode .boot 0 s)
    resetUnit .locRestart s.um.unit s.pnl.crack (assertReset true s)

/-- LOC_MAINT: HOLD to MAINTENANCE (R86). -/
def toMaintenance (s : State) : State :=
  let s := changeMode .maintenance 0 (endFunction s)
  { s with um := { s.um with maintFromStandby := false } }

/-- The dump is released (R366). -/
def releaseDump (s : State) : State := clearEvent 17 { s with dmp := { s.dmp with valid := false, readRanges := [] } }

/-- A manual action is taken (R429): it begins at once, or after the slice in progress (R35). A Skillet test takes its Skillet out at the next
E+0 µs (R145); while a Skillet is marked it takes none out (R147). -/
def startManual (w : Word) (s : State) : State :=
  let code := fieldOf w 11 8
  let held := s.ktl.running.isSome || s.fab.test.isSome || s.fab.variantDue.isSome
  { s with ktl := { s.ktl with manual := some (code, fieldOf w 7 0), manualHeld := held, mResult := 1, mCode := code, mItem := fieldOf w 7 0 }
           fab := if code = 1 ∧ ¬ held ∧ s.fab.marked.isEmpty then { s.fab with variantDue := some (some (fieldOf w 7 0)) } else s.fab
           um := if 8 ≤ fieldOf w 11 8 then { s.um with mustRestart := true } else s.um }

/-- LOC_KTL_CLEAR (R430): with effect from the next start. -/
def clearHealth (w : Word) (s : State) : State :=
  { s with ktl := { s.ktl with clearSpares := s.ktl.clearSpares || bitOf w 9
                               clearSkillets := (bitsOf 8 w.toNat).foldl (fun l k => insertNat k l) s.ktl.clearSkillets } }

/-- LOC_UPD_CTRL (R437): OPEN erases and binds staging to the session's slot; VERIFY; DISCARD. -/
def updateControl (slot : Nat) (w : Word) (s : State) : State :=
  match fieldOf w 1 0 with
  | 1 => { s with upd := { s.upd with state := 1, slot := some slot, progress := 0, staged := 0, fault := 0 } }
  | 2 => { s with upd := { s.upd with state := 3, progress := 0, fault := 0 } }
  | 3 => { s with upd := { s.upd with state := 0, slot := none, progress := 0, staged := 0, fault := 0 } }
  | _ => s

/-- A unit-local word takes effect. -/
def applyLocal (slot a : Nat) (w : Word) (s : State) : State :=
  if a = 0xFF0018 then restartUnit s
  else if a = 0xFF001C then toMaintenance s
  else if a = 0xFF0620 then (if bitOf w 31 then { s with time := { s.time with txqOvf := false } } else s)
  else if a = 0xFF0E48 then releaseDump s
  else if a = 0xFF110C then startManual w s
  else if a = 0xFF1114 then clearHealth w s
  else if a = 0xFF1200 then updateControl slot w s
  else s

end Sys2Proof.Machine
end

