-- ==== Sys2Proof/Machine/Hap.lean ====
section
/-! DEFINITION. The Host Access Protocol (chapter 18): datagrams, sessions, snapshots, holds, notifications, the bulk window,
and the ingress of writes. -/

namespace Sys2Proof.Machine

/-! ## Datagrams (R372 to R377) -/

/-- Operation codes of R373. -/
def opRead : Nat := 1
def opWrite : Nat := 2
def opOpen : Nat := 3
def opClose : Nat := 4
def opHold : Nat := 5
def opRelease : Nat := 6
def opKeepalive : Nat := 7
def opAck : Nat := 8

/-- Octets of a response before its MAC (R374); `macLen` is the length of the MAC that follows. -/
def responseBytes (r : Response) (macLen : Nat) : List Byte :=
  beBytes 2 0x4850 ++ beBytes 1 1 ++ beBytes 1 r.op ++ beBytes 2 (28 + 4 * r.data.length + macLen) ++ beBytes 2 r.session ++
    beBytes 4 r.reqSeq ++ beBytes 4 r.addr ++ beBytes 2 r.count ++ beBytes 1 r.status ++ beBytes 1 r.detail ++
    beBytes 6 r.snapEpoch ++ beBytes 1 (unitCode r.unit) ++ beBytes 1 (modeCode r.mode) ++ (r.data.map wordBytes).flatten

/-- A response authenticated with a key; without a session it carries no MAC (R374, R377). -/
def authenticate (key : Option (List Byte)) (r : Response) : Response :=
  match key with
  | some k => { r with mac := mac128 k (responseBytes r 16) }
  | none => r

/-- Octets of a request before its MAC (R372). -/
def requestBytes (op addr count : Nat) (body : List Byte) (r : HapReq) : List Byte :=
  beBytes 2 r.magic ++ beBytes 1 r.version ++ beBytes 1 op ++ beBytes 2 r.length ++ beBytes 2 r.session ++ beBytes 4 r.reqSeq ++
    beBytes 4 addr ++ beBytes 2 count ++ beBytes 1 r.flags ++ beBytes 1 r.holdId ++ body

/-- The form of a request (R372, R375): MAGIC, VERSION, LENGTH with the MAC where SESSION is not zero or OP is OPEN, FLAGS, and a HOLD_ID of zero
but under HELD or for SNAP_RELEASE, which names it (R373). -/
def formGood (op : Nat) (body : List Byte) (r : HapReq) : Bool :=
  r.magic == 0x4850 && r.version == 1 && r.length == 20 + body.length + (if r.session ≠ 0 ∨ op = opOpen then 16 else 0) &&
    decide (r.flags < 4) && (r.held || op == opRelease || r.holdId == 0)

/-- COUNT is zero, and REPEAT is not set: of every operation but READ and WRITE (R373). -/
def bareForm (r : HapReq) : Bool := r.count == 0 && !r.repeated

/-- The MAC that a request ought to carry under a key (R377). -/
def requestMac (key : List Byte) (op addr count : Nat) (body : List Byte) (r : HapReq) : List Byte :=
  mac128 key (requestBytes op addr count body r)

/-- The session key S (R377). -/
def sessionKey (w nonceC nonceS : List Byte) (ident : Nat) : List Byte :=
  hmac w (ascii [72, 83, 69, 83] ++ nonceC ++ nonceS ++ beBytes 2 ident)

/-! ## Sessions (R376, R377, R378) -/

def modHap (f : Hap → Hap) (s : State) : State := { s with hap := f s.hap }

/-- The session with an identifier. -/
def sessionOf (ident : Nat) (s : State) : Option Session := s.hap.sessions.find? (·.ident == ident)

/-- Change the session with an identifier. -/
def modSession (ident : Nat) (f : Session → Session) (s : State) : State :=
  modHap (fun h => { h with sessions := h.sessions.map fun x => if x.ident = ident then f x else x }) s

/-- Holds that no session has any more are gone. -/
def dropHolds (s : State) : State :=
  modHap (fun h => { h with holds := h.holds.filter fun x => h.sessions.any fun y => y.holds.contains x.ident }) s

/-- A session ends, and its holds with it. -/
def endSession (ident : Nat) (s : State) : State :=
  dropHolds (modHap (fun h => { h with sessions := h.sessions.filter (·.ident != ident) }) s)

/-- HAP is served (R63, R370). -/
def servesHap (s : State) : Bool :=
  !s.um.inReset && (match s.um.mode with
    | .boot | .load | .recovery => false
    | _ => true)

/-- UDP port of HAP (R370). -/
def hapUdpPort : Nat := 47560

/-- Place of a port's address in the networks section. -/
def hapPortIndex : HapPort → Nat
  | .stn1 => 0
  | .stn2 => 1
  | .svc => 2

/-- A request is one of HAP, and this unit's: UDP port 47560, at the address that the networks section declares for the unit and port (R370).
Without a valid image no address is declared, and the unit answers at any (log 167). -/
def addressed (r : HapReq) (s : State) : Bool :=
  r.dest.2 == hapUdpPort && (!s.cfg.valid || r.dest.1 == s.cfg.net.ips.getD (hapPortIndex r.port) 0)

/-- A request reaches HAP. -/
def reaches (r : HapReq) (s : State) : Bool := servesHap s && addressed r s

/-- Requests that wait when this one arrives, across all ports and sessions (R371). -/
def waiting (r : HapReq) (s : State) : Nat := s.hap.queue - r.served

/-- Epoch of the current snapshot. -/
def snapEpoch (s : State) : Nat :=
  match s.hap.snap with
  | some x => x.epoch
  | none => s.ex.epoch

/-- The body of an answer: STATUS, DETAIL, SNAP_EPOCH, DATA. -/
structure Answer where
  status : Nat := 0
  detail : Nat := 0
  epoch : Nat
  data : List Word := []
deriving DecidableEq, Repr, Inhabited

/-- The response to a request. -/
def responseOf (op addr count : Nat) (r : HapReq) (a : Answer) (s : State) : Response :=
  { op := op + 0x80, session := r.session, reqSeq := r.reqSeq, addr, count := if a.status = 0 then count else 0
    status := a.status, detail := a.detail, snapEpoch := a.epoch, unit := s.um.unit, mode := s.um.mode
    data := if a.status = 0 then a.data else [], port := r.port, dest := r.source }

/-- Send a response; `store`: that of an answered request of a session is stored (R378). -/
def sendAnswer (x : Option Session) (store : Bool) (p : Response) (s : State) : State :=
  let p := authenticate (x.map (·.key)) p
  let s := send (.response p) s
  match x with
  | some y => if store then modSession y.ident (fun z => { z with stored := some p }) s else s
  | none => s

/-- A failed MAC: no response; counted, EV_058 (R377). -/
def macFailed (s : State) : State := raise 58 (modHap (fun h => { h with auth := bump 16 h.auth }) s)

/-- An answer of a status alone, with the current snapshot's epoch; that to a session is stored (R378). -/
def refuseRequest (op addr count st : Nat) (r : HapReq) (x : Option Session) (s : State) : State :=
  sendAnswer x true (responseOf op addr count r { status := st, epoch := snapEpoch s } s) s

/-- The queue is full: status 0x0C (R371). -/
def busy (op addr count : Nat) (r : HapReq) (x : Option Session) (s : State) : State :=
  refuseRequest op addr count 0x0C r x (modHap (fun h => { h with busy := bump 8 h.busy, queue := waiting r s }) s)

/-- A request joins the queue (R371). -/
def enqueue (r : HapReq) (s : State) : State := modHap (fun h => { h with queue := waiting r s + 1 }) s

/-- A request acts and is answered; without an answer the decision of a command gives it (R384). -/
def runRequest (op addr count : Nat) (r : HapReq) (act : Option Session → State → Option Answer × State) (x : Option Session) (s : State) : State :=
  let a := act x s
  match a.1 with
  | some y => sendAnswer x true (responseOf op addr count r y a.2) a.2
  | none => a.2

/-- A request of a session with a good MAC (R371, R377, R378): one still in progress is discarded; one answered last is answered again bit for
bit, whatever the queue holds (log 166); a session that has had its last response gets none (R385); then the queue, the form, and
the sequence. -/
def admitSession (op addr count : Nat) (body : List Byte) (form : Bool) (r : HapReq) (act : Option Session → State → Option Answer × State)
    (x : Session) (s : State) : State :=
  if s.hap.awaiting.any (fun p => p.session == x.ident && p.reqSeq == r.reqSeq) then s
  else match x.stored.filter (·.reqSeq == r.reqSeq) with
    | some p => send (.response { p with port := r.port, dest := r.source }) (modSession x.ident (fun z => { z with idle := 0 }) s)
    | none =>
      if x.closing then s
      else if 32 ≤ waiting r s then busy op addr count r (some x) s
      else if !(formGood op body r && form) then refuseRequest op addr count 1 r (some x) (enqueue r s)
      else if r.reqSeq ≤ x.lastSeq then refuseRequest op addr count 6 r (some x) (enqueue r s)
      else runRequest op addr count r act (some x) (modSession x.ident (fun z => { z with idle := 0, lastSeq := r.reqSeq }) (enqueue r s))

/-- Admission of a request that is not OPEN (R370 to R378): its address, the MAC of its session, then as above; without a session the
queue and the form. `act` acts on an admitted request and gives its answer. -/
def admitRequest (op addr count : Nat) (body : List Byte) (form needsSession : Bool) (r : HapReq) (act : Option Session → State → Option Answer × State)
    (s : State) : State :=
  if !reaches r s then s
  else match if r.session = 0 then none else sessionOf r.session s with
    | some x =>
      if r.mac ≠ requestMac x.key op addr count body r then macFailed s else admitSession op addr count body form r act x s
    | none =>
      if 32 ≤ waiting r s then busy op addr count r none s
      else if !(formGood op body r && form) then refuseRequest op addr count 1 r none (enqueue r s)
      else if r.session ≠ 0 then refuseRequest op addr count 5 r none (enqueue r s)
      else if needsSession then refuseRequest op addr count 4 r none (enqueue r s)
      else runRequest op addr count r act none (enqueue r s)

/-- An answer with the current snapshot's epoch. -/
def plain (st : Nat) (s : State) : Answer := { status := st, epoch := snapEpoch s }

/-- A new session identifier: the random one where it is free, else the lowest free one. -/
def freshIdent (given : Nat) (s : State) : Nat :=
  let used (i : Nat) : Bool := i == 0 || s.hap.sessions.any (·.ident == i)
  if !used (given % 65536) then given % 65536 else ((List.range 16).find? fun i => !used i).getD 1

/-- The body of OPEN (R376). -/
def openBody (slot : Nat) (notify : Bool) (clientNonce : List Byte) : List Byte :=
  beBytes 1 slot ++ beBytes 1 (flag notify) ++ beBytes 2 0 ++ clientNonce

/-- OPEN (R376): the session of the slot, authenticated with the slot's working key. -/
def execHapOpen (r : HapReq) (slot : Nat) (notify : Bool) (clientNonce serverNonce : List Byte) (newId : Nat) (s : State) :
    Host.Outcome State Fault Refusal :=
  .next (
    let body := openBody slot notify clientNonce
    let form := formGood opOpen body r && bareForm r
    let answer (p : Answer) (key : Option (List Byte)) (id : Nat) (s : State) : State :=
      send (.response (authenticate key { responseOf opOpen r.addr r.count r p s with session := id })) s
    let key := if slot < 8 then s.hap.keys.getD slot none else none
    if !reaches r s then s
    else if key.any fun w => r.mac != requestMac w opOpen r.addr r.count body r then macFailed s
    else if 32 ≤ waiting r s then
      let s := modHap (fun h => { h with busy := bump 8 h.busy, queue := waiting r s }) s
      answer (plain 0x0C s) key r.session s
    else
      let s := enqueue r s
      if !form then answer (plain 1 s) key r.session s
      else match key with
        | none => answer (plain 4 s) none r.session s
        | some w =>
          let s := match s.hap.sessions.find? (·.slot == slot) with
            | some old => endSession old.ident s
            | none => s
          let id := freshIdent newId s
          let x : Session := { ident := id, slot, notify, port := r.port, peer := r.source, key := sessionKey w clientNonce serverNonce id }
          let s := modHap (fun h => { h with sessions := h.sessions ++ [x] }) s
          answer { epoch := snapEpoch s, data := bytesWords serverNonce } (some w) id s)

/-- CLOSE ends the session and its holds (R377). -/
def execHapClose (r : HapReq) (s : State) : Host.Outcome State Fault Refusal :=
  .next (admitRequest opClose r.addr r.count [] (bareForm r) true r (fun x s =>
    match x with
    | some y =>
      let s := sendAnswer x false (responseOf opClose r.addr r.count r (plain 0 s) s) s
      (none, endSession y.ident s)
    | none => (none, s)) s)

/-- KEEPALIVE (R373). -/
def execKeepalive (r : HapReq) (s : State) : Host.Outcome State Fault Refusal :=
  .next (admitRequest opKeepalive r.addr r.count [] (bareForm r) true r (fun _ s => (some (plain 0 s), s)) s)

/-- A session without a valid request for 60 000 epochs ends (R377). -/
def execSessionTimeout (slot : Nat) (s : State) : Host.Outcome State Fault Refusal :=
  .next (match s.hap.sessions.find? (·.slot == slot) with
    | some x => if 60000 ≤ x.idle then endSession x.ident s else s
    | none => s)

/-! ## Holds (R57, R381) -/

/-- The lowest identifier free among 1 to 4. -/
def freeHold (s : State) : Option Nat := [1, 2, 3, 4].find? fun i => !s.hap.holds.any (·.ident == i)

/-- SNAP_HOLD: a hold on the current snapshot, shared by its epoch; refused beyond the fourth. -/
def execSnapHold (r : HapReq) (s : State) : Host.Outcome State Fault Refusal :=
  .next (admitRequest opHold r.addr r.count [] (bareForm r) true r (fun x s =>
    match x, s.hap.snap with
    | some y, some snap =>
      let put (i : Nat) (s : State) : State := modSession y.ident (fun z => { z with holds := insertNat i z.holds }) s
      match s.hap.holds.find? (·.snap.epoch == snap.epoch) with
      | some h => (some { detail := h.ident, epoch := snap.epoch }, put h.ident s)
      | none => match freeHold s with
        | some i =>
          (some { detail := i, epoch := snap.epoch },
           put i (modHap (fun h => { h with holds := h.holds ++ [{ ident := i, snap, age := s.ex.epoch - snap.epoch }] }) s))
        | none => (some (plain 0x0B s), s)
    | _, _ => (some (plain 0x0B s), s)) s)

/-- SNAP_RELEASE of a hold of this session. -/
def execSnapRelease (r : HapReq) (s : State) : Host.Outcome State Fault Refusal :=
  .next (admitRequest opRelease r.addr r.count [] (bareForm r) true r (fun x s =>
    match x with
    | some y =>
      if y.holds.contains r.holdId then
        (some (plain 0 s), dropHolds (modSession y.ident (fun z => { z with holds := z.holds.filter (· != r.holdId) }) s))
      else (some (plain 0x0B s), s)
    | none => (some (plain 4 s), s)) s)

/-- A hold ends for every session at the 200th epoch after publication (R57, R381). -/
def execSnapshotHoldExpiry (s : State) : Host.Outcome State Fault Refusal :=
  .next (
    let gone := (s.hap.holds.filter fun h => decide (200 ≤ h.age)).map (·.ident)
    modHap (fun h => { h with holds := h.holds.filter fun x => !gone.contains x.ident
                              sessions := h.sessions.map fun y => { y with holds := y.holds.filter fun i => !gone.contains i } }) s)

/-! ## Notifications (R356, R386, R387) -/

/-- The three words of a notification. -/
def noticeWords (d : DueRecord) (s : State) : List Word :=
  [pack [(d.kind, 8, 24), (recordFlags d.event s, 8, 16), (d.event, 7, 0)], wn d.w0, wn d.w1]

/-- The event is notified: unmasked, mapped to NOTIFY; a clear only of a condition source. -/
def notified (d : DueRecord) (s : State) : Bool :=
  !masked d.event s && (mapOf d.event s).notify && (d.kind != 2 || !(attrOf d.event).momentary)

/-- A notification as a datagram (R386). -/
def noticeResponse (x : Session) (n : Notification) (s : State) : Response :=
  authenticate (some x.key)
    { op := 0x10, session := x.ident, reqSeq := n.nseq, addr := 0, count := 3, status := 0, snapEpoch := n.epoch
      unit := s.um.unit, mode := s.um.mode, data := n.words, port := x.port, dest := x.peer }

def sendNotice (x : Session) (n : Notification) (s : State) : State :=
  send (.response (noticeResponse x n s)) s

/-- A notification is dropped: counted, EV_059. -/
def loseNotice (s : State) : State := raise 59 (modHap (fun h => { h with notifyLost := bump 8 h.notifyLost }) s)

/-- One session is notified of a record; a full queue drops it. -/
def notifySession (d : DueRecord) (ident : Nat) (s : State) : State :=
  match sessionOf ident s with
  | some x =>
    if !x.notify || x.closing then s
    else if 64 ≤ x.notes.length then loseNotice (modSession ident (fun z => { z with nseq := z.nseq + 1 }) s)
    else
      let n : Notification := { nseq := x.nseq, epoch := s.ex.epoch, words := noticeWords d s }
      sendNotice x n (modSession ident (fun z => { z with nseq := z.nseq + 1, notes := z.notes ++ [n] }) s)
  | none => s

/-- Every session is notified of some records. -/
def notifyAll (l : List DueRecord) (s : State) : State :=
  l.foldl (fun s d => if notified d s then (s.hap.sessions.map (·.ident)).foldl (fun s i => notifySession d i s) s else s) s

/-- NOTIFY_ACK acknowledges every notification up to an NSEQ (R387). -/
def execNotifyAck (r : HapReq) (nseq : Nat) (s : State) : Host.Outcome State Fault Refusal :=
  .next (admitRequest opAck nseq r.count [] (bareForm r) true r (fun x s =>
    match x with
    | some y => (some (plain 0 s), modSession y.ident (fun z => { z with notes := z.notes.filter fun n => decide (nseq < n.nseq) }) s)
    | none => (some (plain 4 s), s)) s)

/-- An unacknowledged notification is sent again every 200 epochs, at most 5 times; then it is dropped (R387). -/
def resendNotice (ident : Nat) (s : State) (n : Notification) : State :=
  match sessionOf ident s with
  | some x =>
    if n.age < 200 ∨ x.closing then s
    else if n.sends < 6 then
      sendNotice x n (modSession ident (fun z => { z with notes := z.notes.map fun m =>
        if m.nseq = n.nseq then { m with sends := m.sends + 1, age := 0 } else m }) s)
    else loseNotice (modSession ident (fun z => { z with notes := z.notes.filter (·.nseq != n.nseq) }) s)
  | none => s

def execNotificationResend (slot : Nat) (s : State) : Host.Outcome State Fault Refusal :=
  .next (match s.hap.sessions.find? (·.slot == slot) with
    | some x => x.notes.foldl (resendNotice x.ident) s
    | none => s)

/-! ## The bulk window (R388 to R391) -/

/-- Words of a recorder record (R357); an unreadable one reads as all ones (R362). -/
def recordWords (r : EvRecord) : List Word :=
  if r.corrupt then List.replicate 12 0xFFFFFFFF
  else
    let v := (r.value % 2 ^ 64).toNat
    let body := beBytes 6 r.epoch ++ beBytes 1 r.event ++ beBytes 1 r.kind ++ beBytes 1 r.flags ++ beBytes 1 0 ++ beBytes 2 r.rep ++
      beBytes 4 r.lastDelta ++ beBytes 4 r.w0 ++ beBytes 4 r.w1 ++ beBytes 8 v ++ beBytes 4 0
    bytesWords (beBytes 5 r.opTime ++ beBytes 3 r.cycle ++ body ++ beBytes 4 (crc32c body))

/-- Size in words of an object; 0 while its condition fails (R389, R391). -/
def objectSize (sel : Nat) (s : State) : Nat :=
  match sel with
  | 1 => 12 * s.log.records.length
  | 2 => if s.dmp.valid then 1048576 else 0
  | 3 => 2368
  | 4 => 12582912
  | _ => 0

/-- A word of the dump; in IN-SERVICE the processor state reads zero (R431). -/
def dumpWord (w : Nat) (s : State) : Word :=
  if s.life.state = .inService ∧ 0x400 ≤ w ∧ w ≤ 0x43FF then 0
  else BitVec.ofNat 32 (beNat (memReads 0 s.dmp.mem (4 * w) 4))

/-- Word w of an object as it stands. -/
def objectWord (sel w : Nat) (s : State) : Word :=
  match sel with
  | 1 => match s.log.records[w / 12]? with
    | some r => (recordWords r).getD (w % 12) 0
    | none => 0
  | 2 => dumpWord w s
  | 3 => BitVec.ofNat 32 (beNat (memReads 0 s.pnl.frame (4 * w) 4))
  | 4 => BitVec.ofNat 32 (beNat (memReads 0xFF s.upd.staging (4 * w) 4))
  | _ => 0

/-- Words of a dump have been read by some session (R366, R390). -/
def noteDumpRead (sel a n : Nat) (s : State) : State :=
  if sel = 2 then { s with dmp := { s.dmp with readRanges := addSpan a (a + n) s.dmp.readRanges } } else s

/-- Registers of the bulk window: BLK_STATE shows the session's selection at the start of the request (R391); BLK_SIZE is the
selected object's size in the snapshot that serves the request (R56). -/
def bulkReg (x : Option Session) (sizeIn : Nat → Nat) (a : Nat) : Word :=
  let sel := (x.map (·.blkSel)).getD 0
  if a = 0xF0000C then pack [(sel, 8, 24), ((x.map (·.blkAddr)).getD 0, 24, 0)]
  else if a = 0xF00010 then wn (sizeIn sel)
  else 0

/-! ## Reading (R56, R379, R380, R398) -/

/-- Reset values that HOLD entered from LOAD serves outside the unit-local page, with CFG_FAULT (R398). -/
def resetValues (s : State) : State := { cfg := { fault := s.cfg.fault }, upd := s.upd }

/-- The snapshot that a request not under hold is served from. -/
def servedSnapshot (addr : Nat) (s : State) : Snapshot :=
  if s.um.mode = .hold ∧ ¬ isLocal addr then
    if s.um.holdFromLoad then { snapshotOf (resetValues s) with epoch := (s.hap.frozen.map (·.epoch)).getD (snapEpoch s) }
    else s.hap.frozen.getD { epoch := snapEpoch s }
  else s.hap.snap.getD { snapshotOf (resetValues s) with epoch := s.ex.epoch }

/-- The snapshot that is published: in HOLD the unit-local page changes, the rest stays (R398). -/
def publishedSnapshot (s : State) : Snapshot :=
  if s.um.mode = .hold then
    { epoch := s.ex.epoch
      regs := localRegs s ++ (if s.um.holdFromLoad then mirroredRegs (resetValues s)
                              else ((s.hap.frozen.map (·.regs)).getD []).filter fun r => !isLocal r.1) }
  else snapshotOf s

/-- Words of a snapshot. -/
def snapWords (snap : Snapshot) (addr n : Nat) : List Word := (List.range n).map fun i => (regAt snap.regs (addr + 4 * i)).getD 0

/-- Size in words of an object as a snapshot shows it: by NEXT of LOC_LOG_STATUS and VALID of LOC_DMP_STATUS (R389). -/
def sizeIn (snap : Snapshot) (sel : Nat) : Nat :=
  let reg (a : Nat) : Word := (regAt snap.regs a).getD 0
  match sel with
  | 1 => 12 * fieldOf (reg 0xFF0E20) 19 0
  | 2 => if bitOf (reg 0xFF0E40) 31 then 1048576 else 0
  | 3 => 2368
  | 4 => 12582912
  | _ => 0

/-- A READ of bulk window registers, served from `snap`: BLK_DATA words come from the object, all refused where they leave it. -/
def readBulk (r : HapReq) (x : Option Session) (snap : Snapshot) (addr n : Nat) (s : State) : Answer × State :=
  let sel := (x.map (·.blkSel)).getD 0
  let at' := (x.map (·.blkAddr)).getD 0
  let addrs := (List.range n).map fun i => if r.repeated then addr else addr + 4 * i
  let k := (addrs.filter (· == 0xF00008)).length
  if 0 < k ∧ objectSize sel s < at' + k then (plain 0x0D s, s)
  else
    let data := (addrs.foldl (fun (acc : List Word × Nat) a =>
      if a = 0xF00008 then (objectWord sel (at' + acc.2) s :: acc.1, acc.2 + 1)
      else (bulkReg x (sizeIn snap) a :: acc.1, acc.2)) ([], 0)).1.reverse
    let s' := if k = 0 then s else noteDumpRead sel at' k s
    let s' := match x with
      | some y => if k = 0 then s' else modSession y.ident (fun z => { z with blkAddr := at' + k }) s'
      | none => s'
    ({ epoch := snap.epoch, data }, s')

/-- The snapshot that serves a request of the bulk window: the held one, or the current one (R56). -/
def bulkSnapshot (held : Option Snapshot) (s : State) : Snapshot :=
  held.getD (s.hap.snap.getD { snapshotOf (resetValues s) with epoch := s.ex.epoch })

/-- The hold of a session under HOLD_ID, unexpired. -/
def heldSnapshot (x : Option Session) (id : Nat) (s : State) : Option Snapshot :=
  x.bind fun y => if y.holds.contains id then ((s.hap.holds.find? fun h => h.ident == id && decide (h.age < 200)).map (·.snap)) else none

/-- READ (R373, R379, R380). -/
def readRequest (r : HapReq) (addr n : Nat) (s : State) : State :=
  let form := decide (1 ≤ n) && decide (n ≤ 256) && (!r.repeated || addr == 0xF00008)
  admitRequest opRead addr n [] form false r (fun x s =>
    let inRange := if r.repeated then true else rangeOk addr n s
    if !inRange then (some (plain 2 s), s)
    else if bulkAddr addr then
      (if r.held && decide (addr ≤ 0xF00008 ∧ (r.repeated ∨ 0xF00008 < addr + 4 * n)) then (some (plain 1 s), s)
       else if r.held && (heldSnapshot x r.holdId s).isNone then (some (plain 0x0B s), s)
       else
         let held := if r.held then heldSnapshot x r.holdId s else none
         let a := readBulk r x (bulkSnapshot held s) addr n s
         (some a.1, a.2))
    else if r.held then
      match heldSnapshot x r.holdId s with
      | some snap => (some { epoch := snap.epoch, data := snapWords snap addr n }, s)
      | none => (some (plain 0x0B s), s)
    else
      let snap := servedSnapshot addr s
      (some { epoch := snap.epoch, data := snapWords snap addr n }, s)) s

def execHapRead (r : HapReq) (addr : Word) (count : Nat) (s : State) : Host.Outcome State Fault Refusal :=
  .next (readRequest r addr.toNat count s)

/-- A READ of BLK_DATA (R390). -/
def execBlkDataRead (r : HapReq) (count : Nat) (s : State) : Host.Outcome State Fault Refusal :=
  .next (readRequest r 0xF00008 count s)

/-! ## Writing (R382, R383, R388, R395, R472) -/

/-- What a request that writes the bulk window comes to: the selection and address afterwards, the first staging word, its words,
or a status. -/
structure BulkWrite where
  sel : Nat
  addr : Nat
  start : Nat := 0
  words : List Word := []
  status : Nat := 0
deriving DecidableEq, Repr, Inhabited

/-- One word of a bulk window write. -/
def bulkStep (b : BulkWrite) (r : Nat × Word) : BulkWrite :=
  if b.status ≠ 0 then b
  else if r.1 = 0xF00000 then
    if anyBit r.2 0xFFFFFF00 then { b with status := 1 }
    else if 4 < r.2.toNat then { b with status := 0x0D }
    else { b with sel := r.2.toNat, addr := 0 }
  else if r.1 = 0xF00004 then (if anyBit r.2 0xFF000000 then { b with status := 1 } else { b with addr := r.2.toNat })
  else { b with start := if b.words.isEmpty then b.addr else b.start, words := b.words ++ [r.2], addr := b.addr + 1 }

/-- BLK_DATA writes reach the staging area in OPEN, from the slot it is bound to (R389, R437). -/
def stagingWritable (x : Session) (s : State) : Bool := s.upd.state == 2 && s.upd.slot == some x.slot

/-- A write of the bulk window (R388, R389): refused whole or done whole. -/
def writeBulk (r : HapReq) (x : Session) (addr : Nat) (words : List Word) (s : State) : Answer × State :=
  let rs := if r.repeated then words.map fun w => (addr, w) else regsOf addr words
  let b := rs.foldl bulkStep { sel := x.blkSel, addr := x.blkAddr }
  let bad := !b.words.isEmpty && !(b.sel == 4 && stagingWritable x s && decide (b.start + b.words.length ≤ objectSize 4 s))
  if b.status ≠ 0 then (plain b.status s, s)
  else if bad then (plain 0x0D s, s)
  else
    let s := modSession x.ident (fun z => { z with blkSel := b.sel, blkAddr := b.addr }) s
    let s := if b.words.isEmpty then s
      else { s with upd := { s.upd with staging := memWrites 0xFF (4 * b.start) (b.words.map wordBytes).flatten s.upd.staging } }
    (plain 0 s, s)

/-- Record source of a port (R383). -/
def portSource : HapPort → Nat
  | .stn1 => 0xFFE0
  | .stn2 => 0xFFE1
  | .svc => 0xFFE2

/-- Payload of a command record (R383). -/
def commandPayload (addr slot : Nat) (words : List Word) : List Byte :=
  beBytes 4 addr ++ beBytes 1 slot ++ beBytes 1 words.length ++ beBytes 2 0 ++ (words.map wordBytes).flatten

/-- Refusal at ingress of a write outside the unit-local page (R472). -/
def ingressRefusal (rs : List (Nat × Word)) (s : State) : Option (Nat × Nat) :=
  match s.um.mode with
  | .selftest | .hold => some (7, 0)
  | .maintenance =>
    if !rs.all (fun w => maintTakes w s) then some (7, 0) else if joining s then some (8, 0xFF) else none
  | _ => if joining s then some (8, 0xFF) else none

/-- Number of a port in the latencies of R252. -/
def hapPortNumber : HapPort → Nat
  | .stn1 => 2
  | .stn2 => 3
  | .svc => 4

/-- An operator command enters the ingress buffers as one record (R383). -/
def ingestCommand (r : HapReq) (x : Session) (addr : Nat) (words : List Word) (s : State) : State :=
  let src := portSource r.port
  let id : RecordId := ⟨s.um.unit, src, nextSeq src s⟩
  let stamp := arrivalStamp (hapPortNumber r.port) r.tick s
  let s := putRecord src stamp stamp false s.time.holdover (commandPayload addr x.slot words) s
  modHap (fun h => { h with awaiting := h.awaiting ++ [⟨id, x.ident, r.reqSeq, addr, words.length, r.port, r.source⟩] }) s

/-- A session that has had its last response: LOC_RESTART was accepted from it (R385). -/
def closeAfter (x : Session) (addr : Nat) (s : State) : State :=
  if addr = 0xFF0018 then modSession x.ident (fun z => { z with closing := true }) s else s

/-- A unit-local write: answered at once, in effect at E+80 µs of the next epoch (R385, R395). -/
def ingestLocal (x : Session) (addr : Nat) (words : List Word) (s : State) : Answer × State :=
  let v := localVerdict addr words s
  if v.1 ≠ 0 then ({ status := v.1, detail := v.2, epoch := snapEpoch s }, s)
  else ({ epoch := s.ex.epoch + 1, data := words },
        closeAfter x addr (modHap (fun h => { h with localDue := h.localDue ++ [(addr, words, s.ex.epoch, x.slot)] }) s))

/-- Registers that a write may address at all (R15). -/
def writable (a : Nat) : Bool := isWo a || localWritable a || commandWritable a

/-- WRITE (R373, R382, R388, R395, R472). -/
def writeRequest (r : HapReq) (addr : Nat) (words : List Word) (s : State) : State :=
  let n := words.length
  let form := decide (1 ≤ n) && decide (n ≤ 256) && !r.held && (!r.repeated || addr == 0xF00008)
  admitRequest opWrite addr n (words.map wordBytes).flatten form true r (fun x s =>
    match x with
    | none => (some (plain 4 s), s)
    | some y =>
      let rs := if r.repeated then [(addr, (0 : Word))] else regsOf addr words
      if !(r.repeated || rangeOk addr n s) then (some (plain 2 s), s)
      else if !rs.all (fun w => writable w.1) then (some (plain 3 s), s)
      else if s.um.mode = .selftest then (some (plain 7 s), s)
      else if isWo addr then (let a := writeBulk r y addr words s; (some { a.1 with data := if a.1.status = 0 then words else [] }, a.2))
      else if 22 < n then (some (plain 1 s), s)
      else if isLocal addr then (let a := ingestLocal y addr words s; (some a.1, a.2))
      else match ingressRefusal rs s with
        | some v => (some { status := v.1, detail := v.2, epoch := snapEpoch s }, s)
        | none => (none, ingestCommand r y addr words s)) s

def execRegisterWrite (r : HapReq) (addr : Word) (words : List Word) (s : State) : Host.Outcome State Fault Refusal :=
  .next (writeRequest r addr.toNat words s)

/-- BLK_SEL (R388). -/
def execBlkSel (r : HapReq) (value : Word) (s : State) : Host.Outcome State Fault Refusal :=
  .next (writeRequest r 0xF00000 [value] s)

/-- BLK_ADDR (R388). -/
def execBlkAddr (r : HapReq) (value : Word) (s : State) : Host.Outcome State Fault Refusal :=
  .next (writeRequest r 0xF00004 [value] s)

/-- BLK_DATA (R389). -/
def execBlkDataWrite (r : HapReq) (words : List Word) (s : State) : Host.Outcome State Fault Refusal :=
  .next (writeRequest r 0xF00008 words s)

/-! ## Answers to commands (R384) -/

/-- The receiving unit answers a committed or dropped command. -/
def answerCommand (id : RecordId) (status detail epoch : Nat) (words : List Word) (s : State) : State :=
  match s.hap.awaiting.find? (·.id == id) with
  | some p =>
    let s := modHap (fun h => { h with awaiting := h.awaiting.filter (·.id != id) }) s
    match sessionOf p.session s with
    | some x =>
      let ok := status == 0
      sendAnswer (some x) true
        { op := opWrite + 0x80, session := p.session, reqSeq := p.reqSeq, addr := p.addr, count := if ok then p.count else 0
          status, detail, snapEpoch := epoch, unit := s.um.unit, mode := s.um.mode, data := if ok then words else [], port := p.port, dest := p.dest } s
    | none => s
  | none => s

/-- The decision on one command of the epoch: in effect at E+80 µs of the next epoch, or refused with EV_123. -/
def decideCommand (status detail : Nat) (c : Command) (s : State) : State :=
  let n := s.ex.epoch
  if status = 0 then
    answerCommand c.id 0 0 (epochWrap (n + 1)) c.words { s with ex := { s.ex with due := s.ex.due ++ [c] } }
  else answerCommand c.id status (if status = 8 then detail else 0) n c.words (raise 123 s)

end Sys2Proof.Machine
end

