-- ==== Sys2Proof/Machine/CommandRows.lean ====
section
/-! DEFINITION. The commands written over HAP, row by row: the request reaches the unit, or the accepted command takes effect
at E+80 µs of the next epoch (R58, R383, R385). -/

namespace Sys2Proof.Machine

/-! ## The two points of a command -/

/-- The due command of these registers takes effect; there is none of this epoch's own. -/
def effectMirrored (addr : Nat) (hit : List Word → Bool) (s : State) : State :=
  match s.ex.due.find? fun c => c.addr == addr && hit c.words && c.epoch != s.ex.epoch with
  | some c => takeEffect c { s with ex := { s.ex with due := s.ex.due.erase c } }
  | none => s

/-- One accepted unit-local write takes effect, in a mode that takes it. -/
def applyLocalWrite (x : Nat × List Word × Nat × Nat) (s : State) : State :=
  (regsOf x.1 x.2.1).foldl (fun s r => if localMode r.1 s then applyLocal x.2.2.2 r.1 r.2 s else s) s

/-- The due unit-local write of a register takes effect. -/
def effectLocal (addr : Nat) (hit : List Word → Bool) (s : State) : State :=
  match s.hap.localDue.find? fun x => x.1 == addr && hit x.2.1 && x.2.2.1 != s.ex.epoch with
  | some x => applyLocalWrite x (modHap (fun h => { h with localDue := h.localDue.erase x }) s)
  | none => s

/-- A command at either point; `hit` tells which written words are this command. -/
def commandPoint (p : CmdPoint) (addr : Nat) (words : List Word) (hit : List Word → Bool) (s : State) : State :=
  match p with
  | .request r => writeRequest r addr words s
  | .effect => if isLocal addr then effectLocal addr hit s else effectMirrored addr hit s

/-- A command whose words say what it does. -/
def exactCommand (p : CmdPoint) (addr : Nat) (words : List Word) (s : State) : State := commandPoint p addr words (· == words) s

/-- A command that any write of its register requests. -/
def anyWrite (p : CmdPoint) (addr : Nat) (s : State) : State := commandPoint p addr [0] (fun l => l.length == 1) s

/-- LOC_KTL_MANUAL with a code and an item. -/
def manualWord (code item : Nat) : Word := pack [(code, 4, 8), (item, 8, 0)]

/-- MOD_CMD with MODE 4. -/
def activeWord (func berth : Nat) : Word := pack [(4, 3, 0), (func, 4, 8), (berth, 3, 16)]

/-! ## Mode and function -/

/-- MOD_CMD with MODE 4 in STANDBY (R401): takes effect while the pair is in STANDBY. -/
def execCmdToActive (p : CmdPoint) (func berth : Nat) (s : State) : Host.Outcome State Fault Refusal :=
  .next (if p = .effect ∧ s.mir.mode.pairMode ≠ .standby then s else exactCommand p 0x1000C [activeWord func berth] s)

/-- MOD_CMD with MODE 4 in ACTIVE (R401): takes effect while the pair is in ACTIVE. -/
def execCmdSelectFunction (p : CmdPoint) (func berth : Nat) (s : State) : Host.Outcome State Fault Refusal :=
  .next (if p = .effect ∧ s.mir.mode.pairMode ≠ .active then s else exactCommand p 0x1000C [activeWord func berth] s)

/-! ## Registers -/

/-- MOD_CMD with MODE 3 (R401). -/
def execCmdToStandby (p : CmdPoint) (s : State) : Host.Outcome State Fault Refusal :=
  .next (exactCommand p 0x1000C [3] s)

/-- MOD_CMD with MODE 6 (R401). -/
def execCmdToMaintenance (p : CmdPoint) (s : State) : Host.Outcome State Fault Refusal :=
  .next (exactCommand p 0x1000C [6] s)

/-- LOC_RESTART: any write (R86, R404). -/
def execLocRestart (p : CmdPoint) (s : State) : Host.Outcome State Fault Refusal :=
  .next (anyWrite p 0xFF0018 s)

/-- LOC_MAINT: any write (R86, R404). -/
def execLocMaint (p : CmdPoint) (s : State) : Host.Outcome State Fault Refusal :=
  .next (anyWrite p 0xFF001C s)

/-- LOC_DMP_RELEASE: any write (R366, R369). -/
def execLocDmpRelease (p : CmdPoint) (s : State) : Host.Outcome State Fault Refusal :=
  .next (anyWrite p 0xFF0E48 s)

/-- EVT_ACK with ALL (R353). -/
def execEvtAckAll (p : CmdPoint) (s : State) : Host.Outcome State Fault Refusal :=
  .next (exactCommand p 0x20030 [0x80000000] s)

/-- EVT_ACK of one source (R353). -/
def execEvtAckEvent (p : CmdPoint) (event : Nat) (s : State) : Host.Outcome State Fault Refusal :=
  .next (exactCommand p 0x20030 [pack [(event, 7, 0)]] s)

/-- EVT_MASK_b (R354). -/
def execEvtMask (p : CmdPoint) (bank : Nat) (mask : Word) (s : State) : Host.Outcome State Fault Refusal :=
  .next (exactCommand p (0x20020 + 4 * bank) [mask] s)

/-- The LOG_CLEAR words (R363). -/
def execLogClear (p : CmdPoint) (unit : Word) (token : List Word) (s : State) : Host.Outcome State Fault Refusal :=
  .next (exactCommand p 0xB00000 (unit :: token) s)

/-- MRT_CNT_CLEAR: any write (R128). -/
def execMrtCntClear (p : CmdPoint) (s : State) : Host.Outcome State Fault Refusal :=
  .next (anyWrite p 0x100028 s)

/-- LDL_CNT_CLEAR: any write (R149). -/
def execLdlCntClear (p : CmdPoint) (s : State) : Host.Outcome State Fault Refusal :=
  .next (anyWrite p 0x100124 s)

/-- EST_RESTART: any write (R158). -/
def execEstRestart (p : CmdPoint) (s : State) : Host.Outcome State Fault Refusal :=
  .next (anyWrite p 0x200040 s)

/-- EST_BA_ACCEPT with REJECT 0 (R163). -/
def execEstBaAccept (p : CmdPoint) (slot seq : Nat) (s : State) : Host.Outcome State Fault Refusal :=
  .next (exactCommand p 0x200084 [pack [(slot, 4, 0), (seq, 8, 16)]] s)

/-- EST_BA_ACCEPT with REJECT 1 (R163). -/
def execEstBaReject (p : CmdPoint) (slot seq : Nat) (s : State) : Host.Outcome State Fault Refusal :=
  .next (exactCommand p 0x200084 [pack [(slot, 4, 0), (seq, 8, 16), (1, 1, 31)]] s)

/-- ALC_UNIT_ENABLE (R180). -/
def execAlcUnitEnable (p : CmdPoint) (mask : Word) (s : State) : Host.Outcome State Fault Refusal :=
  .next (exactCommand p 0x20101C [mask] s)

/-- ALC_PUSH_FORCE (R188). -/
def execAlcPushForce (p : CmdPoint) (value : Word) (s : State) : Host.Outcome State Fault Refusal :=
  .next (exactCommand p 0x201020 [value] s)

/-- ALC_TEST (R189). -/
def execAlcTest (p : CmdPoint) (unit : Word) (s : State) : Host.Outcome State Fault Refusal :=
  .next (exactCommand p 0x201024 [unit] s)

/-- ALC_TEST_THRUST (R189). -/
def execAlcTestThrust (p : CmdPoint) (value : Word) (s : State) : Host.Outcome State Fault Refusal :=
  .next (exactCommand p 0x201028 [value] s)

/-- ALC_TEST_AZ (R189). -/
def execAlcTestAz (p : CmdPoint) (value : Word) (s : State) : Host.Outcome State Fault Refusal :=
  .next (exactCommand p 0x20102C [value] s)

/-- MPC_TARGET_N, _E, _HDG from the first one written (R185). -/
def execMpcTargetWrite (p : CmdPoint) (first : Nat) (values : List Word) (s : State) : Host.Outcome State Fault Refusal :=
  .next (exactCommand p (0x202008 + 4 * first) values s)

/-- MPC_TRK_CTRL (R186). -/
def execMpcTrkCtrl (p : CmdPoint) (count : Word) (s : State) : Host.Outcome State Fault Refusal :=
  .next (exactCommand p 0x202014 [count] s)

/-- Waypoint registers from the first one written (R186). -/
def execMpcTrkWaypointWrite (p : CmdPoint) (first : Nat) (values : List Word) (s : State) : Host.Outcome State Fault Refusal :=
  .next (exactCommand p (0x202100 + 4 * first) values s)

/-- WSK_DISPUTE_SEL (R210). -/
def execWskDisputeSel (p : CmdPoint) (value : Word) (s : State) : Host.Outcome State Fault Refusal :=
  .next (exactCommand p 0x300044 [value] s)

/-- WSK_EXCLUDE (R205). -/
def execWskExclude (p : CmdPoint) (value : Word) (s : State) : Host.Outcome State Fault Refusal :=
  .next (exactCommand p 0x300048 [value] s)

/-- GNA_SYS_ENABLE, GNB_SYS_ENABLE (R239). -/
def execGnaSysEnable (p : CmdPoint) (engine : Side) (value : Word) (s : State) : Host.Outcome State Fault Refusal :=
  .next (exactCommand p (if engine = .one then 0x400004 else 0x410004) [value] s)

/-- SIV_n_CTRL (R263). -/
def execSivSetSelect (p : CmdPoint) (chain : Nat) (value : Word) (s : State) : Host.Outcome State Fault Refusal :=
  .next (exactCommand p (0x600100 + 0x20 * chain) [value] s)

/-- CAN_RESTART (R302, R307). -/
def execCanRestart (p : CmdPoint) (buses : Word) (s : State) : Host.Outcome State Fault Refusal :=
  .next (exactCommand p 0x800014 [buses] s)

/-- CAN_b_WARN (R307). -/
def execCanWarnWrite (p : CmdPoint) (bus : Nat) (value : Word) (s : State) : Host.Outcome State Fault Refusal :=
  .next (exactCommand p (0x800100 + 4 * (bus - 1)) [value] s)

/-- TNG_SWAP: any write (R321). -/
def execTngSwap (p : CmdPoint) (s : State) : Host.Outcome State Fault Refusal :=
  .next (anyWrite p 0x900008 s)

/-- TRV_RESET (R345). -/
def execTrvReset (p : CmdPoint) (mask : Word) (s : State) : Host.Outcome State Fault Refusal :=
  .next (exactCommand p 0xA0000C [mask] s)

/-- TRV_WIRECHK with ON (R338). -/
def execTrvWirechkOn (p : CmdPoint) (channel : Nat) (s : State) : Host.Outcome State Fault Refusal :=
  .next (exactCommand p 0xA00010 [pack [(channel, 3, 0), (1, 1, 8)]] s)

/-- TRV_WIRECHK without ON (R338). -/
def execTrvWirechkOff (p : CmdPoint) (channel : Nat) (s : State) : Host.Outcome State Fault Refusal :=
  .next (exactCommand p 0xA00010 [pack [(channel, 3, 0)]] s)

/-- PNL_REFRESH: any write (R412). -/
def execPnlRefresh (p : CmdPoint) (s : State) : Host.Outcome State Fault Refusal :=
  .next (anyWrite p 0xC00004 s)

/-- The KTL_LC words (R432). -/
def execLifeCycleTransition (p : CmdPoint) (unit : Word) (token : List Word) (s : State) : Host.Outcome State Fault Refusal :=
  .next (exactCommand p 0xD00000 (unit :: token) s)

/-- LOC_KTL_MANUAL 0x1 (R429). -/
def execKtlManualSkilletTest (p : CmdPoint) (item : Nat) (s : State) : Host.Outcome State Fault Refusal :=
  .next (exactCommand p 0xFF110C [manualWord 1 item] s)

/-- LOC_KTL_MANUAL 0x2 (R429). -/
def execKtlManualSliceMarch (p : CmdPoint) (item : Nat) (s : State) : Host.Outcome State Fault Refusal :=
  .next (exactCommand p 0xFF110C [manualWord 2 item] s)

/-- LOC_KTL_MANUAL 0x3 (R429). -/
def execKtlManualOutputTest (p : CmdPoint) (item : Nat) (s : State) : Host.Outcome State Fault Refusal :=
  .next (exactCommand p 0xFF110C [manualWord 3 item] s)

/-- LOC_KTL_MANUAL 0x8 (R429). -/
def execKtlInjectCorrectable (p : CmdPoint) (item : Nat) (s : State) : Host.Outcome State Fault Refusal :=
  .next (exactCommand p 0xFF110C [manualWord 8 item] s)

/-- LOC_KTL_MANUAL 0x9 (R429). -/
def execKtlInjectUncorrectable (p : CmdPoint) (item : Nat) (s : State) : Host.Outcome State Fault Refusal :=
  .next (exactCommand p 0xFF110C [manualWord 9 item] s)

/-- LOC_KTL_MANUAL 0xA (R429). -/
def execKtlInjectSkilletFail (p : CmdPoint) (item : Nat) (s : State) : Host.Outcome State Fault Refusal :=
  .next (exactCommand p 0xFF110C [manualWord 0xA item] s)

/-- LOC_KTL_CLEAR (R430). -/
def execLocKtlClear (p : CmdPoint) (value : Word) (s : State) : Host.Outcome State Fault Refusal :=
  .next (exactCommand p 0xFF1114 [value] s)

/-- LOC_UPD_CTRL OPEN (R437). -/
def execUpdOpen (p : CmdPoint) (s : State) : Host.Outcome State Fault Refusal :=
  .next (exactCommand p 0xFF1200 [1] s)

/-- LOC_UPD_CTRL VERIFY (R437). -/
def execUpdVerify (p : CmdPoint) (s : State) : Host.Outcome State Fault Refusal :=
  .next (exactCommand p 0xFF1200 [2] s)

/-- LOC_UPD_CTRL DISCARD (R437). -/
def execUpdDiscard (p : CmdPoint) (s : State) : Host.Outcome State Fault Refusal :=
  .next (exactCommand p 0xFF1200 [3] s)

/-- UPD_COMMIT_HI and _LO (R439). -/
def execUpdCommit (p : CmdPoint) (hi lo : Word) (s : State) : Host.Outcome State Fault Refusal :=
  .next (exactCommand p 0xE00000 [hi, lo] s)

/-- LOC_TIM_TXQ OVF written 1 (R255). -/
def execTxqOvfClear (p : CmdPoint) (s : State) : Host.Outcome State Fault Refusal :=
  .next (exactCommand p 0xFF0620 [0x80000000] s)

end Sys2Proof.Machine
end

