-- ==== Sys2Proof/Machine/Positioning.lean ====
section
/-! DEFINITION. The joint weighted least-squares solution of an engine (R226 to R228): measurements, normal equations solved exactly in
whole numbers, residual test. Lengths are in fs of light travel, sight vectors in sQ1.30 (log 133). -/

namespace Sys2Proof.Machine

/-! ## Whole-number linear algebra -/

/-- One step of the fraction-free elimination: every row but k loses its entry in column k, divided exactly by the previous pivot. -/
def pivotStep (k : Nat) (prev : Int) (m : List (List Int)) : List (List Int) :=
  let row := m.getD k []
  let p := row.getD k 0
  mapAt m fun i r => if i = k then r else List.zipWith (fun a b => (p * a - r.getD k 0 * b) / prev) r row

/-- The steps from column k on: the reduced rows and the determinant; `none` where a leading minor is not positive. -/
def eliminateFrom : Nat → Nat → Int → List (List Int) → Option (List (List Int) × Int)
  | 0, _, prev, m => some (m, prev)
  | n + 1, k, prev, m =>
    let p := (m.getD k []).getD k 0
    if p ≤ 0 then none else eliminateFrom n (k + 1) p (pivotStep k prev m)

/-- The identity matrix. -/
def identityRows (n : Nat) : List (List Int) :=
  (List.range n).map fun i => (List.range n).map fun j => if i = j then 1 else 0

/-- A symmetric positive definite matrix is solved for a right-hand side: numerators of the solution and of the inverse's rows, with their
common denominator. -/
def solveNormal (a : List (List Int)) (b : List Int) : Option (List Int × List (List Int) × Int) :=
  let n := b.length
  let rows := List.zipWith (· ++ ·) (List.zipWith (fun r v => r ++ [v]) a b) (identityRows n)
  (eliminateFrom n 0 1 rows).map fun r => (r.1.map fun x => x.getD n 0, r.1.map fun x => x.drop (n + 1), r.2)

/-! ## Measurements (R221, R225, R227) -/

/-- One range measurement that enters a solution. -/
structure RangeMeas where
  antenna : Nat
  system : Nat
  sv : Nat
  sight : List Int
  /-- Measured less predicted, fs, and its variance, fs². -/
  value : Int
  variance : Nat
  dual : Bool
  sbas : Bool
  flagged : Bool
deriving DecidableEq, Repr, Inhabited

/-- Light travels 299 792 458 m in 10¹⁵ fs (PRESUMED, log 145). -/
def lightSpeed : Nat := 299792458

/-- A length in sQ19.12 codes of which `scale` make one, as fs. -/
def femtoOf (codes : Int) (scale : Nat) : Int := roundDiv (codes * 10 ^ 15) (lightSpeed * 4096 * scale)

/-- The phase centre's offset along the sight vector, fs (R221, log 134). -/
def phaseOffset (centre : Vec3) (o : SatObs) : Int := femtoOf (centre.x * o.sightN + centre.y * o.sightE + centre.z * o.sightD) (2 ^ 30)

/-- Squares of the carrier frequencies of a dual-frequency system's bands, L1 and L5, in units of 10.23 MHz (R221; PRESUMED, log 145). -/
def bandSquares : Nat × Nat := (154 * 154, 115 * 115)

/-- The ionosphere-free combination of two values. -/
def ionoFree (a b : Int) : Int := roundDiv (bandSquares.1 * a - bandSquares.2 * b) (bandSquares.1 - bandSquares.2)

/-- Its variance. -/
def ionoFreeVariance (a b : Nat) : Nat :=
  nearestNat (bandSquares.1 * bandSquares.1 * a + bandSquares.2 * bandSquares.2 * b) ((bandSquares.1 - bandSquares.2) * (bandSquares.1 - bandSquares.2))

/-- A signal in the solution: its channel is in lock and not excluded (R225). -/
def usableChannel (port : AntennaPort) (o : SatObs) (band : Nat) : Option (Channel × SignalObs) :=
  (port.channels.find? fun c => c.system == o.system && c.sv == o.sv && c.band == band && c.lock.isSome && !c.excluded).bind fun c =>
    o.signals[band]?.map fun g => (c, g)

/-- A signal's value without the phase-centre offset, and its variance: four times with a multipath flag (R225, R227). -/
def signalMeas (centre : Vec3) (o : SatObs) (c : Channel × SignalObs) : Int × Nat :=
  (c.2.range + phaseOffset centre o, max 1 (Cfg.rangeVariance c.1.cn0 o.elevationMdeg) * (if c.1.flagged then 4 else 1))

/-- The SBAS corrections that apply: SBAS enabled, and the satellite corrected. -/
def sbasOf (enable : Word) (o : SatObs) : Option SbasObs := if bitOf enable 4 then o.sbas else none

/-- The measurement of a satellite at an antenna (R221, R227): both bands in the ionosphere-free combination, one band with the ionosphere
of SBAS (GLONASS) or of the broadcast model and its variance; SBAS corrections with their residual error. -/
def measureOf (centres : List Vec3) (mask : Nat) (enable : Word) (antenna : Nat) (port : AntennaPort) (o : SatObs) :
    Option RangeMeas :=
  let sbas := sbasOf enable o
  if 4 ≤ o.system ∨ ¬ bitOf enable o.system ∨ o.elevationMdeg ≤ mask ∨ sbas.any (·.doNotUse) then none
  else
    let one (b : Nat) : Option (Channel × SignalObs) := usableChannel port o b
    let sig (b : Nat) (c : Channel × SignalObs) : Int × Nat := signalMeas (centres.getD b {}) o c
    let make (dual flagged : Bool) (v : Int × Nat) : RangeMeas :=
      { antenna, system := o.system, sv := o.sv, sight := [o.sightN, o.sightE, o.sightD]
        value := v.1 - ((sbas.map (·.range)).getD 0), variance := max 1 (v.2 + ((sbas.map (·.error)).getD 0))
        dual, sbas := sbas.isSome, flagged }
    let single (b : Nat) (c : Channel × SignalObs) : RangeMeas :=
      let m := sig b c
      match (if o.system = 3 then sbas.bind (·.iono) else none) with
      | some d => make false c.1.flagged (m.1 - d, m.2)
      | none => make false c.1.flagged (m.1 - c.2.iono, m.2 + Cfg.ionoVariance o.elevationMdeg)
    match one 0, (if o.system < 3 then one 1 else none) with
    | some a, some b =>
      let x := sig 0 a
      let y := sig 1 b
      some (make true (a.1.flagged || b.1.flagged) (ionoFree x.1 y.1, ionoFreeVariance x.2 y.2))
    | some a, none => some (single 0 a)
    | none, some b => some (single 1 b)
    | none, none => none

/-- Used satellites of a system at an antenna. -/
def countOf (l : List RangeMeas) (antenna system : Nat) : Nat := (l.filter fun m => m.antenna == antenna && m.system == system).length

/-- A system with fewer than two used satellites at an antenna contributes no measurement from it (R226). -/
def prune (l : List RangeMeas) : List RangeMeas := l.filter fun m => decide (2 ≤ countOf l m.antenna m.system)

/-- Used satellites of an antenna by system: GPS, Galileo, BeiDou, GLONASS. -/
def usedAt (l : List RangeMeas) (antenna : Nat) : List Nat := (List.range 4).map (countOf l antenna)

/-- All of an antenna's used satellites. -/
def usedTotal (l : List RangeMeas) (antenna : Nat) : Nat := (usedAt l antenna).foldl (· + ·) 0

/-! ## The joint solution (R226) -/

/-- The unknowns: three of antenna 0, three of antenna 1, the clock, and the offsets of Galileo, BeiDou and GLONASS. -/
def unknowns : Nat := 10

/-- One: the sight vectors' scale. -/
def sightOne : Int := 2 ^ 30

/-- Coefficients of a measurement, scaled by 2³⁰. -/
def designRow (m : RangeMeas) : List Int :=
  (List.range unknowns).map fun i =>
    if i < 6 then (if i / 3 = m.antenna then -(m.sight.getD (i % 3) 0) else 0)
    else if i = 6 then sightOne
    else if i - 6 = m.system then sightOne else 0

/-- An inter-system offset before a solution (R226): carried as a random walk; out for more than 60 s, or never in (log 138), zero with
100 ns. -/
def priorOf (noisePs tov : Nat) (x : InterSystem) : Int × Nat :=
  match x.last with
  | some t =>
    if tov - t ≤ 60000000000 then (x.value, x.variance + nearestNat (noisePs * noisePs * (tov - t)) 1000)
    else (0, 10 ^ 16)
  | none => (0, 10 ^ 16)

/-- A row of the normal equations: coefficients scaled by 2³⁰, value in fs, variance in fs². -/
structure NormalRow where
  coeffs : List Int
  value : Int
  variance : Nat
deriving DecidableEq, Repr, Inhabited

/-- Rows of the measurements of the antennas that take part and of the prior offsets of the systems in use. -/
def normalRows (l : List RangeMeas) (priors : List (Int × Nat)) : List NormalRow :=
  l.map (fun m => ⟨designRow m, m.value, m.variance⟩) ++
    ((List.range 3).filter fun k => l.any (·.system == k + 1)).map fun k =>
      let p := priors.getD k (0, 1)
      ⟨(List.range unknowns).map fun i => if i = 7 + k then sightOne else 0, p.1, max 1 p.2⟩

/-- A common multiple of the variances. -/
def commonVariance (rows : List NormalRow) : Nat := rows.foldl (fun a r => Nat.lcm a r.variance) 1

/-- The normal matrix and right-hand side, scaled by 2⁶⁰ and the common multiple; an unknown in no row stays zero. -/
def normalEquations (rows : List NormalRow) : List (List Int) × List Int :=
  let c := commonVariance rows
  let weight (r : NormalRow) : Int := c / r.variance
  let at' (r : NormalRow) (i : Nat) : Int := r.coeffs.getD i 0
  let idle (i : Nat) : Bool := rows.all fun r => at' r i == 0
  ((List.range unknowns).map fun i => (List.range unknowns).map fun j =>
      if i = j ∧ idle i then 1 else rows.foldl (fun a r => a + at' r i * at' r j * weight r) 0,
   (List.range unknowns).map fun i => rows.foldl (fun a r => a + at' r i * sightOne * r.value * weight r) 0)

/-- A solution: numerators of the unknowns in fs and of the inverse normal matrix, with their denominator, and the variance scale. -/
structure Solution where
  used : List RangeMeas
  x : List Int
  inverse : List (List Int)
  den : Int
  /-- A variance in fs² is its inverse numerator × scale / den. -/
  scale : Nat
deriving DecidableEq, Repr, Inhabited

/-- Antennas with fewer than three measurements take no part (log 136). -/
def partaking (l : List RangeMeas) : List RangeMeas := l.filter fun m => decide (3 ≤ usedTotal l m.antenna)

/-- The joint weighted least-squares solution; none where the measurements do not determine it. -/
def solveJoint (priors : List (Int × Nat)) (l : List RangeMeas) : Option Solution :=
  let used := partaking (prune l)
  let rows := normalRows used priors
  let e := normalEquations rows
  if used.isEmpty then none
  else (solveNormal e.1 e.2).map fun r => { used, x := r.1, inverse := r.2.1, den := r.2.2, scale := 2 ^ 60 * commonVariance rows }

/-- Residual of a measurement, over the denominator and 2³⁰. -/
def residualNum (r : Solution) (m : RangeMeas) : Int :=
  sightOne * r.den * m.value - (List.zipWith (· * ·) (designRow m) r.x).foldl (· + ·) 0

/-- Square of a normalised residual with 16 fraction bits (R228). -/
def normalisedSquare (r : Solution) (m : RangeMeas) : Nat :=
  let n := (residualNum r m).natAbs
  let d := (sightOne * r.den).natAbs
  nearestNat (n * n * 65536) (d * d * m.variance)

/-- Measurements of an antenna in a solution. -/
def measAt (r : Solution) (antenna : Nat) : List RangeMeas := r.used.filter (·.antenna == antenna)

/-- The residual test of an antenna (R228). -/
def residualTestPasses (falseAlarm : Nat) (r : Solution) (antenna : Nat) : Bool :=
  let l := measAt r antenna
  decide ((l.map (normalisedSquare r)).foldl (· + ·) 0 ≤ Cfg.residualBound falseAlarm l.length)

/-- The measurement of an antenna with the largest normalised residual. -/
def worstAt (r : Solution) (antenna : Nat) : Option RangeMeas :=
  (measAt r antenna).foldl (fun a m => match a with
    | some w => if normalisedSquare r w < normalisedSquare r m then some m else a
    | none => some m) none

/-- The outcome of one output instant. -/
structure PositionOutcome where
  sol : Option Solution := none
  /-- A measurement excluded, and the test passed, by antenna. -/
  excluded : List Bool := [false, false]
  passed : List Bool := [false, false]
deriving DecidableEq, Repr, Inhabited

/-- Solution, test, at most one exclusion per antenna, and solution again (R228). -/
def solveWithTest (falseAlarm : Nat) (priors : List (Int × Nat)) (l : List RangeMeas) : PositionOutcome :=
  match solveJoint priors l with
  | none => {}
  | some r =>
    let failing := [0, 1].filter fun a => !residualTestPasses falseAlarm r a
    if failing.isEmpty then { sol := some r, excluded := [false, false], passed := [true, true] }
    else
      let out := failing.filterMap fun a => worstAt r a
      let again := solveJoint priors (r.used.filter fun m => !out.contains m)
      { sol := again, excluded := [failing.contains 0, failing.contains 1]
        passed := match again with
          | some q => [residualTestPasses falseAlarm q 0, residualTestPasses falseAlarm q 1]
          | none => [false, false] }

/-- PDOP of an antenna, uQ16.16, from its own geometry: its position and one clock for each of its systems (log 137). -/
def pdopOf (r : Solution) (antenna : Nat) : Q :=
  let rows := (measAt r antenna).map fun m =>
    (⟨(List.range unknowns).map fun i =>
        if i < 3 then -(m.sight.getD i 0) else if i = 6 + m.system then sightOne else 0, 0, 1⟩ : NormalRow)
  let e := normalEquations rows
  (solveNormal e.1 e.2).bind fun q =>
    let trace := (List.range 3).foldl (fun a i => a + (q.2.1.getD i []).getD i 0) 0
    rangeU (rootQuot (trace.natAbs * 2 ^ 60 * 2 ^ 32) q.2.2.natAbs)

/-- An antenna's position is valid (R228): satellites, test, PDOP. -/
def positionHolds (limit : Int) (o : PositionOutcome) (antenna : Nat) : Bool :=
  o.sol.any fun r =>
    let used := usedAt r.used antenna
    let systems := (used.filter (0 < ·)).length
    decide (0 < systems) && decide (4 + (systems - 1) ≤ usedTotal r.used antenna) && o.passed.getD antenna false &&
      (pdopOf r antenna).any fun p => decide (p ≤ limit)

/-- An unknown as a coordinate in sQ19.12 codes beyond its starting point (R230). -/
def coordinateOf (start : Int) (r : Solution) (i : Nat) : Q :=
  rangeS (start + nearestQuot (r.x.getD i 0 * lightSpeed * 4096) (r.den * 10 ^ 15))

/-- An entry of the covariance: numerator over `den`, in fs². -/
def covarianceNum (r : Solution) (i j : Nat) : Int := (r.inverse.getD i []).getD j 0 * r.scale

/-- A standard deviation in sQ19.12 codes. -/
def deviationOf (r : Solution) (i : Nat) : Q :=
  rangeS (rootQuot ((covarianceNum r i i).natAbs * (lightSpeed * 4096) ^ 2) (r.den.natAbs * 10 ^ 30))

/-- Correlation of two unknowns, sQ1.30. -/
def correlationOf (r : Solution) (i j : Nat) : Q :=
  let c := covarianceNum r i j
  let v := (covarianceNum r i i * covarianceNum r j j).natAbs
  if v = 0 then none
  else
    let m := rootQuot (c.natAbs * c.natAbs * 2 ^ 60) v
    rangeS (if c < 0 then -m else m)

end Sys2Proof.Machine
end

