-- ==== Sys2Proof/Machine/Time.lean ====
section
/-! DEFINITION. The time unit (chapter 11, R234 to R238, R316): counter and PPS, discipline, sources, holdover, slew and
step, PTP and transmit stamps. The counter field holds the reading at E+0 µs of the current epoch, in 2⁻³² ns. -/

namespace Sys2Proof.Machine

/-! ## The counter and the PPS edge (R241, R235) -/

/-- One second, in units of the counter. -/
def second : Nat := 1000000000 * 2 ^ 32

/-- Ticks of an epoch (R41). -/
def epochTicks : Nat := 150000

/-- The counter holds 64 bits of ns and 32 fraction bits (R241). -/
def counterWrap (v : Int) : Nat := (v % 2 ^ 96).toNat

/-- The nominal increment (R241). -/
def nominalIncr : Nat := 0x355555555

/-- The counter runs from the end of LOAD (R245). -/
def clockRuns (s : State) : Bool := timerRuns s && s.um.mode != .load

/-- The first tick of the epoch that begins at reading `c` at which the counter reads at or beyond a whole second that
it had not reached a tick before: the second in ns, and q in 2⁻³² ns (R235). -/
def edgeIn (c incr : Nat) : Option (Nat × Nat) :=
  let w := ((c - incr) / second + 1) * second
  let k := if w ≤ c then 0 else (w - c + incr - 1) / incr
  if k < epochTicks then some (w / 2 ^ 32, c + k * incr - w) else none

/-- The edge of the current epoch. -/
def edgeNow (s : State) : Option (Nat × Nat) := if clockRuns s then edgeIn s.time.counter s.time.incr else none

/-- The edge that the PPS message of this epoch announces: the one 1000 epochs later (R236). -/
def edgeAhead (s : State) : Option (Nat × Nat) :=
  if clockRuns s then edgeIn (s.time.counter + 1000 * epochTicks * s.time.incr) s.time.incr else none

/-! ## Sources (R243, R247) -/

/-- Place of a source in `quals`. -/
def sourceIndex : TimeSource → Nat
  | .gnssA => 0
  | .gnssB => 1
  | .ptp => 2
  | .pair => 3

/-- The source of a code of R243. -/
def sourceOfCode : Nat → Option TimeSource
  | 1 => some .gnssA
  | 2 => some .gnssB
  | 3 => some .ptp
  | 4 => some .pair
  | _ => none

def qualOf (t : TimeSource) (s : State) : SourceQual := s.time.quals.getD (sourceIndex t) {}

def modQual (t : TimeSource) (f : SourceQual → SourceQual) (s : State) : State :=
  { s with time := { s.time with quals := modAt s.time.quals (sourceIndex t) f } }

/-- A standby unit of a mirrored pair follows the active unit's counter; every other unit takes the declared GNSS and
PTP sources in order (R247, R244). -/
def followsPair (s : State) : Bool := isMirrored s && s.um.role == .standby

def candidates (s : State) : List TimeSource :=
  if followsPair s then [.pair] else s.cfg.image.sourceOrder.filterMap sourceOfCode |>.filter (· != .pair)

/-- The first qualified source in order (R244). -/
def firstQualified (s : State) : Option TimeSource := (candidates s).find? fun t => (qualOf t s).qualified

/-- Some station port is in SLAVE state (R243). -/
def inSlave (s : State) : Bool := s.time.ptp.any (·.state == 9)

/-- A clockClass that qualifies a master (R243). -/
def goodClass (c : Nat) : Bool := [6, 7, 13, 14].contains c

/-- A port is in SLAVE with a master that qualifies. -/
def goodSlave (p : PtpPort) : Bool := p.state == 9 && goodClass p.gmClass

/-! ## Reported uncertainty (R246) -/

/-- The lock bound of R316: 100 ns, or the largest |θ| of the last 2000 epochs, a half tick being 5/3 ns, to the nearest ns (R10). -/
def lockBound (s : State) : Nat := max 100 (roundDiv ((s.pair.thetas.foldl max 0 : Nat) * 5) 3).toNat

/-- Standard deviation in ns of offsets in ps, to the nearest; 0 for fewer than two (R246). Whether it divides by their number or by one
less the manual does not say: `Cfg.sampleDivisor` does. -/
def offsetSpread (l : List Int) : Nat :=
  let n := l.length
  let d := if Cfg.sampleDivisor then n - 1 else n
  let sum := l.foldl (· + ·) 0
  let squares := l.foldl (fun a x => a + x * x) 0
  if n ≤ 1 then 0 else (nearestRootQuot ((n : Int) * squares - sum * sum).natAbs (n * d * 1000000)).natAbs

/-- Uncertainty of the source in use. -/
def sourceUncert (s : State) : Nat :=
  match s.time.source with
  | some .gnssA => (qualOf .gnssA s).sigma
  | some .gnssB => (qualOf .gnssB s).sigma
  | some .ptp => s.cfg.image.ptpUncert + offsetSpread (qualOf .ptp s).last16
  | some .pair => s.mir.tim.uncert + lockBound s
  | none => 0

/-- Growth rate in holdover, ns per hour: the warm-up rate until the OCXO is stable (R246). -/
def holdRateNow (s : State) : Nat := if s.time.ocxoStable then s.cfg.image.holdRate else s.cfg.image.warmRate

/-- Reported uncertainty `ahead` epochs from now, in ns; all ones beyond range and before the first lock (R245, R246).
An hour holds 7 200 000 epochs. -/
def uncertAhead (ahead : Nat) (s : State) : Nat :=
  let t := s.time
  if t.neverLocked then 0xFFFFFFFF
  else if t.holdover then
    min 0xFFFFFFFF (t.holdEntry + (roundDiv ((t.holdGrowth + ahead * holdRateNow s : Nat) : Int) 7200000).toNat)
  else
    let left := t.slewLeft + t.slewTerm * ((epochTicks * ahead : Nat) : Int)
    min 0xFFFFFFFF (sourceUncert s + (if t.slewing then (roundDiv left (2 ^ 32)).natAbs else 0))

def reportedUncert (s : State) : Nat := uncertAhead 0 s

/-! ## Change of source, slew and step (R244, R238) -/

/-- EV_005 is decided from mirrored state (R350): in a mirrored pair it follows the committed epoch-time record, and in
every other unit the unit's own time state. -/
def holdoverEvent (s : State) : State := condition 5 (if isMirrored s then s.mir.tim.holdover else s.time.holdover) s

/-- EV_006 with Δ in ns (R358): in a mirrored pair it is raised from the next committed epoch-time record. -/
def stepEvent (deltaNs : Int) (s : State) : State :=
  if isMirrored s then { s with time := { s.time with stepNews := some deltaNs } }
  else raiseWith 6 0xFFFFFFFF 0 deltaNs s

/-- The first whole second at least 500 ms after the end of the current epoch, in ns. -/
def stepSecond (s : State) : Nat :=
  ((s.time.counter + epochTicks * s.time.incr + second / 2 + second - 1) / second) * 1000000000

/-- The offset Δ, in ps, is removed: stepped at or above 1 µs and at the first lock, slewed out otherwise. A step
abandons a slew (R238, R244, R245). -/
def removeOffset (delta : Int) (s : State) : State :=
  if s.time.neverLocked ∨ 1000000 ≤ delta.natAbs then
    let ns := roundDiv delta 1000
    stepEvent ns { s with time := { s.time with
      step := some (stepSecond s, -ns), slewing := false, slewLeft := 0 } }
  else
    { s with time := { s.time with slewing := true, slewLeft := roundDiv (delta * 2 ^ 32) 1000, step := none } }

/-- A source that is not selected has no run beyond ±5 ppm (R242). -/
def idleSources (s : State) : State :=
  let selected : Option Nat := s.time.source.map sourceIndex
  let idle (i : Nat) (q : SourceQual) : SourceQual := if selected = some i then q else { q with beyond := 0 }
  { s with time := { s.time with quals := mapAt s.time.quals idle } }

/-- The first qualified source is taken when it is not the selected one: EV_007, its offset is removed, and holdover, if
any, ends (R244, R245, R238). -/
def selectSource (s : State) : State :=
  match firstQualified s with
  | none => s
  | some t =>
    if s.time.source = some t then s
    else
      let s := raise 7 s
      let s := removeOffset ((qualOf t s).offset.getD 0) s
      let s := setHoldover false { s with time := { s.time with source := some t, neverLocked := false } }
      let s := idleSources s
      if isMirrored s then s else holdoverEvent s

/-- Counter seconds are up: the selection is evaluated at a whole second (R244). -/
def execSourceSelection (s : State) : Host.Outcome State Fault Refusal :=
  .next (if clockRuns s ∧ s.time.incrDue then selectSource s else s)

/-- No source is qualified: the selection changes to none, EV_007, and the unit is in holdover, with the uncertainty growing from its value
at entry (R237, R244, R246). -/
def enterHoldover (s : State) : State :=
  let u := reportedUncert s
  let s := if s.time.source.isSome then raise 7 s else s
  let s := idleSources (setHoldover true { s with time := { s.time with source := none, holdEntry := u, holdGrowth := 0 } })
  if isMirrored s then s else holdoverEvent s

/-- At a whole second, at which alone the selection changes (R244). -/
def execHoldoverEntry (s : State) : Host.Outcome State Fault Refusal :=
  .next (if clockRuns s ∧ s.time.incrDue ∧ ¬ s.time.holdover ∧ firstQualified s = none then enterHoldover s else s)

/-- Holdover ends, at a whole second, with the first qualified source, whose offset is slewed or stepped (R238, R244). -/
def execHoldoverEnd (s : State) : Host.Outcome State Fault Refusal :=
  .next (if clockRuns s ∧ s.time.incrDue ∧ s.time.holdover then selectSource s else s)

/-- The slew ends when less than 1 ns remains (R238); the increment loses its slew term at its next update (R242). -/
def execSlewComplete (s : State) : Host.Outcome State Fault Refusal :=
  .next (if s.time.slewing ∧ s.time.slewLeft.natAbs < 2 ^ 32 then
      { s with time := { s.time with slewing := false, slewLeft := 0 } }
    else s)

/-! ## Each second (R235, R236, R242, R243) -/

/-- A step moves the counter, and what was measured against it (R244). -/
def applyStep (ns : Int) (s : State) : State :=
  let shift (q : SourceQual) : SourceQual :=
    { q with offset := q.offset.map (· + ns * 1000), last16 := q.last16.map (· + ns * 1000) }
  { s with time := { s.time with
      counter := counterWrap ((s.time.counter : Int) + ns * 2 ^ 32)
      holdLog := s.time.holdLog.map fun e => (((e.1 : Int) + ns).toNat, e.2)
      step := none, stepDone := true
      quals := s.time.quals.map shift } }

/-- One second of a source's qualification (R243): with a measurement, or without. -/
def countSecond (q : SourceQual) : SourceQual :=
  { q with good := if q.fresh then q.good + 1 else 0, bad := if q.fresh then 0 else q.bad + 1, fresh := false }

/-- q of an edge in ps (R235). -/
def quantError (q : Nat) : Nat := (roundDiv ((q * 1000 : Nat) : Int) (2 ^ 32)).toNat

/-- The edge on TIME_OUT (R235, R466): the second's measurements are counted, an announced step takes effect (R244), and the increment
update and the pair measurement fall due (R242, R316). -/
def execPpsEdge (s : State) : Host.Outcome State Fault Refusal :=
  .next (match edgeNow s with
    | none => s
    | some (w, q) =>
      let s := { s with time := { s.time with
        quals := s.time.quals.map countSecond, incrDue := true, edgeAge := 0, edge := some (w, quantError q), pairDue := true }
                        pair := { s.pair with beat := none } }
      match s.time.step with
      | some (at_, ns) => if at_ ≤ w then applyStep ns s else s
      | none => s)

/-- The whole second nearest to a time in ns (R10). -/
def nearestSecond (t : Int) : Nat := (roundDiv t 1000000000).toNat * 1000000000

/-- The step that takes effect at the edge of second `w`. -/
def stepAtEdge (w : Nat) (s : State) : Int :=
  match s.time.step with
  | some (at_, ns) => if at_ ≤ w then ns else 0
  | none => 0

/-- The PPS message of the edge 1000 epochs ahead (R236), shown in LOC_TIM_PPS (R255). -/
def execPpsMessageSend (s : State) : Host.Outcome State Fault Refusal :=
  .next (match edgeAhead s with
    | none => s
    | some (w, q) =>
      let step := stepAtEdge w s
      let flags := flag s.time.holdover + 2 * flag s.time.slewing + 4 * flag (step != 0) + 8 * flag (!s.time.ocxoStable)
      let edge := nearestSecond ((w : Int) + step)
      let qerr := quantError q
      let u := uncertAhead 1000 s
      send (.pps s.um.unit flags edge qerr u step) { s with time := { s.time with
        ppsFlags := flags, ppsEdge := edge, ppsQerr := qerr, ppsUncert := u, ppsStep := step } })

/-- ±5 ppm in 2⁻⁴⁸. -/
def freqLimit : Int := 1407374883

/-- The slew term in codes × 10⁹ (R242): the declared slew rate, at most 10 ppb, or less where that removes the remaining offset in the
coming second of 2000 epochs (R238). -/
def slewTerm (s : State) : Int :=
  if s.time.slewing then
    let most := nominalIncr * min 10 s.cfg.image.slewPpb
    let rest := roundDiv ((s.time.slewLeft.natAbs * 1000000000 : Nat) : Int) (2000 * epochTicks)
    let codes : Int := min (most : Int) rest
    if s.time.slewLeft < 0 then codes else -codes
  else 0

/-- One second of the loop on the selected source, when it was measured (R242). -/
def runLoop (s : State) : State :=
  match s.time.source with
  | none => s
  | some t =>
    let q := qualOf t s
    match q.offset with
    | none => s
    | some d =>
      if q.bad = 0 then
        let r := Cfg.disciplineLoop s.cfg.image.loopTau s.time.loop d s.time.slewLeft
        let beyond : Bool := decide (freqLimit < r.2 ∨ r.2 < -freqLimit)
        let s := modQual t (fun q => { q with beyond := if beyond then q.beyond + 1 else 0 }) s
        { s with time := { s.time with loop := r.1, freq := max (-freqLimit) (min freqLimit r.2) } }
      else modQual t (fun q => { q with beyond := 0 }) s

/-- The increment: the sum of nominal, frequency term and slew term (in codes × 10⁹), rounded once (R242). -/
def increment (freq slew : Int) : Nat :=
  ((nominalIncr : Int) + roundDiv (-(nominalIncr * freq * 1000000000) + slew * 2 ^ 48) (2 ^ 48 * 1000000000)).toNat

/-- At the first E+0 µs after an edge the increment is set, and at no other instant (R242). -/
def execIncrementUpdate (s : State) : Host.Outcome State Fault Refusal :=
  .next (if clockRuns s ∧ s.time.incrDue ∧ s.time.edgeAge = 1 then
      let s := runLoop s
      let incr := increment s.time.freq (slewTerm s)
      { s with time := { s.time with
        incr, slewTerm := (incr : Int) - increment s.time.freq 0, incrDue := false } }
    else s)

/-- A source that needs y beyond ±5 ppm for 60 consecutive seconds is disqualified: EV_007 (R242). -/
def execDisciplineDisqualify (t : TimeSource) (s : State) : Host.Outcome State Fault Refusal :=
  .next (if 60 ≤ (qualOf t s).beyond then
      raise 7 (modQual t (fun q => { q with qualified := false, good := 0, beyond := 0 }) s)
    else s)

/-! ## Qualification and measurement (R243, R234, R316) -/

/-- The conditions of R243's "Qualified after"; the 10 s of PTP and its 3 s without a Sync are counted in epochs (log 144). -/
def qualifies (t : TimeSource) (s : State) : Bool :=
  match t with
  | .pair => s.pair.locked
  | .ptp => s.time.ptp.any fun p => goodSlave p && decide (20000 ≤ p.slaveFor)
  | t => decide (10 ≤ (qualOf t s).good)

/-- The conditions of R243's "Disqualified after". -/
def disqualifies (t : TimeSource) (s : State) : Bool :=
  match t with
  | .pair => !s.pair.locked
  | .ptp => !s.time.ptp.any fun p => p.state == 9 && decide (p.syncAge < 6000)
  | t => decide (3 ≤ (qualOf t s).bad)

def execSourceQualified (t : TimeSource) (s : State) : Host.Outcome State Fault Refusal :=
  .next (if clockRuns s && qualifies t s && !disqualifies t s then modQual t (fun q => { q with qualified := true }) s
    else s)

/-- The 10 s in SLAVE begin anew (R243). -/
def restartSlaves (s : State) : State := { s with time := { s.time with ptp := s.time.ptp.map fun p => { p with slaveFor := 0 } } }

/-- Disqualification of PTP raises EV_044 (R243). -/
def execSourceDisqualified (t : TimeSource) (s : State) : Host.Outcome State Fault Refusal :=
  .next (if (qualOf t s).qualified && disqualifies t s then
      let s := modQual t (fun q => { q with qualified := false, good := 0, beyond := 0 }) s
      if t = .ptp then raise 44 (restartSlaves s) else s
    else s)

/-- A source has been measured. -/
def measured (t : TimeSource) (offsetPs : Int) (sigma : Nat) (s : State) : State :=
  modQual t (fun q => { q with offset := some offsetPs, sigma, fresh := true, last16 := (offsetPs :: q.last16).take 16 }) s

/-- The pair source, from the heartbeat that follows the standby unit's edge (R316): the counter less TX_TIME, less the
one-way delay at the nominal increment, 10⁴/3 ps a tick. -/
def execPairTimeMeasurement (s : State) : Host.Outcome State Fault Refusal :=
  .next (match s.pair.beat with
    | some (rx, tx, round) =>
      if s.um.role = .standby ∧ s.time.pairDue then
        measured .pair (((rx : Int) - tx) * 1000 - roundDiv (round * 10000) 6) (s.mir.tim.uncert)
          { s with time := { s.time with pairDue := false } }
      else s
    | none => s)

/-! ## PTP ports (R250) -/

/-- PTP runs from SELFTEST onwards (R250). -/
def ptpRuns (s : State) : Bool := clockRuns s

def portIndex : Side → Nat
  | .one => 0
  | .two => 1

def ptpPort (p : Side) (s : State) : PtpPort := s.time.ptp.getD (portIndex p) {}

def modPtp (p : Side) (f : PtpPort → PtpPort) (s : State) : State :=
  { s with time := { s.time with ptp := modAt s.time.ptp (portIndex p) f } }

/-- Declared role of a port: 0 disabled, 1 slave only, 2 boundary clock. -/
def ptpRole (p : Side) (s : State) : Nat := s.cfg.image.ptpRole.getD (portIndex p) 0

/-- A port changes its state or its master: what it had of its master is forgotten. -/
def ptpState (state : Nat) (parent : Option Nat) (gm : Nat) (q : PtpPort) : PtpPort :=
  if q.state = state ∧ q.parent = parent then { q with gmClass := gm, slaveFor := if goodClass gm then q.slaveFor else 0 }
  else { q with state, parent, gmClass := gm, slaveFor := 0, syncAge := 0, sync := none, t12 := none, delayReq := none, delay := 0 }

/-- PTP starts at the entry to SELFTEST: each enabled port listens in its declared domain (R250). -/
def startPtp (s : State) : State :=
  let go (i : Nat) (q : PtpPort) : PtpPort :=
    { q with state := if s.cfg.image.ptpRole.getD i 0 = 0 then 3 else 4, domain := s.cfg.image.ptpDomain.getD i 0 }
  { s with time := { s.time with ptp := mapAt s.time.ptp go } }

/-- Epochs of an interval of 2^log seconds. -/
def logEpochs (log : Int) : Nat := if log < 0 then 2000 / 2 ^ log.natAbs else 2000 * 2 ^ log.natAbs

/-- Announce interval of port i, in epochs (R250). -/
def announceEpochs (i : Nat) (g : Image) : Nat := logEpochs (g.ptpLogAnnounce.getD i 1)

/-- A clock that has been silent for four announce intervals is no longer known (log 156). -/
def agePort (g : Image) (i : Nat) (p : PtpPort) : PtpPort :=
  let p := if p.state = 9 then { p with slaveFor := if goodSlave p then p.slaveFor + 1 else 0, syncAge := p.syncAge + 1 } else p
  { p with announceAge := p.announceAge + 1, syncSent := p.syncSent + 1, announceSent := p.announceSent + 1
           heard := (p.heard.map fun f => { f with age := f.age + 1 }).filter fun f => decide (f.age < 4 * announceEpochs i g) }

/-! ## The epoch's part, for INPUT_CUTOFF and the epoch-time record (R248) -/

/-- The counter at E+0 µs of the next epoch: the ticks of this one, `trim` more or fewer (R315), at the increment. In LOAD it stands at
zero, from which it starts at the end of LOAD (R245). -/
def counterNext (trim : Int) (s : State) : Nat :=
  if s.um.mode = .load then 0 else counterWrap ((s.time.counter : Int) + ((epochTicks : Int) + trim) * s.time.incr)

/-- C(N) of the next epoch, with the step due before it (R248). -/
def cutoffNext (trim : Int) (s : State) : Nat :=
  let step : Int := match edgeNow s with
    | some (w, _) => stepAtEdge w s
    | none => 0
  counterWrap (((counterNext trim s : Nat) : Int) + step * 2 ^ 32) / 2 ^ 32

/-- One epoch of the time unit. -/
def advanceTime (trim : Int) (s : State) : State :=
  let ticks := (epochTicks : Int) + trim
  let t := s.time
  let grow : Nat := if t.holdover && !t.neverLocked then t.holdGrowth + holdRateNow s else t.holdGrowth
  let left : Int := if t.slewing then t.slewLeft + t.slewTerm * ticks else t.slewLeft
  { s with
    time := { t with
      counter := counterNext trim s, slewLeft := left, holdGrowth := grow, stepDone := false, edgeAge := t.edgeAge + 1
      ptp := mapAt t.ptp (agePort s.cfg.image), ringPtp := t.ringPtp.map fun p => { p with reqAge := p.reqAge + 1 }
      txq := t.txq.map fun e => (e.1, e.2.1, e.2.2 + 1) }
    gnA := { s.gnA with tofsAge := s.gnA.tofsAge + 1 }
    gnB := { s.gnB with tofsAge := s.gnB.tofsAge + 1 } }

/-- TAI − UTC in use (R249): from GPS, else from a qualified PTP master. -/
def utcOffset (s : State) : Option Int :=
  s.time.utcGps.orElse fun _ => if (qualOf .ptp s).qualified then s.time.utcPtp else none

/-- The state bits of the record, as TIM_STATUS bits 6:0 (R254); the pair source shows none. -/
def timeStateBits (s : State) : Nat :=
  let t := s.time
  let due : Bool := match edgeNow s with
    | some (w, _) => stepAtEdge w s != 0
    | none => false
  flag t.holdover + 2 * flag t.slewing + 4 * flag (t.stepDone || due) + 8 * flag (!t.ocxoStable) +
    16 * flag t.neverLocked + 32 * (sourceCode t.source % 4)

/-- Payload of the epoch-time record: C(N), state, uncertainty, TAI − UTC, Δ of a step decided (R248). -/
def timePayload (cutoff : Nat) (s : State) : List Byte :=
  let opt (v : Option Int) : Nat := flag v.isSome
  beBytes 8 cutoff ++ beBytes 1 (timeStateBits s) ++ beBytes 4 (reportedUncert s) ++
    beBytes 1 (opt (utcOffset s)) ++ beBytes 2 (codeS 16 (some ((utcOffset s).getD 0))) ++
    beBytes 1 (opt s.time.stepNews) ++ beBytes 8 (codeS 64 (some (s.time.stepNews.getD 0)))

/-- The committed time state that a record's payload spells. -/
def timeOfPayload (l : List Byte) : TimeMirror :=
  let st := octets l 8 1
  { cutoff := octets l 0 8, extrap := false, source := st / 32 % 4, neverLocked := st.testBit 4
    ocxoUnstable := st.testBit 3, step := st.testBit 2, slew := st.testBit 1, holdover := st.testBit 0
    uncert := octets l 9 4
    utc := if octets l 13 1 = 1 then some (signed 16 (octets l 14 2)) else none }

/-- Δ of the step that a record announces. -/
def stepOfPayload (l : List Byte) : Option Int :=
  if octets l 16 1 = 1 then some (signed 64 (octets l 17 8)) else none

end Sys2Proof.Machine
end

