-- ==== Sys2Proof/Machine/Gnss.lean ====
section
/-! DEFINITION. The GNSS engines (chapter 10, R221 to R233, R249): solutions as records, channels, multipath, antennas,
and the committed records of each engine. -/

namespace Sys2Proof.Machine

/-- One engine of the unit. -/
def engineOf (e : Side) (s : State) : Engine :=
  match e with
  | .one => s.gnA
  | .two => s.gnB

def modEngine (e : Side) (f : Engine → Engine) (s : State) : State :=
  match e with
  | .one => { s with gnA := f s.gnA }
  | .two => { s with gnB := f s.gnB }

/-- Its committed side. -/
def gnssRef (e : Side) (s : State) : GnssRef :=
  match e with
  | .one => s.mir.gnA
  | .two => s.mir.gnB

def modGnssRef (e : Side) (f : GnssRef → GnssRef) (s : State) : State :=
  match e with
  | .one => { s with mir := { s.mir with gnA := f s.mir.gnA } }
  | .two => { s with mir := { s.mir with gnB := f s.mir.gnB } }

/-- Its source number in the image. -/
def gnssSource (e : Side) (s : State) : Nat :=
  match e with
  | .one => s.cfg.image.gnssA
  | .two => s.cfg.image.gnssB

/-- One antenna of an engine. -/
def antennaOf (e : Side) (a : Nat) (s : State) : AntennaPort := if a = 0 then (engineOf e s).ant0 else (engineOf e s).ant1

def modAntenna (e : Side) (a : Nat) (f : AntennaPort → AntennaPort) (s : State) : State :=
  modEngine e (fun g => if a = 0 then { g with ant0 := f g.ant0 } else { g with ant1 := f g.ant1 }) s

/-! ## Channels (R223 to R225) -/

/-- Channels of an antenna. -/
def antennaChannels : Nat := 60

/-- Bands that a system is tracked on (R221): two of GPS, Galileo and BeiDou, else one. -/
def bandsOf (system : Nat) : Nat := if system < 3 then 2 else 1

/-- Channels that a satellite takes. -/
def channelsOf (v : Satellite) : Nat := min (bandsOf v.system) v.bands

/-- Satellites take their channels in order while theirs fit (R223). -/
def fillChannels (l : List Satellite) : List Satellite :=
  (l.foldl (fun (a : List Satellite × Nat) v =>
    if a.1.contains v ∨ a.2 + channelsOf v > antennaChannels then a else (a.1 ++ [v], a.2 + channelsOf v)) ([], 0)).1

/-- Descending elevation. -/
def higher (a b : Satellite) : Bool := decide (b.elevationMdeg ≤ a.elevationMdeg)

/-- The order of R223 over the satellites of enabled systems above the mask; `named` are the SBAS satellites of the sensors section. -/
def channelOrder (named : List Nat) (mask : Nat) (enable : Word) (visible : List Satellite) : List Satellite :=
  let l := sortBy higher (visible.filter fun v => bitOf enable v.system && decide (mask < v.elevationMdeg))
  let sbas := (l.filter fun v => v.system == 4 && named.contains v.sv).take 2
  let firsts := (List.range 4).map fun k => (l.filter fun v => v.system == k).take 4
  sbas ++ firsts.flatten ++ l

/-- The channels of a satellite: one already allocated goes on, a new one starts without lock. -/
def allocate (old : List Channel) (v : Satellite) : List Channel :=
  (List.range (channelsOf v)).map fun b =>
    (old.find? fun c => c.system == v.system && c.sv == v.sv && c.band == b).getD { system := v.system, sv := v.sv, band := b }

/-- Counter seconds now. -/
def counterSeconds (s : State) : Nat := s.time.counter / second

/-- The engine reallocates at most once per second (R223). -/
def execChannelReallocation (e : Side) (visible0 visible1 : List Satellite) (s : State) :
    Host.Outcome State Fault Refusal :=
  .next (if clockRuns s ∧ (engineOf e s).lastAlloc ≠ some (counterSeconds s) then
      let take (v : List Satellite) (a : AntennaPort) : AntennaPort :=
        let order := channelOrder s.cfg.image.sbasNamed s.cfg.image.elevation (gnssRef e s).enable v
        { a with channels := (fillChannels order).flatMap (allocate a.channels) }
      let s := modAntenna e 0 (take visible0) s
      let s := modAntenna e 1 (take visible1) s
      modEngine e (fun g => { g with lastAlloc := some (counterSeconds s) }) s
    else s)

/-- Magnitude of a complex correlator. -/
def magnitude (c : Int × Int) : Int := nearestRoot (c.1.natAbs * c.1.natAbs + c.2.natAbs * c.2.natAbs) 0

/-- Offsets of the nine correlators from prompt, in hundredths of a chip (R224): very early, early, M1, M2, prompt, M3, M4, late, very
late. -/
def tapOffsets : List Int := [-100, -50, -15, -5, 0, 5, 15, 50, 100]

/-- Magnitude of the correlator at an offset. -/
def tapAt (c : Channel) (offset : Int) : Int := magnitude (c.taps.getD (tapOffsets.idxOf offset) (0, 0))

/-- A side peak of E1 or B1C is tracked: a very early or very late correlator stands above the prompt one (R224, log 165). -/
def falseLock (c : Channel) : Bool :=
  (c.system == 1 || c.system == 2) && c.band == 0 && (decide (tapAt c 0 < tapAt c (-100)) || decide (tapAt c 0 < tapAt c 100))

/-- Twice the code discriminator: very early minus very late at the handover from acquisition (R224), early minus late in the first 2 s in
lock, then (M2 − M3) − ½ (M1 − M4) (R225). -/
def discriminator (tov : Nat) (c : Channel) : Int :=
  match c.lock with
  | none => 2 * (tapAt c (-100) - tapAt c 100)
  | some t =>
    if tov < t + 2000000000 then 2 * (tapAt c (-50) - tapAt c 50)
    else 2 * (tapAt c (-5) - tapAt c 5) - (tapAt c (-15) - tapAt c 15)

/-- What the prompt correlator gives (R224): the carrier's phase error, the sign of the navigation data, the carrier-to-noise ratio. -/
def trackPrompt (c : Channel) : Channel :=
  let p := c.taps.getD (tapOffsets.idxOf 0) (0, 0)
  { c with phase := arctangent p.2 p.1, navSign := decide (p.1 < 0), cn0 := Cfg.carrierToNoise c.cn0 p }

/-- A channel takes its lock and correlators at a time of validity from the observations of its antenna; without any, or on a side peak, it
is not in lock. -/
def updateChannel (tov : Nat) (o : AntennaObs) (c : Channel) : Channel :=
  match ((o.sats.find? fun v => v.system == c.system && v.sv == c.sv).bind fun v => v.signals[c.band]?) with
  | some g =>
    let c := trackPrompt { c with taps := (g.taps ++ List.replicate 9 (0, 0)).take 9 }
    let c := { c with lock := if g.lock && !falseLock c then some (c.lock.getD tov) else none }
    { c with error := discriminator tov c }
  | none => { c with lock := none, error := 0 }

/-- The fit of one signal's correlators, once per second (R225): above the first threshold it is flagged, and a flag holds until a fit
below it; above the second it is excluded from the solution. The reflection lies 0.05 to 1.0 chip behind. -/
def fitChannel (img : Image) (now : Nat) (c : Channel) : Channel :=
  if c.fitted = some now then c
  else
    let r := Cfg.reflection c.system c.band (tapOffsets.map fun t => (tapAt c t).natAbs)
    { c with
      amplitude := r.1, delay := max 50 (min 1000 r.2), fitted := some now
      flagged := if img.mpFlag < r.1 then true else if r.1 < img.mpFlag then false else c.flagged
      excluded := decide (img.mpExclude < r.1) }

/-- Fit of the signal of channel `signal`; a signal newly excluded raises EV_074 at once in a unit that is not mirrored, and in a mirrored
pair by the committed record (R350, log 139). -/
def execMultipathFit (e : Side) (antenna signal : Nat) (s : State) : Host.Outcome State Fault Refusal :=
  .next (if clockRuns s then
      let before := (antennaOf e antenna s).channels.map (·.excluded)
      let s := modAntenna e antenna (fun a => { a with
        channels := modAt a.channels signal (fitChannel s.cfg.image (counterSeconds s)) }) s
      let after := (antennaOf e antenna s).channels.map (·.excluded)
      if (List.zipWith (fun b a => !b && a) before after).any (·) && !isMirrored s then raise 74 s else s
    else s)

/-! ## Solutions (R226 to R230) -/

/-- Output rate of an engine, Hz, and its period in ns (R229). -/
def outputPeriod (e : Side) (s : State) : Nat :=
  1000000000 / (match e with
    | .one => s.cfg.image.rateA
    | .two => s.cfg.image.rateB)

/-- Systems enabled for a solution of this time of validity (R239). -/
def enabledAt (tov : Nat) (g : GnssRef) : Word := if tov > g.since then g.enable else g.before

/-- Number of an antenna among GNSS_1 to GNSS_4. -/
def antennaIndex (e : Side) (a : Nat) : Nat :=
  (match e with
    | .one => 0
    | .two => 2) + a

/-- The measurements of an antenna. -/
def measurementsAt (e : Side) (a : Nat) (enable : Word) (o : AntennaObs) (s : State) : List RangeMeas :=
  o.sats.filterMap (measureOf (s.cfg.image.phaseCentres.getD (antennaIndex e a) []) s.cfg.image.elevation enable a (antennaOf e a s))

/-- The prior inter-system offsets of an engine at a time of validity (R226). -/
def offsetPriors (e : Side) (tov : Nat) (s : State) : List (Int × Nat) :=
  (engineOf e s).offsets.map (priorOf s.cfg.image.interNoise tov)

/-- The solution at an output instant (R226 to R228). -/
def solutionOf (g : GnssSolution) (s : State) : PositionOutcome :=
  let en := enabledAt g.tov (gnssRef g.engine s)
  solveWithTest s.cfg.image.falseAlarm (offsetPriors g.engine g.tov s)
    (measurementsAt g.engine 0 en g.ant0 s ++ measurementsAt g.engine 1 en g.ant1 s)

/-- The offsets carried on from a solution (R226). -/
def carryOffsets (tov : Nat) (r : Solution) (l : List InterSystem) : List InterSystem :=
  mapAt l fun k x =>
    if r.used.any (·.system == k + 1) then
      { value := nearestQuot (r.x.getD (7 + k) 0) r.den
        variance := nearestNat (covarianceNum r (7 + k) (7 + k)).natAbs r.den.natAbs, last := some tov }
    else x

/-- FIX of a valid position (R230). -/
def fixCode (l : List RangeMeas) : Nat := if l.any (·.dual) then (if l.any (·.sbas) then 3 else 2) else 1

/-- An inter-system offset in ps: NaN for a system not in use (R230). -/
def offsetField (r : Option Solution) (k : Nat) : List Byte :=
  beBytes 4 (codeS 32 (r.bind fun r =>
    if r.used.any (·.system == k) then rangeS (nearestQuot (r.x.getD (6 + k) 0) (r.den * 1000)) else none))

/-- The 60 octets of a position record (R230). -/
def positionPayload (antenna : Nat) (holdover : Bool) (tov : Nat) (limit : Int) (o : PositionOutcome) (start : AntennaObs) : List Byte :=
  let ok := positionHolds limit o antenna
  let used := (o.sol.map fun r => usedAt r.used antenna).getD []
  let meas := (o.sol.map fun r => measAt r antenna).getD []
  let val (f : Solution → Q) : List Byte := beBytes 4 (codeS 32 (if ok then o.sol.bind f else none))
  let at' (i : Nat) : Nat := 3 * antenna + i
  let nib (k : Nat) : Nat := min 15 (used.getD k 0)
  beBytes 1 antenna ++ beBytes 1 (if ok then fixCode meas else 0) ++
    beBytes 1 (flag holdover + 2 * flag (o.excluded.getD antenna false) + 4 * flag (meas.any (·.flagged))) ++
    beBytes 1 (min 255 (used.foldl (· + ·) 0)) ++ beBytes 8 tov ++
    val (fun r => coordinateOf start.north r (at' 0)) ++ val (fun r => coordinateOf start.east r (at' 1)) ++
    val (fun r => coordinateOf start.down r (at' 2)) ++ val (fun r => deviationOf r (at' 0)) ++ val (fun r => deviationOf r (at' 1)) ++
    val (fun r => deviationOf r (at' 2)) ++ val (fun r => correlationOf r (at' 0) (at' 1)) ++
    beBytes 4 (codeU 32 (o.sol.bind fun r => pdopOf r antenna)) ++
    beBytes 2 (nib 0 * 4096 + nib 1 * 256 + nib 2 * 16 + nib 3) ++ beBytes 2 0 ++
    offsetField o.sol 1 ++ offsetField o.sol 2 ++ offsetField o.sol 3

/-- A time of validity and ingress that R229 allows: a whole multiple of the output period, at most 6 ms before ingress. -/
def outputInstant (e : Side) (tov stamp : Nat) (s : State) : Bool :=
  tov % outputPeriod e s == 0 && decide (tov ≤ stamp) && decide (stamp ≤ tov + 6000000)

/-- The engine's channels track at an output instant (R224, R225). -/
def trackChannels (g : GnssSolution) (s : State) : State :=
  let s := modAntenna g.engine 0 (fun a => { a with channels := a.channels.map (updateChannel g.tov g.ant0) }) s
  modAntenna g.engine 1 (fun a => { a with channels := a.channels.map (updateChannel g.tov g.ant1) }) s

/-- The engine after a solution: the offsets carried, and the clock where a position is valid (R226, R234). -/
def engineAfter (g : GnssSolution) (limit : Int) (o : PositionOutcome) (x : Engine) : Engine :=
  match o.sol with
  | none => { x with clock := none }
  | some r => { x with
      offsets := carryOffsets g.tov r x.offsets
      clock := if positionHolds limit o 0 || positionHolds limit o 1 then
          some (g.clock + nearestQuot (r.x.getD 6 0) r.den, nearestNat (covarianceNum r 6 6).natAbs r.den.natAbs)
        else none }

/-- An output instant of an engine: its channels track, the joint solution is formed, and one record for each antenna is delivered
(R224 to R230); the broadcast UTC offset is taken (R249). -/
def execGnssSolution (g : GnssSolution) (s : State) : Host.Outcome State Fault Refusal :=
  .next (if clockRuns s ∧ outputInstant g.engine g.tov (readingAt g.tick s) s then
      let s := match g.utcOffset with
        | some u => { s with time := { s.time with utcGps := some u } }
        | none => s
      let s := trackChannels g s
      let o := solutionOf g s
      let s := modEngine g.engine (engineAfter g s.cfg.image.pdop o) s
      let deliver (i : Nat) (a : AntennaObs) (s : State) : State :=
        ingest (gnssSource g.engine s) (readingAt g.tick s) g.tov false
          (positionPayload i (holdoverAt g.tov s) g.tov s.cfg.image.pdop o a) s
      deliver 1 g.ant1 (deliver 0 g.ant0 s)
    else s)

/-- Time source of an engine. -/
def timeSourceOf : Side → TimeSource
  | .one => .gnssA
  | .two => .gnssB

/-- The PTP timescale runs at GPS time plus 19 s (R249), in fs. -/
def gpsToPtp : Int := 19 * 10 ^ 15

/-- An engine's time measurement, once per second, from its latest solution with a valid position (R234, R240): module time less GPS time
on the PTP timescale. -/
def execGnssTimeMeasurement (e : Side) (s : State) : Host.Outcome State Fault Refusal :=
  .next (match (engineOf e s).clock with
    | some (v, var) =>
      if clockRuns s ∧ (engineOf e s).timed ≠ some (counterSeconds s) then
        let ps := roundDiv (v - gpsToPtp) 1000
        let s := measured (timeSourceOf e) ps (rootQuot var (10 ^ 12)).toNat s
        modEngine e (fun g => { g with tofs := rangeS ps, tofsAge := 0, timed := some (counterSeconds s), clock := none }) s
      else s
    | none => s)

/-! ## Antenna supply (R222) -/

/-- The supply of an input is this unit's: a single unit, or unit A of a pair. -/
def suppliesAntennas (s : State) : Bool := !(isPair s && s.um.unit == .b)

/-- The four inputs take their supply state from the image (R222). -/
def startAntennas (s : State) : State :=
  let on := suppliesAntennas s
  let set (a : AntennaPort) : AntennaPort := { a with supplied := on, state := if on then 0 else 3, low := 0, cutFor := 0 }
  { s with gnA := { s.gnA with ant0 := set s.gnA.ant0, ant1 := set s.gnA.ant1 }
           gnB := { s.gnB with ant0 := set s.gnB.ant0, ant1 := set s.gnB.ant1 } }

/-- Some input is open or short. -/
def antennaBad (s : State) : Bool :=
  [s.gnA.ant0, s.gnA.ant1, s.gnB.ant0, s.gnB.ant1].any fun a => a.state == 1 || a.state == 2

/-- EV_072 lasts while some input is open or short. -/
def antennaEvent (s : State) : State := condition 72 (antennaBad s) s

/-- Current in mA above which a short is detected for certain, less the detector's tolerance (R464: 150 mA ± 15 mA). -/
def shortCurrent : Nat := 135

/-- A supplied input whose current exceeds its limit is short: its supply is cut, EV_072 (R222). -/
def execAntennaShort (e : Side) (antenna currentMa : Nat) (s : State) : Host.Outcome State Fault Refusal :=
  .next (if (antennaOf e antenna s).supplied ∧ shortCurrent < currentMa then
      antennaEvent (modAntenna e antenna (fun a => { a with
        supplied := false, state := 2, cutFor := 0, low := 0, current := min 255 currentMa }) s)
    else s)

/-- A supplied input with less than 5 mA for 1 s is open: EV_072 (R222). -/
def execAntennaOpen (e : Side) (antenna : Nat) (s : State) : Host.Outcome State Fault Refusal :=
  .next (if (antennaOf e antenna s).supplied ∧ 2000 ≤ (antennaOf e antenna s).low then
      antennaEvent (modAntenna e antenna (fun a => { a with state := 1 }) s)
    else s)

/-- The retry of a cut supply, once every 10 s: it stays cut while the short lasts (R222). -/
def execAntennaSupplyRetry (e : Side) (antenna : Nat) (stillShort : Bool) (s : State) :
    Host.Outcome State Fault Refusal :=
  .next (if (antennaOf e antenna s).state = 2 ∧ 20000 ≤ (antennaOf e antenna s).cutFor then
      (if stillShort then modAntenna e antenna (fun a => { a with cutFor := 0 }) s
      else antennaEvent (modAntenna e antenna (fun a => { a with supplied := true, state := 0, cutFor := 0 }) s))
    else s)

/-- The currents read each epoch: runs below 5 mA and of a cut supply; an open input that draws 5 mA again is normal. -/
def readAntennas (ma : List Nat) (s : State) : State :=
  let f (i : Nat) (a : AntennaPort) : AntennaPort :=
    let c := ma.getD i 0
    { a with current := min 255 c, state := if a.state = 1 ∧ 5 ≤ c then 0 else a.state
             low := if a.supplied && decide (c < 5) then a.low + 1 else 0
             cutFor := if a.state = 2 then a.cutFor + 1 else 0 }
  antennaEvent { s with
    gnA := { s.gnA with ant0 := f 0 s.gnA.ant0, ant1 := f 1 s.gnA.ant1 }
    gnB := { s.gnB with ant0 := f 2 s.gnB.ant0, ant1 := f 3 s.gnB.ant1 } }

/-! ## Committed records (R233, R239, R228) -/

/-- EV_070 for GNSS A, EV_071 for GNSS B. -/
def gnssEvent : Side → Nat
  | .one => 70
  | .two => 71

/-- The record chosen for an antenna: a valid one under R38, else the newest of unit A's, else of unit B's. -/
def antennaRecord (e : Side) (antenna : Nat) (s : State) : Option InRecord :=
  let of (r : InRecord) : Bool := gnssAntenna r.payload == antenna
  match chosenRecord (fun r => of r && gnssValid r.payload) (gnssSource e s) s with
  | some r => some r
  | none => chosenRecord of (gnssSource e s) s

/-- A committed record of the solution made an exclusion (R230 FLAGS bit 1). -/
def excludes (r : InRecord) : Bool := (octets r.payload 2 1).testBit 1

/-- A mirrored pair knows from a committed record that a signal was excluded for multipath: how is open, since R230 gives it no field (R225,
R350, log 139). -/
def multipathExcludes (s : State) (r : InRecord) : Bool := isMirrored s && Cfg.signalExcluded r.payload

/-- One epoch of an engine's committed records, in fast work: latest records, silence, exclusions. -/
def gnssIntakeOf (e : Side) (s : State) : State :=
  let r0 := antennaRecord e 0 s
  let r1 := antennaRecord e 1 s
  let found := [r0, r1].filterMap id
  let valid := found.any fun r => gnssValid r.payload
  let excl := found.any excludes
  let g := gnssRef e s
  let s := if excl && !g.exclusionRun then raise 73 s else s
  let mp := found.any (multipathExcludes s)
  let s := if mp && !g.multipathRun then raise 74 s else s
  let shown (k : Nat) : Bool := found.any fun r => (qS 32 (octets r.payload (48 + 4 * k) 4)).isSome
  let s := ((List.range 3).filter fun k => shown k && (g.offsetAge.getD k none).any fun n => decide (120000 < n)).foldl
    (fun s k => raiseAt 76 (k + 1) s) s
  let s := modGnssRef e (fun g => { g with
    offsetAge := mapAt g.offsetAge fun k n => if shown k then some 0 else n.map (· + 1)
    ant0 := r0.orElse fun _ => g.ant0
    ant1 := r1.orElse fun _ => g.ant1
    silent := if valid then 0 else g.silent + 1
    lost := g.lost && !valid
    exclusionRun := if found.isEmpty then g.exclusionRun else excl
    multipathRun := if found.isEmpty then g.multipathRun else mp }) s
  if valid then clearEvent (gnssEvent e) s else s

/-- SBAS is enabled and named, some record stands, and no engine's latest records show a fix with SBAS corrections (EV_075, log 140). -/
def sbasMissing (s : State) : Bool :=
  let records := [s.mir.gnA.ant0, s.mir.gnA.ant1, s.mir.gnB.ant0, s.mir.gnB.ant1].filterMap id
  (bitOf s.mir.gnA.enable 4 || bitOf s.mir.gnB.enable 4) && !s.cfg.image.sbasNamed.isEmpty && !records.isEmpty &&
    !records.any fun r => octets r.payload 1 1 == 3

/-- Both engines' part of fast work. -/
def gnssIntake (s : State) : State :=
  let s := gnssIntakeOf .two (gnssIntakeOf .one s)
  condition 75 (sbasMissing s) s

/-- 2000 consecutive epochs without a committed valid record: the engine's event and LOST (R233). -/
def execGnssEngineLost (e : Side) (s : State) : Host.Outcome State Fault Refusal :=
  .next (if 2000 ≤ (gnssRef e s).silent then
      raise (gnssEvent e) (modGnssRef e (fun g => { g with lost := true }) s)
    else s)

end Sys2Proof.Machine
end

