-- ==== Sys2Proof/Machine/Sieve.lean ====
section
/-! DEFINITION. Sieve (chapter 12): the chains' samples, records, set changes, and the committed records. -/

namespace Sys2Proof.Machine

/-! ## Periods and delays in 2⁻³² ns (R260) -/

/-- Output period: 1 ms over the rate, or 2 ms. -/
def chainPeriod (d : ChainDecl) : Nat := (if d.mode = 1 then 1000000 / d.rate else 2000000) * 2 ^ 32

/-- Group delay G: whole multiples of 2⁻⁹ ns. -/
def chainDelay (d : ChainDecl) : Nat := (if d.mode = 1 then 15800000 + (d.taps - 1) / 2 * 8000000 else 511950000) * 2 ^ 23

/-! ## One sample (R258, R259) -/

/-- One modulator bit through the four integrators, modulo 2³² (R258): each adds the one before it. -/
def integrate (b : Bool) (l : List Nat) : List Nat :=
  (l.foldl (fun (a : List Nat × Nat) x => let y := (x + a.2) % 2 ^ 32; (a.1 ++ [y], y)) ([], if b then 1 else 2 ^ 32 - 1)).1

/-- The combs at a decimated instant: each takes the difference from its previous input. The last difference is the exact output. -/
def comb (v : Nat) (l : List Nat) : List Nat × Nat :=
  l.foldl (fun (a : List Nat × Nat) x => (a.1 ++ [a.2], (a.2 + 2 ^ 32 - x) % 2 ^ 32)) ([], v)

/-- Bits of a decimation of the first stage (R257). -/
def decimation : Nat := 80

/-- The first stage over a window's bits (R257): `left` bits remain of the present decimation. Outputs, oldest first. -/
def runCic : (left : Nat) → (integrators combs : List Nat) → List Bool → List Nat × List Nat × List Int
  | _, i, c, [] => (i, c, [])
  | 0, i, c, b :: r =>
    let i := integrate b i
    let q := comb (i.getLastD 0) c
    let z := runCic (decimation - 1) i q.1 r
    (z.1, z.2.1, signed 32 q.2 :: z.2.2)
  | n + 1, i, c, b :: r => runCic n (integrate b i) c r

/-- The products are exact, each narrowed to 24 fraction bits, and added in tap order to `sum` in a 64-bit accumulator (R8, R258); `line`
holds the newest output first. -/
def firOf : (sum : Int) → (coefs : List Int) → (line : List Int) → Q
  | a, c :: cs, x :: xs =>
    let y := a + roundDiv (c * x) 128
    if y.natAbs < 2 ^ 63 then firOf y cs xs else none
  | a, _, _ => some a

/-- Weighted sum of the window's modulator bits (R259), each counting as +1 or −1. -/
def settlingSum (bits : List Bool) : Int :=
  (mapAt bits fun i b => (if b then (1 : Int) else -1) * ((min (i + 1) (10240 - i) : Nat) : Int)).foldl (· + ·) 0

/-- The output format from an exact accumulator value num/den: one multiply and one add, narrowed once (R258). -/
def convertSample (input : Nat) (current settling : Bool) (num : Q) (den : Nat) : Q :=
  let d := Cfg.sieveDen input current settling + 1
  num.bind fun num =>
    rangeS (roundDiv (num * Cfg.sieveGain input current settling + Cfg.sieveOffset input current settling * den) (den * d))

/-- A sample in range fault (R262): beyond ±11.0 V; below 3.6 mA or above 21.0 mA; beyond the format. -/
def rangeFault (current : Bool) (v : Q) : Bool :=
  match v with
  | none => true
  | some x => if current then decide (x * 10 < 36 * 2 ^ 26 ∨ 21 * 2 ^ 26 < x) else decide (11 * 2 ^ 26 < x.natAbs)

/-- The chain's delay lines take the window's integrator-comb outputs. -/
def pushLine (cic : List Int) (line : List Int) : List Int := (cic.reverse ++ line).take 255

/-- Accumulator of a set on a line. -/
def accumulate (d : ChainDecl) (set : Nat) (line : List Int) : Q := firOf 0 (d.sets.getD set []) line

/-- The two exact accumulator values mixed by k/(K + 1), times K + 1 (R263). -/
def mixed (fade k : Nat) (old new : Q) : Q := old.bind fun x => new.map fun y => x * (fade + 1) + (y - x) * k

/-- Value of a window's sample, and the cross-fade's state after it: (value, fading, k). During a change samples 1 to K
mix the two sets by k/(K + 1) (R263). -/
def sampleValue (n : Nat) (d : ChainDecl) (c : Chain) (restarted : Bool) (bits : List Bool) : Q × Bool × Nat :=
  if d.mode = 1 then
    let new := accumulate d c.set c.line
    match c.oldSet with
    | none => (convertSample n d.current false new 1, false, 0)
    | some o =>
      if restarted then (none, false, 0)
      else
        let k := c.fadeK + 1
        if k ≤ d.fade then
          (convertSample n d.current false (mixed d.fade k (accumulate d o c.oldLine) new) (d.fade + 1), true, k)
        else (convertSample n d.current false new 1, false, k)
  else (convertSample n d.current true (some (settlingSum bits)) 1, false, 0)

/-- The input's own value at a window end, by which it is in range fault or not (R265): while a change restarts the chain, that of the set
before it. -/
def inputValue (n : Nat) (d : ChainDecl) (c : Chain) (restarted : Bool) (value : Q) : Q :=
  match c.oldSet with
  | some o => if restarted then convertSample n d.current false (accumulate d o c.oldLine) 1 else value
  | none => value

/-- The counter at a tick, in 2⁻³² ns. -/
def chainCounter (tick : Int) (s : State) : Nat := (((s.time.counter : Int) + tick * s.time.incr) % 2 ^ 96).toNat

/-- The first stage of a chain takes a window's bits (R257). -/
def takeBits (d : ChainDecl) (bits : List Bool) (c : Chain) : Chain :=
  if d.mode = 1 then
    let z := runCic (decimation - 1) c.integrators c.combs bits
    { c with integrators := z.1, combs := z.2.1, line := pushLine z.2.2 c.line, oldLine := pushLine z.2.2 c.oldLine }
  else c

/-! ## Window boundaries (R260) -/

/-- Modulator bits of a window: of one output period at 5.12 MHz, so that the second stage decimates by 8 to 64 (R257, R259). -/
def windowBits (d : ChainDecl) : Nat := if d.mode = 1 then 5120 / d.rate else 10240

/-- Epochs from one window boundary to the next where they lie at E+0 µs: two for 1 kHz, four for 500 Hz. -/
def windowEpochs (d : ChainDecl) : Nat := if d.mode ≠ 1 then 4 else if d.rate = 1 then 2 else 1

/-- A window boundary of a chain lies at this tick of the epoch: by its output period within the epoch, or at E+0 µs of every second or fourth
epoch counted from its start. -/
def atBoundary (d : ChainDecl) (tick : Int) (c : Chain) : Bool :=
  if d.mode = 1 ∧ d.rate ≠ 1 then decide (0 ≤ tick ∧ tick < epochTicks) && tick % ((300000 / d.rate : Nat) : Int) == 0
  else tick == 0 && (c.start.isNone || c.boundaryIn == 0)

/-- A chain starts at its first window boundary at or after the end of LOAD (R260). -/
def beginChain (now : Nat) (c : Chain) : Chain := { c with start := some now, ends := some now, boundaryIn := 0 }

/-- The chains as they have become, with the start of each that has begun (R260, R264). -/
def withChains (l : List Chain) (s : State) : State :=
  let mark (n : Nat) (m : ChainMirror) : ChainMirror :=
    if (s.siv.chains.getD n {}).start.isNone then { m with startedAt := (l.getD n {}).start.map fun t => ((t / 2 ^ 32 : Nat) : Int) } else m
  { s with siv := { s.siv with chains := l }, mir := { s.mir with siv := mapAt s.mir.siv mark } }

/-- E+0 µs: a chain whose LOAD has ended starts; one that runs counts the epochs to its next boundary. -/
def boundaryEpoch (s : State) : State :=
  let at' (n : Nat) (c : Chain) : Chain :=
    let d := chainDecl n s
    if d.mode = 0 then c
    else if c.start.isSome then { c with boundaryIn := (c.boundaryIn + windowEpochs d - 1) % windowEpochs d }
    else if c.armed then beginChain s.time.counter c else c
  withChains (mapAt s.siv.chains at') s

/-- A window of an enabled chain ends (R260 to R263): its sample, and, at the first boundary after a selection, the start
of the new set. `now` is the counter at the window end, `stamp` its reading 4 µs later, `cleared` the end of an overload. -/
def runWindow (d : ChainDecl) (w : SieveWindow) (now stamp : Nat) (cleared : Option Nat) (c : Chain) : Chain :=
  let c := takeBits d w.bits { c with ends := some now, overloadEnd := if w.overload then some (cleared.getD now) else c.overloadEnd }
  let within (t : Option Nat) : Bool := match t with
    | some t => decide (now < t + chainDelay d)
    | none => false
  let restarted := within c.restart
  let r := sampleValue w.chain d c restarted w.bits
  let ranged := rangeFault d.current r.1
  let bad : Bool := within c.start || restarted || w.overload || within c.overloadEnd || c.burdenCut || ranged
  let tov := (roundDiv ((now : Int) - chainDelay d) (2 ^ 32)).toNat
  let c : Chain := { c with
    samples := c.samples ++ [{ stamp, tov, value := if bad then none else r.1, valid := !bad, fading := r.2.1 }]
    fadeK := r.2.2, ranged := !within c.start && rangeFault d.current (inputValue w.chain d c restarted r.1) }
  let c : Chain := if c.oldSet.isSome && !restarted && !r.2.1 then { c with oldSet := none, oldLine := [], restart := none, fadeK := 0 } else c
  match c.selected with
  | some k => { c with oldSet := some c.set, oldLine := c.line, set := k, line := [], restart := some now
                       fadeK := 0, selected := none }
  | none => c

/-- Ticks of 4 µs. -/
def stampTicks : Int := 1200

/-- A window end of one chain, which is a window boundary after its start: a disabled chain delivers nothing (R256), and one that has not
started starts at its first boundary (R260). A chain's window holds as many bits as its mode and rate give it. -/
def execSieveSample (w : SieveWindow) (s : State) : Host.Outcome State Fault Refusal :=
  let d := chainDecl w.chain s
  let now := chainCounter w.tick s
  let close (c : Chain) : Chain :=
    if ¬ atBoundary d w.tick c then c
    else if c.start.isNone then (if c.armed then beginChain now c else c)
    else if c.ends.any fun t => decide (t < now) then
      runWindow d w now (readingAt (w.tick + stampTicks) s) (w.clearedAt.map fun t => chainCounter t s) c
    else c
  .next (if clockRuns s ∧ d.mode ≠ 0 ∧ w.bits.length = windowBits d then
      withChains (modAt s.siv.chains w.chain close) s
    else s)

/-- At the end of LOAD each chain takes its initial set (R256, R264). -/
def startSieve (s : State) : State :=
  let init (n : Nat) : Nat := (chainDecl n s).initial
  let m (n : Nat) (c : ChainMirror) : ChainMirror := { c with ctrl := BitVec.ofNat 32 (init n), setShown := init n }
  let l (n : Nat) (_ : Chain) : Chain := { set := init n, armed := true }
  { s with siv := { s.siv with chains := mapAt s.siv.chains l }, mir := { s.mir with siv := mapAt s.mir.siv m } }

/-- A chain takes the set of SIV_n_CTRL, an operator value in force, where that has reached the unit by pages (R263, R313): at its next window
boundary, as after a selection. -/
def followSieve (s : State) : State :=
  let f (n : Nat) (c : Chain) : Chain :=
    let k := fieldOf ((s.mir.siv.getD n {}).ctrl) 1 0
    if (chainDecl n s).mode = 1 ∧ c.armed ∧ c.selected.getD c.set ≠ k then { c with selected := some k } else c
  { s with siv := { s.siv with chains := mapAt s.siv.chains f } }

/-! ## Records (R261) -/

/-- The 28 octets of a chain's record. -/
def sievePayload (n : Nat) (d : ChainDecl) (holdover : Bool) (set : Nat) (l : List SieveSample) : List Byte :=
  let bit (i : Nat) : Nat := match l[i]? with
    | some x => flag x.valid * 2 ^ (4 + i)
    | none => 0
  let word (i : Nat) : List Byte := match l[i]? with
    | some x => beBytes 4 (codeS 32 x.value)
    | none => beBytes 4 0
  beBytes 1 n ++ beBytes 1 (bit 0 + bit 1 + bit 2 + bit 3 + 2 * flag (l.any (·.fading)) + flag holdover) ++
    beBytes 1 l.length ++ beBytes 1 (set + 128 * flag (d.mode == 2)) ++
    beBytes 8 ((l[0]?).elim 0 (·.tov)) ++ word 0 ++ word 1 ++ word 2 ++ word 3

/-- At the cut-off a chain offers the samples stamped before it as one record. -/
def closeChain (cut n : Nat) (s : State) : State :=
  let d := chainDecl n s
  let c := s.siv.chains.getD n {}
  let now := (c.samples.filter fun x => decide (x.stamp < cut)).take 4
  let rest := c.samples.filter fun x => decide (cut ≤ x.stamp)
  let s' := { s with siv := { s.siv with chains := modAt s.siv.chains n fun c => { c with samples := rest } } }
  match now.getLast?, now[0]? with
  | some l, some f => if d.mode = 0 then s' else
      ingest d.source l.stamp f.tov false (sievePayload n d (holdoverAt f.tov s) c.set now) s'
  | _, _ => s'

/-- Every chain's record of the epoch whose cut-off is `cut`. -/
def closeSieve (cut : Nat) (s : State) : State := (List.range 16).foldl (fun s n => closeChain cut n s) s

/-! ## Committed records (R262 to R264) -/


/-- The record of a chain that is used: unit A's newest with a valid latest sample, else unit B's, else any (R38). -/
def sieveRecord (source : Nat) (s : State) : Option InRecord :=
  match chosenRecord (fun r => sieveValid (octets r.payload 2 1 - 1) r.payload) source s with
  | some r => some r
  | none => chosenRecord (fun _ => true) source s

/-- One committed sample against a change in progress (R263): the phase it shows, and the cross-fade samples still to
come. `e` is its window end in ns. -/
def changeStep (d : ChainDecl) (c : ChainMirror) (e : Int) : ChainMirror :=
  match c.changedAt with
  | none => { c with phase := 0, fade := 0 }
  | some t =>
    if e ≤ t then { c with phase := 3, fade := d.fade }
    else
      let b := c.boundary.getD e
      let period := ((chainPeriod d / 2 ^ 32 : Nat) : Int)
      let j := roundDiv (e - b) (period.toNat)
      let first := ((chainDelay d + chainPeriod d - 1) / chainPeriod d : Nat)
      let c := { c with boundary := some b }
      if j ≤ 0 then { c with phase := 3, fade := d.fade }
      else if j < (first : Int) then { c with phase := 1, fade := d.fade }
      else
        let k := (j - first + 1).toNat
        if k ≤ d.fade then { c with phase := 2, fade := d.fade - k }
        else { c with phase := 0, fade := 0, changedAt := none, boundary := none }

/-- An invalid sample less than G after the chain's start shows PHASE 0b01 (R262, R264). -/
def startPhase (d : ChainDecl) (ok : Bool) (e : Int) (c : ChainMirror) : ChainMirror :=
  if !ok && c.phase == 0 && c.startedAt.any fun t => decide (t ≤ e ∧ (e - t) * 2 ^ 32 < chainDelay d) then { c with phase := 1 } else c

/-- One committed sample of a chain (R264): an invalid one outside a start or the restart of a change is a range fault or overload. -/
def takeSample (d : ChainDecl) (r : InRecord) (a : ChainMirror × Bool) (k : Nat) : ChainMirror × Bool :=
  let tov : Nat := octets r.payload 4 8 + k * (chainPeriod d / 2 ^ 32)
  let e := (tov : Int) + roundDiv (chainDelay d) (2 ^ 32)
  let ok := sieveValid k r.payload
  let c := startPhase d ok e (changeStep d a.1 e)
  let bad : Bool := !ok && c.phase != 1
  ({ c with origin := r.origin, tov, value := qS 32 (octets r.payload (12 + 4 * k) 4), valid := ok, fault := bad
            setShown := octets r.payload 3 1 % 4 }, a.2 || bad)

/-- One chain's committed record of the epoch; EV_089 in the first epoch of a run of faulty records (R262). -/
def sieveIntakeOf (n : Nat) (s : State) : State :=
  let d := chainDecl n s
  if d.mode = 0 then s
  else match sieveRecord d.source s with
    | none => s
    | some r =>
      let c := s.mir.siv.getD n {}
      let x := (List.range (min 4 (octets r.payload 2 1))).foldl (takeSample d r) (c, false)
      let s := if x.2 && !c.faultRun then raiseAt 89 n s else s
      { s with mir := { s.mir with siv := modAt s.mir.siv n fun _ => { x.1 with faultRun := x.2 } } }

/-- Sieve's part of fast work. -/
def sieveIntake (s : State) : State := (List.range 16).foldl (fun s n => sieveIntakeOf n s) s

/-! ## Burden (R460) -/

/-- More than 28 mA opens the burden for 1 s; the input reads as a range fault meanwhile. -/
def execBurdenOvercurrent (n currentUa : Nat) (s : State) : Host.Outcome State Fault Refusal :=
  .next (if clockRuns s ∧ (chainDecl n s).current ∧ (chainDecl n s).mode ≠ 0 ∧ 28000 < currentUa then
      { s with siv := { s.siv with chains := modAt s.siv.chains n fun c => { c with burdenCut := true, burdenFor := 0 } } }
    else s)

/-- The burden connects again after 1 s: 2000 epochs. -/
def execBurdenReconnect (n : Nat) (s : State) : Host.Outcome State Fault Refusal :=
  .next { s with siv := { s.siv with chains := modAt s.siv.chains n fun c =>
    { c with burdenCut := c.burdenCut && decide (c.burdenFor < 2000) } } }

end Sys2Proof.Machine
end

