-- ==== Sys2Proof/Machine/FastWork.lean ====
section
/-! DEFINITION. Fast work (R49, R151): what a unit computes between E+80 µs and E+300 µs from the committed set. -/

namespace Sys2Proof.Machine

/-- The pair votes on operator commands: both units validate (R322, R58). -/
def pairVotes (s : State) : Bool := isMirrored s && (s.pair.phase == .audit || s.pair.phase == .mirrored)

/-- EV_091 ends when a heading is there again (R213). -/
def headingReturn (s : State) : State := if s.mir.wsk.hdg.lost then s else clearEvent 91 s

/-- Whisk, its consumers that follow it directly, and the inputs of the field buses, Trivet, GNSS and Sieve. -/
def intake (s : State) : State := sieveIntake (gnssIntake (fieldIntake (combineInputs (advanceEstimate s))))

/-- Step 1 of R151 with the function changes that its results force (R81, R185, R188, R292). -/
def fusionStep (s : State) : State := berthContact (headingReturn (joystickEvent (forcedChanges (captureFused (whisk s)))))

/-- Steps 2 and 3 of R151. -/
def estimationStep (s : State) : State := modelStep (estimatorStatus (estimatorUpdate s))

/-- Step 4 of R151. Causes found after the first allocation of a STANDBY exclude a unit from the next epoch (R179). The safety functions trip
before the epoch's commands are validated (R344, R345). -/
def commandStep (s : State) : State :=
  let first := !s.mir.alc.begun
  let before := s.mir.alc.units
  let s := allocationStep (advanceTrack (rampPush s))
  let s := if first then s else removalCauses s
  endTest before (safetyTrips (safetyFunctions s))

/-- A unit whose pair does not vote decides each command by its own validation (R59, R384). -/
def decideAlone (s : State) : State :=
  if pairVotes s then s
  else s.ex.commands.foldl (fun s c => decideCommand (c.verdict.getD 0x09) c.detail c s) s

/-- The fast work of an epoch. -/
def fastWork (s : State) : State :=
  let s := decideAlone (validateCommands (sampleWindow (commandStep (estimationStep (fusionStep (intake s))))))
  { s with ex := { s.ex with fastDone := true } }

/-- Between E+80 µs and E+300 µs, once an epoch, in a unit that runs fast work (R151, R322). -/
def execFastWork (s : State) : Host.Outcome State Fault Refusal :=
  .next (if runsFastWork s ∧ ¬ s.ex.fastDone then fastWork s else s)

/-- Fast work is not complete at E+300 µs (R49, R50): EV_104, the overrun marker, HOLD at the next E+0 µs. -/
def execFastWorkOverrun (s : State) : Host.Outcome State Fault Refusal :=
  .next (if runsFastWork s ∧ ¬ s.ex.fastDone ∧ ¬ s.ex.overrun then
      findFault 4 (raise 104 { s with ex := { s.ex with overrun := true, emit := false } })
    else s)

/-! ## Digests and emission (R49 to R51) -/

/-- A standby unit that runs no fast work sends zero digests and no votes (R50); a unit whose fast work is not complete sends the
overrun marker in their place (R49). -/
def digestBody (s : State) : DigestBody :=
  if joining s then ⟨false, s.pair.phase, 0, 0, []⟩
  else if s.ex.overrun || !s.ex.fastDone then ⟨true, s.pair.phase, 0, 0, []⟩
  else ⟨false, s.pair.phase, s.ex.cmdDigest, s.ex.commitDigest, if pairVotes s then votesOf s else []⟩

/-- Basis records of the epoch (R111): the plan and the cases only where they run (R63). -/
def takeBasis (s : State) : State :=
  if foresightMode s.um.mode then takeBasisRecords s else baTakeBasis s

/-- At E+300 µs: digests, basis records, digest frame (R49, R111). A unit that a fatal error has stopped sends none (R24). -/
def execDigestSend (s : State) : Host.Outcome State Fault Refusal :=
  .next (if timerRuns s ∧ commits s.um.mode ∧ ¬ s.ex.digestSent ∧ ¬ s.ex.stopped then
      let s := if runsFastWork s && s.ex.fastDone then
          takeBasis { s with ex := { s.ex with cmdDigest := commandDigestOf s, commitDigest := commitDigestOf s } }
        else s
      let s := { s with ex := { s.ex with digestSent := true } }
      if isPair s && s.um.role != .none then send (.digest (digestBody s)) s else s
    else s)

/-- An epoch of divergence (R326). -/
def countDivergence (s : State) : State :=
  { s with mir := { s.mir with pair := { s.mir.pair with divergences := bump 16 s.mir.pair.divergences } } }

/-- The partner's digest frame of the epoch, unless the partner is a standby in JOIN, COPY or SETTLE (R50). -/
def heldDigest (s : State) : Option DigestBody :=
  s.ex.partnerDigest.filter fun d => !(s.um.role == .active && (d.phase == .join || d.phase == .copy || d.phase == .settle))

/-- The comparison of R50: events, muting, arbitration, resynchronisation. -/
def compareDigests (d : DigestBody) (s : State) : State :=
  let cmd := d.command == s.ex.cmdDigest
  let com := d.commit == s.ex.commitDigest
  let s := if cmd && com then s else countDivergence s
  let s := if com then s else raise 121 s
  if cmd then (if com then s else { s with ex := { s.ex with resyncDue := true } })
  else
    let s := raise 120 s
    { s with ex := { s.ex with arbitration := true, emit := s.ex.emit && s.um.role == .active } }

/-- A difference fails the attempt of a standby unit in AUDIT (R322, R323). -/
def auditFails (d : DigestBody) (s : State) : State :=
  if s.um.role = .standby ∧ s.pair.phase = .audit ∧ (d.command ≠ s.ex.cmdDigest ∨ d.commit ≠ s.ex.commitDigest) then
    { s with pair := { s.pair with auditDiff := true } }
  else s

/-- A standby unit that has received the active unit's overrun marker takes the active role at the next E+0 µs (R50). -/
def takeOverrun (s : State) : State :=
  if s.um.role = .standby then { s with ex := { s.ex with roleDue := some 4 } } else s

/-- What the partner's frame decides (R50): frames from a standby in JOIN, COPY or SETTLE apart, whatever the pair's phase is. A unit that has
no digests of its own, as it joins or has overrun, compares none; one in JOIN, whose epochs are still its own, misses no frame (log 36). -/
def judgePartner (s : State) : State :=
  match s.ex.partnerDigest with
  | none => if joining s && s.pair.phase == .join then s else raise 38 s
  | some _ =>
    match heldDigest s with
    | none => s
    | some d =>
      if d.overrun then takeOverrun s
      else if joining s || s.ex.overrun || !s.ex.fastDone then s
      else auditFails d (compareDigests d s)

/-- The partner voted to accept (R58). -/
def partnerAccepts (c : Command) (s : State) : Bool :=
  match heldDigest s with
  | some d => !d.overrun && d.votes.contains ⟨c.id, true⟩
  | none => false

/-- Status of a command from both votes (R384). -/
def voteStatus (c : Command) (s : State) : Nat :=
  match c.verdict with
  | some 0 => if partnerAccepts c s then 0 else 0x09
  | some v => v
  | none => 0x09

/-- Both votes decide the commands of the epoch (R58, R384). -/
def decideTogether (s : State) : State :=
  if pairVotes s then s.ex.commands.foldl (fun s c => decideCommand (voteStatus c s) c.detail c s) s else s

/-- The unit would emit in this epoch: its mode emits, nothing has stopped it, its fast work is done, and it is the active unit, a mirrored
standby, or a unit without a role (R24, R50, R63, R275, R319, R322). -/
def mayEmit (s : State) : Bool :=
  emitMode s.um.mode && !s.ex.stopped && s.ex.fastDone && !s.ex.overrun && (match s.um.role with
    | .active => true
    | .standby => s.pair.phase == .mirrored
    | .none => true)

/-- A unit of a pair that holds a role and runs fast work or joins decides from the partner's digest frame (R50). -/
def takesDigests (s : State) : Bool := isPair s && s.um.role != .none && (runsFastWork s || joining s)

/-- At E+340 µs (R50). -/
def execEmissionDecision (s : State) : Host.Outcome State Fault Refusal :=
  .next (if timerRuns s ∧ commits s.um.mode ∧ ¬ s.ex.decided then
      let s := { s with ex := { s.ex with emit := mayEmit s, decided := true } }
      let s := if takesDigests s then judgePartner s else s
      decideTogether s
    else s)

/-- The re-run of the epoch's fast work (R51): it starts from the mirrored state saved at E+80 µs and uses the committed set of the
epoch; its command digest. -/
def rerunDigest (s : State) : Nat :=
  match s.saved with
  | some m => commandDigestOf (fastWork { s with mir := m, ex := { s.ex with fastDone := false } })
  | none => s.ex.cmdDigest

/-- At E+460 µs each unit of an arbitration sends whether its re-run gave the digest that it sent (R51). `upset` are the bits in which
a hardware fault makes the unit's two computations differ: 0 without one (log 151). -/
def execArbitrationOutcomeSend (upset : Nat) (s : State) : Host.Outcome State Fault Refusal :=
  .next (if s.ex.arbitration then
      let ok := (rerunDigest s ^^^ upset) == s.ex.cmdDigest
      send (.outcome ok) { s with ex := { s.ex with rerun := some ok } }
    else s)

/-- The table of R51: what the outcomes of the active unit and of the standby unit mean for this unit. -/
def arbitrate (act sby : Bool) (s : State) : State :=
  let isActive := s.um.role == .active
  match act, sby with
  | true, true => { s with ex := { s.ex with resyncDue := true } }
  | false, true =>
    let s := raise 122 s
    if isActive then findFault 6 s else { s with ex := { s.ex with roleDue := some 3 } }
  | _, false => if isActive then s else findFault 6 s

/-- At E+480 µs (R51). -/
def execArbitrationDecision (s : State) : Host.Outcome State Fault Refusal :=
  .next (if s.ex.arbitration then
      let s := { s with ex := { s.ex with arbitration := false } }
      match s.ex.rerun, s.ex.partnerRerun with
      | some own, some other => if s.um.role = .active then arbitrate own other s else arbitrate other own s
      | _, _ => { s with ex := { s.ex with resyncDue := true } }
    else s)

end Sys2Proof.Machine
end

