-- ==== Sys2Proof/Machine/Supply.lean ====
section
/-! DEFINITION. Supply, oscillator, temperature, key socket, station and service links (chapters 1, 4, 19, 23; R27, R103, R104,
R402, R405, R449 to R451, R468). Thresholds are taken at the edge of the tolerance the manual gives them. -/

namespace Sys2Proof.Machine

def modSup (f : Supply → Supply) (s : State) : State := { s with sup := f s.sup }

/-! ## The input bus (R450) -/

/-- 16.0 V + 0.2 V; 16.5 V − 0.2 V, in uQ8.8. -/
def busWarnMax : Nat := 4147
def busClearMin : Nat := 4173

/-- The input bus falls below 16.0 V: EV_000. -/
def execBusWarning (volts : Nat) (s : State) : Host.Outcome State Fault Refusal :=
  .next (if timerRuns s ∧ volts ≤ busWarnMax then raise 0 (modSup (fun u => { u with bus := volts, warn := true }) s) else s)

/-- It rises above 16.5 V. -/
def execBusWarningClear (volts : Nat) (s : State) : Host.Outcome State Fault Refusal :=
  .next (if timerRuns s ∧ busClearMin ≤ volts then clearEvent 0 (modSup (fun u => { u with bus := volts, warn := false }) s) else s)

/-! ## The inputs (R449, R450) -/

/-- EV_001 and EV_002 stand while their input is absent or disconnected for overvoltage. -/
def inputEvents (s : State) : State :=
  condition 2 (s.sup.bAbsent || s.sup.bCut) (condition 1 (s.sup.aAbsent || s.sup.aCut) s)

def setAbsent (p : Side) (b : Bool) (s : State) : State :=
  modSup (fun u => match p with
    | .one => { u with aAbsent := b }
    | .two => { u with bAbsent := b }) s

def setCut (p : Side) (b : Bool) (s : State) : State :=
  modSup (fun u => match p with
    | .one => { u with aCut := b }
    | .two => { u with bCut := b }) s

/-- 88 V − 2 V; 84 V + 2 V, in uQ8.8. -/
def overvoltMin : Nat := 22016
def reconnectMax : Nat := 22016

/-- An input's measured voltage; its epochs below 16.0 V; its epochs above 88 V (log 148). -/
def inputVolts (p : Side) (s : State) : Nat :=
  match p with
  | .one => s.sup.pwrA
  | .two => s.sup.pwrB
def inputLow (p : Side) (s : State) : Nat :=
  match p with
  | .one => s.sup.aLow
  | .two => s.sup.bLow
def inputHigh (p : Side) (s : State) : Nat :=
  match p with
  | .one => s.sup.aHigh
  | .two => s.sup.bHigh

/-- An input has been below 16.0 V in each of 200 epochs (R404, R450). -/
def execInputAbsent (p : Side) (s : State) : Host.Outcome State Fault Refusal :=
  .next (if timerRuns s ∧ 200 ≤ inputLow p s then inputEvents (setAbsent p true s) else s)

/-- It has risen above 16.5 V. -/
def execInputReturn (p : Side) (s : State) : Host.Outcome State Fault Refusal :=
  .next (if timerRuns s ∧ busClearMin ≤ inputVolts p s then inputEvents (setAbsent p false s) else s)

/-- An input above 88 V for longer than 100 ms (200 epochs) is disconnected, and counts as absent. -/
def execOvervoltageDisconnect (p : Side) (s : State) : Host.Outcome State Fault Refusal :=
  .next (if timerRuns s ∧ 200 < inputHigh p s then inputEvents (setCut p true s) else s)

/-- It reconnects below 84 V. -/
def execOvervoltageReconnect (p : Side) (s : State) : Host.Outcome State Fault Refusal :=
  .next (if timerRuns s ∧ inputVolts p s ≤ reconnectMax then inputEvents (setCut p false s) else s)

/-- The hold-up store is charged (R451). -/
def execHoldupReady (s : State) : Host.Outcome State Fault Refusal :=
  .next (if s.um.inReset then s else modSup (fun u => { u with holdup := true }) s)

/-! ## The oscillator (R27) -/

/-- The OCXO has reached its operating temperature: EV_004 ends. It has a supply state of its own, so a reset does not matter. -/
def execOcxoStable (s : State) : Host.Outcome State Fault Refusal :=
  .next (clearEvent 4 { s with sup := { s.sup with stable := true }, time := { s.time with ocxoStable := true } })

/-- It has not 300 s after power was applied: EV_004. -/
def execOcxoWarmupOverdue (s : State) : Host.Outcome State Fault Refusal :=
  .next (if timerRuns s ∧ ¬ s.sup.stable ∧ 300 ≤ s.sup.warmS then raise 4 s else s)

/-! ## Temperature (R402, R468): sQ7.8 °C -/

/-- 80 °C − 2 °C and 90 °C − 2 °C: the lowest trips. 3 °C below the thresholds plus 2 °C: the highest readings that clear. -/
def tempWarnMin : Int := 19968
def tempLimitMin : Int := 22528
def tempWarnClear : Int := 20224
def tempLimitClear : Int := 22784

/-- The base plate is above 80 °C: EV_008. -/
def execTemperatureWarning (base : Int) (s : State) : Host.Outcome State Fault Refusal :=
  .next (if timerRuns s ∧ tempWarnMin ≤ base then raise 8 (modSup (fun u => { u with base := some base, tempWarn := true }) s) else s)

/-- Above 90 °C: EV_029, and nothing else. -/
def execTemperatureLimit (base : Int) (s : State) : Host.Outcome State Fault Refusal :=
  .next (if timerRuns s ∧ tempLimitMin ≤ base then raise 29 (modSup (fun u => { u with base := some base, tempLimit := true }) s) else s)

/-- It has fallen 3 °C below a threshold: the event of that threshold clears. -/
def execTemperatureFall (base : Int) (s : State) : Host.Outcome State Fault Refusal :=
  .next (if timerRuns s then
      let s := modSup (fun u => { u with base := some base }) s
      let s := if base ≤ tempLimitClear then clearEvent 29 (modSup (fun u => { u with tempLimit := false }) s) else s
      if base ≤ tempWarnClear then clearEvent 8 (modSup (fun u => { u with tempWarn := false }) s) else s
    else s)

/-! ## The KEY socket (R103, R104) -/

/-- `n` removals or insertions after LOAD: EV_014, CHANGES. -/
def reportKey (n : Nat) (s : State) : State :=
  if n = 0 then s
  else raise 14 (modSup (fun u => { u with keyChanges := min (u.keyChanges + n) 0xFFFF, keyDue := 0 }) s)

/-- The presence contact has held its new state for so many epochs: a change when they are 200 (R103). After LOAD EV_014 is raised and nothing else changes; between the
key reading and the end of LOAD the report waits for the entry to SELFTEST. -/
def execKeyPresenceChange (seated : Bool) (heldEpochs : Nat) (s : State) : Host.Outcome State Fault Refusal :=
  .next (if timerRuns s ∧ seated ≠ s.sup.keyPresent ∧ 200 ≤ heldEpochs then
      let s := modSup (fun u => { u with keyPresent := seated }) s
      if s.um.mode ≠ .load then reportKey 1 s
      else if s.um.loaded then modSup (fun u => { u with keyDue := u.keyDue + 1 }) s
      else s
    else s)

/-! ## Station and service links (R405) -/

/-- EV_054 for STN_1, EV_055 for STN_2. -/
def stationEvent : Side → Nat
  | .one => 54
  | .two => 55

def setStation (p : Side) (l : LinkState) (s : State) : State :=
  modSup (fun u => match p with
    | .one => { u with stn1 := l }
    | .two => { u with stn2 := l }) s

/-- A station port is down, or negotiates anything but 1000 Mbit/s full duplex: its event stands from SELFTEST onwards. -/
def execStationLinkDown (p : Side) (s : State) : Host.Outcome State Fault Refusal :=
  .next (if timerRuns s then
      let s := setStation p .down s
      if s.um.mode = .load then s else raise (stationEvent p) s
    else s)

/-- It is up. -/
def execStationLinkUp (p : Side) (s : State) : Host.Outcome State Fault Refusal :=
  .next (if timerRuns s then clearEvent (stationEvent p) (setStation p .up s) else s)

/-- EV_062 is active while SVC is up. A link that comes up in BOOT or RECOVERY raises it when the firmware starts. -/
def execSvcLinkUp (s : State) : Host.Outcome State Fault Refusal :=
  .next (if s.um.inReset then s
    else
      let s := modSup (fun u => { u with svcUp := true }) s
      if timerRuns s then raise 62 s else s)

def execSvcLinkDown (s : State) : Host.Outcome State Fault Refusal :=
  .next (if s.um.inReset then s
    else
      let s := modSup (fun u => { u with svcUp := false }) s
      if timerRuns s then clearEvent 62 s else s)

/-- Frames with a failed FCS on the three ports: more than 100 in 2000 epochs raise EV_060. -/
def execStationFrameErrors (frames : Nat) (s : State) : Host.Outcome State Fault Refusal :=
  .next (if timerRuns s then
      let l := match s.sup.frameErrs with
        | n :: r => (n + frames) :: r
        | [] => [frames]
      let s := modSup (fun u => { u with frameErrs := l, frameErr := min (u.frameErr + frames) 0xFF }) s
      if 100 < l.sum then raise 60 s else s
    else s)

end Sys2Proof.Machine
end

