-- ==== Sys2Proof/Machine/Epoch.lean ====
section
/-! DEFINITION. The epoch (chapter 2): cut-off, exchange, commitment, slow-work slices, snapshot, recorder, and the
decisions of E+0 µs (R66, R71, R317 to R323). -/

namespace Sys2Proof.Machine

/-! ## E+0 µs: the end of the epoch before -/

/-- Epochs in STANDBY or ACTIVE without emission are counted (R284). -/
def countMuted (s : State) : State :=
  if emitMode s.um.mode ∧ ¬ s.ex.emitted then { s with rng := { s.rng with muted := bump 16 s.rng.muted } } else s

/-- Half a millisecond of operating time passes, which holds at 2⁴⁰ − 1 (R359), and of the time since power was applied, whose whole
seconds WARM_S shows until the OCXO is stable (R404). -/
def advanceOpTime (s : State) : State :=
  let n := s.sup.powered + 1
  { s with
    log := { s.log with opHalf := !s.log.opHalf, opTime := if s.log.opHalf then bump 40 s.log.opTime else s.log.opTime }
    sup := { s.sup with powered := n, warmS := if s.sup.stable then s.sup.warmS else min 0xFFF (n / 2000) } }

/-- Ages of sessions, holds and notifications (R377, R57, R387). -/
def ageHap (s : State) : State :=
  let note (n : Notification) : Notification := { n with age := n.age + 1 }
  let ses (x : Session) : Session := { x with idle := x.idle + 1, notes := x.notes.map note }
  let hold (h : Hold) : Hold := { h with age := h.age + 1 }
  modHap (fun h => { h with sessions := h.sessions.map ses, holds := h.holds.map hold }) s

/-- Windows of 2000 epochs and ages of the ports (R282, R306, R405). -/
def agePorts (s : State) : State :=
  let port (p : SerialPort) : SerialPort := { p with errors := (p.errorsNow :: p.errors).take 1999, errorsNow := 0 }
  let s := closeEvidence s
  { s with
    siv := { s.siv with chains := s.siv.chains.map fun c => { c with burdenFor := if c.burdenCut then c.burdenFor + 1 else c.burdenFor } }
    fld := { s.fld with buses := s.fld.buses.map fun c => { c with recoveries := c.recoveries.map (· + 1) }
                        ports := s.fld.ports.map port, serialAge := s.fld.serialAge.map fun x => (x.1, x.2 + 1) }
    sup := { s.sup with frameErrs := (0 :: s.sup.frameErrs).take 2000, eccs := (0 :: s.sup.eccs).take 2000 } }

/-- Trivet's levels become those of the previous epoch; counts of its channels: epochs since the last off-state test, epochs with PWR_OUT in
range (R349, R337). -/
def ageOutputs (s : State) : State :=
  let ch (c : ChannelLocal) : ChannelLocal := { c with testAge := c.testAge + 1 }
  { s with trv := { s.trv with channels := s.trv.channels.map ch, raw := s.trv.rawNow
                               pwrRun := if pwrInRange s.trv.volts then s.trv.pwrRun + 1 else 0 } }

/-- Everything that ends with an epoch. -/
def closeEpoch (s : State) : State :=
  let s := agePorts (ageHap (ageOutputs (advanceOpTime (countMuted (endMomentary s)))))
  { s with evt := { s.evt with written := [] }, out := [], fab := { s.fab with broken := [] } }

/-! ## E+0 µs: the pair (R315, R317 to R323) -/

/-- Age of an event: 0 when it came in the epoch that ends. -/
def ageOf (now : Bool) (age : Nat) : Nat := if now then 0 else bump 16 age

/-- The evidence of the epoch that ends (R317, R315). -/
def agePair (s : State) : State :=
  let p := s.pair
  let within : Bool := match p.theta with
    | some t => decide (t.natAbs ≤ 60)
    | none => false
  { s with pair := { p with
    tongsAge := ageOf p.tongsNow p.tongsAge, ringAge := ageOf p.ringNow p.ringAge
    activeAge := ageOf p.activeNow p.activeAge, heardAge := bump 16 p.heardAge
    beatRun := if p.tongsBeatNow then p.beatRun + 1 else 0
    tongsNow := false, tongsBeatNow := false, ringNow := false, activeNow := false, copies := [], copiesBefore := p.copies
    ringPath := decide (ageOf p.ringNow p.ringAge < 3), ringActive := decide (ageOf p.activeNow p.activeAge < 3)
    noMeasure := if p.measuredNow then 0 else p.noMeasure + 1
    lockRun := if p.measuredNow && within then p.lockRun + 1 else 0
    thetas := ((if p.measuredNow then (p.theta.map (·.natAbs)).getD 0 else 0) :: p.thetas).take 2000
    phaseEpochs := bump 16 p.phaseEpochs, backoff := p.backoff - 1
    auditRun := if p.phase = .audit ∧ p.auditSeen ∧ p.digestNow ∧ ¬ p.auditDiff then p.auditRun + 1 else 0
    auditSeen := false, digestNow := false, mirrorSent := false, pageCount := 0 } }

/-- EV_042 ends when a ring heartbeat of the partner arrives again (R317); EV_015 of a single unit when no other is heard
any more (R107). -/
def pathReturns (s : State) : State :=
  let s := if s.pair.ringAge < 3 then clearEvent 42 s else s
  if isSingle s ∧ 3 ≤ s.pair.ringAge ∧ 3 ≤ s.pair.tongsAge then clearEvent 15 s else s

/-- The standby unit's row of R318; UNMIRRORED_STANDBY_ENTRY is a row of its own. -/
def standbyDecision (s : State) : State :=
  if s.um.role = .standby ∧ isPair s then
    match standbyChoice s with
    | .takeUnitMode => takeActive 2 s
    | .takePathsLost => takeActive 1 s
    | _ => s
  else s

/-- An unmirrored standby rejoins when the Tongs path returns, unless three attempts have failed (R319, R323). -/
def rejoin (s : State) : State :=
  if s.um.role = .standby ∧ s.pair.phase = .unmirrored ∧ tongsUp s ∧ s.pair.attempts < 3 ∧ matching s then
    startJoin s
  else s

/-- The clear flag of a partner's heartbeat ends mirroring (R319); of one that came in the epoch in which SETTLE began it says nothing, as
it left the partner before (log 146). -/
def clearedNow (s : State) : Bool :=
  phaseMirrored s.pair.phase && s.pair.partnerClear && (s.pair.phase != .settle || decide (2 ≤ s.pair.phaseEpochs))

/-- The phase of the active unit mirrors its partner's (R322): none without a partner, 6 while it hears an unmirrored one,
COPY again with every page unsent when the partner's attempt starts anew (R319, R323). -/
def activePhase (s : State) : State :=
  if s.um.role = .active ∧ isPair s then
    let dst (p : Phase) (s : State) : State := if s.pair.phase = p then s else setPhase p s
    match report s with
    | some h =>
      if h.role != .standby then dst .none s
      else if !tongsUp s then dst .unmirrored s
      else if clearedNow s then
        (if h.phase = .copy then enterCopy s else dst (if h.phase = .join then .join else .unmirrored) s)
      else if h.phase = .unmirrored then dst .unmirrored s
      else if h.phase = .copy ∧ (s.pair.phase = .none ∨ s.pair.phase = .unmirrored) then enterCopy s
      else s
    | none => dst .none s
  else s

/-- A mirrored standby unit that received a Tongs heartbeat with the mirrored flag clear is mirrored no more (R319): it becomes unmirrored,
and resynchronises from the next epoch on while its path is up (log 146). -/
def standbyCleared (s : State) : State :=
  if s.um.role = .standby ∧ clearedNow s then enterUnmirrored s else s

/-- The role decisions of E+0 µs, in their precedence (R317, R318, R320, R321, R71). A unit whose entry to HOLD is due takes
none (R66). -/
def roleDecisions (s : State) : State :=
  if s.ex.holdDue.isSome then s
  else
    let s := standbyCleared (rejoin (standbyDecision (swapRoles (takeRoleDue s))))
    let s := activePhase (twoActive s)
    roleTable s

/-- Timer corrections of a standby unit (R315, R322). -/
def correctTimer (s : State) : State := joinStep s

/-- SETTLE: the pages of the epoch that ends are applied, and the basis records of its slow instances with B > C are taken
(R322). -/
def settlePages (s : State) : State :=
  if s.um.role = .standby ∧ s.pair.phase = .settle then
    let s := applyPages s
    if s.pair.copyEnd.getD 0 < s.ex.epoch then takeBasisRecords s else s
  else s

/-- A standby unit that is not yet mirrored takes the pair mode: from reports in JOIN, from the pages afterwards (R62). -/
def standbyMode (s : State) : State := followPairMode (joinPairMode s)

/-! ## E+0 µs: the input set of the new epoch (R42, R43) -/

/-- The exchange of a new epoch: nothing of it has happened yet. -/
def freshExchange (x : Exchange) : Exchange :=
  { x with
    offered := [], partner := [], ackSent := none, ackRx := none, committed := [], effected := []
    commands := [], fastDone := false, overrun := false, cmdDigest := 0, commitDigest := 0, digestSent := false
    partnerDigest := none, decided := false, emit := false, emitted := false, arbitration := false, rerun := none
    partnerRerun := none, stopped := false }

/-- Order of choice: ingress stamp, then the canonical order (R43). -/
def offerBefore (a b : OwnRecord) : Bool :=
  if a.item.stamp ≠ b.item.stamp then decide (a.item.stamp < b.item.stamp) else canonicalBefore a.item b.item

/-- The records offered: stamped and timed before the cut-off, at most 128 (R42, R43). R43 speaks of one epoch's exchange; that the
128 also bind a unit that commits its own records without exchange (R48) is the model's choice (log 107). -/
def chooseOffers (cut : Nat) (l : List OwnRecord) : List OwnRecord :=
  (sortBy offerBefore (l.filter fun r => decide (r.item.stamp < cut ∧ r.item.tov < cut))).take 128

/-- Records by frames of at most 34 (R311), in at most `n` frames. -/
def framesOf : Nat → List InRecord → List (List InRecord)
  | 0, _ => []
  | n + 1, l => if l.isEmpty then [] else l.take 34 :: framesOf n (l.drop 34)

/-- Record frames go out, numbered within the epoch (R310). -/
def sendRecords (l : List (List InRecord)) (s : State) : State :=
  (mapAt l fun i f => (i, f)).foldl (fun s f => send (.record f.1 l.length f.2) s) s

/-- A unit in the standby role carries over no epoch-time record (R248). -/
def keptTime (s : State) (l : List OwnRecord) : List OwnRecord :=
  if s.um.role = .standby then l.filter fun r => r.item.source != 0xFFFF || r.offers == 0 else l

/-- The ingress buffers close; a mirrored unit sends its record frames (R41, R44). Where the unit commits no input set, what
the buffers hold is discarded (R471). The partner's committed records are known by identity only while the pair is mirrored: a
partner that restarts numbers its records from 0 again (R45, R47). -/
def offerRecords (s : State) : State :=
  if formsRecords s then
    let s := { s with ex := { s.ex with buffer := keptTime s s.ex.buffer } }
    let l := chooseOffers s.ex.cutoff s.ex.buffer
    let ids := l.map fun r => recordId r.item
    let count (r : OwnRecord) : OwnRecord := if ids.contains (recordId r.item) then { r with offers := r.offers + 1 } else r
    let s := { s with ex := { s.ex with offered := ids, buffer := s.ex.buffer.map count } }
    if isMirrored s then sendRecords (framesOf 128 (l.map (·.item))) s else { s with ex := { s.ex with seen := [] } }
  else { s with ex := { s.ex with offered := [], buffer := [], seen := [] } }

/-- The number of the epoch that begins, and its cut-off. -/
def beginEpoch (s : State) : State :=
  let s := advanceTime (-s.pair.trim) s
  { s with
    ex := { freshExchange s.ex with epoch := epochWrap (s.ex.epoch + 1), cutoff := s.time.counter / 2 ^ 32 }
    fld := { s.fld with releases := [] }
    um := { s.um with roleWait := if s.um.mode = .standby ∧ s.um.role = .none then s.um.roleWait + 1 else s.um.roleWait } }

/-- E+0 µs (R41). `levels` are the Trivet input levels of the sample taken there (R329). -/
def inputCutoff (levels : Nat) (s : State) : State :=
  let s := settlePages (closeEpoch s)
  let s := beginEpoch s
  let s := pathReturns (agePair (panelEpoch s))
  let s := correctTimer (startResync (standbyMode (roleDecisions s)))
  let s := { s with pair := { s.pair with measuredNow := false, partnerClear := false }
                    fld := { s.fld with releases := epochReleases s }
                    mir := { s.mir with epoch := s.ex.epoch } }
  let s := sampleInputs levels s
  offerRecords (closeSieve s.ex.cutoff (boundaryEpoch (followSieve s)))

/-- The epoch timer runs from the entry to LOAD (R398); in BOOT and RECOVERY the operating time goes on alone (R359, log 155). -/
def execInputCutoff (levels : Nat) (s : State) : Host.Outcome State Fault Refusal :=
  .next (if timerRuns s then inputCutoff levels s else if s.um.inReset then s else advanceOpTime s)

/-- A fault found in the epoch before takes the unit to HOLD (R66); after a fatal error EV_011 is raised with it (R365). -/
def execHoldEntry (s : State) : Host.Outcome State Fault Refusal :=
  .next (match s.ex.holdDue with
    | some c =>
      let fatal := transition s.um.mode .hold && s.ex.fatalDue
      let s := enterHold c { s with ex := { s.ex with fatalDue := false } }
      if fatal then raise 11 s else s
    | none => s)

/-! ## E+63 µs -/

/-- The acknowledgement names every partner record accepted (R44). -/
def execAcknowledgementSend (s : State) : Host.Outcome State Fault Refusal :=
  .next (if isMirrored s && formsRecords s && s.ex.ackSent.isNone then
      let ids := s.ex.partner.map fun r => recordId r.1
      send (.ack ids) { s with ex := { s.ex with ackSent := some ids } }
    else s)

/-! ## E+80 µs: commitment (R44, R45, R48, R53, R58, R248) -/

/-- Own records of the epoch: those offered. -/
def offeredRecords (s : State) : List InRecord :=
  (s.ex.buffer.filter fun r => s.ex.offered.contains (recordId r.item)).map (·.item)

/-- The input set: in a mirrored pair the own records that the partner's acknowledgement names, and the partner's records
that arrived by E+60 µs and were acknowledged (R44); the own records otherwise (R48). -/
def inputSet (s : State) : List InRecord :=
  if isMirrored s then
    let own := (offeredRecords s).filter fun r => (s.ex.ackRx.getD []).contains (recordId r)
    let other := (s.ex.partner.filter fun r => decide (r.2 ≤ 60000) && (s.ex.ackSent.getD []).contains (recordId r.1)).map (·.1)
    canonical (own ++ other)
  else canonical (offeredRecords s)

/-- Sources of operator commands (R383). -/
def commandSource (n : Nat) : Bool := n == 0xFFE0 || n == 0xFFE1 || n == 0xFFE2

/-- A dropped record: EV_037, and status 0x0E to the station whose command it was (R45, R384). -/
def dropRecord (s : State) (r : OwnRecord) : State :=
  let s := raise 37 s
  if commandSource r.item.source then answerCommand (recordId r.item) 0x0E 0 s.ex.epoch [] s else s

/-- Identities of the partner's committed records, without those that the numbers of a source are about to reach again (R45, R47). -/
def noteSeen (theirs seen : List RecordId) : List RecordId :=
  theirs ++ seen.filter fun e => !theirs.any fun n => staleCopy n e

/-- The set is committed; other records are carried over, or dropped after four offers (R45). No acknowledgement by now raises EV_036
in a mirrored pair (R44). -/
def commitRecords (s : State) : State :=
  let s := if isMirrored s && s.ex.ackRx.isNone then raise 36 s else s
  let set := inputSet s
  let ids := set.map recordId
  let left := keptTime s (s.ex.buffer.filter fun r => !ids.contains (recordId r.item))
  let gone := left.filter fun r => decide (4 ≤ r.offers)
  let theirs := (set.filter fun r => r.origin != s.um.unit).map recordId
  let s := { s with
    ex := { s.ex with committed := set, buffer := left.filter (fun r => decide (r.offers < 4)), seen := noteSeen theirs s.ex.seen }
    dmp := { s.dmp with history := (s.dmp.history ++ [(s.ex.epoch, set)]).drop (s.dmp.history.length + 1 - 64) } }
  gone.foldl dropRecord s

/-- The committed epoch-time record of this epoch (R248); its payload names its epoch. -/
def epochTimeRecord (s : State) : Option InRecord :=
  (committedOf 0xFFFF s).find? fun r => octets r.payload 25 6 == s.ex.epoch

/-- The time state of the epoch: the record's, or extrapolated by 500 000 ns (R248). EV_005 follows it, and EV_006 comes from
it, in a mirrored pair. -/
def commitTime (s : State) : State :=
  let old := s.mir.tim
  let s := match epochTimeRecord s with
    | some r =>
      let s := { s with mir := { s.mir with tim := timeOfPayload r.payload } }
      (match stepOfPayload r.payload with
      | some d => raiseWith 6 0xFFFFFFFF 0 d s
      | none => s)
    | none => { s with mir := { s.mir with tim := { old with cutoff := old.cutoff + 500000, extrap := true } } }
  holdoverEvent s

/-- Commands committed in the epoch (R58, R383): slot, address and words of their payload. -/
def commandOf (epoch : Nat) (r : InRecord) : Command :=
  let n := octets r.payload 5 1
  { id := recordId r, source := r.source, slot := octets r.payload 4 1, addr := octets r.payload 0 4
    words := (bytesWords (r.payload.drop 8)).take n, epoch }

/-- The commands of the epoch, for its fast work. -/
def takeCommands (s : State) : State :=
  let l := (s.ex.committed.filter fun r => commandSource r.source).map (commandOf s.ex.epoch)
  { s with ex := { s.ex with commands := l } }

/-- The commands accepted in the epoch before take effect, in canonical order (R58). -/
def applyDue (s : State) : State :=
  let now := s.ex.due.filter fun c => c.epoch != s.ex.epoch
  now.foldl (fun s c => takeEffect c s) { s with ex := { s.ex with due := s.ex.due.filter fun c => c.epoch == s.ex.epoch } }

/-- The unit-local writes accepted in the epoch before take effect (R385). -/
def applyLocalDue (s : State) : State :=
  let now := s.hap.localDue.filter fun x => x.2.2.1 != s.ex.epoch
  now.foldl (fun s x => applyLocalWrite x s) (modHap (fun h => { h with localDue := h.localDue.filter fun x => x.2.2.1 == s.ex.epoch }) s)

/-- Slow work runs: with fast work, and in a standby unit's SETTLE (R322). -/
def runsSlowWork (s : State) : Bool :=
  runsFastWork s || (timerRuns s && commits s.um.mode && s.um.role == .standby && s.pair.phase == .settle)

/-- The slow results due in the epoch commit; one that is late is withheld: EV_105, HOLD (R53, R54). -/
def commitSlowWork (late : List SlowJob) (s : State) : State := if runsSlowWork s then commitSlow late s else s

/-- The flags that show one epoch's work start at zero (R128, R169). -/
def clearFlags (s : State) : State :=
  { s with mir := { s.mir with
      est := { s.mir.est with skipped := false, updated := false }
      mrt := { s.mir.mrt with status := 0 } } }

/-- E+80 µs (R44). `late`: slow results that are not physically complete. The mirrored state is saved for a re-run (R51). -/
def inputCommit (late : List SlowJob) (s : State) : State :=
  let s := commitTime (clearFlags (commitRecords s))
  let s := commitSlowWork late (applyDue s)
  let s := applyLocalDue (takeCommands s)
  { s with saved := some s.mir }

/-- In every epoch in which the unit commits input sets (R471); elsewhere unit-local commands take effect (R385), and the operator
commands that the unit accepted before it left those epochs (R58). -/
def execInputCommit (late : List SlowJob) (s : State) : Host.Outcome State Fault Refusal :=
  .next (
    let s := { s with fab := { s.fab with moving := none } }
    if formsRecords s then inputCommit late s else if timerRuns s then applyLocalDue (applyDue s) else s)

/-! ## E+350 µs to E+490 µs -/

/-- Pages and audit digests of the active unit, as they stand after the fast work (R322, R311); then a slow-work slice (R134). -/
def execSlowWorkSlice (s : State) : Host.Outcome State Fault Refusal :=
  .next (
    let s := sendMirror s
    if runsSlowWork s then runSlices s else s)

/-! ## E+400 µs (R55, R248) -/

/-- PROGRESS of LOC_UPD_STATE while an operation runs: the manual gives no rate, so it is a free value of 0 to 48 (log 3). -/
def takeProgress (s : State) : State :=
  if s.upd.state = 1 ∨ s.upd.state = 3 ∨ s.upd.state = 7 then
    let d := drawFree s
    { d.2 with upd := { d.2.upd with progress := d.1 % 49 } }
  else s

/-- One more epoch of a run, or its end. -/
def countRun (on : Bool) (n : Nat) : Nat := if on then n + 1 else 0

/-- The readings that the slow processor shows in the unit-local page (R404, R265, R349, R150, R392). -/
def takeReadings (r : Readings) (s : State) : State :=
  let s := takeProgress s
  readAntennas r.antennaMa { s with
    sup := { s.sup with
      pwrA := r.pwrA, pwrB := r.pwrB, bus := r.bus, power := r.power, base := r.tempBase, asic := r.tempAsic
      aLow := countRun (decide (r.pwrA ≤ busWarnMax)) s.sup.aLow, bLow := countRun (decide (r.pwrB ≤ busWarnMax)) s.sup.bLow
      aHigh := countRun (decide (overvoltMin ≤ r.pwrA)) s.sup.aHigh, bHigh := countRun (decide (overvoltMin ≤ r.pwrB)) s.sup.bHigh }
    trv := { s.trv with volts := r.pwrOut }
    siv := { s.siv with
      rangeFault := bitSet ((List.range 16).filter fun n => let c := s.siv.chains.getD n {}; c.ranged || c.burdenCut)
      overload := r.overloads % 65536 }
    hap := { s.hap with queue := s.hap.queue - r.served }
    fab := { s.fab with peak := r.peak, stalls := r.stalls } }

/-- The epoch-time record of the next epoch (R248), formed by the unit whose count it is: not by a standby unit of a mirrored
pair. Its payload ends with the number of that epoch. -/
def formTimeRecord (s : State) : State :=
  if formsRecords s && !followsPair s then
    let now := counterAt 400 s
    let c := cutoffNext (-s.pair.trim) s
    let s := ingest 0xFFFF now now false (timePayload c s ++ beBytes 6 (epochWrap (s.ex.epoch + 1))) s
    { s with time := { s.time with stepNews := none } }
  else s

/-- The snapshot of the epoch is published (R55). -/
def execSnapshotPublish (r : Readings) (s : State) : Host.Outcome State Fault Refusal :=
  .next (if timerRuns s then
      let s := takeReadings r s
      let s := modHap (fun h => { h with snap := some (publishedSnapshot s) }) s
      formTimeRecord s
    else s)

/-- Publication is not complete by E+500 µs: the snapshot before stays current and the skip is counted (R55). -/
def execSnapshotSkip (s : State) : Host.Outcome State Fault Refusal :=
  .next (if timerRuns s then modHap (fun h => { h with skips := bump 16 h.skips }) s else s)

/-! ## E+500 µs (R360, R386) -/

/-- The records due are notified and written; what a lost notification raises is notified and written with them, and EV_018 is notified
when the recorder fills (R361). -/
def execRecorderWrite (s : State) : Host.Outcome State Fault Refusal :=
  .next (
    let first := s.evt.due
    let s := notifyAll (s.evt.written ++ dueOrder first) s
    let more := s.evt.due.drop first.length
    let s := notifyAll (dueOrder more) s
    let s := writeDue { s with evt := { s.evt with written := [] } }
    let s := notifyAll s.evt.written s
    { s with evt := { s.evt with written := [] } })

end Sys2Proof.Machine
end

