-- ==== Sys2Proof/Machine/Kettle.lean ====
section
/-! DEFINITION. Kettle's slices, manual actions and the tile-loss switch (chapters 6 and 21; R144 to R147, R420 to R430), and
errors in memory (R30, R31). -/

namespace Sys2Proof.Machine

def modKtl (f : Kettle → Kettle) (s : State) : State := { s with ktl := f s.ktl }

/-! ## Verdicts (R427, R434) -/

/-- LOC_KTL_LAST and EV_009 with the item and the code of R427. Findings of the start-up test come from different instants, so
each falls due though EV_009 is ACTIVE. -/
def kettleFailure (kind item code : Nat) (start retired : Bool) (s : State) : State :=
  let s := modKtl (fun k => { k with failKind := kind, failStart := start, failRetired := retired, failItem := item
                                     failCount := bump 16 k.failCount }) s
  if start then addDue ⟨9, 1, item, code, 0⟩ (setRaised 9 s) else raiseWith 9 item code 0 s

/-- The variant changes at the next E+0 µs (R145). -/
def requestVariant (v : Option Nat) (s : State) : State := { s with fab := { s.fab with variantDue := some v } }

/-- Skillet k fails a test in operation (R146, R147): the first is marked and left out; another is the loss of a second
Skillet. -/
def skilletFails (k : Nat) (s : State) : State :=
  let s := kettleFailure 0 k 1 false false s
  if s.fab.marked.contains k then s
  else if s.fab.marked.isEmpty then
    let s := { s with fab := { s.fab with marked := [k], test := none } }
    if s.fab.variant = some k then s else requestVariant (some k) s
  else findFault 9 s

/-- The first spare that is neither used nor withdrawn: 252 or 253 (R421). -/
def freeSpare (s : State) : Option Nat :=
  if !s.ktl.used0 && !s.ktl.withdrawn0 then some 252
  else if !s.ktl.used1 && !s.ktl.withdrawn1 then some 253
  else none

/-- The slice that a spare in use holds. -/
def heldBy (spare : Nat) (s : State) : Option Nat :=
  if spare = 252 ∧ s.ktl.used0 then some s.ktl.slice0
  else if spare = 253 ∧ s.ktl.used1 then some s.ktl.slice1
  else none

/-- A spare in use that fails holds nothing any more. -/
def dropSpare (spare : Nat) (s : State) : State :=
  modKtl (fun k => if spare = 252 then { k with used0 := false, withdrawn0 := true, slice0 := 0 }
                   else { k with used1 := false, withdrawn1 := true, slice1 := 0 }) s

/-- A spare is withdrawn from the pool. -/
def withdrawSpare (spare : Nat) (s : State) : State :=
  modKtl (fun k => if spare = 252 then { k with withdrawn0 := true } else { k with withdrawn1 := true }) s

/-- Slice n takes its place in a spare. -/
def useSpare (spare n : Nat) (s : State) : State :=
  modKtl (fun k => if spare = 252 then { k with used0 := true, slice0 := n } else { k with used1 := true, slice1 := n }) s

/-- The region of a slice can be retired to a spare. -/
def retirable (n : Nat) : Bool := decide (160 ≤ n) && decide (n ≤ 251)

/-- A failing slice in operation (R421, R427): a tile store fails its Skillet; an unused spare is withdrawn; a used one fails as
the slice it holds; a retirable slice is retired at the next E+0 µs; anything else is a fatal error. -/
def sliceFails (n : Nat) (s : State) : State :=
  if n < 128 then skilletFails (n / 16) s
  else
    let retire (m : Nat) (s : State) : State :=
      if retirable m ∧ (freeSpare s).isSome then modKtl (fun k => { k with retireDue := some m }) s
      else fatalError 2 1 (kettleFailure 1 m 2 false false s)
    if n = 252 ∨ n = 253 then
      match heldBy n s with
      | some m => retire m (dropSpare n s)
      | none => kettleFailure 1 n 3 false false (withdrawSpare n s)
    else retire n s

/-! ## The fabric variant (R145) -/

/-- The slow instances between their slices, by class and case. -/
def liveRuns (s : State) : List (Nat × Nat) :=
  (if s.slow.plan.isSome then [(4, 0)] else []) ++ (if s.slow.ba.isSome then [(1, 0)] else []) ++
    ((List.range 64).filter fun c => (s.slow.cases.getD c none).isSome).map fun c => (5, c)

/-- The held warm-start sources, by class and case. -/
def heldSources (s : State) : List (Nat × Nat) :=
  let l := s.mir.ldl
  (if l.alcSource.isSome then [(3, 0)] else []) ++ (if l.mpcSource.isSome then [(4, 0)] else []) ++ (if l.baSource.isSome then [(1, 0)] else []) ++
    ((List.range 64).filter fun c => (l.cqaSource.getD c none).isSome).map fun c => (5, c)

/-- Octets of live regions that lie on Skillet k in the 8-tile variant (R145). -/
def liveOctets (k : Nat) (s : State) : Nat :=
  let sum (l : List (Nat × Nat)) (f : Schedule → List Nat) : Nat :=
    (l.map fun p => (f (scheduleOf p.1 false p.2 s)).getD k 0).foldl (· + ·) 0
  sum (liveRuns s) (·.region) + sum (heldSources s) (·.held)

/-- Octets that a change of variant moves: those of the Skillet that leaves and of the one that returns. -/
def movedOctets (v : Option Nat) (s : State) : Nat :=
  let of (x : Option Nat) : Nat := match x with | some k => liveOctets k s | none => 0
  of v + of s.fab.variant

/-- The tile stores after live regions have moved to their places in a variant; what else lay on the Skillet that leaves is gone. -/
def relocated (v : Option Nat) (s : State) : List (List TileWord) :=
  let live := liveRuns s ++ heldSources s
  let isLive (w : TileWord) : Bool := live.contains (w.cls, w.case)
  let place (w : TileWord) : Nat :=
    let p := scheduleOf w.cls false w.case s
    ((p.steps ++ p.extra)[w.seq]?.map (·.skillet v)).getD 0
  let moved := (s.fab.tiles.flatten).filter isLive
  mapAt s.fab.tiles fun k l => (if v = some k then [] else l.filter fun w => !isLive w) ++ moved.filter fun w => place w == k

/-- A manual action that waited begins (R35, R429): code 0x1 takes its Skillet out under R145; while a Skillet is marked it tests by the
known-answer operations of R147 and takes none out. -/
def beginManual (s : State) : State :=
  match s.ktl.manual with
  | some (code, k) =>
    if s.ktl.manualHeld ∧ s.ktl.running.isNone ∧ s.fab.test.isNone ∧ s.fab.variantDue.isNone then
      let s := modKtl (fun x => { x with manualHeld := false }) s
      if code = 1 ∧ s.fab.marked.isEmpty then requestVariant (some k) s else s
    else s
  | none => s

/-- The variant due comes into force at E+0 µs (R145). TEST shows the Skillet that is out of service and not marked (R150). -/
def execVariantChange (s : State) : Host.Outcome State Fault Refusal :=
  .next (match s.fab.variantDue with
    | some v =>
      if v = s.fab.variant then beginManual { s with fab := { s.fab with variantDue := none } }
      else
        beginManual { s with fab := { s.fab with
            variant := v, variantDue := none, moving := some s.fab.variant, switches := bump 32 s.fab.switches, reloc := min (movedOctets v s) 1048576
            tiles := relocated v s, test := v.filter fun k => !s.fab.marked.contains k } }
    | none => s)

/-! ## Opportunities (R422 to R426, R428) -/

/-- Kind and item of rotation position P (R422): 0 Skillet, 1 SRAM, 2 flash. -/
def rotation (p : Nat) : Nat × Nat :=
  let q := p / 4
  match p % 4 with
  | 0 => (0, q % 8)
  | 3 => (2, q % 32)
  | r => (1, 128 + (2 * q + r - 1) % 128)

/-- Place of an item among the counts of R428. -/
def itemIndex (kind item : Nat) : Nat :=
  match kind with
  | 0 => item
  | 1 => 8 + (item - 128)
  | _ => 136 + item

/-- Every item has waited one opportunity more, but for the one taken. -/
def countUntested (taken : Option Nat) (s : State) : State :=
  modKtl (fun k => { k with untested := mapAt k.untested fun i n => if taken = some i then 0 else n + 1 }) s

/-- A Skillet opportunity (R423): the full test out of service, or the known-answer operations while a Skillet is marked, idle
for the marked one itself. For R428 an idle opportunity counts as taken (DEDUCED, log 149). -/
def skilletOpportunity (k : Nat) (directed : Bool) (s : State) : State :=
  if s.fab.marked.contains k then s
  else
    let s := modKtl (fun x => { x with running := some (0, k, s.ex.epoch, directed) }) s
    if s.fab.marked.isEmpty then requestVariant (some k) s else s

/-- The chunk CRC that the boot header recorded for the running bank (R425, R440). -/
def recordedCrc (c : Nat) (s : State) : Nat := (runningBank s).chunks.getD c 0

/-- A flash opportunity (R425): a chunk whose CRC-32C, as it reads from flash, differs from the recorded one makes the running bank
SUSPECT. -/
def flashOpportunity (c : Nat) (chunkCrc : Nat) (s : State) : State :=
  if chunkCrc = recordedCrc c s then s
  else kettleFailure 2 c 4 false false (setBank s.upd.running (fun b => { b with state := .suspect }) s)

/-- POS, KIND and ITEM of the most recent opportunity (R434). -/
def noteOpportunity (kind item : Nat) (s : State) : State :=
  modKtl (fun k => { k with lastPos := k.pos % 256, lastKind := kind, lastItem := item }) s

/-- One slice opportunity: a directed test first, without advancing P; else the item of the rotation. -/
def opportunity (chunkCrc : Nat) (s : State) : State :=
  match s.ktl.directed with
  | k :: rest =>
    let s := modKtl (fun x => { x with directed := rest }) (noteOpportunity 0 k s)
    skilletOpportunity k true (countUntested (some (itemIndex 0 k)) s)
  | [] =>
    let x := rotation s.ktl.pos
    let s := noteOpportunity x.1 x.2 s
    let s := countUntested (some (itemIndex x.1 x.2)) (modKtl (fun k => { k with pos := k.pos + 1 }) s)
    match x.1 with
    | 0 => skilletOpportunity x.2 false s
    | 1 => modKtl (fun k => { k with running := some (1, x.2, s.ex.epoch, false) }) s
    | _ => flashOpportunity x.2 chunkCrc s

/-- An epoch with an opportunity: N mod 200 = 0 in STANDBY, ACTIVE and MAINTENANCE. A manual action pauses the rotation, and its
pauses count for R428. -/
def execKettleOpportunity (chunkCrc : Nat) (s : State) : Host.Outcome State Fault Refusal :=
  .next (if timerRuns s ∧ commits s.um.mode ∧ s.ex.epoch % 200 = 0 then
      (if s.ktl.manual.isSome then countUntested none s
       else opportunity chunkCrc (modKtl (fun k => { k with running := none }) s))
    else s)

/-- A march copies every word of the slice, and so meets a word made faulty by injection (R424, R429, log 128): a correctable one is
corrected and counted, an uncorrectable one fails the march. -/
def marchMeets (n : Nat) (pass : Bool) (s : State) : Bool := pass && !s.ktl.injected.contains (n, true)
def spendInjected (n : Nat) (s : State) : State := modKtl (fun k => { k with injected := k.injected.filter (·.1 != n) }) s

/-- Corrected errors are counted (R30). -/
def countCorrected (slice : Nat) (s : State) : State :=
  let s := if slice < 128 then { s with fab := { s.fab with ecc := bump 32 s.fab.ecc } }
    else { s with sup := { s.sup with eccOther := s.sup.eccOther + 1 } }
  let l := match s.sup.eccs with
    | n :: r => (n + 1) :: r
    | [] => [1]
  let s := { s with sup := { s.sup with eccs := l } }
  if s.cfg.valid ∧ s.cfg.image.eccRate < l.sum then raise 10 s else s

/-- The end of a slice's march: an injected correctable word is counted, and a failing march has its consequence. -/
def endMarch (n : Nat) (pass : Bool) (s : State) : State :=
  let ok := marchMeets n pass s
  let s := if s.ktl.injected.contains (n, false) then countCorrected n s else s
  let s := spendInjected n s
  if ok then s else sliceFails n s

/-- The march of an SRAM slice has ended (R424). -/
def execSramMarchComplete (pass : Bool) (s : State) : Host.Outcome State Fault Refusal :=
  .next (match s.ktl.running with
    | some (1, n, _, _) => beginManual (endMarch n pass (modKtl (fun k => { k with running := none }) s))
    | _ => s)

/-- The next test of the Skillet is made to fail (R429, 0xA). -/
def testPasses (k : Nat) (pass : Bool) (s : State) : Bool := pass && !s.ktl.injectFail.contains k

/-- A Skillet returns by a change to the 8-tile variant, unless one is marked (R146). -/
def returnSkillet (s : State) : State := if s.fab.marked.isEmpty then requestVariant none s else s

/-- The verdict of a Skillet test (R146, R423, R427). -/
def execSkilletTestVerdict (pass : Bool) (s : State) : Host.Outcome State Fault Refusal :=
  .next (match s.ktl.running with
    | some (0, k, _, _) =>
      let ok := testPasses k pass s
      let s := modKtl (fun x => { x with running := none, injectFail := x.injectFail.filter (· != k) }) s
      beginManual (if ok then returnSkillet s else skilletFails k s)
    | _ => s)

/-- A known-answer test fails while one Skillet is marked: the loss of a second (R147). -/
def execKnownAnswerFailure (skillet : Nat) (s : State) : Host.Outcome State Fault Refusal :=
  .next (match s.ktl.running with
    | some (0, k, _, _) =>
      if k = skillet ∧ ¬ s.fab.marked.isEmpty then skilletFails k (modKtl (fun x => { x with running := none }) s) else s
    | _ => s)

/-- At E+0 µs the retired slice's content goes to the first unused spare (R421, R427). -/
def execSliceRetire (s : State) : Host.Outcome State Fault Refusal :=
  .next (match s.ktl.retireDue with
    | some n =>
      let s := modKtl (fun k => { k with retireDue := none }) s
      (match freeSpare s with
      | some spare => kettleFailure 1 n 2 false true (useSpare spare n s)
      | none => fatalError 2 1 (kettleFailure 1 n 2 false false s))
    | none => s)

/-- An item has gone untested for 600 opportunities (R428). -/
def execKettleSliceOverdue (s : State) : Host.Outcome State Fault Refusal :=
  .next (if s.ktl.untested.any fun n => decide (600 ≤ n) then raise 31 s else s)

/-! ## Manual actions (R429) -/

/-- Fault code of a channel that fails a manual off-state test: by its sense nodes; where they read well the test names none,
and the code is one of R335's first four, free (log 3). -/
def manualFault (k : Nat) (s : State) : Nat × State :=
  let c := s.trv.channels.getD k {}
  if c.h then (1, s)
  else if !c.l then (3, s)
  else
    let d := drawFree s
    (1 + d.1 % 4, d.2)

/-- The consequence of a manual action. -/
def manualOutcome (code item : Nat) (pass : Bool) (s : State) : State :=
  match code with
  | 1 =>
    if pass then returnSkillet (modKtl (fun k => { k with mPassed := insertNat item k.mPassed }) s) else skilletFails item s
  | 2 => endMarch item pass s
  | 3 =>
    if pass then
      let f (c : ChannelLocal) : ChannelLocal := { c with testAge := 0, overdue := false }
      { s with trv := { s.trv with channels := modAt s.trv.channels item f } }
    else
      let d := manualFault item s
      failChannel item d.1 d.2
  | 8 => modKtl (fun k => { k with injected := k.injected ++ [(item, false)] }) s
  | 9 => modKtl (fun k => { k with injected := k.injected ++ [(item, true)] }) s
  | _ => modKtl (fun k => { k with injectFail := insertNat item k.injectFail }) s

/-- The manual action in progress has ended: RESULT pass, or fail or injected (R434). -/
def execManualActionComplete (pass : Bool) (s : State) : Host.Outcome State Fault Refusal :=
  .next (match s.ktl.manual with
    | some (code, item) =>
      if s.ktl.manualHeld then s
      else
      let ok : Bool := if code = 1 then testPasses item pass s else if code = 2 then marchMeets item pass s else pass
      let s := modKtl (fun k => { k with
        manual := none, mResult := if code < 8 ∧ ok then 2 else 3
        injectFail := if code = 1 then k.injectFail.filter (· != item) else k.injectFail }) s
      manualOutcome code item ok s
    | none => s)

/-! ## Errors in SRAM (R30) -/

/-- Size of a tile store; of SRAM. -/
def tileStore : Nat := 0x100000
def sramSize : Nat := 0x1000000

/-- A slow run that lies on Skillet k has lost a word of it. -/
def loseRun (cls case k : Nat) (s : State) (p : SlowRun) : SlowRun :=
  if (lyingOn cls case false [k] s).isEmpty then p else { p with lost := insertNat k p.lost }

/-- A word of Skillet k's tile store is lost (R30, R145): the instances on it in this epoch, the slow instances in progress on it, and the
held warm-start sources on it. -/
def loseWord (k : Nat) (s : State) : State :=
  let m := modSlow (fun w => { w with plan := w.plan.map (loseRun 4 0 k s), ba := w.ba.map (loseRun 1 0 k s)
                                      cases := mapAt w.cases fun c x => x.map (loseRun 5 c k s) }) s
  let sources := (heldSources s).filter fun p => !(lyingOn p.1 p.2 false [k] s).isEmpty
  { m with fab := { m.fab with
      broken := insertNat k m.fab.broken
      lostSources := m.fab.lostSources ++ sources.filter fun p => !m.fab.lostSources.contains p } }

/-- An uncorrectable error: in a tile store the instances on that Skillet fail and Kettle tests it next; elsewhere it is a fatal
error, whose dump the slow processor writes (R364). A word made faulty by injection is met with it (log 128). -/
def execEccUncorrectable (f : SramFault) (s : State) : Host.Outcome State Fault Refusal :=
  .next (if ¬ timerRuns s ∨ sramSize ≤ f.offset then s
    else
      let s := modKtl (fun k => { k with injected := k.injected.filter (· != (f.offset / 65536, true)) }) s
      if f.offset < 8 * tileStore then
        let k := f.offset / tileStore
        let s := loseWord k s
        if ¬ s.ktl.directed.contains k then modKtl (fun x => { x with directed := x.directed ++ [k] }) s else s
      else fatalError 2 1 s)

/-- A corrected error is counted and written back; more than the declared rate in 2000 epochs raises EV_010 (R30, R350). -/
def execEccCorrected (f : SramFault) (s : State) : Host.Outcome State Fault Refusal :=
  .next (if ¬ timerRuns s ∨ sramSize ≤ f.offset then s
    else countCorrected (f.offset / 65536)
      (modKtl (fun k => { k with injected := k.injected.filter (· != (f.offset / 65536, false)) }) s))

/-! ## Fatal errors (R24) -/

/-- The control processor that writes the dump: the one that did not raise the error (R364). -/
def dumpWriter : Processor → Nat
  | .fast => 1
  | .slow => 0

/-- The cores of a processor differ (R24). -/
def execLockstepMismatch (p : Processor) (s : State) : Host.Outcome State Fault Refusal :=
  .next (if timerRuns s then fatalError 1 (dumpWriter p) s else s)

/-- A processor's watchdog has not been serviced within 4 service periods (R24). -/
def execWatchdogExpiry (p : Processor) (s : State) : Host.Outcome State Fault Refusal :=
  .next (if timerRuns s then fatalError 3 (dumpWriter p) s else s)

/-! ## Errors in MRAM (R31) -/

/-- An uncorrectable error marks a record corrupt; an item of the journal and state region is rebuilt at the next start. -/
def execMramUncorrectable (item : MramItem) (s : State) : Host.Outcome State Fault Refusal :=
  .next (if s.um.inReset then s
    else match item with
      | .record i =>
        let f (r : EvRecord) : EvRecord := { r with corrupt := true }
        raise 20 { s with log := { s.log with records := modAt s.log.records i f } }
      | x => raise 20 { s with evt := { s.evt with mramBad := if s.evt.mramBad.contains x then s.evt.mramBad else s.evt.mramBad ++ [x] } })

/-- Once per second the operating time is saved (R359), in every mode of a module that is not held in reset. -/
def execOptimeSave (s : State) : Host.Outcome State Fault Refusal :=
  .next (if s.um.inReset then s else { s with log := { s.log with opSaved := s.log.opTime } })

/-! ## The fatal dump (R364, R365) -/

/-- Octets of a section: cut or filled with zeros to its length. -/
def sized (n : Nat) (l : List Byte) : List Byte := l.take n ++ List.replicate (n - l.length) 0

/-- The event states in the dump: mirrored ACTIVE, UNACK, MASK, local ACTIVE, UNACK, four words each. -/
def dumpEvents (s : State) : List Byte :=
  let bank (l : List Nat) (b : Nat) : List Byte := beBytes 4 (bitSet ((l.filter fun e => e / 32 == b).map (· % 32)))
  let banks (l : List Nat) : List Byte := ((List.range 4).map (bank l)).flatten
  banks s.mir.evt.active ++ banks s.mir.evt.unack ++ ((List.range 4).map fun b => wordBytes (s.mir.evt.masks.getD b 0)).flatten ++
    banks s.evt.active ++ banks s.evt.unack

/-- A block of committed inputs. -/
def dumpBlock (b : Nat × List InRecord) : List Byte :=
  beBytes 6 b.1 ++ beBytes 2 b.2.length ++ List.replicate 8 0 ++ (b.2.map recordBytes).flatten

/-- Offsets of the sections. -/
def dumpProcessorAt : Nat := 0x1000
def dumpSlotsAt : Nat := 0x11000
def dumpEventsAt : Nat := 0x15000
def dumpInputsAt : Nat := 0x20000

/-- An entry of the slot table: 32 octets (R364); codes as 64-bit numbers with the accumulator's NaN (R120, log 132). -/
def slotBytes (x : Slot) : List Byte :=
  beBytes 1 (flag x.occupied + 2 * flag x.completed) ++ beBytes 1 x.origin ++ beBytes 1 x.cls ++ beBytes 1 x.case ++ beBytes 4 x.seq ++
    beBytes 8 (codeS 64 x.result) ++ beBytes 8 (codeS 64 x.first) ++ beBytes 8 (codeS 64 x.second)

/-- The committed sets of the last 64 epochs up to an epoch (R364). -/
def recentSets (epoch : Nat) (s : State) : List (Nat × List InRecord) :=
  s.dmp.history.filter fun b => decide (b.1 ≤ epoch ∧ epoch < b.1 + 64)

/-- The sections after the header. -/
def dumpSections (processorState : List Byte) (sets : List (Nat × List InRecord)) (s : State) : List Host.Cell :=
  let m := memWrites 0 dumpProcessorAt (sized 0x10000 processorState) []
  let m := memWrites 0 dumpSlotsAt (sized 0x4000 (s.fab.slots.map slotBytes).flatten) m
  let m := memWrites 0 dumpEventsAt (dumpEvents s) m
  (List.range sets.length).foldl
    (fun m i => memWrites 0 (dumpInputsAt + 0x8000 * i) ((dumpBlock (sets.getD i (0, []))).take 0x8000) m) m

/-- The header (R365). -/
def dumpHeader (d : DumpDue) (blocks : Nat) (sections : List Host.Cell) (s : State) : List Byte :=
  beBytes 4 0x444D5031 ++ [1] ++ beBytes 1 d.cause ++ beBytes 1 d.writer ++ [0] ++ beBytes 6 d.epoch ++ [0, 0] ++
    beBytes 5 d.opTime ++ beBytes 3 s.log.cycle ++ beBytes 8 s.cfg.image.imageId ++ beBytes 8 (fwDigest s) ++
    beBytes 4 blocks ++ beBytes 4 (crc32c (memReads 0 sections 0x1000 0x21F000))

/-- The dump is complete: VALID is written last, and EV_017 raised (R365). -/
def finishDump (processorState : List Byte) (s : State) : State :=
  match s.dmp.due with
  | some d =>
    let sets := recentSets d.epoch s
    let m := dumpSections processorState sets s
    raise 17 { s with dmp := { s.dmp with
      valid := true, mem := memWrites 0 0 (dumpHeader d sets.length m s) m, cause := d.cause, epoch := d.epoch
      blocks := sets.length, readRanges := [], due := none } }
  | none => s

/-- The dump is written while the unit is in HOLD (R24, R365). -/
def execFatalDumpComplete (processorState : List Byte) (s : State) : Host.Outcome State Fault Refusal :=
  .next (if s.um.mode = .hold ∧ ¬ s.um.inReset then finishDump processorState s else s)

end Sys2Proof.Machine
end

