-- ==== Sys2Proof/Machine/Ptp.lean ====
section
/-! DEFINITION. PTP on the ports (R250 to R253): foreign masters and port states, messages received and sent, peer delay on the ring, the
transmit stamp queue. What the manual leaves to IEEE 1588-2019 is in log 156. -/

namespace Sys2Proof.Machine

/-! ## Clocks and the best master clock algorithm (R250) -/

/-- Port identity of a port of this unit: RING_1, RING_2, STN_1, STN_2 are ports 1 to 4 of its clock. -/
def ownPort (ring : Bool) (p : Side) : Nat := Cfg.clockIdentity * 65536 + (if ring then 1 else 3) + portIndex p

/-- clockClass sent as master (R250). -/
def sentClass (s : State) : Nat :=
  match s.time.source with
  | some .gnssA | some .gnssB => 6
  | _ => if s.time.holdover ∧ ¬ s.time.neverLocked ∧ reportedUncert s ≤ 1000 then 7 else 248

/-- The unit's own clock. -/
def ownClock (s : State) : ClockData :=
  let u := reportedUncert s
  { priority1 := s.cfg.image.ptpPriority1, cls := sentClass s, accuracy := Cfg.clockAccuracy u, variance := Cfg.clockVariance u
    priority2 := s.cfg.image.ptpPriority2, identity := Cfg.clockIdentity, steps := 0 }

/-- The attributes of a clock in the order in which IEEE 1588 compares them. -/
def clockKey (c : ClockData) : List Nat := [c.priority1, c.cls, c.accuracy, c.variance, c.priority2, c.identity]

/-- Lists compared entry by entry. -/
def lexLess : List Nat → List Nat → Bool
  | a :: l, b :: m => decide (a < b) || (a == b && lexLess l m)
  | _, _ => false

/-- Data set comparison: the better grandmaster; of one grandmaster the fewer steps, then the lower sender (log 156). -/
def betterClock (a b : ClockData × Nat) : Bool :=
  if a.1.identity = b.1.identity then lexLess [a.1.steps, a.2] [b.1.steps, b.2] else lexLess (clockKey a.1) (clockKey b.1)

/-- A foreign master counts after two Announce messages within four intervals, fewer than 255 steps away, and not this clock itself. -/
def qualifiedForeign (i : Nat) (s : State) (f : Foreign) : Bool :=
  f.gap.any (fun g => decide (g + f.age < 4 * announceEpochs i s.cfg.image)) && decide (f.clock.steps < 255) &&
    f.clock.identity != Cfg.clockIdentity && f.sender / 65536 != Cfg.clockIdentity

/-- The best foreign master of a port. -/
def bestForeign (p : Side) (s : State) : Option Foreign :=
  ((ptpPort p s).heard.filter (qualifiedForeign (portIndex p) s)).foldl (fun a f => match a with
    | some b => if betterClock (f.clock, f.sender) (b.clock, b.sender) then some f else some b
    | none => some f) none

/-- The port would take the time of its best foreign master: as a slave-only port, or as a boundary port whose own clock is not of a class up
to 127 and not better. -/
def slaveChoice (p : Side) (s : State) : Option Foreign :=
  (bestForeign p s).filter fun f =>
    ptpRole p s == 1 || (ptpRole p s == 2 && decide (127 < sentClass s) && !betterClock (ownClock s, Cfg.clockIdentity * 65536) (f.clock, f.sender))

/-- At most one port is in SLAVE: that with the better master. -/
def isSlavePort (p : Side) (s : State) : Bool :=
  match slaveChoice p s, slaveChoice (otherSide p) s with
  | some f, some g => betterClock (f.clock, f.sender) (g.clock, g.sender) || (p == .one && !betterClock (g.clock, g.sender) (f.clock, f.sender))
  | some _, none => true
  | none, _ => false

/-- portState by the state decision (log 156): 9 SLAVE, 6 MASTER, 7 PASSIVE, 4 LISTENING, 3 DISABLED. `silent`: the port has heard no
Announce for announceReceiptTimeout intervals. -/
def decidedState (p : Side) (silent : Bool) (s : State) : Nat :=
  if ptpRole p s = 0 then 3
  else if isSlavePort p s then 9
  else if ptpRole p s = 1 then 4
  else match bestForeign p s with
    | none => if (ptpPort p s).state = 4 && !silent then 4 else 6
    | some f =>
      if betterClock (ownClock s, Cfg.clockIdentity * 65536) (f.clock, f.sender) then 6
      else if sentClass s ≤ 127 then 7
      else if (slaveChoice (otherSide p) s).any fun g => g.clock.identity == f.clock.identity then 7 else 6

/-- A port takes its decided state; a master in use whose clockClass leaves those of R243 raises EV_061 (R350, log 141). -/
def decidePort (p : Side) (silent : Bool) (s : State) : State :=
  let before := ptpPort p s
  let st := decidedState p silent s
  let m := if st = 9 then bestForeign p s else none
  let s := modPtp p (ptpState st (m.map (·.sender)) ((m.map (·.clock.cls)).getD 0)) s
  let s := if goodSlave before && st == 9 && !goodClass (ptpPort p s).gmClass then raise 61 s else s
  match m with
  | some f => { s with time := { s.time with utcPtp := f.utc } }
  | none => s

/-- Both ports decide, the slave port last to learn of the other's leaving. -/
def decidePorts (p : Side) (silent : Bool) (s : State) : State := decidePort p silent (decidePort (otherSide p) false s)

/-- An Announce message enters the port's list of at most five foreign masters. -/
def noteForeign (h : PtpHeader) (c : ClockData) (utc : Option Int) (q : PtpPort) : PtpPort :=
  let old := q.heard.find? (·.sender == h.source)
  let new : Foreign := { sender := h.source, clock := c, utc, gap := old.map (·.age) }
  { q with announceAge := 0, heard := (new :: q.heard.filter (·.sender != h.source)).take 5 }

/-! ## Stamps (R252, R253) -/

/-- Number of a port in a stamp identifier (R253). -/
def stampPort (ring : Bool) (p : Side) : Nat := (if ring then 0 else 2) + portIndex p

/-- Identifier of a transmit stamp (R253). -/
def stampIdent (ring : Bool) (p : Side) (type seq : Nat) : Nat := stampPort ring p * 2 ^ 13 + type % 4 * 2 ^ 11 + seq % 2 ^ 11

/-- The stack claims an entry by its identifier (R253). -/
def claimStamp (ident : Nat) (s : State) : Option (Nat × State) :=
  match s.time.txq.find? (·.1 == ident) with
  | some e => some (e.2.1, { s with time := { s.time with txq := s.time.txq.erase e } })
  | none => none

/-- Receive stamp of a message (R252). -/
def rxStamp (ring : Bool) (p : Side) (tick : Int) (s : State) : Nat := arrivalStamp (stampPort ring p) tick s

/-! ## Station ports (R250) -/

/-- The message comes from the port's master, while the port is in SLAVE. -/
def fromMaster (h : PtpHeader) (q : PtpPort) : Bool := q.state == 9 && q.parent == some h.source

/-- 2⁻¹⁶ ns as ps. -/
def fractionPs (v : Int) : Int := roundDiv (v * 1000) 65536

/-- A Follow_Up completes the measurement of its Sync: the counter less origin, corrections and path delay. -/
def takeFollowUp (p : Side) (h : PtpHeader) (origin : Nat) (s : State) : State :=
  let q := ptpPort p s
  match q.sync with
  | some (n, rx, corr) =>
    if fromMaster h q && n == h.seq then
      let c := corr + h.correction
      measured .ptp (fractionPs (((rx : Int) - origin) * 65536 - c - q.delay)) 0
        (modPtp p (fun q => { q with sync := none, t12 := some (origin, rx, c) }) s)
    else s
  | none => s

/-- A Delay_Resp completes the path-delay measurement whose Delay_Req stamp is claimed from the queue; without the stamp it is skipped
(R253). -/
def takeDelayResp (p : Side) (h : PtpHeader) (rxTime requester : Nat) (s : State) : State :=
  let q := ptpPort p s
  match q.delayReq, q.t12 with
  | some n, some (t1, t2, c) =>
    if fromMaster h q && n == h.seq && requester == ownPort false p then
      match claimStamp (stampIdent false p 1 h.seq) s with
      | some (t3, s) =>
        modPtp p (fun q => { q with
          delayReq := none, delay := roundDiv (((t2 : Int) - t1 + ((rxTime : Int) - t3)) * 65536 - c - h.correction) 2 }) s
      | none => modPtp p (fun q => { q with delayReq := none }) s
    else s
  | _, _ => s

/-- A message sent from a station port. -/
def stationMessage (p : Side) (kind seq : Nat) (s : State) : PtpMessage :=
  { kind, seq, domain := (ptpPort p s).domain, source := ownPort false p }

/-- A message on a station port is processed by its port's state; one of another domain or of another major version is not (R250). -/
def stationRx (p : Side) (h : PtpHeader) (body : PtpBody) (s : State) : State :=
  let q := ptpPort p s
  if ptpRole p s = 0 ∨ h.domain ≠ q.domain ∨ h.version ≠ 2 then s
  else match body with
    | .announce c utc => decidePorts p false (modPtp p (noteForeign h c utc) s)
    | .sync rx =>
      if fromMaster h q then
        modQual .ptp (fun k => { k with fresh := true })
          (modPtp p (fun q => { q with sync := some (h.seq, rxStamp false p rx s, h.correction), syncAge := 0 }) s)
      else s
    | .followUp origin => takeFollowUp p h origin s
    | .delayReq rx =>
      if q.state = 6 then
        send (.ptp p false { stationMessage p 6 h.seq s with
          time := rxStamp false p rx s, requester := h.source, correction := h.correction }) s
      else s
    | .delayResp rxTime requester => takeDelayResp p h rxTime requester s
    | _ => s

/-! ## Ring ports (R250, R251) -/

def modRingPtp (p : Side) (f : RingPtp → RingPtp) (s : State) : State :=
  { s with time := { s.time with ringPtp := modAt s.time.ringPtp (portIndex p) f } }

/-- The peer delay: half the round trip less the neighbour's own time, once the stamp of the Pdelay_Req is claimed; without it the
measurement is skipped (R251, R253). -/
def takePeerDelay (p : Side) (h : PtpHeader) (t3 requester : Nat) (s : State) : State :=
  let q := ringPtp p s
  match q.req, q.resp with
  | some n, some (t2, t4, c) =>
    if n = h.seq ∧ requester = ownPort true p then
      let s := modRingPtp p (fun q => { q with req := none, resp := none }) s
      match claimStamp (stampIdent true p 2 h.seq) s with
      | some (t1, s) =>
        modRingPtp p (fun q => { q with
          peerDelay := roundDiv ((((t4 : Int) - t1) - ((t3 : Int) - t2)) * 65536 - c - h.correction) 2 }) s
      | none => s
    else s
  | _, _ => s

/-- Peer-delay messages on a ring port: a request is answered, an answer measured. The unit takes no time from the ring (R251). -/
def ringRx (p : Side) (h : PtpHeader) (body : PtpBody) (s : State) : State :=
  if !s.rng.relayOpen || h.version != 2 then s
  else match body with
    | .pdelayReq rx =>
      sendRing (.ptp p true { kind := 3, seq := h.seq, domain := h.domain, source := ownPort true p, time := rxStamp true p rx s
                              requester := h.source })
        (modRingPtp p (fun q => { q with answer := some (h.seq, h.domain, h.source) }) s)
    | .pdelayResp rx t2 requester =>
      if (ringPtp p s).req = some h.seq ∧ requester = ownPort true p then
        modRingPtp p (fun q => { q with resp := some (t2, rxStamp true p rx s, h.correction) }) s
      else s
    | .pdelayRespFollowUp t3 requester => takePeerDelay p h t3 requester s
    | _ => s

/-- A PTP message is received on a station port or a ring port (R250). -/
def execPtpMessageRx (p : Side) (ring : Bool) (h : PtpHeader) (body : PtpBody) (s : State) : Host.Outcome State Fault Refusal :=
  .next (if !ptpRuns s then s else if ring then ringRx p h body s else stationRx p h body s)

/-! ## Sending (R250, R251, R253) -/

/-- What an Announce says: this clock, or the grandmaster of the port in SLAVE, one step farther; the clockClass is that of R250's table in
either case. -/
def announcedClock (s : State) : ClockData :=
  let slave (p : Side) : Option Foreign := if (ptpPort p s).state = 9 then bestForeign p s else none
  match (slave .one).orElse fun _ => slave .two with
  | some f => { f.clock with cls := sentClass s, steps := f.clock.steps + 1 }
  | none => ownClock s

/-- A station port sends at its declared intervals: a master Sync and Announce, and a Follow_Up where the Sync's stamp stands in the queue
(R253); a slave Delay_Req. -/
def stationSend (p : Side) (kind seq : Nat) (s : State) : State :=
  let q := ptpPort p s
  let m := stationMessage p kind seq s
  if q.state = 6 then
    if kind = 0 ∧ logEpochs (s.cfg.image.ptpLogSync.getD (portIndex p) (-3)) ≤ q.syncSent then
      send (.ptp p false m) (modPtp p (fun q => { q with syncSent := 0 }) s)
    else if kind = 5 ∧ announceEpochs (portIndex p) s.cfg.image ≤ q.announceSent then
      send (.ptp p false { m with clock := some (announcedClock s), utc := utcOffset s })
        (modPtp p (fun q => { q with sentClass := sentClass s, announceSent := 0 }) s)
    else if kind = 4 then
      match claimStamp (stampIdent false p 0 seq) s with
      | some (t, s) => send (.ptp p false { m with time := t }) s
      | none => s
    else s
  else if q.state = 9 ∧ kind = 1 then send (.ptp p false m) (modPtp p (fun q => { q with delayReq := some seq }) s)
  else s

/-- A ring port sends Pdelay_Req once per second, and the Pdelay_Resp_Follow_Up of an answer whose stamp stands in the queue (R250, R251,
R253). -/
def ringSend (p : Side) (kind seq : Nat) (s : State) : State :=
  let q := ringPtp p s
  if !s.rng.relayOpen then s
  else if kind = 2 ∧ 2000 ≤ q.reqAge then
    sendRing (.ptp p true { kind := 2, seq, domain := 0, source := ownPort true p })
      (modRingPtp p (fun q => { q with req := some seq, resp := none, reqAge := 0 }) s)
  else if kind = 7 then
    match q.answer with
    | some (n, domain, requester) =>
      let s := modRingPtp p (fun q => { q with answer := none }) s
      match claimStamp (stampIdent true p 3 n) s with
      | some (t, s) => sendRing (.ptp p true { kind := 7, seq := n, domain, source := ownPort true p, time := t, requester }) s
      | none => s
    | none => s
  else s

/-- A PTP message is due on a station port or a ring port (R250, R251). -/
def execPtpMessageSend (p : Side) (ring : Bool) (kind seq : Nat) (s : State) : Host.Outcome State Fault Refusal :=
  .next (if !ptpRuns s then s else if ring then ringSend p kind seq s else stationSend p kind seq s)

/-- No Announce within announceReceiptTimeout, 3 intervals: the state decision without the port's foreign masters (R250). -/
def execAnnounceReceiptTimeout (p : Side) (s : State) : Host.Outcome State Fault Refusal :=
  .next (if ptpRuns s ∧ ptpRole p s ≠ 0 ∧ (ptpPort p s).state ≠ 6 ∧ 3 * announceEpochs (portIndex p) s.cfg.image ≤ (ptpPort p s).announceAge then
      decidePorts p true (modPtp p (fun q => { q with heard := [] }) s)
    else s)

/-! ## The transmit stamp queue (R253) -/

/-- A stamp enters the queue of 16, or is dropped: OVF, DROPS, EV_045. -/
def execTxStamp (ident : Nat) (tick : Int) (s : State) : Host.Outcome State Fault Refusal :=
  .next (if ptpRuns s then
      (if s.time.txq.length < 16 then
        { s with time := { s.time with txq := s.time.txq ++ [(ident % 65536, departureStamp (ident / 2 ^ 13 % 8) tick s, 0)] } }
      else raise 45 { s with time := { s.time with txqOvf := true, txqDrops := bump 16 s.time.txqDrops } })
    else s)

/-- Entries not claimed within 2000 epochs are freed. -/
def execTxStampExpiry (s : State) : Host.Outcome State Fault Refusal :=
  .next { s with time := { s.time with txq := s.time.txq.filter fun e => decide (e.2.2 < 2000) } }

end Sys2Proof.Machine
end

