-- ==== Sys2Proof/Machine/Start.lean ====
section
/-! DEFINITION. The start sequence (chapters 3, 4, 21, 22): bank selection in BOOT, the key reading, the end of LOAD, the outcome of
the start-up test (R67 to R72, R89 to R107, R420, R421, R442, R443). -/

namespace Sys2Proof.Machine

/-! ## BOOT (R68, R442, R443) -/

/-- What the mask ROM finds of a bank's manifest and parts. -/
def checkOf (b : Side) (x y : BankCheck) : BankCheck :=
  match b with
  | .one => x
  | .two => y

/-- EV_023 with its code in word 1, which ROLLBACK of LOC_UPD_BANKS keeps (R448). -/
def rollBack (code : Nat) (s : State) : State := raiseWith 23 0xFFFFFFFF code 0 { s with upd := { s.upd with rollback := code } }

/-- The mask ROM counts the start of a PROVISIONAL bank; at the third that has not reached STANDBY the bank is FAILED and the other
one selected (R68, R443). -/
def countStart (s : State) : State :=
  let b := s.upd.selected
  if (bankOf b s).state = .provisional then
    let s := { s with upd := { s.upd with attempts := s.upd.attempts + 1 } }
    if 3 ≤ s.upd.attempts then
      let s := setBank b (fun x => { x with state := .failed }) s
      rollBack 1 { s with upd := { s.upd with selected := otherSide b } }
    else s
  else s

/-- A bank starts: not EMPTY or FAILED, and its signature, SECURITY_VERSION and parts pass (R442). -/
def tried (b : Side) (s : State) : Bool := (bankOf b s).state != .empty && (bankOf b s).state != .failed

def startable (b : Side) (x y : BankCheck) (s : State) : Bool :=
  let c := checkOf b x y
  c.signatureOk && decide (s.upd.floor ≤ (bankFw (bankOf b s)).secVer) && c.partsOk

/-- The banks in the order in which they are tried; one that fails its checks is FAILED. -/
def tryBanks (x y : BankCheck) : List Side → State → Option Side × State
  | [], s => (none, s)
  | b :: rest, s =>
    if !tried b s then tryBanks x y rest s
    else if startable b x y s then (some b, s)
    else tryBanks x y rest (setBank b (fun k => { k with state := .failed }) s)

/-- Rows of the frame memory that the mask ROM changes when it writes "RECOVERY" (R417). -/
def writeRecovery (s : State) : State :=
  if s.pnl.suspended || s.pnl.frozen then s
  else
    let put (p : Panel) (r : Nat) : Panel :=
      let old := memReads 0 s.pnl.frame (rowOctets * r) rowOctets
      let net := Cfg.recoveryBalance r old
      { p with
        frame := memWrites 0 (rowOctets * r) (sized rowOctets (Cfg.recoveryRow r old)) p.frame
        balance := (List.range 296).foldl (fun l c => setBalance (pixelKey r c) ((lookupNat (pixelKey r c) l).getD 0 + net.getD c 0) l) p.balance }
    let p := (List.range rowCount).foldl put s.pnl
    { s with pnl := { p with crc := crc32 (memReads 0 p.frame 0 (rowOctets * rowCount)), recovery := true } }

/-- No bank starts: RECOVERY. -/
def startRecovery (s : State) : State := writeRecovery (changeMode .recovery 0 s)

/-- The firmware of bank b starts: LOAD, in which the station ports train (R67). EV_023 tells that another bank than the selected one runs, or that the bank on trial had
failed (R442, R445). -/
def startBank (b : Side) (selected : Side) (s : State) : State :=
  let s := if s.upd.trialFailed then rollBack 2 s else if b ≠ selected then rollBack 3 s else s
  let s := if s.sup.svcUp then raise 62 s else s
  setStation .two .training (setStation .one .training
    (changeMode .load 0 { s with upd := { s.upd with running := b, trialFailed := false }
                                 time := { s.time with ocxoStable := s.sup.stable } }))

/-- The mask ROM has verified the boot header and the banks (R442). With a bad header no bank starts. -/
def execBootComplete (headerOk : Bool) (bankA bankB : BankCheck) (s : State) : Host.Outcome State Fault Refusal :=
  .next (if s.um.mode = .boot ∧ ¬ s.um.inReset then
      (if headerOk then
        let s := countStart s
        let b := s.upd.selected
        match tryBanks bankA bankB [b, otherSide b] s with
        | (some k, s) => startBank k b s
        | (none, s) => startRecovery s
      else startRecovery s)
    else s)

/-! ## The key (R92 to R101) -/

/-- Step 2: the certificate and the challenge's signature verify (R92). -/
def keyGenuine (k : KeyRead) : Bool :=
  match Cfg.certificateKey k.certificate with
  | some pk => k.challenge.length == 32 && Cfg.ed25519 pk k.challenge k.signature
  | none => false

/-- Lengths of the header without its section table, of a table entry, and of the signature block (R94). -/
def headerLen : Nat := 48
def entryLen : Nat := 16
def signatureLen : Nat := 164
def imageMax : Nat := 2097152

/-- IMAGE_LEN, SECTION_COUNT. -/
def imageLen (o : List Byte) : Nat := octets o 12 4
def tableCount (o : List Byte) : Nat := octets o 29 1

/-- Step 4. -/
def headerFormed (o : List Byte) : Bool :=
  let n := tableCount o
  octets o 0 4 == 0x4F4C4B46 && decide (1 ≤ n) && decide (n ≤ 15) && octets o 8 4 == headerLen + entryLen * n &&
    decide (headerLen + entryLen * n + signatureLen ≤ imageLen o) && decide (imageLen o ≤ imageMax) &&
    decide (imageLen o ≤ o.length)

/-- An entry of the section table (R95). -/
structure Entry where
  type : Nat
  offset : Nat
  length : Nat
  crc : Nat
deriving DecidableEq, Repr, Inhabited

def entryAt (o : List Byte) (i : Nat) : Entry :=
  let a := headerLen + entryLen * i
  { type := octets o a 2, offset := octets o (a + 4) 4, length := octets o (a + 8) 4, crc := octets o (a + 12) 4 }

def entries (o : List Byte) : List Entry := (List.range (tableCount o)).map (entryAt o)

/-- Sections lie in ascending order from `at'` on without overlap; the end of the last. -/
def placed (at' : Nat) (last : Nat) : List Entry → Bool
  | [] => decide (at' ≤ last)
  | e :: r => decide (at' ≤ e.offset) && placed (e.offset + e.length) last r

/-- Each type appears at most once (R95). R100 names no step for it: that it fails with step 5 is the model's choice (log 109). -/
def typesDistinct : List Entry → Bool
  | [] => true
  | e :: r => r.all (fun x => x.type != e.type) && typesDistinct r

/-- Step 5. -/
def sectionsFormed (o : List Byte) : Bool :=
  let es := entries o
  es.all (fun e => crc32 ((o.drop e.offset).take e.length) == e.crc) && typesDistinct es &&
    placed (headerLen + entryLen * tableCount o) (imageLen o - signatureLen) es

/-- D of R97: octets 0 to IMAGE_LEN − 165 with octets 16 to 23 zero. -/
def imageDigest (o : List Byte) : List Byte :=
  sha256 (o.take 16 ++ List.replicate 8 0 ++ ((o.take (imageLen o - signatureLen)).drop 24))

/-- A field of the signature block (R96). -/
def signatureField (o : List Byte) (a n : Nat) : List Byte := (o.drop (imageLen o - signatureLen + a)).take n

/-- Step 7: Berlor's signature over the signer ID and the signer's key. -/
def signerTrusted (o : List Byte) : Bool :=
  !Cfg.revoked.contains (beNat (signatureField o 0 4)) && Cfg.ed25519 Cfg.configRoot (signatureField o 0 36) (signatureField o 36 64)

/-- Step 8. -/
def imageSigned (o : List Byte) : Bool := Cfg.ed25519 (signatureField o 4 32) (imageDigest o) (signatureField o 100 64)

/-- The image with its header and signature fields as its octets give them, and what its sections declare. -/
def imageOf (o : List Byte) : Image :=
  let img := o.take (imageLen o)
  let d := imageDigest o
  { Cfg.decodeSections img with
    imageId := octets o 16 8, digest := d, formatMajor := octets o 4 2, formatMinor := octets o 6 2, sequence := octets o 24 4
    nymnil := octets o 40 4, signer := beNat (signatureField o 0 4), length := imageLen o, single := octets o 28 1 == 1
    sections := bitSet (((entries o).map (·.type)).filterMap fun t => if 1 ≤ t ∧ t ≤ 15 then some (t - 1) else none)
    ucodeMin := octets o 32 4, ucodeMax := octets o 36 4, content := img }

/-- An external position reference: any but the two GNSS engines. -/
def externalRef (r : RefDecl) : Bool :=
  match r.kind with
  | .gnssA | .gnssB => false
  | _ => true

/-- Step 11: INSTALL, and the counts of R99. -/
def withinLimits (o : List Byte) : Bool :=
  let g := imageOf o
  (octets o 28 1 == 1 || octets o 28 1 == 2) && decide (g.units.length ≤ 16) && decide ((g.refs.filter externalRef).length ≤ 8) &&
    decide (g.gyros.length ≤ 3) && decide (g.mrus.length ≤ 3) &&
    decide (g.winds.length ≤ 4) && decide (g.drafts.length ≤ 2) && decide (g.cases.length ≤ 64) && decide (g.roster.length ≤ 8)

/-- Step 12: every section of R95. -/
def sectionsPresent (o : List Byte) : Bool :=
  (List.range 15).all fun i => (entries o).any fun e => e.type == i + 1

/-- The steps of R100 in order: whether each holds, and its fault code. -/
def keySteps (k : KeyRead) (s : State) : List (Bool × Nat) :=
  let o := k.octets
  let f := runningFw s
  [(k.seated, 1), (!k.leftInStep2, 3), (keyGenuine k, 2), (k.readOk, 3), (headerFormed o, 4), (sectionsFormed o, 5),
   ((imageDigest o).take 8 == (o.drop 16).take 8, 5), (signerTrusted o, 6), (imageSigned o, 7),
   (octets o 4 2 == f.imgMajor && decide (octets o 6 2 ≤ f.imgMinor), 8),
   (decide (octets o 32 4 ≤ f.ucode) && decide (f.ucode ≤ octets o 36 4), 9),
   (withinLimits o, 0xA), (sectionsPresent o, 0xB), (k.deriveOk, 2)]

/-- The first step that fails ends the reading: its fault code; 0 when every step passes. -/
def firstFailure (l : List (Bool × Nat)) : Nat := ((l.find? fun x => !x.1).map (·.2)).getD 0

def keyFault (k : KeyRead) (s : State) : Nat := firstFailure (keySteps k s)

/-- Working-key label of a slot (R91). -/
def slotLabel (slot : Nat) : List Byte :=
  if slot < 8 then ascii [72, 65, 80, 49] else if slot = 8 then ascii [67, 76, 82, 49] else ascii [76, 67, 89, 49]

/-- W of R93. -/
def workingKey (slot : Nat) (key : List Byte) (s : State) : List Byte :=
  hmac key (slotLabel slot ++ beBytes 8 Cfg.serial ++ beBytes 4 s.log.cycle)

def workingKeys (k : KeyRead) (s : State) : List (Option (List Byte)) :=
  (List.range 10).map fun i => ((k.slots[i]?).join).map fun key => workingKey i key s

/-- The unit takes its own addresses by its UNIT_SEL strap (R95). -/
def netOf (u : UnitId) (g : Image) : NetDecl :=
  match u with
  | .a => g.netA
  | .b => g.netB

/-- Every step has passed. The Tongs links of a pair train (R67, R309). -/
def acceptKey (k : KeyRead) (s : State) : State :=
  let s := { s with
    cfg := { valid := true, fault := 0, image := imageOf k.octets, net := netOf s.um.unit (imageOf k.octets) }
    hap := { s.hap with keys := workingKeys k s }
    um := { s.um with loaded := true } }
  if isPair s then setTongs .two .training (setTongs .one .training s) else s

/-- A configuration fault (R101): CFG_FAULT, EV_012 or EV_013, and HOLD with cause 0x07 or 0x08. -/
def refuseKey (code : Nat) (s : State) : State :=
  let s := { s with cfg := { fault := code } }
  let s := raise (if code = 1 then 12 else 13) s
  enterHold (if code = 1 then 7 else 8) s

/-- LOAD reads the key once (R100, R102). -/
def execKeyReading (k : KeyRead) (s : State) : Host.Outcome State Fault Refusal :=
  .next (if s.um.mode = .load ∧ ¬ s.um.loaded then
      let s := { s with sup := { s.sup with keyPresent := k.seated } }
      let code := keyFault k s
      if code = 0 then acceptKey k s else refuseKey code s
    else s)

/-! ## The end of LOAD (R67, R69, R102) -/

/-- The blocks that read the image are set up: GNSS enables, CAN buses and thresholds, silence of serial sources, Sieve chains,
antennas, PTP. -/
def setUpBlocks (s : State) : State :=
  let g := s.cfg.image
  let bus (i : Nat) (b : CanBus) : CanBus := { b with state := if g.buses.contains (i + 1) then 0 else 5 }
  let warn (i : Nat) (w : Word) : Word :=
    match g.warn[i]? with
    | some v => BitVec.ofNat 32 v
    | none => w
  let s := { s with
    fld := { s.fld with buses := mapAt s.fld.buses bus, serialAge := g.serial.foldl (fun l d => insertKey d.source 0 l) [] }
    mir := { s.mir with
      fld := { s.mir.fld with warn := mapAt s.mir.fld.warn warn }
      gnA := { s.mir.gnA with enable := BitVec.ofNat 32 g.enableA, before := BitVec.ofNat 32 g.enableA }
      gnB := { s.mir.gnB with enable := BitVec.ofNat 32 g.enableB, before := BitVec.ofNat 32 g.enableB } }
    time := { s.time with counter := 0 } }
  startPtp (startAntennas (startSieve s))

/-- A link that has trained in LOAD is up. -/
def trained (up : Bool) : LinkState := if up then .up else .down

/-- TONGS links train in a pair image (R309, R325); EV_039, EV_040 for one that has not. -/
def finishTongs (t1 t2 : Bool) (s : State) : State :=
  if isPair s then
    let s := setTongs .two (trained t2) (setTongs .one (trained t1) s)
    condition 40 (!t2) (condition 39 (!t1) s)
  else s

/-- STN ports: EV_054, EV_055 from SELFTEST onwards for one that is down (R405). -/
def finishStations (s1 s2 : Bool) (s : State) : State :=
  let s := setStation .two (trained s2) (setStation .one (trained s1) s)
  condition 55 (!s2) (condition 54 (!s1) s)

/-- LOAD ends: the image verified, the internal loop tried. -/
def execLoadComplete (tongs1 tongs2 stn1 stn2 : Bool) (s : State) : Host.Outcome State Fault Refusal :=
  .next (if s.um.mode = .load ∧ s.um.loaded ∧ s.rng.loopTrained.isSome then
      let s := finishTongs tongs1 tongs2 (setUpBlocks s)
      let s := if s.rng.loopTrained = some true then openRelay s else s
      let s := changeMode .selftest 0 s
      reportKey s.sup.keyDue (finishStations stn1 stn2 s)
    else s)

/-! ## The start-up test (R70, R420, R421) -/

/-- A Skillet found failing in the start-up test, or marked before (R70). -/
def startSkillet (s : State) (k : Nat) : State := kettleFailure 0 k 1 true false s

/-- A failing SRAM slice in the start-up test: the state, and whether it is beyond retiring (R421). -/
def startSlice (x : State × Bool) (n : Nat) : State × Bool :=
  let retire (m : Nat) (s : State) : State × Bool :=
    match freeSpare s with
    | some spare => if retirable m then (kettleFailure 1 m 2 true true (useSpare spare m s), x.2) else (kettleFailure 1 m 2 true false s, true)
    | none => (kettleFailure 1 m 2 true false s, true)
  if n < 128 ∨ 256 ≤ n then x
  else if n = 252 ∨ n = 253 then
    match heldBy n x.1 with
    | some m => retire m (dropSpare n x.1)
    | none => (kettleFailure 1 n 3 true false (withdrawSpare n x.1), x.2)
  else retire n x.1

/-- The marks of the start before end: a channel that fails its test anew is marked anew (R337). -/
def dropFailedMarks (s : State) : State :=
  { s with trv := { s.trv with channels := s.trv.channels.map fun c => { c with failed := false, fault := 0 } } }

/-- A safe output channel that fails its off-state test (R337, R420). -/
def startChannel (s : State) (c : Nat × Nat) : State := failChannel c.1 c.2 (kettleFailure 3 c.1 0 true false s)

/-- Skillets that fail or are marked. -/
def lostSkillets (f : SelfTestFindings) (s : State) : List Nat :=
  (List.range 8).filter fun k => f.skillets.contains k || s.fab.marked.contains k

/-- What the start-up test leaves: tile-health record, faults, and whether something other than a Skillet has failed. -/
def testOutcome (f : SelfTestFindings) (s : State) : State × Bool :=
  let lost := lostSkillets f s
  let s := lost.foldl startSkillet s
  let s := { s with fab := { s.fab with marked := lost } }
  let x := f.slices.foldl startSlice (s, false)
  let s := if f.ioFail then kettleFailure 3 0 0 true false x.1 else x.1
  (f.channels.foldl startChannel (dropFailedMarks s), x.2 || f.ioFail || !f.channels.isEmpty)

/-- The entry to STANDBY (R62, R68, R71, R422): the pair mode, the bank on trial, Kettle's rotation, the role. -/
def enterStandby (s : State) : State :=
  let s := changeMode .standby 0 s
  let s := { s with
    um := { s.um with roleWait := 0 }
    fab := { s.fab with variant := s.fab.marked.head? }
    ktl := { s.ktl with pos := 0 }
    mir := { s.mir with mode := { s.mir.mode with pairMode := .standby } } }
  let s := roleTable (standbyBank s)
  { s with mir := { s.mir with mode := { s.mir.mode with modeEpoch := s.ex.epoch } } }

/-- The start-up test has ended: two Skillets lost are HOLD cause 0x09, any other failure that cannot be retired 0x0A (R70). -/
def execSelftestComplete (f : SelfTestFindings) (s : State) : Host.Outcome State Fault Refusal :=
  .next (if s.um.mode = .selftest then
      let x := testOutcome f s
      if 2 ≤ (lostSkillets f s).length then enterHold 9 x.1
      else if x.2 then enterHold 0xA x.1
      else enterStandby x.1
    else s)

end Sys2Proof.Machine
end

