-- ==== Sys2Proof/Machine/UpdateRows.lean ====
section
/-! DEFINITION. The update manager's completions and the recovery loader (R437, R438, R440, R446). -/

namespace Sys2Proof.Machine

/-! ## Staging (R437, R438) -/

/-- The staging area has been erased: it is OPEN (R437). -/
def execStagingEraseComplete (s : State) : Host.Outcome State Fault Refusal :=
  .next (if s.upd.state = 1 then { s with upd := { s.upd with staging := [], state := 2, progress := 0 } } else s)

/-- What VERIFY comes to: VERIFIED with the manifest digest and EV_021, or FAILED with the code of the first check that
fails (R438). -/
def finishVerify (s : State) : State :=
  let code := verifyStaging 6 s
  if code = 0 then
    raise 21 { s with upd := { s.upd with state := 4, staged := manifestDigest (stagedManifest s), progress := 0 } }
  else { s with upd := { s.upd with state := 5, fault := code, progress := 0 } }

def execStagingVerifyComplete (s : State) : Host.Outcome State Fault Refusal :=
  .next (if s.upd.state = 3 then finishVerify s else s)

/-! ## The copy before a restart (R440) -/

/-- The copy has been read back: the bank that is not running is PROVISIONAL and selected, the commit record cleared and staging
EMPTY; reset then asserts. -/
def finishCopy (s : State) : State :=
  let s := installBank (otherSide s.upd.running) false s
  restartUnit { s with upd := { s.upd with commit := none, state := 0, staged := 0, slot := none, progress := 0 } }

def execBankCopyComplete (s : State) : Host.Outcome State Fault Refusal :=
  .next (if s.upd.state = 7 then finishCopy s else s)

/-! ## The recovery loader (R446) -/

/-- The loader answers in RECOVERY. -/
def recovering (s : State) : Bool := s.um.mode == .recovery && !s.um.inReset

/-- The loader's IPv4 address, 169.254.96.1 for unit A and 169.254.96.2 for unit B, and its UDP port. -/
def loaderAddress (s : State) : Nat :=
  match s.um.unit with
  | .a => 0xA9FE6001
  | .b => 0xA9FE6002
def loaderUdpPort : Nat := 47562

/-- The octets of a request before its CRC. -/
def recoveryOctets (op : Nat) (r : RecReq) : List Byte :=
  beBytes 2 r.magic ++ beBytes 1 op ++ beBytes 1 r.zero ++ beBytes 4 r.seq ++ beBytes 4 r.offset ++ beBytes 2 r.length ++ beBytes 2 r.zero2 ++
    r.data

/-- A datagram is a request to this loader: on SVC, at its address and UDP port, with its MAGIC and a good CRC. Any other is not answered
(DESIGN CHOICE, log 169). -/
def loaderTakes (op : Nat) (r : RecReq) (s : State) : Bool :=
  r.port == .svc && r.dest == (loaderAddress s, loaderUdpPort) && r.magic == 0x524C && r.crc == crc32c (recoveryOctets op r)

/-- Response: OP plus 0x80, SEQ, STATUS; it is stored as the last answered request's. -/
def answerRecovery (op : Nat) (r : RecReq) (status : Nat) (s : State) : State :=
  send (.recovery (op + 0x80) r.seq status r.source) { s with upd := { s.upd with recSeq := some r.seq, recOp := op, recStatus := status } }

/-- A request in RECOVERY: one whose SEQ equals that of the last answered request receives the stored response again. -/
def recoveryRequest (op : Nat) (r : RecReq) (act : State → State) (s : State) : State :=
  if recovering s ∧ loaderTakes op r s then
    (if s.upd.recSeq = some r.seq then send (.recovery (s.upd.recOp + 0x80) r.seq s.upd.recStatus r.source) s else act s)
  else s

/-- Erase staging; busy is answered without erasing. -/
def execRecoveryErase (r : RecReq) (busy : Bool) (s : State) : Host.Outcome State Fault Refusal :=
  .next (recoveryRequest 1 r (fun s =>
    if busy then answerRecovery 1 r 2 s
    else answerRecovery 1 r 0 { s with upd := { s.upd with staging := [], recVerified := false } }) s)

/-- A write is well formed: its zero octets are zero, LENGTH is that of the data, at most 1024 and a multiple of 4, and the data lie within
the 48 MB of staging. -/
def recoveryWriteOk (r : RecReq) : Bool :=
  r.zero == 0 && r.zero2 == 0 && r.length == r.data.length && decide (r.length ≤ 1024) && r.length % 4 == 0 &&
    decide (r.offset + r.length ≤ stagingSize)

/-- Write data at OFFSET. What was verified is verified no longer. -/
def execRecoveryWrite (r : RecReq) (s : State) : Host.Outcome State Fault Refusal :=
  .next (recoveryRequest 2 r (fun s =>
    if recoveryWriteOk r then
      answerRecovery 2 r 0 { s with upd := { s.upd with staging := memWrites 0xFF r.offset r.data s.upd.staging, recVerified := false } }
    else answerRecovery 2 r 1 s) s)

/-- Verify under R438, steps 1 to 4. -/
def execRecoveryVerify (r : RecReq) (s : State) : Host.Outcome State Fault Refusal :=
  .next (recoveryRequest 3 r (fun s =>
    let code := verifyStaging 4 s
    answerRecovery 3 r (if code = 0 then 0 else 0x10 + code) { s with upd := { s.upd with recVerified := code == 0 } }) s)

/-- The bank that an install writes: the one not marked CONFIRMED, bank A when neither is. -/
def installTarget (s : State) : Side := if s.upd.bankA.state = .confirmed then .two else .one

/-- Install the verified content; the response goes out before reset, and the unit starts in BOOT with LOC_RESET_CAUSE 4. -/
def execRecoveryInstall (r : RecReq) (s : State) : Host.Outcome State Fault Refusal :=
  .next (recoveryRequest 4 r (fun s =>
    if s.upd.recVerified then
      let s := answerRecovery 4 r 0 (installBank (installTarget s) true s)
      let sent := s.out
      let s := writeDue (changeMode .boot 0 s)
      let s := resetUnit .endOfRecovery s.um.unit s.pnl.crack (assertReset true s)
      { s with out := sent }
    else answerRecovery 4 r 3 s) s)

end Sys2Proof.Machine
end

