-- ==== Sys2Proof/Machine/Dispatch.lean ====
section
/-! DEFINITION. The meaning of every command: one arm for each constructor, one direct call each. -/

namespace Sys2Proof.Machine

/-- The effect of a command on everything but the queue. -/
def exec (i : Instr) (s : State) : Host.Outcome State Fault Refusal :=
  match i with
  | .resetRelease cause strapHigh crackOpen => Sys2Proof.Machine.execResetRelease cause strapHigh crackOpen s
  | .supplyReset volts closeOutCompletes => Sys2Proof.Machine.execSupplyReset volts closeOutCompletes s
  | .clockMonitorReset => Sys2Proof.Machine.execClockMonitorReset s
  | .clockMonitorRelease nowMs strapHigh crackOpen => Sys2Proof.Machine.execClockMonitorRelease nowMs strapHigh crackOpen s
  | .bootComplete headerOk bankA bankB => Sys2Proof.Machine.execBootComplete headerOk bankA bankB s
  | .keyReading k => Sys2Proof.Machine.execKeyReading k s
  | .loadComplete tongs1 tongs2 stn1 stn2 => Sys2Proof.Machine.execLoadComplete tongs1 tongs2 stn1 stn2 s
  | .ringLoopTrained => Sys2Proof.Machine.execRingLoopTrained s
  | .ringLoopTimeout => Sys2Proof.Machine.execRingLoopTimeout s
  | .selftestComplete f => Sys2Proof.Machine.execSelftestComplete f s
  | .unitBRoleWaitExpiry => Sys2Proof.Machine.execUnitBRoleWaitExpiry s
  | .inputCutoff levels => Sys2Proof.Machine.execInputCutoff levels s
  | .holdEntry => Sys2Proof.Machine.execHoldEntry s
  | .variantChange => Sys2Proof.Machine.execVariantChange s
  | .heartbeatSend ticks => Sys2Proof.Machine.execHeartbeatSend ticks s
  | .updateStatusSend => Sys2Proof.Machine.execUpdateStatusSend s
  | .acknowledgementSend => Sys2Proof.Machine.execAcknowledgementSend s
  | .inputCommit late => Sys2Proof.Machine.execInputCommit late s
  | .fastWork => Sys2Proof.Machine.execFastWork s
  | .positionGradeRise => Sys2Proof.Machine.execPositionGradeRise s
  | .disputeEnd heading => Sys2Proof.Machine.execDisputeEnd heading s
  | .disputeLimit heading => Sys2Proof.Machine.execDisputeLimit heading s
  | .timeSuspectExit source => Sys2Proof.Machine.execTimeSuspectExit source s
  | .deadReckoningLimit => Sys2Proof.Machine.execDeadReckoningLimit s
  | .headingLost => Sys2Proof.Machine.execHeadingLost s
  | .estimatorGateMet => Sys2Proof.Machine.execEstimatorGateMet s
  | .skippedUpdateLimit => Sys2Proof.Machine.execSkippedUpdateLimit s
  | .allocationSaturation => Sys2Proof.Machine.execAllocationSaturation s
  | .zeroThrustFallback => Sys2Proof.Machine.execZeroThrustFallback s
  | .feedbackTimeout unit => Sys2Proof.Machine.execFeedbackTimeout unit s
  | .feedbackDiscrepancy unit => Sys2Proof.Machine.execFeedbackDiscrepancy unit s
  | .thrustUnitRejoin unit => Sys2Proof.Machine.execThrustUnitRejoin unit s
  | .sectionLimitStale sec => Sys2Proof.Machine.execSectionLimitStale sec s
  | .plantReportStale => Sys2Proof.Machine.execPlantReportStale s
  | .joystickPanelTimeout panel => Sys2Proof.Machine.execJoystickPanelTimeout panel s
  | .gnssEngineLost engine => Sys2Proof.Machine.execGnssEngineLost engine s
  | .sltTrip channel => Sys2Proof.Machine.execSltTrip channel s
  | .stsTrip channel => Sys2Proof.Machine.execStsTrip channel s
  | .slsTrip => Sys2Proof.Machine.execSlsTrip s
  | .slsBlind => Sys2Proof.Machine.execSlsBlind s
  | .digestSend => Sys2Proof.Machine.execDigestSend s
  | .fastWorkOverrun => Sys2Proof.Machine.execFastWorkOverrun s
  | .emissionDecision => Sys2Proof.Machine.execEmissionDecision s
  | .arbitrationOutcomeSend upset => Sys2Proof.Machine.execArbitrationOutcomeSend upset s
  | .arbitrationDecision => Sys2Proof.Machine.execArbitrationDecision s
  | .commandFrameEmit startNs => Sys2Proof.Machine.execCommandFrameEmit startNs s
  | .safeOutputSwitch => Sys2Proof.Machine.execSafeOutputSwitch s
  | .canRelease offsetUs => Sys2Proof.Machine.execCanRelease offsetUs s
  | .canWithdrawal bus message offsetUs onWire => Sys2Proof.Machine.execCanWithdrawal bus message offsetUs onWire s
  | .slowWorkSlice => Sys2Proof.Machine.execSlowWorkSlice s
  | .snapshotPublish r => Sys2Proof.Machine.execSnapshotPublish r s
  | .snapshotSkip => Sys2Proof.Machine.execSnapshotSkip s
  | .recorderWrite => Sys2Proof.Machine.execRecorderWrite s
  | .trivetRecordClose levels => Sys2Proof.Machine.execTrivetRecordClose levels s
  | .antivalenceFault pair => Sys2Proof.Machine.execAntivalenceFault pair s
  | .antivalenceFaultClear pair => Sys2Proof.Machine.execAntivalenceFaultClear pair s
  | .outputTestPulse sw => Sys2Proof.Machine.execOutputTestPulse sw s
  | .offPulseTest => Sys2Proof.Machine.execOffPulseTest s
  | .pulseSenseCheck channel level => Sys2Proof.Machine.execPulseSenseCheck channel level s
  | .senseNodeCheck h l => Sys2Proof.Machine.execSenseNodeCheck h l s
  | .outputOvercurrent channel => Sys2Proof.Machine.execOutputOvercurrent channel s
  | .outputTestOverdue channel => Sys2Proof.Machine.execOutputTestOverdue channel s
  | .pwrOutOutOfRange volts => Sys2Proof.Machine.execPwrOutOutOfRange volts s
  | .pwrOutRestored volts => Sys2Proof.Machine.execPwrOutRestored volts s
  | .wirechkTimeout channel => Sys2Proof.Machine.execWirechkTimeout channel s
  | .tongsRecordFrameRx h records => Sys2Proof.Machine.execTongsRecordFrameRx h records s
  | .tongsAckRx h ids => Sys2Proof.Machine.execTongsAckRx h ids s
  | .tongsDigestRx h body => Sys2Proof.Machine.execTongsDigestRx h body s
  | .tongsHeartbeatRx h body rxTick => Sys2Proof.Machine.execTongsHeartbeatRx h body rxTick s
  | .tongsPageRx h page content => Sys2Proof.Machine.execTongsPageRx h page content s
  | .tongsAuditRx h firstPage digests => Sys2Proof.Machine.execTongsAuditRx h firstPage digests s
  | .tongsOutcomeRx h isMatch => Sys2Proof.Machine.execTongsOutcomeRx h isMatch s
  | .tongsUpdateStatusRx h body => Sys2Proof.Machine.execTongsUpdateStatusRx h body s
  | .ringCommandFrameRx rx f => Sys2Proof.Machine.execRingCommandFrameRx rx f s
  | .ringHeartbeatRx rx f => Sys2Proof.Machine.execRingHeartbeatRx rx f s
  | .ringFrameForward f => Sys2Proof.Machine.execRingFrameForward f s
  | .feedbackFrameRx rx tick fb => Sys2Proof.Machine.execFeedbackFrameRx rx tick fb s
  | .canMessageRx m => Sys2Proof.Machine.execCanMessageRx m s
  | .serialSentenceRx x => Sys2Proof.Machine.execSerialSentenceRx x s
  | .sieveSample w => Sys2Proof.Machine.execSieveSample w s
  | .gnssSolution g => Sys2Proof.Machine.execGnssSolution g s
  | .channelReallocation engine antenna0 antenna1 => Sys2Proof.Machine.execChannelReallocation engine antenna0 antenna1 s
  | .multipathFit engine antenna signal => Sys2Proof.Machine.execMultipathFit engine antenna signal s
  | .antennaShort engine antenna currentMa => Sys2Proof.Machine.execAntennaShort engine antenna currentMa s
  | .antennaOpen engine antenna => Sys2Proof.Machine.execAntennaOpen engine antenna s
  | .antennaSupplyRetry engine antenna stillShort => Sys2Proof.Machine.execAntennaSupplyRetry engine antenna stillShort s
  | .ptpMessageRx port ring h body => Sys2Proof.Machine.execPtpMessageRx port ring h body s
  | .txStamp ident tick => Sys2Proof.Machine.execTxStamp ident tick s
  | .txStampExpiry => Sys2Proof.Machine.execTxStampExpiry s
  | .hapRead r addr count => Sys2Proof.Machine.execHapRead r addr count s
  | .registerWrite r addr words => Sys2Proof.Machine.execRegisterWrite r addr words s
  | .hapOpen r slot notify clientNonce serverNonce newId => Sys2Proof.Machine.execHapOpen r slot notify clientNonce serverNonce newId s
  | .hapClose r => Sys2Proof.Machine.execHapClose r s
  | .snapHold r => Sys2Proof.Machine.execSnapHold r s
  | .snapRelease r => Sys2Proof.Machine.execSnapRelease r s
  | .keepalive r => Sys2Proof.Machine.execKeepalive r s
  | .notifyAck r nseq => Sys2Proof.Machine.execNotifyAck r nseq s
  | .notificationResend slot => Sys2Proof.Machine.execNotificationResend slot s
  | .sessionTimeout slot => Sys2Proof.Machine.execSessionTimeout slot s
  | .snapshotHoldExpiry => Sys2Proof.Machine.execSnapshotHoldExpiry s
  | .cmdToStandby p => Sys2Proof.Machine.execCmdToStandby p s
  | .cmdToActive p func berth => Sys2Proof.Machine.execCmdToActive p func berth s
  | .cmdSelectFunction p func berth => Sys2Proof.Machine.execCmdSelectFunction p func berth s
  | .cmdToMaintenance p => Sys2Proof.Machine.execCmdToMaintenance p s
  | .locRestart p => Sys2Proof.Machine.execLocRestart p s
  | .locMaint p => Sys2Proof.Machine.execLocMaint p s
  | .locDmpRelease p => Sys2Proof.Machine.execLocDmpRelease p s
  | .evtAckAll p => Sys2Proof.Machine.execEvtAckAll p s
  | .evtAckEvent p event => Sys2Proof.Machine.execEvtAckEvent p event s
  | .evtMask p bank mask => Sys2Proof.Machine.execEvtMask p bank mask s
  | .logClear p unit token => Sys2Proof.Machine.execLogClear p unit token s
  | .mrtCntClear p => Sys2Proof.Machine.execMrtCntClear p s
  | .ldlCntClear p => Sys2Proof.Machine.execLdlCntClear p s
  | .estRestart p => Sys2Proof.Machine.execEstRestart p s
  | .estBaAccept p slot seq => Sys2Proof.Machine.execEstBaAccept p slot seq s
  | .estBaReject p slot seq => Sys2Proof.Machine.execEstBaReject p slot seq s
  | .alcUnitEnable p mask => Sys2Proof.Machine.execAlcUnitEnable p mask s
  | .alcPushForce p value => Sys2Proof.Machine.execAlcPushForce p value s
  | .alcTest p unit => Sys2Proof.Machine.execAlcTest p unit s
  | .alcTestThrust p value => Sys2Proof.Machine.execAlcTestThrust p value s
  | .alcTestAz p value => Sys2Proof.Machine.execAlcTestAz p value s
  | .mpcTargetWrite p first values => Sys2Proof.Machine.execMpcTargetWrite p first values s
  | .mpcTrkCtrl p count => Sys2Proof.Machine.execMpcTrkCtrl p count s
  | .mpcTrkWaypointWrite p first values => Sys2Proof.Machine.execMpcTrkWaypointWrite p first values s
  | .wskDisputeSel p value => Sys2Proof.Machine.execWskDisputeSel p value s
  | .wskExclude p value => Sys2Proof.Machine.execWskExclude p value s
  | .gnaSysEnable p engine value => Sys2Proof.Machine.execGnaSysEnable p engine value s
  | .sivSetSelect p chain value => Sys2Proof.Machine.execSivSetSelect p chain value s
  | .canRestart p buses => Sys2Proof.Machine.execCanRestart p buses s
  | .canWarnWrite p bus value => Sys2Proof.Machine.execCanWarnWrite p bus value s
  | .tngSwap p => Sys2Proof.Machine.execTngSwap p s
  | .trvReset p mask => Sys2Proof.Machine.execTrvReset p mask s
  | .trvWirechkOn p channel => Sys2Proof.Machine.execTrvWirechkOn p channel s
  | .trvWirechkOff p channel => Sys2Proof.Machine.execTrvWirechkOff p channel s
  | .pnlRefresh p => Sys2Proof.Machine.execPnlRefresh p s
  | .lifeCycleTransition p unit token => Sys2Proof.Machine.execLifeCycleTransition p unit token s
  | .ktlManualSkilletTest p item => Sys2Proof.Machine.execKtlManualSkilletTest p item s
  | .ktlManualSliceMarch p item => Sys2Proof.Machine.execKtlManualSliceMarch p item s
  | .ktlManualOutputTest p item => Sys2Proof.Machine.execKtlManualOutputTest p item s
  | .ktlInjectCorrectable p item => Sys2Proof.Machine.execKtlInjectCorrectable p item s
  | .ktlInjectUncorrectable p item => Sys2Proof.Machine.execKtlInjectUncorrectable p item s
  | .ktlInjectSkilletFail p item => Sys2Proof.Machine.execKtlInjectSkilletFail p item s
  | .manualActionComplete pass => Sys2Proof.Machine.execManualActionComplete pass s
  | .locKtlClear p value => Sys2Proof.Machine.execLocKtlClear p value s
  | .updOpen p => Sys2Proof.Machine.execUpdOpen p s
  | .updVerify p => Sys2Proof.Machine.execUpdVerify p s
  | .updDiscard p => Sys2Proof.Machine.execUpdDiscard p s
  | .stagingEraseComplete => Sys2Proof.Machine.execStagingEraseComplete s
  | .stagingVerifyComplete => Sys2Proof.Machine.execStagingVerifyComplete s
  | .updCommit p hi lo => Sys2Proof.Machine.execUpdCommit p hi lo s
  | .bankCopyComplete => Sys2Proof.Machine.execBankCopyComplete s
  | .txqOvfClear p => Sys2Proof.Machine.execTxqOvfClear p s
  | .blkSel r value => Sys2Proof.Machine.execBlkSel r value s
  | .blkAddr r value => Sys2Proof.Machine.execBlkAddr r value s
  | .blkDataRead r count => Sys2Proof.Machine.execBlkDataRead r count s
  | .blkDataWrite r words => Sys2Proof.Machine.execBlkDataWrite r words s
  | .recoveryErase r busy => Sys2Proof.Machine.execRecoveryErase r busy s
  | .recoveryWrite r => Sys2Proof.Machine.execRecoveryWrite r s
  | .recoveryVerify r => Sys2Proof.Machine.execRecoveryVerify r s
  | .recoveryInstall r => Sys2Proof.Machine.execRecoveryInstall r s
  | .lockstepMismatch p => Sys2Proof.Machine.execLockstepMismatch p s
  | .watchdogExpiry p => Sys2Proof.Machine.execWatchdogExpiry p s
  | .eccUncorrectable f => Sys2Proof.Machine.execEccUncorrectable f s
  | .eccCorrected f => Sys2Proof.Machine.execEccCorrected f s
  | .mramUncorrectable item => Sys2Proof.Machine.execMramUncorrectable item s
  | .fatalDumpComplete processorState => Sys2Proof.Machine.execFatalDumpComplete processorState s
  | .busWarning volts => Sys2Proof.Machine.execBusWarning volts s
  | .inputAbsent side => Sys2Proof.Machine.execInputAbsent side s
  | .overvoltageDisconnect side => Sys2Proof.Machine.execOvervoltageDisconnect side s
  | .holdupReady => Sys2Proof.Machine.execHoldupReady s
  | .ocxoStable => Sys2Proof.Machine.execOcxoStable s
  | .ocxoWarmupOverdue => Sys2Proof.Machine.execOcxoWarmupOverdue s
  | .temperatureWarning base => Sys2Proof.Machine.execTemperatureWarning base s
  | .temperatureLimit base => Sys2Proof.Machine.execTemperatureLimit base s
  | .keyPresenceChange seated heldEpochs => Sys2Proof.Machine.execKeyPresenceChange seated heldEpochs s
  | .ringLinkDown port => Sys2Proof.Machine.execRingLinkDown port s
  | .ringLinkUp port => Sys2Proof.Machine.execRingLinkUp port s
  | .ringLinkTrainTimeout port => Sys2Proof.Machine.execRingLinkTrainTimeout port s
  | .ringBroken => Sys2Proof.Machine.execRingBroken s
  | .ringRestored => Sys2Proof.Machine.execRingRestored s
  | .ringFrameErrors => Sys2Proof.Machine.execRingFrameErrors s
  | .tongsLinkDown port => Sys2Proof.Machine.execTongsLinkDown port s
  | .tongsLinkUp port => Sys2Proof.Machine.execTongsLinkUp port s
  | .tongsPathLost => Sys2Proof.Machine.execTongsPathLost s
  | .tongsPathReturn => Sys2Proof.Machine.execTongsPathReturn s
  | .ringPathLost => Sys2Proof.Machine.execRingPathLost s
  | .unmirroredStandbyEntry => Sys2Proof.Machine.execUnmirroredStandbyEntry s
  | .stationLinkDown port => Sys2Proof.Machine.execStationLinkDown port s
  | .stationFrameErrors frames => Sys2Proof.Machine.execStationFrameErrors frames s
  | .epochLockAcquired => Sys2Proof.Machine.execEpochLockAcquired s
  | .epochLockLost => Sys2Proof.Machine.execEpochLockLost s
  | .joinEnd => Sys2Proof.Machine.execJoinEnd s
  | .copyEnd => Sys2Proof.Machine.execCopyEnd s
  | .settleEnd => Sys2Proof.Machine.execSettleEnd s
  | .auditEnd => Sys2Proof.Machine.execAuditEnd s
  | .resyncAttemptFailed => Sys2Proof.Machine.execResyncAttemptFailed s
  | .resyncBackoffEnd => Sys2Proof.Machine.execResyncBackoffEnd s
  | .canErrorWarning bus tec rec => Sys2Proof.Machine.execCanErrorWarning bus tec rec s
  | .canErrorPassive bus tec rec => Sys2Proof.Machine.execCanErrorPassive bus tec rec s
  | .canBusOff bus => Sys2Proof.Machine.execCanBusOff bus s
  | .canBusRecovery bus => Sys2Proof.Machine.execCanBusRecovery bus s
  | .serialSourceSilent source => Sys2Proof.Machine.execSerialSourceSilent source s
  | .serialPortErrors port => Sys2Proof.Machine.execSerialPortErrors port s
  | .ppsEdge => Sys2Proof.Machine.execPpsEdge s
  | .ppsMessageSend => Sys2Proof.Machine.execPpsMessageSend s
  | .incrementUpdate => Sys2Proof.Machine.execIncrementUpdate s
  | .sourceSelection => Sys2Proof.Machine.execSourceSelection s
  | .sourceQualified src => Sys2Proof.Machine.execSourceQualified src s
  | .sourceDisqualified src => Sys2Proof.Machine.execSourceDisqualified src s
  | .disciplineDisqualify src => Sys2Proof.Machine.execDisciplineDisqualify src s
  | .holdoverEntry => Sys2Proof.Machine.execHoldoverEntry s
  | .holdoverEnd => Sys2Proof.Machine.execHoldoverEnd s
  | .slewComplete => Sys2Proof.Machine.execSlewComplete s
  | .gnssTimeMeasurement engine => Sys2Proof.Machine.execGnssTimeMeasurement engine s
  | .pairTimeMeasurement => Sys2Proof.Machine.execPairTimeMeasurement s
  | .panelEvaluation => Sys2Proof.Machine.execPanelEvaluation s
  | .panelRowComplete => Sys2Proof.Machine.execPanelRowComplete s
  | .compensationLineComplete => Sys2Proof.Machine.execCompensationLineComplete s
  | .panelTemperatureRead temp => Sys2Proof.Machine.execPanelTemperatureRead temp s
  | .frameMemoryCrcCheck => Sys2Proof.Machine.execFrameMemoryCrcCheck s
  | .panelCrack openEpochs => Sys2Proof.Machine.execPanelCrack openEpochs s
  | .kettleOpportunity chunkCrc => Sys2Proof.Machine.execKettleOpportunity chunkCrc s
  | .sramMarchComplete pass => Sys2Proof.Machine.execSramMarchComplete pass s
  | .skilletTestVerdict pass => Sys2Proof.Machine.execSkilletTestVerdict pass s
  | .knownAnswerFailure skillet => Sys2Proof.Machine.execKnownAnswerFailure skillet s
  | .sliceRetire => Sys2Proof.Machine.execSliceRetire s
  | .kettleSliceOverdue => Sys2Proof.Machine.execKettleSliceOverdue s
  | .optimeSave => Sys2Proof.Machine.execOptimeSave s
  | .trivetSample levels => Sys2Proof.Machine.execTrivetSample levels s
  | .testPulseEnd => Sys2Proof.Machine.execTestPulseEnd s
  | .offPulseEnd reached => Sys2Proof.Machine.execOffPulseEnd reached s
  | .busWarningClear volts => Sys2Proof.Machine.execBusWarningClear volts s
  | .inputReturn side => Sys2Proof.Machine.execInputReturn side s
  | .overvoltageReconnect side => Sys2Proof.Machine.execOvervoltageReconnect side s
  | .temperatureFall base => Sys2Proof.Machine.execTemperatureFall base s
  | .stationLinkUp port => Sys2Proof.Machine.execStationLinkUp port s
  | .svcLinkUp => Sys2Proof.Machine.execSvcLinkUp s
  | .svcLinkDown => Sys2Proof.Machine.execSvcLinkDown s
  | .crackLoopClosed => Sys2Proof.Machine.execCrackLoopClosed s
  | .ptpMessageSend port ring kind seq => Sys2Proof.Machine.execPtpMessageSend port ring kind seq s
  | .announceReceiptTimeout port => Sys2Proof.Machine.execAnnounceReceiptTimeout port s
  | .supervisionFrameSend => Sys2Proof.Machine.execSupervisionFrameSend s
  | .canTransmitComplete bus message => Sys2Proof.Machine.execCanTransmitComplete bus message s
  | .burdenOvercurrent chain currentUa => Sys2Proof.Machine.execBurdenOvercurrent chain currentUa s
  | .burdenReconnect chain => Sys2Proof.Machine.execBurdenReconnect chain s

end Sys2Proof.Machine
end

