-- ==== Sys2Proof/Machine/Frames.lean ====
section
/-! DEFINITION. The octets of every frame that a unit sends, and the ports that it leaves by (R14, R236, R270 to R274, R281, R310 to R312,
R374, R444, R446). -/

namespace Sys2Proof.Machine

/-- A port of the unit. -/
inductive Port where
  | ring1 | ring2 | tongs1 | tongs2 | stn1 | stn2 | svc
  | can (bus : Nat)
deriving DecidableEq, Repr, Inhabited

/-- A payload with its CRC-32C (R271). -/
def withCrc (l : List Byte) : List Byte := l ++ beBytes 4 (crc32c l)

/-! ## Tongs (R310 to R312, R444) -/

/-- TYPE of a Tongs frame (R311, R444). -/
def tongsType : OutFrame → Option Nat
  | .record .. => some 0x41
  | .ack _ => some 0x42
  | .digest _ => some 0x43
  | .heartbeat _ => some 0x44
  | .page .. => some 0x45
  | .audit .. => some 0x46
  | .outcome _ => some 0x47
  | .updateStatus _ => some 0x48
  | _ => none

/-- INDEX and COUNT of a Tongs frame (R310). -/
def tongsPlace : OutFrame → Nat × Nat
  | .record i n _ => (i, n)
  | .page i n _ _ => (i, n)
  | _ => (0, 1)

/-- The identity of a record in 8 octets, with its second octet (R311). -/
def identityBytes (second : Nat) (r : RecordId) : List Byte :=
  beBytes 1 (unitCode r.origin) ++ beBytes 1 second ++ beBytes 2 r.source ++ beBytes 4 r.seq

/-- Body of the Tongs heartbeat: octets 16 to 91 (R312). -/
def heartbeatBytes (b : HeartbeatBody) : List Byte :=
  beBytes 1 (modeCode b.mode) ++
    beBytes 1 (flag b.mirrored + 2 * flag b.single + 4 * flag b.locked + 8 * phaseCode b.phase) ++ beBytes 1 b.holdCause ++ beBytes 1 0 ++
    beBytes 8 b.imageId ++ beBytes 8 b.fwDigest ++ beBytes 8 b.txTick ++ beBytes 8 b.txTime ++ beBytes 8 b.echoTick ++ beBytes 8 b.echoRx ++
    beBytes 8 b.copyStart ++ beBytes 8 b.stepAt ++ beBytes 4 (codeS 32 (some b.stepNs)) ++ beBytes 4 0

/-- Body of a Tongs frame, from octet 16 (R311, R312, R444). -/
def tongsBody : OutFrame → List Byte
  | .record _ _ l => beBytes 2 l.length ++ beBytes 2 0 ++ (l.map recordBytes).flatten
  | .ack ids => beBytes 2 ids.length ++ beBytes 2 0 ++ (ids.map (identityBytes 0)).flatten
  | .digest b =>
    beBytes 1 (flag b.overrun + 2 * phaseCode b.phase) ++ beBytes 1 b.votes.length ++ beBytes 2 0 ++ beBytes 8 b.command ++
      beBytes 8 b.commit ++ (b.votes.map fun v => identityBytes (if v.accept then 1 else 2) v.id).flatten
  | .heartbeat b => heartbeatBytes b
  | .page _ _ n content => beBytes 2 n ++ beBytes 2 0 ++ content
  | .audit first digests => beBytes 2 first ++ beBytes 2 0 ++ (digests.map (beBytes 8)).flatten
  | .outcome m => beBytes 1 (if m then 1 else 2) ++ beBytes 3 0
  | .updateStatus b =>
    beBytes 1 b.state ++ beBytes 1 (flag b.provisional) ++ beBytes 2 0 ++ beBytes 8 b.committed ++ beBytes 8 0
  | _ => []

/-- The payload of a Tongs frame: header, body, CRC (R310). -/
def tongsPayload (type : Nat) (x : Sent) : List Byte :=
  let body := tongsBody x.frame
  let place := tongsPlace x.frame
  withCrc (beBytes 1 type ++ beBytes 1 1 ++ beBytes 2 (16 + body.length + 4) ++ beBytes 6 x.epoch ++ beBytes 1 (unitCode x.unit) ++
    beBytes 1 (roleCode x.role) ++ beBytes 2 place.1 ++ beBytes 2 place.2 ++ body)

/-! ## The ring (R270 to R274, R281) -/

/-- The 420 octets of a command frame (R272). -/
def commandFrameBytes (f : CommandFrame) : List Byte :=
  withCrc (beBytes 1 1 ++ beBytes 1 1 ++ beBytes 2 420 ++ beBytes 4 f.epoch ++ beBytes 1 (unitCode f.unit) ++ beBytes 1 (roleCode f.role) ++
    beBytes 1 (flag f.authority + 2 * flag f.single + 4 * flag f.notMirrored) ++ beBytes 1 ((f.func.map funcCode).getD 0) ++
    beBytes 2 f.seq ++ beBytes 2 0 ++ beBytes 8 f.imageId ++ beBytes 8 f.digest ++ (mapAt f.setPoints setPointBytes).flatten)

/-- The 40 octets of a ring heartbeat (R281). -/
def ringHeartbeatBytes (f : RingHeartbeat) : List Byte :=
  withCrc (beBytes 1 3 ++ beBytes 1 1 ++ beBytes 2 40 ++ beBytes 4 f.epoch ++ beBytes 1 (unitCode f.unit) ++ beBytes 1 (roleCode f.role) ++
    beBytes 1 (modeCode f.mode) ++ beBytes 1 (flag f.mirrored + 2 * flag f.single) ++ beBytes 1 f.holdCause ++ beBytes 3 0 ++
    beBytes 8 f.imageId ++ beBytes 8 f.fwDigest ++ beBytes 4 0)

/-! ## Datagrams (R236, R374, R446) -/

/-- The 24 octets of a PPS message (R236). -/
def ppsBytes (unit : UnitId) (flags edge qerr uncert : Nat) (step : Int) : List Byte :=
  beBytes 1 1 ++ beBytes 1 (unitCode unit) ++ beBytes 1 flags ++ beBytes 1 0 ++ beBytes 8 edge ++ beBytes 4 qerr ++ beBytes 4 uncert ++
    beBytes 4 (codeS 32 (some step))

/-- A HAP response with its MAC (R374). -/
def hapBytes (r : Response) : List Byte := responseBytes r r.mac.length ++ r.mac

/-- A response of RECOVERY (R446). -/
def recoveryBytes (op seq status : Nat) : List Byte := withCrc (beBytes 2 0x524C ++ beBytes 1 op ++ beBytes 4 seq ++ beBytes 1 status)

/-- The payload of an HSR supervision frame: path and version, supervision sequence number, the node's address (TLV 23), end. PRESUMED
IEC 62439-3 (log 157). -/
def supervisionBytes (seq node : Nat) : List Byte :=
  beBytes 2 1 ++ beBytes 2 seq ++ beBytes 1 23 ++ beBytes 1 6 ++ beBytes 6 node ++ beBytes 2 0

/-- The payload of a sent frame. The octets of a PTP message are those of its own standard, which the manual does not give; a forwarded
frame keeps its own. -/
def payloadOf (x : Sent) : Option (List Byte) :=
  match tongsType x.frame with
  | some t => some (tongsPayload t x)
  | none =>
    match x.frame with
    | .command f => some (commandFrameBytes f)
    | .ringHeartbeat f => some (ringHeartbeatBytes f)
    | .pps u fl e q un st => some (ppsBytes u fl e q un st)
    | .response r => some (hapBytes r)
    | .recovery op seq status _ => some (recoveryBytes op seq status)
    | .supervision seq node => some (supervisionBytes seq node)
    | .can _ _ _ _ p => some p
    | _ => none

/-- The ports that a sent frame leaves by: a Tongs frame by both links (R41), an own ring frame by both ring ports (R266), the PPS message by
both station ports (R236), a HAP response by the port of its request (R370). -/
def portsOf (f : OutFrame) : List Port :=
  match f with
  | .command _ | .ringHeartbeat _ | .supervision .. => [.ring1, .ring2]
  | .forwarded p .. => [match p with | .one => .ring1 | .two => .ring2]
  | .can bus .. => [.can bus]
  | .pps .. => [.stn1, .stn2]
  | .ptp p ring .. => [match p, ring with
    | .one, true => .ring1
    | .two, true => .ring2
    | .one, false => .stn1
    | .two, false => .stn2]
  | .recovery .. => [.svc]
  | .response r => [match r.port with
    | .stn1 => .stn1
    | .stn2 => .stn2
    | .svc => .svc]
  | _ => [.tongs1, .tongs2]

/-- Addressing of an Ethernet frame: destination and source, VLAN tag (PCP in its top bits, VLAN ID below), HSR sequence number, EtherType. -/
structure Framing where
  dst : Nat
  src : Nat
  vlan : Option Nat
  hsrSeq : Option Nat
  etherType : Nat
deriving DecidableEq, Repr, Inhabited

/-- PCP 7 and a VLAN ID as a tag (R270). -/
def vlanTag (id : Nat) : Nat := 7 * 2 ^ 13 + id % 4096

/-- Addressing of a sent Tongs, command, heartbeat or supervision frame (R266, R270, R310). -/
def framingOf (img : Image) (net : NetDecl) (x : Sent) : Option Framing :=
  match x.frame with
  | .command _ => some ⟨img.ringDst.getD 0 0, net.ring, some (vlanTag img.vlan), some x.hsrSeq, 0x88B5⟩
  | .ringHeartbeat _ => some ⟨img.ringDst.getD 2 0, net.ring, some (vlanTag img.vlan), some x.hsrSeq, 0x88B5⟩
  | .supervision .. => some ⟨0x01154E000100, net.ring, none, some x.hsrSeq, 0x88FB⟩
  | f => if (tongsType f).isSome then some ⟨0x03005C960004, net.tongs, none, none, 0x88B5⟩ else none

/-- The HSR tag: EtherType 0x892F (R266), path identifier 0 with the size of what follows it, sequence number. PRESUMED IEC 62439-3
(log 157). -/
def hsrTag (seq size : Nat) : List Byte := beBytes 2 0x892F ++ beBytes 2 (size % 4096) ++ beBytes 2 seq

/-- An Ethernet frame in the order of R270: addresses, 802.1Q tag, HSR tag, EtherType, payload, frame check sequence. -/
def frameOctets (f : Framing) (payload : List Byte) : List Byte :=
  let vlan := match f.vlan with
    | some t => beBytes 2 0x8100 ++ beBytes 2 t
    | none => []
  let tag := match f.hsrSeq with
    | some n => hsrTag n (payload.length + 6)
    | none => []
  let body := beBytes 6 f.dst ++ beBytes 6 f.src ++ vlan ++ tag ++ beBytes 2 f.etherType ++ payload
  body ++ (beBytes 4 (crc32 body)).reverse

/-- The octets of a sent frame whose addressing the manual gives. -/
def wireOctets (img : Image) (net : NetDecl) (x : Sent) : Option (List Byte) :=
  match framingOf img net x, payloadOf x with
  | some f, some p => some (frameOctets f p)
  | _, _ => none

/-- Where a datagram goes, address and UDP port: the PPS message where the image says (R236), a response to the source of its request
(R370, R446). -/
def datagramTo (img : Image) (f : OutFrame) : Option (Nat × Nat) :=
  match f with
  | .pps .. => some (img.ppsAddr, img.ppsPort)
  | .response r => some r.dest
  | .recovery _ _ _ d => some d
  | _ => none

end Sys2Proof.Machine
end

