-- ==== Sys2Proof/Machine/Problem.lean ====
section
/-! DEFINITION. The problems that the compiled schedules solve, over exact values: the articulated-body step (R165 to R167), thrust
allocation (R173 to R176), the plan and the cases (R182, R183, R191). The machine runs the schedules that it is given; these are what
Nymnil compiles them from (log 150). -/

namespace Sys2Proof.Machine

/-- Exact values of what an instance reads, by name (R110). -/
abbrev Data := AsmName → Rat

/-- The data of an instance: its inputs, with the compiled substitution for an absent one; a NaN among them makes it fail (R118). -/
def dataOf (sch : Schedule) (l : List (AsmName × AsmInput)) : Data := fun n => (ratOf sch n l).getD 0

/-- Magnitude of a value. -/
def ratSize (q : Rat) : Rat := if 0 ≤ q then q else -q

/-- Sum of some values. -/
def total (l : List Rat) : Rat := l.foldl (· + ·) 0

/-! ## A unit's block (R173, R174) -/

/-- The primal variables of a unit: force along x and y, kN, and power, kW (R173). -/
structure Thrust where
  fx : Rat := 0
  fy : Rat := 0
  p : Rat := 0
deriving DecidableEq, Repr, Inhabited

/-- The linear power relation about T_prev: p(T_prev) + p′(T_prev) × (thrust − T_prev). -/
def powerLine (j : Nat) (d : Data) (thrust : Rat) : Rat :=
  d (.power j 0) + d (.power j 1) / d (.power j 2) * (thrust - d (.power j 5))

/-- Midpoint and half-width of the thrust interval; the inputs hold twice their codes at 9 fraction bits. -/
def withinInterval (j : Nat) (d : Data) (f : Rat) : Bool := decide ((f - d (.limit j 3)) ^ 2 ≤ d (.limit j 4) ^ 2)

/-- The sector half-plane nᵀF ≥ 0. -/
def withinHalfPlane (nx ny : Rat) (f : Thrust) : Bool := decide (0 ≤ nx * f.fx + ny * f.fy)

/-- The limits that bound a unit's force, with the normal of its half-plane given (R174, R182): thrust circle and half-plane, thrust interval,
thrust interval on Fx and rudder force bound. -/
def forceHolds (kind : UnitKind) (nx ny : Rat) (j : Nat) (d : Data) (f : Thrust) : Bool :=
  match kind with
  | .azimuth => decide (f.fx ^ 2 + f.fy ^ 2 ≤ d (.limit j 0) ^ 2) && withinHalfPlane nx ny f
  | .tunnel => f.fx == 0 && withinInterval j d f.fy
  | .rudder => withinInterval j d f.fx && decide (f.fy ^ 2 ≤ d (.limit j 5) ^ 2)

/-- The power of a unit: the relation along the modelled azimuth, or along x; the bound of a tunnel unit (R174). -/
def powerHolds (kind : UnitKind) (j : Nat) (d : Data) (f : Thrust) : Bool :=
  match kind with
  | .azimuth => f.p == powerLine j d (d (.power j 3) * f.fx + d (.power j 4) * f.fy)
  | .tunnel => decide (d (.power j 6) + d (.power j 7) * f.fy ^ 2 ≤ f.p)
  | .rudder => f.p == powerLine j d f.fx

/-! ## The shared block (R175) -/

/-- The generalised thrust BF of units: surge, sway, yaw. -/
def thrustSum (units : List Nat) (d : Data) (x : Nat → Thrust) (k : Nat) : Rat :=
  total (units.map fun j => match k with
    | 0 => (x j).fx
    | 1 => (x j).fy
    | _ => d (.lever j 0) * (x j).fy - d (.lever j 1) * (x j).fx)

/-- The balance row of an axis with its multiplier λ: BF − τ − ε λ = 0, −ε_k standing on the dual diagonal. -/
def balanceRow (k : Nat) (d : Data) (bf tau lam : Rat) : Bool := bf - tau - d (.epsilon k) * lam == 0

/-- The same as a cost: r² / 2ε of the balance residual. -/
def balanceCost (k : Nat) (d : Data) (bf tau : Rat) : Rat := (bf - tau) ^ 2 / (2 * d (.epsilon k))

/-- Power of the units on section k. -/
def sectionPower (units : List Nat) (sect : Nat → Nat) (x : Nat → Thrust) (k : Nat) : Rat :=
  total ((units.filter fun j => sect j == k).map fun j => (x j).p)

/-- ΣP ≤ L on every section. -/
def sectionsHold (units : List Nat) (sect : Nat → Nat) (count : Nat) (d : Data) (x : Nat → Thrust) : Bool :=
  (List.range count).all fun k => decide (sectionPower units sect x (k + 1) ≤ d (.bus (k + 1) 0))

/-! ## Thrust allocation (R174 to R176) -/

/-- Every constraint of the allocation problem. -/
def allocationFeasible (units : List Nat) (d : Data) (s : State) (x : Nat → Thrust) : Bool :=
  units.all (fun j =>
    forceHolds (unitDecl j s).kind (d (.limit j 1)) (d (.limit j 2)) j d (x j) && powerHolds (unitDecl j s).kind j d (x j)) &&
    sectionsHold units (fun j => (unitDecl j s).sect) (sectionCount s) d x

/-- Cost of a unit: ½ w_F |F|² + ½ w_Δ |F − F_prev|² + π P (R176). -/
def thrustCost (j : Nat) (d : Data) (f : Thrust) : Rat :=
  d (.cost j 0) * (f.fx ^ 2 + f.fy ^ 2) / 2 +
    d (.cost j 1) * ((f.fx - d (.cost j 2)) ^ 2 + (f.fy - d (.cost j 3)) ^ 2) / 2 + d (.cost j 4) * f.p

/-- The cost J with the cost of the balance residual (R175, R176). -/
def allocationCost (units : List Nat) (d : Data) (x : Nat → Thrust) : Rat :=
  total (units.map fun j => thrustCost j d (x j)) +
    total ((List.range 3).map fun k => balanceCost k d (thrustSum units d x k) (d (.demand k)))

/-- The solution of the allocation problem: of everything feasible, nothing costs less. -/
def isAllocation (units : List Nat) (d : Data) (s : State) (x : Nat → Thrust) : Prop :=
  allocationFeasible units d s x = true ∧
    ∀ y, allocationFeasible units d s y = true → allocationCost units d x ≤ allocationCost units d y

/-- Cosines and sines that a problem's data are turned by: heading at the basis, bearing of the berth's normal, and the difference. -/
structure Turns where
  c : Rat
  s : Rat
  cb : Rat
  sb : Rat
  cn : Rat
  sn : Rat
deriving DecidableEq, Repr, Inhabited

/-! ## The hull and its joints (R165 to R167) -/

/-- Damping of degree of freedom k at a velocity: linear and quadratic. -/
def damping (k : Nat) (d : Data) (v : Rat) : Rat := -(d (.hull (7 + k)) * v + d (.hull (13 + k)) * ratSize v * v)

/-- Hydrostatic restoring in heave, roll and pitch, set from Whisk's fused motion: zero in surge, sway and yaw. -/
def restoringForce (k : Nat) (d : Data) : Rat := if 2 ≤ k ∧ k < 5 then -(d (.hull (19 + (k - 2))) * d (.attitude (k - 2))) else 0

/-- Mass of surge and sway with the added mass, and the yaw inertia with the added one, at the present draft. -/
def massOf (k : Nat) (d : Data) : Rat := match k with
  | 0 => d (.hull 0) + d (.hull 1)
  | 1 => d (.hull 0) + d (.hull 2)
  | _ => d (.hull 6) + d (.hull 3)

/-- Velocities surge, sway, yaw of the estimate, with their places among the six degrees of freedom. -/
def velocityOf (k : Nat) (d : Data) : Rat := d (.state (3 + k))
def freedomOf (k : Nat) : Nat := if k < 2 then k else 5

/-- A pair turned from the earth frame into body axes by a heading. -/
def turnedIn (c s : Rat) (n e : Rat) : Rat × Rat := (c * n + s * e, c * e - s * n)

/-- Normal force of the contact joint at a compression and its rate: k d + c ḋ, never pulling (R167). -/
def springForce (d : Data) (comp rate : Rat) : Rat :=
  let f := d (.contact 5) * comp + d (.contact 6) * rate
  if 0 < comp ∧ 0 < f then f else 0

/-- The tangential row v_t + (a_t + Fₜ / m_t) × 500 µs, and the solution of its square's minimum under |Fₜ| ≤ μ Fₙ (R167). -/
def slipRow (v a m ft : Rat) : Rat := v + (a + ft / m) / 2000
def isTangential (d : Data) (v a m fn ft : Rat) : Prop :=
  ratSize ft ≤ d (.contact 7) * fn ∧ ∀ f : Rat, ratSize f ≤ d (.contact 7) * fn → (slipRow v a m ft) ^ 2 ≤ (slipRow v a m f) ^ 2

/-- Force along surge, sway, yaw of the step (R166): applied thrust, Whisk's wind force, environmental states turned into body axes, contact
forces, with damping and restoring (R165). `c` and `s` are the heading's cosine and sine, `contact` the contact forces on the hull. -/
def hullForce (units : List Nat) (d : Data) (c s : Rat) (contact : Nat → Rat) (k : Nat) : Rat :=
  let env := turnedIn c s (d (.state 6)) (d (.state 7))
  total (units.map fun j => d (.applied j k)) + d (.wind k) + (match k with
    | 0 => env.1
    | 1 => env.2
    | _ => d (.state 8)) + contact k + damping (freedomOf k) d (velocityOf k d) + restoringForce (freedomOf k) d

/-- Contact forces on the hull at the declared point: Fₙ along the berth's outward normal, Fₜ along its plane, turned into body axes; `cn`
and `sn` are the cosine and sine of the normal's bearing less the heading. -/
def contactForce (d : Data) (cn sn fn ft : Rat) (k : Nat) : Rat :=
  let fx := -(fn * cn) - ft * sn
  let fy := -(fn * sn) + ft * cn
  match k with
  | 0 => fx
  | 1 => fy
  | _ => d (.contact 8) * fy - d (.contact 9) * fx

/-- A hull acceleration meets the equation of motion: mass times acceleration is the force, less the velocity-product and joint terms of
the recursion, which the manual does not write out (free, log 164). -/
def accelerates (units : List Nat) (d : Data) (c s : Rat) (contact : Nat → Rat) (a : Nat → Rat) (k : Nat) : Bool :=
  massOf k d * a k == hullForce units d c s contact k + Cfg.recursionTerms d k

/-- Second-order tracking of a commanded azimuth by joint j, within the declared slew acceleration (R165). -/
def trackingAccel (j : Nat) (d : Data) : Rat :=
  let a := d (.joint j 5) * (d (.joint j 2) - d (.joint j 0)) - d (.joint j 6) * d (.joint j 1)
  max (-(d (.joint j 4))) (min (d (.joint j 4)) a)

/-- What a step finds: hull accelerations, accelerations of the azimuth joints, the tangential force (R166). -/
structure StepPoint where
  hull : Nat → Rat
  joint : Nat → Rat
  ft : Rat := 0

/-- The articulated-body step of units and joints: equations of motion, tracking of every azimuth joint, and the tangential force of the
engaged contact joint from a_t and m_t, the acceleration and effective mass along the berth plane (R165 to R167). -/
def isStep (units joints : List Nat) (engaged : Bool) (d : Data) (t : Turns) (a m : Rat) (x : StepPoint) : Prop :=
  (∀ k, k < 3 → accelerates units d t.c t.s (if engaged then contactForce d t.cn t.sn (d (.contact 2)) x.ft else fun _ => 0) x.hull k = true) ∧
    (∀ j ∈ joints, x.joint j = trackingAccel j d) ∧
    (engaged = true → isTangential d (d (.contact 3)) a m (d (.contact 2)) x.ft)

/-! ## The plan and the cases (R182, R183, R191) -/

/-- The variables of a stage: thrust of each unit, the generalised thrust τ that balances the stage, vessel state (north, east, heading,
surge, sway, yaw rate), normal contact force. -/
structure StagePoint where
  thrust : Nat → Thrust
  tau : Nat → Rat
  vessel : Nat → Rat
  contact : Rat := 0

/-- What a plan holds (R171): position and heading; the heading alone, with surge and sway at the joystick demand of the basis; the heading
and the component of the position along the berth plane (R188). -/
inductive Holding where
  | point | heading | along
deriving DecidableEq, Repr, Inhabited

/-- What an outlook is made of: stages, their length in seconds, participating units, the section of each, numbers of sections and rooms. -/
structure OutlookShape where
  stages : Nat
  length : Rat
  units : List Nat
  kind : Nat → UnitKind
  sect : Nat → Nat
  sections : Nat
  rooms : Nat
  /-- The contact joint is engaged at the basis. -/
  contact : Bool
  holds : Holding

/-- Damping linearised at the estimate of the basis. -/
def dampingAt (k : Nat) (d : Data) (v : Rat) : Rat :=
  let v0 := velocityOf k d
  let q := d (.hull (13 + freedomOf k))
  let f := d (.hull (7 + freedomOf k)) * v + q * (ratSize v0 * v0 + 2 * ratSize v0 * (v - v0))
  0 - f

/-- Rates of a stage's vessel state (R182): motion in the earth frame by surge and sway, turned by the heading and linearised at that of
the basis; accelerations by the stage's thrust, the wind force and environmental states of the basis, contact and linearised damping. -/
def vesselRate (o : OutlookShape) (d : Data) (c s cn sn : Rat) (x : StagePoint) (k : Nat) : Rat :=
  let dh := x.vessel 2 - d (.state 2)
  let env := turnedIn c s (d (.state 6)) (d (.state 7))
  let force (k : Nat) : Rat := x.tau k + d (.wind k) + dampingAt k d (x.vessel (3 + k)) +
    (if o.contact then contactForce d cn sn x.contact 0 k else 0)
  match k with
  | 0 => c * x.vessel 3 - s * x.vessel 4 - dh * (s * d (.state 3) + c * d (.state 4))
  | 1 => s * x.vessel 3 + c * x.vessel 4 + dh * (c * d (.state 3) - s * d (.state 4))
  | 2 => x.vessel 5
  | 3 => (force 0 + env.1) / massOf 0 d
  | 4 => (force 1 + env.2) / massOf 1 d
  | _ => (force 2 + d (.state 8)) / massOf 2 d

/-- Vessel state a stage on: its rate times the stage's length, with what the maker's propagation adds to it (free, log 164). -/
def vesselNext (o : OutlookShape) (d : Data) (c s cn sn : Rat) (x : StagePoint) (k : Nat) : Rat :=
  x.vessel k + o.length * vesselRate o d c s cn sn x k + Cfg.propagationTerms d o.length (fun i => vesselRate o d c s cn sn x i) k

/-- Change of room r's charge over a stage: −100 × length × Σ share × (ΣP + H) / E, E in kW·s (R182). -/
def chargeChange (o : OutlookShape) (d : Data) (x : StagePoint) (r : Nat) : Rat :=
  -(100 * o.length * total ((List.range o.sections).map fun k =>
    d (.share r (k + 1)) * (sectionPower o.units o.sect x.thrust (k + 1) + d (.bus (k + 1) 1))) / (3600 * d (.room r 1)))

/-- Charge of room r at stage n. -/
def chargeAt (o : OutlookShape) (d : Data) (x : Nat → StagePoint) (r : Nat) : Nat → Rat
  | 0 => d (.room r 0)
  | n + 1 => chargeAt o d x r n + chargeChange o d (x n) r

/-- Compression of the contact joint at a stage: that of the basis, and how far the contact point has moved along the inward normal since,
linearised at the basis; `px` and `py` are the contact point in body axes. -/
def stageCompression (d : Data) (cb sb c s : Rat) (x : StagePoint) : Rat :=
  let dh := x.vessel 2 - d (.state 2)
  let dn := x.vessel 0 - d (.state 0) - dh * (s * d (.contact 8) + c * d (.contact 9))
  let de := x.vessel 1 - d (.state 1) + dh * (c * d (.contact 8) - s * d (.contact 9))
  d (.contact 0) + cb * dn + sb * de

/-- Its rate at a stage: the velocity of the contact point along the inward normal. -/
def stageCompressionRate (d : Data) (cn sn : Rat) (x : StagePoint) : Rat :=
  cn * (x.vessel 3 - x.vessel 5 * d (.contact 9)) + sn * (x.vessel 4 + x.vessel 5 * d (.contact 8))

/-- A stage's normal contact force is that of the linear spring-damper of R167 about the compression of the basis (R182). -/
def contactHolds (d : Data) (cb sb c s cn sn : Rat) (x : StagePoint) : Bool :=
  x.contact == springForce d (d (.contact 0)) (d (.contact 1)) + d (.contact 5) * (stageCompression d cb sb c s x - d (.contact 0)) +
    d (.contact 6) * (stageCompressionRate d cn sn x - d (.contact 1))

/-- The limits of R174 over a stage: a unit's force changes by no more than the declared rates allow within it, from the stage before. -/
def withinRates (kind : UnitKind) (j : Nat) (d : Data) (was now : Thrust) : Bool :=
  match kind with
  | .azimuth =>
    -- the radius of the circle is at most the magnitude before it and what the rate allows
    decide (now.fx ^ 2 + now.fy ^ 2 ≤ d (.stageLimit j 0) ^ 2) &&
      (let g := now.fx ^ 2 + now.fy ^ 2 - (was.fx ^ 2 + was.fy ^ 2) - d (.stageLimit j 1) ^ 2
       decide (g ≤ 0) || decide (g ^ 2 ≤ 4 * d (.stageLimit j 1) ^ 2 * (was.fx ^ 2 + was.fy ^ 2)))
  | .tunnel => decide (ratSize now.fy ≤ d (.stageLimit j 0)) && decide (ratSize (now.fy - was.fy) ≤ d (.stageLimit j 3))
  | .rudder => decide (ratSize now.fx ≤ d (.stageLimit j 0)) && decide (ratSize (now.fx - was.fx) ≤ d (.stageLimit j 3)) &&
    decide (ratSize now.fy ≤ max (d (.stageLimit j 5) * max was.fx 0) (d (.stageLimit j 6)))

/-- The thrust that a stage's rates start from: the stage before, or the set-points of the basis. -/
def thrustBefore (d : Data) (x : Nat → StagePoint) (n j : Nat) : Thrust :=
  match n with
  | 0 => { fx := d (.cost j 2), fy := d (.cost j 3) }
  | k + 1 => (x k).thrust j

/-- Every constraint of a stage (R182): rates, half-plane and power of each unit, section limits, dynamics from the stage before, contact
force, and no room below its floor. -/
def stageHolds (o : OutlookShape) (d : Data) (t : Turns) (x : Nat → StagePoint) (n : Nat) : Bool :=
  o.units.all (fun j =>
    withinRates (o.kind j) j d (thrustBefore d x n j) ((x n).thrust j) && powerHolds (o.kind j) j d ((x n).thrust j) &&
      (o.kind j != .azimuth || withinHalfPlane (d (.stageNormal n j 0)) (d (.stageNormal n j 1)) ((x n).thrust j))) &&
    sectionsHold o.units o.sect o.sections d (x n).thrust &&
    (List.range 6).all (fun k => match n with
      | 0 => (x 0).vessel k == d (.state k)
      | m + 1 => (x n).vessel k == vesselNext o d t.c t.s t.cn t.sn (x m) k) &&
    (o.holds != .heading || decide ((x n).tau 0 = d (.held 0)) && decide ((x n).tau 1 = d (.held 1))) &&
    (!o.contact || contactHolds d t.cb t.sb t.c t.s t.cn t.sn (x n)) &&
    (List.range o.rooms).all fun r => decide (d (.room r 2) ≤ chargeAt o d x r n)

/-- Error k of a stage from the target: north, east, heading, surge, sway, yaw rate; the target is at rest. -/
def targetError (d : Data) (x : StagePoint) (k : Nat) : Rat := if k < 3 then x.vessel k - d (.target k) else x.vessel k

/-- Weighted squared errors of a stage (R183), of the position as the plan holds it. -/
def errorCost (first : Nat) (o : OutlookShape) (d : Data) (t : Turns) (x : StagePoint) : Rat :=
  let w (k : Nat) : Rat := d (.planWeight (first + k))
  let e (k : Nat) : Rat := targetError d x k
  (match o.holds with
    | .point => w 0 * (e 0) ^ 2 + w 1 * (e 1) ^ 2
    | .heading => 0
    | .along => w 0 * (t.cb * e 1 - t.sb * e 0) ^ 2) +
    total ((List.range 4).map fun k => w (k + 2) * (e (k + 2)) ^ 2)

/-- The sum that the plan minimises, with the balance residual's cost (R175, R183): errors, contact force against the push demand, change
of each unit's force, energy, shortfalls below the reserve, terminal errors. -/
def planCost (o : OutlookShape) (d : Data) (t : Turns) (x : Nat → StagePoint) : Rat :=
  let change (n j : Nat) : Rat :=
    let a := thrustBefore d x n j
    let b := (x n).thrust j
    (b.fx - a.fx) ^ 2 + (b.fy - a.fy) ^ 2
  let short (n r : Nat) : Rat := max 0 (d (.room r 3) - chargeAt o d x r n)
  total ((List.range o.stages).map fun n =>
    errorCost 0 o d t (x n) + (if o.contact then d (.planWeight 13) * ((x n).contact - d (.held 2)) ^ 2 else 0) +
      total (o.units.map fun j => d (.planWeight 12) * change n j + d (.cost j 4) * ((x n).thrust j).p) +
      total ((List.range o.rooms).map fun r => d (.planWeight 14) * (short n r) ^ 2) +
      total ((List.range 3).map fun k => balanceCost k d (thrustSum o.units d (x n).thrust k) ((x n).tau k))) +
    errorCost 6 o d t (x (o.stages - 1))

/-- The solution of a plan or of a case: of everything that holds in each stage, nothing costs less. -/
def isOutlook (o : OutlookShape) (d : Data) (t : Turns) (x : Nat → StagePoint) : Prop :=
  (∀ n, n < o.stages → stageHolds o d t x n = true) ∧
    ∀ y, (∀ n, n < o.stages → stageHolds o d t y n = true) → planCost o d t x ≤ planCost o d t y

/-- Shape of the plan, and of case c, from a basis record. -/
def planShape (p : SlowRun) (s : State) : OutlookShape :=
  { stages := 240, length := 1 / 4, units := unitsOf p.mask s, kind := fun j => (unitDecl j s).kind, sect := fun j => (unitDecl j s).sect
    sections := sectionCount s, rooms := s.cfg.image.rooms.length, contact := p.inputs.any (·.1 == .contact 0)
    holds := if p.inputs.any (·.1 == .target 3) then .along else if p.inputs.any (·.1 == .target 0) then .point else .heading }
def caseShape (p : SlowRun) (s : State) : OutlookShape := { planShape p s with stages := 60, length := 1 }

end Sys2Proof.Machine
end

