-- ==== Sys2Proof/Safety.lean ====
section
/-! DEFINITION. What the statements about the block are written in: the invariant of its addressed memories and of its recorder, the
event that a command raises or clears and nothing more, requests that are admitted and commands that are due, the registers at reset,
and the commands that may change the unit's mode. -/

namespace Sys2Proof.Machine

/-! ## The invariant -/

/-- The addressed memories keep their canonical form: the dump and the glass read 0 where nothing is listed, flash 0xFF. -/
def memoryOk (s : State) : Bool :=
  Memory.wf 0 s.dmp.mem && Memory.wf 0xFF s.upd.staging && Memory.wf 0 s.pnl.frame &&
    Memory.wf 0xFF s.upd.bankA.content && Memory.wf 0xFF s.upd.bankB.content

/-- The recorder is full exactly when its last index is written, and never holds more (R361). -/
def recorderOk (s : State) : Prop :=
  (s.log.full = false ∧ s.log.records.length ≤ lastIndex) ∨ (s.log.full = true ∧ s.log.records.length = lastIndex + 1)

/-- What every command keeps. -/
def Inv (s : State) : Prop := memoryOk s = true ∧ recorderOk s

/-! ## One event, and nothing else -/

/-- `s` with the event state of `t`: the source bits and the indices they were raised with, the relays, the records due, the last alarm
shown. -/
def withEvents (s t : State) : State :=
  { s with
    evt := { s.evt with active := t.evt.active, unack := t.evt.unack, dpRelay := t.evt.dpRelay, ufRelay := t.evt.ufRelay
                        due := t.evt.due, named := t.evt.named }
    pnl := { s.pnl with lastAlarm := t.pnl.lastAlarm }
    mir := { s.mir with evt := { s.mir.evt with
      active := t.mir.evt.active, unack := t.mir.evt.unack, last := t.mir.evt.last, lastEpoch := t.mir.evt.lastEpoch
      named := t.mir.evt.named } } }

/-- Both bits of every source but EV_e read the same in the two states. -/
def othersKept (e : Nat) (s t : State) : Prop :=
  ∀ k, k ≠ e → eventActive k t = eventActive k s ∧ eventUnack k t = eventUnack k s

/-- `t` is `s` with EV_e raised (R352): nothing changes where it stands ACTIVE already; else it becomes ACTIVE, and UNACK too when it
is an alarm or a warning, and one raise falls due. -/
def Raised (e : Nat) (s t : State) : Prop :=
  if eventActive e s then t = s
  else t = withEvents s t ∧ eventActive e t = true ∧ othersKept e s t ∧
    (∃ d : DueRecord, t.evt.due = s.evt.due ++ [d] ∧ d.event = e ∧ d.kind = 1) ∧
    eventUnack e t = (eventUnack e s || (attrOf e).sev != .caution)

/-- `t` is `s` with EV_e cleared (R352): nothing changes where it is not ACTIVE; else ACTIVE clears, UNACK stays, and one clear falls
due unless the source is momentary. -/
def Cleared (e : Nat) (s t : State) : Prop :=
  if eventActive e s then
    t = withEvents s t ∧ eventActive e t = false ∧ othersKept e s t ∧ eventUnack e t = eventUnack e s ∧
      (if (attrOf e).momentary then t.evt.due = s.evt.due
       else ∃ d : DueRecord, t.evt.due = s.evt.due ++ [d] ∧ d.event = e ∧ d.kind = 2)
  else t = s

/-- `t` is `s` with EV_e following its cause. -/
def Follows (e : Nat) (on : Bool) (s t : State) : Prop := if on then Raised e s t else Cleared e s t

/-! ## Requests and commands -/

/-- A request of an operation, with its ADDR, COUNT and BODY, that is admitted to its session and acts (R370, R371, R374 to R378): it reaches HAP,
the queue is not full, its form holds and its MAC is that of the session key, the session has not had its last response, and its
REQ_SEQ is newer than the session's last and has neither a stored answer nor one awaited. -/
def admits (op addr count : Nat) (body : List Byte) (x : Session) (r : HapReq) (s : State) : Prop :=
  reaches r s = true ∧ waiting r s < 32 ∧ formGood op body r = true ∧ x.closing = false ∧ r.mac = requestMac x.key op addr count body r ∧ r.session ≠ 0 ∧ r.session = x.ident ∧
  sessionOf x.ident s = some x ∧ x.lastSeq < r.reqSeq ∧
  (∀ p ∈ s.hap.awaiting, p.session ≠ x.ident ∨ p.reqSeq ≠ r.reqSeq) ∧ ∀ p, x.stored = some p → p.reqSeq ≠ r.reqSeq

/-- One response goes out: to this request, by its port and to its source, of operation `op`, with its ADDR, this status and these words; and
the request has joined the queue. -/
def answers (op addr status : Nat) (data : List Word) (r : HapReq) (s t : State) : Prop :=
  t.hap.queue = s.hap.queue - r.served + 1 ∧
  ∃ p : Response, t.out = sentBy s (.response p) :: s.out ∧ p.op = op + 0x80 ∧ p.session = r.session ∧ p.reqSeq = r.reqSeq ∧
    p.addr = addr ∧ p.status = status ∧ p.data = data ∧ p.port = r.port ∧ p.dest = r.source

/-- The one accepted command that waits for its effect: accepted in an earlier epoch, at this address with these words (R58). -/
def dueIs (addr : Nat) (words : List Word) (c : Command) (s : State) : Prop :=
  s.ex.due = [c] ∧ c.addr = addr ∧ c.words = words ∧ c.epoch ≠ s.ex.epoch

/-- `s` once that command has been taken. -/
def taken (c : Command) (s : State) : State := { s with ex := { s.ex with due := [], effected := s.ex.effected ++ [c] } }

/-- `taken` with other mirrored state. -/
def takenMir (c : Command) (m : Mirrored) (s : State) : State := { taken c s with mir := m }

/-- The one accepted unit-local write that waits for its effect, in a mode that takes it (R385). -/
def localIs (addr : Nat) (words : List Word) (slot : Nat) (s : State) : Prop :=
  ∃ e, s.hap.localDue = [(addr, words, e, slot)] ∧ e ≠ s.ex.epoch ∧ localMode addr s = true

/-- `s` once that write has been taken. -/
def localTaken (s : State) : State := { s with hap := { s.hap with localDue := [] } }

/-! ## Reset release -/

/-- LOC_RESET_CAUSE of a release (R65). -/
def releaseCause : Release → ResetCause
  | .power => .powerApplied
  | .supply _ _ => .supplySupervisor
  | .monitor _ => .clockMonitor

/-- A release that starts the unit (R28, R65, R450): power is applied; the supply supervisor releases its reset at 15.0 V, here with the
tolerance, and not before 50 ms; the clock monitor releases its own, unless it is latched. Neither starts a unit that the other holds. -/
def starts (r : Release) (s : State) : Prop :=
  match r with
  | .power => True
  | .supply volts heldMs =>
    s.um.inReset = true ∧ s.sup.supplyHolds = true ∧ 3789 ≤ volts ∧ 50 ≤ heldMs ∧ s.sup.monitorHolds = false
  | .monitor _ => s.um.inReset = true ∧ s.sup.monitorHolds = true ∧ s.sup.monitorLatched = false ∧ s.sup.supplyHolds = false

/-! ## Registers at reset -/

/-- Addresses outside the unit-local page with the Reset column of their tables (R398): one or more of every block of R393 but the bulk window. -/
def resetColumns : List (Nat × Word) :=
  [(0x000000, 0x584E3936), (0x000004, 0x42524C52), (0x000024, 0x10084008), (0x010000, 0), (0x010004, 0), (0x010008, 0), (0x010010, 0),
   (0x020020, 0), (0x02002C, 0)] ++
  [(0x030000, 0x10000D00), (0x030004, 0x0F000000), (0x030008, 0x50005A00), (0x030100, 0x0960000A), (0x030104, 0x04030608),
   (0x030108, 0x1E186000), (0x040000, 0), (0x040004, 0), (0x040044, 0)] ++
  [(0x100000, 0), (0x10002C, 0), (0x100118, 0), (0x100120, 0), (0x200000, 0), (0x200004, 0x80000000), (0x200018, 0x80000000),
   (0x200028, 0x80000000), (0x200080, 0), (0x200404, 0x80000000)] ++
  [(0x201000, 0), (0x201004, 0), (0x201018, 0), (0x201020, 0), (0x20102C, 0), (0x202004, 0), (0x202010, 0), (0x202018, 0),
   (0x203000, 0x80000000), (0x300000, 0), (0x300048, 0), (0x300054, 0)] ++
  [(0x400004, 0x1F), (0x40000C, 0x80000000), (0x410004, 0x1F), (0x410014, 0x80000000), (0x500000, 0x11), (0x50000C, 0xFFFFFFFF),
   (0x500010, 0), (0x500014, 0x123), (0x600000, 0)] ++
  [(0x700000, 0), (0x700004, 0), (0x800000, 0x00070001), (0x800004, 0x80000000), (0x800010, 0xFFFF), (0x800100, 0x4040), (0x80011C, 0x4040),
   (0x900000, 0), (0x900004, 0), (0xA00000, 0), (0xA00008, 0x80000000), (0xA00100, 0xF0000000)] ++
  [(0xB00000, 0), (0xC00000, 0), (0xD00000, 0), (0xE00000, 0)]

/-! ## The compiled image -/

/-- Code of a unit's kind in `blockTags`. -/
def kindCode : UnitKind → Nat
  | .azimuth => 0
  | .tunnel => 1
  | .rudder => 2

/-- Two lists hold the same tags. -/
def sameTags (a b : List Nat) : Bool := a.length == b.length && a.all b.contains && b.all a.contains

/-- The schedules of an image are as Nymnil compiles them (R114, R115): each formed, and the allocation's variables those of R173 and R175 for
the declared units and bus sections. That the images in use are so is the model's assumption (log 150): the machine runs the schedules it
is given. -/
def compiled (i : Image) : Bool :=
  i.schedules.all fun p => p.formed &&
    (p.cls != 3 || sameTags (p.vars.map (·.tag)) (allocationTags (i.units.map fun u => kindCode u.kind) i.secLimits.length))

/-! ## Commands that may change the mode -/

/-- Commands whose meaning may change the unit's own mode (R64, R65): resets and starts, the end of LOAD and of the start-up test,
the two instants at which faults, roles and accepted commands take effect, and operator commands at their effect. -/
def mayChangeMode : Instr → Bool
  | .resetRelease _ _ _ | .supplyReset _ _ | .clockMonitorReset | .clockMonitorRelease _ _ _ | .bootComplete _ _ _ | .keyReading _
  | .loadComplete _ _ _ _ | .selftestComplete _ | .inputCutoff _ | .holdEntry | .inputCommit _ | .bankCopyComplete
  | .recoveryInstall _ => true
  | .cmdToStandby p | .cmdToActive p _ _ | .cmdSelectFunction p _ _ | .cmdToMaintenance p | .locRestart p | .locMaint p => p == .effect
  | _ => false

end Sys2Proof.Machine
end

