-- ==== Sys2Proof/WellFormed.lean ====
section
/-! DEFINITION. Well-formed commands: every operand within the range that the layouts of the manual give it. A meaning does not
depend on it: it says which commands a sender can form. -/

namespace Sys2Proof

/-- n is below a bound. -/
def below (bound n : Nat) : Bool := decide (n < bound)

/-- n is one of 1 to `last`. -/
def numbered (last n : Nat) : Bool := decide (1 ≤ n) && decide (n ≤ last)

/-- Widths of the common fields of a Tongs frame (R310), and an arrival within the epoch. -/
def headerOk (h : TongsHeader) : Bool := below (2 ^ 48) h.epoch && below 256 h.index && below 256 h.count && below 500000 h.atNs

/-- Widths of a record's fields (R311 type 0x41): source 16 bits, sequence number 32, payload at most 96 octets. -/
def recordOk (r : InRecord) : Bool := below 65536 r.source && below (2 ^ 32) r.seq && below (2 ^ 64) r.stamp && below (2 ^ 64) r.tov && below 97 r.payload.length

/-- Widths of an IPv4 address and a UDP port. -/
def endpointOk (e : Nat × Nat) : Bool := below (2 ^ 32) e.1 && below 65536 e.2

/-- Widths of a request's fields (R372), and its MAC of sixteen octets, or none. -/
def requestOk (r : HapReq) : Bool :=
  endpointOk r.source && endpointOk r.dest && below 65536 r.magic && below 256 r.version && below 65536 r.length && below 65536 r.session &&
    below (2 ^ 32) r.reqSeq && below (2 ^ 32) r.addr && below 65536 r.count && below 256 r.flags && below 256 r.holdId && below 33 r.served &&
    (r.mac.length == 16 || r.mac.isEmpty)

/-- Widths of a recovery request's fields (R446). -/
def recReqOk (r : RecReq) : Bool :=
  endpointOk r.source && endpointOk r.dest && below 65536 r.magic && below 256 r.zero && below (2 ^ 32) r.seq && below (2 ^ 32) r.offset &&
    below 65536 r.length && below 65536 r.zero2 && below 65536 r.data.length && below (2 ^ 32) r.crc

/-- Widths of the readings (R265, R392, R150): four antennas, sixteen modulators, at most 512 slots. -/
def readingsOk (r : Readings) : Bool :=
  r.antennaMa.length == 4 && below 65536 r.overloads && below 33 r.served && below 513 r.peak

/-- Widths of a ring frame's source address, HSR sequence number and header (R266, R271). -/
def ringRxOk (rx : RingRx) : Bool :=
  below (2 ^ 48) rx.src && below 65536 rx.hsrSeq && below 256 rx.type && below 256 rx.version && below 65536 rx.length

/-- Widths of a PTP message's header (R250). -/
def ptpHeaderOk (h : PtpHeader) : Bool := below 16 h.version && below 256 h.domain && below (2 ^ 80) h.source && below 65536 h.seq

/-- Width of a bus voltage (R404). -/
def releaseOk : Release → Bool
  | .supply volts _ => below 65536 volts
  | _ => true

/-- A case number exists (R190). -/
def jobOk : SlowJob → Bool
  | .case c => below 64 c
  | _ => true

/-- A satellite's system, its one or two signals, and nine correlators of each (R221, R224). -/
def satOk (x : SatObs) : Bool := below 5 x.system && numbered 2 x.signals.length && x.signals.all fun y => y.taps.length == 9
def satelliteOk (x : Satellite) : Bool := below 5 x.system && numbered 2 x.bands

/-- A record index exists (R361). -/
def mramItemOk : MramItem → Bool
  | .record i => below 524288 i
  | _ => true

/-- Every operand is within its range. -/
def wellFormed : Instr → Bool
  | .resetRelease cause _ _ => releaseOk cause
  | .supplyReset volts _ => below 65536 volts
  | .clockMonitorReset => true
  | .clockMonitorRelease _ _ _ => true
  | .bootComplete _ _ _ => true
  | .keyReading k => k.slots.length == 10
  | .loadComplete _ _ _ _ => true
  | .ringLoopTrained => true
  | .ringLoopTimeout => true
  | .selftestComplete f => f.skillets.all (below 8) && f.slices.all (fun n => decide (128 ≤ n) && below 256 n) && f.channels.all fun c => below 8 c.1 && numbered 5 c.2
  | .unitBRoleWaitExpiry => true
  | .inputCutoff levels => below (2 ^ 32) levels
  | .holdEntry => true
  | .variantChange => true
  | .heartbeatSend ticks => below 150000 ticks
  | .updateStatusSend => true
  | .acknowledgementSend => true
  | .inputCommit late => late.all jobOk
  | .fastWork => true
  | .positionGradeRise => true
  | .disputeEnd _ => true
  | .disputeLimit _ => true
  | .timeSuspectExit _ => true
  | .deadReckoningLimit => true
  | .headingLost => true
  | .estimatorGateMet => true
  | .skippedUpdateLimit => true
  | .allocationSaturation => true
  | .zeroThrustFallback => true
  | .feedbackTimeout unit => below 16 unit
  | .feedbackDiscrepancy unit => below 16 unit
  | .thrustUnitRejoin unit => below 16 unit
  | .sectionLimitStale sec => numbered 8 sec
  | .plantReportStale => true
  | .joystickPanelTimeout panel => below 4 panel
  | .gnssEngineLost _ => true
  | .sltTrip channel => below 8 channel
  | .stsTrip channel => below 8 channel
  | .slsTrip => true
  | .slsBlind => true
  | .digestSend => true
  | .fastWorkOverrun => true
  | .emissionDecision => true
  | .arbitrationOutcomeSend upset => below (2 ^ 64) upset
  | .arbitrationDecision => true
  | .commandFrameEmit startNs => below 500000 startNs
  | .safeOutputSwitch => true
  | .canRelease offsetUs => below 500 offsetUs
  | .canWithdrawal bus _ offsetUs _ => numbered 8 bus && below 500 offsetUs
  | .slowWorkSlice => true
  | .snapshotPublish r => readingsOk r
  | .snapshotSkip => true
  | .recorderWrite => true
  | .trivetRecordClose levels => below (2 ^ 32) levels
  | .antivalenceFault pair => below 16 pair
  | .antivalenceFaultClear pair => below 16 pair
  | .outputTestPulse _ => true
  | .offPulseTest => true
  | .pulseSenseCheck channel _ => below 8 channel
  | .senseNodeCheck h l => below 256 h && below 256 l
  | .outputOvercurrent channel => below 8 channel
  | .outputTestOverdue channel => below 8 channel
  | .pwrOutOutOfRange volts => below 65536 volts
  | .pwrOutRestored volts => below 65536 volts
  | .wirechkTimeout channel => below 8 channel
  | .tongsRecordFrameRx h records => headerOk h && numbered 34 records.length && records.all recordOk
  | .tongsAckRx h ids => headerOk h && below 129 ids.length
  | .tongsDigestRx h body => headerOk h && below (2 ^ 64) body.command && below (2 ^ 64) body.commit
  | .tongsHeartbeatRx h body _ => headerOk h && below (2 ^ 64) body.imageId && below (2 ^ 64) body.fwDigest
  | .tongsPageRx h page content => headerOk h && below 512 page && content.length == 4096
  | .tongsAuditRx h firstPage digests => headerOk h && below 512 firstPage && digests.length == 64
  | .tongsOutcomeRx h _ => headerOk h
  | .tongsUpdateStatusRx h body => headerOk h && below 16 body.state && below (2 ^ 64) body.committed
  | .ringCommandFrameRx rx f => ringRxOk rx && f.setPoints.length == 16
  | .ringHeartbeatRx rx f => ringRxOk rx && below (2 ^ 32) f.epoch && below (2 ^ 64) f.imageId && below (2 ^ 64) f.fwDigest
  | .ringFrameForward f => below (2 ^ 48) f.source && below 65536 f.hsrSeq
  | .feedbackFrameRx rx _ fb => ringRxOk rx && below 256 fb.unit && below 65536 fb.fbSeq
  | .canMessageRx m => numbered 8 m.bus && below (if m.extended then 2 ^ 29 else 2 ^ 11) m.ident
  | .serialSentenceRx s => numbered 8 s.port
  | .sieveSample w => below 16 w.chain
  | .gnssSolution g => g.ant0.sats.all satOk && g.ant1.sats.all satOk
  | .channelReallocation _ antenna0 antenna1 => antenna0.all satelliteOk && antenna1.all satelliteOk
  | .multipathFit _ antenna signal => below 2 antenna && below 60 signal
  | .antennaShort _ antenna currentMa => below 2 antenna && below 65536 currentMa
  | .antennaOpen _ antenna => below 2 antenna
  | .antennaSupplyRetry _ antenna _ => below 2 antenna
  | .ptpMessageRx _ _ h _ => ptpHeaderOk h
  | .txStamp ident _ => below 65536 ident
  | .txStampExpiry => true
  | .hapRead r _ count => requestOk r && numbered 256 count
  | .registerWrite r _ words => requestOk r && numbered 256 words.length
  | .hapOpen r slot _ clientNonce serverNonce newId => requestOk r && below 256 slot && clientNonce.length == 16 && serverNonce.length == 16 && below 65536 newId
  | .hapClose r => requestOk r
  | .snapHold r => requestOk r
  | .snapRelease r => requestOk r
  | .keepalive r => requestOk r
  | .notifyAck r nseq => requestOk r && below (2 ^ 32) nseq
  | .notificationResend slot => below 8 slot
  | .sessionTimeout slot => below 8 slot
  | .snapshotHoldExpiry => true
  | .cmdToStandby _ => true
  | .cmdToActive _ func berth => below 256 func && below 256 berth
  | .cmdSelectFunction _ func berth => below 256 func && below 256 berth
  | .cmdToMaintenance _ => true
  | .locRestart _ => true
  | .locMaint _ => true
  | .locDmpRelease _ => true
  | .evtAckAll _ => true
  | .evtAckEvent _ event => below 128 event
  | .evtMask _ bank _ => below 4 bank
  | .logClear _ _ token => below 5 token.length
  | .mrtCntClear _ => true
  | .ldlCntClear _ => true
  | .estRestart _ => true
  | .estBaAccept _ slot seq => below 16 slot && below 256 seq
  | .estBaReject _ slot seq => below 16 slot && below 256 seq
  | .alcUnitEnable _ _ => true
  | .alcPushForce _ _ => true
  | .alcTest _ _ => true
  | .alcTestThrust _ _ => true
  | .alcTestAz _ _ => true
  | .mpcTargetWrite _ first _ => below 3 first
  | .mpcTrkCtrl _ _ => true
  | .mpcTrkWaypointWrite _ first _ => below 128 first
  | .wskDisputeSel _ _ => true
  | .wskExclude _ _ => true
  | .gnaSysEnable _ _ _ => true
  | .sivSetSelect _ chain _ => below 16 chain
  | .canRestart _ _ => true
  | .canWarnWrite _ bus _ => numbered 8 bus
  | .tngSwap _ => true
  | .trvReset _ _ => true
  | .trvWirechkOn _ channel => below 8 channel
  | .trvWirechkOff _ channel => below 8 channel
  | .pnlRefresh _ => true
  | .lifeCycleTransition _ _ token => below 5 token.length
  | .ktlManualSkilletTest _ item => below 256 item
  | .ktlManualSliceMarch _ item => below 256 item
  | .ktlManualOutputTest _ item => below 256 item
  | .ktlInjectCorrectable _ item => below 256 item
  | .ktlInjectUncorrectable _ item => below 256 item
  | .ktlInjectSkilletFail _ item => below 256 item
  | .manualActionComplete _ => true
  | .locKtlClear _ _ => true
  | .updOpen _ => true
  | .updVerify _ => true
  | .updDiscard _ => true
  | .stagingEraseComplete => true
  | .stagingVerifyComplete => true
  | .updCommit _ _ _ => true
  | .bankCopyComplete => true
  | .txqOvfClear _ => true
  | .blkSel r _ => requestOk r
  | .blkAddr r _ => requestOk r
  | .blkDataRead r count => requestOk r && numbered 256 count
  | .blkDataWrite r words => requestOk r && numbered 256 words.length
  | .recoveryErase r _ => recReqOk r
  | .recoveryWrite r => recReqOk r
  | .recoveryVerify r => recReqOk r
  | .recoveryInstall r => recReqOk r
  | .lockstepMismatch _ => true
  | .watchdogExpiry _ => true
  | .eccUncorrectable f => below (2 ^ 24) f.offset
  | .eccCorrected f => below (2 ^ 24) f.offset
  | .mramUncorrectable item => mramItemOk item
  | .fatalDumpComplete _ => true
  | .busWarning volts => below 65536 volts
  | .inputAbsent _ => true
  | .overvoltageDisconnect _ => true
  | .holdupReady => true
  | .ocxoStable => true
  | .ocxoWarmupOverdue => true
  | .temperatureWarning _ => true
  | .temperatureLimit _ => true
  | .keyPresenceChange _ _ => true
  | .ringLinkDown _ => true
  | .ringLinkUp _ => true
  | .ringLinkTrainTimeout _ => true
  | .ringBroken => true
  | .ringRestored => true
  | .ringFrameErrors => true
  | .tongsLinkDown _ => true
  | .tongsLinkUp _ => true
  | .tongsPathLost => true
  | .tongsPathReturn => true
  | .ringPathLost => true
  | .unmirroredStandbyEntry => true
  | .stationLinkDown _ => true
  | .stationFrameErrors _ => true
  | .epochLockAcquired => true
  | .epochLockLost => true
  | .joinEnd => true
  | .copyEnd => true
  | .settleEnd => true
  | .auditEnd => true
  | .resyncAttemptFailed => true
  | .resyncBackoffEnd => true
  | .canErrorWarning bus tec rec => numbered 8 bus && below 256 tec && below 256 rec
  | .canErrorPassive bus tec rec => numbered 8 bus && below 256 tec && below 256 rec
  | .canBusOff bus => numbered 8 bus
  | .canBusRecovery bus => numbered 8 bus
  | .serialSourceSilent _ => true
  | .serialPortErrors port => numbered 8 port
  | .ppsEdge => true
  | .ppsMessageSend => true
  | .incrementUpdate => true
  | .sourceSelection => true
  | .sourceQualified _ => true
  | .sourceDisqualified _ => true
  | .disciplineDisqualify _ => true
  | .holdoverEntry => true
  | .holdoverEnd => true
  | .slewComplete => true
  | .gnssTimeMeasurement _ => true
  | .pairTimeMeasurement => true
  | .panelEvaluation => true
  | .panelRowComplete => true
  | .compensationLineComplete => true
  | .panelTemperatureRead _ => true
  | .frameMemoryCrcCheck => true
  | .panelCrack _ => true
  | .kettleOpportunity chunkCrc => below (2 ^ 32) chunkCrc
  | .sramMarchComplete _ => true
  | .skilletTestVerdict _ => true
  | .knownAnswerFailure skillet => below 8 skillet
  | .sliceRetire => true
  | .kettleSliceOverdue => true
  | .optimeSave => true
  | .trivetSample levels => below (2 ^ 32) levels
  | .testPulseEnd => true
  | .offPulseEnd _ => true
  | .busWarningClear volts => below 65536 volts
  | .inputReturn _ => true
  | .overvoltageReconnect _ => true
  | .temperatureFall _ => true
  | .stationLinkUp _ => true
  | .svcLinkUp => true
  | .svcLinkDown => true
  | .crackLoopClosed => true
  | .ptpMessageSend _ _ kind seq => below 7 kind && below 65536 seq
  | .announceReceiptTimeout _ => true
  | .supervisionFrameSend => true
  | .canTransmitComplete bus _ => numbered 8 bus
  | .burdenOvercurrent chain _ => below 16 chain
  | .burdenReconnect chain => below 16 chain

end Sys2Proof
end

