-- ==== Sys2Proof/Certificates/Slice0/Obligations.lean ====
section
/-! DEFINITION. The statements about the block, for the provers. -/

open Sys2Proof Sys2Proof.Machine

/-! ## The block as a whole -/

/-- A step runs the command at the front of the queue, with the rest of the queue waiting. -/
def Obligations.StepRunsFrontCommand : Prop :=
  ∀ (c : Instr) (rest : List Instr) (s : State), s.pending = c :: rest → step s = exec c { s with pending := rest }

/-- With no command waiting a step leaves the state as it is. The model's choice: log 4. -/
def Obligations.EmptyQueueIdles : Prop := ∀ s : State, s.pending = [] → step s = .next s

/-- The state after reset: BOOT, the relay closed, both alarm relays de-energised, an epoch count of 0, no image, no role, the counter
at its nominal increment, no command waiting, nothing ACTIVE or UNACK. At the addresses of `resetColumns`, some in every block of the
map outside the unit-local page, it reads the Reset column of the register tables, and so does every unit that leaves reset, in
whatever state it was. -/
def Obligations.ResetLeavesBootAndTheResetColumns : Prop :=
  (State.reset.um.mode = .boot ∧ State.reset.um.role = .none ∧ State.reset.ex.epoch = 0 ∧ State.reset.cfg.valid = false ∧
    State.reset.rng.relayOpen = false ∧ State.reset.evt.dpRelay = false ∧ State.reset.evt.ufRelay = false ∧
    State.reset.time.incr = 0x355555555 ∧ State.reset.pending = [] ∧
    ∀ e < 128, eventActive e State.reset = false ∧ eventUnack e State.reset = false) ∧
  (∀ p ∈ resetColumns, regAt (mirroredRegs State.reset) p.1 = some p.2) ∧
  ∀ (rel : Release) (high crack : Bool) (s : State), starts rel s →
    ∃ t, exec (.resetRelease rel high crack) s = .next t ∧ ∀ p ∈ resetColumns, regAt (mirroredRegs t) p.1 = some p.2

/-- The state after reset meets the invariant. -/
def Obligations.ResetMeetsInvariant : Prop := Inv State.reset

/-- Every step keeps the invariant: the dump, staging, both banks' contents and the frame memory stay in their canonical form, and
the recorder is full exactly when its last index is written. -/
def Obligations.EveryStepKeepsInvariant : Prop := ∀ s t : State, Inv s → step s = .next t → Inv t

/-- Every command completes in every state: no operand and no state of the block ends a run; and no command touches the queue. -/
def Obligations.EveryCommandCompletesAndKeepsQueue : Prop :=
  ∀ (c : Instr) (s : State), ∃ t, exec c s = .next t ∧ t.pending = s.pending

/-- Only the commands of `mayChangeMode` change the unit's own mode. -/
def Obligations.OnlyModeCommandsChangeTheMode : Prop :=
  ∀ (c : Instr) (s t : State), mayChangeMode c = false → exec c s = .next t → t.um.mode = s.um.mode

/-- But for a reset, a command that is not the whole of E+80 µs makes at most one transition, one of those that R64 lists; a unit that takes
the standby role as it enters STANDBY, or follows the pair mode at E+0 µs, may make two, by way of STANDBY. -/
def Obligations.EveryModeChangeIsListed : Prop :=
  ∀ (c : Instr) (s t : State), exec c s = .next t → (∀ b, c ≠ .inputCommit b) →
    t.um.mode = s.um.mode ∨ transition s.um.mode t.um.mode = true ∨ t.um.mode = .boot ∨
      (((∃ lv, c = .inputCutoff lv) ∨ ∃ f, c = .selftestComplete f) ∧ t.um.role = .standby ∧ transition s.um.mode .standby = true ∧ transition .standby t.um.mode = true)

/-- The image in force and CFG_FAULT change only with the key reading and at the start of the unit; the strap is read at reset release
only. -/
def Obligations.ImageAndStrapChangeOnlyAtStart : Prop :=
  ∀ (c : Instr) (s t : State), exec c s = .next t →
    (t.cfg ≠ s.cfg → (∃ k, c = .keyReading k) ∨ t.cfg = {}) ∧
    (t.um.unit ≠ s.um.unit →
      (∃ rel h k, c = .resetRelease rel h k ∧ t.um.unit = strapUnit h) ∨ ∃ n h k, c = .clockMonitorRelease n h k ∧ t.um.unit = strapUnit h)

/-! ## Reset and start -/

/-- A unit that leaves reset starts in BOOT with every register at its Reset value, but for what MRAM, flash and the oscillator's own
supply keep: the recorder, the banks, staging, the glass; the operating time is the saved one plus 1000 ms and the power cycle one
more. A channel marked failed stays so until a start-up test (R337). The clock monitor releases the reset that it holds; its third release
within 600 s latches it, and a latched monitor releases none. -/
def Obligations.ResetReleaseStartsTheUnit : Prop :=
  (∀ (rel : Release) (high crack : Bool) (s : State), starts rel s →
    ∃ t, exec (.resetRelease rel high crack) s = .next t ∧
      t.um = { resetCause := releaseCause rel, unit := if high then .b else .a } ∧
      t.ex = {} ∧ t.cfg = {} ∧ t.hap = {} ∧ t.pair = {} ∧ t.rng = {} ∧ t.time = {} ∧ t.gnA = {} ∧ t.gnB = {} ∧
      t.trv = { channels := s.trv.channels.map fun c => { failed := c.failed, fault := c.fault } } ∧
      t.siv = {} ∧ t.fld = {} ∧ t.mir = { evt := t.mir.evt } ∧ t.mir.evt.masks = [0, 0, 0, 0] ∧
      t.evt.dpRelay = false ∧ t.evt.ufRelay = false ∧
      t.log.records = s.log.records ∧ t.log.full = s.log.full ∧
      (countersBad s = false → t.log.opTime = min (s.log.opSaved + 1000) (2 ^ 40 - 1) ∧ t.log.cycle = min (s.log.cycle + 1) 0xFFFFFF) ∧
      t.upd.bankA = s.upd.bankA ∧ t.upd.bankB = s.upd.bankB ∧ t.upd.selected = s.upd.selected ∧ t.upd.floor = s.upd.floor ∧
      t.upd.staging = s.upd.staging ∧ t.upd.commit = s.upd.commit ∧ t.pnl.frame = s.pnl.frame ∧
      (s.dmp.valid = true → t.dmp.mem = s.dmp.mem ∧ t.dmp.valid = true) ∧
      (s.evt.mramBad.contains .lifeCycle = false → t.life.state = s.life.state) ∧
      (s.evt.mramBad.contains .lifeCycle = true → t.life.state = .returned) ∧
      (rel ≠ .power → eventActive 3 t = true)) ∧
  (∀ (now : Nat) (high crack : Bool) (s : State),
    (s.um.inReset = true → s.sup.monitorHolds = true → s.sup.monitorLatched = false →
      (s.sup.supplyHolds = false → ∃ t, exec (.clockMonitorRelease now high crack) s = .next t ∧
        t.um = { resetCause := .clockMonitor, unit := if high then .b else .a } ∧ eventActive 3 t = true ∧
        t.log.records = s.log.records ∧ t.sup.monitorReleases = recentReleases now s.sup.monitorReleases ∧
        t.sup.monitorLatched = decide (2 ≤ (s.sup.monitorReleases.filter fun r => decide (now ≤ r + 600000)).length)) ∧
      (s.sup.supplyHolds = true → ∃ t, exec (.clockMonitorRelease now high crack) s = .next t ∧ t.um = s.um ∧
        t.sup.monitorHolds = false ∧ t.sup.supplyHolds = true ∧ t = { s with sup := t.sup })) ∧
    (s.sup.monitorLatched = true → exec (.clockMonitorRelease now high crack) s = .next s ∧
      exec (.resetRelease (.monitor now) high crack) s = .next s))

/-- Reset asserts, from the supply supervisor at 13.0 V or from the clock monitor: no role, no emission, both relays and every output off, the
relay closed, records due but not begun lost; the recorder, the image, flash and the life cycle stay. -/
def Obligations.AssertedResetSilencesTheUnit : Prop :=
  ∀ s : State, s.um.inReset = false →
    let silenced (t : State) : Prop :=
      t.um.inReset = true ∧ t.um.mode = .boot ∧ t.um.role = .none ∧ t.ex.emit = false ∧ t.ex.buffer = [] ∧
      t.rng.relayOpen = false ∧ t.evt.dpRelay = false ∧ t.evt.ufRelay = false ∧ t.hap = {} ∧ t.evt.due = [] ∧
      (s.evt.due ≠ [] → t.log.closeOutLost = true) ∧ (∀ x ∈ t.trv.channels, x.hs = false ∧ x.ls = false) ∧
      t.log.records = s.log.records ∧ t.cfg = s.cfg ∧ t.life = s.life ∧ t.upd = s.upd ∧ t.um.unit = s.um.unit ∧
      t.mir = s.mir ∧ t.dmp = s.dmp
    (∃ t, exec .clockMonitorReset s = .next t ∧ silenced t ∧ t.sup = { s.sup with monitorHolds := true }) ∧
    (∀ volts complete, volts ≤ 3379 → ∃ t, exec (.supplyReset volts complete) s = .next t ∧ silenced t ∧
      t.sup = { s.sup with supplyHolds := true })

/-- BOOT starts the selected bank when it is neither EMPTY nor FAILED and passes its checks: LOAD, in which the station ports train and
EV_062 stands while SVC is up, and nothing else changes. A bad boot
header, or two banks of which none may be tried, gives RECOVERY. The third start of a bank on trial makes it FAILED and selects the
other one. -/
def Obligations.BootStartsTheSelectedBank : Prop :=
  ∀ (ok : Bool) (a b : BankCheck) (s : State), s.um.mode = .boot → s.um.inReset = false →
    (ok = true → (bankOf s.upd.selected s).state = .confirmed → startable s.upd.selected a b s = true → s.upd.trialFailed = false →
      let started (x : State) : State := { x with
        um := { x.um with mode := .load }, upd := { x.upd with running := x.upd.selected, trialFailed := false }
        time := { x.time with ocxoStable := x.sup.stable }, evt := { x.evt with dpRelay := false, ufRelay := false }
        sup := { x.sup with stn1 := .training, stn2 := .training } }
      (s.sup.svcUp = false → exec (.bootComplete ok a b) s = .next (started s)) ∧
      (s.sup.svcUp = true → ∃ t, Raised 62 s t ∧ exec (.bootComplete ok a b) s = .next (started t))) ∧
    (ok = false → ∃ t, exec (.bootComplete ok a b) s = .next t ∧ t.um = { s.um with mode := .recovery } ∧ t.upd = s.upd ∧ t.cfg = s.cfg) ∧
    (ok = true → tried .one s = false → tried .two s = false → (bankOf s.upd.selected s).state ≠ .provisional →
      ∃ t, exec (.bootComplete ok a b) s = .next t ∧ t.um = { s.um with mode := .recovery } ∧ t.upd = s.upd) ∧
    (ok = true → (bankOf s.upd.selected s).state = .provisional → 2 ≤ s.upd.attempts →
      ∃ t, exec (.bootComplete ok a b) s = .next t ∧ (bankOf s.upd.selected t).state = .failed ∧
        t.upd.selected = otherSide s.upd.selected ∧ eventActive 23 t = true)

/-- A bank on trial (R443, R68): each start of it is counted; at the third start that has not reached STANDBY it is FAILED, the other bank
is selected, and EV_023 is raised with word 1 set to 0x1; the other bank runs when it passes its checks; reaching STANDBY clears the
count. -/
def Obligations.BankOnTrialCountsItsStarts : Prop :=
  (∀ (a b : BankCheck) (s : State), s.um.mode = .boot → s.um.inReset = false → (bankOf s.upd.selected s).state = .provisional →
    (s.upd.attempts < 2 → ∃ t, exec (.bootComplete true a b) s = .next t ∧ t.upd.attempts = s.upd.attempts + 1 ∧
      t.upd.selected = s.upd.selected) ∧
    (s.upd.attempts < 2 → startable s.upd.selected a b s = true → ∃ t, exec (.bootComplete true a b) s = .next t ∧
      t.um = { s.um with mode := .load } ∧ t.upd.running = s.upd.selected ∧ (bankOf s.upd.selected t).state = .provisional) ∧
    (2 ≤ s.upd.attempts → eventActive 23 s = false → ∃ t d, exec (.bootComplete true a b) s = .next t ∧
      (bankOf s.upd.selected t).state = .failed ∧ t.upd.selected = otherSide s.upd.selected ∧ eventActive 23 t = true ∧
      d ∈ t.evt.due ∧ d.event = 23 ∧ d.kind = 1 ∧ d.w1 = 1) ∧
    (2 ≤ s.upd.attempts → tried (otherSide s.upd.selected) s = true → startable (otherSide s.upd.selected) a b s = true →
      ∃ t, exec (.bootComplete true a b) s = .next t ∧ t.um = { s.um with mode := .load } ∧
        t.upd.running = otherSide s.upd.selected)) ∧
  (∀ (f : SelfTestFindings) (s t : State), s.um.mode = .selftest → exec (.selftestComplete f) s = .next t → t.um.mode = .standby →
    t.upd.attempts = 0) ∧
  (∀ (f : SelfTestFindings) (s : State), s.um.mode = .selftest → (lostSkillets f s).length < 2 → f.ioFail = false → f.channels = [] →
    f.slices = [] → s.pair.heard = none → ∃ t, exec (.selftestComplete f) s = .next t ∧ t.um.mode = .standby ∧ t.upd.attempts = 0)

/-- The key is read once, in LOAD. When every step passes, the image is in force; the first step that fails gives CFG_FAULT its code, and
HOLD with cause 0x07 for an absent key (EV_012), 0x08 for any other fault (EV_013). -/
def Obligations.KeyReadingVerifiesOrHolds : Prop :=
  ∀ (k : KeyRead) (s : State), s.um.mode = .load → s.um.loaded = false →
    (keyFault k { s with sup := { s.sup with keyPresent := k.seated } } = 0 →
      ∃ t, exec (.keyReading k) s = .next t ∧ t.cfg = { valid := true, fault := 0, image := imageOf k.octets, net := netOf s.um.unit (imageOf k.octets) } ∧
        t.um = { s.um with loaded := true } ∧ t.sup = { s.sup with keyPresent := k.seated } ∧ t.mir = s.mir ∧ t.evt = s.evt ∧
        t.hap.keys = workingKeys k s) ∧
    (∀ code, keyFault k { s with sup := { s.sup with keyPresent := k.seated } } = code → code ≠ 0 →
      ∃ t, exec (.keyReading k) s = .next t ∧ t.cfg = { valid := false, fault := code } ∧ t.um.mode = .hold ∧
        t.um.holdCause = (if code = 1 then 7 else 8) ∧ t.um.holdFromLoad = true ∧ eventActive (if code = 1 then 12 else 13) t = true ∧
        t.hap.keys = s.hap.keys ∧ t.log = s.log ∧ t.upd = s.upd)

/-- LOAD's internal loop trains or times out; LOAD ends when the image is verified and the loop has been tried: SELFTEST, with the relay
opened only if the loop trained, the station and Tongs links as they trained, and the time counter at 0. -/
def Obligations.LoadEndsInSelftest : Prop :=
  ∀ s : State, s.um.mode = .load → s.um.loaded = true →
    exec .ringLoopTrained s = .next { s with rng := { s.rng with loopTrained := some true } } ∧
    (s.rng.loopTrained ≠ some true → ∃ u t, exec .ringLoopTimeout s = .next t ∧
      Raised 32 { s with rng := { s.rng with loopTrained := some false } } u ∧ Raised 33 u t) ∧
    (∀ (x t1 t2 s1 s2 : Bool), s.rng.loopTrained = some x → ∃ t, exec (.loadComplete t1 t2 s1 s2) s = .next t ∧
      t.um = { s.um with mode := .selftest } ∧ t.time.counter = 0 ∧
      t.rng = (if x then { s.rng with relayOpen := true, link1 := .training, link2 := .training, lostNow := true } else s.rng) ∧
      t.sup.stn1 = (if s1 then .up else .down) ∧ t.sup.stn2 = (if s2 then .up else .down) ∧
      (isPair s = true → t.pair.link1 = (if t1 then .up else .down) ∧ t.pair.link2 = (if t2 then .up else .down)) ∧
      t.cfg = s.cfg ∧ t.log = s.log ∧ t.ex = s.ex ∧ t.upd = s.upd ∧ t.life = s.life)

/-- The start-up test: two Skillets lost are HOLD cause 0x09; any other failure that cannot be retired is 0x0A; else STANDBY, on the
seven-tile variant of the one Skillet lost, if any. Unit A that has heard no partner takes the active role with epoch count 0; unit B
that has waited 20 000 epochs in STANDBY without unit A takes it too, and its epoch count is that of its wait; no role change comes
before it, so that TNG_ROLE_EPOCH reads 0 (log 153). -/
def Obligations.SelftestAndWaitDecideModeAndRole : Prop :=
  (∀ (f : SelfTestFindings) (s : State), s.um.mode = .selftest →
    (2 ≤ (lostSkillets f s).length → ∃ t, exec (.selftestComplete f) s = .next t ∧ t.um.mode = .hold ∧ t.um.holdCause = 9 ∧ t.um.role = .none) ∧
    ((lostSkillets f s).length < 2 → (f.ioFail = true ∨ f.channels ≠ []) →
      ∃ t, exec (.selftestComplete f) s = .next t ∧ t.um.mode = .hold ∧ t.um.holdCause = 0xA ∧ t.um.role = .none) ∧
    ((lostSkillets f s).length < 2 → f.ioFail = false → f.channels = [] → f.slices = [] → s.pair.heard = none →
      ∃ t, exec (.selftestComplete f) s = .next t ∧ t.um.mode = .standby ∧ t.mir.mode.pairMode = .standby ∧
        t.fab.marked = lostSkillets f s ∧ t.fab.variant = (lostSkillets f s).head? ∧ t.cfg = s.cfg ∧ t.log = s.log ∧
        (isPair s = true → s.um.unit = .a → s.um.role = .none →
          t.um.role = .active ∧ t.ex.epoch = 0 ∧ t.mir.pair.activeUnit = .a ∧ t.mir.pair.roleChanges = s.mir.pair.roleChanges))) ∧
  (∀ s : State, s.um.mode = .standby → s.um.role = .none → s.um.unit = .b → isPair s = true → 20000 ≤ s.um.roleWait →
    partnerInStandby s = false →
    exec .unitBRoleWaitExpiry s = .next { s with
      um := { s.um with role := .active, roleWait := 0 }, ex := { s.ex with epoch := s.um.roleWait }
      pair := { s.pair with phase := .none }
      mir := { s.mir with pair := { s.mir.pair with cause := 0, activeUnit := .b, roleEpoch := 0 } } })

/-! ## Links and paths -/

/-- Tongs, ring, station and service links: a link that goes down or up takes its state, and its event follows it; nothing else changes
but the ring's evidence of the epoch, which a link that is down cannot give. -/
def Obligations.LinksTakeTheirStateAndEvent : Prop :=
  ∀ s : State,
    (isPair s = true →
      (∃ t, exec (.tongsLinkDown .one) s = .next t ∧ Raised 39 { s with pair := { s.pair with link1 := .down } } t) ∧
      (∃ t, exec (.tongsLinkDown .two) s = .next t ∧ Raised 40 { s with pair := { s.pair with link2 := .down } } t) ∧
      (∃ t, exec (.tongsLinkUp .one) s = .next t ∧ Cleared 39 { s with pair := { s.pair with link1 := .up } } t) ∧
      (∃ t, exec (.tongsLinkUp .two) s = .next t ∧ Cleared 40 { s with pair := { s.pair with link2 := .up } } t)) ∧
    (s.rng.relayOpen = true →
      (∃ t, exec (.ringLinkDown .one) s = .next t ∧
        Raised 32 { s with rng := { s.rng with link1 := .down, seen := false, seenBoth := false, lostNow := true } } t) ∧
      (∃ t, exec (.ringLinkDown .two) s = .next t ∧
        Raised 33 { s with rng := { s.rng with link2 := .down, seen := false, seenBoth := false, lostNow := true } } t) ∧
      (∃ t, exec (.ringLinkUp .one) s = .next t ∧ Cleared 32 { s with rng := { s.rng with link1 := .up } } t) ∧
      (∃ t, exec (.ringLinkUp .two) s = .next t ∧ Cleared 33 { s with rng := { s.rng with link2 := .up } } t) ∧
      (s.rng.link1 ≠ .up → ∃ t, exec (.ringLinkTrainTimeout .one) s = .next t ∧ Raised 32 s t) ∧
      (s.rng.link2 ≠ .up → ∃ t, exec (.ringLinkTrainTimeout .two) s = .next t ∧ Raised 33 s t)) ∧
    (timerRuns s = true →
      (s.um.mode ≠ .load →
        (∃ t, exec (.stationLinkDown .one) s = .next t ∧ Raised 54 { s with sup := { s.sup with stn1 := .down } } t) ∧
        (∃ t, exec (.stationLinkDown .two) s = .next t ∧ Raised 55 { s with sup := { s.sup with stn2 := .down } } t)) ∧
      (∃ t, exec (.stationLinkUp .one) s = .next t ∧ Cleared 54 { s with sup := { s.sup with stn1 := .up } } t) ∧
      (∃ t, exec (.stationLinkUp .two) s = .next t ∧ Cleared 55 { s with sup := { s.sup with stn2 := .up } } t) ∧
      (∃ t, exec .svcLinkUp s = .next t ∧ Raised 62 { s with sup := { s.sup with svcUp := true } } t) ∧
      (∃ t, exec .svcLinkDown s = .next t ∧ Cleared 62 { s with sup := { s.sup with svcUp := false } } t))

/-- Paths and evidence by their counts: three epochs without a valid Tongs frame lose the Tongs path (EV_041) and 200 consecutive epochs
with a Tongs heartbeat restore it; three epochs without a ring heartbeat of the partner lose the ring path (EV_042); 2000 one-sided
evidence epochs break the ring (EV_034) and 2000 two-sided ones restore it. More than 100 invalid frames in 2000 epochs raise EV_035 on
the ring and EV_060 on the station and service ports; FRAME_ERR counts the latter and holds at 255. -/
def Obligations.PathsFollowTheirEpochCounts : Prop :=
  ∀ s : State,
    (isPair s = true → timerRuns s = true →
      (3 ≤ s.pair.tongsAge → ∃ t, exec .tongsPathLost s = .next t ∧ Raised 41 { s with pair := { s.pair with tongsPath := false } } t) ∧
      (200 ≤ s.pair.beatRun → ∃ t, exec .tongsPathReturn s = .next t ∧ Cleared 41 { s with pair := { s.pair with tongsPath := true } } t) ∧
      (3 ≤ s.pair.ringAge → ∃ t, exec .ringPathLost s = .next t ∧ Raised 42 { s with pair := { s.pair with ringPath := false } } t)) ∧
    (2000 ≤ s.rng.oneSided → ∃ t, exec .ringBroken s = .next t ∧ Raised 34 { s with rng := { s.rng with broken := true } } t) ∧
    (2000 ≤ s.rng.twoSided → ∃ t, exec .ringRestored s = .next t ∧ Cleared 34 { s with rng := { s.rng with broken := false } } t) ∧
    (100 < s.rng.invalid.foldl (· + ·) s.rng.invalidNow → ∃ t, exec .ringFrameErrors s = .next t ∧ Raised 35 s t) ∧
    (s.rng.invalid.foldl (· + ·) s.rng.invalidNow ≤ 100 → exec .ringFrameErrors s = .next s) ∧
    (∀ (n k : Nat) (r : List Nat), timerRuns s = true → s.sup.frameErrs = k :: r →
      (100 < k + n + r.sum → ∃ t, exec (.stationFrameErrors n) s = .next t ∧
        Raised 60 { s with sup := { s.sup with frameErrs := (k + n) :: r, frameErr := min (s.sup.frameErr + n) 255 } } t) ∧
      (k + n + r.sum ≤ 100 → exec (.stationFrameErrors n) s =
        .next { s with sup := { s.sup with frameErrs := (k + n) :: r, frameErr := min (s.sup.frameErr + n) 255 } }))

/-! ## The pair -/

/-- Epoch lock of a standby unit: 200 epochs within bounds acquire it; |θ| above 300 ticks (2θ above 600 half-ticks), or 20 epochs without
a measurement, lose it with EV_043, and a unit in SETTLE, AUDIT or MIRRORED goes back to JOIN. Resynchronisation: JOIN ends at
COPY_START after the timer step; COPY ends into SETTLE with its epoch C once every page has been sent, which a standby unit knows by having
received each (log 154); SETTLE ends into AUDIT at epoch S or later, once no page remains to be sent; eight epochs of equal
digests with the lock held end AUDIT into MIRRORED. On the active unit JOIN ends at COPY_START with every page unsent. -/
def Obligations.EpochLockAndResynchronisationFollow : Prop :=
  (∀ (c : Nat) (s : State), s.um.role = .active → s.pair.copyStart = some c → c ≤ s.ex.epoch → s.pair.phase = .join →
    ∃ t, exec .joinEnd s = .next t ∧ t = { s with pair := t.pair } ∧ t.pair.phase = .copy ∧ t.pair.copyStart = some c ∧
      t.pair.unsent = List.range 512) ∧
  (∀ s : State,
    (s.pair.phase = .copy → (if s.um.role = .active then s.pair.unsent = [] else ∀ p, p < 512 → p ∈ s.pair.pagesSeen) →
      ∃ t, exec .copyEnd s = .next t ∧ t = { s with pair := t.pair } ∧ t.pair.phase = .settle ∧
        t.pair.copyEnd = some s.ex.epoch ∧ t.pair.settleEnd = some (settleEpoch s.cfg.image.cases.length s.ex.epoch)) ∧
    (∀ e, s.pair.phase = .settle → s.pair.settleEnd = some e → e ≤ s.ex.epoch →
      (if s.um.role = .active then s.pair.unsent = [] else s.pair.pageCount < 8) →
      ∃ t, exec .settleEnd s = .next t ∧ t = { s with pair := t.pair } ∧ t.pair.phase = .audit ∧ t.pair.auditRun = 0) ∧
    (s.pair.phase = .settle → s.um.role = .active → s.pair.unsent ≠ [] → exec .settleEnd s = .next s)) ∧
  ∀ s : State, s.um.role = .standby →
    (s.pair.locked = false → 200 ≤ s.pair.lockRun →
      exec .epochLockAcquired s = .next { s with pair := { s.pair with locked := true } }) ∧
    (s.pair.locked = true → (20 ≤ s.pair.noMeasure ∨ ∃ th, s.pair.theta = some th ∧ 600 < th.natAbs) →
      (phaseMirrored s.pair.phase = false → ∃ t, exec .epochLockLost s = .next t ∧
        Raised 43 { s with pair := { s.pair with locked := false, lockRun := 0 } } t) ∧
      (phaseMirrored s.pair.phase = true → ∃ u t, exec .epochLockLost s = .next t ∧
        Raised 43 { s with pair := { s.pair with locked := false, lockRun := 0 } } u ∧
        t = { u with pair := { u.pair with phase := .join, phaseEpochs := 0, auditRun := 0, auditDiff := false
                                           copyStart := none, stepped := false } })) ∧
    (∀ c, s.pair.copyStart = some c → c ≤ s.ex.epoch → s.pair.phase = .join → s.pair.stepped = true →
      ∃ t, exec .joinEnd s = .next t ∧ t = { s with pair := t.pair } ∧ t.pair.phase = .copy ∧ t.pair.copyStart = none ∧
        t.pair.phaseEpochs = 0 ∧ t.pair.pagesRx = []) ∧

    (s.pair.phase = .audit → 8 ≤ s.pair.auditRun → s.pair.locked = true →
      ∃ t, exec .auditEnd s = .next t ∧ t = { s with pair := t.pair } ∧ t.pair.phase = .mirrored ∧ t.pair.attempts = 0)

/-- A failed attempt raises EV_047; the next one starts in COPY, but after three the unit stays an unmirrored standby for 120 000 epochs,
after which a new series starts where images and firmware match. -/
def Obligations.FailedAttemptsBackOff : Prop :=
  ∀ s : State,
    (attemptFailed s = true →
      (s.pair.attempts < 2 → ∃ t, exec .resyncAttemptFailed s = .next t ∧ eventActive 47 t = true ∧ t.pair.phase = .copy ∧
        t.pair.attempts = s.pair.attempts + 1 ∧ t.pair.backoff = 0 ∧ t.mir.pair = s.mir.pair ∧ t.ex = s.ex ∧ t.um = s.um) ∧
      (2 ≤ s.pair.attempts → ∃ t, exec .resyncAttemptFailed s = .next t ∧ eventActive 47 t = true ∧ t.pair.phase = .unmirrored ∧ eventActive 119 t = true ∧
        t.pair.attempts = s.pair.attempts + 1 ∧ t.pair.backoff = 120000 ∧ t.mir.pair = s.mir.pair ∧ t.ex = s.ex ∧ t.um = s.um)) ∧
    (s.um.role = .standby → s.pair.phase = .unmirrored → 3 ≤ s.pair.attempts → s.pair.backoff = 0 →
      s.pair.imageMismatch = false → s.pair.fwMismatch = false →
      ∃ t, exec .resyncBackoffEnd s = .next t ∧ t.pair.attempts = 0 ∧
        t.pair.phase = .join ∧ t.pair.copyStart = none ∧ eventActive 119 t = false ∧ t.um = s.um ∧ t.ex = s.ex) ∧
    (s.um.role = .standby → isPair s = true → standbyChoice s = .unmirrored → s.pair.phase ≠ .unmirrored →
      ∃ t, exec .unmirroredStandbyEntry s = .next t ∧ t.pair.phase = .unmirrored ∧ t.ex.emit = false ∧ eventActive 119 t = true ∧
        t.um = s.um ∧ t.mir.pair = s.mir.pair)

/-- What the first valid copy of a Tongs frame leaves for its epoch: records that arrive by E+63 µs are held with their arrival and later
ones count in LATE with EV_036; acknowledgements until E+80 µs; digest frames until E+340 µs; outcomes of an arbitration until
E+480 µs. A second copy of the same TYPE, EPOCH and INDEX, in the epoch of the first or the one after, changes nothing but the evidence
of the path. -/
def Obligations.TongsFramesOfTheEpochAreHeld : Prop :=
  ∀ (h : TongsHeader) (s : State), isPair s = true → timerRuns s = true → tongsValid h s = true → h.epoch = s.ex.epoch →
    let fresh (type : Nat) : Prop := (type, h.epoch, h.index) ∉ s.pair.copies ∧ (type, h.epoch, h.index) ∉ s.pair.copiesBefore
    (∀ rs, fresh 0x41 → isMirrored s = true → h.atNs ≤ 63000 →
      (∀ r ∈ rs, recordId r ∉ s.ex.seen) → exec (.tongsRecordFrameRx h rs) s = .next { s with
        ex := { s.ex with partner := s.ex.partner ++ rs.map fun r => (r, h.atNs) }
        pair := { s.pair with tongsNow := true, copies := (0x41, h.epoch, h.index) :: s.pair.copies } }) ∧
    (∀ rs, fresh 0x41 → isMirrored s = true → 63000 < h.atNs →
      ∃ t, exec (.tongsRecordFrameRx h rs) s = .next t ∧ t.ex = s.ex ∧
        t.pair.lateFrames = min (s.pair.lateFrames + 1) 65535 ∧ eventActive 36 t = true) ∧
    (∀ ids, fresh 0x42 → isMirrored s = true → h.atNs ≤ 80000 →
      exec (.tongsAckRx h ids) s = .next { s with
        ex := { s.ex with ackRx := some (s.ex.ackRx.getD [] ++ ids) }
        pair := { s.pair with tongsNow := true, copies := (0x42, h.epoch, h.index) :: s.pair.copies } }) ∧
    (∀ b, fresh 0x43 → h.atNs ≤ 340000 → exec (.tongsDigestRx h b) s = .next { s with
        ex := { s.ex with partnerDigest := some b }
        pair := { s.pair with tongsNow := true, copies := (0x43, h.epoch, h.index) :: s.pair.copies, digestNow := !b.overrun } }) ∧
    (∀ m, fresh 0x47 → s.ex.arbitration = true → h.atNs ≤ 480000 →
      exec (.tongsOutcomeRx h m) s = .next { s with
        ex := { s.ex with partnerRerun := some m }
        pair := { s.pair with tongsNow := true, copies := (0x47, h.epoch, h.index) :: s.pair.copies } }) ∧
    (∀ b, ((0x43, h.epoch, h.index) ∈ s.pair.copies ∨ (0x43, h.epoch, h.index) ∈ s.pair.copiesBefore) →
      exec (.tongsDigestRx h b) s = .next { s with pair := { s.pair with tongsNow := true } })

/-- Pages, audit digests, heartbeats and update status on Tongs: a standby unit writes a page into its mirrored state in COPY and keeps it
in SETTLE until the next E+0 µs; a difference of audit digests in MIRRORED makes resynchronisation due and in AUDIT fails the attempt; a
heartbeat is the partner's
report, an image ID or exchanged digest that differs raises EV_015, firmware that differs EV_016; the update status is held. -/
def Obligations.TongsStateOfThePartnerIsHeld : Prop :=
  ∀ (h : TongsHeader) (s : State), isPair s = true → timerRuns s = true → tongsValid h s = true →
    let fresh (type : Nat) : Prop := (type, h.epoch, h.index) ∉ s.pair.copies ∧ (type, h.epoch, h.index) ∉ s.pair.copiesBefore
    (∀ n content, fresh 0x45 → s.um.role = .standby → s.pair.phase = .copy → n < 512 →
      ∃ t, exec (.tongsPageRx h n content) s = .next t ∧ t.mir = Cfg.mirrorLoad s.mir n content ∧
        (∀ p, p ∈ t.pair.pagesSeen ↔ p = n ∨ p ∈ s.pair.pagesSeen) ∧
        t = { s with
          mir := t.mir
          pair := { s.pair with tongsNow := true, copies := (0x45, h.epoch, h.index) :: s.pair.copies, pageCount := h.count
                                pagesSeen := t.pair.pagesSeen } }) ∧
    (∀ n content, fresh 0x45 → s.um.role = .standby → s.pair.phase = .settle → n < 512 →
      exec (.tongsPageRx h n content) s = .next { s with
        pair := { s.pair with tongsNow := true, copies := (0x45, h.epoch, h.index) :: s.pair.copies, pageCount := h.count
                              pagesRx := s.pair.pagesRx ++ [(n, content)] } }) ∧
    (∀ first d, fresh 0x46 → s.um.role = .standby → s.pair.phase = .audit → h.epoch = s.ex.epoch →
      (List.range d.length).map (fun i => auditDigest (first + i) s) ≠ d →
      exec (.tongsAuditRx h first d) s = .next { s with
        pair := { s.pair with tongsNow := true, copies := (0x46, h.epoch, h.index) :: s.pair.copies, auditSeen := true, auditDiff := true } }) ∧
    (∀ first d, fresh 0x46 → s.um.role = .standby → s.pair.phase = .mirrored → h.epoch = s.ex.epoch →
      (List.range d.length).map (fun i => auditDigest (first + i) s) ≠ d →
      exec (.tongsAuditRx h first d) s = .next { s with
        ex := { s.ex with resyncDue := true }
        pair := { s.pair with tongsNow := true, copies := (0x46, h.epoch, h.index) :: s.pair.copies, auditSeen := true } }) ∧
    (∀ b tick, fresh 0x44 → ∃ t, exec (.tongsHeartbeatRx h b tick) s = .next t ∧
      t.pair.tongsBeatNow = true ∧ t.pair.echoTick = b.txTick ∧ t.pair.echoRx = tick ∧ t.pair.heardAge = 0 ∧
      (∃ p, t.pair.heard = some p ∧ p.epoch = h.epoch ∧ p.role = h.role ∧ p.mode = b.mode ∧ p.imageId = b.imageId ∧ p.fwDigest = b.fwDigest) ∧
      (let known := match b.digest with
        | some d => some (b.imageId, d)
        | none => s.pair.exchanged
      t.pair.exchanged = known ∧ eventActive 15 t = (b.imageId != s.cfg.image.imageId || (match known with
        | some e => e.1 == b.imageId && e.2 != beNat s.cfg.image.digest
        | none => false))) ∧
      eventActive 16 t = (b.fwDigest != fwDigest s) ∧ t.um = s.um ∧ t.ex = s.ex ∧ t.cfg = s.cfg) ∧
    (∀ b, fresh 0x48 → ∃ t, exec (.tongsUpdateStatusRx h b) s = .next t ∧
      t.upd.partner = some b ∧ t.um = s.um ∧ t.ex = s.ex ∧ t.mir.pair = s.mir.pair)

/-! ## The ring -/

/-- Frames of the partner and of the ring, whose first copy within the forget time is taken, and whose second one is evidence of the other
port alone. A valid command frame of the partner in the active role is active evidence; a valid ring heartbeat is its report; a frame with a
failed check is counted and nothing is taken from it. A frame of another node goes on to the
other port while that is up, a PTP event message with the residence time and the peer delay added, and its sender is heard; one from the
unit's own address is EV_063 (log 141). A valid feedback frame of a declared thrust unit, from its drive's address, becomes an input record of
its source, with the next sequence number and the stamp of its tick, referred to the port; the same FB_SEQ again is discarded. -/
def Obligations.RingFramesAreTakenAndForwarded : Prop :=
  ∀ s : State, s.rng.relayOpen = true →
    let first (rx : RingRx) : Prop := hsrFirst rx.src rx.hsrSeq rx.nowMs s = none
    (∀ rx f, ringValid 1 420 (partnerNet s).ring rx = true → f.unit ≠ s.um.unit →
      (first rx → ∃ t, exec (.ringCommandFrameRx rx f) s = .next t ∧
        t = { s with rng := t.rng, pair := { s.pair with activeNow := s.pair.activeNow || f.role == .active } } ∧
        t.rng.invalidNow = s.rng.invalidNow ∧ t.rng.crcErr = s.rng.crcErr ∧
        hsrFirst rx.src rx.hsrSeq rx.nowMs t = some ⟨rx.src, rx.hsrSeq, rx.nowMs, rx.port⟩ ∧
        (isPair s = true → ringBothUp s = true → t.rng.seen = true)) ∧
      (∀ e, hsrFirst rx.src rx.hsrSeq rx.nowMs s = some e → ∃ t, exec (.ringCommandFrameRx rx f) s = .next t ∧
        t = { s with rng := { s.rng with hsrSeen := t.rng.hsrSeen, seen := t.rng.seen, seenBoth := t.rng.seenBoth } } ∧
        (isPair s = true → ringBothUp s = true → e.port ≠ rx.port → t.rng.seenBoth = true))) ∧
    (∀ rx f, rx.fcsOk = false → exec (.ringCommandFrameRx rx f) s =
      .next { s with rng := { s.rng with crcErr := min (s.rng.crcErr + 1) 65535, invalidNow := s.rng.invalidNow + 1 } }) ∧
    (∀ rx f, rx.fcsOk = true → rx.crcOk = false → first rx → ∃ t, exec (.ringCommandFrameRx rx f) s = .next t ∧
      t = { s with rng := { s.rng with
        crcErr := min (s.rng.crcErr + 1) 65535, invalidNow := s.rng.invalidNow + 1, hsrSeen := t.rng.hsrSeen } }) ∧
    (∀ rx f, rx.fcsOk = true → rx.crcOk = true → (rx.type ≠ 1 ∨ rx.version ≠ 1 ∨ rx.length ≠ 420 ∨ rx.src ≠ (partnerNet s).ring) → first rx →
      ∃ t, exec (.ringCommandFrameRx rx f) s = .next t ∧ t = { s with rng := { s.rng with
        foreign := min (s.rng.foreign + 1) 65535, invalidNow := s.rng.invalidNow + 1, hsrSeen := t.rng.hsrSeen } }) ∧
    (∀ rx f, isSingle s = false → ringValid 3 40 (partnerNet s).ring rx = true → f.unit ≠ s.um.unit → first rx →
      ∃ t, exec (.ringHeartbeatRx rx f) s = .next t ∧
      t.pair.ringNow = true ∧ t.pair.heardAge = 0 ∧ t.um = s.um ∧ t.ex = s.ex ∧
      (∃ p, t.pair.heard = some p ∧ p.role = f.role ∧ p.mode = f.mode ∧ p.imageId = f.imageId ∧ p.fwDigest = f.fwDigest ∧
        p.epoch % 2 ^ 32 = f.epoch % 2 ^ 32) ∧
      eventActive 16 t = (f.fwDigest != fwDigest s)) ∧
    (∀ rx f, isSingle s = true → ringFormed 3 40 rx = true → first rx → ∃ u t, exec (.ringHeartbeatRx rx f) s = .next t ∧
      u = { s with pair := { s.pair with ringNow := true }, rng := { s.rng with hsrSeen := u.rng.hsrSeen } } ∧ Raised 15 u t) ∧
    (∀ f, f.own = false → f.forNode = false → f.forward = true → f.source ≠ s.cfg.net.ring →
      (match f.inPort with | .one => s.rng.link2 | .two => s.rng.link1) = .up →
      ∃ t, exec (.ringFrameForward f) s = .next t ∧
        t.out = sentBy s (.forwarded (match f.inPort with | .one => .two | .two => .one) f.source f.hsrSeq
          (if f.ptpEvent then f.correction + residence f s + (ringPtp f.inPort s).peerDelay else f.correction)) :: s.out ∧
        lookupNat f.source t.rng.nodes = some f.nowMs ∧ t = { s with out := t.out, rng := { s.rng with nodes := t.rng.nodes } }) ∧
    (∀ f, f.own = false → f.source = s.cfg.net.ring → ∃ t, exec (.ringFrameForward f) s = .next t ∧ eventActive 63 t = true ∧
      t.rng.duplicate = some 0 ∧ t.um = s.um ∧ t.ex = s.ex) ∧
    (∀ f, f.own = true → exec (.ringFrameForward f) s = .next s) ∧
    (∀ (rx : RingRx) (tick : Int) (fb : Feedback), ringValid 2 48 (unitDecl fb.unit s).ringAddr rx = true → declared fb.unit s = true →
    first rx → formsRecords s = true → s.rng.fbSeq.length = 16 → fb.unit < 16 →
    (s.rng.fbSeq[fb.unit]? ≠ some (some fb.fbSeq) → ∃ (t : State) (r : InRecord), exec (.feedbackFrameRx rx tick fb) s = .next t ∧
      t = { s with
        rng := { s.rng with fbSeq := t.rng.fbSeq, hsrSeen := t.rng.hsrSeen, seen := t.rng.seen, seenBoth := t.rng.seenBoth }
        ex := { s.ex with buffer := s.ex.buffer ++ [{ item := r }], seqs := t.ex.seqs } } ∧
      t.rng.fbSeq[fb.unit]? = some (some fb.fbSeq) ∧ r.source = (unitDecl fb.unit s).source ∧ r.origin = s.um.unit ∧
      r.stamp = arrivalStamp (match rx.port with | .one => 0 | .two => 1) tick s ∧ r.seq = nextSeq (unitDecl fb.unit s).source s ∧
      r.payload = feedbackBytes fb ∧ r.holdover = holdoverAt r.tov s) ∧
    (s.rng.fbSeq[fb.unit]? = some (some fb.fbSeq) → ∃ t, exec (.feedbackFrameRx rx tick fb) s = .next t ∧
      t = { s with rng := { s.rng with hsrSeen := t.rng.hsrSeen, seen := t.rng.seen, seenBoth := t.rng.seenBoth } }))

/-! ## What the unit sends in an epoch -/

/-- The messages of the exchange that a unit of a pair sends: its heartbeat, its update status every 200th epoch, its acknowledgement of
every partner record it holds, HSR supervision; and nothing else changes but what says that they were sent. A single unit sends the ring
heartbeat alone, and a unit whose relay is closed none on the ring. The heartbeat is 96 octets,
big-endian, and goes out on both Tongs links; the ring heartbeat is 40 octets and goes out on both ring ports. -/
def Obligations.ExchangeMessagesAreSent : Prop :=
  (∀ s : State,
    (∀ ticks, pastLoad s = true → isPair s = true → s.rng.relayOpen = true → ∃ t, exec (.heartbeatSend ticks) s = .next t ∧
      t.out = sentBy s (.ringHeartbeat (ringHeartbeat t)) :: sentBy s (.heartbeat (heartbeatBody ticks s)) :: s.out ∧
      t = { s with out := t.out, pair := { s.pair with txTicks := ((s.ex.epoch * 150000 + ticks) :: s.pair.txTicks).take 2 }
                   rng := { s.rng with hsrSeq := (s.rng.hsrSeq + 1) % 65536 } }) ∧
    (∀ ticks, pastLoad s = true → isPair s = true → s.rng.relayOpen = false → exec (.heartbeatSend ticks) s = .next { s with
      out := sentBy s (.heartbeat (heartbeatBody ticks s)) :: s.out
      pair := { s.pair with txTicks := ((s.ex.epoch * 150000 + ticks) :: s.pair.txTicks).take 2 } }) ∧
    (∀ ticks, pastLoad s = true → isPair s = false → s.rng.relayOpen = true → exec (.heartbeatSend ticks) s = .next { s with
      out := sentBy s (.ringHeartbeat (ringHeartbeat s)) :: s.out, rng := { s.rng with hsrSeq := (s.rng.hsrSeq + 1) % 65536 } }) ∧
    (pastLoad s = true → isPair s = true → s.ex.epoch % 200 = 0 → exec .updateStatusSend s = .next { s with
      out := sentBy s (.updateStatus { state := s.upd.state, provisional := (runningBank s).state == .provisional
                                       committed := s.upd.commit.getD 0 }) :: s.out }) ∧
    (isMirrored s = true → formsRecords s = true → s.ex.ackSent = none → exec .acknowledgementSend s = .next { s with
      ex := { s.ex with ackSent := some (s.ex.partner.map fun r => recordId r.1) }
      out := sentBy s (.ack (s.ex.partner.map fun r => recordId r.1)) :: s.out }) ∧
    (s.rng.relayOpen = true → exec .supervisionFrameSend s = .next { s with
      out := sentBy s (.supervision s.rng.supSeq s.cfg.net.ring) :: s.out
      rng := { s.rng with hsrSeq := (s.rng.hsrSeq + 1) % 65536, supSeq := (s.rng.supSeq + 1) % 65536 } })) ∧
  (∀ (b : HeartbeatBody) (s : State), ∃ p, payloadOf (sentBy s (.heartbeat b)) = some p ∧ p.length = 96 ∧
    octets p 0 1 = 0x44 ∧ octets p 1 1 = 1 ∧ octets p 2 2 = 96 ∧ octets p 4 6 = s.ex.epoch % 2 ^ 48 ∧ octets p 10 1 = unitCode s.um.unit ∧
    octets p 11 1 = roleCode s.um.role ∧ octets p 16 1 = modeCode b.mode ∧ octets p 20 8 = b.imageId % 2 ^ 64 ∧
    octets p 36 8 = b.txTick % 2 ^ 64 ∧ octets p 68 8 = b.copyStart % 2 ^ 64 ∧ octets p 92 4 = crc32c (p.take 92) % 2 ^ 32 ∧
    portsOf (.heartbeat b) = [.tongs1, .tongs2]) ∧
  (∀ (f : RingHeartbeat) (s : State), ∃ p, payloadOf (sentBy s (.ringHeartbeat f)) = some p ∧ p.length = 40 ∧ octets p 0 1 = 3 ∧
    octets p 4 4 = f.epoch % 2 ^ 32 ∧ octets p 36 4 = crc32c (p.take 36) % 2 ^ 32 ∧ portsOf (.ringHeartbeat f) = [.ring1, .ring2])

/-- A unit that is to emit sends one command frame an epoch, with its epoch, unit, role, authority and set-points, 420 octets on both ring
ports; a start after E+352 µs counts in LATE. A unit that is not to emit, has emitted, or has been stopped by a fatal error sends none. -/
def Obligations.CommandFrameGoesOutOnce : Prop :=
  ∀ (start : Nat) (s : State),
    (emitMode s.um.mode = true → s.ex.emit = true → s.ex.emitted = false → s.ex.stopped = false → s.rng.relayOpen = true →
      ∃ t, exec (.commandFrameEmit start) s = .next t ∧
        (∃ f p, t.out = sentBy s (.command f) :: s.out ∧ f.epoch = s.ex.epoch % 2 ^ 32 ∧ f.unit = s.um.unit ∧ f.role = s.um.role ∧
          f.authority = authority s ∧ f.imageId = s.cfg.image.imageId ∧ f.seq = s.mir.pair.seq ∧ f.digest = s.ex.cmdDigest ∧
          f.setPoints = setPoints s ∧ payloadOf (sentBy s (.command f)) = some p ∧ p.length = 420 ∧ octets p 0 1 = 1 ∧
          octets p 4 4 = s.ex.epoch % 2 ^ 32 ∧ octets p 416 4 = crc32c (p.take 416) % 2 ^ 32 ∧ portsOf (.command f) = [.ring1, .ring2]) ∧
        t = { s with out := t.out, ex := { s.ex with emitted := true }
                     rng := { s.rng with hsrSeq := (s.rng.hsrSeq + 1) % 65536
                                         late := if 352000 < start then min (s.rng.late + 1) 65535 else s.rng.late } } ∧
        exec (.commandFrameEmit start) t = .next t) ∧
    ((s.ex.emit = false ∨ s.ex.stopped = true ∨ emitMode s.um.mode = false) → exec (.commandFrameEmit start) s = .next s)

/-! ## CAN and serial -/

/-- Error counters of a CAN bus that is in use and not off: they are kept, one that reaches its warning threshold raises EV_048 and gives the
warning state, 128 or more make the bus error passive with EV_049; only that bus and those events change. Bus-off: EV_050, the transmit
counter at 255, no single message left in the bus's queue, the one of highest priority moved to the paired bus where that is open, and an
automatic recovery begun when fewer than three began in the last 120 000 epochs, else the bus held off with EV_051. After
128 occurrences of 11 recessive bits a bus whose recovery had begun is error active again. Each of the four commands completes on every bus in
use, whatever its state. -/
def Obligations.CanBusesFollowTheirCounters : Prop :=
  ∀ (b : Nat) (s : State), s.fld.buses.length = 8 → busUsed b s = true →
    let c := busState b s
    let only (t : State) : Prop := (∀ k, 1 ≤ k → k ≠ b → busState k t = busState k s) ∧
      t = withEvents { s with fld := { s.fld with buses := t.fld.buses } } t
    let counted (tec rec : Nat) (t : State) : Prop :=
      busState b t = { c with
        state := if 128 ≤ tec ∨ 128 ≤ rec then 2 else if (warnOf b s).1 ≤ tec ∨ (warnOf b s).2 ≤ rec then 1 else 0
        txErr := tec, rxErr := rec } ∧
      ((warnOf b s).1 ≤ tec ∨ (warnOf b s).2 ≤ rec → eventActive 48 t = true) ∧ (128 ≤ tec ∨ 128 ≤ rec → eventActive 49 t = true) ∧ only t
    (∀ tec rec, tec < 256 → rec < 256 →
      (busOff b s = false → ∃ t, exec (.canErrorWarning b tec rec) s = .next t ∧ counted tec rec t) ∧
      (busOff b s = false → (128 ≤ tec ∨ 128 ≤ rec) → ∃ t, exec (.canErrorPassive b tec rec) s = .next t ∧ counted tec rec t) ∧
      (tec < 128 → rec < 128 → exec (.canErrorPassive b tec rec) s = .next s) ∧
      (busOff b s = true → exec (.canErrorWarning b tec rec) s = .next s ∧ exec (.canErrorPassive b tec rec) s = .next s)) ∧
    (busOff b s = false →
      let begins : Bool := decide ((c.recoveries.filter (· < 120000)).length < 3)
      let top := topMessage (c.queue.filter fun m => !m.dual)
      ∃ t, exec (.canBusOff b) s = .next t ∧ (busState b t).state = (if begins then 3 else 4) ∧ (busState b t).begun = begins ∧
        (busState b t).txErr = 255 ∧ (busState b t).busOffs = min (c.busOffs + 1) 255 ∧ (busState b t).queue = c.queue.filter (·.dual) ∧
        eventActive 50 t = true ∧ (begins = false → eventActive 51 t = true) ∧
        (∀ m, top = some m → busOpen (pairedBus b) s = true →
          (busState (pairedBus b) t).queue = (busState (pairedBus b) s).queue ++ [m] ∧ (busState b t).moved = min (c.moved + 1) 255) ∧
        ((top = none ∨ busOpen (pairedBus b) s = false) → busState (pairedBus b) t = busState (pairedBus b) s) ∧
        (∀ k, 1 ≤ k → k ≠ b → k ≠ pairedBus b → busState k t = busState k s) ∧
        t = withEvents { s with fld := { s.fld with buses := t.fld.buses } } t) ∧
    (busOff b s = true → exec (.canBusOff b) s = .next s) ∧
    (c.state = 3 → c.begun = true → ∃ t, exec (.canBusRecovery b) s = .next t ∧
      busState b t = { c with state := 0, txErr := 0, rxErr := 0, begun := false } ∧ only t) ∧
    (c.state = 3 → c.begun = false → ∃ t, exec (.canBusRecovery b) s = .next t ∧
      busState b t = { c with state := 4 } ∧ eventActive 51 t = true ∧ only t) ∧
    (c.state ≠ 3 → exec (.canBusRecovery b) s = .next s)

/-- Messages on CAN, of a unit that emits its command frame in the epoch: a single message enters the queue of its primary bus at its offset,
with its identifier and payload, or that of the paired bus while the primary is off; a dual one enters both; with neither open it is
withdrawn, and a disabled primary releases nothing. One that wins arbitration goes out and leaves the queue; one without a win
500 µs after its release is withdrawn with EV_052, unless it is in transmission; a valid one that arrives becomes an input record of its
source, and a repeat does not. -/
def Obligations.CanMessagesQueueCompleteAndArrive : Prop :=
  ∀ s : State, s.fld.buses.length = 8 →
    (∀ m off d, emitting s = true → s.um.role ≠ .none → s.fld.releases = [(m, off)] →
      s.cfg.image.messages[m]? = some d → busUsed d.primary s = true →
      let entry : Queued := ⟨m, if s.um.unit = .a then d.identA else d.identB, canPayload m s, s.ex.epoch, off, d.dual⟩
      let other := pairedBus d.primary
      let after (t : State) : Prop := exec (.canRelease off) s = .next t ∧ t.fld.releases = [] ∧
        t = withEvents { s with fld := { s.fld with releases := [], buses := t.fld.buses } } t
      (d.dual = false → busOpen d.primary s = true → ∃ t, after t ∧
        (busState d.primary t).queue = (busState d.primary s).queue ++ [entry] ∧ busState other t = busState other s) ∧
      (d.dual = false → busOpen d.primary s = false → busOpen other s = true → ∃ t, after t ∧
        (busState other t).queue = (busState other s).queue ++ [entry] ∧ busState d.primary t = busState d.primary s) ∧
      (d.dual = true → (busOpen d.primary s = true ∨ busOpen other s = true) → busUsed other s = true → ∃ t, after t ∧
        (busState d.primary t).queue = (busState d.primary s).queue ++ [entry] ∧
        (busState other t).queue = (busState other s).queue ++ [entry]) ∧
      (busOpen d.primary s = false → busOpen other s = false → ∃ t, after t ∧ eventActive 52 t = true ∧
        (busState d.primary t).queue = (busState d.primary s).queue ∧
        (busState d.primary t).withdrawn = min 255 ((busState d.primary s).withdrawn + 1))) ∧
    (∀ m off d, emitting s = true → s.um.role ≠ .none → s.fld.releases = [(m, off)] → s.cfg.image.messages[m]? = some d →
      busUsed d.primary s = false → exec (.canRelease off) s = .next { s with fld := { s.fld with releases := [] } }) ∧
    ((emitting s = false ∨ s.um.role = .none) → ∀ off, exec (.canRelease off) s = .next s) ∧
    (∀ b m off, 1 ≤ b → b ≤ 8 →
      let late := (busState b s).queue.filter (outWaited m off s)
      let rest := (busState b s).queue.filter fun q => !outWaited m off s q
      (∀ q, q ∈ late ↔ q ∈ (busState b s).queue ∧ q.message = m ∧ 500 * q.epoch + q.offset + 500 ≤ 500 * s.ex.epoch + off) ∧
      (late ≠ [] → ∃ t, exec (.canWithdrawal b m off false) s = .next t ∧ (busState b t).queue = rest ∧
        (busState b t).withdrawn = min 255 ((busState b s).withdrawn + late.length) ∧
        eventActive 52 t = true ∧ t = withEvents { s with fld := { s.fld with buses := t.fld.buses } } t) ∧
      (∀ q, late = [q] → ∃ t, exec (.canWithdrawal b m off true) s = .next t ∧ (busState b t).queue = q :: rest ∧
        (busState b t).withdrawn = (busState b s).withdrawn ∧ t = { s with fld := { s.fld with buses := t.fld.buses } })) ∧
    (∀ b m q, busOpen b s = true → (busState b s).queue.find? (·.message == m) = some q →
      ∃ t, exec (.canTransmitComplete b m) s = .next t ∧
        t.out = sentBy s (.can b m q.ident ((busState b s).state == 2) q.payload) :: s.out ∧
        (busState b t).queue = (busState b s).queue.erase q ∧ (busState b t).txErr = min ((busState b s).txErr - 1) 255 ∧
        t = withEvents { s with out := t.out, fld := { s.fld with buses := t.fld.buses } } t) ∧
    (∀ (m : CanRx) (src : Nat), busOpen m.bus s = true → timerRuns s = true → canSource m.bus ⟨m.ident, m.extended⟩ m.body s = some src →
      m.known = true → m.lengthOk = true → m.typeOk = true → m.crcOk = true →
      let rx := (busState m.bus s).rxErr
      let lowered (t : State) : Prop := (rx ≤ 127 → (busState m.bus t).rxErr = rx - 1) ∧
        (128 ≤ rx → 119 ≤ (busState m.bus t).rxErr ∧ (busState m.bus t).rxErr ≤ 127)
      (lookupNat src s.fld.seqs = some (canSeq m.body) → ∃ t, exec (.canMessageRx m) s = .next t ∧ lowered t ∧
        t = withEvents { s with free := t.free, fld := { s.fld with buses := t.fld.buses } } t) ∧
      (lookupNat src s.fld.seqs ≠ some (canSeq m.body) → formsRecords s = true → ∃ (t : State) (r : InRecord),
        exec (.canMessageRx m) s = .next t ∧ lowered t ∧ t.ex.buffer = s.ex.buffer ++ [{ item := r }] ∧ r.source = src ∧
        r.stamp = readingAt m.tick s ∧ r.seq = nextSeq src s ∧
        r.payload = canRecordBytes m.bus ⟨m.ident, m.extended⟩ (canBodyBytes m.body) ∧ r.origin = s.um.unit ∧
        t = withEvents { s with free := t.free, fld := { s.fld with buses := t.fld.buses, seqs := t.fld.seqs }
                                ex := { s.ex with buffer := t.ex.buffer, seqs := t.ex.seqs } } t)) ∧
    (∀ m : CanRx, busOpen m.bus s = true → timerRuns s = true →
      (m.crcOk = false ∨ canSource m.bus ⟨m.ident, m.extended⟩ m.body s = none) →
      ∃ t, exec (.canMessageRx m) s = .next t ∧ (busState m.bus t).foreign = min ((busState m.bus s).foreign + 1) 255 ∧ t.ex = s.ex)

/-- Serial sentences: a failed checksum is counted on its port; an accepted sentence of a declared source ends its silence and becomes an
input record stamped at its first start bit. A source silent for three periods raises EV_056, more than 10 errors in 2000 epochs
EV_057. -/
def Obligations.SerialSentencesBecomeRecords : Prop :=
  ∀ s : State, timerRuns s = true →
    (∀ (x : SentenceRx), 1 ≤ x.port → x.port ≤ 8 → s.fld.ports.length = 8 → x.framing = false → x.startOk = true → x.endOk = true →
      x.chars.length ≤ 80 →
      (x.checksumOk = false → ∃ t p, exec (.serialSentenceRx x) s = .next t ∧ s.fld.ports[x.port - 1]? = some p ∧
        t.fld.ports[x.port - 1]? = some { p with checksum := min (p.checksum + 1) 255, errorsNow := p.errorsNow + 1 } ∧ t.ex = s.ex) ∧
      (∀ d, x.checksumOk = true → x.source = some d.source → d.port = x.port →
        s.cfg.image.serial.find? (fun e => e.source == d.source && e.port == x.port) = some d → formsRecords s = true →
        ∃ (t : State) (r : InRecord), exec (.serialSentenceRx x) s = .next t ∧ t.ex.buffer = s.ex.buffer ++ [{ item := r }] ∧
          r.source = d.source ∧ r.stamp = readingAt x.tick s ∧ r.seq = nextSeq d.source s ∧ lookupNat d.source t.fld.serialAge = some 0 ∧
          d.source ∉ t.fld.silent ∧ t.fld.ports = s.fld.ports ∧ t.fld.buses = s.fld.buses)) ∧
    (∀ (n : Nat) (d : SerialDecl), s.cfg.image.serial.find? (·.source == n) = some d → s.um.mode ≠ .boot → s.um.mode ≠ .load →
      s.um.mode ≠ .recovery → 3 * d.period ≤ (lookupNat n s.fld.serialAge).getD 0 * 500000 → ∃ t, exec (.serialSourceSilent n) s = .next t ∧
        Raised 56 { s with fld := { s.fld with silent := insertNat n s.fld.silent } } t) ∧
    (∀ (p : Nat) (q : SerialPort), 1 ≤ p → s.fld.ports[p - 1]? = some q → 10 < q.errors.foldl (· + ·) q.errorsNow →
      ∃ t, exec (.serialPortErrors p) s = .next t ∧ Raised 57 s t)

/-! ## Time -/

/-- The PPS edge: in the epoch in which the counter reaches a whole second the seconds of qualification are counted, the increment
update and the pair measurement fall due, and the edge is on TIME_OUT with its quantisation error; a step announced for that second is
applied to the counter, 64 bits of ns, and a later one is not. The PPS message of 1000 epochs ahead is sent in 24 octets to the declared
address and port on both station ports, and shown in LOC_TIM_PPS. -/
def Obligations.PpsEdgeCountsTheSecond : Prop :=
  (∀ (w q : Nat) (s : State),
    (let edge : TimeUnit := { s.time with
      quals := s.time.quals.map countSecond, incrDue := true, edgeAge := 0, edge := some (w, quantError q), pairDue := true }
    edgeNow s = some (w, q) →
      ((s.time.step = none ∨ ∃ at' ns, s.time.step = some (at', ns) ∧ w < at') →
        exec .ppsEdge s = .next { s with time := edge, pair := { s.pair with beat := none } }) ∧
      (∀ (at' : Nat) (ns : Int), s.time.step = some (at', ns) → at' ≤ w → ∃ t, exec .ppsEdge s = .next t ∧
        t = { s with time := t.time, pair := { s.pair with beat := none } } ∧ t.time.step = none ∧ t.time.stepDone = true ∧
        (t.time.counter : Int) = ((s.time.counter : Int) + ns * 2 ^ 32) % 2 ^ 96 ∧ t.time.incrDue = true ∧ t.time.incr = s.time.incr ∧
        t.time.edge = some (w, quantError q) ∧ t.time.quals.length = s.time.quals.length)) ∧
    (edgeAhead s = some (w, q) → ∃ t, exec .ppsMessageSend s = .next t ∧
      t.out = sentBy s (.pps s.um.unit t.time.ppsFlags t.time.ppsEdge (quantError q) t.time.ppsUncert t.time.ppsStep) :: s.out ∧
      t.time.ppsQerr = quantError q ∧ (s.time.step = none → t.time.ppsEdge = w ∧ t.time.ppsStep = 0) ∧
      (∀ at' ns, s.time.step = some (at', ns) → t.time.ppsStep = (if at' ≤ w then ns else 0) ∧
        (t.time.ppsFlags / 4 % 2 = 1 ↔ at' ≤ w ∧ ns ≠ 0)) ∧
      t.time.ppsFlags % 2 = flag s.time.holdover ∧ (s.time.neverLocked = true → t.time.ppsUncert = 0xFFFFFFFF) ∧
      t = { s with out := t.out, time := { s.time with
        ppsFlags := t.time.ppsFlags, ppsEdge := t.time.ppsEdge, ppsQerr := t.time.ppsQerr, ppsUncert := t.time.ppsUncert
        ppsStep := t.time.ppsStep } })) ∧
  (∀ (u : UnitId) (flags w q uncert : Nat) (step : Int) (s : State), ∃ p, payloadOf (sentBy s (.pps u flags w q uncert step)) = some p ∧
    p.length = 24 ∧ octets p 0 1 = 1 ∧ octets p 1 1 = unitCode u ∧ octets p 2 1 = flags % 256 ∧ octets p 4 8 = w % 2 ^ 64 ∧
    octets p 12 4 = q % 2 ^ 32 ∧ octets p 16 4 = uncert % 2 ^ 32 ∧ portsOf (.pps u flags w q uncert step) = [.stn1, .stn2] ∧
    datagramTo s.cfg.image (.pps u flags w q uncert step) = some (s.cfg.image.ppsAddr, s.cfg.image.ppsPort))

/-- Sources qualify and are disqualified: a GNSS engine after 10 seconds with a measurement, PTP after 10 s in SLAVE with a master whose
clockClass qualifies, the pair source while locked; three seconds without a measurement or a Sync, or the loss of the lock, disqualify,
PTP with EV_044 and its 10 s begun anew; 60 seconds beyond ±5 ppm disqualify with EV_007. A GNSS engine's offset, module time less GPS
time on the PTP timescale, comes once a second and only from a valid position; the pair source takes the heartbeat that follows the
standby unit's edge, once. -/
def Obligations.TimeSourcesQualifyAndAreMeasured : Prop :=
  (∀ (x : TimeSource) (s : State), s.time.quals.length = 4 →
    (clockRuns s = true →
      (match x with
      | .pair => s.pair.locked = true
      | .ptp => (∃ p ∈ s.time.ptp, goodSlave p = true ∧ 20000 ≤ p.slaveFor) ∧ ∃ p ∈ s.time.ptp, p.state = 9 ∧ p.syncAge < 6000
      | _ => 10 ≤ (qualOf x s).good ∧ (qualOf x s).bad < 3) →
      ∃ t, exec (.sourceQualified x) s = .next t ∧ qualOf x t = { qualOf x s with qualified := true } ∧
        (∀ y, y ≠ x → qualOf y t = qualOf y s) ∧ t = { s with time := { s.time with quals := t.time.quals } }) ∧
    ((qualOf x s).qualified = true →
      (match x with
      | .pair => s.pair.locked = false
      | .ptp => ∀ p ∈ s.time.ptp, p.state = 9 → 6000 ≤ p.syncAge
      | _ => 3 ≤ (qualOf x s).bad) → ∃ t, exec (.sourceDisqualified x) s = .next t ∧
      qualOf x t = { qualOf x s with qualified := false, good := 0, beyond := 0 } ∧ (∀ y, y ≠ x → qualOf y t = qualOf y s) ∧
      t.time.ptp = (if x = .ptp then s.time.ptp.map fun p => { p with slaveFor := 0 } else s.time.ptp) ∧
      (x = .ptp → eventActive 44 t = true) ∧
      t = withEvents { s with time := { s.time with quals := t.time.quals, ptp := t.time.ptp } } t) ∧
    (60 ≤ (qualOf x s).beyond → ∃ t, exec (.disciplineDisqualify x) s = .next t ∧ (qualOf x t).qualified = false ∧
      (qualOf x t).good = 0 ∧ eventActive 7 t = true ∧ t = withEvents { s with time := { s.time with quals := t.time.quals } } t)) ∧
  (∀ s : State, clockRuns s = true → s.time.quals.length = 4 →
    (∀ e v var, (engineOf e s).clock = some (v, var) → (engineOf e s).timed ≠ some (counterSeconds s) →
      (let ps := roundDiv (v - 19 * 10 ^ 15) 1000
      ∃ t, exec (.gnssTimeMeasurement e) s = .next t ∧ (qualOf (timeSourceOf e) t).offset = some ps ∧
        (qualOf (timeSourceOf e) t).fresh = true ∧ (qualOf (timeSourceOf e) t).good = (qualOf (timeSourceOf e) s).good ∧
        engineOf e t = { engineOf e s with tofs := rangeS ps, tofsAge := 0, timed := some (counterSeconds s), clock := none } ∧
        engineOf (otherSide e) t = engineOf (otherSide e) s ∧ t.time.counter = s.time.counter ∧
        (∀ y, y ≠ timeSourceOf e → qualOf y t = qualOf y s) ∧ exec (.gnssTimeMeasurement e) t = .next t)) ∧
    (∀ e, (engineOf e s).clock = none → exec (.gnssTimeMeasurement e) s = .next s) ∧
    (∀ rx tx round, s.pair.beat = some (rx, tx, round) → s.um.role = .standby → s.time.pairDue = true →
      ∃ t, exec .pairTimeMeasurement s = .next t ∧ t.time.pairDue = false ∧ t = { s with time := t.time } ∧
        (qualOf .pair t).offset = some (((rx : Int) - tx) * 1000 - roundDiv (round * 10000) 6) ∧ exec .pairTimeMeasurement t = .next t))

/-- Selection, holdover and slew. At a whole second, and at no other instant, the first qualified source that is not the selected one is taken,
with EV_007, and ends holdover; with none qualified the unit enters holdover, with EV_007 and, in a unit that is not mirrored, EV_005; an offset below 1 µs is slewed, and
the slew ends when less than 1 ns remains. At the first E+0 µs after an edge, and in no other epoch, the increment is set: with no source
selected, to the sum of the nominal increment, the frequency term held and the slew term, rounded once to the nearest code, a slew
moving against the offset at no more than the declared rate or 10 ppb. -/
def Obligations.SelectionHoldoverAndSlew : Prop :=
  ∀ s : State,
    (∀ x, clockRuns s = true → firstQualified s = some x → s.time.source ≠ some x →
      (let taken (t : State) : Prop := t.time.source = some x ∧ t.time.holdover = false ∧ t.time.neverLocked = false ∧
        eventActive 7 t = true ∧ (isMirrored s = false → eventActive 5 t = false) ∧ t.time.counter = s.time.counter ∧
        (s.time.neverLocked = false → (qualOf x s).offset = some 0 → t.time.slewing = true ∧ t.time.slewLeft = 0 ∧ t.time.step = none)
      (s.time.incrDue = true → ∃ t, exec .sourceSelection s = .next t ∧ taken t) ∧
      (s.time.incrDue = true → s.time.holdover = true → ∃ t, exec .holdoverEnd s = .next t ∧ taken t))) ∧
    (s.time.incrDue = false → exec .sourceSelection s = .next s ∧ exec .holdoverEntry s = .next s ∧ exec .holdoverEnd s = .next s) ∧
    (clockRuns s = true → s.time.incrDue = true → s.time.holdover = false → firstQualified s = none →
      ∃ t, exec .holdoverEntry s = .next t ∧ t.time.source = none ∧ t.time.holdover = true ∧ t.time.holdEntry = reportedUncert s ∧
        t.time.holdGrowth = 0 ∧ t.time.freq = s.time.freq ∧ (isMirrored s = false → eventActive 5 t = true) ∧
        (s.time.source.isSome = true → eventActive 7 t = true) ∧
        t = withEvents { s with time := t.time } t) ∧
    (s.time.slewing = true → s.time.slewLeft.natAbs < 2 ^ 32 →
      exec .slewComplete s = .next { s with time := { s.time with slewing := false, slewLeft := 0 } }) ∧
    (clockRuns s = true → s.time.incrDue = true → s.time.edgeAge = 1 → s.time.source = none →
      ∃ t, exec .incrementUpdate s = .next t ∧
        t = { s with time := { s.time with incr := t.time.incr, slewTerm := t.time.slewTerm, incrDue := false } } ∧
        (s.time.slewing = false → t.time.slewTerm = 0) ∧
        (-freqLimit ≤ s.time.freq → s.time.freq ≤ freqLimit →
          2 * ((t.time.incr : Int) * (2 ^ 48 * 1000000000) -
            ((nominalIncr : Int) * (2 ^ 48 - s.time.freq) * 1000000000 + slewTerm s * 2 ^ 48)).natAbs ≤ 2 ^ 48 * 1000000000)) ∧
    (s.time.slewing = false → slewTerm s = 0) ∧ (0 ≤ s.time.slewLeft → slewTerm s ≤ 0) ∧ (s.time.slewLeft ≤ 0 → 0 ≤ slewTerm s) ∧
    (slewTerm s).natAbs ≤ nominalIncr * min 10 s.cfg.image.slewPpb ∧
    (s.time.edgeAge ≠ 1 → exec .incrementUpdate s = .next s)

/-- PTP. A station port keeps the clocks it hears announced; a slave-only port takes the one heard twice within four intervals, and EV_061
is raised where a master in use loses its class. A Sync of the port's master is kept, stamped at its tick and referred to the port, until
its Follow_Up measures the offset; a Delay_Resp measures the path delay once the stamp of the Delay_Req is claimed, and is skipped without it.
A master port answers Delay_Req, and sends Sync and Announce at their intervals and a Follow_Up for a stamp in the queue; a port whose
Announces have ceased for three intervals listens when slave-only and is MASTER otherwise. A message of another domain or of another
version does nothing. On the ring a port answers Pdelay_Req and measures its own peer delay. What IEEE 1588 decides is the model's
reading of it (log 156). The queue of transmit stamps takes 16, and a stamp beyond that is dropped with OVF, DROPS and EV_045; entries of 2000
epochs are freed. -/
def Obligations.PtpPortsAndStampsFollowTheirState : Prop :=
  (∀ (p : Side) (h : PtpHeader) (s : State), ptpRuns s = true → ptpRole p s ≠ 0 → s.time.ptp.length = 2 → s.time.quals.length = 4 →
    let q := ptpPort p s
    let only (t : State) : Prop := ptpPort (otherSide p) t = ptpPort (otherSide p) s ∧
      t = { s with out := t.out, time := { s.time with ptp := t.time.ptp, txq := t.time.txq, quals := t.time.quals } }
    ((h.domain ≠ q.domain ∨ h.version ≠ 2) → ∀ body, exec (.ptpMessageRx p false h body) s = .next s) ∧
    (h.domain = q.domain → h.version = 2 →
      (∀ c utc, ∃ t, exec (.ptpMessageRx p false h (.announce c utc)) s = .next t ∧ (ptpPort p t).heard = (noteForeign h c utc q).heard ∧
        t = withEvents { s with time := { s.time with ptp := t.time.ptp, utcPtp := t.time.utcPtp } } t ∧
        (∀ f, ptpRole p s = 1 → ptpRole (otherSide p) s = 0 → q.heard = [f] → f.sender = h.source →
          f.age < 4 * announceEpochs (portIndex p) s.cfg.image → c.steps < 255 → c.identity ≠ Cfg.clockIdentity →
          h.source / 65536 ≠ Cfg.clockIdentity →
          (ptpPort p t).state = 9 ∧ (ptpPort p t).parent = some h.source ∧ (ptpPort p t).gmClass = c.cls ∧ t.time.utcPtp = utc ∧
          (goodSlave q = true → goodClass c.cls = false → eventActive 61 t = true))) ∧
      (∀ rx, q.state = 9 → q.parent = some h.source → ∃ t, exec (.ptpMessageRx p false h (.sync rx)) s = .next t ∧
        ptpPort p t = { q with sync := some (h.seq, arrivalStamp (stampPort false p) rx s, h.correction), syncAge := 0 } ∧
        (qualOf .ptp t).fresh = true ∧ only t) ∧
      (∀ origin rx corr, q.state = 9 → q.parent = some h.source → q.sync = some (h.seq, rx, corr) →
        ∃ t, exec (.ptpMessageRx p false h (.followUp origin)) s = .next t ∧
          ptpPort p t = { q with sync := none, t12 := some (origin, rx, corr + h.correction) } ∧
          (qualOf .ptp t).offset = some (roundDiv ((((rx : Int) - origin) * 65536 - (corr + h.correction) - q.delay) * 1000) 65536) ∧
          (∀ y, y ≠ .ptp → qualOf y t = qualOf y s) ∧ only t) ∧
      (∀ rxTime t1 t2 c, q.state = 9 → q.parent = some h.source → q.delayReq = some h.seq → q.t12 = some (t1, t2, c) →
        let ident := stampIdent false p 1 h.seq
        (∀ e, s.time.txq.find? (·.1 == ident) = some e → ∃ t, exec (.ptpMessageRx p false h (.delayResp rxTime (ownPort false p))) s = .next t ∧
          ptpPort p t = { q with
            delayReq := none, delay := roundDiv (((t2 : Int) - t1 + ((rxTime : Int) - e.2.1)) * 65536 - c - h.correction) 2 } ∧
          t.time.txq = s.time.txq.erase e ∧ only t) ∧
        (s.time.txq.find? (·.1 == ident) = none → ∃ t, exec (.ptpMessageRx p false h (.delayResp rxTime (ownPort false p))) s = .next t ∧
          ptpPort p t = { q with delayReq := none } ∧ only t)) ∧
      (∀ rx, q.state = 6 → exec (.ptpMessageRx p false h (.delayReq rx)) s = .next { s with
        out := sentBy s (.ptp p false { stationMessage p 6 h.seq s with
          time := arrivalStamp (stampPort false p) rx s, requester := h.source, correction := h.correction }) :: s.out })) ∧
    (∀ n, q.state = 6 → logEpochs (s.cfg.image.ptpLogSync.getD (portIndex p) (-3)) ≤ q.syncSent →
      ∃ t, exec (.ptpMessageSend p false 0 n) s = .next t ∧ t.out = sentBy s (.ptp p false (stationMessage p 0 n s)) :: s.out ∧
        ptpPort p t = { q with syncSent := 0 } ∧ only t) ∧
    (∀ n, q.state = 6 → announceEpochs (portIndex p) s.cfg.image ≤ q.announceSent →
      ∃ t, exec (.ptpMessageSend p false 5 n) s = .next t ∧ t.out = sentBy s (.ptp p false { stationMessage p 5 n s with
          clock := some (announcedClock s), utc := utcOffset s }) :: s.out ∧
        ptpPort p t = { q with sentClass := sentClass s, announceSent := 0 } ∧ only t) ∧
    (∀ n e, q.state = 6 → s.time.txq.find? (·.1 == stampIdent false p 0 n) = some e → ∃ t, exec (.ptpMessageSend p false 4 n) s = .next t ∧
      t.out = sentBy s (.ptp p false { stationMessage p 4 n s with time := e.2.1 }) :: s.out ∧ t.time.txq = s.time.txq.erase e ∧
      ptpPort p t = q ∧ only t) ∧
    (∀ n, q.state = 9 → ∃ t, exec (.ptpMessageSend p false 1 n) s = .next t ∧
      t.out = sentBy s (.ptp p false (stationMessage p 1 n s)) :: s.out ∧ ptpPort p t = { q with delayReq := some n } ∧ only t) ∧
    (q.state ≠ 6 → 3 * announceEpochs (portIndex p) s.cfg.image ≤ q.announceAge → ∃ t, exec (.announceReceiptTimeout p) s = .next t ∧
      (ptpPort p t).state = (if ptpRole p s = 1 then 4 else 6) ∧ (ptpPort p t).heard = [] ∧
      t = withEvents { s with time := { s.time with ptp := t.time.ptp, utcPtp := t.time.utcPtp } } t) ∧
    (q.announceAge < 3 * announceEpochs (portIndex p) s.cfg.image → exec (.announceReceiptTimeout p) s = .next s)) ∧
  (∀ (p : Side) (h : PtpHeader) (s : State), ptpRuns s = true → s.rng.relayOpen = true → s.time.ringPtp.length = 2 → h.version = 2 →
    let q := ringPtp p s
    let only (t : State) : Prop := ringPtp (otherSide p) t = ringPtp (otherSide p) s ∧
      t = { s with out := t.out, rng := { s.rng with hsrSeq := t.rng.hsrSeq }, time := { s.time with ringPtp := t.time.ringPtp, txq := t.time.txq } }
    (∀ rx, ∃ t, exec (.ptpMessageRx p true h (.pdelayReq rx)) s = .next t ∧
      t.out = sentBy s (.ptp p true { kind := 3, seq := h.seq, domain := h.domain, source := ownPort true p
                                      time := arrivalStamp (stampPort true p) rx s, requester := h.source }) :: s.out ∧
      ringPtp p t = { q with answer := some (h.seq, h.domain, h.source) } ∧ only t) ∧
    (∀ rx t2, q.req = some h.seq → ∃ t, exec (.ptpMessageRx p true h (.pdelayResp rx t2 (ownPort true p))) s = .next t ∧
      ringPtp p t = { q with resp := some (t2, arrivalStamp (stampPort true p) rx s, h.correction) } ∧ only t) ∧
    (∀ t3 t2 t4 c, q.req = some h.seq → q.resp = some (t2, t4, c) →
      let ident := stampIdent true p 2 h.seq
      (∀ e, s.time.txq.find? (·.1 == ident) = some e → ∃ t, exec (.ptpMessageRx p true h (.pdelayRespFollowUp t3 (ownPort true p))) s = .next t ∧
        ringPtp p t = { q with
          req := none, resp := none, peerDelay := roundDiv ((((t4 : Int) - e.2.1) - ((t3 : Int) - t2)) * 65536 - c - h.correction) 2 } ∧
        t.time.txq = s.time.txq.erase e ∧ only t) ∧
      (s.time.txq.find? (·.1 == ident) = none → ∃ t, exec (.ptpMessageRx p true h (.pdelayRespFollowUp t3 (ownPort true p))) s = .next t ∧
        ringPtp p t = { q with req := none, resp := none } ∧ only t)) ∧
    (∀ n, 2000 ≤ q.reqAge → ∃ t, exec (.ptpMessageSend p true 2 n) s = .next t ∧
      t.out = sentBy s (.ptp p true { kind := 2, seq := n, domain := 0, source := ownPort true p }) :: s.out ∧
      ringPtp p t = { q with req := some n, resp := none, reqAge := 0 } ∧ only t)) ∧
  (∀ (ident : Nat) (tick : Int) (s : State),
    (ptpRuns s = true → s.time.txq.length < 16 → exec (.txStamp ident tick) s = .next { s with
      time := { s.time with txq := s.time.txq ++ [(ident % 65536, readingAt tick s + Cfg.txLatency (ident / 2 ^ 13 % 8), 0)] } }) ∧
    (ptpRuns s = true → 16 ≤ s.time.txq.length → ∃ t, exec (.txStamp ident tick) s = .next t ∧
      Raised 45 { s with time := { s.time with txqOvf := true, txqDrops := min (s.time.txqDrops + 1) 65535 } } t) ∧
    (∃ t, exec .txStampExpiry s = .next t ∧ t = { s with time := { s.time with txq := t.time.txq } } ∧
      (∀ e ∈ s.time.txq, e ∈ t.time.txq ↔ e.2.2 < 2000)))

/-! ## GNSS and Sieve -/

/-- A GNSS solution, at a whole multiple of the engine's output period and delivered at most 6 ms after it, forms one record for each
antenna, antenna 0 first, under the engine's source and one stamp; a record's FIX is not 0 exactly when its position is valid in the
solution of the tracked channels; the broadcast TAI − UTC is kept. -/
def Obligations.GnssSolutionsFormTwoRecords : Prop :=
  ∀ (g : GnssSolution) (s : State), clockRuns s = true → formsRecords s = true →
    g.tov % outputPeriod g.engine s = 0 → g.tov ≤ readingAt g.tick s → readingAt g.tick s ≤ g.tov + 6000000 →
    ∃ (t : State) (r0 r1 : InRecord), exec (.gnssSolution g) s = .next t ∧ t.ex.buffer = s.ex.buffer ++ [{ item := r0 }, { item := r1 }] ∧
      r0.source = gnssSource g.engine s ∧ r1.source = gnssSource g.engine s ∧ r0.stamp = readingAt g.tick s ∧ r1.stamp = r0.stamp ∧
      r0.tov = g.tov ∧ r1.tov = g.tov ∧ r0.seq = nextSeq (gnssSource g.engine s) s ∧ r1.seq = (r0.seq + 1) % 2 ^ 32 ∧
      r0.payload.length = 60 ∧ r1.payload.length = 60 ∧ octets r0.payload 0 1 = 0 ∧ octets r1.payload 0 1 = 1 ∧
      (octets r0.payload 1 1 ≠ 0 ↔ positionHolds s.cfg.image.pdop (solutionOf g (trackChannels g s)) 0 = true) ∧
      (octets r1.payload 1 1 ≠ 0 ↔ positionHolds s.cfg.image.pdop (solutionOf g (trackChannels g s)) 1 = true) ∧
      (∀ u, g.utcOffset = some u → t.time.utcGps = some u) ∧ (g.utcOffset = none → t.time = s.time) ∧
      engineOf (otherSide g.engine) t = engineOf (otherSide g.engine) s ∧
      t = { s with time := { s.time with utcGps := t.time.utcGps }, gnA := t.gnA, gnB := t.gnB
                   ex := { s.ex with buffer := t.ex.buffer, seqs := t.ex.seqs } }

/-- The engines: channels are reallocated at most once a second, a satellite that keeps its channels goes on with them; a fit, at most one a
second of a signal, flags it above the first threshold and excludes it above the second, with EV_074 in a unit that is not mirrored when
it is newly excluded; 2000 epochs without a committed valid record lose the engine, with EV_070 or EV_071. -/
def Obligations.GnssEnginesReallocateFitAndAreLost : Prop :=
  ∀ (e : Side) (s : State),
    (∀ v0 v1, clockRuns s = true → (engineOf e s).lastAlloc ≠ some (counterSeconds s) →
      (let order (v : List Satellite) := channelOrder s.cfg.image.sbasNamed s.cfg.image.elevation (gnssRef e s).enable v
      ∃ t, exec (.channelReallocation e v0 v1) s = .next t ∧
      (antennaOf e 0 t).channels = (fillChannels (order v0)).flatMap (allocate (antennaOf e 0 s).channels) ∧
      (antennaOf e 1 t).channels = (fillChannels (order v1)).flatMap (allocate (antennaOf e 1 s).channels) ∧
      (antennaOf e 0 t).channels.length ≤ 60 ∧ (antennaOf e 1 t).channels.length ≤ 60 ∧
      (engineOf e t).lastAlloc = some (counterSeconds s) ∧ engineOf (otherSide e) t = engineOf (otherSide e) s ∧
      t = { s with gnA := t.gnA, gnB := t.gnB } ∧ exec (.channelReallocation e v0 v1) t = .next t)) ∧
    (∀ a sig c, clockRuns s = true → a < 2 → (antennaOf e a s).channels[sig]? = some c → c.fitted ≠ some (counterSeconds s) →
      (let amp := (Cfg.reflection c.system c.band (tapOffsets.map fun o => (tapAt c o).natAbs)).1
      ∃ t d, exec (.multipathFit e a sig) s = .next t ∧ (antennaOf e a t).channels[sig]? = some d ∧
        d = { c with amplitude := amp, delay := d.delay, fitted := some (counterSeconds s), flagged := d.flagged, excluded := d.excluded } ∧
        50 ≤ d.delay ∧ d.delay ≤ 1000 ∧
        (s.cfg.image.mpFlag < amp → d.flagged = true) ∧ (amp < s.cfg.image.mpFlag → d.flagged = false) ∧
        (s.cfg.image.mpExclude < amp → d.excluded = true) ∧ (amp ≤ s.cfg.image.mpExclude → d.excluded = false) ∧
        (c.excluded = false → d.excluded = true → isMirrored s = false → eventActive 74 t = true) ∧
        (∀ k, k ≠ sig → (antennaOf e a t).channels[k]? = (antennaOf e a s).channels[k]?) ∧
        antennaOf e (1 - a) t = antennaOf e (1 - a) s ∧ engineOf (otherSide e) t = engineOf (otherSide e) s ∧
        t = withEvents { s with gnA := t.gnA, gnB := t.gnB } t)) ∧
    (2000 ≤ (gnssRef e s).silent → ∃ t, exec (.gnssEngineLost e) s = .next t ∧ (gnssRef e t).lost = true ∧
      eventActive (match e with | .one => 70 | .two => 71) t = true ∧ gnssRef (otherSide e) t = gnssRef (otherSide e) s ∧
      t.gnA = s.gnA ∧ t.gnB = s.gnB)

/-- Antenna supply: a current above the limit cuts it, with EV_072, and one below it, with its tolerance, changes nothing; a supplied input
with less than 5 mA for 1 s is open; the retry, once every 10 s, restores a supply whose short has gone, and EV_072 ends with the last
bad input. -/
def Obligations.AntennaFaultsRaiseAndClear : Prop :=
  ∀ (e : Side) (a : Nat) (s : State), a < 2 →
    ((antennaOf e a s).supplied = true →
      (∀ ma, 135 < ma → ∃ t, exec (.antennaShort e a ma) s = .next t ∧
        antennaOf e a t = { antennaOf e a s with supplied := false, state := 2, cutFor := 0, low := 0, current := min 255 ma } ∧
        eventActive 72 t = true ∧ antennaOf e (1 - a) t = antennaOf e (1 - a) s ∧ t = withEvents { s with gnA := t.gnA, gnB := t.gnB } t) ∧
      (∀ ma, ma ≤ 135 → exec (.antennaShort e a ma) s = .next s) ∧
      (2000 ≤ (antennaOf e a s).low →
        ∃ t, exec (.antennaOpen e a) s = .next t ∧ antennaOf e a t = { antennaOf e a s with state := 1 } ∧
        eventActive 72 t = true ∧ antennaOf e (1 - a) t = antennaOf e (1 - a) s ∧ t = withEvents { s with gnA := t.gnA, gnB := t.gnB } t)) ∧
    ((antennaOf e a s).state = 2 → 20000 ≤ (antennaOf e a s).cutFor →
      (∃ t, exec (.antennaSupplyRetry e a true) s = .next t ∧ antennaOf e a t = { antennaOf e a s with cutFor := 0 } ∧
        antennaOf e (1 - a) t = antennaOf e (1 - a) s ∧ t = { s with gnA := t.gnA, gnB := t.gnB }) ∧
      ∃ t, exec (.antennaSupplyRetry e a false) s = .next t ∧
        antennaOf e a t = { antennaOf e a s with supplied := true, state := 0, cutFor := 0 } ∧
        antennaOf e (1 - a) t = antennaOf e (1 - a) s ∧ eventActive 72 t = antennaBad t) ∧
    ((antennaOf e a s).state = 2 → (antennaOf e a s).cutFor < 20000 → ∀ b, exec (.antennaSupplyRetry e a b) s = .next s)

/-- Sieve: the end of a window, at a boundary of a chain that has started, adds one sample to the chain, stamped 4 µs after it and timed by
the chain's delay before it, NaN and invalid within G of the start and while the input is overloaded or the burden cut; a chain whose LOAD
has ended starts at its first boundary; more than 28 mA opens the burden and 1 s later it connects again; no other chain changes. -/
def Obligations.SieveWindowsAddOneSample : Prop :=
  (∀ (w : SieveWindow) (s : State), s.siv.chains.length = 16 → w.chain < 16 →
    clockRuns s = true → (chainDecl w.chain s).mode ≠ 0 → w.bits.length = windowBits (chainDecl w.chain s) →
    atBoundary (chainDecl w.chain s) w.tick (s.siv.chains.getD w.chain {}) = true →
    let c := s.siv.chains.getD w.chain {}
    let only (t : State) : Prop := (∀ k, k ≠ w.chain → t.siv.chains[k]? = s.siv.chains[k]?) ∧
      (∀ k, (s.siv.chains.getD k {}).start.isSome = true → t.mir.siv[k]? = s.mir.siv[k]?) ∧
      t = { s with siv := { s.siv with chains := t.siv.chains }, mir := { s.mir with siv := t.mir.siv } }
    (∀ b e, c.start = some b → c.ends = some e → e < chainCounter w.tick s →
      ∃ (t : State) (x : SieveSample), exec (.sieveSample w) s = .next t ∧ only t ∧
        c.samples ++ [x] = (t.siv.chains.getD w.chain {}).samples ∧ x.stamp = readingAt (w.tick + 1200) s ∧
        x.tov = (roundDiv ((chainCounter w.tick s : Int) - chainDelay (chainDecl w.chain s)) (2 ^ 32)).toNat ∧
        (x.valid = false ↔ x.value = none) ∧
        (w.overload = true ∨ c.burdenCut = true ∨ chainCounter w.tick s < b + chainDelay (chainDecl w.chain s) → x.valid = false)) ∧
    (c.start = none → c.armed = true → ∃ t, exec (.sieveSample w) s = .next t ∧ only t ∧
      t.siv.chains.getD w.chain {} = { c with start := some (chainCounter w.tick s), ends := some (chainCounter w.tick s), boundaryIn := 0 })) ∧
  (∀ (n : Nat) (c : Chain) (s : State), s.siv.chains[n]? = some c →
    (clockRuns s = true → (chainDecl n s).current = true → (chainDecl n s).mode ≠ 0 → ∀ ua, 28000 < ua →
      ∃ t, exec (.burdenOvercurrent n ua) s = .next t ∧ t.siv.chains[n]? = some { c with burdenCut := true, burdenFor := 0 } ∧
        (∀ k, k ≠ n → t.siv.chains[k]? = s.siv.chains[k]?) ∧ t = { s with siv := { s.siv with chains := t.siv.chains } }) ∧
    (∃ t, exec (.burdenReconnect n) s = .next t ∧
      t.siv.chains[n]? = some { c with burdenCut := c.burdenCut && decide (c.burdenFor < 2000) } ∧
      (∀ k, k ≠ n → t.siv.chains[k]? = s.siv.chains[k]?) ∧ t = { s with siv := { s.siv with chains := t.siv.chains } }))

/-! ## Trivet -/

/-- Sampling: a level shown in four samples running is the filtered level, and a sample that differs from the one before leaves it; the
last sample of the epoch closes the unit's record, stamped at E+375 µs, with each pair's equality and fault. A pair whose levels are
equal for longer than its discrepancy time is in fault; 400 safe samples (100 epochs) clear it. -/
def Obligations.TrivetSamplesCloseARecord : Prop :=
  ∀ s : State,
    (∀ levels, timerRuns s = true → ∃ t, exec (.trivetSample levels) s = .next t ∧
      t = { s with trv := { s.trv with pairs := t.trv.pairs } } ∧ t.trv.pairs.length = s.trv.pairs.length ∧
      ∀ p x y, s.trv.pairs[p]? = some x → t.trv.pairs[p]? = some y → y.fault = x.fault ∧
        (x.a.next = levels.testBit (2 * p) → 3 ≤ x.a.same → y.a.level = levels.testBit (2 * p)) ∧
        (x.a.next ≠ levels.testBit (2 * p) → y.a.level = x.a.level) ∧
        (x.b.next = levels.testBit (2 * p + 1) → 3 ≤ x.b.same → y.b.level = levels.testBit (2 * p + 1)) ∧
        (x.b.next ≠ levels.testBit (2 * p + 1) → y.b.level = x.b.level)) ∧
    (∀ levels, formsRecords s = true → ∃ (t : State) (r : InRecord), exec (.trivetRecordClose levels) s = .next t ∧
      t.ex.buffer = s.ex.buffer ++ [{ item := r }] ∧ r.source = trivetSource s.um.unit ∧ r.origin = s.um.unit ∧
      r.stamp = counterAt 375 s ∧ r.tov = r.stamp ∧ r.seq = nextSeq (trivetSource s.um.unit) s ∧ r.payload.length = 8 ∧
      (∀ p, p < 16 → (octets r.payload 6 2).testBit p = (t.trv.pairs.getD p {}).fault ∧
        (octets r.payload 4 2).testBit p = ((t.trv.pairs.getD p {}).a.level == (t.trv.pairs.getD p {}).b.level)) ∧
      (∀ p, p < 16 → (octets r.payload 0 2).testBit p = readsActive (pairType p s) (t.trv.pairs.getD p {}) ∧
        (t.trv.rawNow.testBit (2 * p) = (t.trv.pairs.getD p {}).a.level ∧ t.trv.rawNow.testBit (2 * p + 1) = (t.trv.pairs.getD p {}).b.level)) ∧
      t = { s with trv := { s.trv with pairs := t.trv.pairs, rawNow := t.trv.rawNow }
                   ex := { s.ex with buffer := t.ex.buffer, seqs := t.ex.seqs } }) ∧
    (∀ p x, s.trv.pairs[p]? = some x →
      (pairType p s ≠ .unused → discrepancyOf p s < x.equalRun → ∃ t, exec (.antivalenceFault p) s = .next t ∧
        t.trv.pairs[p]? = some { x with fault := true } ∧ (∀ k, k ≠ p → t.trv.pairs[k]? = s.trv.pairs[k]?) ∧
        t = { s with trv := { s.trv with pairs := t.trv.pairs } }) ∧
      (400 ≤ x.safeRun → ∃ t, exec (.antivalenceFaultClear p) s = .next t ∧
        t.trv.pairs[p]? = some { x with fault := false } ∧ (∀ k, k ≠ p → t.trv.pairs[k]? = s.trv.pairs[k]?) ∧
        t = { s with trv := { s.trv with pairs := t.trv.pairs } }))

/-- Safe outputs: a channel is on exactly when the unit is in STANDBY or ACTIVE with its permit, its channel not failed and PWR_OUT not
out of range; PWR_OUT far out of range switches all off with EV_026, and 20 epochs in range restore it; a wiring check ends. -/
def Obligations.SafeOutputsFollowPermits : Prop :=
  ∀ s : State, s.trv.channels.length = 8 →
    (timerRuns s = true → (s.um.mode = .standby ∨ s.um.mode = .active) → ∃ t, exec .safeOutputSwitch s = .next t ∧
      (∀ k, k < 8 → (channelLocal k t).hs = (!(channelLocal k s).failed && !s.trv.pwrLow && (safeChannel k s).permit) ∧
        (channelLocal k t).ls = (channelLocal k t).hs ∧ (channelLocal k t).pulse = none ∧
        (channelLocal k t).changed = ((channelLocal k t).hs != ((channelLocal k s).hs && (channelLocal k s).ls)) ∧
        (channelLocal k t).failed = (channelLocal k s).failed ∧ (channelLocal k t).testAge = (channelLocal k s).testAge) ∧
      t = { s with trv := { s.trv with channels := t.trv.channels } }) ∧
    (∀ v, timerRuns s = true → (v ≤ 4428 ∨ 8372 ≤ v) → ∃ t, exec (.pwrOutOutOfRange v) s = .next t ∧
      Raised 26 { s with trv := { s.trv with volts := v, pwrLow := true, pwrRun := 0, channels := t.trv.channels } } t ∧
      ∀ k, k < 8 → channelLocal k t = { channelLocal k s with hs := false, ls := false, pulse := none }) ∧
    (∀ v, timerRuns s = true → 4404 ≤ v → v ≤ 8396 → 20 ≤ s.trv.pwrRun → ∃ t, exec (.pwrOutRestored v) s = .next t ∧
      Cleared 26 { s with trv := { s.trv with volts := v, pwrLow := false } } t) ∧
    (∀ k, k < 8 → (channelLocal k s).wirechk = true → (20000 ≤ (channelLocal k s).wirechkEpochs ∨
        s.um.mode ≠ .maintenance ∨ ∃ j, channelUnit k s = some j ∧ unitReady j s = true) →
      ∃ t, exec (.wirechkTimeout k) s = .next t ∧
        channelLocal k t = { channelLocal k s with wirechk := false, wirechkEpochs := 0, hs := false, ls := false } ∧
        (∀ j, j ≠ k → channelLocal j t = channelLocal j s) ∧ t = { s with trv := { s.trv with channels := t.trv.channels } })

/-- Tests of the safe outputs (R335 to R337): pulses start on their epochs, of a channel off for the native test and of a declared channel
that is on for the off-pulse test, and end; the sense nodes and the current are judged; a fault switches both switches off, marks the
channel and raises EV_116; no other channel changes. -/
def Obligations.OutputTestsFindTheirFaults : Prop :=
  ∀ (k : Nat) (s : State), k < 8 → s.trv.channels.length = 8 →
    let c := channelLocal k s
    let only (d : ChannelLocal) (t : State) : Prop := channelLocal k t = d ∧ (∀ j, j ≠ k → channelLocal j t = channelLocal j s) ∧
      t = { s with trv := { s.trv with channels := t.trv.channels } }
    let fails (code : Nat) (t : State) : Prop :=
      channelLocal k t = { c with hs := false, ls := false, pulse := none, failed := true, fault := code, wirechk := false } ∧
      ((c.failed && c.fault == code) = false → eventActive 116 t = true) ∧ (∀ j, j ≠ k → channelLocal j t = channelLocal j s) ∧
      t = withEvents { s with trv := { s.trv with channels := t.trv.channels } } t
    (timerRuns s = true → c.hs = false → c.ls = false → c.changed = false → c.pulse = none →
      (s.ex.epoch % 2000 = 250 * k →
        ∃ t, exec (.outputTestPulse .hs) s = .next t ∧ only { c with pulse := some (.hs, false), hs := true } t) ∧
      (s.ex.epoch % 2000 = 250 * k + 125 →
        ∃ t, exec (.outputTestPulse .ls) s = .next t ∧ only { c with pulse := some (.ls, false), ls := true } t)) ∧
    (∃ t, exec .testPulseEnd s = .next t ∧ t = { s with trv := { s.trv with channels := t.trv.channels } } ∧
      (∀ sw, c.pulse = some (sw, false) → channelLocal k t = { c with pulse := none, hs := false, ls := false }) ∧
      (c.pulse = none → channelLocal k t = c)) ∧
    (timerRuns s = true → c.hs = true → c.ls = true → c.changed = false → s.cfg.image.offPulse.contains k = true →
      (s.ex.epoch % 4000 = 250 * k + (if s.um.unit = .a then 0 else 1000) →
        ∃ t, exec .offPulseTest s = .next t ∧ only { c with pulse := some (.hs, true), hs := false } t) ∧
      (s.ex.epoch % 4000 = (250 * k + (if s.um.unit = .a then 2000 else 3000)) % 4000 →
        ∃ t, exec .offPulseTest s = .next t ∧ only { c with pulse := some (.ls, true), ls := false } t)) ∧
    (∀ sw, c.pulse = some (sw, true) → (∀ j, j ≠ k → (channelLocal j s).pulse = none) →
      (∃ t, exec (.offPulseEnd true) s = .next t ∧ only { c with pulse := none, hs := true, ls := true } t) ∧
      (∃ t, exec (.offPulseEnd false) s = .next t ∧ fails (match sw with | .hs => 1 | .ls => 3) t)) ∧
    (c.pulse = some (.hs, false) →
      (∃ t, exec (.pulseSenseCheck k true) s = .next t ∧ only { c with testAge := 0, overdue := false } t) ∧
      (∃ t, exec (.pulseSenseCheck k false) s = .next t ∧ fails 2 t)) ∧
    (c.pulse = some (.ls, false) →
      (∃ t, exec (.pulseSenseCheck k false) s = .next t ∧ only { c with testAge := 0, overdue := false } t) ∧
      (∃ t, exec (.pulseSenseCheck k true) s = .next t ∧ fails 4 t)) ∧
    (timerRuns s = true → ∀ h l, ∃ t, exec (.senseNodeCheck h l) s = .next t ∧
      t = withEvents { s with trv := { s.trv with channels := t.trv.channels } } t ∧
      (channelLocal k t).h = h.testBit k ∧ (channelLocal k t).l = l.testBit k ∧
      ((channelLocal k t).failed = true ∨ channelLocal k t = { c with h := h.testBit k, l := l.testBit k }) ∧
      (c.pulse = none → c.hs = true → c.ls = true → h.testBit k = false → (channelLocal k t).failed = true ∧ (channelLocal k t).fault = 2) ∧
      (c.pulse = none → c.hs = true → c.ls = true → h.testBit k = true → l.testBit k = true →
        (channelLocal k t).failed = true ∧ (channelLocal k t).fault = 4) ∧
      (c.pulse = none → c.hs = false → c.ls = false → h.testBit k = true → (channelLocal k t).failed = true ∧ (channelLocal k t).fault = 1) ∧
      (c.pulse = none → c.hs = false → c.ls = false → h.testBit k = false → l.testBit k = false →
        (channelLocal k t).failed = true ∧ (channelLocal k t).fault = 3)) ∧
    (∃ t, exec (.outputOvercurrent k) s = .next t ∧ fails 5 t) ∧
    (s.cfg.image.testInterval ≤ testHours c → ∃ t, exec (.outputTestOverdue k) s = .next t ∧ only { c with overdue := true } t)

/-- Safety functions: where a safety function has completed its tolerance and still exceeds, Safely Limited Thrust also where feedback is
missing for 40 epochs, its channel trips (latch, no permit) and its thrust unit leaves allocation with cause 4; EV_112 for thrust, EV_113 for
a sector, EV_114 for speed, once in each run; 200 epochs near a berth without a velocity source are SLS_BLIND. -/
def Obligations.SafetyTripsLatchTheirChannel : Prop :=
  ∀ s : State, s.mir.trv.channels.length = 8 → s.mir.alc.units.length = 16 →
    (∀ k j, k < 8 → j < 16 → channelUnit k s = some j →
      (∀ lim, sltTolerance k s ≤ (safeChannel k s).sltRun → (safeChannel k s).slt = false → (unitDecl j s).slt = some lim →
        s.mir.mode.pairMode = .active →
        (∀ f, (unitState j s).feedback = some f → f.loc = false) →
        (40 ≤ (unitState j s).fbMissing ∨ ∃ f x, (unitState j s).feedback = some f ∧ f.thrust = some x ∧ lim < x.natAbs) →
        ∃ t, exec (.sltTrip k) s = .next t ∧ (safeChannel k t).slt = true ∧ (safeChannel k t).permit = false ∧
          (unitState j t).excluded = true ∧ 4 ∈ (unitState j t).present ∧ eventActive 112 t = true ∧
          (∀ i, i ≠ k → (safeChannel i t).slt = (safeChannel i s).slt) ∧ (∀ i, i ≠ j → unitState i t = unitState i s) ∧
          t.trv = s.trv ∧ t.ex = s.ex ∧ t.mir.mode = s.mir.mode) ∧
      (s.cfg.image.stsTol ≤ (safeChannel k s).stsRun → (safeChannel k s).sts = false → stsExceeds j s = true →
        ∃ t, exec (.stsTrip k) s = .next t ∧ (safeChannel k t).sts = true ∧ (safeChannel k t).permit = false ∧
          (unitState j t).excluded = true ∧ 4 ∈ (unitState j t).present ∧ eventActive 113 t = true ∧
          (∀ i, i ≠ k → (safeChannel i t).sts = (safeChannel i s).sts) ∧ (∀ i, i ≠ j → unitState i t = unitState i s) ∧
          t.trv = s.trv ∧ t.ex = s.ex ∧ t.mir.mode = s.mir.mode)) ∧
    (∀ b lim u v, s.cfg.image.slsTol ≤ s.mir.trv.slsRun → s.mir.trv.slsTripped = false → s.mir.mode.pairMode = .active → s.mir.wsk.velHeld = 0 →
      s.mir.wsk.velU = some u → s.mir.wsk.velV = some v → s.mir.trv.berth = some b →
      (s.cfg.image.berths.getD b {}).speed = some lim → lim * lim < u * u + v * v →
      ∃ t, exec .slsTrip s = .next t ∧ eventActive 114 t = true ∧ t.mir.trv.slsTripped = true ∧
        t.trv = s.trv ∧ t.ex = s.ex ∧ t.mir.mode = s.mir.mode ∧
        (∀ k, k < 8 → ((safeChannel k t).sls = true ↔ (safeChannel k s).sls = true ∨ ∃ j, channelUnit k s = some j ∧ slsQualifies j s = true)) ∧
        (∀ k, k < 8 → (safeChannel k t).slt = (safeChannel k s).slt ∧ (safeChannel k t).sts = (safeChannel k s).sts)) ∧
    (200 ≤ s.mir.trv.blindRun → s.mir.trv.blind = false → ∃ t, exec .slsBlind s = .next t ∧
      Raised 114 { s with mir := { s.mir with trv := { s.mir.trv with blind := true } } } t)

/-! ## Fusion, estimation and allocation -/

/-- Conditions of fusion and estimation by their runs: the position grade rises one step after 200 epochs of a higher raw grade, which ends
EV_090; a dispute ends when both sources of its pair agree for 200 epochs, a third source is available, or one of the pair has been absent
for 200 epochs, and its choice lapses, with EV_084 of position and EV_079 of heading; one unresolved for its limit sets the raw grade's
limit; a time-suspect source that agreed for 120 000 epochs leaves, and EV_085 ends with the last one; after 60 000 epochs at grade 2 with
the covariance below its threshold the gate opens with EV_095; 200 skipped updates make a restart pending. -/
def Obligations.FusionConditionsFollowTheirRuns : Prop :=
  ∀ s : State,
    (200 ≤ s.mir.wsk.pos.riseRun → s.mir.wsk.pos.grade < s.mir.wsk.pos.raw → ∃ t, exec .positionGradeRise s = .next t ∧
      Cleared 90 { s with mir := { s.mir with wsk := { s.mir.wsk with
        pos := { s.mir.wsk.pos with grade := s.mir.wsk.pos.grade + 1, riseRun := 0, zeroRun := 0, lost := false } } } } t) ∧
    (∀ heading : Bool, (axisOf heading s).pair.isSome = true →
      (200 ≤ (axisOf heading s).agreeRun ∨ (axisOf heading s).third = true ∨ 200 ≤ (axisOf heading s).absentRunA ∨
        200 ≤ (axisOf heading s).absentRunB) →
      ∃ t, exec (.disputeEnd heading) s = .next t ∧ (axisOf heading t).dispute = 0 ∧ (axisOf heading t).pair = none ∧
        (axisOf heading t).choice = none ∧ (axisOf heading t).grade = (axisOf heading s).grade ∧ axisOf (!heading) t = axisOf (!heading) s ∧
        Cleared (if heading then 79 else 84) (modAxis heading (fun _ => axisOf heading t) s) t) ∧
    (∀ heading : Bool, (axisOf heading s).pair.isSome = true → s.cfg.image.tuning.disputeLimit ≤ (axisOf heading s).unresolvedRun →
      0 < (axisOf heading s).unresolvedRun →
      exec (.disputeLimit heading) s = .next (modAxis heading (fun a => { a with limitHit := true }) s)) ∧
    (∀ src, ∃ t, exec (.timeSuspectExit src) s = .next t ∧ eventActive 85 t = (eventActive 85 s && anySuspect t.mir.wsk) ∧
      t = withEvents { s with mir := { s.mir with wsk := { s.mir.wsk with
        refs := t.mir.wsk.refs, hdgs := t.mir.wsk.hdgs, mrus := t.mir.wsk.mrus, winds := t.mir.wsk.winds
        drafts := t.mir.wsk.drafts, feeds := t.mir.wsk.feeds } } } t ∧
      (let leaves (n : Option Nat) (x : SourceState) : Prop := n = some src ∧ x.suspect = true ∧ 120000 ≤ x.agreeRun
      let left (x : SourceState) : SourceState := { x with suspect := false, agreeRun := 0, running := false }
      (∀ i x, s.mir.wsk.refs[i]? = some x →
        (leaves (refSource i s) x → t.mir.wsk.refs[i]? = some (left x)) ∧ (¬ leaves (refSource i s) x → t.mir.wsk.refs[i]? = some x)) ∧
      (∀ i x, s.mir.wsk.hdgs[i]? = some x →
        (leaves (hdgSource i s) x → t.mir.wsk.hdgs[i]? = some (left x)) ∧ (¬ leaves (hdgSource i s) x → t.mir.wsk.hdgs[i]? = some x))) ∧
      (∀ (i : Nat) (x : AuxSource), s.mir.wsk.mrus[i]? = some x → s.cfg.image.mrus[i]? = some src → x.suspect = true → 120000 ≤ x.agreeRun →
        t.mir.wsk.mrus[i]? = some { x with suspect := false, agreeRun := 0, running := false })) ∧
    (s.mir.est.started = true → s.mir.est.gate = false → 60000 ≤ s.mir.est.gateRun → s.mir.est.covOk = true →
      ∃ t, exec .estimatorGateMet s = .next t ∧ Raised 95 { s with mir := { s.mir with est := { s.mir.est with gate := true } } } t) ∧
    (200 ≤ s.mir.est.skipRun → exec .skippedUpdateLimit s = .next { s with mir := { s.mir with est := { s.mir.est with restartPending := true } } })

/-- Functions that a loss forces, and conditions of allocation: past the dead-reckoning limit AUTO-POSITION and AUTO-TRACK fall back to
AUTO-HEADING with EV_125 and EV_126; heading lost is EV_091 and takes AUTO-HEADING to JOYSTICK; saturation EV_101; where attempt and retry
have failed in five epochs running, or none has yet succeeded, every unit of the mask is commanded to zero thrust, with EV_099 in ACTIVE;
a thrust unit without feedback, or in discrepancy, is excluded with its cause, and rejoins clear; stale limits EV_110. -/
def Obligations.AllocationConditionsFollowTheirRuns : Prop :=
  ∀ s : State, s.mir.alc.units.length = 16 → s.cfg.image.units.length ≤ 16 →
    (s.cfg.image.tuning.drLimit < s.mir.wsk.pos.zeroRun →
      ((s.mir.mode.func = some .autoPosition ∨ s.mir.mode.func = some .autoTrack) → ∃ t, exec .deadReckoningLimit s = .next t ∧
        t.mir.mode.func = some .autoHeading ∧ t.mir.mode.forced = true ∧ t.mir.mode.funcEpoch = s.ex.epoch ∧ t.mir.wsk.pos.lost = true ∧
        eventActive 125 t = true ∧ eventActive 126 t = true ∧ t.mir.mode.pairMode = s.mir.mode.pairMode ∧ t.um = s.um ∧ t.ex = s.ex) ∧
      (s.mir.mode.func ≠ some .autoPosition → s.mir.mode.func ≠ some .autoTrack → exec .deadReckoningLimit s = .next { s with
        mir := { s.mir with wsk := { s.mir.wsk with pos := { s.mir.wsk.pos with lost := true } } } })) ∧
    (s.cfg.image.tuning.hdgLimit ≤ s.mir.wsk.hdg.zeroRun → 0 < s.mir.wsk.hdg.zeroRun → ∃ t, exec .headingLost s = .next t ∧
      t.mir.wsk.hdg.lost = true ∧ eventActive 91 t = true ∧ t.um = s.um ∧ t.ex = s.ex ∧
      t.mir.mode.func = (if s.mir.mode.func = some .autoHeading then some .joystick else s.mir.mode.func)) ∧
    (∀ k, k < 3 → 20 ≤ s.mir.alc.satRun.getD k 0 → ∃ t, exec .allocationSaturation s = .next t ∧ Raised 101 s t) ∧
    (s.mir.ldl.alcZero = true → s.mir.mode.pairMode = .active → s.mir.alc.ran = true →
      ∃ t, exec .zeroThrustFallback s = .next t ∧ Raised 99 s t) ∧
    (∀ mask, (4 ≤ s.mir.ldl.alcHold ∨ s.mir.alc.everSolved = false) → (fallbackAllocation mask s).mir.ldl.alcZero = true ∧
      ∀ j, declared j s = true → mask.testBit j = true → (unitState j (fallbackAllocation mask s)).prev.thrust = some 0 ∧
        (unitState j (fallbackAllocation mask s)).prev.zero = true ∧
        (unitState j (fallbackAllocation mask s)).prev.azimuth = some ((unitState j s).prev.azimuth.getD 0)) ∧
    (∀ j, declared j s = true →
      (20 ≤ (unitState j s).fbMissing → ∃ t, exec (.feedbackTimeout j) s = .next t ∧ (unitState j t).excluded = true ∧
        2 ∈ (unitState j t).present ∧ ((unitState j s).excluded = false → eventActive 102 t = true) ∧
        t = withEvents { s with mir := { s.mir with alc := { s.mir.alc with units := t.mir.alc.units } } } t ∧
        (∀ i, i ≠ j → unitState i t = unitState i s)) ∧
      (2000 ≤ (unitState j s).discRun → ∃ t, exec (.feedbackDiscrepancy j) s = .next t ∧ (unitState j t).excluded = true ∧
        3 ∈ (unitState j t).present ∧ (unitState j t).discrepancy = true ∧ ((unitState j s).excluded = false → eventActive 102 t = true) ∧
        t = withEvents { s with mir := { s.mir with alc := { s.mir.alc with units := t.mir.alc.units } } } t ∧
        (∀ i, i ≠ j → unitState i t = unitState i s)) ∧
      ((unitState j s).excluded = true → (unitState j s).present = [] → 20 ≤ (unitState j s).clear →
        ∃ t, exec (.thrustUnitRejoin j) s = .next t ∧ unitState j t = { unitState j s with excluded := false, clear := 0, cause := 0 } ∧
          t = { s with mir := { s.mir with alc := { s.mir.alc with units := t.mir.alc.units } } } ∧
          (∀ i, i ≠ j → unitState i t = unitState i s))) ∧
    (∀ k, 1 ≤ k → k ≤ sectionCount s → (s.um.mode = .standby ∨ s.um.mode = .active ∨ s.um.mode = .maintenance) →
      (400 < (s.mir.alc.sections.getD (k - 1) {}).age ∨ (s.mir.alc.sections.getD (k - 1) {}).reported = none) →
      ∃ t, exec (.sectionLimitStale k) s = .next t ∧ Raised 110 s t) ∧
    ((400 < s.mir.fld.plantAge ∨ s.mir.fld.plantSeen = false) →
      exec .plantReportStale s = .next { s with mir := { s.mir with fld := { s.mir.fld with plantStale := true } } }) ∧
    (∀ k p, s.mir.fld.panels[k]? = some p → 40 < p.age → ∃ t, exec (.joystickPanelTimeout k) s = .next t ∧
      t.mir.fld.panels[k]? = some { p with valid := false } ∧ (∀ i, i ≠ k → t.mir.fld.panels[i]? = s.mir.fld.panels[i]?) ∧
      t.mir.fld.command = (if s.mir.fld.command = some k then none else s.mir.fld.command) ∧
      eventActive 53 t = (usesJoystick s.mir.mode.func && t.mir.fld.command.isNone) ∧
      t = withEvents { s with mir := { s.mir with fld := { s.mir.fld with panels := t.mir.fld.panels, command := t.mir.fld.command } } } t)

/-! ## The epoch -/

/-- The epoch: at the cut-off nothing of the new epoch has happened yet, at most 128 records are offered, and the count goes up by one in a
unit that neither waits nor follows; at E+80 µs the set is committed and what is not in it is kept for at most four offers; a slow
result that is due and not complete is EV_105 and a fault; in HOLD no function is in effect; the snapshot of the epoch shows its readings. -/
def Obligations.EpochOpensAndCommits : Prop :=
  ∀ s : State, timerRuns s = true →
    (∀ lv, ∃ t, exec (.inputCutoff lv) s = .next t ∧ t.ex.fastDone = false ∧ t.ex.decided = false ∧ t.ex.emitted = false ∧
      t.ex.digestSent = false ∧ t.ex.overrun = false ∧ t.ex.committed = [] ∧ t.ex.commands = [] ∧ t.ex.effected = [] ∧
      t.ex.offered.length ≤ 128 ∧ t.mir.epoch = t.ex.epoch ∧ t.cfg = s.cfg ∧ t.log.records = s.log.records ∧
      (s.um.mode = .active → isPair s = false → s.um.role ≠ .standby → s.mir.pair.swapDue = false →
        t.ex.epoch = (s.ex.epoch + 1) % 2 ^ 48 ∧ t.um.mode = .active)) ∧
    (∀ late, formsRecords s = true → s.ex.due = [] → s.hap.localDue = [] → ∃ t, exec (.inputCommit late) s = .next t ∧
      t.ex.committed = inputSet s ∧
      t.ex.buffer = (keptTime s (s.ex.buffer.filter fun r => !((inputSet s).map recordId).contains (recordId r.item))).filter
        (fun r => decide (r.offers < 4)) ∧
      (s.um.role = .standby → ∀ r ∈ t.ex.buffer, r.item.source = 0xFFFF → r.offers = 0) ∧
      t.ex.epoch = s.ex.epoch ∧ t.cfg = s.cfg ∧ t.log = s.log ∧ t.um = s.um ∧
      (isMirrored s = false → inputSet s = canonical (offeredRecords s)) ∧
      (epochTimeRecord t = none → t.mir.tim.cutoff = s.mir.tim.cutoff + 500000 ∧ t.mir.tim.extrap = true) ∧
      (isMirrored s = true → s.ex.ackRx = none → eventActive 36 t = true) ∧ t.saved = some t.mir ∧
      (∀ p, runsSlowWork s = true → s.slow.plan = some p → epochWrap (p.basis + 100) = s.ex.epoch →
        (.plan ∈ late ∨ p.result = none) → t.ex.holdDue = some (s.ex.holdDue.getD 5) ∧ eventActive 105 t = true)) ∧
    (∀ c, s.ex.holdDue = some c →
      (transition s.um.mode .hold = true → ∃ t, exec .holdEntry s = .next t ∧ t.um.mode = .hold ∧ t.um.holdCause = c ∧ t.um.role = .none ∧
        t.mir.mode.func = none ∧ t.ex.holdDue = none ∧ t.ex.emit = false ∧ t.ex.buffer = [] ∧ t.ex.committed = [] ∧ t.ex.due = [] ∧ t.ktl.manual = none ∧
        (∀ x ∈ t.trv.channels, x.hs = false ∧ x.ls = false) ∧ t.hap.frozen = s.hap.snap ∧ (s.ex.fatalDue = true → eventActive 11 t = true) ∧
        t.log = s.log ∧ t.cfg = s.cfg ∧ t.mir.alc = s.mir.alc) ∧
      (transition s.um.mode .hold = false → exec .holdEntry s = .next { s with ex := { s.ex with holdDue := none, fatalDue := false } })) ∧
    (s.ex.holdDue = none → exec .holdEntry s = .next s) ∧
    (∀ r, ∃ t x, exec (.snapshotPublish r) s = .next t ∧ t.hap.snap = some x ∧ x.epoch = s.ex.epoch ∧ t.hap.queue = s.hap.queue - r.served ∧
      t.sup.pwrA = r.pwrA ∧ t.sup.pwrB = r.pwrB ∧ t.sup.bus = r.bus ∧ t.sup.power = r.power ∧ t.sup.base = r.tempBase ∧
      t.sup.asic = r.tempAsic ∧ t.trv.volts = r.pwrOut ∧
      (∀ n, n < 16 → t.siv.overload.testBit n = r.overloads.testBit n ∧
        t.siv.rangeFault.testBit n = ((s.siv.chains.getD n {}).ranged || (s.siv.chains.getD n {}).burdenCut)) ∧
      t.gnA.ant0.current = min 255 (r.antennaMa.getD 0 0) ∧ t.gnB.ant1.current = min 255 (r.antennaMa.getD 3 0) ∧
      t.fab.peak = r.peak ∧ t.fab.stalls = r.stalls ∧ t.um = s.um ∧ t.log = s.log ∧ t.cfg = s.cfg ∧
      (formsRecords s = false ∨ followsPair s = true → t.ex = s.ex)) ∧
    (exec .snapshotSkip s = .next { s with hap := { s.hap with skips := min (s.hap.skips + 1) 65535 } })

/-- The recorder and the fabric variant. With one record due that folds into none, it is appended with the operating time, cycle and epoch;
where it folds, no record is added; a full recorder takes none. A variant that falls due is
configured and counted, with the octets of the live regions that moved; a manual Skillet test that waited then takes its Skillet out. -/
def Obligations.RecorderAndVariantTakeWhatIsDue : Prop :=
  ∀ s : State,
    (∀ d, s.evt.due = [d] → s.evt.written = [] → s.hap.sessions = [] →
      (s.log.full = false → s.log.records.length < lastIndex → (∀ r ∈ s.log.records, folds d s.ex.epoch r = false) →
        ∃ t r, exec .recorderWrite s = .next t ∧ t.log.records = s.log.records ++ [r] ∧ r.event = d.event ∧ r.kind = d.kind ∧
          r.opTime = s.log.opTime ∧ r.cycle = s.log.cycle ∧ r.epoch = s.ex.epoch ∧ r.w0 = d.w0 ∧ r.w1 = d.w1 ∧ r.value = d.value ∧
          t = { s with log := { s.log with records := s.log.records ++ [r] }, evt := { s.evt with due := [] } }) ∧
      (∀ i r, s.log.full = false → lastOfScope (attrOf d.event).scopeL s.log.records = some i → s.log.records[i]? = some r →
        folds d s.ex.epoch r = true → ∃ t, exec .recorderWrite s = .next t ∧ t.log.records.length = s.log.records.length ∧
          (∀ k, k ≠ i → t.log.records[k]? = s.log.records[k]?) ∧
          t = { s with log := { s.log with records := t.log.records }, evt := { s.evt with due := [] } }) ∧
      (s.log.full = true → exec .recorderWrite s = .next { s with evt := { s.evt with due := [] } }) ∧
      (s.log.full = false → s.log.records.length = lastIndex → (∀ r ∈ s.log.records, folds d s.ex.epoch r = false) →
        ∃ t, exec .recorderWrite s = .next t ∧ t.log.full = true ∧ t.log.records.length = lastIndex + 1 ∧ eventActive 18 t = true)) ∧
    (∀ v, s.fab.variantDue = some v →
      (let configured : State := { s with fab := if v = s.fab.variant then { s.fab with variantDue := none } else { s.fab with
        variant := v, variantDue := none, moving := some s.fab.variant, switches := min (s.fab.switches + 1) (2 ^ 32 - 1)
        reloc := min (movedOctets v s) 1048576
        tiles := relocated v s, test := v.filter fun k => !s.fab.marked.contains k } }
      (s.ktl.manualHeld = false → exec .variantChange s = .next configured) ∧
      (∀ k, s.ktl.manualHeld = true → s.ktl.manual = some (1, k) → s.ktl.running = none → s.fab.marked = [] → configured.fab.test = none →
        exec .variantChange s = .next { configured with
          ktl := { s.ktl with manualHeld := false }, fab := { configured.fab with variantDue := some (some k) } })))

/-- The recorder (R361): a new record takes the next index; one due at index 524 287 is written there as EV_018, EV_018 becomes active, and
recording stops; nothing more is then written, folded or rewritten until the recorder is cleared, which empties it but for EV_019: no command changes
a full recorder while no command is due, but for the whole of E+80 µs, at which a clear can take effect, and an error in MRAM. -/
def Obligations.RecorderStopsWhenFull : Prop :=
  ∀ s : State,
    (s.log.full = true → ∃ t, exec .recorderWrite s = .next t ∧ t.log = s.log) ∧
    (∀ (c : Instr) (t : State), s.log.full = true → s.ex.due = [] → (∀ b, c ≠ .inputCommit b) → (∀ i, c ≠ .mramUncorrectable i) →
      exec c s = .next t → t.log.records = s.log.records ∧ t.log.full = true) ∧
    (∀ d, s.evt.due = [d] → s.evt.written = [] → s.hap.sessions = [] → s.log.full = false →
      (∀ r ∈ s.log.records, folds d s.ex.epoch r = false) →
      (s.log.records.length < 524287 → ∃ t r, exec .recorderWrite s = .next t ∧ t.log.records = s.log.records ++ [r] ∧ r.event = d.event ∧
        t.log.full = false) ∧
      (s.log.records.length = 524287 → ∃ t r, exec .recorderWrite s = .next t ∧ t.log.records = s.log.records ++ [r] ∧ r.event = 18 ∧
        r.kind = 1 ∧ t.log.full = true ∧ eventActive 18 t = true)) ∧
    (∀ c u tok, tok.length = 4 → dueIs 0xB00000 (u :: tok) c s → namesUnit u s = true → ∃ t r, exec (.logClear .effect u tok) s = .next t ∧
      t.log.records = [r] ∧ r.event = 19 ∧ t.log.full = false ∧ eventActive 18 t = false)

/-- Fast work gives every command of the epoch a verdict; an overrun is EV_104 and a fault of cause 4, with no emission; the digests are
formed and sent once, and where fast work is not complete the frame carries the overrun marker; a unit that a fatal error has stopped sends
none. -/
def Obligations.FastWorkIsDoneOrOverruns : Prop :=
  ∀ s : State,
    (runsFastWork s = true → s.ex.fastDone = false →
      (∃ t, exec .fastWork s = .next t ∧ t.ex.fastDone = true ∧ t.ex.committed = s.ex.committed ∧ t.ex.epoch = s.ex.epoch ∧
        t.ex.commands.map (·.id) = s.ex.commands.map (·.id) ∧ (∀ c ∈ t.ex.commands, c.verdict ≠ none) ∧ t.cfg = s.cfg ∧
        t.um.mode = s.um.mode ∧ exec .fastWork t = .next t) ∧
      (s.ex.overrun = false → ∃ u, exec .fastWorkOverrun s = .next { u with ex := { u.ex with holdDue := some (s.ex.holdDue.getD 4) } } ∧
        Raised 104 { s with ex := { s.ex with overrun := true, emit := false } } u)) ∧
    (s.ex.stopped = true → exec .digestSend s = .next s) ∧
    (timerRuns s = true → commits s.um.mode = true → s.ex.digestSent = false → s.ex.stopped = false → ∃ t, exec .digestSend s = .next t ∧
      t.ex.digestSent = true ∧ exec .digestSend t = .next t ∧
      (runsFastWork s = true → s.ex.fastDone = true → t.ex.cmdDigest = commandDigestOf s ∧ t.ex.commitDigest = commitDigestOf s) ∧
      t.out = (if isPair s && s.um.role != .none then sentBy s (.digest (digestBody t)) :: s.out else s.out) ∧
      (joining s = false → s.ex.fastDone = false → (digestBody t).overrun = true) ∧
      t.ex.committed = s.ex.committed ∧ t.um = s.um ∧ t.cfg = s.cfg ∧ t.evt = s.evt ∧ t.log = s.log)

/-- The decision at E+340 µs, of a unit without a partner's digest frame to take and of a mirrored one by that frame: none is EV_038, but for
a unit in JOIN (log 36); equal digests let both emit; command digests that differ mute the standby unit and start an arbitration, commit
digests that differ resynchronise it, an overrun of the active unit makes any standby unit take the role. The arbitration's outcome is whether the re-run of the fast work
gave the digest that was sent, and decides as R51 lays down; the slow work of the epoch with the pages and audit digests that the active
unit sends. -/
def Obligations.EmissionAndArbitrationAreDecided : Prop :=
  ∀ s : State,
    (timerRuns s = true → commits s.um.mode = true → s.ex.decided = false →
      (takesDigests s = false → exec .emissionDecision s = .next { s with ex := { s.ex with emit := mayEmit s, decided := true } }) ∧
      (takesDigests s = true → s.ex.partnerDigest = none → s.um.role = .standby → s.pair.phase = .join → exec .emissionDecision s =
        .next { s with ex := { s.ex with emit := mayEmit s, decided := true } }) ∧
      (∀ d, takesDigests s = true → s.ex.partnerDigest = some d → d.overrun = true → ∃ t, exec .emissionDecision s = .next t ∧
        t.ex.emit = mayEmit s ∧ t.um = s.um ∧ t.ex.roleDue = (if s.um.role = .standby then some 4 else s.ex.roleDue)) ∧
      (takesDigests s = true → s.ex.partnerDigest = none → (s.um.role = .standby → s.pair.phase ≠ .join) →
        ∃ t, exec .emissionDecision s = .next t ∧ eventActive 38 t = true ∧
        t.ex.emit = mayEmit s ∧ t.ex.decided = true ∧ t.um = s.um ∧ t.pair = s.pair ∧
        (s.ex.commands = [] → Raised 38 { s with ex := { s.ex with emit := mayEmit s, decided := true } } t)) ∧
      (∀ d, pairVotes s = true → s.ex.partnerDigest = some d → (d.phase = .audit ∨ d.phase = .mirrored) →
        (d.overrun = false → s.ex.overrun = false → s.ex.fastDone = true →
          (d.command = s.ex.cmdDigest → d.commit = s.ex.commitDigest → ∃ t, exec .emissionDecision s = .next t ∧
            t.ex.emit = mayEmit s ∧ t.ex.decided = true ∧ t.ex.arbitration = s.ex.arbitration ∧ t.pair = s.pair ∧ t.um = s.um ∧
            (s.ex.commands = [] → t = { s with ex := { s.ex with emit := mayEmit s, decided := true } })) ∧
          (d.command ≠ s.ex.cmdDigest → ∃ t, exec .emissionDecision s = .next t ∧ t.ex.arbitration = true ∧ eventActive 120 t = true ∧
            t.ex.emit = (mayEmit s && s.um.role == .active) ∧ t.ex.resyncDue = s.ex.resyncDue ∧
            (d.commit ≠ s.ex.commitDigest → eventActive 121 t = true) ∧
            (s.um.role = .standby → s.pair.phase = .audit → t.pair.auditDiff = true) ∧
            t.mir.pair.divergences = min (s.mir.pair.divergences + 1) 65535 ∧ t.um = s.um) ∧
          (d.command = s.ex.cmdDigest → d.commit ≠ s.ex.commitDigest → ∃ t, exec .emissionDecision s = .next t ∧
            t.ex.resyncDue = true ∧ t.ex.emit = mayEmit s ∧ t.ex.arbitration = s.ex.arbitration ∧ eventActive 121 t = true ∧
            (s.um.role = .standby → s.pair.phase = .audit → t.pair.auditDiff = true) ∧ t.um = s.um)))) ∧
    (∀ upset, s.ex.arbitration = true → (let ok : Bool := (rerunDigest s ^^^ upset) == s.ex.cmdDigest
      exec (.arbitrationOutcomeSend upset) s = .next { s with
        out := sentBy s (.outcome ok) :: s.out, ex := { s.ex with rerun := some ok } })) ∧
    (s.ex.arbitration = true →
      (s.ex.rerun = some true → s.ex.partnerRerun = some true → exec .arbitrationDecision s = .next { s with
        ex := { s.ex with arbitration := false, resyncDue := true } }) ∧
      (s.ex.rerun = none ∨ s.ex.partnerRerun = none → exec .arbitrationDecision s = .next { s with
        ex := { s.ex with arbitration := false, resyncDue := true } }) ∧
      (s.um.role = .active → s.ex.rerun = some false → s.ex.partnerRerun = some true → ∃ t, exec .arbitrationDecision s = .next t ∧
        t.ex.holdDue = some (s.ex.holdDue.getD 6) ∧ t.ex.arbitration = false ∧ eventActive 122 t = true ∧ t.um = s.um) ∧
      (s.um.role = .standby → s.ex.rerun = some true → s.ex.partnerRerun = some false → ∃ t, exec .arbitrationDecision s = .next t ∧
        t.ex.roleDue = some 3 ∧ t.ex.arbitration = false ∧ t.ex.holdDue = s.ex.holdDue ∧ eventActive 122 t = true ∧ t.um = s.um) ∧
      (∀ x, s.um.role = .active → s.ex.rerun = some x → s.ex.partnerRerun = some false →
        exec .arbitrationDecision s = .next { s with ex := { s.ex with arbitration := false } }) ∧
      (∀ x, s.um.role = .standby → s.ex.rerun = some false → s.ex.partnerRerun = some x → ∃ t, exec .arbitrationDecision s = .next t ∧
        t.ex.holdDue = some (s.ex.holdDue.getD 6) ∧ t.ex.arbitration = false ∧ t.ex.roleDue = s.ex.roleDue)) ∧
    (∃ t, exec .slowWorkSlice s = .next t ∧ t = { s with slow := t.slow, fab := t.fab, pair := t.pair, out := t.out } ∧
      (runsSlowWork s = false → t.slow = s.slow ∧ t.fab = s.fab) ∧
      (isPair s = true → timerRuns s = true → t.pair.mirrorSent = true) ∧
      (isPair s = true → timerRuns s = true → s.pair.mirrorSent = true → t.out = s.out ∧ t.pair = s.pair) ∧
      (isPair s = true → timerRuns s = true → s.pair.mirrorSent = false → s.um.role = .active → (s.pair.phase = .audit ∨ s.pair.phase = .mirrored) →
        t.out = sentBy s (.audit (64 * (s.ex.epoch % 8)) ((List.range 64).map fun i => auditDigest (64 * (s.ex.epoch % 8) + i) s)) :: s.out) ∧
      (isPair s = true → timerRuns s = true → s.pair.mirrorSent = false → s.um.role = .active → (s.pair.phase = .copy ∨ s.pair.phase = .settle) →
        ∃ l, l.length ≤ 8 ∧ t.out = l ++ s.out ∧
          ∀ f ∈ l, ∃ i n, f = sentBy s (.page i l.length n (Cfg.mirrorPage s.mir n)) ∧ i < l.length ∧ (n < 512 ∨ n ∈ s.pair.unsent)))

/-! ## Host access -/

/-- Sessions: a request reaches HAP at the declared address and UDP port 47560 alone. OPEN opens the slot's session with its key, and ends an
older one of that slot; a wrong MAC is counted with EV_058 and gets no response; a full queue answers 0x0C, a wrong form 0x01; a request
still in progress is discarded, one answered last gets the stored response again, a lower REQ_SEQ 0x06 (the order of these tests: log
166). KEEPALIVE, CLOSE, holds and acknowledgements act on the session and are answered; 60 000 idle epochs end it. -/
def Obligations.SessionsOpenActAndEnd : Prop :=
  ∀ (r : HapReq) (s : State),
    let bare : Prop := r.count = 0 ∧ r.repeated = false
    (∀ (slot : Nat) (nt : Bool) (cn sn w : List Byte) (id : Nat), reaches r s = true → slot < 8 → s.hap.keys.getD slot none = some w →
      let mac := requestMac w opOpen r.addr r.count (openBody slot nt cn) r
      let reply (st : Nat) (p : Response) (t : State) : Prop := t.out = sentBy s (.response p) :: s.out ∧ p.op = 0x83 ∧ p.status = st ∧
        p.addr = r.addr ∧ p.reqSeq = r.reqSeq ∧ p.port = r.port ∧ p.dest = r.source
      (r.mac = mac → waiting r s < 32 → formGood opOpen (openBody slot nt cn) r = true → bare →
        ∃ (t : State) (x : Session) (p : Response), exec (.hapOpen r slot nt cn sn id) s = .next t ∧ x.slot = slot ∧ x.notify = nt ∧
        x.ident ≠ 0 ∧ x.key = sessionKey w cn sn x.ident ∧ x.lastSeq = 0 ∧ x.notes = [] ∧ x.holds = [] ∧ x.peer = r.source ∧
        (s.hap.sessions.find? (·.slot == slot) = none → t.hap.sessions = s.hap.sessions ++ [x]) ∧
        (∀ o, s.hap.sessions.find? (·.slot == slot) = some o → t.hap.sessions = s.hap.sessions.filter (·.ident != o.ident) ++ [x]) ∧
        reply 0 p t ∧ p.session = x.ident ∧ p.data = bytesWords sn ∧ t.hap.queue = s.hap.queue - r.served + 1 ∧
        t = { s with out := t.out, hap := { s.hap with queue := t.hap.queue, sessions := t.hap.sessions, holds := t.hap.holds } }) ∧
      (r.mac = mac → 32 ≤ waiting r s → ∃ t p, exec (.hapOpen r slot nt cn sn id) s = .next t ∧ reply 0xC p t ∧
        t = { s with out := t.out, hap := { s.hap with queue := s.hap.queue - r.served, busy := min (s.hap.busy + 1) 255 } }) ∧
      (r.mac = mac → waiting r s < 32 → (formGood opOpen (openBody slot nt cn) r = false ∨ ¬ bare) →
        ∃ t p, exec (.hapOpen r slot nt cn sn id) s = .next t ∧ reply 1 p t ∧
          t = { s with out := t.out, hap := { s.hap with queue := s.hap.queue - r.served + 1 } }) ∧
      (r.mac ≠ mac → ∃ t, exec (.hapOpen r slot nt cn sn id) s = .next t ∧
        Raised 58 { s with hap := { s.hap with auth := min (s.hap.auth + 1) 65535 } } t)) ∧
    (∀ (slot : Nat) (nt : Bool) (cn sn : List Byte) (id : Nat), reaches r s = true → waiting r s < 32 →
      formGood opOpen (openBody slot nt cn) r = true → bare → (8 ≤ slot ∨ s.hap.keys.getD slot none = none) →
      ∃ (t : State) (p : Response), exec (.hapOpen r slot nt cn sn id) s = .next t ∧ t.out = sentBy s (.response p) :: s.out ∧ p.op = 0x83 ∧
        p.status = 4 ∧ p.data = [] ∧ p.mac = [] ∧ t = { s with out := t.out, hap := { s.hap with queue := s.hap.queue - r.served + 1 } }) ∧
    (reaches r s = false → exec (.keepalive r) s = .next s ∧ ∀ slot nt cn sn id, exec (.hapOpen r slot nt cn sn id) s = .next s) ∧
    (∀ x, reaches r s = true → r.session ≠ 0 → sessionOf r.session s = some x → x.ident = r.session →
      (r.mac ≠ requestMac x.key opKeepalive r.addr r.count [] r → ∃ t, exec (.keepalive r) s = .next t ∧
        Raised 58 { s with hap := { s.hap with auth := min (s.hap.auth + 1) 65535 } } t) ∧
      (r.mac = requestMac x.key opKeepalive r.addr r.count [] r →
        ((∃ p ∈ s.hap.awaiting, p.session = x.ident ∧ p.reqSeq = r.reqSeq) → exec (.keepalive r) s = .next s) ∧
        ((∀ p ∈ s.hap.awaiting, p.session ≠ x.ident ∨ p.reqSeq ≠ r.reqSeq) →
          (∀ p, x.stored = some p → p.reqSeq = r.reqSeq → ∃ t, exec (.keepalive r) s = .next t ∧
            t.out = sentBy s (.response { p with port := r.port, dest := r.source }) :: s.out ∧
            t = { s with out := t.out, hap := { s.hap with sessions := t.hap.sessions } } ∧
            ∃ y, sessionOf x.ident t = some y ∧ y = { x with idle := 0 }) ∧
          ((∀ p, x.stored = some p → p.reqSeq ≠ r.reqSeq) → x.closing = false → waiting r s < 32 → formGood opKeepalive [] r = true → bare →
            r.reqSeq ≤ x.lastSeq → ∃ t, exec (.keepalive r) s = .next t ∧ answers 7 r.addr 6 [] r s t)))) ∧
    (∀ x,
      (bare → admits opKeepalive r.addr r.count [] x r s → ∃ t, exec (.keepalive r) s = .next t ∧ answers 7 r.addr 0 [] r s t ∧
        (∃ y, sessionOf x.ident t = some y ∧ y.idle = 0 ∧ y.lastSeq = r.reqSeq ∧ y.stored.isSome = true ∧ y.holds = x.holds ∧ y.notes = x.notes) ∧
        t = { s with out := t.out, hap := { s.hap with queue := t.hap.queue, sessions := t.hap.sessions } }) ∧
      (bare → admits opClose r.addr r.count [] x r s → ∃ t, exec (.hapClose r) s = .next t ∧ answers 4 r.addr 0 [] r s t ∧ t.hap.sessions = s.hap.sessions.filter (·.ident != x.ident) ∧
        t = { s with out := t.out, hap := { s.hap with queue := t.hap.queue, sessions := t.hap.sessions, holds := t.hap.holds } }) ∧
      (∀ sn, bare → admits opHold r.addr r.count [] x r s → s.hap.snap = some sn →
        (∀ i, s.hap.holds.find? (·.snap.epoch == sn.epoch) = none → freeHold s = some i → ∃ t, exec (.snapHold r) s = .next t ∧
          answers 5 r.addr 0 [] r s t ∧ t.hap.holds = s.hap.holds ++ [{ ident := i, snap := sn, age := s.ex.epoch - sn.epoch }] ∧
          (∃ y, sessionOf x.ident t = some y ∧ i ∈ y.holds) ∧
          t = { s with out := t.out, hap := { s.hap with queue := t.hap.queue, sessions := t.hap.sessions, holds := t.hap.holds } }) ∧
        (∀ h, s.hap.holds.find? (·.snap.epoch == sn.epoch) = some h → ∃ t, exec (.snapHold r) s = .next t ∧ answers 5 r.addr 0 [] r s t ∧
          t.hap.holds = s.hap.holds ∧ (∃ y, sessionOf x.ident t = some y ∧ h.ident ∈ y.holds)) ∧
        (s.hap.holds.find? (·.snap.epoch == sn.epoch) = none → freeHold s = none → ∃ t, exec (.snapHold r) s = .next t ∧
          answers 5 r.addr 0xB [] r s t ∧ t.hap.holds = s.hap.holds)) ∧
      (bare → admits opRelease r.addr r.count [] x r s → r.holdId ∈ x.holds → ∃ t, exec (.snapRelease r) s = .next t ∧ answers 6 r.addr 0 [] r s t ∧
        (∃ y, sessionOf x.ident t = some y ∧ y.holds = x.holds.filter (· != r.holdId)) ∧
        t = { s with out := t.out, hap := { s.hap with queue := t.hap.queue, sessions := t.hap.sessions, holds := t.hap.holds } }) ∧
      (bare → admits opRelease r.addr r.count [] x r s → r.holdId ∉ x.holds → ∃ t, exec (.snapRelease r) s = .next t ∧ answers 6 r.addr 0xB [] r s t ∧ t.hap.holds = s.hap.holds) ∧
      (∀ n, bare → admits opAck n r.count [] x r s → ∃ t y, exec (.notifyAck r n) s = .next t ∧ answers 8 n 0 [] r s t ∧ sessionOf x.ident t = some y ∧
        y.notes = x.notes.filter (fun m => decide (n < m.nseq)) ∧ t = { s with out := t.out, hap := { s.hap with queue := t.hap.queue, sessions := t.hap.sessions } })) ∧
    (∀ x, ¬ bare → admits opKeepalive r.addr r.count [] x r s → ∃ t, exec (.keepalive r) s = .next t ∧ answers 7 r.addr 1 [] r s t) ∧
    (∀ slot x, s.hap.sessions.find? (·.slot == slot) = some x →
      (60000 ≤ x.idle → ∃ t, exec (.sessionTimeout slot) s = .next t ∧ t.hap.sessions = s.hap.sessions.filter (·.ident != x.ident) ∧
        t = { s with hap := { s.hap with sessions := t.hap.sessions, holds := t.hap.holds } }) ∧
      (∀ n, x.notes = [n] → sessionOf x.ident s = some x → x.closing = false → 200 ≤ n.age →
        (n.sends < 6 → ∃ (t : State) (y : Session) (p : Response), exec (.notificationResend slot) s = .next t ∧
          t.out = sentBy s (.response p) :: s.out ∧ p.op = 0x10 ∧ p.session = x.ident ∧ p.reqSeq = n.nseq ∧ p.snapEpoch = n.epoch ∧
          p.data = n.words ∧ p.port = x.port ∧ p.dest = x.peer ∧
          sessionOf x.ident t = some y ∧ y.notes = [{ n with sends := n.sends + 1, age := 0 }] ∧
          t = { s with out := t.out, hap := { s.hap with sessions := t.hap.sessions } }) ∧
        (6 ≤ n.sends → ∃ t y, exec (.notificationResend slot) s = .next t ∧ sessionOf x.ident t = some y ∧ y.notes = [] ∧
          t.hap.notifyLost = min (s.hap.notifyLost + 1) 255 ∧ eventActive 59 t = true ∧ t.out = s.out))) ∧
    (∃ t, exec .snapshotHoldExpiry s = .next t ∧ (∀ h ∈ t.hap.holds, h ∈ s.hap.holds ∧ h.age < 200) ∧
      ((∀ h ∈ s.hap.holds, h.age < 200) → t = s) ∧ t = { s with hap := { s.hap with sessions := t.hap.sessions, holds := t.hap.holds } })

/-- A READ with HELD (R380): served from the snapshot that HOLD_ID names, with its epoch in SNAP_EPOCH, when the session holds it and it has
not expired; else refused with status 0x0B. -/
def Obligations.HeldReadsServeTheHeldSnapshot : Prop :=
  ∀ (x : Session) (r : HapReq) (s : State) (a : Word) (n : Nat), admits opRead a.toNat n [] x r s → r.held = true → r.repeated = false → 1 ≤ n → n ≤ 256 →
    rangeOk a.toNat n s = true → bulkAddr a.toNat = false →
    (∀ h, r.holdId ∈ x.holds → s.hap.holds.find? (fun h => h.ident == r.holdId && decide (h.age < 200)) = some h →
      ∃ (t : State) (p : Response), exec (.hapRead r a n) s = .next t ∧ t.out = sentBy s (.response p) :: s.out ∧ p.status = 0 ∧
        p.snapEpoch = h.snap.epoch ∧ p.data = snapWords h.snap a.toNat n ∧ p.session = r.session ∧ p.reqSeq = r.reqSeq ∧
        t = { s with out := t.out, hap := { s.hap with queue := t.hap.queue, sessions := t.hap.sessions } }) ∧
    (r.holdId ∉ x.holds ∨ s.hap.holds.find? (fun h => h.ident == r.holdId && decide (h.age < 200)) = none →
      ∃ t, exec (.hapRead r a n) s = .next t ∧ answers 1 a.toNat 0xB [] r s t ∧
        t = { s with out := t.out, hap := { s.hap with queue := t.hap.queue, sessions := t.hap.sessions } })

/-- Reads and writes: a READ of registers is served whole from the snapshot, in HOLD outside the unit-local page from the last one before it; an operator command enters the ingress buffers and awaits its
answer; a unit-local write is answered at once and falls due; the bulk window reads words from its object and writes staging; no other
byte of staging changes. The request of an operator command or of a unit-local one is the WRITE of its register. -/
def Obligations.ReadsAndWritesReachTheirPlace : Prop :=
  (∀ (x : Session) (r : HapReq) (s : State),
    (∀ (a : Word) (n : Nat) (sn : Snapshot), admits opRead a.toNat n [] x r s → 1 ≤ n → n ≤ 256 → r.repeated = false → r.held = false → rangeOk a.toNat n s = true →
      bulkAddr a.toNat = false → s.um.mode ≠ .hold → s.hap.snap = some sn → ∃ t, exec (.hapRead r a n) s = .next t ∧
        answers 1 a.toNat 0 (snapWords sn a.toNat n) r s t ∧ t = { s with out := t.out, hap := { s.hap with queue := t.hap.queue, sessions := t.hap.sessions } }) ∧
    (∀ (a : Word) (n : Nat) (sn : Snapshot), admits opRead a.toNat n [] x r s → 1 ≤ n → n ≤ 256 → r.repeated = false → r.held = false →
      rangeOk a.toNat n s = true → bulkAddr a.toNat = false → isLocal a.toNat = false → s.um.mode = .hold → s.hap.frozen = some sn →
      ∃ (t : State) (p : Response), exec (.hapRead r a n) s = .next t ∧ t.out = sentBy s (.response p) :: s.out ∧ p.status = 0 ∧
        p.snapEpoch = sn.epoch ∧ (s.um.holdFromLoad = false → p.data = snapWords sn a.toNat n)) ∧
    (∀ (a : Word) (n : Nat), admits opRead a.toNat n [] x r s → 1 ≤ n → n ≤ 256 → r.repeated = false → rangeOk a.toNat n s = false →
      ∃ t, exec (.hapRead r a n) s = .next t ∧ answers 1 a.toNat 2 [] r s t) ∧
    (∀ (a : Word) (ws : List Word), admits opWrite a.toNat ws.length (ws.map wordBytes).flatten x r s → ws ≠ [] → ws.length ≤ 22 → r.repeated = false → r.held = false → rangeOk a.toNat ws.length s = true →
      (regsOf a.toNat ws).all (fun w => writable w.1) = true → isWo a.toNat = false → s.um.mode ≠ .selftest →
      (isLocal a.toNat = true → localVerdict a.toNat ws s = (0, 0) → ∃ t, exec (.registerWrite r a ws) s = .next t ∧
        answers 2 a.toNat 0 ws r s t ∧ t.hap.localDue = s.hap.localDue ++ [(a.toNat, ws, s.ex.epoch, x.slot)] ∧
        t = { s with out := t.out, hap := { s.hap with queue := t.hap.queue, sessions := t.hap.sessions, localDue := t.hap.localDue } }) ∧
      (isLocal a.toNat = false → ingressRefusal (regsOf a.toNat ws) s = none → ∃ (t : State) (q : InRecord),
        exec (.registerWrite r a ws) s = .next t ∧ t.ex.buffer = s.ex.buffer ++ [{ item := q }] ∧ q.source = portSource r.port ∧
        q.stamp = arrivalStamp (hapPortNumber r.port) r.tick s ∧ q.tov = q.stamp ∧ q.payload = commandPayload a.toNat x.slot ws ∧
        t.hap.awaiting = s.hap.awaiting ++ [⟨recordId q, x.ident, r.reqSeq, a.toNat, ws.length, r.port, r.source⟩] ∧
        t = { s with ex := { s.ex with buffer := t.ex.buffer, seqs := t.ex.seqs }
                     hap := { s.hap with queue := t.hap.queue, sessions := t.hap.sessions, awaiting := t.hap.awaiting } })) ∧
    (r.repeated = false → r.held = false → s.um.mode ≠ .selftest →
      (∀ v : Word, admits opWrite 0xF00000 1 (wordBytes v) x r s → v.toNat ≤ 4 → ∃ t y, exec (.blkSel r v) s = .next t ∧ answers 2 0xF00000 0 [v] r s t ∧ sessionOf x.ident t = some y ∧
        y.blkSel = v.toNat ∧ y.blkAddr = 0 ∧ t = { s with out := t.out, hap := { s.hap with queue := t.hap.queue, sessions := t.hap.sessions } }) ∧
      (∀ v : Word, admits opWrite 0xF00004 1 (wordBytes v) x r s → v.toNat < 2 ^ 24 → ∃ t y, exec (.blkAddr r v) s = .next t ∧ answers 2 0xF00004 0 [v] r s t ∧ sessionOf x.ident t = some y ∧
        y.blkSel = x.blkSel ∧ y.blkAddr = v.toNat ∧ t = { s with out := t.out, hap := { s.hap with queue := t.hap.queue, sessions := t.hap.sessions } })) ∧
    (∀ n, admits opRead 0xF00008 n [] x r s → 1 ≤ n → n ≤ 256 → r.repeated = true → r.held = false → x.blkAddr + n ≤ objectSize x.blkSel s →
      ∃ t y, exec (.blkDataRead r n) s = .next t ∧
        answers 1 0xF00008 0 ((List.range n).map fun i => objectWord x.blkSel (x.blkAddr + i) s) r s t ∧ sessionOf x.ident t = some y ∧
        y.blkAddr = x.blkAddr + n ∧ y.blkSel = x.blkSel ∧ t.upd = s.upd ∧ t.log = s.log ∧ t.dmp.mem = s.dmp.mem ∧ t.pnl = s.pnl ∧
        (x.blkSel ≠ 2 → t.dmp = s.dmp)) ∧
    (∀ ws : List Word, admits opWrite 0xF00008 ws.length (ws.map wordBytes).flatten x r s → ws ≠ [] → ws.length ≤ 256 → r.repeated = true → r.held = false → s.um.mode ≠ .selftest → x.blkSel = 4 →
      stagingWritable x s = true → Memory.wf 0xFF s.upd.staging = true → x.blkAddr + ws.length ≤ objectSize 4 s → ∃ t, exec (.blkDataWrite r ws) s = .next t ∧
        answers 2 0xF00008 0 ws r s t ∧
        (∀ i w, ws[i]? = some w → memReads 0xFF t.upd.staging (4 * (x.blkAddr + i)) 4 = wordBytes w) ∧
        (∀ b, (b < 4 * x.blkAddr ∨ 4 * (x.blkAddr + ws.length) ≤ b) → memRead 0xFF t.upd.staging b = memRead 0xFF s.upd.staging b) ∧
        t = { s with out := t.out, hap := { s.hap with queue := t.hap.queue, sessions := t.hap.sessions }, upd := { s.upd with staging := t.upd.staging } })) ∧
  (∀ (r : HapReq) (s : State),
    let w (a : Nat) (ws : List Word) := exec (.registerWrite r (BitVec.ofNat 32 a) ws) s
    exec (.cmdToStandby (.request r)) s = w 0x1000C [3] ∧ exec (.cmdToMaintenance (.request r)) s = w 0x1000C [6] ∧
    exec (.locRestart (.request r)) s = w 0xFF0018 [0] ∧ exec (.locMaint (.request r)) s = w 0xFF001C [0] ∧
    exec (.locDmpRelease (.request r)) s = w 0xFF0E48 [0] ∧ exec (.evtAckAll (.request r)) s = w 0x20030 [0x80000000] ∧
    exec (.mrtCntClear (.request r)) s = w 0x100028 [0] ∧ exec (.ldlCntClear (.request r)) s = w 0x100124 [0] ∧
    exec (.estRestart (.request r)) s = w 0x200040 [0] ∧ exec (.tngSwap (.request r)) s = w 0x900008 [0] ∧
    exec (.pnlRefresh (.request r)) s = w 0xC00004 [0] ∧ exec (.updOpen (.request r)) s = w 0xFF1200 [1] ∧
    exec (.updVerify (.request r)) s = w 0xFF1200 [2] ∧ exec (.updDiscard (.request r)) s = w 0xFF1200 [3] ∧
    exec (.txqOvfClear (.request r)) s = w 0xFF0620 [0x80000000] ∧
    (∀ v, exec (.alcUnitEnable (.request r) v) s = w 0x20101C [v] ∧
      exec (.alcPushForce (.request r) v) s = w 0x201020 [v] ∧ exec (.alcTest (.request r) v) s = w 0x201024 [v] ∧
      exec (.alcTestThrust (.request r) v) s = w 0x201028 [v] ∧ exec (.alcTestAz (.request r) v) s = w 0x20102C [v] ∧
      exec (.mpcTrkCtrl (.request r) v) s = w 0x202014 [v] ∧ exec (.wskDisputeSel (.request r) v) s = w 0x300044 [v] ∧
      exec (.wskExclude (.request r) v) s = w 0x300048 [v] ∧ exec (.canRestart (.request r) v) s = w 0x800014 [v] ∧
      exec (.trvReset (.request r) v) s = w 0xA0000C [v] ∧ exec (.locKtlClear (.request r) v) s = w 0xFF1114 [v] ∧
      exec (.gnaSysEnable (.request r) .one v) s = w 0x400004 [v] ∧
      exec (.gnaSysEnable (.request r) .two v) s = w 0x410004 [v]) ∧
    (∀ f b, exec (.cmdToActive (.request r) f b) s = w 0x1000C [activeWord f b] ∧
      exec (.cmdSelectFunction (.request r) f b) s = w 0x1000C [activeWord f b]) ∧
    (∀ e, exec (.evtAckEvent (.request r) e) s = w 0x20030 [pack [(e, 7, 0)]]) ∧
    (∀ u tok, exec (.logClear (.request r) u tok) s = w 0xB00000 (u :: tok) ∧
      exec (.lifeCycleTransition (.request r) u tok) s = w 0xD00000 (u :: tok)) ∧
    (∀ k q, exec (.estBaAccept (.request r) k q) s = w 0x200084 [pack [(k, 4, 0), (q, 8, 16)]] ∧
      exec (.estBaReject (.request r) k q) s = w 0x200084 [pack [(k, 4, 0), (q, 8, 16), (1, 1, 31)]]) ∧
    (∀ hi lo, exec (.updCommit (.request r) hi lo) s = w 0xE00000 [hi, lo]) ∧
    (∀ b m, b < 4 → exec (.evtMask (.request r) b m) s = w (0x20020 + 4 * b) [m]) ∧
    (∀ n vs, n < 3 → exec (.mpcTargetWrite (.request r) n vs) s = w (0x202008 + 4 * n) vs) ∧
    (∀ n vs, n < 128 → exec (.mpcTrkWaypointWrite (.request r) n vs) s = w (0x202100 + 4 * n) vs) ∧
    (∀ n v, n < 16 → exec (.sivSetSelect (.request r) n v) s = w (0x600100 + 0x20 * n) [v]) ∧
    (∀ b v, 1 ≤ b → b ≤ 8 → exec (.canWarnWrite (.request r) b v) s = w (0x800100 + 4 * (b - 1)) [v]) ∧
    (∀ k, exec (.trvWirechkOn (.request r) k) s = w 0xA00010 [pack [(k, 3, 0), (1, 1, 8)]] ∧
      exec (.trvWirechkOff (.request r) k) s = w 0xA00010 [pack [(k, 3, 0)]] ∧
      exec (.ktlManualSkilletTest (.request r) k) s = w 0xFF110C [manualWord 1 k] ∧
      exec (.ktlManualSliceMarch (.request r) k) s = w 0xFF110C [manualWord 2 k] ∧
      exec (.ktlManualOutputTest (.request r) k) s = w 0xFF110C [manualWord 3 k] ∧
      exec (.ktlInjectCorrectable (.request r) k) s = w 0xFF110C [manualWord 8 k] ∧
      exec (.ktlInjectUncorrectable (.request r) k) s = w 0xFF110C [manualWord 9 k] ∧
      exec (.ktlInjectSkilletFail (.request r) k) s = w 0xFF110C [manualWord 10 k]))

/-! ## Operator commands at their effect -/

/-- Mode commands at their effect: MODE 4 in STANDBY gives ACTIVE with its function, in ACTIVE it selects the function; MODE 3 gives STANDBY,
MODE 6 MAINTENANCE; acknowledgement and masks; the recorder clear and the life-cycle transition of the unit they name; the commit of a
verified manifest; the swap of roles; the panel's full rewrite. -/
def Obligations.ModeAndServiceCommandsTakeEffect : Prop :=
  ∀ (c : Command) (s : State),
    (∀ func berth f, func < 8 → berth < 8 → funcOf func = some f → dueIs 0x1000C [activeWord func berth] c s →
      (s.mir.mode.pairMode = .standby → s.um.mode = .standby → ∃ t, exec (.cmdToActive .effect func berth) s = .next t ∧
        t.um.mode = .active ∧ t.mir.mode.pairMode = .active ∧ t.mir.mode.func = some f ∧ t.mir.mode.modeEpoch = s.ex.epoch ∧
        t.mir.pair.seq = (s.mir.pair.seq + 1) % 65536 ∧ t.ex = (taken c s).ex ∧ t.cfg = s.cfg ∧ t.log = s.log) ∧
      (s.mir.mode.pairMode = .active → s.um.mode = .active → ∃ t, exec (.cmdSelectFunction .effect func berth) s = .next t ∧
        t.um = s.um ∧ t.mir.mode.pairMode = .active ∧ t.mir.mode.func = some f ∧ t.mir.mode.funcEpoch = s.ex.epoch ∧
        t.mir.pair = s.mir.pair ∧ t.ex = (taken c s).ex ∧ t.cfg = s.cfg ∧ t.log = s.log)) ∧
    (dueIs 0x1000C [3] c s → (s.um.mode = .active ∨ s.um.mode = .maintenance) → ∃ t, exec (.cmdToStandby .effect) s = .next t ∧ t.um.mode = .standby ∧
      t.mir.mode.pairMode = .standby ∧ t.mir.mode.modeEpoch = s.ex.epoch ∧ t.ex = (taken c s).ex ∧ t.cfg = s.cfg ∧ t.log = s.log) ∧
    (dueIs 0x1000C [6] c s → s.um.mode = .standby → ∃ t, exec (.cmdToMaintenance .effect) s = .next t ∧ t.um.mode = .maintenance ∧
      t.um.maintFromStandby = true ∧ t.mir.mode.pairMode = .maintenance ∧ t.slow.plan = none ∧ t.ex = (taken c s).ex ∧
      t.cfg = s.cfg ∧ t.log = s.log) ∧
    (dueIs 0x20030 [0x80000000] c s → ∃ t, exec (.evtAckAll .effect) s = .next t ∧
      (∀ e, e < 128 → eventUnack e t = false ∧ eventActive e t = eventActive e s) ∧ t.ex = (taken c s).ex ∧ t.um = s.um ∧ t.log = s.log) ∧
    (∀ e, e < 128 → dueIs 0x20030 [pack [(e, 7, 0)]] c s → ∃ t, exec (.evtAckEvent .effect e) s = .next t ∧ eventUnack e t = false ∧
      (∀ k, eventActive k t = eventActive k s) ∧ (∀ k, k ≠ e → eventUnack k t = eventUnack k s) ∧
      (eventUnack e s = true → t.evt.due = s.evt.due ++ [{ event := e, kind := 3, w0 := stationIndex c.slot s }]) ∧
      t.ex = (taken c s).ex ∧ t.um = s.um ∧ t.log = s.log) ∧
    (∀ b m, b < 4 → s.mir.evt.masks.length = 4 → dueIs (0x20020 + 4 * b) [m] c s → ∃ t, exec (.evtMask .effect b m) s = .next t ∧
      t.mir.evt.masks[b]? = some m ∧ (∀ k, k ≠ b → t.mir.evt.masks[k]? = s.mir.evt.masks[k]?) ∧
      t = { taken c s with mir := { s.mir with evt := { s.mir.evt with masks := t.mir.evt.masks } }
                           evt := { s.evt with dpRelay := t.evt.dpRelay, ufRelay := t.evt.ufRelay } }) ∧
    (∀ u tok, tok.length = 4 → dueIs 0xB00000 (u :: tok) c s →
      (namesUnit u s = true → ∃ t r, exec (.logClear .effect u tok) s = .next t ∧ t.log.records = [r] ∧ r.event = 19 ∧ r.kind = 1 ∧
        r.value = s.log.records.length ∧ t.log.full = false ∧ t.log.clears = (s.log.clears + 1) % 2 ^ 32 ∧ eventActive 18 t = false ∧
        t.um = s.um ∧ t.mir.alc = s.mir.alc) ∧
      (namesUnit u s = false → exec (.logClear .effect u tok) s = .next (taken c s))) ∧
    (∀ u tok, tok.length = 4 → dueIs 0xD00000 (u :: tok) c s →
      (namesUnit u s = true → ∃ t, exec (.lifeCycleTransition .effect u tok) s = .next t ∧ t.life.state = lifeOf (fieldOf u 9 8) ∧
        t.life.count = min (s.life.count + 1) 255 ∧ t.um = { s.um with mustRestart := true } ∧ eventActive 25 t = true ∧ t.ex = (taken c s).ex) ∧
      (namesUnit u s = false → exec (.lifeCycleTransition .effect u tok) s = .next (taken c s))) ∧
    (∀ hi lo : Word, dueIs 0xE00000 [hi, lo] c s → ∃ t, exec (.updCommit .effect hi lo) s = .next t ∧
      t.upd = { s.upd with commit := some (hi.toNat * 2 ^ 32 + lo.toNat), state := 6, staged := hi.toNat * 2 ^ 32 + lo.toNat } ∧
      t.um = { s.um with mustRestart := true } ∧ eventActive 22 t = true ∧ t.ex = (taken c s).ex) ∧
    (∀ w, dueIs 0x900008 [w] c s → exec (.tngSwap .effect) s = .next (takenMir c { s.mir with pair := { s.mir.pair with swapDue := true } } s)) ∧
    (∀ w, dueIs 0xC00004 [w] c s → exec (.pnlRefresh .effect) s = .next { taken c s with pnl := { s.pnl with fullPending := true } })

/-- Commands of Mortar, Ladle, estimation, allocation and prediction at their effect: each writes the register of its rule, and nothing else
changes but that the command has taken effect. -/
def Obligations.ControlCommandsTakeEffect : Prop :=
  ∀ (c : Command) (s : State), s.mir.alc.units.length = 16 → s.mir.mpc.waypoints.length = 32 →
    (∀ w, dueIs 0x100028 [w] c s → exec (.mrtCntClear .effect) s =
      .next (takenMir c { s.mir with mrt := { s.mir.mrt with fails := List.replicate 6 {} } } s)) ∧
    (∀ w, dueIs 0x100124 [w] c s → exec (.ldlCntClear .effect) s =
      .next (takenMir c { s.mir with ldl := { s.mir.ldl with coldAlc := 0, coldMpc := 0, coldCqa := 0, coldBa := 0 } } s)) ∧
    (∀ w, dueIs 0x200040 [w] c s → exec (.estRestart .effect) s =
      .next (takenMir c { s.mir with est := { s.mir.est with restartCommanded := true } } s)) ∧
    (∀ k q x, k < 11 → s.mir.ba.slots[k]? = some x →
      (dueIs 0x200084 [pack [(k, 4, 0), (q, 8, 16)]] c s → ∃ t v, exec (.estBaAccept .effect k q) s = .next t ∧
        t.mir.ba.slots[k]? = some { x with state := 1, accepted := true, inForce := v, baseline := v, pending := noPending } ∧
        v.dx = (if x.pending.dx.isSome then x.pending.dx else x.inForce.dx) ∧ v.dy = (if x.pending.dy.isSome then x.pending.dy else x.inForce.dy) ∧
        v.dz = (if x.pending.dz.isSome then x.pending.dz else x.inForce.dz) ∧
        v.dpsi = (if x.pending.dpsi.isSome then x.pending.dpsi else x.inForce.dpsi) ∧
        (∀ i, i ≠ k → t.mir.ba.slots[i]? = s.mir.ba.slots[i]?) ∧
        t = takenMir c { s.mir with ba := { s.mir.ba with slots := t.mir.ba.slots } } s) ∧
      (dueIs 0x200084 [pack [(k, 4, 0), (q, 8, 16), (1, 1, 31)]] c s → ∃ t, exec (.estBaReject .effect k q) s = .next t ∧
        t.mir.ba.slots[k]? = some { x with state := 1, pending := noPending } ∧ (∀ i, i ≠ k → t.mir.ba.slots[i]? = s.mir.ba.slots[i]?) ∧
        t = takenMir c { s.mir with ba := { s.mir.ba with slots := t.mir.ba.slots } } s)) ∧
    (∀ m, dueIs 0x20101C [m] c s → ∃ t, exec (.alcUnitEnable .effect m) s = .next t ∧
      (∀ j, j < 16 → unitState j t = if m.toNat.testBit j then { unitState j s with discrepancy := false, discRun := 0 } else unitState j s) ∧
      t = takenMir c { s.mir with alc := { s.mir.alc with units := t.mir.alc.units } } s) ∧
    (∀ v, dueIs 0x201020 [v] c s → exec (.alcPushForce .effect v) s = .next (takenMir c { s.mir with alc := { s.mir.alc with pushForce := v } } s)) ∧
    (∀ v, dueIs 0x201024 [v] c s → exec (.alcTest .effect v) s = .next (takenMir c { s.mir with alc := { s.mir.alc with test := v } } s)) ∧
    (∀ v, dueIs 0x201028 [v] c s → exec (.alcTestThrust .effect v) s =
      .next (takenMir c { s.mir with alc := { s.mir.alc with testThrust := v } } s)) ∧
    (∀ v, dueIs 0x20102C [v] c s → exec (.alcTestAz .effect v) s = .next (takenMir c { s.mir with alc := { s.mir.alc with testAz := v } } s)) ∧
    (∀ first vs, first + vs.length ≤ 3 → dueIs (0x202008 + 4 * first) vs c s →
      let reg (i : Nat) (old : Word) := if first ≤ i then vs.getD (i - first) old else old
      exec (.mpcTargetWrite .effect first vs) s = .next (takenMir c { s.mir with mpc := { s.mir.mpc with
        targetN := reg 0 s.mir.mpc.targetN, targetE := reg 1 s.mir.mpc.targetE, targetHdg := reg 2 s.mir.mpc.targetHdg } } s)) ∧
    (∀ n, dueIs 0x202014 [n] c s → exec (.mpcTrkCtrl .effect n) s =
      .next (takenMir c { s.mir with mpc := { s.mir.mpc with accepted := true, count := fieldOf n 5 0 } } s)) ∧
    (∀ first vs, first + vs.length ≤ 128 → vs ≠ [] → dueIs (0x202100 + 4 * first) vs c s →
      let reg (i : Nat) (old : Word) := if first ≤ i then vs.getD (i - first) old else old
      ∃ t, exec (.mpcTrkWaypointWrite .effect first vs) s = .next t ∧ t.mir.mpc.accepted = false ∧
        (∀ k x, s.mir.mpc.waypoints[k]? = some x → t.mir.mpc.waypoints[k]? =
          some (Waypoint.mk (reg (4 * k) x.north) (reg (4 * k + 1) x.east) (reg (4 * k + 2) x.hdg) (reg (4 * k + 3) x.spd))) ∧
        t = takenMir c { s.mir with mpc := { s.mir.mpc with accepted := false, waypoints := t.mir.mpc.waypoints } } s)

/-- Commands of Whisk, GNSS, Sieve, the field buses and Trivet at their effect. -/
def Obligations.SensorAndFieldCommandsTakeEffect : Prop :=
  ∀ (c : Command) (s : State),
    (∀ v, dueIs 0x300044 [v] c s → exec (.wskDisputeSel .effect v) s = .next (takenMir c { s.mir with wsk := (if bitOf v 8
      then { s.mir.wsk with hdg := { s.mir.wsk.hdg with choice := some (fieldOf v 3 0) } }
      else { s.mir.wsk with pos := { s.mir.wsk.pos with choice := some (fieldOf v 3 0) } }) } s)) ∧
    (∀ v, dueIs 0x300048 [v] c s → exec (.wskExclude .effect v) s =
      .next (takenMir c { s.mir with wsk := { s.mir.wsk with exclude := v } } s)) ∧
    (∀ v, dueIs 0x400004 [v] c s → exec (.gnaSysEnable .effect .one v) s = .next (takenMir c { s.mir with
      gnA := { s.mir.gnA with enable := v, before := s.mir.gnA.enable, since := s.mir.tim.cutoff + 500000 } } s)) ∧
    (∀ v, dueIs 0x410004 [v] c s → exec (.gnaSysEnable .effect .two v) s = .next (takenMir c { s.mir with
      gnB := { s.mir.gnB with enable := v, before := s.mir.gnB.enable, since := s.mir.tim.cutoff + 500000 } } s)) ∧
    (∀ n v x y, n < 16 → s.mir.siv[n]? = some x → s.siv.chains[n]? = some y → dueIs (0x600100 + 0x20 * n) [v] c s →
      ∃ t, exec (.sivSetSelect .effect n v) s = .next t ∧ t.siv.chains[n]? = some { y with selected := some (fieldOf v 1 0) } ∧
        (∃ z, t.mir.siv[n]? = some z ∧ z.ctrl = v ∧ z.phase = 3 ∧ z.fade = (chainDecl n s).fade ∧ z.boundary = none) ∧
        (∀ k, k ≠ n → t.mir.siv[k]? = s.mir.siv[k]? ∧ t.siv.chains[k]? = s.siv.chains[k]?) ∧
        t = { takenMir c { s.mir with siv := t.mir.siv } s with siv := { s.siv with chains := t.siv.chains } }) ∧
    (∀ m : Word, s.fld.buses.length = 8 → dueIs 0x800014 [m] c s → ∃ t, exec (.canRestart .effect m) s = .next t ∧
      (∀ b, 1 ≤ b → b ≤ 8 → busState b t = if m.toNat.testBit (b - 1) ∧ (busState b s).state = 4
        then { busState b s with state := 0, txErr := 0, rxErr := 0, begun := false } else busState b s) ∧
      t = withEvents { taken c s with fld := { s.fld with buses := t.fld.buses } } t) ∧
    (∀ b v, 1 ≤ b → b ≤ 8 → s.mir.fld.warn.length = 8 → dueIs (0x800100 + 4 * (b - 1)) [v] c s →
      ∃ t, exec (.canWarnWrite .effect b v) s = .next t ∧ t.mir.fld.warn[b - 1]? = some v ∧
        (∀ k, k ≠ b - 1 → t.mir.fld.warn[k]? = s.mir.fld.warn[k]?) ∧ (∀ k, 1 ≤ k → k ≠ b → busState k t = busState k s) ∧
        (3 ≤ (busState b s).state → busState b t = busState b s) ∧
        t = withEvents { takenMir c { s.mir with fld := { s.mir.fld with warn := t.mir.fld.warn } } s with
          fld := { s.fld with buses := t.fld.buses } } t) ∧
    (∀ m : Word, s.mir.trv.channels.length = 8 → dueIs 0xA0000C [m] c s → ∃ t, exec (.trvReset .effect m) s = .next t ∧
      (∀ k, k < 8 → (safeChannel k t).slt = ((safeChannel k s).slt && !m.toNat.testBit k) ∧
        (safeChannel k t).sts = ((safeChannel k s).sts && !m.toNat.testBit k) ∧
        (safeChannel k t).sls = ((safeChannel k s).sls && !m.toNat.testBit k) ∧
        (safeChannel k t).estop = ((safeChannel k s).estop && !m.toNat.testBit k)) ∧
      t = takenMir c { s.mir with trv := { s.mir.trv with channels := t.mir.trv.channels } } s) ∧
    (∀ k, k < 8 → s.trv.channels.length = 8 →
      (dueIs 0xA00010 [pack [(k, 3, 0), (1, 1, 8)]] c s → ∃ t, exec (.trvWirechkOn .effect k) s = .next t ∧
        channelLocal k t = { channelLocal k s with wirechk := true, wirechkEpochs := 0 } ∧
        (∀ j, j ≠ k → channelLocal j t = channelLocal j s) ∧ t = { taken c s with trv := { s.trv with channels := t.trv.channels } }) ∧
      (dueIs 0xA00010 [pack [(k, 3, 0)]] c s → ∃ t, exec (.trvWirechkOff .effect k) s = .next t ∧
        channelLocal k t = { channelLocal k s with wirechk := false, wirechkEpochs := 0 } ∧
        (∀ j, j ≠ k → channelLocal j t = channelLocal j s) ∧ t = { taken c s with trv := { s.trv with channels := t.trv.channels } }))

/-- Unit-local writes at their effect: a restart starts the unit in BOOT, or begins the copy of a committed update; LOC_MAINT leaves HOLD for
MAINTENANCE; the dump is released; a manual action is taken and, while a slice is in progress, waits for its end; health marks are due to be cleared; staging opens, is verified or is
discarded; OVF of the transmit stamps clears. -/
def Obligations.UnitLocalWritesTakeEffect : Prop :=
  ∀ (slot : Nat) (s : State),
    (∀ w, localIs 0xFF0018 [w] slot s →
      (s.upd.commit = none → ∃ t, exec (.locRestart .effect) s = .next t ∧
        t.um = { resetCause := .locRestart, unit := s.um.unit } ∧ t.ex = {} ∧ t.cfg = {} ∧ t.hap = {} ∧ t.upd.bankA = s.upd.bankA ∧
        t.upd.bankB = s.upd.bankB ∧ t.upd.staging = s.upd.staging ∧ t.rng = {} ∧
        (s.dmp.valid = false → s.log.closeOutLost = false → t.evt.due = []) ∧
        (s.evt.mramBad.contains .lifeCycle = false → t.life.state = s.life.state)) ∧
      (s.upd.commit.isSome = true → exec (.locRestart .effect) s =
        .next { localTaken s with upd := { s.upd with state := 7, progress := 0 } })) ∧
    (∀ w, localIs 0xFF001C [w] slot s → ∃ t, exec (.locMaint .effect) s = .next t ∧ t.um.mode = .maintenance ∧
      t.um.maintFromStandby = false ∧ t.mir.mode.func = none ∧ t.cfg = s.cfg ∧ t.ex = s.ex ∧ t.hap = (localTaken s).hap ∧ t.log = s.log) ∧
    (∀ w, localIs 0xFF0E48 [w] slot s → ∃ t, exec (.locDmpRelease .effect) s = .next t ∧
      Cleared 17 { localTaken s with dmp := { s.dmp with valid := false, readRanges := [] } } t) ∧
    (localIs 0xFF0620 [0x80000000] slot s → exec (.txqOvfClear .effect) s =
      .next { localTaken s with time := { s.time with txqOvf := false } }) ∧
    (∀ i, i < 256 →
      let waits := s.ktl.running.isSome || s.fab.test.isSome || s.fab.variantDue.isSome
      let taken (code : Nat) : Kettle := { s.ktl with manual := some (code, i), manualHeld := waits, mResult := 1, mCode := code, mItem := i }
      (localIs 0xFF110C [manualWord 1 i] slot s → exec (.ktlManualSkilletTest .effect i) s = .next { localTaken s with
        ktl := taken 1
        fab := if waits = false ∧ s.fab.marked = [] then { s.fab with variantDue := some (some i) } else s.fab }) ∧
      (localIs 0xFF110C [manualWord 2 i] slot s → exec (.ktlManualSliceMarch .effect i) s = .next { localTaken s with ktl := taken 2 }) ∧
      (localIs 0xFF110C [manualWord 3 i] slot s → exec (.ktlManualOutputTest .effect i) s = .next { localTaken s with ktl := taken 3 }) ∧
      (localIs 0xFF110C [manualWord 8 i] slot s → exec (.ktlInjectCorrectable .effect i) s = .next { localTaken s with
        ktl := taken 8, um := { s.um with mustRestart := true } }) ∧
      (localIs 0xFF110C [manualWord 9 i] slot s → exec (.ktlInjectUncorrectable .effect i) s = .next { localTaken s with
        ktl := taken 9, um := { s.um with mustRestart := true } }) ∧
      (localIs 0xFF110C [manualWord 10 i] slot s → exec (.ktlInjectSkilletFail .effect i) s = .next { localTaken s with
        ktl := taken 10, um := { s.um with mustRestart := true } })) ∧
    (∀ v, localIs 0xFF1114 [v] slot s → ∃ t, exec (.locKtlClear .effect v) s = .next t ∧
      t.ktl.clearSpares = (s.ktl.clearSpares || bitOf v 9) ∧
      (∀ k, k < 8 → (k ∈ t.ktl.clearSkillets ↔ k ∈ s.ktl.clearSkillets ∨ v.toNat.testBit k = true)) ∧
      t = { localTaken s with ktl := { s.ktl with clearSpares := t.ktl.clearSpares, clearSkillets := t.ktl.clearSkillets } }) ∧
    (localIs 0xFF1200 [1] slot s → exec (.updOpen .effect) s = .next { localTaken s with
      upd := { s.upd with state := 1, slot := some slot, progress := 0, staged := 0, fault := 0 } }) ∧
    (localIs 0xFF1200 [2] slot s → exec (.updVerify .effect) s = .next { localTaken s with upd := { s.upd with state := 3, progress := 0, fault := 0 } }) ∧
    (localIs 0xFF1200 [3] slot s → exec (.updDiscard .effect) s = .next { localTaken s with
      upd := { s.upd with state := 0, slot := none, progress := 0, staged := 0, fault := 0 } })

/-! ## Update and recovery -/

/-- The update manager's completions and the recovery loader: staging erased is OPEN; a verification that finds no fault is VERIFIED with
EV_021, else FAILED with the first step that fails; the copied bank is PROVISIONAL and selected, and the unit restarts; RECOVERY
erases, writes, verifies and installs for a request on SVC to the loader's address and UDP port, answers a repeated SEQ with the stored
response, and ignores any other datagram (the model's choice where MAGIC or the CRC is wrong, log 169). -/
def Obligations.UpdateAndRecoveryFollowTheirSteps : Prop :=
  ∀ s : State,
    (s.upd.state = 1 → ∃ t, exec .stagingEraseComplete s = .next t ∧ (∀ a, memRead 0xFF t.upd.staging a = 0xFF) ∧ t.upd.state = 2 ∧
      t = { s with upd := { s.upd with staging := [], state := 2, progress := 0 } }) ∧
    (s.upd.state = 3 →
      ((∀ k, 1 ≤ k → k ≤ 6 → verifyStep k s = true) → ∃ t, exec .stagingVerifyComplete s = .next t ∧ Raised 21 { s with
        upd := { s.upd with state := 4, staged := manifestDigest (stagedManifest s), progress := 0 } } t) ∧
      (∀ k, 1 ≤ k → k ≤ 6 → verifyStep k s = false → (∀ i, 1 ≤ i → i < k → verifyStep i s = true) →
        exec .stagingVerifyComplete s = .next { s with upd := { s.upd with state := 5, fault := k, progress := 0 } })) ∧
    (s.upd.state = 7 → ∃ t, exec .bankCopyComplete s = .next t ∧ t.upd.selected = otherSide s.upd.running ∧ t.upd.attempts = 0 ∧
      bankOf (otherSide s.upd.running) t = newBank false s ∧ bankOf s.upd.running t = bankOf s.upd.running s ∧ t.upd.commit = none ∧
      t.um = { resetCause := .locRestart, unit := s.um.unit } ∧ t.cfg = {} ∧ t.ex = {}) ∧
    (s.um.mode = .recovery → s.um.inReset = false →
      let asked (op : Nat) (r : RecReq) : Prop := r.port = .svc ∧ r.dest = (if s.um.unit = .a then 0xA9FE6001 else 0xA9FE6002, 47562) ∧
        r.magic = 0x524C ∧ r.crc = crc32c (recoveryOctets op r)
      let answered (op : Nat) (r : RecReq) (status : Nat) : Update := { s.upd with recSeq := some r.seq, recOp := op, recStatus := status }
      (∀ r, s.upd.recSeq ≠ some r.seq →
        (asked 1 r →
          exec (.recoveryErase r true) s = .next { s with out := sentBy s (.recovery 0x81 r.seq 2 r.source) :: s.out, upd := answered 1 r 2 } ∧
          exec (.recoveryErase r false) s = .next { s with out := sentBy s (.recovery 0x81 r.seq 0 r.source) :: s.out
                                                           upd := { answered 1 r 0 with staging := [], recVerified := false } }) ∧
        (asked 2 r →
          let good : Prop := r.zero = 0 ∧ r.zero2 = 0 ∧ r.length = r.data.length ∧ r.length ≤ 1024 ∧ r.length % 4 = 0 ∧ r.offset + r.length ≤ 48 * 2 ^ 20
          (good → Memory.wf 0xFF s.upd.staging = true →
            ∃ t, exec (.recoveryWrite r) s = .next t ∧ t.out = sentBy s (.recovery 0x82 r.seq 0 r.source) :: s.out ∧
              (∀ i, i < r.length → some (memRead 0xFF t.upd.staging (r.offset + i)) = r.data[i]?) ∧
              (∀ a, (a < r.offset ∨ r.offset + r.length ≤ a) → memRead 0xFF t.upd.staging a = memRead 0xFF s.upd.staging a) ∧
              t = { s with out := t.out, upd := { answered 2 r 0 with staging := t.upd.staging, recVerified := false } }) ∧
          (¬ good → exec (.recoveryWrite r) s = .next { s with out := sentBy s (.recovery 0x82 r.seq 1 r.source) :: s.out, upd := answered 2 r 1 })) ∧
        (asked 3 r →
          ((∀ k, 1 ≤ k → k ≤ 4 → verifyStep k s = true) → exec (.recoveryVerify r) s = .next { s with
            out := sentBy s (.recovery 0x83 r.seq 0 r.source) :: s.out, upd := { answered 3 r 0 with recVerified := true } }) ∧
          (∀ k, 1 ≤ k → k ≤ 4 → verifyStep k s = false → (∀ i, 1 ≤ i → i < k → verifyStep i s = true) →
            exec (.recoveryVerify r) s = .next { s with out := sentBy s (.recovery 0x83 r.seq (0x10 + k) r.source) :: s.out
                                                        upd := { answered 3 r (0x10 + k) with recVerified := false } })) ∧
        (asked 4 r →
          (s.upd.recVerified = false → exec (.recoveryInstall r) s = .next { s with
            out := sentBy s (.recovery 0x84 r.seq 3 r.source) :: s.out, upd := answered 4 r 3 }) ∧
          (s.upd.recVerified = true → ∃ t, exec (.recoveryInstall r) s = .next t ∧ t.out = sentBy s (.recovery 0x84 r.seq 0 r.source) :: s.out ∧
            t.upd.selected = installTarget s ∧ bankOf (installTarget s) t = newBank true s ∧
            bankOf (otherSide (installTarget s)) t = bankOf (otherSide (installTarget s)) s ∧
            t.um = { resetCause := .endOfRecovery, unit := s.um.unit } ∧ t.cfg = {} ∧ t.ex = {}))) ∧
      (∀ r b, s.upd.recSeq = some r.seq →
        let again (op : Nat) (i : Instr) : Prop := asked op r → exec i s = .next { s with
          out := sentBy s (.recovery (s.upd.recOp + 0x80) r.seq s.upd.recStatus r.source) :: s.out }
        again 1 (.recoveryErase r b) ∧ again 2 (.recoveryWrite r) ∧ again 3 (.recoveryVerify r) ∧ again 4 (.recoveryInstall r)) ∧
      (∀ r b, (¬ asked 1 r → exec (.recoveryErase r b) s = .next s) ∧ (¬ asked 2 r → exec (.recoveryWrite r) s = .next s) ∧
        (¬ asked 3 r → exec (.recoveryVerify r) s = .next s) ∧ (¬ asked 4 r → exec (.recoveryInstall r) s = .next s)))

/-! ## Kettle -/

/-- Kettle's rotation and its findings: an opportunity takes the item of the rotation, or first a directed test, and a manual action pauses
the rotation; a chunk that reads otherwise than recorded makes the bank SUSPECT; no item waits longer than it should without EV_031; a
march that fails in SRAM retires a retirable slice to a spare; the first Skillet that fails is marked and left out by the variant, a
second is a fault of cause 9; a manual action that waited begins when the slice has ended, and ends with its result; the operating time
is saved. What an idle opportunity counts for and where injected errors are met is the model's choice: logs 128 and 149. -/
def Obligations.KettleTestsMarkAndRetire : Prop :=
  ∀ s : State,
    (timerRuns s = true → commits s.um.mode = true → s.ex.epoch % 200 = 0 → ∀ crc : Nat,
      let waited (i : Nat) (l : List Nat) : Prop := ∀ j n, s.ktl.untested[j]? = some n → l[j]? = some (if j = i then 0 else n + 1)
      let noted (kind item : Nat) (k : Kettle) : Prop := k.lastPos = s.ktl.pos % 256 ∧ k.lastKind = kind ∧ k.lastItem = item
      (s.ktl.manual = none → s.ktl.directed = [] → ∀ q,
        (∀ r, (r = 1 ∨ r = 2) → s.ktl.pos = 4 * q + r → ∃ t, exec (.kettleOpportunity crc) s = .next t ∧ t = { s with ktl := t.ktl } ∧
          t.ktl.pos = s.ktl.pos + 1 ∧ t.ktl.running = some (1, 128 + (2 * q + r - 1) % 128, s.ex.epoch, false) ∧
          noted 1 (128 + (2 * q + r - 1) % 128) t.ktl ∧ waited (8 + (2 * q + r - 1) % 128) t.ktl.untested) ∧
        (s.ktl.pos = 4 * q → ∃ t, exec (.kettleOpportunity crc) s = .next t ∧ t = { s with ktl := t.ktl, fab := t.fab } ∧
          t.ktl.pos = s.ktl.pos + 1 ∧ noted 0 (q % 8) t.ktl ∧ waited (q % 8) t.ktl.untested ∧
          (s.fab.marked = [] → t.ktl.running = some (0, q % 8, s.ex.epoch, false) ∧
            t.fab = { s.fab with variantDue := some (some (q % 8)) }) ∧
          (s.fab.marked ≠ [] → q % 8 ∉ s.fab.marked → t.ktl.running = some (0, q % 8, s.ex.epoch, false) ∧ t.fab = s.fab) ∧
          (q % 8 ∈ s.fab.marked → t.ktl.running = none ∧ t.fab = s.fab)) ∧
        (s.ktl.pos = 4 * q + 3 →
          (crc ≠ recordedCrc (q % 32) s → ∃ t, exec (.kettleOpportunity crc) s = .next t ∧
            (bankOf s.upd.running t).state = .suspect ∧ eventActive 9 t = true ∧ t.ktl.failKind = 2 ∧ t.ktl.failItem = q % 32 ∧
            t.ktl.pos = s.ktl.pos + 1 ∧ t.ktl.running = none ∧ t.um = s.um ∧ t.ex = s.ex) ∧
          (crc = recordedCrc (q % 32) s → ∃ t, exec (.kettleOpportunity crc) s = .next t ∧ t = { s with ktl := t.ktl } ∧
            t.ktl.pos = s.ktl.pos + 1 ∧ t.ktl.running = none ∧ noted 2 (q % 32) t.ktl ∧ waited (136 + q % 32) t.ktl.untested))) ∧
      (s.ktl.manual = none → ∀ k rest, s.ktl.directed = k :: rest → s.fab.marked = [] → ∃ t,
        exec (.kettleOpportunity crc) s = .next t ∧ t.ktl.pos = s.ktl.pos ∧ t.ktl.directed = rest ∧
        t.ktl.running = some (0, k, s.ex.epoch, true) ∧ waited k t.ktl.untested ∧
        t = { s with ktl := t.ktl, fab := { s.fab with variantDue := some (some k) } }) ∧
      (s.ktl.manual.isSome = true → exec (.kettleOpportunity crc) s =
        .next { s with ktl := { s.ktl with untested := s.ktl.untested.map (· + 1) } })) ∧
    (∀ n e d, s.ktl.running = some (1, n, e, d) →
      (s.ktl.manualHeld = false → (n, true) ∉ s.ktl.injected → (n, false) ∉ s.ktl.injected →
        (exec (.sramMarchComplete true) s = .next { s with ktl := { s.ktl with running := none } }) ∧
        (160 ≤ n → n ≤ 251 → (s.ktl.used0 = false ∧ s.ktl.withdrawn0 = false) →
          exec (.sramMarchComplete false) s = .next { s with ktl := { s.ktl with running := none, retireDue := some n } })) ∧
      (∀ p, (p = false ∨ (n, true) ∈ s.ktl.injected) → 128 ≤ n → n < 160 → ∃ t, exec (.sramMarchComplete p) s = .next t ∧
        t.ex.stopped = true ∧ t.ex.emit = false ∧ eventActive 9 t = true ∧ t.ktl.failKind = 1 ∧ t.ktl.failItem = n ∧ t.ktl.running = none ∧
        (∀ b, (n, b) ∉ t.ktl.injected) ∧ (transition s.um.mode .hold = true → t.ex.holdDue = some (s.ex.holdDue.getD 2))) ∧
      (∀ code i, s.ktl.manual = some (code, i) → s.ktl.manualHeld = true → s.fab.test = none → s.fab.variantDue = none →
        (n, true) ∉ s.ktl.injected → ∃ t, exec (.sramMarchComplete true) s = .next t ∧ t.ktl.manualHeld = false ∧
          t.ktl.manual = some (code, i) ∧ (code = 1 → s.fab.marked = [] → t.fab.variantDue = some (some i)))) ∧
    (∀ k e d, s.ktl.running = some (0, k, e, d) →
      (∀ p, s.fab.marked = [] → testPasses k p s = true → exec (.skilletTestVerdict p) s = .next { s with
        ktl := { s.ktl with running := none, injectFail := s.ktl.injectFail.filter (· != k) }, fab := { s.fab with variantDue := some none } }) ∧
      (∀ p, s.fab.marked = [] → testPasses k p s = false → ∃ t, exec (.skilletTestVerdict p) s = .next t ∧ t.fab.marked = [k] ∧
        t.fab.test = none ∧ eventActive 9 t = true ∧ t.ktl.failKind = 0 ∧ t.ktl.failItem = k ∧ t.ktl.running = none ∧
        (s.fab.variant ≠ some k → t.fab.variantDue = some (some k)) ∧ t.ex = s.ex ∧ t.um = s.um) ∧
      (∀ m, s.fab.marked = [m] → m ≠ k → ∃ t, exec (.knownAnswerFailure k) s = .next t ∧ t.ex.holdDue = some (s.ex.holdDue.getD 9) ∧
        t.ktl.running = none ∧ eventActive 9 t = true ∧ t.fab.marked = [m] ∧ t.um = s.um)) ∧
    (∀ n, s.ktl.retireDue = some n → s.ktl.used0 = false → s.ktl.withdrawn0 = false → ∃ t, exec .sliceRetire s = .next t ∧
      t.ktl.retireDue = none ∧ t.ktl.used0 = true ∧ t.ktl.slice0 = n ∧ t.ktl.failRetired = true ∧ t.ktl.failItem = n ∧
      eventActive 9 t = true ∧ t.ex = s.ex ∧ t.fab = s.fab) ∧
    ((∃ n ∈ s.ktl.untested, 600 ≤ n) → ∃ t, exec .kettleSliceOverdue s = .next t ∧ Raised 31 s t) ∧
    (timerRuns s = true → exec .optimeSave s = .next { s with log := { s.log with opSaved := s.log.opTime } }) ∧
    (s.ktl.manual.isSome = true → s.ktl.manualHeld = true → ∀ p, exec (.manualActionComplete p) s = .next s) ∧
    (s.ktl.manualHeld = false →
      (∀ i p, s.ktl.manual = some (1, i) → s.fab.marked = [] → testPasses i p s = true → ∃ t, exec (.manualActionComplete p) s = .next t ∧
        i ∈ t.ktl.mPassed ∧ t.ktl.manual = none ∧ t.ktl.mResult = 2 ∧
        t = { s with ktl := { s.ktl with manual := none, mResult := 2, mPassed := t.ktl.mPassed, injectFail := s.ktl.injectFail.filter (· != i) }
                     fab := { s.fab with variantDue := some none } }) ∧
      (∀ i, s.ktl.manual = some (2, i) → (i, true) ∉ s.ktl.injected → (i, false) ∉ s.ktl.injected →
        exec (.manualActionComplete true) s = .next { s with ktl := { s.ktl with manual := none, mResult := 2 } }) ∧
      (∀ i, s.ktl.manual = some (3, i) → i < s.trv.channels.length → ∃ t, exec (.manualActionComplete true) s = .next t ∧
        channelLocal i t = { channelLocal i s with testAge := 0, overdue := false } ∧ (∀ j, j ≠ i → channelLocal j t = channelLocal j s) ∧
        t = { s with ktl := { s.ktl with manual := none, mResult := 2 }, trv := { s.trv with channels := t.trv.channels } }) ∧
      (∀ i p, s.ktl.manual = some (8, i) → exec (.manualActionComplete p) s = .next { s with
        ktl := { s.ktl with manual := none, mResult := 3, injected := s.ktl.injected ++ [(i, false)] } }) ∧
      (∀ i p, s.ktl.manual = some (9, i) → exec (.manualActionComplete p) s = .next { s with
        ktl := { s.ktl with manual := none, mResult := 3, injected := s.ktl.injected ++ [(i, true)] } }) ∧
      (∀ i p, s.ktl.manual = some (10, i) → ∃ t, exec (.manualActionComplete p) s = .next t ∧ i ∈ t.ktl.injectFail ∧
        t = { s with ktl := { s.ktl with manual := none, mResult := 3, injectFail := t.ktl.injectFail } }))

/-! ## Status panel -/

/-- The panel: an evaluation only on its epoch forms the rows of an update, every row for a full refresh and otherwise those of R409, and
the update's first row starts at the next E+0 µs with the band taken then; a row whose waveform has run for its epochs is committed to
the frame memory, no other row changes, and the next one of its group follows; a compensation line moves its row's records towards
zero; temperature suspends and resumes; a CRC mismatch raises EV_028 and schedules a full refresh. -/
def Obligations.PanelDrivesCommitsAndGuards : Prop :=
  ∀ s : State, panelRuns s = true →
    (s.ex.epoch % 2000 = 1000 → s.pnl.state = 0 → s.pnl.frozen = false → s.pnl.suspended = false →
      (s.pnl.fullPending = true → ∃ t, exec .panelEvaluation s = .next t ∧ t.pnl.rows.length = 128 ∧
        (∀ r, r < 128 → t.pnl.rows[r]? = some (r, renderRow (panelFields s) r)) ∧
        t = { s with pnl := { s.pnl with rows := t.pnl.rows, intent := t.pnl.rows, state := 2, first := false, row := none, compensated := [] } }) ∧
      (s.pnl.fullPending = false →
        let drawn (r : Nat) : Prop := renderRow (panelFields s) r ≠ frameRow r s ∨ needsCompensation r s = true ∨ r ∈ s.pnl.fullRows ∨
          (s.pnl.first = true ∧ ∃ x ∈ s.pnl.intent, x.1 = r)
        ((∃ r, r < 128 ∧ drawn r) → ∃ t, exec .panelEvaluation s = .next t ∧
          (∀ r new, (r, new) ∈ t.pnl.rows ↔ r < 128 ∧ drawn r ∧ new = renderRow (panelFields s) r) ∧
          t = { s with pnl := { s.pnl with rows := t.pnl.rows, intent := t.pnl.rows, state := 1, first := false, row := none, compensated := [] } }) ∧
        ((∀ r, r < 128 → ¬ drawn r) → exec .panelEvaluation s = .next s))) ∧
    (∀ r new rest, s.pnl.state ≠ 0 → s.pnl.row = none → s.pnl.rows = (r, new) :: rest → s.pnl.frozen = false → s.pnl.suspended = false →
      (panelEpoch s).pnl.row = some r ∧ (panelEpoch s).pnl.rowFor = 0 ∧ (panelEpoch s).pnl.band = s.pnl.bandSeen ∧
        (panelEpoch s).pnl.rows = s.pnl.rows ∧ (panelEpoch s).pnl.frame = s.pnl.frame) ∧
    (∀ r new, s.pnl.row = some r → s.pnl.rows = [(r, new)] → s.pnl.compensating = false → new.length = 74 → r < 128 →
      lineEpochs s ≤ s.pnl.rowFor → Memory.wf 0 s.pnl.frame = true → ∃ t, exec .panelRowComplete s = .next t ∧
        t.pnl.state = 0 ∧ t.pnl.row = none ∧ t.pnl.rows = [] ∧ t.pnl.lines = min (s.pnl.lines + 1) 65535 ∧
        (∀ i, i < 74 → some (memRead 0 t.pnl.frame (74 * r + i)) = new[i]?) ∧
        (∀ a, (a < 74 * r ∨ 74 * r + 74 ≤ a) → memRead 0 t.pnl.frame a = memRead 0 s.pnl.frame a) ∧
        t.pnl.crc = crc32 (memReads 0 t.pnl.frame 0 (74 * 128)) ∧ t = { s with pnl := t.pnl }) ∧
    (∀ r new q next rest, s.pnl.row = some r → s.pnl.rows = (r, new) :: (q, next) :: rest → s.pnl.compensating = false →
      s.pnl.frozen = false → q / 8 = r / 8 → q ≠ r → (∀ x ∈ rest, x.1 ≠ r) → lineEpochs s ≤ s.pnl.rowFor →
      ∃ t, exec .panelRowComplete s = .next t ∧ t.pnl.row = some q ∧ t.pnl.rows = (q, next) :: rest ∧ t.pnl.rowFor = 0 ∧
        t.pnl.state = s.pnl.state ∧ t.pnl.band = s.pnl.band ∧ t.pnl.lines = min (s.pnl.lines + 1) 65535 ∧ t = { s with pnl := t.pnl }) ∧
    (s.pnl.rowFor < lineEpochs s → exec .panelRowComplete s = .next s) ∧
    (∀ r q rest, s.pnl.row = some r → s.pnl.rows = (r, q) :: rest → s.pnl.compensating = true → s.pnl.frozen = false →
      ∃ t, exec .compensationLineComplete s = .next t ∧ t.pnl.compensating = false ∧ r ∈ t.pnl.compensated ∧
        t.pnl.balance = compensateRow r s.pnl.balance ∧
        t = { s with pnl := { s.pnl with
          compensating := false, compensated := t.pnl.compensated, balance := t.pnl.balance, rowFor := 0 } }) ∧
    (∀ x : Int, ∃ t, exec (.panelTemperatureRead x) s = .next t ∧ t.pnl.temp = rangeS x ∧
      (x < 0 ∨ 12800 < x → t.pnl.suspended = true) ∧ (128 ≤ x → x ≤ 12672 → t.pnl.suspended = false) ∧
      t = { s with pnl := { s.pnl with temp := t.pnl.temp, bandSeen := t.pnl.bandSeen, suspended := t.pnl.suspended } }) ∧
    (s.ex.epoch % 2000 = 0 → crc32 (memReads 0 s.pnl.frame 0 (74 * 128)) ≠ s.pnl.crc → ∃ t, exec .frameMemoryCrcCheck s = .next t ∧
      eventActive 28 t = true ∧ t.pnl.fullPending = true ∧ t.pnl.mismatches = min (s.pnl.mismatches + 1) 255 ∧ t.pnl.frame = s.pnl.frame ∧
      t = withEvents { s with pnl := { s.pnl with mismatches := t.pnl.mismatches, fullPending := true } } t)

/-- The broken glass (R415): a loop open for 200 epochs freezes the panel with EV_027; the line in progress completes and nothing more is
driven, whether it is a row or a compensation line, and no update starts; EV_027 clears when the loop reads closed, but the panel stays
frozen until a start at which the loop reads closed. -/
def Obligations.BrokenGlassFreezesThePanel : Prop :=
  ∀ s : State,
    (panelRuns s = true →
      (∀ n, 200 ≤ n → ∃ t, exec (.panelCrack n) s = .next t ∧ Raised 27 { s with pnl := { s.pnl with crack := true, frozen := true } } t) ∧
      (∀ n, n < 200 → exec (.panelCrack n) s = .next { s with pnl := { s.pnl with crack := true } }) ∧
      (s.pnl.frozen = true →
        (∀ r new rest, s.pnl.row = some r → s.pnl.rows = (r, new) :: rest → new.length = 74 → Memory.wf 0 s.pnl.frame = true →
          (s.pnl.compensating = false → lineEpochs s ≤ s.pnl.rowFor → ∃ t, exec .panelRowComplete s = .next t ∧ t.pnl.row = none ∧
            t.pnl.rows = [] ∧ t.pnl.state = 0 ∧ (∀ i, i < 74 → some (memRead 0 t.pnl.frame (74 * r + i)) = new[i]?) ∧
            t = { s with pnl := t.pnl }) ∧
          (s.pnl.compensating = true → ∃ t, exec .compensationLineComplete s = .next t ∧ t.pnl.row = none ∧ t.pnl.rows = [] ∧
            t.pnl.state = 0 ∧ t.pnl.frame = s.pnl.frame ∧ t.pnl.balance = compensateRow r s.pnl.balance ∧ t = { s with pnl := t.pnl })) ∧
        exec .panelEvaluation s = .next s) ∧
      (∃ t, exec .crackLoopClosed s = .next t ∧ Cleared 27 { s with pnl := { s.pnl with crack := false } } t)) ∧
    (∀ rel high crackOpen, starts rel s → ∃ t, exec (.resetRelease rel high crackOpen) s = .next t ∧
      t.pnl.frozen = (s.pnl.frozen && crackOpen) ∧ t.pnl.crack = crackOpen)

/-! ## Supply, oscillator, temperature and key -/

/-- The supply and its neighbours: bus, inputs, hold-up store, oscillator, base plate and key socket take their state, and their events
follow; an input is absent or disconnected after its time, and the key's contact counts once it has held. The voltages and temperatures
here lie outside the tolerances of the manual's thresholds. -/
def Obligations.SupplyConditionsRaiseAndClear : Prop :=
  ∀ s : State,
    (timerRuns s = true →
      (∀ v, v ≤ 4044 → ∃ t, exec (.busWarning v) s = .next t ∧ Raised 0 { s with sup := { s.sup with bus := v, warn := true } } t) ∧
      (∀ v, 4276 ≤ v → ∃ t, exec (.busWarningClear v) s = .next t ∧ Cleared 0 { s with sup := { s.sup with bus := v, warn := false } } t) ∧
      (200 ≤ s.sup.aLow → ∃ t, exec (.inputAbsent .one) s = .next t ∧ t.sup = { s.sup with aAbsent := true } ∧ eventActive 1 t = true ∧
        eventActive 2 t = (s.sup.bAbsent || s.sup.bCut) ∧ t = withEvents { s with sup := t.sup } t) ∧
      (200 ≤ s.sup.bLow → ∃ t, exec (.inputAbsent .two) s = .next t ∧ t.sup = { s.sup with bAbsent := true } ∧ eventActive 2 t = true ∧
        eventActive 1 t = (s.sup.aAbsent || s.sup.aCut) ∧ t = withEvents { s with sup := t.sup } t) ∧
      (4276 ≤ s.sup.pwrA → ∃ t, exec (.inputReturn .one) s = .next t ∧ t.sup = { s.sup with aAbsent := false } ∧ eventActive 1 t = s.sup.aCut ∧
        eventActive 2 t = (s.sup.bAbsent || s.sup.bCut) ∧ t = withEvents { s with sup := t.sup } t) ∧
      (4276 ≤ s.sup.pwrB → ∃ t, exec (.inputReturn .two) s = .next t ∧ t.sup = { s.sup with bAbsent := false } ∧ eventActive 2 t = s.sup.bCut ∧
        eventActive 1 t = (s.sup.aAbsent || s.sup.aCut) ∧ t = withEvents { s with sup := t.sup } t) ∧
      (200 < s.sup.aHigh → ∃ t, exec (.overvoltageDisconnect .one) s = .next t ∧ t.sup = { s.sup with aCut := true } ∧ eventActive 1 t = true ∧
        t = withEvents { s with sup := t.sup } t) ∧
      (s.sup.pwrA < 20992 → ∃ t, exec (.overvoltageReconnect .one) s = .next t ∧ t.sup = { s.sup with aCut := false } ∧ eventActive 1 t = s.sup.aAbsent ∧
        t = withEvents { s with sup := t.sup } t) ∧
      (200 < s.sup.bHigh → ∃ t, exec (.overvoltageDisconnect .two) s = .next t ∧ t.sup = { s.sup with bCut := true } ∧ eventActive 2 t = true ∧
        t = withEvents { s with sup := t.sup } t) ∧
      (s.sup.pwrB < 20992 → ∃ t, exec (.overvoltageReconnect .two) s = .next t ∧ t.sup = { s.sup with bCut := false } ∧ eventActive 2 t = s.sup.bAbsent ∧
        t = withEvents { s with sup := t.sup } t) ∧
      (s.sup.stable = false → 300 ≤ s.sup.warmS → ∃ t, exec .ocxoWarmupOverdue s = .next t ∧ Raised 4 s t) ∧
      (∀ x : Int, 20992 < x → ∃ t, exec (.temperatureWarning x) s = .next t ∧
        Raised 8 { s with sup := { s.sup with base := some x, tempWarn := true } } t) ∧
      (∀ x : Int, 23552 < x → ∃ t, exec (.temperatureLimit x) s = .next t ∧
        Raised 29 { s with sup := { s.sup with base := some x, tempLimit := true } } t) ∧
      (∀ x : Int, x ≤ 19200 → ∃ t, exec (.temperatureFall x) s = .next t ∧ eventActive 8 t = false ∧ eventActive 29 t = false ∧
        t = withEvents { s with sup := { s.sup with base := some x, tempWarn := false, tempLimit := false } } t) ∧
      (∀ b n, b ≠ s.sup.keyPresent → 200 ≤ n → s.um.mode ≠ .load → ∃ t, exec (.keyPresenceChange b n) s = .next t ∧
        Raised 14 { s with sup := { s.sup with keyPresent := b, keyChanges := min (s.sup.keyChanges + 1) 65535, keyDue := 0 } } t) ∧
      (∀ b n, b ≠ s.sup.keyPresent → 200 ≤ n → s.um.mode = .load → s.um.loaded = true → exec (.keyPresenceChange b n) s =
        .next { s with sup := { s.sup with keyPresent := b, keyDue := s.sup.keyDue + 1 } }) ∧
      (∀ b n, n < 200 → exec (.keyPresenceChange b n) s = .next s)) ∧
    (s.um.inReset = false → exec .holdupReady s = .next { s with sup := { s.sup with holdup := true } }) ∧
    (∃ t, exec .ocxoStable s = .next t ∧ Cleared 4 { s with sup := { s.sup with stable := true }, time := { s.time with ocxoStable := true } } t)

/-! ## Faults of the hardware -/

/-- Fatal errors and memory errors: a lockstep difference (cause 1), a watchdog (3) and an error in SRAM outside the tile stores (2) stop the
unit's emission and take it to HOLD; in a tile store the Skillet is tested next; a corrected error is counted, and above the rate
raises EV_010; an error in MRAM is EV_020; a dump that completes is VALID with EV_017. -/
def Obligations.HardwareFaultsStopAndAreCounted : Prop :=
  ∀ s : State,
    (timerRuns s = true →
      (∀ p, transition s.um.mode .hold = true → s.dmp.valid = false → s.dmp.due = none →
        (∃ t, exec (.lockstepMismatch p) s = .next t ∧
          t = { s with ex := { s.ex with stopped := true, emit := false, holdDue := some (s.ex.holdDue.getD 1), fatalDue := true }
                       dmp := { s.dmp with due := some ⟨1, dumpWriter p, s.ex.epoch, s.log.opTime⟩ } }) ∧
        (∃ t, exec (.watchdogExpiry p) s = .next t ∧
          t = { s with ex := { s.ex with stopped := true, emit := false, holdDue := some (s.ex.holdDue.getD 3), fatalDue := true }
                       dmp := { s.dmp with due := some ⟨3, dumpWriter p, s.ex.epoch, s.log.opTime⟩ } })) ∧
      (∀ p, transition s.um.mode .hold = true → s.dmp.valid = true → ∃ t, exec (.lockstepMismatch p) s = .next t ∧
        t = { s with ex := { s.ex with stopped := true, emit := false, holdDue := some (s.ex.holdDue.getD 1), fatalDue := true }
                     dmp := { s.dmp with lost := min (s.dmp.lost + 1) 255 } }) ∧
      (∀ f : SramFault, 0x800000 ≤ f.offset → f.offset < 0x1000000 → ∃ t, exec (.eccUncorrectable f) s = .next t ∧ t.ex.stopped = true ∧
        t.ex.emit = false ∧ (transition s.um.mode .hold = true → t.ex.holdDue = some (s.ex.holdDue.getD 2) ∧ t.ex.fatalDue = true) ∧
        t.um = s.um ∧ t.log = s.log) ∧
      (∀ f : SramFault, f.offset < 0x800000 → ∃ t, exec (.eccUncorrectable f) s = .next t ∧ f.offset / 0x100000 ∈ t.fab.broken ∧
        f.offset / 0x100000 ∈ t.ktl.directed ∧
        (∀ p, s.slow.plan = some p → f.offset / 0x100000 ∈ lyingOn 4 0 false [f.offset / 0x100000] s →
          ∃ q, t.slow.plan = some q ∧ f.offset / 0x100000 ∈ q.lost) ∧ t.ex = s.ex ∧ t.um = s.um ∧ t.evt = s.evt ∧ t.mir = s.mir) ∧
      (∀ (f : SramFault) n r, f.offset < 0x1000000 → s.sup.eccs = n :: r → ∃ t, exec (.eccCorrected f) s = .next t ∧
        t.sup.eccs = (n + 1) :: r ∧ (f.offset < 0x800000 → t.fab.ecc = min (s.fab.ecc + 1) (2 ^ 32 - 1) ∧ t.sup.eccOther = s.sup.eccOther) ∧
        (0x800000 ≤ f.offset → t.fab = s.fab ∧ t.sup.eccOther = s.sup.eccOther + 1) ∧
        (s.cfg.valid = true → s.cfg.image.eccRate < n + 1 + r.sum → eventActive 10 t = true) ∧
        (n + 1 + r.sum ≤ s.cfg.image.eccRate → t.evt = s.evt) ∧ t.ex = s.ex ∧ t.um = s.um)) ∧
    (s.um.inReset = false →
      (∀ i r, s.log.records[i]? = some r → ∃ t, exec (.mramUncorrectable (.record i)) s = .next t ∧ eventActive 20 t = true ∧
        t.log.records[i]? = some { r with corrupt := true } ∧ (∀ k, k ≠ i → t.log.records[k]? = s.log.records[k]?) ∧
        t = withEvents { s with log := { s.log with records := t.log.records } } t) ∧
      (∀ x, (∀ i, x ≠ .record i) → ∃ t, exec (.mramUncorrectable x) s = .next t ∧ eventActive 20 t = true ∧ x ∈ t.evt.mramBad ∧
        t.log = s.log ∧ t.um = s.um ∧ t.pnl.frame = s.pnl.frame) ∧
      (∀ ps cause writer e op, s.um.mode = .hold → s.dmp.due = some ⟨cause, writer, e, op⟩ → ∃ t, exec (.fatalDumpComplete ps) s = .next t ∧
        t.dmp.valid = true ∧ t.dmp.cause = cause ∧ t.dmp.epoch = e ∧ t.dmp.blocks = (recentSets e s).length ∧ t.dmp.due = none ∧
        memReads 0 t.dmp.mem 8 6 = beBytes 6 e ∧ memReads 0 t.dmp.mem 16 5 = beBytes 5 op ∧
        memReads 0 t.dmp.mem 0 7 = [0x44, 0x4D, 0x50, 0x31, 1, BitVec.ofNat 8 cause, BitVec.ofNat 8 writer] ∧
        eventActive 17 t = true ∧ t.um = s.um ∧ t.log = s.log ∧ t.ex = s.ex))
end

