-- ==== Sys2Proof/Laws/Events.lean ====
section
/-! SUPPORT. What raising and clearing an event does, once for every row that does it. -/

set_option linter.unusedSimpArgs false

namespace Sys2Proof.Machine

theorem contains_insertNat (e k : Nat) (l : List Nat) : (insertNat e l).contains k = (k == e || l.contains k) := by
  induction l with
  | nil => simp only [insertNat, List.contains_cons, List.contains_nil]
  | cons y r ih =>
    unfold insertNat
    split
    · simp only [List.contains_cons]
    · split
      · rename_i h
        subst h
        simp only [List.contains_cons, ← Bool.or_assoc, Bool.or_self]
      · simp only [List.contains_cons, ih, Bool.or_left_comm]

theorem contains_filter_ne (e k : Nat) (l : List Nat) : (l.filter (· != e)).contains k = (k != e && l.contains k) := by
  rw [Bool.eq_iff_iff]
  simp [and_comm]

/-- The relays touch no other event state. -/
theorem updateRelays_eq (s : State) : ∃ a b, updateRelays s = { s with evt := { s.evt with dpRelay := a, ufRelay := b } } := by
  unfold updateRelays
  split
  · exact ⟨_, _, rfl⟩
  · exact ⟨_, _, rfl⟩

/-- Noting an index changes the noted indices alone. -/
theorem noteIndex_eq (e i : Nat) (s : State) : ∃ a b, noteIndex e i s =
    { s with evt := { s.evt with named := a }, mir := { s.mir with evt := { s.mir.evt with named := b } } } := by
  unfold noteIndex
  split
  · exact ⟨_, _, rfl⟩
  · exact ⟨_, _, rfl⟩

theorem raised_raiseWith (e w0 w1 : Nat) (v : Int) (s : State) : Raised e s (raiseWith e w0 w1 v s) := by
  unfold Raised raiseWith
  split
  · rfl
  · rename_i h
    have h : eventActive e s = false := by simpa using h
    unfold setRaised
    simp only []
    generalize hp : (if (attrOf e).sev = .alarm then
      { s with pnl := { s.pnl with lastAlarm := some (e, s.log.opTime) } } else s) = p
    have hq : ∃ x, p = { s with pnl := { s.pnl with lastAlarm := x } } := by
      rw [← hp]
      split
      · exact ⟨_, rfl⟩
      · exact ⟨_, rfl⟩
    obtain ⟨x, rfl⟩ := hq
    split
    · rename_i hl
      obtain ⟨a, b, hu⟩ := updateRelays_eq { { s with pnl := { s.pnl with lastAlarm := x } } with evt := { s.evt with
        active := insertNat e s.evt.active
        unack := if (attrOf e).sev = .caution then s.evt.unack else insertNat e s.evt.unack } }
      simp only [] at hu
      rw [hu]
      obtain ⟨c, d, hn⟩ := noteIndex_eq e w0 _
      rw [hn]
      refine ⟨rfl, ?_, ?_, ⟨⟨e, 1, w0, w1, v⟩, rfl, rfl, rfl⟩, ?_⟩
      · simp only [eventActive, addDue, hl, contains_insertNat, beq_self_eq_true, Bool.true_or, if_true, if_false, Bool.false_eq_true]
      · intro k hk
        have hb : (k == e) = false := beq_eq_false_iff_ne.mpr hk
        constructor
        · simp only [eventActive, addDue, contains_insertNat, hb, Bool.false_or]
        · simp only [eventUnack, addDue]
          split
          · split
            · rfl
            · simp only [contains_insertNat, hb, Bool.false_or]
          · rfl
      · simp only [eventUnack, addDue, hl, if_true]
        split
        · rename_i hc
          simp [hc]
        · rename_i hc
          have hd : ((attrOf e).sev != .caution) = true := bne_iff_ne.mpr hc
          simp only [contains_insertNat, hd, beq_self_eq_true, Bool.true_or, Bool.or_true]
    · rename_i hl
      obtain ⟨a, b, hu⟩ := updateRelays_eq { { s with pnl := { s.pnl with lastAlarm := x } } with mir := { s.mir with evt := { s.mir.evt with
        active := insertNat e s.mir.evt.active
        unack := if (attrOf e).sev = .caution then s.mir.evt.unack else insertNat e s.mir.evt.unack
        last := some e, lastEpoch := s.ex.epoch } } }
      simp only [] at hu
      rw [hu]
      obtain ⟨c, d, hn⟩ := noteIndex_eq e w0 _
      rw [hn]
      refine ⟨rfl, ?_, ?_, ⟨⟨e, 1, w0, w1, v⟩, rfl, rfl, rfl⟩, ?_⟩
      · simp only [eventActive, addDue, hl, contains_insertNat, beq_self_eq_true, Bool.true_or, if_true, if_false, Bool.false_eq_true]
      · intro k hk
        have hb : (k == e) = false := beq_eq_false_iff_ne.mpr hk
        constructor
        · simp only [eventActive, addDue, contains_insertNat, hb, Bool.false_or]
        · simp only [eventUnack, addDue]
          split
          · rfl
          · split
            · rfl
            · simp only [contains_insertNat, hb, Bool.false_or]
      · simp only [eventUnack, addDue, hl, if_false, Bool.false_eq_true]
        split
        · rename_i hc
          simp [hc]
        · rename_i hc
          have hd : ((attrOf e).sev != .caution) = true := bne_iff_ne.mpr hc
          simp only [contains_insertNat, hd, beq_self_eq_true, Bool.true_or, Bool.or_true]

theorem raised_raise (e : Nat) (s : State) : Raised e s (raise e s) := raised_raiseWith _ _ _ _ _

theorem raised_raiseAt (e i : Nat) (s : State) : Raised e s (raiseAt e i s) := raised_raiseWith _ _ _ _ _

theorem cleared_clearEvent (e : Nat) (s : State) : Cleared e s (clearEvent e s) := by
  unfold Cleared clearEvent
  split
  · rename_i h
    by_cases hl : (attrOf e).scopeL = true
    · simp only [hl, if_true]
      by_cases hm : (attrOf e).momentary = true
      · simp only [hm, if_true]
        obtain ⟨a, b, hu⟩ := updateRelays_eq { s with evt := { s.evt with active := s.evt.active.filter (· != e) } }
        rw [hu]
        refine ⟨rfl, ?_, ?_, rfl, rfl⟩
        · simp [eventActive, hl]
        · intro k hk
          have hb : (k != e) = true := by simpa using hk
          exact ⟨by simp only [eventActive, contains_filter_ne, hb, Bool.true_and], rfl⟩
      · simp only [hm]
        obtain ⟨a, b, hu⟩ := updateRelays_eq (addDue { event := e, kind := 2, w0 := indexOf e { s with evt := { s.evt with
          active := s.evt.active.filter (· != e) } } } { s with evt := { s.evt with
          active := s.evt.active.filter (· != e) } })
        simp only [Bool.false_eq_true, if_false]
        rw [hu]
        refine ⟨rfl, ?_, ?_, rfl, ⟨_, rfl, rfl, rfl⟩⟩
        · simp [eventActive, hl, addDue]
        · intro k hk
          have hb : (k != e) = true := by simpa using hk
          exact ⟨by simp only [eventActive, addDue, contains_filter_ne, hb, Bool.true_and], rfl⟩
    · simp only [hl]
      by_cases hm : (attrOf e).momentary = true
      · simp only [hm, if_true, Bool.false_eq_true, if_false]
        obtain ⟨a, b, hu⟩ := updateRelays_eq { s with mir := { s.mir with evt := { s.mir.evt with
          active := s.mir.evt.active.filter (· != e) } } }
        rw [hu]
        refine ⟨rfl, ?_, ?_, rfl, rfl⟩
        · simp [eventActive, hl]
        · intro k hk
          have hb : (k != e) = true := by simpa using hk
          exact ⟨by simp only [eventActive, contains_filter_ne, hb, Bool.true_and], rfl⟩
      · simp only [hm, Bool.false_eq_true, if_false]
        obtain ⟨a, b, hu⟩ := updateRelays_eq (addDue { event := e, kind := 2, w0 := indexOf e { s with mir := { s.mir with evt := {
          s.mir.evt with active := s.mir.evt.active.filter (· != e) } } } } { s with mir := { s.mir with evt := { s.mir.evt with
          active := s.mir.evt.active.filter (· != e) } } })
        rw [hu]
        refine ⟨rfl, ?_, ?_, rfl, ⟨_, rfl, rfl, rfl⟩⟩
        · simp [eventActive, hl, addDue]
        · intro k hk
          have hb : (k != e) = true := by simpa using hk
          exact ⟨by simp only [eventActive, addDue, contains_filter_ne, hb, Bool.true_and], rfl⟩
  · rfl

theorem follows_condition (e : Nat) (on : Bool) (s : State) : Follows e on s (condition e on s) := by
  cases on
  · exact cleared_clearEvent e s
  · exact raised_raise e s

/-- A state with another's event state is unchanged elsewhere. -/
@[simp] theorem withEvents_fields (t : State) (s : State) :
    (withEvents s t).um = s.um ∧ (withEvents s t).ex = s.ex ∧ (withEvents s t).cfg = s.cfg ∧ (withEvents s t).fab = s.fab ∧
    (withEvents s t).slow = s.slow ∧ (withEvents s t).saved = s.saved ∧
    (withEvents s t).gnA = s.gnA ∧ (withEvents s t).gnB = s.gnB ∧ (withEvents s t).time = s.time ∧
    (withEvents s t).siv = s.siv ∧ (withEvents s t).rng = s.rng ∧ (withEvents s t).fld = s.fld ∧
    (withEvents s t).pair = s.pair ∧ (withEvents s t).trv = s.trv ∧ (withEvents s t).log = s.log ∧
    (withEvents s t).dmp = s.dmp ∧ (withEvents s t).hap = s.hap ∧ (withEvents s t).sup = s.sup ∧
    (withEvents s t).ktl = s.ktl ∧ (withEvents s t).life = s.life ∧ (withEvents s t).upd = s.upd ∧
    (withEvents s t).out = s.out ∧ (withEvents s t).free = s.free ∧ (withEvents s t).pending = s.pending ∧
    (withEvents s t).mir.mode = s.mir.mode ∧ (withEvents s t).mir.mrt = s.mir.mrt ∧ (withEvents s t).mir.ldl = s.mir.ldl ∧
    (withEvents s t).mir.est = s.mir.est ∧ (withEvents s t).mir.ba = s.mir.ba ∧ (withEvents s t).mir.abm = s.mir.abm ∧
    (withEvents s t).mir.alc = s.mir.alc ∧ (withEvents s t).mir.mpc = s.mir.mpc ∧ (withEvents s t).mir.cqa = s.mir.cqa ∧
    (withEvents s t).mir.wsk = s.mir.wsk ∧ (withEvents s t).mir.gnA = s.mir.gnA ∧ (withEvents s t).mir.gnB = s.mir.gnB ∧
    (withEvents s t).mir.tim = s.mir.tim ∧ (withEvents s t).mir.siv = s.mir.siv ∧ (withEvents s t).mir.fld = s.mir.fld ∧
    (withEvents s t).mir.pair = s.mir.pair ∧ (withEvents s t).mir.trv = s.mir.trv ∧
    (withEvents s t).mir.evt.masks = s.mir.evt.masks ∧ (withEvents s t).evt.written = s.evt.written ∧
    (withEvents s t).evt.mramBad = s.evt.mramBad ∧ (withEvents s t).pnl.frame = s.pnl.frame ∧
    (withEvents s t).pnl.crc = s.pnl.crc ∧ (withEvents s t).pnl.state = s.pnl.state ∧
    (withEvents s t).pnl.rows = s.pnl.rows ∧ (withEvents s t).pnl.row = s.pnl.row ∧
    (withEvents s t).pnl.compensating = s.pnl.compensating ∧ (withEvents s t).pnl.compensated = s.pnl.compensated ∧
    (withEvents s t).pnl.intent = s.pnl.intent ∧ (withEvents s t).pnl.fullRows = s.pnl.fullRows ∧
    (withEvents s t).pnl.band = s.pnl.band ∧ (withEvents s t).pnl.bandSeen = s.pnl.bandSeen ∧
    (withEvents s t).pnl.fullBand = s.pnl.fullBand ∧ (withEvents s t).pnl.fullPending = s.pnl.fullPending ∧
    (withEvents s t).pnl.suspended = s.pnl.suspended ∧ (withEvents s t).pnl.frozen = s.pnl.frozen ∧
    (withEvents s t).pnl.crack = s.pnl.crack ∧ (withEvents s t).pnl.temp = s.pnl.temp ∧
    (withEvents s t).pnl.lines = s.pnl.lines ∧ (withEvents s t).pnl.fulls = s.pnl.fulls ∧
    (withEvents s t).pnl.mismatches = s.pnl.mismatches ∧ (withEvents s t).pnl.balance = s.pnl.balance ∧
    (withEvents s t).pnl.first = s.pnl.first ∧ (withEvents s t).pnl.recovery = s.pnl.recovery := by
  refine ⟨rfl, rfl, rfl, rfl, rfl, rfl, rfl, rfl, rfl, rfl, rfl, rfl, rfl, rfl, rfl, rfl, rfl, rfl, rfl, rfl, rfl, rfl, rfl, rfl, rfl, rfl, rfl, rfl, rfl, rfl, rfl, rfl, rfl, rfl, rfl, rfl, rfl, rfl, rfl, rfl, rfl, rfl, rfl, rfl, rfl, rfl, rfl, rfl, rfl, rfl, rfl, rfl, rfl, rfl, rfl, rfl, rfl, rfl, rfl, rfl, rfl, rfl, rfl, rfl, rfl, rfl, rfl⟩

theorem Raised.eq {e : Nat} {s t : State} (h : Raised e s t) : t = withEvents s t := by
  unfold Raised at h
  split at h
  · rw [h]; rfl
  · exact h.1

theorem Cleared.eq {e : Nat} {s t : State} (h : Cleared e s t) : t = withEvents s t := by
  unfold Cleared at h
  split at h
  · exact h.1
  · rw [h]; rfl

theorem Raised.active {e : Nat} {s t : State} (h : Raised e s t) : eventActive e t = true := by
  unfold Raised at h
  split at h
  · rename_i h'; rw [h]; exact h'
  · exact h.2.1

theorem Cleared.inactive {e : Nat} {s t : State} (h : Cleared e s t) : eventActive e t = false := by
  unfold Cleared at h
  split at h
  · exact h.2.1
  · rename_i h'; rw [h]; simpa using h'

theorem Raised.others {e k : Nat} {s t : State} (h : Raised e s t) (hk : k ≠ e) : eventActive k t = eventActive k s := by
  unfold Raised at h
  split at h
  · rw [h]
  · exact (h.2.2.1 k hk).1

theorem Cleared.others {e k : Nat} {s t : State} (h : Cleared e s t) (hk : k ≠ e) : eventActive k t = eventActive k s := by
  unfold Cleared at h
  split at h
  · exact (h.2.2.1 k hk).1
  · rw [h]

/-- What is ACTIVE after a raise. -/
@[simp] theorem eventActive_raiseWith (k e w0 w1 : Nat) (v : Int) (s : State) :
    eventActive k (raiseWith e w0 w1 v s) = (k == e || eventActive k s) := by
  by_cases h : k = e
  · subst h; simp only [beq_self_eq_true, Bool.true_or, (raised_raiseWith k w0 w1 v s).active]
  · simp only [beq_eq_false_iff_ne.mpr h, Bool.false_or, (raised_raiseWith e w0 w1 v s).others h]

@[simp] theorem eventActive_raise (k e : Nat) (s : State) : eventActive k (raise e s) = (k == e || eventActive k s) :=
  eventActive_raiseWith k e _ _ _ s

@[simp] theorem eventActive_raiseAt (k e i : Nat) (s : State) : eventActive k (raiseAt e i s) = (k == e || eventActive k s) :=
  eventActive_raiseWith k e _ _ _ s

/-- What is ACTIVE after a clear. -/
@[simp] theorem eventActive_clearEvent (k e : Nat) (s : State) : eventActive k (clearEvent e s) = (k != e && eventActive k s) := by
  by_cases h : k = e
  · subst h; simp only [bne_self_eq_false, Bool.false_and, (cleared_clearEvent k s).inactive]
  · simp only [bne_iff_ne, ne_eq, h, not_false_eq_true, (cleared_clearEvent e s).others h, bne, beq_eq_false_iff_ne.mpr h, Bool.not_false,
      Bool.true_and]

/-- What is ACTIVE once an event follows its cause. -/
@[simp] theorem eventActive_condition (k e : Nat) (on : Bool) (s : State) :
    eventActive k (condition e on s) = if k = e then on else eventActive k s := by
  unfold condition
  cases on
  · by_cases h : k = e
    · subst h; simp
    · simp [h]
  · by_cases h : k = e
    · subst h; simp
    · simp [h]

@[simp] theorem raise_active (e : Nat) (s : State) : eventActive e (raise e s) = true := (raised_raise e s).active

/-- What raising leaves alone. -/
@[simp] theorem raiseWith_fields (e w0 w1 : Nat) (v : Int) (s : State) :
    (raiseWith e w0 w1 v s).um = s.um ∧ (raiseWith e w0 w1 v s).ex = s.ex ∧ (raiseWith e w0 w1 v s).cfg = s.cfg ∧
    (raiseWith e w0 w1 v s).fab = s.fab ∧ (raiseWith e w0 w1 v s).slow = s.slow ∧ (raiseWith e w0 w1 v s).saved = s.saved ∧
    (raiseWith e w0 w1 v s).gnA = s.gnA ∧ (raiseWith e w0 w1 v s).gnB = s.gnB ∧
    (raiseWith e w0 w1 v s).time = s.time ∧ (raiseWith e w0 w1 v s).siv = s.siv ∧ (raiseWith e w0 w1 v s).rng = s.rng ∧
    (raiseWith e w0 w1 v s).fld = s.fld ∧ (raiseWith e w0 w1 v s).pair = s.pair ∧ (raiseWith e w0 w1 v s).trv = s.trv ∧
    (raiseWith e w0 w1 v s).log = s.log ∧ (raiseWith e w0 w1 v s).dmp = s.dmp ∧ (raiseWith e w0 w1 v s).hap = s.hap ∧
    (raiseWith e w0 w1 v s).sup = s.sup ∧ (raiseWith e w0 w1 v s).ktl = s.ktl ∧ (raiseWith e w0 w1 v s).life = s.life ∧
    (raiseWith e w0 w1 v s).upd = s.upd ∧ (raiseWith e w0 w1 v s).out = s.out ∧ (raiseWith e w0 w1 v s).free = s.free ∧
    (raiseWith e w0 w1 v s).pending = s.pending ∧ (raiseWith e w0 w1 v s).mir.mode = s.mir.mode ∧
    (raiseWith e w0 w1 v s).mir.mrt = s.mir.mrt ∧ (raiseWith e w0 w1 v s).mir.ldl = s.mir.ldl ∧
    (raiseWith e w0 w1 v s).mir.est = s.mir.est ∧ (raiseWith e w0 w1 v s).mir.ba = s.mir.ba ∧
    (raiseWith e w0 w1 v s).mir.abm = s.mir.abm ∧ (raiseWith e w0 w1 v s).mir.alc = s.mir.alc ∧
    (raiseWith e w0 w1 v s).mir.mpc = s.mir.mpc ∧ (raiseWith e w0 w1 v s).mir.cqa = s.mir.cqa ∧
    (raiseWith e w0 w1 v s).mir.wsk = s.mir.wsk ∧ (raiseWith e w0 w1 v s).mir.gnA = s.mir.gnA ∧
    (raiseWith e w0 w1 v s).mir.gnB = s.mir.gnB ∧ (raiseWith e w0 w1 v s).mir.tim = s.mir.tim ∧
    (raiseWith e w0 w1 v s).mir.siv = s.mir.siv ∧ (raiseWith e w0 w1 v s).mir.fld = s.mir.fld ∧
    (raiseWith e w0 w1 v s).mir.pair = s.mir.pair ∧ (raiseWith e w0 w1 v s).mir.trv = s.mir.trv ∧
    (raiseWith e w0 w1 v s).mir.evt.masks = s.mir.evt.masks ∧ (raiseWith e w0 w1 v s).evt.written = s.evt.written ∧
    (raiseWith e w0 w1 v s).evt.mramBad = s.evt.mramBad ∧ (raiseWith e w0 w1 v s).pnl.frame = s.pnl.frame ∧
    (raiseWith e w0 w1 v s).pnl.crc = s.pnl.crc ∧ (raiseWith e w0 w1 v s).pnl.state = s.pnl.state ∧
    (raiseWith e w0 w1 v s).pnl.rows = s.pnl.rows ∧ (raiseWith e w0 w1 v s).pnl.row = s.pnl.row ∧
    (raiseWith e w0 w1 v s).pnl.compensating = s.pnl.compensating ∧
    (raiseWith e w0 w1 v s).pnl.compensated = s.pnl.compensated ∧ (raiseWith e w0 w1 v s).pnl.intent = s.pnl.intent ∧
    (raiseWith e w0 w1 v s).pnl.fullRows = s.pnl.fullRows ∧ (raiseWith e w0 w1 v s).pnl.band = s.pnl.band ∧
    (raiseWith e w0 w1 v s).pnl.bandSeen = s.pnl.bandSeen ∧ (raiseWith e w0 w1 v s).pnl.fullBand = s.pnl.fullBand ∧
    (raiseWith e w0 w1 v s).pnl.fullPending = s.pnl.fullPending ∧ (raiseWith e w0 w1 v s).pnl.suspended = s.pnl.suspended ∧
    (raiseWith e w0 w1 v s).pnl.frozen = s.pnl.frozen ∧ (raiseWith e w0 w1 v s).pnl.crack = s.pnl.crack ∧
    (raiseWith e w0 w1 v s).pnl.temp = s.pnl.temp ∧ (raiseWith e w0 w1 v s).pnl.lines = s.pnl.lines ∧
    (raiseWith e w0 w1 v s).pnl.fulls = s.pnl.fulls ∧ (raiseWith e w0 w1 v s).pnl.mismatches = s.pnl.mismatches ∧
    (raiseWith e w0 w1 v s).pnl.balance = s.pnl.balance ∧ (raiseWith e w0 w1 v s).pnl.first = s.pnl.first ∧
    (raiseWith e w0 w1 v s).pnl.recovery = s.pnl.recovery := by
  rw [(raised_raiseWith e w0 w1 v s).eq]
  exact withEvents_fields _ _

@[simp] theorem raise_fields (e : Nat) (s : State) :
    (raise e s).um = s.um ∧ (raise e s).ex = s.ex ∧ (raise e s).cfg = s.cfg ∧ (raise e s).fab = s.fab ∧ (raise e s).slow = s.slow ∧
    (raise e s).saved = s.saved ∧
    (raise e s).gnA = s.gnA ∧ (raise e s).gnB = s.gnB ∧ (raise e s).time = s.time ∧ (raise e s).siv = s.siv ∧
    (raise e s).rng = s.rng ∧ (raise e s).fld = s.fld ∧ (raise e s).pair = s.pair ∧ (raise e s).trv = s.trv ∧
    (raise e s).log = s.log ∧ (raise e s).dmp = s.dmp ∧ (raise e s).hap = s.hap ∧ (raise e s).sup = s.sup ∧
    (raise e s).ktl = s.ktl ∧ (raise e s).life = s.life ∧ (raise e s).upd = s.upd ∧ (raise e s).out = s.out ∧
    (raise e s).free = s.free ∧ (raise e s).pending = s.pending ∧ (raise e s).mir.mode = s.mir.mode ∧
    (raise e s).mir.mrt = s.mir.mrt ∧ (raise e s).mir.ldl = s.mir.ldl ∧ (raise e s).mir.est = s.mir.est ∧
    (raise e s).mir.ba = s.mir.ba ∧ (raise e s).mir.abm = s.mir.abm ∧ (raise e s).mir.alc = s.mir.alc ∧
    (raise e s).mir.mpc = s.mir.mpc ∧ (raise e s).mir.cqa = s.mir.cqa ∧ (raise e s).mir.wsk = s.mir.wsk ∧
    (raise e s).mir.gnA = s.mir.gnA ∧ (raise e s).mir.gnB = s.mir.gnB ∧ (raise e s).mir.tim = s.mir.tim ∧
    (raise e s).mir.siv = s.mir.siv ∧ (raise e s).mir.fld = s.mir.fld ∧ (raise e s).mir.pair = s.mir.pair ∧
    (raise e s).mir.trv = s.mir.trv ∧ (raise e s).mir.evt.masks = s.mir.evt.masks ∧
    (raise e s).evt.written = s.evt.written ∧ (raise e s).evt.mramBad = s.evt.mramBad ∧
    (raise e s).pnl.frame = s.pnl.frame ∧ (raise e s).pnl.crc = s.pnl.crc ∧ (raise e s).pnl.state = s.pnl.state ∧
    (raise e s).pnl.rows = s.pnl.rows ∧ (raise e s).pnl.row = s.pnl.row ∧
    (raise e s).pnl.compensating = s.pnl.compensating ∧ (raise e s).pnl.compensated = s.pnl.compensated ∧
    (raise e s).pnl.intent = s.pnl.intent ∧ (raise e s).pnl.fullRows = s.pnl.fullRows ∧ (raise e s).pnl.band = s.pnl.band ∧
    (raise e s).pnl.bandSeen = s.pnl.bandSeen ∧ (raise e s).pnl.fullBand = s.pnl.fullBand ∧
    (raise e s).pnl.fullPending = s.pnl.fullPending ∧ (raise e s).pnl.suspended = s.pnl.suspended ∧
    (raise e s).pnl.frozen = s.pnl.frozen ∧ (raise e s).pnl.crack = s.pnl.crack ∧ (raise e s).pnl.temp = s.pnl.temp ∧
    (raise e s).pnl.lines = s.pnl.lines ∧ (raise e s).pnl.fulls = s.pnl.fulls ∧
    (raise e s).pnl.mismatches = s.pnl.mismatches ∧ (raise e s).pnl.balance = s.pnl.balance ∧
    (raise e s).pnl.first = s.pnl.first ∧ (raise e s).pnl.recovery = s.pnl.recovery := by
  exact raiseWith_fields _ _ _ _ _

@[simp] theorem raiseAt_fields (e i : Nat) (s : State) :
    (raiseAt e i s).um = s.um ∧ (raiseAt e i s).ex = s.ex ∧ (raiseAt e i s).cfg = s.cfg ∧ (raiseAt e i s).fab = s.fab ∧
    (raiseAt e i s).slow = s.slow ∧ (raiseAt e i s).saved = s.saved ∧
    (raiseAt e i s).gnA = s.gnA ∧ (raiseAt e i s).gnB = s.gnB ∧ (raiseAt e i s).time = s.time ∧
    (raiseAt e i s).siv = s.siv ∧ (raiseAt e i s).rng = s.rng ∧ (raiseAt e i s).fld = s.fld ∧
    (raiseAt e i s).pair = s.pair ∧ (raiseAt e i s).trv = s.trv ∧ (raiseAt e i s).log = s.log ∧
    (raiseAt e i s).dmp = s.dmp ∧ (raiseAt e i s).hap = s.hap ∧ (raiseAt e i s).sup = s.sup ∧ (raiseAt e i s).ktl = s.ktl ∧
    (raiseAt e i s).life = s.life ∧ (raiseAt e i s).upd = s.upd ∧ (raiseAt e i s).out = s.out ∧
    (raiseAt e i s).free = s.free ∧ (raiseAt e i s).pending = s.pending ∧ (raiseAt e i s).mir.mode = s.mir.mode ∧
    (raiseAt e i s).mir.mrt = s.mir.mrt ∧ (raiseAt e i s).mir.ldl = s.mir.ldl ∧ (raiseAt e i s).mir.est = s.mir.est ∧
    (raiseAt e i s).mir.ba = s.mir.ba ∧ (raiseAt e i s).mir.abm = s.mir.abm ∧ (raiseAt e i s).mir.alc = s.mir.alc ∧
    (raiseAt e i s).mir.mpc = s.mir.mpc ∧ (raiseAt e i s).mir.cqa = s.mir.cqa ∧ (raiseAt e i s).mir.wsk = s.mir.wsk ∧
    (raiseAt e i s).mir.gnA = s.mir.gnA ∧ (raiseAt e i s).mir.gnB = s.mir.gnB ∧ (raiseAt e i s).mir.tim = s.mir.tim ∧
    (raiseAt e i s).mir.siv = s.mir.siv ∧ (raiseAt e i s).mir.fld = s.mir.fld ∧ (raiseAt e i s).mir.pair = s.mir.pair ∧
    (raiseAt e i s).mir.trv = s.mir.trv ∧ (raiseAt e i s).mir.evt.masks = s.mir.evt.masks ∧
    (raiseAt e i s).evt.written = s.evt.written ∧ (raiseAt e i s).evt.mramBad = s.evt.mramBad ∧
    (raiseAt e i s).pnl.frame = s.pnl.frame ∧ (raiseAt e i s).pnl.crc = s.pnl.crc ∧
    (raiseAt e i s).pnl.state = s.pnl.state ∧ (raiseAt e i s).pnl.rows = s.pnl.rows ∧ (raiseAt e i s).pnl.row = s.pnl.row ∧
    (raiseAt e i s).pnl.compensating = s.pnl.compensating ∧ (raiseAt e i s).pnl.compensated = s.pnl.compensated ∧
    (raiseAt e i s).pnl.intent = s.pnl.intent ∧ (raiseAt e i s).pnl.fullRows = s.pnl.fullRows ∧
    (raiseAt e i s).pnl.band = s.pnl.band ∧ (raiseAt e i s).pnl.bandSeen = s.pnl.bandSeen ∧
    (raiseAt e i s).pnl.fullBand = s.pnl.fullBand ∧ (raiseAt e i s).pnl.fullPending = s.pnl.fullPending ∧
    (raiseAt e i s).pnl.suspended = s.pnl.suspended ∧ (raiseAt e i s).pnl.frozen = s.pnl.frozen ∧
    (raiseAt e i s).pnl.crack = s.pnl.crack ∧ (raiseAt e i s).pnl.temp = s.pnl.temp ∧
    (raiseAt e i s).pnl.lines = s.pnl.lines ∧ (raiseAt e i s).pnl.fulls = s.pnl.fulls ∧
    (raiseAt e i s).pnl.mismatches = s.pnl.mismatches ∧ (raiseAt e i s).pnl.balance = s.pnl.balance ∧
    (raiseAt e i s).pnl.first = s.pnl.first ∧ (raiseAt e i s).pnl.recovery = s.pnl.recovery := by
  exact raiseWith_fields _ _ _ _ _

/-- What clearing leaves alone. -/
@[simp] theorem clearEvent_fields (e : Nat) (s : State) :
    (clearEvent e s).um = s.um ∧ (clearEvent e s).ex = s.ex ∧ (clearEvent e s).cfg = s.cfg ∧ (clearEvent e s).fab = s.fab ∧
    (clearEvent e s).slow = s.slow ∧ (clearEvent e s).saved = s.saved ∧
    (clearEvent e s).gnA = s.gnA ∧ (clearEvent e s).gnB = s.gnB ∧ (clearEvent e s).time = s.time ∧
    (clearEvent e s).siv = s.siv ∧ (clearEvent e s).rng = s.rng ∧ (clearEvent e s).fld = s.fld ∧
    (clearEvent e s).pair = s.pair ∧ (clearEvent e s).trv = s.trv ∧ (clearEvent e s).log = s.log ∧
    (clearEvent e s).dmp = s.dmp ∧ (clearEvent e s).hap = s.hap ∧ (clearEvent e s).sup = s.sup ∧
    (clearEvent e s).ktl = s.ktl ∧ (clearEvent e s).life = s.life ∧ (clearEvent e s).upd = s.upd ∧
    (clearEvent e s).out = s.out ∧ (clearEvent e s).free = s.free ∧ (clearEvent e s).pending = s.pending ∧
    (clearEvent e s).mir.mode = s.mir.mode ∧ (clearEvent e s).mir.mrt = s.mir.mrt ∧ (clearEvent e s).mir.ldl = s.mir.ldl ∧
    (clearEvent e s).mir.est = s.mir.est ∧ (clearEvent e s).mir.ba = s.mir.ba ∧ (clearEvent e s).mir.abm = s.mir.abm ∧
    (clearEvent e s).mir.alc = s.mir.alc ∧ (clearEvent e s).mir.mpc = s.mir.mpc ∧ (clearEvent e s).mir.cqa = s.mir.cqa ∧
    (clearEvent e s).mir.wsk = s.mir.wsk ∧ (clearEvent e s).mir.gnA = s.mir.gnA ∧ (clearEvent e s).mir.gnB = s.mir.gnB ∧
    (clearEvent e s).mir.tim = s.mir.tim ∧ (clearEvent e s).mir.siv = s.mir.siv ∧ (clearEvent e s).mir.fld = s.mir.fld ∧
    (clearEvent e s).mir.pair = s.mir.pair ∧ (clearEvent e s).mir.trv = s.mir.trv ∧
    (clearEvent e s).mir.evt.masks = s.mir.evt.masks ∧ (clearEvent e s).evt.written = s.evt.written ∧
    (clearEvent e s).evt.mramBad = s.evt.mramBad ∧ (clearEvent e s).pnl.frame = s.pnl.frame ∧
    (clearEvent e s).pnl.crc = s.pnl.crc ∧ (clearEvent e s).pnl.state = s.pnl.state ∧
    (clearEvent e s).pnl.rows = s.pnl.rows ∧ (clearEvent e s).pnl.row = s.pnl.row ∧
    (clearEvent e s).pnl.compensating = s.pnl.compensating ∧ (clearEvent e s).pnl.compensated = s.pnl.compensated ∧
    (clearEvent e s).pnl.intent = s.pnl.intent ∧ (clearEvent e s).pnl.fullRows = s.pnl.fullRows ∧
    (clearEvent e s).pnl.band = s.pnl.band ∧ (clearEvent e s).pnl.bandSeen = s.pnl.bandSeen ∧
    (clearEvent e s).pnl.fullBand = s.pnl.fullBand ∧ (clearEvent e s).pnl.fullPending = s.pnl.fullPending ∧
    (clearEvent e s).pnl.suspended = s.pnl.suspended ∧ (clearEvent e s).pnl.frozen = s.pnl.frozen ∧
    (clearEvent e s).pnl.crack = s.pnl.crack ∧ (clearEvent e s).pnl.temp = s.pnl.temp ∧
    (clearEvent e s).pnl.lines = s.pnl.lines ∧ (clearEvent e s).pnl.fulls = s.pnl.fulls ∧
    (clearEvent e s).pnl.mismatches = s.pnl.mismatches ∧ (clearEvent e s).pnl.balance = s.pnl.balance ∧
    (clearEvent e s).pnl.first = s.pnl.first ∧ (clearEvent e s).pnl.recovery = s.pnl.recovery := by
  rw [(cleared_clearEvent e s).eq]
  exact withEvents_fields _ _

@[simp] theorem condition_fields (e : Nat) (on : Bool) (s : State) :
    (condition e on s).um = s.um ∧ (condition e on s).ex = s.ex ∧ (condition e on s).cfg = s.cfg ∧
    (condition e on s).fab = s.fab ∧ (condition e on s).slow = s.slow ∧ (condition e on s).saved = s.saved ∧ (condition e on s).gnA = s.gnA ∧
    (condition e on s).gnB = s.gnB ∧
    (condition e on s).time = s.time ∧ (condition e on s).siv = s.siv ∧ (condition e on s).rng = s.rng ∧
    (condition e on s).fld = s.fld ∧ (condition e on s).pair = s.pair ∧ (condition e on s).trv = s.trv ∧
    (condition e on s).log = s.log ∧ (condition e on s).dmp = s.dmp ∧ (condition e on s).hap = s.hap ∧
    (condition e on s).sup = s.sup ∧ (condition e on s).ktl = s.ktl ∧ (condition e on s).life = s.life ∧
    (condition e on s).upd = s.upd ∧ (condition e on s).out = s.out ∧ (condition e on s).free = s.free ∧
    (condition e on s).pending = s.pending ∧ (condition e on s).mir.mode = s.mir.mode ∧
    (condition e on s).mir.mrt = s.mir.mrt ∧ (condition e on s).mir.ldl = s.mir.ldl ∧
    (condition e on s).mir.est = s.mir.est ∧ (condition e on s).mir.ba = s.mir.ba ∧ (condition e on s).mir.abm = s.mir.abm ∧
    (condition e on s).mir.alc = s.mir.alc ∧ (condition e on s).mir.mpc = s.mir.mpc ∧
    (condition e on s).mir.cqa = s.mir.cqa ∧ (condition e on s).mir.wsk = s.mir.wsk ∧
    (condition e on s).mir.gnA = s.mir.gnA ∧ (condition e on s).mir.gnB = s.mir.gnB ∧
    (condition e on s).mir.tim = s.mir.tim ∧ (condition e on s).mir.siv = s.mir.siv ∧
    (condition e on s).mir.fld = s.mir.fld ∧ (condition e on s).mir.pair = s.mir.pair ∧
    (condition e on s).mir.trv = s.mir.trv ∧ (condition e on s).mir.evt.masks = s.mir.evt.masks ∧
    (condition e on s).evt.written = s.evt.written ∧ (condition e on s).evt.mramBad = s.evt.mramBad ∧
    (condition e on s).pnl.frame = s.pnl.frame ∧ (condition e on s).pnl.crc = s.pnl.crc ∧
    (condition e on s).pnl.state = s.pnl.state ∧ (condition e on s).pnl.rows = s.pnl.rows ∧
    (condition e on s).pnl.row = s.pnl.row ∧ (condition e on s).pnl.compensating = s.pnl.compensating ∧
    (condition e on s).pnl.compensated = s.pnl.compensated ∧ (condition e on s).pnl.intent = s.pnl.intent ∧
    (condition e on s).pnl.fullRows = s.pnl.fullRows ∧ (condition e on s).pnl.band = s.pnl.band ∧
    (condition e on s).pnl.bandSeen = s.pnl.bandSeen ∧ (condition e on s).pnl.fullBand = s.pnl.fullBand ∧
    (condition e on s).pnl.fullPending = s.pnl.fullPending ∧ (condition e on s).pnl.suspended = s.pnl.suspended ∧
    (condition e on s).pnl.frozen = s.pnl.frozen ∧ (condition e on s).pnl.crack = s.pnl.crack ∧
    (condition e on s).pnl.temp = s.pnl.temp ∧ (condition e on s).pnl.lines = s.pnl.lines ∧
    (condition e on s).pnl.fulls = s.pnl.fulls ∧ (condition e on s).pnl.mismatches = s.pnl.mismatches ∧
    (condition e on s).pnl.balance = s.pnl.balance ∧ (condition e on s).pnl.first = s.pnl.first ∧
    (condition e on s).pnl.recovery = s.pnl.recovery := by
  cases on
  · exact clearEvent_fields _ _
  · exact raise_fields _ _

/-- What the relays leave alone. -/
@[simp] theorem updateRelays_fields  (s : State) :
    (updateRelays s).um = s.um ∧ (updateRelays s).ex = s.ex ∧ (updateRelays s).cfg = s.cfg ∧ (updateRelays s).fab = s.fab ∧
    (updateRelays s).slow = s.slow ∧ (updateRelays s).saved = s.saved ∧
    (updateRelays s).gnA = s.gnA ∧ (updateRelays s).gnB = s.gnB ∧ (updateRelays s).time = s.time ∧
    (updateRelays s).siv = s.siv ∧ (updateRelays s).rng = s.rng ∧ (updateRelays s).fld = s.fld ∧
    (updateRelays s).pair = s.pair ∧ (updateRelays s).trv = s.trv ∧ (updateRelays s).log = s.log ∧
    (updateRelays s).dmp = s.dmp ∧ (updateRelays s).hap = s.hap ∧ (updateRelays s).sup = s.sup ∧
    (updateRelays s).ktl = s.ktl ∧ (updateRelays s).life = s.life ∧ (updateRelays s).upd = s.upd ∧
    (updateRelays s).out = s.out ∧ (updateRelays s).free = s.free ∧ (updateRelays s).pending = s.pending ∧
    (updateRelays s).mir.mode = s.mir.mode ∧ (updateRelays s).mir.mrt = s.mir.mrt ∧ (updateRelays s).mir.ldl = s.mir.ldl ∧
    (updateRelays s).mir.est = s.mir.est ∧ (updateRelays s).mir.ba = s.mir.ba ∧ (updateRelays s).mir.abm = s.mir.abm ∧
    (updateRelays s).mir.alc = s.mir.alc ∧ (updateRelays s).mir.mpc = s.mir.mpc ∧ (updateRelays s).mir.cqa = s.mir.cqa ∧
    (updateRelays s).mir.wsk = s.mir.wsk ∧ (updateRelays s).mir.gnA = s.mir.gnA ∧ (updateRelays s).mir.gnB = s.mir.gnB ∧
    (updateRelays s).mir.tim = s.mir.tim ∧ (updateRelays s).mir.siv = s.mir.siv ∧ (updateRelays s).mir.fld = s.mir.fld ∧
    (updateRelays s).mir.pair = s.mir.pair ∧ (updateRelays s).mir.trv = s.mir.trv ∧
    (updateRelays s).mir.evt.masks = s.mir.evt.masks ∧ (updateRelays s).evt.written = s.evt.written ∧
    (updateRelays s).evt.mramBad = s.evt.mramBad ∧ (updateRelays s).pnl.frame = s.pnl.frame ∧
    (updateRelays s).pnl.crc = s.pnl.crc ∧ (updateRelays s).pnl.state = s.pnl.state ∧
    (updateRelays s).pnl.rows = s.pnl.rows ∧ (updateRelays s).pnl.row = s.pnl.row ∧
    (updateRelays s).pnl.compensating = s.pnl.compensating ∧ (updateRelays s).pnl.compensated = s.pnl.compensated ∧
    (updateRelays s).pnl.intent = s.pnl.intent ∧ (updateRelays s).pnl.fullRows = s.pnl.fullRows ∧
    (updateRelays s).pnl.band = s.pnl.band ∧ (updateRelays s).pnl.bandSeen = s.pnl.bandSeen ∧
    (updateRelays s).pnl.fullBand = s.pnl.fullBand ∧ (updateRelays s).pnl.fullPending = s.pnl.fullPending ∧
    (updateRelays s).pnl.suspended = s.pnl.suspended ∧ (updateRelays s).pnl.frozen = s.pnl.frozen ∧
    (updateRelays s).pnl.crack = s.pnl.crack ∧ (updateRelays s).pnl.temp = s.pnl.temp ∧
    (updateRelays s).pnl.lines = s.pnl.lines ∧ (updateRelays s).pnl.fulls = s.pnl.fulls ∧
    (updateRelays s).pnl.mismatches = s.pnl.mismatches ∧ (updateRelays s).pnl.balance = s.pnl.balance ∧
    (updateRelays s).pnl.first = s.pnl.first ∧ (updateRelays s).pnl.recovery = s.pnl.recovery := by
  obtain ⟨a, b, h⟩ := updateRelays_eq s
  rw [h]
  refine ⟨rfl, rfl, rfl, rfl, rfl, rfl, rfl, rfl, rfl, rfl, rfl, rfl, rfl, rfl, rfl, rfl, rfl, rfl, rfl, rfl, rfl, rfl, rfl, rfl, rfl, rfl, rfl, rfl, rfl, rfl, rfl, rfl, rfl, rfl, rfl, rfl, rfl, rfl, rfl, rfl, rfl, rfl, rfl, rfl, rfl, rfl, rfl, rfl, rfl, rfl, rfl, rfl, rfl, rfl, rfl, rfl, rfl, rfl, rfl, rfl, rfl, rfl, rfl, rfl, rfl, rfl, rfl⟩

/-- What setting the bits of a raise leaves alone. -/
@[simp] theorem setRaised_fields (e : Nat) (s : State) :
    (setRaised e s).um = s.um ∧ (setRaised e s).ex = s.ex ∧ (setRaised e s).cfg = s.cfg ∧ (setRaised e s).fab = s.fab ∧
    (setRaised e s).slow = s.slow ∧ (setRaised e s).saved = s.saved ∧
    (setRaised e s).gnA = s.gnA ∧ (setRaised e s).gnB = s.gnB ∧ (setRaised e s).time = s.time ∧ (setRaised e s).siv = s.siv ∧
    (setRaised e s).rng = s.rng ∧ (setRaised e s).fld = s.fld ∧ (setRaised e s).pair = s.pair ∧ (setRaised e s).trv = s.trv ∧
    (setRaised e s).log = s.log ∧ (setRaised e s).dmp = s.dmp ∧ (setRaised e s).hap = s.hap ∧ (setRaised e s).sup = s.sup ∧
    (setRaised e s).ktl = s.ktl ∧ (setRaised e s).life = s.life ∧ (setRaised e s).upd = s.upd ∧ (setRaised e s).out = s.out ∧
    (setRaised e s).free = s.free ∧ (setRaised e s).pending = s.pending ∧ (setRaised e s).mir.mode = s.mir.mode ∧
    (setRaised e s).mir.mrt = s.mir.mrt ∧ (setRaised e s).mir.ldl = s.mir.ldl ∧ (setRaised e s).mir.est = s.mir.est ∧
    (setRaised e s).mir.ba = s.mir.ba ∧ (setRaised e s).mir.abm = s.mir.abm ∧ (setRaised e s).mir.alc = s.mir.alc ∧
    (setRaised e s).mir.mpc = s.mir.mpc ∧ (setRaised e s).mir.cqa = s.mir.cqa ∧ (setRaised e s).mir.wsk = s.mir.wsk ∧
    (setRaised e s).mir.gnA = s.mir.gnA ∧ (setRaised e s).mir.gnB = s.mir.gnB ∧ (setRaised e s).mir.tim = s.mir.tim ∧
    (setRaised e s).mir.siv = s.mir.siv ∧ (setRaised e s).mir.fld = s.mir.fld ∧ (setRaised e s).mir.pair = s.mir.pair ∧
    (setRaised e s).mir.trv = s.mir.trv ∧ (setRaised e s).mir.evt.masks = s.mir.evt.masks ∧
    (setRaised e s).evt.written = s.evt.written ∧ (setRaised e s).evt.mramBad = s.evt.mramBad ∧
    (setRaised e s).pnl.frame = s.pnl.frame ∧ (setRaised e s).pnl.crc = s.pnl.crc ∧ (setRaised e s).pnl.state = s.pnl.state ∧
    (setRaised e s).pnl.rows = s.pnl.rows ∧ (setRaised e s).pnl.row = s.pnl.row ∧
    (setRaised e s).pnl.compensating = s.pnl.compensating ∧ (setRaised e s).pnl.compensated = s.pnl.compensated ∧
    (setRaised e s).pnl.intent = s.pnl.intent ∧ (setRaised e s).pnl.fullRows = s.pnl.fullRows ∧ (setRaised e s).pnl.band = s.pnl.band ∧
    (setRaised e s).pnl.bandSeen = s.pnl.bandSeen ∧ (setRaised e s).pnl.fullBand = s.pnl.fullBand ∧
    (setRaised e s).pnl.fullPending = s.pnl.fullPending ∧ (setRaised e s).pnl.suspended = s.pnl.suspended ∧
    (setRaised e s).pnl.frozen = s.pnl.frozen ∧ (setRaised e s).pnl.crack = s.pnl.crack ∧ (setRaised e s).pnl.temp = s.pnl.temp ∧
    (setRaised e s).pnl.lines = s.pnl.lines ∧ (setRaised e s).pnl.fulls = s.pnl.fulls ∧
    (setRaised e s).pnl.mismatches = s.pnl.mismatches ∧ (setRaised e s).pnl.balance = s.pnl.balance ∧
    (setRaised e s).pnl.first = s.pnl.first ∧ (setRaised e s).pnl.recovery = s.pnl.recovery := by
  unfold setRaised
  dsimp only
  split <;> split <;> simp

@[simp] theorem when_raise_fields (c : Bool) (e : Nat) (s : State) :
    (when c (raise e) s).um = s.um ∧ (when c (raise e) s).ex = s.ex ∧ (when c (raise e) s).cfg = s.cfg ∧ (when c (raise e) s).fab = s.fab ∧
    (when c (raise e) s).slow = s.slow ∧ (when c (raise e) s).saved = s.saved ∧
    (when c (raise e) s).gnA = s.gnA ∧ (when c (raise e) s).gnB = s.gnB ∧ (when c (raise e) s).time = s.time ∧ (when c (raise e) s).siv = s.siv ∧
    (when c (raise e) s).rng = s.rng ∧ (when c (raise e) s).fld = s.fld ∧ (when c (raise e) s).pair = s.pair ∧ (when c (raise e) s).trv = s.trv ∧
    (when c (raise e) s).log = s.log ∧ (when c (raise e) s).dmp = s.dmp ∧ (when c (raise e) s).hap = s.hap ∧ (when c (raise e) s).sup = s.sup ∧
    (when c (raise e) s).ktl = s.ktl ∧ (when c (raise e) s).life = s.life ∧ (when c (raise e) s).upd = s.upd ∧ (when c (raise e) s).out = s.out ∧
    (when c (raise e) s).free = s.free ∧ (when c (raise e) s).pending = s.pending ∧ (when c (raise e) s).mir.mode = s.mir.mode ∧
    (when c (raise e) s).mir.mrt = s.mir.mrt ∧ (when c (raise e) s).mir.ldl = s.mir.ldl ∧ (when c (raise e) s).mir.est = s.mir.est ∧
    (when c (raise e) s).mir.ba = s.mir.ba ∧ (when c (raise e) s).mir.abm = s.mir.abm ∧ (when c (raise e) s).mir.alc = s.mir.alc ∧
    (when c (raise e) s).mir.mpc = s.mir.mpc ∧ (when c (raise e) s).mir.cqa = s.mir.cqa ∧ (when c (raise e) s).mir.wsk = s.mir.wsk ∧
    (when c (raise e) s).mir.gnA = s.mir.gnA ∧ (when c (raise e) s).mir.gnB = s.mir.gnB ∧ (when c (raise e) s).mir.tim = s.mir.tim ∧
    (when c (raise e) s).mir.siv = s.mir.siv ∧ (when c (raise e) s).mir.fld = s.mir.fld ∧ (when c (raise e) s).mir.pair = s.mir.pair ∧
    (when c (raise e) s).mir.trv = s.mir.trv ∧ (when c (raise e) s).mir.evt.masks = s.mir.evt.masks ∧
    (when c (raise e) s).evt.written = s.evt.written ∧ (when c (raise e) s).evt.mramBad = s.evt.mramBad ∧
    (when c (raise e) s).pnl.frame = s.pnl.frame ∧ (when c (raise e) s).pnl.crc = s.pnl.crc ∧ (when c (raise e) s).pnl.state = s.pnl.state ∧
    (when c (raise e) s).pnl.rows = s.pnl.rows ∧ (when c (raise e) s).pnl.row = s.pnl.row ∧
    (when c (raise e) s).pnl.compensating = s.pnl.compensating ∧ (when c (raise e) s).pnl.compensated = s.pnl.compensated ∧
    (when c (raise e) s).pnl.intent = s.pnl.intent ∧ (when c (raise e) s).pnl.fullRows = s.pnl.fullRows ∧ (when c (raise e) s).pnl.band = s.pnl.band ∧
    (when c (raise e) s).pnl.bandSeen = s.pnl.bandSeen ∧ (when c (raise e) s).pnl.fullBand = s.pnl.fullBand ∧
    (when c (raise e) s).pnl.fullPending = s.pnl.fullPending ∧ (when c (raise e) s).pnl.suspended = s.pnl.suspended ∧
    (when c (raise e) s).pnl.frozen = s.pnl.frozen ∧ (when c (raise e) s).pnl.crack = s.pnl.crack ∧ (when c (raise e) s).pnl.temp = s.pnl.temp ∧
    (when c (raise e) s).pnl.lines = s.pnl.lines ∧ (when c (raise e) s).pnl.fulls = s.pnl.fulls ∧
    (when c (raise e) s).pnl.mismatches = s.pnl.mismatches ∧ (when c (raise e) s).pnl.balance = s.pnl.balance ∧
    (when c (raise e) s).pnl.first = s.pnl.first ∧ (when c (raise e) s).pnl.recovery = s.pnl.recovery := by
  cases c
  · exact withEvents_fields s s
  · exact raise_fields _ _

@[simp] theorem when_setRaised_fields (c : Bool) (e : Nat) (s : State) :
    (when c (setRaised e) s).um = s.um ∧ (when c (setRaised e) s).ex = s.ex ∧ (when c (setRaised e) s).cfg = s.cfg ∧
    (when c (setRaised e) s).fab = s.fab ∧ (when c (setRaised e) s).slow = s.slow ∧ (when c (setRaised e) s).saved = s.saved ∧
    (when c (setRaised e) s).gnA = s.gnA ∧ (when c (setRaised e) s).gnB = s.gnB ∧ (when c (setRaised e) s).time = s.time ∧
    (when c (setRaised e) s).siv = s.siv ∧
    (when c (setRaised e) s).rng = s.rng ∧ (when c (setRaised e) s).fld = s.fld ∧ (when c (setRaised e) s).pair = s.pair ∧
    (when c (setRaised e) s).trv = s.trv ∧
    (when c (setRaised e) s).log = s.log ∧ (when c (setRaised e) s).dmp = s.dmp ∧ (when c (setRaised e) s).hap = s.hap ∧
    (when c (setRaised e) s).sup = s.sup ∧
    (when c (setRaised e) s).ktl = s.ktl ∧ (when c (setRaised e) s).life = s.life ∧ (when c (setRaised e) s).upd = s.upd ∧
    (when c (setRaised e) s).out = s.out ∧
    (when c (setRaised e) s).free = s.free ∧ (when c (setRaised e) s).pending = s.pending ∧ (when c (setRaised e) s).mir.mode = s.mir.mode ∧
    (when c (setRaised e) s).mir.mrt = s.mir.mrt ∧ (when c (setRaised e) s).mir.ldl = s.mir.ldl ∧ (when c (setRaised e) s).mir.est = s.mir.est ∧
    (when c (setRaised e) s).mir.ba = s.mir.ba ∧ (when c (setRaised e) s).mir.abm = s.mir.abm ∧ (when c (setRaised e) s).mir.alc = s.mir.alc ∧
    (when c (setRaised e) s).mir.mpc = s.mir.mpc ∧ (when c (setRaised e) s).mir.cqa = s.mir.cqa ∧ (when c (setRaised e) s).mir.wsk = s.mir.wsk ∧
    (when c (setRaised e) s).mir.gnA = s.mir.gnA ∧ (when c (setRaised e) s).mir.gnB = s.mir.gnB ∧ (when c (setRaised e) s).mir.tim = s.mir.tim ∧
    (when c (setRaised e) s).mir.siv = s.mir.siv ∧ (when c (setRaised e) s).mir.fld = s.mir.fld ∧ (when c (setRaised e) s).mir.pair = s.mir.pair ∧
    (when c (setRaised e) s).mir.trv = s.mir.trv ∧ (when c (setRaised e) s).mir.evt.masks = s.mir.evt.masks ∧
    (when c (setRaised e) s).evt.written = s.evt.written ∧ (when c (setRaised e) s).evt.mramBad = s.evt.mramBad ∧
    (when c (setRaised e) s).pnl.frame = s.pnl.frame ∧ (when c (setRaised e) s).pnl.crc = s.pnl.crc ∧
    (when c (setRaised e) s).pnl.state = s.pnl.state ∧
    (when c (setRaised e) s).pnl.rows = s.pnl.rows ∧ (when c (setRaised e) s).pnl.row = s.pnl.row ∧
    (when c (setRaised e) s).pnl.compensating = s.pnl.compensating ∧ (when c (setRaised e) s).pnl.compensated = s.pnl.compensated ∧
    (when c (setRaised e) s).pnl.intent = s.pnl.intent ∧ (when c (setRaised e) s).pnl.fullRows = s.pnl.fullRows ∧
    (when c (setRaised e) s).pnl.band = s.pnl.band ∧
    (when c (setRaised e) s).pnl.bandSeen = s.pnl.bandSeen ∧ (when c (setRaised e) s).pnl.fullBand = s.pnl.fullBand ∧
    (when c (setRaised e) s).pnl.fullPending = s.pnl.fullPending ∧ (when c (setRaised e) s).pnl.suspended = s.pnl.suspended ∧
    (when c (setRaised e) s).pnl.frozen = s.pnl.frozen ∧ (when c (setRaised e) s).pnl.crack = s.pnl.crack ∧
    (when c (setRaised e) s).pnl.temp = s.pnl.temp ∧
    (when c (setRaised e) s).pnl.lines = s.pnl.lines ∧ (when c (setRaised e) s).pnl.fulls = s.pnl.fulls ∧
    (when c (setRaised e) s).pnl.mismatches = s.pnl.mismatches ∧ (when c (setRaised e) s).pnl.balance = s.pnl.balance ∧
    (when c (setRaised e) s).pnl.first = s.pnl.first ∧ (when c (setRaised e) s).pnl.recovery = s.pnl.recovery := by
  cases c
  · exact withEvents_fields s s
  · exact setRaised_fields _ _

/-- What the events of a start leave alone. -/
@[simp] theorem startEvents_fields (cause : ResetCause) (lost : Bool) (s : State) :
    (startEvents cause lost s).um = s.um ∧ (startEvents cause lost s).ex = s.ex ∧ (startEvents cause lost s).cfg = s.cfg ∧
    (startEvents cause lost s).fab = s.fab ∧ (startEvents cause lost s).slow = s.slow ∧ (startEvents cause lost s).saved = s.saved ∧
    (startEvents cause lost s).gnA = s.gnA ∧ (startEvents cause lost s).gnB = s.gnB ∧ (startEvents cause lost s).time = s.time ∧
    (startEvents cause lost s).siv = s.siv ∧
    (startEvents cause lost s).rng = s.rng ∧ (startEvents cause lost s).fld = s.fld ∧ (startEvents cause lost s).pair = s.pair ∧
    (startEvents cause lost s).trv = s.trv ∧
    (startEvents cause lost s).log = s.log ∧ (startEvents cause lost s).dmp = s.dmp ∧ (startEvents cause lost s).hap = s.hap ∧
    (startEvents cause lost s).sup = s.sup ∧
    (startEvents cause lost s).ktl = s.ktl ∧ (startEvents cause lost s).life = s.life ∧ (startEvents cause lost s).upd = s.upd ∧
    (startEvents cause lost s).out = s.out ∧
    (startEvents cause lost s).free = s.free ∧ (startEvents cause lost s).pending = s.pending ∧ (startEvents cause lost s).mir.mode = s.mir.mode ∧
    (startEvents cause lost s).mir.mrt = s.mir.mrt ∧ (startEvents cause lost s).mir.ldl = s.mir.ldl ∧ (startEvents cause lost s).mir.est = s.mir.est ∧
    (startEvents cause lost s).mir.ba = s.mir.ba ∧ (startEvents cause lost s).mir.abm = s.mir.abm ∧ (startEvents cause lost s).mir.alc = s.mir.alc ∧
    (startEvents cause lost s).mir.mpc = s.mir.mpc ∧ (startEvents cause lost s).mir.cqa = s.mir.cqa ∧ (startEvents cause lost s).mir.wsk = s.mir.wsk ∧
    (startEvents cause lost s).mir.gnA = s.mir.gnA ∧ (startEvents cause lost s).mir.gnB = s.mir.gnB ∧ (startEvents cause lost s).mir.tim = s.mir.tim ∧
    (startEvents cause lost s).mir.siv = s.mir.siv ∧ (startEvents cause lost s).mir.fld = s.mir.fld ∧
    (startEvents cause lost s).mir.pair = s.mir.pair ∧
    (startEvents cause lost s).mir.trv = s.mir.trv ∧ (startEvents cause lost s).mir.evt.masks = s.mir.evt.masks ∧
    (startEvents cause lost s).evt.written = s.evt.written ∧ (startEvents cause lost s).evt.mramBad = s.evt.mramBad ∧
    (startEvents cause lost s).pnl.frame = s.pnl.frame ∧ (startEvents cause lost s).pnl.crc = s.pnl.crc ∧
    (startEvents cause lost s).pnl.state = s.pnl.state ∧
    (startEvents cause lost s).pnl.rows = s.pnl.rows ∧ (startEvents cause lost s).pnl.row = s.pnl.row ∧
    (startEvents cause lost s).pnl.compensating = s.pnl.compensating ∧ (startEvents cause lost s).pnl.compensated = s.pnl.compensated ∧
    (startEvents cause lost s).pnl.intent = s.pnl.intent ∧ (startEvents cause lost s).pnl.fullRows = s.pnl.fullRows ∧
    (startEvents cause lost s).pnl.band = s.pnl.band ∧
    (startEvents cause lost s).pnl.bandSeen = s.pnl.bandSeen ∧ (startEvents cause lost s).pnl.fullBand = s.pnl.fullBand ∧
    (startEvents cause lost s).pnl.fullPending = s.pnl.fullPending ∧ (startEvents cause lost s).pnl.suspended = s.pnl.suspended ∧
    (startEvents cause lost s).pnl.frozen = s.pnl.frozen ∧ (startEvents cause lost s).pnl.crack = s.pnl.crack ∧
    (startEvents cause lost s).pnl.temp = s.pnl.temp ∧
    (startEvents cause lost s).pnl.lines = s.pnl.lines ∧ (startEvents cause lost s).pnl.fulls = s.pnl.fulls ∧
    (startEvents cause lost s).pnl.mismatches = s.pnl.mismatches ∧ (startEvents cause lost s).pnl.balance = s.pnl.balance ∧
    (startEvents cause lost s).pnl.first = s.pnl.first ∧ (startEvents cause lost s).pnl.recovery = s.pnl.recovery := by
  simp [startEvents]

end Sys2Proof.Machine
end

