-- ==== Sys2Proof/Laws/State.lean ====
section
/-! SUPPORT. What each update of one block of State leaves in every field: true by definition. -/

namespace Sys2Proof.Machine

/-! ## modBa -/

@[simp] theorem modBa_um (f : Bundle → Bundle) (s : State) : (modBa f s).um = s.um := rfl
@[simp] theorem modBa_ex (f : Bundle → Bundle) (s : State) : (modBa f s).ex = s.ex := rfl
@[simp] theorem modBa_cfg (f : Bundle → Bundle) (s : State) : (modBa f s).cfg = s.cfg := rfl
@[simp] theorem modBa_fab (f : Bundle → Bundle) (s : State) : (modBa f s).fab = s.fab := rfl
@[simp] theorem modBa_gnA (f : Bundle → Bundle) (s : State) : (modBa f s).gnA = s.gnA := rfl
@[simp] theorem modBa_gnB (f : Bundle → Bundle) (s : State) : (modBa f s).gnB = s.gnB := rfl
@[simp] theorem modBa_time (f : Bundle → Bundle) (s : State) : (modBa f s).time = s.time := rfl
@[simp] theorem modBa_siv (f : Bundle → Bundle) (s : State) : (modBa f s).siv = s.siv := rfl
@[simp] theorem modBa_rng (f : Bundle → Bundle) (s : State) : (modBa f s).rng = s.rng := rfl
@[simp] theorem modBa_fld (f : Bundle → Bundle) (s : State) : (modBa f s).fld = s.fld := rfl
@[simp] theorem modBa_pair (f : Bundle → Bundle) (s : State) : (modBa f s).pair = s.pair := rfl
@[simp] theorem modBa_trv (f : Bundle → Bundle) (s : State) : (modBa f s).trv = s.trv := rfl
@[simp] theorem modBa_evt (f : Bundle → Bundle) (s : State) : (modBa f s).evt = s.evt := rfl
@[simp] theorem modBa_log (f : Bundle → Bundle) (s : State) : (modBa f s).log = s.log := rfl
@[simp] theorem modBa_dmp (f : Bundle → Bundle) (s : State) : (modBa f s).dmp = s.dmp := rfl
@[simp] theorem modBa_hap (f : Bundle → Bundle) (s : State) : (modBa f s).hap = s.hap := rfl
@[simp] theorem modBa_sup (f : Bundle → Bundle) (s : State) : (modBa f s).sup = s.sup := rfl
@[simp] theorem modBa_pnl (f : Bundle → Bundle) (s : State) : (modBa f s).pnl = s.pnl := rfl
@[simp] theorem modBa_ktl (f : Bundle → Bundle) (s : State) : (modBa f s).ktl = s.ktl := rfl
@[simp] theorem modBa_life (f : Bundle → Bundle) (s : State) : (modBa f s).life = s.life := rfl
@[simp] theorem modBa_upd (f : Bundle → Bundle) (s : State) : (modBa f s).upd = s.upd := rfl
@[simp] theorem modBa_mir_mode (f : Bundle → Bundle) (s : State) : (modBa f s).mir.mode = s.mir.mode := rfl
@[simp] theorem modBa_mir_mrt (f : Bundle → Bundle) (s : State) : (modBa f s).mir.mrt = s.mir.mrt := rfl
@[simp] theorem modBa_mir_ldl (f : Bundle → Bundle) (s : State) : (modBa f s).mir.ldl = s.mir.ldl := rfl
@[simp] theorem modBa_mir_est (f : Bundle → Bundle) (s : State) : (modBa f s).mir.est = s.mir.est := rfl
@[simp] theorem modBa_mir_ba (f : Bundle → Bundle) (s : State) : (modBa f s).mir.ba = f s.mir.ba := rfl
@[simp] theorem modBa_mir_abm (f : Bundle → Bundle) (s : State) : (modBa f s).mir.abm = s.mir.abm := rfl
@[simp] theorem modBa_mir_alc (f : Bundle → Bundle) (s : State) : (modBa f s).mir.alc = s.mir.alc := rfl
@[simp] theorem modBa_mir_mpc (f : Bundle → Bundle) (s : State) : (modBa f s).mir.mpc = s.mir.mpc := rfl
@[simp] theorem modBa_mir_cqa (f : Bundle → Bundle) (s : State) : (modBa f s).mir.cqa = s.mir.cqa := rfl
@[simp] theorem modBa_mir_wsk (f : Bundle → Bundle) (s : State) : (modBa f s).mir.wsk = s.mir.wsk := rfl
@[simp] theorem modBa_mir_gnA (f : Bundle → Bundle) (s : State) : (modBa f s).mir.gnA = s.mir.gnA := rfl
@[simp] theorem modBa_mir_gnB (f : Bundle → Bundle) (s : State) : (modBa f s).mir.gnB = s.mir.gnB := rfl
@[simp] theorem modBa_mir_tim (f : Bundle → Bundle) (s : State) : (modBa f s).mir.tim = s.mir.tim := rfl
@[simp] theorem modBa_mir_siv (f : Bundle → Bundle) (s : State) : (modBa f s).mir.siv = s.mir.siv := rfl
@[simp] theorem modBa_mir_fld (f : Bundle → Bundle) (s : State) : (modBa f s).mir.fld = s.mir.fld := rfl
@[simp] theorem modBa_mir_pair (f : Bundle → Bundle) (s : State) : (modBa f s).mir.pair = s.mir.pair := rfl
@[simp] theorem modBa_mir_trv (f : Bundle → Bundle) (s : State) : (modBa f s).mir.trv = s.mir.trv := rfl
@[simp] theorem modBa_mir_evt (f : Bundle → Bundle) (s : State) : (modBa f s).mir.evt = s.mir.evt := rfl
@[simp] theorem modBa_out (f : Bundle → Bundle) (s : State) : (modBa f s).out = s.out := rfl
@[simp] theorem modBa_saved (f : Bundle → Bundle) (s : State) : (modBa f s).saved = s.saved := rfl
@[simp] theorem modBa_free (f : Bundle → Bundle) (s : State) : (modBa f s).free = s.free := rfl
@[simp] theorem modBa_pending (f : Bundle → Bundle) (s : State) : (modBa f s).pending = s.pending := rfl

/-! ## modWsk -/

@[simp] theorem modWsk_um (f : Whisk → Whisk) (s : State) : (modWsk f s).um = s.um := rfl
@[simp] theorem modWsk_ex (f : Whisk → Whisk) (s : State) : (modWsk f s).ex = s.ex := rfl
@[simp] theorem modWsk_cfg (f : Whisk → Whisk) (s : State) : (modWsk f s).cfg = s.cfg := rfl
@[simp] theorem modWsk_fab (f : Whisk → Whisk) (s : State) : (modWsk f s).fab = s.fab := rfl
@[simp] theorem modWsk_gnA (f : Whisk → Whisk) (s : State) : (modWsk f s).gnA = s.gnA := rfl
@[simp] theorem modWsk_gnB (f : Whisk → Whisk) (s : State) : (modWsk f s).gnB = s.gnB := rfl
@[simp] theorem modWsk_time (f : Whisk → Whisk) (s : State) : (modWsk f s).time = s.time := rfl
@[simp] theorem modWsk_siv (f : Whisk → Whisk) (s : State) : (modWsk f s).siv = s.siv := rfl
@[simp] theorem modWsk_rng (f : Whisk → Whisk) (s : State) : (modWsk f s).rng = s.rng := rfl
@[simp] theorem modWsk_fld (f : Whisk → Whisk) (s : State) : (modWsk f s).fld = s.fld := rfl
@[simp] theorem modWsk_pair (f : Whisk → Whisk) (s : State) : (modWsk f s).pair = s.pair := rfl
@[simp] theorem modWsk_trv (f : Whisk → Whisk) (s : State) : (modWsk f s).trv = s.trv := rfl
@[simp] theorem modWsk_evt (f : Whisk → Whisk) (s : State) : (modWsk f s).evt = s.evt := rfl
@[simp] theorem modWsk_log (f : Whisk → Whisk) (s : State) : (modWsk f s).log = s.log := rfl
@[simp] theorem modWsk_dmp (f : Whisk → Whisk) (s : State) : (modWsk f s).dmp = s.dmp := rfl
@[simp] theorem modWsk_hap (f : Whisk → Whisk) (s : State) : (modWsk f s).hap = s.hap := rfl
@[simp] theorem modWsk_sup (f : Whisk → Whisk) (s : State) : (modWsk f s).sup = s.sup := rfl
@[simp] theorem modWsk_pnl (f : Whisk → Whisk) (s : State) : (modWsk f s).pnl = s.pnl := rfl
@[simp] theorem modWsk_ktl (f : Whisk → Whisk) (s : State) : (modWsk f s).ktl = s.ktl := rfl
@[simp] theorem modWsk_life (f : Whisk → Whisk) (s : State) : (modWsk f s).life = s.life := rfl
@[simp] theorem modWsk_upd (f : Whisk → Whisk) (s : State) : (modWsk f s).upd = s.upd := rfl
@[simp] theorem modWsk_mir_mode (f : Whisk → Whisk) (s : State) : (modWsk f s).mir.mode = s.mir.mode := rfl
@[simp] theorem modWsk_mir_mrt (f : Whisk → Whisk) (s : State) : (modWsk f s).mir.mrt = s.mir.mrt := rfl
@[simp] theorem modWsk_mir_ldl (f : Whisk → Whisk) (s : State) : (modWsk f s).mir.ldl = s.mir.ldl := rfl
@[simp] theorem modWsk_mir_est (f : Whisk → Whisk) (s : State) : (modWsk f s).mir.est = s.mir.est := rfl
@[simp] theorem modWsk_mir_ba (f : Whisk → Whisk) (s : State) : (modWsk f s).mir.ba = s.mir.ba := rfl
@[simp] theorem modWsk_mir_abm (f : Whisk → Whisk) (s : State) : (modWsk f s).mir.abm = s.mir.abm := rfl
@[simp] theorem modWsk_mir_alc (f : Whisk → Whisk) (s : State) : (modWsk f s).mir.alc = s.mir.alc := rfl
@[simp] theorem modWsk_mir_mpc (f : Whisk → Whisk) (s : State) : (modWsk f s).mir.mpc = s.mir.mpc := rfl
@[simp] theorem modWsk_mir_cqa (f : Whisk → Whisk) (s : State) : (modWsk f s).mir.cqa = s.mir.cqa := rfl
@[simp] theorem modWsk_mir_wsk (f : Whisk → Whisk) (s : State) : (modWsk f s).mir.wsk = f s.mir.wsk := rfl
@[simp] theorem modWsk_mir_gnA (f : Whisk → Whisk) (s : State) : (modWsk f s).mir.gnA = s.mir.gnA := rfl
@[simp] theorem modWsk_mir_gnB (f : Whisk → Whisk) (s : State) : (modWsk f s).mir.gnB = s.mir.gnB := rfl
@[simp] theorem modWsk_mir_tim (f : Whisk → Whisk) (s : State) : (modWsk f s).mir.tim = s.mir.tim := rfl
@[simp] theorem modWsk_mir_siv (f : Whisk → Whisk) (s : State) : (modWsk f s).mir.siv = s.mir.siv := rfl
@[simp] theorem modWsk_mir_fld (f : Whisk → Whisk) (s : State) : (modWsk f s).mir.fld = s.mir.fld := rfl
@[simp] theorem modWsk_mir_pair (f : Whisk → Whisk) (s : State) : (modWsk f s).mir.pair = s.mir.pair := rfl
@[simp] theorem modWsk_mir_trv (f : Whisk → Whisk) (s : State) : (modWsk f s).mir.trv = s.mir.trv := rfl
@[simp] theorem modWsk_mir_evt (f : Whisk → Whisk) (s : State) : (modWsk f s).mir.evt = s.mir.evt := rfl
@[simp] theorem modWsk_out (f : Whisk → Whisk) (s : State) : (modWsk f s).out = s.out := rfl
@[simp] theorem modWsk_saved (f : Whisk → Whisk) (s : State) : (modWsk f s).saved = s.saved := rfl
@[simp] theorem modWsk_free (f : Whisk → Whisk) (s : State) : (modWsk f s).free = s.free := rfl
@[simp] theorem modWsk_pending (f : Whisk → Whisk) (s : State) : (modWsk f s).pending = s.pending := rfl

/-! ## modEst -/

@[simp] theorem modEst_um (f : Estimator → Estimator) (s : State) : (modEst f s).um = s.um := rfl
@[simp] theorem modEst_ex (f : Estimator → Estimator) (s : State) : (modEst f s).ex = s.ex := rfl
@[simp] theorem modEst_cfg (f : Estimator → Estimator) (s : State) : (modEst f s).cfg = s.cfg := rfl
@[simp] theorem modEst_fab (f : Estimator → Estimator) (s : State) : (modEst f s).fab = s.fab := rfl
@[simp] theorem modEst_gnA (f : Estimator → Estimator) (s : State) : (modEst f s).gnA = s.gnA := rfl
@[simp] theorem modEst_gnB (f : Estimator → Estimator) (s : State) : (modEst f s).gnB = s.gnB := rfl
@[simp] theorem modEst_time (f : Estimator → Estimator) (s : State) : (modEst f s).time = s.time := rfl
@[simp] theorem modEst_siv (f : Estimator → Estimator) (s : State) : (modEst f s).siv = s.siv := rfl
@[simp] theorem modEst_rng (f : Estimator → Estimator) (s : State) : (modEst f s).rng = s.rng := rfl
@[simp] theorem modEst_fld (f : Estimator → Estimator) (s : State) : (modEst f s).fld = s.fld := rfl
@[simp] theorem modEst_pair (f : Estimator → Estimator) (s : State) : (modEst f s).pair = s.pair := rfl
@[simp] theorem modEst_trv (f : Estimator → Estimator) (s : State) : (modEst f s).trv = s.trv := rfl
@[simp] theorem modEst_evt (f : Estimator → Estimator) (s : State) : (modEst f s).evt = s.evt := rfl
@[simp] theorem modEst_log (f : Estimator → Estimator) (s : State) : (modEst f s).log = s.log := rfl
@[simp] theorem modEst_dmp (f : Estimator → Estimator) (s : State) : (modEst f s).dmp = s.dmp := rfl
@[simp] theorem modEst_hap (f : Estimator → Estimator) (s : State) : (modEst f s).hap = s.hap := rfl
@[simp] theorem modEst_sup (f : Estimator → Estimator) (s : State) : (modEst f s).sup = s.sup := rfl
@[simp] theorem modEst_pnl (f : Estimator → Estimator) (s : State) : (modEst f s).pnl = s.pnl := rfl
@[simp] theorem modEst_ktl (f : Estimator → Estimator) (s : State) : (modEst f s).ktl = s.ktl := rfl
@[simp] theorem modEst_life (f : Estimator → Estimator) (s : State) : (modEst f s).life = s.life := rfl
@[simp] theorem modEst_upd (f : Estimator → Estimator) (s : State) : (modEst f s).upd = s.upd := rfl
@[simp] theorem modEst_mir_mode (f : Estimator → Estimator) (s : State) : (modEst f s).mir.mode = s.mir.mode := rfl
@[simp] theorem modEst_mir_mrt (f : Estimator → Estimator) (s : State) : (modEst f s).mir.mrt = s.mir.mrt := rfl
@[simp] theorem modEst_mir_ldl (f : Estimator → Estimator) (s : State) : (modEst f s).mir.ldl = s.mir.ldl := rfl
@[simp] theorem modEst_mir_est (f : Estimator → Estimator) (s : State) : (modEst f s).mir.est = f s.mir.est := rfl
@[simp] theorem modEst_mir_ba (f : Estimator → Estimator) (s : State) : (modEst f s).mir.ba = s.mir.ba := rfl
@[simp] theorem modEst_mir_abm (f : Estimator → Estimator) (s : State) : (modEst f s).mir.abm = s.mir.abm := rfl
@[simp] theorem modEst_mir_alc (f : Estimator → Estimator) (s : State) : (modEst f s).mir.alc = s.mir.alc := rfl
@[simp] theorem modEst_mir_mpc (f : Estimator → Estimator) (s : State) : (modEst f s).mir.mpc = s.mir.mpc := rfl
@[simp] theorem modEst_mir_cqa (f : Estimator → Estimator) (s : State) : (modEst f s).mir.cqa = s.mir.cqa := rfl
@[simp] theorem modEst_mir_wsk (f : Estimator → Estimator) (s : State) : (modEst f s).mir.wsk = s.mir.wsk := rfl
@[simp] theorem modEst_mir_gnA (f : Estimator → Estimator) (s : State) : (modEst f s).mir.gnA = s.mir.gnA := rfl
@[simp] theorem modEst_mir_gnB (f : Estimator → Estimator) (s : State) : (modEst f s).mir.gnB = s.mir.gnB := rfl
@[simp] theorem modEst_mir_tim (f : Estimator → Estimator) (s : State) : (modEst f s).mir.tim = s.mir.tim := rfl
@[simp] theorem modEst_mir_siv (f : Estimator → Estimator) (s : State) : (modEst f s).mir.siv = s.mir.siv := rfl
@[simp] theorem modEst_mir_fld (f : Estimator → Estimator) (s : State) : (modEst f s).mir.fld = s.mir.fld := rfl
@[simp] theorem modEst_mir_pair (f : Estimator → Estimator) (s : State) : (modEst f s).mir.pair = s.mir.pair := rfl
@[simp] theorem modEst_mir_trv (f : Estimator → Estimator) (s : State) : (modEst f s).mir.trv = s.mir.trv := rfl
@[simp] theorem modEst_mir_evt (f : Estimator → Estimator) (s : State) : (modEst f s).mir.evt = s.mir.evt := rfl
@[simp] theorem modEst_out (f : Estimator → Estimator) (s : State) : (modEst f s).out = s.out := rfl
@[simp] theorem modEst_saved (f : Estimator → Estimator) (s : State) : (modEst f s).saved = s.saved := rfl
@[simp] theorem modEst_free (f : Estimator → Estimator) (s : State) : (modEst f s).free = s.free := rfl
@[simp] theorem modEst_pending (f : Estimator → Estimator) (s : State) : (modEst f s).pending = s.pending := rfl

/-! ## modLdl -/

@[simp] theorem modLdl_um (f : Ladle → Ladle) (s : State) : (modLdl f s).um = s.um := rfl
@[simp] theorem modLdl_ex (f : Ladle → Ladle) (s : State) : (modLdl f s).ex = s.ex := rfl
@[simp] theorem modLdl_cfg (f : Ladle → Ladle) (s : State) : (modLdl f s).cfg = s.cfg := rfl
@[simp] theorem modLdl_fab (f : Ladle → Ladle) (s : State) : (modLdl f s).fab = s.fab := rfl
@[simp] theorem modLdl_gnA (f : Ladle → Ladle) (s : State) : (modLdl f s).gnA = s.gnA := rfl
@[simp] theorem modLdl_gnB (f : Ladle → Ladle) (s : State) : (modLdl f s).gnB = s.gnB := rfl
@[simp] theorem modLdl_time (f : Ladle → Ladle) (s : State) : (modLdl f s).time = s.time := rfl
@[simp] theorem modLdl_siv (f : Ladle → Ladle) (s : State) : (modLdl f s).siv = s.siv := rfl
@[simp] theorem modLdl_rng (f : Ladle → Ladle) (s : State) : (modLdl f s).rng = s.rng := rfl
@[simp] theorem modLdl_fld (f : Ladle → Ladle) (s : State) : (modLdl f s).fld = s.fld := rfl
@[simp] theorem modLdl_pair (f : Ladle → Ladle) (s : State) : (modLdl f s).pair = s.pair := rfl
@[simp] theorem modLdl_trv (f : Ladle → Ladle) (s : State) : (modLdl f s).trv = s.trv := rfl
@[simp] theorem modLdl_evt (f : Ladle → Ladle) (s : State) : (modLdl f s).evt = s.evt := rfl
@[simp] theorem modLdl_log (f : Ladle → Ladle) (s : State) : (modLdl f s).log = s.log := rfl
@[simp] theorem modLdl_dmp (f : Ladle → Ladle) (s : State) : (modLdl f s).dmp = s.dmp := rfl
@[simp] theorem modLdl_hap (f : Ladle → Ladle) (s : State) : (modLdl f s).hap = s.hap := rfl
@[simp] theorem modLdl_sup (f : Ladle → Ladle) (s : State) : (modLdl f s).sup = s.sup := rfl
@[simp] theorem modLdl_pnl (f : Ladle → Ladle) (s : State) : (modLdl f s).pnl = s.pnl := rfl
@[simp] theorem modLdl_ktl (f : Ladle → Ladle) (s : State) : (modLdl f s).ktl = s.ktl := rfl
@[simp] theorem modLdl_life (f : Ladle → Ladle) (s : State) : (modLdl f s).life = s.life := rfl
@[simp] theorem modLdl_upd (f : Ladle → Ladle) (s : State) : (modLdl f s).upd = s.upd := rfl
@[simp] theorem modLdl_mir_mode (f : Ladle → Ladle) (s : State) : (modLdl f s).mir.mode = s.mir.mode := rfl
@[simp] theorem modLdl_mir_mrt (f : Ladle → Ladle) (s : State) : (modLdl f s).mir.mrt = s.mir.mrt := rfl
@[simp] theorem modLdl_mir_ldl (f : Ladle → Ladle) (s : State) : (modLdl f s).mir.ldl = f s.mir.ldl := rfl
@[simp] theorem modLdl_mir_est (f : Ladle → Ladle) (s : State) : (modLdl f s).mir.est = s.mir.est := rfl
@[simp] theorem modLdl_mir_ba (f : Ladle → Ladle) (s : State) : (modLdl f s).mir.ba = s.mir.ba := rfl
@[simp] theorem modLdl_mir_abm (f : Ladle → Ladle) (s : State) : (modLdl f s).mir.abm = s.mir.abm := rfl
@[simp] theorem modLdl_mir_alc (f : Ladle → Ladle) (s : State) : (modLdl f s).mir.alc = s.mir.alc := rfl
@[simp] theorem modLdl_mir_mpc (f : Ladle → Ladle) (s : State) : (modLdl f s).mir.mpc = s.mir.mpc := rfl
@[simp] theorem modLdl_mir_cqa (f : Ladle → Ladle) (s : State) : (modLdl f s).mir.cqa = s.mir.cqa := rfl
@[simp] theorem modLdl_mir_wsk (f : Ladle → Ladle) (s : State) : (modLdl f s).mir.wsk = s.mir.wsk := rfl
@[simp] theorem modLdl_mir_gnA (f : Ladle → Ladle) (s : State) : (modLdl f s).mir.gnA = s.mir.gnA := rfl
@[simp] theorem modLdl_mir_gnB (f : Ladle → Ladle) (s : State) : (modLdl f s).mir.gnB = s.mir.gnB := rfl
@[simp] theorem modLdl_mir_tim (f : Ladle → Ladle) (s : State) : (modLdl f s).mir.tim = s.mir.tim := rfl
@[simp] theorem modLdl_mir_siv (f : Ladle → Ladle) (s : State) : (modLdl f s).mir.siv = s.mir.siv := rfl
@[simp] theorem modLdl_mir_fld (f : Ladle → Ladle) (s : State) : (modLdl f s).mir.fld = s.mir.fld := rfl
@[simp] theorem modLdl_mir_pair (f : Ladle → Ladle) (s : State) : (modLdl f s).mir.pair = s.mir.pair := rfl
@[simp] theorem modLdl_mir_trv (f : Ladle → Ladle) (s : State) : (modLdl f s).mir.trv = s.mir.trv := rfl
@[simp] theorem modLdl_mir_evt (f : Ladle → Ladle) (s : State) : (modLdl f s).mir.evt = s.mir.evt := rfl
@[simp] theorem modLdl_out (f : Ladle → Ladle) (s : State) : (modLdl f s).out = s.out := rfl
@[simp] theorem modLdl_saved (f : Ladle → Ladle) (s : State) : (modLdl f s).saved = s.saved := rfl
@[simp] theorem modLdl_free (f : Ladle → Ladle) (s : State) : (modLdl f s).free = s.free := rfl
@[simp] theorem modLdl_pending (f : Ladle → Ladle) (s : State) : (modLdl f s).pending = s.pending := rfl

/-! ## modCqa -/

@[simp] theorem modCqa_um (f : Consequence → Consequence) (s : State) : (modCqa f s).um = s.um := rfl
@[simp] theorem modCqa_ex (f : Consequence → Consequence) (s : State) : (modCqa f s).ex = s.ex := rfl
@[simp] theorem modCqa_cfg (f : Consequence → Consequence) (s : State) : (modCqa f s).cfg = s.cfg := rfl
@[simp] theorem modCqa_fab (f : Consequence → Consequence) (s : State) : (modCqa f s).fab = s.fab := rfl
@[simp] theorem modCqa_gnA (f : Consequence → Consequence) (s : State) : (modCqa f s).gnA = s.gnA := rfl
@[simp] theorem modCqa_gnB (f : Consequence → Consequence) (s : State) : (modCqa f s).gnB = s.gnB := rfl
@[simp] theorem modCqa_time (f : Consequence → Consequence) (s : State) : (modCqa f s).time = s.time := rfl
@[simp] theorem modCqa_siv (f : Consequence → Consequence) (s : State) : (modCqa f s).siv = s.siv := rfl
@[simp] theorem modCqa_rng (f : Consequence → Consequence) (s : State) : (modCqa f s).rng = s.rng := rfl
@[simp] theorem modCqa_fld (f : Consequence → Consequence) (s : State) : (modCqa f s).fld = s.fld := rfl
@[simp] theorem modCqa_pair (f : Consequence → Consequence) (s : State) : (modCqa f s).pair = s.pair := rfl
@[simp] theorem modCqa_trv (f : Consequence → Consequence) (s : State) : (modCqa f s).trv = s.trv := rfl
@[simp] theorem modCqa_evt (f : Consequence → Consequence) (s : State) : (modCqa f s).evt = s.evt := rfl
@[simp] theorem modCqa_log (f : Consequence → Consequence) (s : State) : (modCqa f s).log = s.log := rfl
@[simp] theorem modCqa_dmp (f : Consequence → Consequence) (s : State) : (modCqa f s).dmp = s.dmp := rfl
@[simp] theorem modCqa_hap (f : Consequence → Consequence) (s : State) : (modCqa f s).hap = s.hap := rfl
@[simp] theorem modCqa_sup (f : Consequence → Consequence) (s : State) : (modCqa f s).sup = s.sup := rfl
@[simp] theorem modCqa_pnl (f : Consequence → Consequence) (s : State) : (modCqa f s).pnl = s.pnl := rfl
@[simp] theorem modCqa_ktl (f : Consequence → Consequence) (s : State) : (modCqa f s).ktl = s.ktl := rfl
@[simp] theorem modCqa_life (f : Consequence → Consequence) (s : State) : (modCqa f s).life = s.life := rfl
@[simp] theorem modCqa_upd (f : Consequence → Consequence) (s : State) : (modCqa f s).upd = s.upd := rfl
@[simp] theorem modCqa_mir_mode (f : Consequence → Consequence) (s : State) : (modCqa f s).mir.mode = s.mir.mode := rfl
@[simp] theorem modCqa_mir_mrt (f : Consequence → Consequence) (s : State) : (modCqa f s).mir.mrt = s.mir.mrt := rfl
@[simp] theorem modCqa_mir_ldl (f : Consequence → Consequence) (s : State) : (modCqa f s).mir.ldl = s.mir.ldl := rfl
@[simp] theorem modCqa_mir_est (f : Consequence → Consequence) (s : State) : (modCqa f s).mir.est = s.mir.est := rfl
@[simp] theorem modCqa_mir_ba (f : Consequence → Consequence) (s : State) : (modCqa f s).mir.ba = s.mir.ba := rfl
@[simp] theorem modCqa_mir_abm (f : Consequence → Consequence) (s : State) : (modCqa f s).mir.abm = s.mir.abm := rfl
@[simp] theorem modCqa_mir_alc (f : Consequence → Consequence) (s : State) : (modCqa f s).mir.alc = s.mir.alc := rfl
@[simp] theorem modCqa_mir_mpc (f : Consequence → Consequence) (s : State) : (modCqa f s).mir.mpc = s.mir.mpc := rfl
@[simp] theorem modCqa_mir_cqa (f : Consequence → Consequence) (s : State) : (modCqa f s).mir.cqa = f s.mir.cqa := rfl
@[simp] theorem modCqa_mir_wsk (f : Consequence → Consequence) (s : State) : (modCqa f s).mir.wsk = s.mir.wsk := rfl
@[simp] theorem modCqa_mir_gnA (f : Consequence → Consequence) (s : State) : (modCqa f s).mir.gnA = s.mir.gnA := rfl
@[simp] theorem modCqa_mir_gnB (f : Consequence → Consequence) (s : State) : (modCqa f s).mir.gnB = s.mir.gnB := rfl
@[simp] theorem modCqa_mir_tim (f : Consequence → Consequence) (s : State) : (modCqa f s).mir.tim = s.mir.tim := rfl
@[simp] theorem modCqa_mir_siv (f : Consequence → Consequence) (s : State) : (modCqa f s).mir.siv = s.mir.siv := rfl
@[simp] theorem modCqa_mir_fld (f : Consequence → Consequence) (s : State) : (modCqa f s).mir.fld = s.mir.fld := rfl
@[simp] theorem modCqa_mir_pair (f : Consequence → Consequence) (s : State) : (modCqa f s).mir.pair = s.mir.pair := rfl
@[simp] theorem modCqa_mir_trv (f : Consequence → Consequence) (s : State) : (modCqa f s).mir.trv = s.mir.trv := rfl
@[simp] theorem modCqa_mir_evt (f : Consequence → Consequence) (s : State) : (modCqa f s).mir.evt = s.mir.evt := rfl
@[simp] theorem modCqa_out (f : Consequence → Consequence) (s : State) : (modCqa f s).out = s.out := rfl
@[simp] theorem modCqa_saved (f : Consequence → Consequence) (s : State) : (modCqa f s).saved = s.saved := rfl
@[simp] theorem modCqa_free (f : Consequence → Consequence) (s : State) : (modCqa f s).free = s.free := rfl
@[simp] theorem modCqa_pending (f : Consequence → Consequence) (s : State) : (modCqa f s).pending = s.pending := rfl

/-! ## modHap -/

@[simp] theorem modHap_um (f : Hap → Hap) (s : State) : (modHap f s).um = s.um := rfl
@[simp] theorem modHap_ex (f : Hap → Hap) (s : State) : (modHap f s).ex = s.ex := rfl
@[simp] theorem modHap_cfg (f : Hap → Hap) (s : State) : (modHap f s).cfg = s.cfg := rfl
@[simp] theorem modHap_fab (f : Hap → Hap) (s : State) : (modHap f s).fab = s.fab := rfl
@[simp] theorem modHap_gnA (f : Hap → Hap) (s : State) : (modHap f s).gnA = s.gnA := rfl
@[simp] theorem modHap_gnB (f : Hap → Hap) (s : State) : (modHap f s).gnB = s.gnB := rfl
@[simp] theorem modHap_time (f : Hap → Hap) (s : State) : (modHap f s).time = s.time := rfl
@[simp] theorem modHap_siv (f : Hap → Hap) (s : State) : (modHap f s).siv = s.siv := rfl
@[simp] theorem modHap_rng (f : Hap → Hap) (s : State) : (modHap f s).rng = s.rng := rfl
@[simp] theorem modHap_fld (f : Hap → Hap) (s : State) : (modHap f s).fld = s.fld := rfl
@[simp] theorem modHap_pair (f : Hap → Hap) (s : State) : (modHap f s).pair = s.pair := rfl
@[simp] theorem modHap_trv (f : Hap → Hap) (s : State) : (modHap f s).trv = s.trv := rfl
@[simp] theorem modHap_evt (f : Hap → Hap) (s : State) : (modHap f s).evt = s.evt := rfl
@[simp] theorem modHap_log (f : Hap → Hap) (s : State) : (modHap f s).log = s.log := rfl
@[simp] theorem modHap_dmp (f : Hap → Hap) (s : State) : (modHap f s).dmp = s.dmp := rfl
@[simp] theorem modHap_hap (f : Hap → Hap) (s : State) : (modHap f s).hap = f s.hap := rfl
@[simp] theorem modHap_sup (f : Hap → Hap) (s : State) : (modHap f s).sup = s.sup := rfl
@[simp] theorem modHap_pnl (f : Hap → Hap) (s : State) : (modHap f s).pnl = s.pnl := rfl
@[simp] theorem modHap_ktl (f : Hap → Hap) (s : State) : (modHap f s).ktl = s.ktl := rfl
@[simp] theorem modHap_life (f : Hap → Hap) (s : State) : (modHap f s).life = s.life := rfl
@[simp] theorem modHap_upd (f : Hap → Hap) (s : State) : (modHap f s).upd = s.upd := rfl
@[simp] theorem modHap_mir (f : Hap → Hap) (s : State) : (modHap f s).mir = s.mir := rfl
@[simp] theorem modHap_out (f : Hap → Hap) (s : State) : (modHap f s).out = s.out := rfl
@[simp] theorem modHap_saved (f : Hap → Hap) (s : State) : (modHap f s).saved = s.saved := rfl
@[simp] theorem modHap_free (f : Hap → Hap) (s : State) : (modHap f s).free = s.free := rfl
@[simp] theorem modHap_pending (f : Hap → Hap) (s : State) : (modHap f s).pending = s.pending := rfl

/-! ## modAlc -/

@[simp] theorem modAlc_um (f : Allocation → Allocation) (s : State) : (modAlc f s).um = s.um := rfl
@[simp] theorem modAlc_ex (f : Allocation → Allocation) (s : State) : (modAlc f s).ex = s.ex := rfl
@[simp] theorem modAlc_cfg (f : Allocation → Allocation) (s : State) : (modAlc f s).cfg = s.cfg := rfl
@[simp] theorem modAlc_fab (f : Allocation → Allocation) (s : State) : (modAlc f s).fab = s.fab := rfl
@[simp] theorem modAlc_gnA (f : Allocation → Allocation) (s : State) : (modAlc f s).gnA = s.gnA := rfl
@[simp] theorem modAlc_gnB (f : Allocation → Allocation) (s : State) : (modAlc f s).gnB = s.gnB := rfl
@[simp] theorem modAlc_time (f : Allocation → Allocation) (s : State) : (modAlc f s).time = s.time := rfl
@[simp] theorem modAlc_siv (f : Allocation → Allocation) (s : State) : (modAlc f s).siv = s.siv := rfl
@[simp] theorem modAlc_rng (f : Allocation → Allocation) (s : State) : (modAlc f s).rng = s.rng := rfl
@[simp] theorem modAlc_fld (f : Allocation → Allocation) (s : State) : (modAlc f s).fld = s.fld := rfl
@[simp] theorem modAlc_pair (f : Allocation → Allocation) (s : State) : (modAlc f s).pair = s.pair := rfl
@[simp] theorem modAlc_trv (f : Allocation → Allocation) (s : State) : (modAlc f s).trv = s.trv := rfl
@[simp] theorem modAlc_evt (f : Allocation → Allocation) (s : State) : (modAlc f s).evt = s.evt := rfl
@[simp] theorem modAlc_log (f : Allocation → Allocation) (s : State) : (modAlc f s).log = s.log := rfl
@[simp] theorem modAlc_dmp (f : Allocation → Allocation) (s : State) : (modAlc f s).dmp = s.dmp := rfl
@[simp] theorem modAlc_hap (f : Allocation → Allocation) (s : State) : (modAlc f s).hap = s.hap := rfl
@[simp] theorem modAlc_sup (f : Allocation → Allocation) (s : State) : (modAlc f s).sup = s.sup := rfl
@[simp] theorem modAlc_pnl (f : Allocation → Allocation) (s : State) : (modAlc f s).pnl = s.pnl := rfl
@[simp] theorem modAlc_ktl (f : Allocation → Allocation) (s : State) : (modAlc f s).ktl = s.ktl := rfl
@[simp] theorem modAlc_life (f : Allocation → Allocation) (s : State) : (modAlc f s).life = s.life := rfl
@[simp] theorem modAlc_upd (f : Allocation → Allocation) (s : State) : (modAlc f s).upd = s.upd := rfl
@[simp] theorem modAlc_mir_mode (f : Allocation → Allocation) (s : State) : (modAlc f s).mir.mode = s.mir.mode := rfl
@[simp] theorem modAlc_mir_mrt (f : Allocation → Allocation) (s : State) : (modAlc f s).mir.mrt = s.mir.mrt := rfl
@[simp] theorem modAlc_mir_ldl (f : Allocation → Allocation) (s : State) : (modAlc f s).mir.ldl = s.mir.ldl := rfl
@[simp] theorem modAlc_mir_est (f : Allocation → Allocation) (s : State) : (modAlc f s).mir.est = s.mir.est := rfl
@[simp] theorem modAlc_mir_ba (f : Allocation → Allocation) (s : State) : (modAlc f s).mir.ba = s.mir.ba := rfl
@[simp] theorem modAlc_mir_abm (f : Allocation → Allocation) (s : State) : (modAlc f s).mir.abm = s.mir.abm := rfl
@[simp] theorem modAlc_mir_alc (f : Allocation → Allocation) (s : State) : (modAlc f s).mir.alc = f s.mir.alc := rfl
@[simp] theorem modAlc_mir_mpc (f : Allocation → Allocation) (s : State) : (modAlc f s).mir.mpc = s.mir.mpc := rfl
@[simp] theorem modAlc_mir_cqa (f : Allocation → Allocation) (s : State) : (modAlc f s).mir.cqa = s.mir.cqa := rfl
@[simp] theorem modAlc_mir_wsk (f : Allocation → Allocation) (s : State) : (modAlc f s).mir.wsk = s.mir.wsk := rfl
@[simp] theorem modAlc_mir_gnA (f : Allocation → Allocation) (s : State) : (modAlc f s).mir.gnA = s.mir.gnA := rfl
@[simp] theorem modAlc_mir_gnB (f : Allocation → Allocation) (s : State) : (modAlc f s).mir.gnB = s.mir.gnB := rfl
@[simp] theorem modAlc_mir_tim (f : Allocation → Allocation) (s : State) : (modAlc f s).mir.tim = s.mir.tim := rfl
@[simp] theorem modAlc_mir_siv (f : Allocation → Allocation) (s : State) : (modAlc f s).mir.siv = s.mir.siv := rfl
@[simp] theorem modAlc_mir_fld (f : Allocation → Allocation) (s : State) : (modAlc f s).mir.fld = s.mir.fld := rfl
@[simp] theorem modAlc_mir_pair (f : Allocation → Allocation) (s : State) : (modAlc f s).mir.pair = s.mir.pair := rfl
@[simp] theorem modAlc_mir_trv (f : Allocation → Allocation) (s : State) : (modAlc f s).mir.trv = s.mir.trv := rfl
@[simp] theorem modAlc_mir_evt (f : Allocation → Allocation) (s : State) : (modAlc f s).mir.evt = s.mir.evt := rfl
@[simp] theorem modAlc_out (f : Allocation → Allocation) (s : State) : (modAlc f s).out = s.out := rfl
@[simp] theorem modAlc_saved (f : Allocation → Allocation) (s : State) : (modAlc f s).saved = s.saved := rfl
@[simp] theorem modAlc_free (f : Allocation → Allocation) (s : State) : (modAlc f s).free = s.free := rfl
@[simp] theorem modAlc_pending (f : Allocation → Allocation) (s : State) : (modAlc f s).pending = s.pending := rfl

/-! ## modMpc -/

@[simp] theorem modMpc_um (f : PlanState → PlanState) (s : State) : (modMpc f s).um = s.um := rfl
@[simp] theorem modMpc_ex (f : PlanState → PlanState) (s : State) : (modMpc f s).ex = s.ex := rfl
@[simp] theorem modMpc_cfg (f : PlanState → PlanState) (s : State) : (modMpc f s).cfg = s.cfg := rfl
@[simp] theorem modMpc_fab (f : PlanState → PlanState) (s : State) : (modMpc f s).fab = s.fab := rfl
@[simp] theorem modMpc_gnA (f : PlanState → PlanState) (s : State) : (modMpc f s).gnA = s.gnA := rfl
@[simp] theorem modMpc_gnB (f : PlanState → PlanState) (s : State) : (modMpc f s).gnB = s.gnB := rfl
@[simp] theorem modMpc_time (f : PlanState → PlanState) (s : State) : (modMpc f s).time = s.time := rfl
@[simp] theorem modMpc_siv (f : PlanState → PlanState) (s : State) : (modMpc f s).siv = s.siv := rfl
@[simp] theorem modMpc_rng (f : PlanState → PlanState) (s : State) : (modMpc f s).rng = s.rng := rfl
@[simp] theorem modMpc_fld (f : PlanState → PlanState) (s : State) : (modMpc f s).fld = s.fld := rfl
@[simp] theorem modMpc_pair (f : PlanState → PlanState) (s : State) : (modMpc f s).pair = s.pair := rfl
@[simp] theorem modMpc_trv (f : PlanState → PlanState) (s : State) : (modMpc f s).trv = s.trv := rfl
@[simp] theorem modMpc_evt (f : PlanState → PlanState) (s : State) : (modMpc f s).evt = s.evt := rfl
@[simp] theorem modMpc_log (f : PlanState → PlanState) (s : State) : (modMpc f s).log = s.log := rfl
@[simp] theorem modMpc_dmp (f : PlanState → PlanState) (s : State) : (modMpc f s).dmp = s.dmp := rfl
@[simp] theorem modMpc_hap (f : PlanState → PlanState) (s : State) : (modMpc f s).hap = s.hap := rfl
@[simp] theorem modMpc_sup (f : PlanState → PlanState) (s : State) : (modMpc f s).sup = s.sup := rfl
@[simp] theorem modMpc_pnl (f : PlanState → PlanState) (s : State) : (modMpc f s).pnl = s.pnl := rfl
@[simp] theorem modMpc_ktl (f : PlanState → PlanState) (s : State) : (modMpc f s).ktl = s.ktl := rfl
@[simp] theorem modMpc_life (f : PlanState → PlanState) (s : State) : (modMpc f s).life = s.life := rfl
@[simp] theorem modMpc_upd (f : PlanState → PlanState) (s : State) : (modMpc f s).upd = s.upd := rfl
@[simp] theorem modMpc_mir_mode (f : PlanState → PlanState) (s : State) : (modMpc f s).mir.mode = s.mir.mode := rfl
@[simp] theorem modMpc_mir_mrt (f : PlanState → PlanState) (s : State) : (modMpc f s).mir.mrt = s.mir.mrt := rfl
@[simp] theorem modMpc_mir_ldl (f : PlanState → PlanState) (s : State) : (modMpc f s).mir.ldl = s.mir.ldl := rfl
@[simp] theorem modMpc_mir_est (f : PlanState → PlanState) (s : State) : (modMpc f s).mir.est = s.mir.est := rfl
@[simp] theorem modMpc_mir_ba (f : PlanState → PlanState) (s : State) : (modMpc f s).mir.ba = s.mir.ba := rfl
@[simp] theorem modMpc_mir_abm (f : PlanState → PlanState) (s : State) : (modMpc f s).mir.abm = s.mir.abm := rfl
@[simp] theorem modMpc_mir_alc (f : PlanState → PlanState) (s : State) : (modMpc f s).mir.alc = s.mir.alc := rfl
@[simp] theorem modMpc_mir_mpc (f : PlanState → PlanState) (s : State) : (modMpc f s).mir.mpc = f s.mir.mpc := rfl
@[simp] theorem modMpc_mir_cqa (f : PlanState → PlanState) (s : State) : (modMpc f s).mir.cqa = s.mir.cqa := rfl
@[simp] theorem modMpc_mir_wsk (f : PlanState → PlanState) (s : State) : (modMpc f s).mir.wsk = s.mir.wsk := rfl
@[simp] theorem modMpc_mir_gnA (f : PlanState → PlanState) (s : State) : (modMpc f s).mir.gnA = s.mir.gnA := rfl
@[simp] theorem modMpc_mir_gnB (f : PlanState → PlanState) (s : State) : (modMpc f s).mir.gnB = s.mir.gnB := rfl
@[simp] theorem modMpc_mir_tim (f : PlanState → PlanState) (s : State) : (modMpc f s).mir.tim = s.mir.tim := rfl
@[simp] theorem modMpc_mir_siv (f : PlanState → PlanState) (s : State) : (modMpc f s).mir.siv = s.mir.siv := rfl
@[simp] theorem modMpc_mir_fld (f : PlanState → PlanState) (s : State) : (modMpc f s).mir.fld = s.mir.fld := rfl
@[simp] theorem modMpc_mir_pair (f : PlanState → PlanState) (s : State) : (modMpc f s).mir.pair = s.mir.pair := rfl
@[simp] theorem modMpc_mir_trv (f : PlanState → PlanState) (s : State) : (modMpc f s).mir.trv = s.mir.trv := rfl
@[simp] theorem modMpc_mir_evt (f : PlanState → PlanState) (s : State) : (modMpc f s).mir.evt = s.mir.evt := rfl
@[simp] theorem modMpc_out (f : PlanState → PlanState) (s : State) : (modMpc f s).out = s.out := rfl
@[simp] theorem modMpc_saved (f : PlanState → PlanState) (s : State) : (modMpc f s).saved = s.saved := rfl
@[simp] theorem modMpc_free (f : PlanState → PlanState) (s : State) : (modMpc f s).free = s.free := rfl
@[simp] theorem modMpc_pending (f : PlanState → PlanState) (s : State) : (modMpc f s).pending = s.pending := rfl

/-! ## modMode -/

@[simp] theorem modMode_um (f : ModeState → ModeState) (s : State) : (modMode f s).um = s.um := rfl
@[simp] theorem modMode_ex (f : ModeState → ModeState) (s : State) : (modMode f s).ex = s.ex := rfl
@[simp] theorem modMode_cfg (f : ModeState → ModeState) (s : State) : (modMode f s).cfg = s.cfg := rfl
@[simp] theorem modMode_fab (f : ModeState → ModeState) (s : State) : (modMode f s).fab = s.fab := rfl
@[simp] theorem modMode_gnA (f : ModeState → ModeState) (s : State) : (modMode f s).gnA = s.gnA := rfl
@[simp] theorem modMode_gnB (f : ModeState → ModeState) (s : State) : (modMode f s).gnB = s.gnB := rfl
@[simp] theorem modMode_time (f : ModeState → ModeState) (s : State) : (modMode f s).time = s.time := rfl
@[simp] theorem modMode_siv (f : ModeState → ModeState) (s : State) : (modMode f s).siv = s.siv := rfl
@[simp] theorem modMode_rng (f : ModeState → ModeState) (s : State) : (modMode f s).rng = s.rng := rfl
@[simp] theorem modMode_fld (f : ModeState → ModeState) (s : State) : (modMode f s).fld = s.fld := rfl
@[simp] theorem modMode_pair (f : ModeState → ModeState) (s : State) : (modMode f s).pair = s.pair := rfl
@[simp] theorem modMode_trv (f : ModeState → ModeState) (s : State) : (modMode f s).trv = s.trv := rfl
@[simp] theorem modMode_evt (f : ModeState → ModeState) (s : State) : (modMode f s).evt = s.evt := rfl
@[simp] theorem modMode_log (f : ModeState → ModeState) (s : State) : (modMode f s).log = s.log := rfl
@[simp] theorem modMode_dmp (f : ModeState → ModeState) (s : State) : (modMode f s).dmp = s.dmp := rfl
@[simp] theorem modMode_hap (f : ModeState → ModeState) (s : State) : (modMode f s).hap = s.hap := rfl
@[simp] theorem modMode_sup (f : ModeState → ModeState) (s : State) : (modMode f s).sup = s.sup := rfl
@[simp] theorem modMode_pnl (f : ModeState → ModeState) (s : State) : (modMode f s).pnl = s.pnl := rfl
@[simp] theorem modMode_ktl (f : ModeState → ModeState) (s : State) : (modMode f s).ktl = s.ktl := rfl
@[simp] theorem modMode_life (f : ModeState → ModeState) (s : State) : (modMode f s).life = s.life := rfl
@[simp] theorem modMode_upd (f : ModeState → ModeState) (s : State) : (modMode f s).upd = s.upd := rfl
@[simp] theorem modMode_mir_mode (f : ModeState → ModeState) (s : State) : (modMode f s).mir.mode = f s.mir.mode := rfl
@[simp] theorem modMode_mir_mrt (f : ModeState → ModeState) (s : State) : (modMode f s).mir.mrt = s.mir.mrt := rfl
@[simp] theorem modMode_mir_ldl (f : ModeState → ModeState) (s : State) : (modMode f s).mir.ldl = s.mir.ldl := rfl
@[simp] theorem modMode_mir_est (f : ModeState → ModeState) (s : State) : (modMode f s).mir.est = s.mir.est := rfl
@[simp] theorem modMode_mir_ba (f : ModeState → ModeState) (s : State) : (modMode f s).mir.ba = s.mir.ba := rfl
@[simp] theorem modMode_mir_abm (f : ModeState → ModeState) (s : State) : (modMode f s).mir.abm = s.mir.abm := rfl
@[simp] theorem modMode_mir_alc (f : ModeState → ModeState) (s : State) : (modMode f s).mir.alc = s.mir.alc := rfl
@[simp] theorem modMode_mir_mpc (f : ModeState → ModeState) (s : State) : (modMode f s).mir.mpc = s.mir.mpc := rfl
@[simp] theorem modMode_mir_cqa (f : ModeState → ModeState) (s : State) : (modMode f s).mir.cqa = s.mir.cqa := rfl
@[simp] theorem modMode_mir_wsk (f : ModeState → ModeState) (s : State) : (modMode f s).mir.wsk = s.mir.wsk := rfl
@[simp] theorem modMode_mir_gnA (f : ModeState → ModeState) (s : State) : (modMode f s).mir.gnA = s.mir.gnA := rfl
@[simp] theorem modMode_mir_gnB (f : ModeState → ModeState) (s : State) : (modMode f s).mir.gnB = s.mir.gnB := rfl
@[simp] theorem modMode_mir_tim (f : ModeState → ModeState) (s : State) : (modMode f s).mir.tim = s.mir.tim := rfl
@[simp] theorem modMode_mir_siv (f : ModeState → ModeState) (s : State) : (modMode f s).mir.siv = s.mir.siv := rfl
@[simp] theorem modMode_mir_fld (f : ModeState → ModeState) (s : State) : (modMode f s).mir.fld = s.mir.fld := rfl
@[simp] theorem modMode_mir_pair (f : ModeState → ModeState) (s : State) : (modMode f s).mir.pair = s.mir.pair := rfl
@[simp] theorem modMode_mir_trv (f : ModeState → ModeState) (s : State) : (modMode f s).mir.trv = s.mir.trv := rfl
@[simp] theorem modMode_mir_evt (f : ModeState → ModeState) (s : State) : (modMode f s).mir.evt = s.mir.evt := rfl
@[simp] theorem modMode_out (f : ModeState → ModeState) (s : State) : (modMode f s).out = s.out := rfl
@[simp] theorem modMode_saved (f : ModeState → ModeState) (s : State) : (modMode f s).saved = s.saved := rfl
@[simp] theorem modMode_free (f : ModeState → ModeState) (s : State) : (modMode f s).free = s.free := rfl
@[simp] theorem modMode_pending (f : ModeState → ModeState) (s : State) : (modMode f s).pending = s.pending := rfl

/-! ## modFld -/

@[simp] theorem modFld_um (f : FieldMirror → FieldMirror) (s : State) : (modFld f s).um = s.um := rfl
@[simp] theorem modFld_ex (f : FieldMirror → FieldMirror) (s : State) : (modFld f s).ex = s.ex := rfl
@[simp] theorem modFld_cfg (f : FieldMirror → FieldMirror) (s : State) : (modFld f s).cfg = s.cfg := rfl
@[simp] theorem modFld_fab (f : FieldMirror → FieldMirror) (s : State) : (modFld f s).fab = s.fab := rfl
@[simp] theorem modFld_gnA (f : FieldMirror → FieldMirror) (s : State) : (modFld f s).gnA = s.gnA := rfl
@[simp] theorem modFld_gnB (f : FieldMirror → FieldMirror) (s : State) : (modFld f s).gnB = s.gnB := rfl
@[simp] theorem modFld_time (f : FieldMirror → FieldMirror) (s : State) : (modFld f s).time = s.time := rfl
@[simp] theorem modFld_siv (f : FieldMirror → FieldMirror) (s : State) : (modFld f s).siv = s.siv := rfl
@[simp] theorem modFld_rng (f : FieldMirror → FieldMirror) (s : State) : (modFld f s).rng = s.rng := rfl
@[simp] theorem modFld_fld (f : FieldMirror → FieldMirror) (s : State) : (modFld f s).fld = s.fld := rfl
@[simp] theorem modFld_pair (f : FieldMirror → FieldMirror) (s : State) : (modFld f s).pair = s.pair := rfl
@[simp] theorem modFld_trv (f : FieldMirror → FieldMirror) (s : State) : (modFld f s).trv = s.trv := rfl
@[simp] theorem modFld_evt (f : FieldMirror → FieldMirror) (s : State) : (modFld f s).evt = s.evt := rfl
@[simp] theorem modFld_log (f : FieldMirror → FieldMirror) (s : State) : (modFld f s).log = s.log := rfl
@[simp] theorem modFld_dmp (f : FieldMirror → FieldMirror) (s : State) : (modFld f s).dmp = s.dmp := rfl
@[simp] theorem modFld_hap (f : FieldMirror → FieldMirror) (s : State) : (modFld f s).hap = s.hap := rfl
@[simp] theorem modFld_sup (f : FieldMirror → FieldMirror) (s : State) : (modFld f s).sup = s.sup := rfl
@[simp] theorem modFld_pnl (f : FieldMirror → FieldMirror) (s : State) : (modFld f s).pnl = s.pnl := rfl
@[simp] theorem modFld_ktl (f : FieldMirror → FieldMirror) (s : State) : (modFld f s).ktl = s.ktl := rfl
@[simp] theorem modFld_life (f : FieldMirror → FieldMirror) (s : State) : (modFld f s).life = s.life := rfl
@[simp] theorem modFld_upd (f : FieldMirror → FieldMirror) (s : State) : (modFld f s).upd = s.upd := rfl
@[simp] theorem modFld_mir_mode (f : FieldMirror → FieldMirror) (s : State) : (modFld f s).mir.mode = s.mir.mode := rfl
@[simp] theorem modFld_mir_mrt (f : FieldMirror → FieldMirror) (s : State) : (modFld f s).mir.mrt = s.mir.mrt := rfl
@[simp] theorem modFld_mir_ldl (f : FieldMirror → FieldMirror) (s : State) : (modFld f s).mir.ldl = s.mir.ldl := rfl
@[simp] theorem modFld_mir_est (f : FieldMirror → FieldMirror) (s : State) : (modFld f s).mir.est = s.mir.est := rfl
@[simp] theorem modFld_mir_ba (f : FieldMirror → FieldMirror) (s : State) : (modFld f s).mir.ba = s.mir.ba := rfl
@[simp] theorem modFld_mir_abm (f : FieldMirror → FieldMirror) (s : State) : (modFld f s).mir.abm = s.mir.abm := rfl
@[simp] theorem modFld_mir_alc (f : FieldMirror → FieldMirror) (s : State) : (modFld f s).mir.alc = s.mir.alc := rfl
@[simp] theorem modFld_mir_mpc (f : FieldMirror → FieldMirror) (s : State) : (modFld f s).mir.mpc = s.mir.mpc := rfl
@[simp] theorem modFld_mir_cqa (f : FieldMirror → FieldMirror) (s : State) : (modFld f s).mir.cqa = s.mir.cqa := rfl
@[simp] theorem modFld_mir_wsk (f : FieldMirror → FieldMirror) (s : State) : (modFld f s).mir.wsk = s.mir.wsk := rfl
@[simp] theorem modFld_mir_gnA (f : FieldMirror → FieldMirror) (s : State) : (modFld f s).mir.gnA = s.mir.gnA := rfl
@[simp] theorem modFld_mir_gnB (f : FieldMirror → FieldMirror) (s : State) : (modFld f s).mir.gnB = s.mir.gnB := rfl
@[simp] theorem modFld_mir_tim (f : FieldMirror → FieldMirror) (s : State) : (modFld f s).mir.tim = s.mir.tim := rfl
@[simp] theorem modFld_mir_siv (f : FieldMirror → FieldMirror) (s : State) : (modFld f s).mir.siv = s.mir.siv := rfl
@[simp] theorem modFld_mir_fld (f : FieldMirror → FieldMirror) (s : State) : (modFld f s).mir.fld = f s.mir.fld := rfl
@[simp] theorem modFld_mir_pair (f : FieldMirror → FieldMirror) (s : State) : (modFld f s).mir.pair = s.mir.pair := rfl
@[simp] theorem modFld_mir_trv (f : FieldMirror → FieldMirror) (s : State) : (modFld f s).mir.trv = s.mir.trv := rfl
@[simp] theorem modFld_mir_evt (f : FieldMirror → FieldMirror) (s : State) : (modFld f s).mir.evt = s.mir.evt := rfl
@[simp] theorem modFld_out (f : FieldMirror → FieldMirror) (s : State) : (modFld f s).out = s.out := rfl
@[simp] theorem modFld_saved (f : FieldMirror → FieldMirror) (s : State) : (modFld f s).saved = s.saved := rfl
@[simp] theorem modFld_free (f : FieldMirror → FieldMirror) (s : State) : (modFld f s).free = s.free := rfl
@[simp] theorem modFld_pending (f : FieldMirror → FieldMirror) (s : State) : (modFld f s).pending = s.pending := rfl

/-! ## modKtl -/

@[simp] theorem modKtl_um (f : Kettle → Kettle) (s : State) : (modKtl f s).um = s.um := rfl
@[simp] theorem modKtl_ex (f : Kettle → Kettle) (s : State) : (modKtl f s).ex = s.ex := rfl
@[simp] theorem modKtl_cfg (f : Kettle → Kettle) (s : State) : (modKtl f s).cfg = s.cfg := rfl
@[simp] theorem modKtl_fab (f : Kettle → Kettle) (s : State) : (modKtl f s).fab = s.fab := rfl
@[simp] theorem modKtl_gnA (f : Kettle → Kettle) (s : State) : (modKtl f s).gnA = s.gnA := rfl
@[simp] theorem modKtl_gnB (f : Kettle → Kettle) (s : State) : (modKtl f s).gnB = s.gnB := rfl
@[simp] theorem modKtl_time (f : Kettle → Kettle) (s : State) : (modKtl f s).time = s.time := rfl
@[simp] theorem modKtl_siv (f : Kettle → Kettle) (s : State) : (modKtl f s).siv = s.siv := rfl
@[simp] theorem modKtl_rng (f : Kettle → Kettle) (s : State) : (modKtl f s).rng = s.rng := rfl
@[simp] theorem modKtl_fld (f : Kettle → Kettle) (s : State) : (modKtl f s).fld = s.fld := rfl
@[simp] theorem modKtl_pair (f : Kettle → Kettle) (s : State) : (modKtl f s).pair = s.pair := rfl
@[simp] theorem modKtl_trv (f : Kettle → Kettle) (s : State) : (modKtl f s).trv = s.trv := rfl
@[simp] theorem modKtl_evt (f : Kettle → Kettle) (s : State) : (modKtl f s).evt = s.evt := rfl
@[simp] theorem modKtl_log (f : Kettle → Kettle) (s : State) : (modKtl f s).log = s.log := rfl
@[simp] theorem modKtl_dmp (f : Kettle → Kettle) (s : State) : (modKtl f s).dmp = s.dmp := rfl
@[simp] theorem modKtl_hap (f : Kettle → Kettle) (s : State) : (modKtl f s).hap = s.hap := rfl
@[simp] theorem modKtl_sup (f : Kettle → Kettle) (s : State) : (modKtl f s).sup = s.sup := rfl
@[simp] theorem modKtl_pnl (f : Kettle → Kettle) (s : State) : (modKtl f s).pnl = s.pnl := rfl
@[simp] theorem modKtl_ktl (f : Kettle → Kettle) (s : State) : (modKtl f s).ktl = f s.ktl := rfl
@[simp] theorem modKtl_life (f : Kettle → Kettle) (s : State) : (modKtl f s).life = s.life := rfl
@[simp] theorem modKtl_upd (f : Kettle → Kettle) (s : State) : (modKtl f s).upd = s.upd := rfl
@[simp] theorem modKtl_mir (f : Kettle → Kettle) (s : State) : (modKtl f s).mir = s.mir := rfl
@[simp] theorem modKtl_out (f : Kettle → Kettle) (s : State) : (modKtl f s).out = s.out := rfl
@[simp] theorem modKtl_saved (f : Kettle → Kettle) (s : State) : (modKtl f s).saved = s.saved := rfl
@[simp] theorem modKtl_free (f : Kettle → Kettle) (s : State) : (modKtl f s).free = s.free := rfl
@[simp] theorem modKtl_pending (f : Kettle → Kettle) (s : State) : (modKtl f s).pending = s.pending := rfl

/-! ## modAbm -/

@[simp] theorem modAbm_um (f : Model → Model) (s : State) : (modAbm f s).um = s.um := rfl
@[simp] theorem modAbm_ex (f : Model → Model) (s : State) : (modAbm f s).ex = s.ex := rfl
@[simp] theorem modAbm_cfg (f : Model → Model) (s : State) : (modAbm f s).cfg = s.cfg := rfl
@[simp] theorem modAbm_fab (f : Model → Model) (s : State) : (modAbm f s).fab = s.fab := rfl
@[simp] theorem modAbm_gnA (f : Model → Model) (s : State) : (modAbm f s).gnA = s.gnA := rfl
@[simp] theorem modAbm_gnB (f : Model → Model) (s : State) : (modAbm f s).gnB = s.gnB := rfl
@[simp] theorem modAbm_time (f : Model → Model) (s : State) : (modAbm f s).time = s.time := rfl
@[simp] theorem modAbm_siv (f : Model → Model) (s : State) : (modAbm f s).siv = s.siv := rfl
@[simp] theorem modAbm_rng (f : Model → Model) (s : State) : (modAbm f s).rng = s.rng := rfl
@[simp] theorem modAbm_fld (f : Model → Model) (s : State) : (modAbm f s).fld = s.fld := rfl
@[simp] theorem modAbm_pair (f : Model → Model) (s : State) : (modAbm f s).pair = s.pair := rfl
@[simp] theorem modAbm_trv (f : Model → Model) (s : State) : (modAbm f s).trv = s.trv := rfl
@[simp] theorem modAbm_evt (f : Model → Model) (s : State) : (modAbm f s).evt = s.evt := rfl
@[simp] theorem modAbm_log (f : Model → Model) (s : State) : (modAbm f s).log = s.log := rfl
@[simp] theorem modAbm_dmp (f : Model → Model) (s : State) : (modAbm f s).dmp = s.dmp := rfl
@[simp] theorem modAbm_hap (f : Model → Model) (s : State) : (modAbm f s).hap = s.hap := rfl
@[simp] theorem modAbm_sup (f : Model → Model) (s : State) : (modAbm f s).sup = s.sup := rfl
@[simp] theorem modAbm_pnl (f : Model → Model) (s : State) : (modAbm f s).pnl = s.pnl := rfl
@[simp] theorem modAbm_ktl (f : Model → Model) (s : State) : (modAbm f s).ktl = s.ktl := rfl
@[simp] theorem modAbm_life (f : Model → Model) (s : State) : (modAbm f s).life = s.life := rfl
@[simp] theorem modAbm_upd (f : Model → Model) (s : State) : (modAbm f s).upd = s.upd := rfl
@[simp] theorem modAbm_mir_mode (f : Model → Model) (s : State) : (modAbm f s).mir.mode = s.mir.mode := rfl
@[simp] theorem modAbm_mir_mrt (f : Model → Model) (s : State) : (modAbm f s).mir.mrt = s.mir.mrt := rfl
@[simp] theorem modAbm_mir_ldl (f : Model → Model) (s : State) : (modAbm f s).mir.ldl = s.mir.ldl := rfl
@[simp] theorem modAbm_mir_est (f : Model → Model) (s : State) : (modAbm f s).mir.est = s.mir.est := rfl
@[simp] theorem modAbm_mir_ba (f : Model → Model) (s : State) : (modAbm f s).mir.ba = s.mir.ba := rfl
@[simp] theorem modAbm_mir_abm (f : Model → Model) (s : State) : (modAbm f s).mir.abm = f s.mir.abm := rfl
@[simp] theorem modAbm_mir_alc (f : Model → Model) (s : State) : (modAbm f s).mir.alc = s.mir.alc := rfl
@[simp] theorem modAbm_mir_mpc (f : Model → Model) (s : State) : (modAbm f s).mir.mpc = s.mir.mpc := rfl
@[simp] theorem modAbm_mir_cqa (f : Model → Model) (s : State) : (modAbm f s).mir.cqa = s.mir.cqa := rfl
@[simp] theorem modAbm_mir_wsk (f : Model → Model) (s : State) : (modAbm f s).mir.wsk = s.mir.wsk := rfl
@[simp] theorem modAbm_mir_gnA (f : Model → Model) (s : State) : (modAbm f s).mir.gnA = s.mir.gnA := rfl
@[simp] theorem modAbm_mir_gnB (f : Model → Model) (s : State) : (modAbm f s).mir.gnB = s.mir.gnB := rfl
@[simp] theorem modAbm_mir_tim (f : Model → Model) (s : State) : (modAbm f s).mir.tim = s.mir.tim := rfl
@[simp] theorem modAbm_mir_siv (f : Model → Model) (s : State) : (modAbm f s).mir.siv = s.mir.siv := rfl
@[simp] theorem modAbm_mir_fld (f : Model → Model) (s : State) : (modAbm f s).mir.fld = s.mir.fld := rfl
@[simp] theorem modAbm_mir_pair (f : Model → Model) (s : State) : (modAbm f s).mir.pair = s.mir.pair := rfl
@[simp] theorem modAbm_mir_trv (f : Model → Model) (s : State) : (modAbm f s).mir.trv = s.mir.trv := rfl
@[simp] theorem modAbm_mir_evt (f : Model → Model) (s : State) : (modAbm f s).mir.evt = s.mir.evt := rfl
@[simp] theorem modAbm_out (f : Model → Model) (s : State) : (modAbm f s).out = s.out := rfl
@[simp] theorem modAbm_saved (f : Model → Model) (s : State) : (modAbm f s).saved = s.saved := rfl
@[simp] theorem modAbm_free (f : Model → Model) (s : State) : (modAbm f s).free = s.free := rfl
@[simp] theorem modAbm_pending (f : Model → Model) (s : State) : (modAbm f s).pending = s.pending := rfl

/-! ## modPnl -/

@[simp] theorem modPnl_um (f : Panel → Panel) (s : State) : (modPnl f s).um = s.um := rfl
@[simp] theorem modPnl_ex (f : Panel → Panel) (s : State) : (modPnl f s).ex = s.ex := rfl
@[simp] theorem modPnl_cfg (f : Panel → Panel) (s : State) : (modPnl f s).cfg = s.cfg := rfl
@[simp] theorem modPnl_fab (f : Panel → Panel) (s : State) : (modPnl f s).fab = s.fab := rfl
@[simp] theorem modPnl_gnA (f : Panel → Panel) (s : State) : (modPnl f s).gnA = s.gnA := rfl
@[simp] theorem modPnl_gnB (f : Panel → Panel) (s : State) : (modPnl f s).gnB = s.gnB := rfl
@[simp] theorem modPnl_time (f : Panel → Panel) (s : State) : (modPnl f s).time = s.time := rfl
@[simp] theorem modPnl_siv (f : Panel → Panel) (s : State) : (modPnl f s).siv = s.siv := rfl
@[simp] theorem modPnl_rng (f : Panel → Panel) (s : State) : (modPnl f s).rng = s.rng := rfl
@[simp] theorem modPnl_fld (f : Panel → Panel) (s : State) : (modPnl f s).fld = s.fld := rfl
@[simp] theorem modPnl_pair (f : Panel → Panel) (s : State) : (modPnl f s).pair = s.pair := rfl
@[simp] theorem modPnl_trv (f : Panel → Panel) (s : State) : (modPnl f s).trv = s.trv := rfl
@[simp] theorem modPnl_evt (f : Panel → Panel) (s : State) : (modPnl f s).evt = s.evt := rfl
@[simp] theorem modPnl_log (f : Panel → Panel) (s : State) : (modPnl f s).log = s.log := rfl
@[simp] theorem modPnl_dmp (f : Panel → Panel) (s : State) : (modPnl f s).dmp = s.dmp := rfl
@[simp] theorem modPnl_hap (f : Panel → Panel) (s : State) : (modPnl f s).hap = s.hap := rfl
@[simp] theorem modPnl_sup (f : Panel → Panel) (s : State) : (modPnl f s).sup = s.sup := rfl
@[simp] theorem modPnl_pnl (f : Panel → Panel) (s : State) : (modPnl f s).pnl = f s.pnl := rfl
@[simp] theorem modPnl_ktl (f : Panel → Panel) (s : State) : (modPnl f s).ktl = s.ktl := rfl
@[simp] theorem modPnl_life (f : Panel → Panel) (s : State) : (modPnl f s).life = s.life := rfl
@[simp] theorem modPnl_upd (f : Panel → Panel) (s : State) : (modPnl f s).upd = s.upd := rfl
@[simp] theorem modPnl_mir (f : Panel → Panel) (s : State) : (modPnl f s).mir = s.mir := rfl
@[simp] theorem modPnl_out (f : Panel → Panel) (s : State) : (modPnl f s).out = s.out := rfl
@[simp] theorem modPnl_saved (f : Panel → Panel) (s : State) : (modPnl f s).saved = s.saved := rfl
@[simp] theorem modPnl_free (f : Panel → Panel) (s : State) : (modPnl f s).free = s.free := rfl
@[simp] theorem modPnl_pending (f : Panel → Panel) (s : State) : (modPnl f s).pending = s.pending := rfl

/-! ## modSlow -/

@[simp] theorem modSlow_um (f : SlowLocal → SlowLocal) (s : State) : (modSlow f s).um = s.um := rfl
@[simp] theorem modSlow_ex (f : SlowLocal → SlowLocal) (s : State) : (modSlow f s).ex = s.ex := rfl
@[simp] theorem modSlow_cfg (f : SlowLocal → SlowLocal) (s : State) : (modSlow f s).cfg = s.cfg := rfl
@[simp] theorem modSlow_fab (f : SlowLocal → SlowLocal) (s : State) : (modSlow f s).fab = s.fab := rfl
@[simp] theorem modSlow_gnA (f : SlowLocal → SlowLocal) (s : State) : (modSlow f s).gnA = s.gnA := rfl
@[simp] theorem modSlow_gnB (f : SlowLocal → SlowLocal) (s : State) : (modSlow f s).gnB = s.gnB := rfl
@[simp] theorem modSlow_time (f : SlowLocal → SlowLocal) (s : State) : (modSlow f s).time = s.time := rfl
@[simp] theorem modSlow_siv (f : SlowLocal → SlowLocal) (s : State) : (modSlow f s).siv = s.siv := rfl
@[simp] theorem modSlow_rng (f : SlowLocal → SlowLocal) (s : State) : (modSlow f s).rng = s.rng := rfl
@[simp] theorem modSlow_fld (f : SlowLocal → SlowLocal) (s : State) : (modSlow f s).fld = s.fld := rfl
@[simp] theorem modSlow_pair (f : SlowLocal → SlowLocal) (s : State) : (modSlow f s).pair = s.pair := rfl
@[simp] theorem modSlow_trv (f : SlowLocal → SlowLocal) (s : State) : (modSlow f s).trv = s.trv := rfl
@[simp] theorem modSlow_evt (f : SlowLocal → SlowLocal) (s : State) : (modSlow f s).evt = s.evt := rfl
@[simp] theorem modSlow_log (f : SlowLocal → SlowLocal) (s : State) : (modSlow f s).log = s.log := rfl
@[simp] theorem modSlow_dmp (f : SlowLocal → SlowLocal) (s : State) : (modSlow f s).dmp = s.dmp := rfl
@[simp] theorem modSlow_hap (f : SlowLocal → SlowLocal) (s : State) : (modSlow f s).hap = s.hap := rfl
@[simp] theorem modSlow_sup (f : SlowLocal → SlowLocal) (s : State) : (modSlow f s).sup = s.sup := rfl
@[simp] theorem modSlow_pnl (f : SlowLocal → SlowLocal) (s : State) : (modSlow f s).pnl = s.pnl := rfl
@[simp] theorem modSlow_ktl (f : SlowLocal → SlowLocal) (s : State) : (modSlow f s).ktl = s.ktl := rfl
@[simp] theorem modSlow_life (f : SlowLocal → SlowLocal) (s : State) : (modSlow f s).life = s.life := rfl
@[simp] theorem modSlow_upd (f : SlowLocal → SlowLocal) (s : State) : (modSlow f s).upd = s.upd := rfl
@[simp] theorem modSlow_mir (f : SlowLocal → SlowLocal) (s : State) : (modSlow f s).mir = s.mir := rfl
@[simp] theorem modSlow_out (f : SlowLocal → SlowLocal) (s : State) : (modSlow f s).out = s.out := rfl
@[simp] theorem modSlow_saved (f : SlowLocal → SlowLocal) (s : State) : (modSlow f s).saved = s.saved := rfl
@[simp] theorem modSlow_free (f : SlowLocal → SlowLocal) (s : State) : (modSlow f s).free = s.free := rfl
@[simp] theorem modSlow_pending (f : SlowLocal → SlowLocal) (s : State) : (modSlow f s).pending = s.pending := rfl

/-! ## modSup -/

@[simp] theorem modSup_um (f : Supply → Supply) (s : State) : (modSup f s).um = s.um := rfl
@[simp] theorem modSup_ex (f : Supply → Supply) (s : State) : (modSup f s).ex = s.ex := rfl
@[simp] theorem modSup_cfg (f : Supply → Supply) (s : State) : (modSup f s).cfg = s.cfg := rfl
@[simp] theorem modSup_fab (f : Supply → Supply) (s : State) : (modSup f s).fab = s.fab := rfl
@[simp] theorem modSup_gnA (f : Supply → Supply) (s : State) : (modSup f s).gnA = s.gnA := rfl
@[simp] theorem modSup_gnB (f : Supply → Supply) (s : State) : (modSup f s).gnB = s.gnB := rfl
@[simp] theorem modSup_time (f : Supply → Supply) (s : State) : (modSup f s).time = s.time := rfl
@[simp] theorem modSup_siv (f : Supply → Supply) (s : State) : (modSup f s).siv = s.siv := rfl
@[simp] theorem modSup_rng (f : Supply → Supply) (s : State) : (modSup f s).rng = s.rng := rfl
@[simp] theorem modSup_fld (f : Supply → Supply) (s : State) : (modSup f s).fld = s.fld := rfl
@[simp] theorem modSup_pair (f : Supply → Supply) (s : State) : (modSup f s).pair = s.pair := rfl
@[simp] theorem modSup_trv (f : Supply → Supply) (s : State) : (modSup f s).trv = s.trv := rfl
@[simp] theorem modSup_evt (f : Supply → Supply) (s : State) : (modSup f s).evt = s.evt := rfl
@[simp] theorem modSup_log (f : Supply → Supply) (s : State) : (modSup f s).log = s.log := rfl
@[simp] theorem modSup_dmp (f : Supply → Supply) (s : State) : (modSup f s).dmp = s.dmp := rfl
@[simp] theorem modSup_hap (f : Supply → Supply) (s : State) : (modSup f s).hap = s.hap := rfl
@[simp] theorem modSup_sup (f : Supply → Supply) (s : State) : (modSup f s).sup = f s.sup := rfl
@[simp] theorem modSup_pnl (f : Supply → Supply) (s : State) : (modSup f s).pnl = s.pnl := rfl
@[simp] theorem modSup_ktl (f : Supply → Supply) (s : State) : (modSup f s).ktl = s.ktl := rfl
@[simp] theorem modSup_life (f : Supply → Supply) (s : State) : (modSup f s).life = s.life := rfl
@[simp] theorem modSup_upd (f : Supply → Supply) (s : State) : (modSup f s).upd = s.upd := rfl
@[simp] theorem modSup_mir (f : Supply → Supply) (s : State) : (modSup f s).mir = s.mir := rfl
@[simp] theorem modSup_out (f : Supply → Supply) (s : State) : (modSup f s).out = s.out := rfl
@[simp] theorem modSup_saved (f : Supply → Supply) (s : State) : (modSup f s).saved = s.saved := rfl
@[simp] theorem modSup_free (f : Supply → Supply) (s : State) : (modSup f s).free = s.free := rfl
@[simp] theorem modSup_pending (f : Supply → Supply) (s : State) : (modSup f s).pending = s.pending := rfl

/-! ## modTrv -/

@[simp] theorem modTrv_um (f : TrivetMirror → TrivetMirror) (s : State) : (modTrv f s).um = s.um := rfl
@[simp] theorem modTrv_ex (f : TrivetMirror → TrivetMirror) (s : State) : (modTrv f s).ex = s.ex := rfl
@[simp] theorem modTrv_cfg (f : TrivetMirror → TrivetMirror) (s : State) : (modTrv f s).cfg = s.cfg := rfl
@[simp] theorem modTrv_fab (f : TrivetMirror → TrivetMirror) (s : State) : (modTrv f s).fab = s.fab := rfl
@[simp] theorem modTrv_gnA (f : TrivetMirror → TrivetMirror) (s : State) : (modTrv f s).gnA = s.gnA := rfl
@[simp] theorem modTrv_gnB (f : TrivetMirror → TrivetMirror) (s : State) : (modTrv f s).gnB = s.gnB := rfl
@[simp] theorem modTrv_time (f : TrivetMirror → TrivetMirror) (s : State) : (modTrv f s).time = s.time := rfl
@[simp] theorem modTrv_siv (f : TrivetMirror → TrivetMirror) (s : State) : (modTrv f s).siv = s.siv := rfl
@[simp] theorem modTrv_rng (f : TrivetMirror → TrivetMirror) (s : State) : (modTrv f s).rng = s.rng := rfl
@[simp] theorem modTrv_fld (f : TrivetMirror → TrivetMirror) (s : State) : (modTrv f s).fld = s.fld := rfl
@[simp] theorem modTrv_pair (f : TrivetMirror → TrivetMirror) (s : State) : (modTrv f s).pair = s.pair := rfl
@[simp] theorem modTrv_trv (f : TrivetMirror → TrivetMirror) (s : State) : (modTrv f s).trv = s.trv := rfl
@[simp] theorem modTrv_evt (f : TrivetMirror → TrivetMirror) (s : State) : (modTrv f s).evt = s.evt := rfl
@[simp] theorem modTrv_log (f : TrivetMirror → TrivetMirror) (s : State) : (modTrv f s).log = s.log := rfl
@[simp] theorem modTrv_dmp (f : TrivetMirror → TrivetMirror) (s : State) : (modTrv f s).dmp = s.dmp := rfl
@[simp] theorem modTrv_hap (f : TrivetMirror → TrivetMirror) (s : State) : (modTrv f s).hap = s.hap := rfl
@[simp] theorem modTrv_sup (f : TrivetMirror → TrivetMirror) (s : State) : (modTrv f s).sup = s.sup := rfl
@[simp] theorem modTrv_pnl (f : TrivetMirror → TrivetMirror) (s : State) : (modTrv f s).pnl = s.pnl := rfl
@[simp] theorem modTrv_ktl (f : TrivetMirror → TrivetMirror) (s : State) : (modTrv f s).ktl = s.ktl := rfl
@[simp] theorem modTrv_life (f : TrivetMirror → TrivetMirror) (s : State) : (modTrv f s).life = s.life := rfl
@[simp] theorem modTrv_upd (f : TrivetMirror → TrivetMirror) (s : State) : (modTrv f s).upd = s.upd := rfl
@[simp] theorem modTrv_mir_mode (f : TrivetMirror → TrivetMirror) (s : State) : (modTrv f s).mir.mode = s.mir.mode := rfl
@[simp] theorem modTrv_mir_mrt (f : TrivetMirror → TrivetMirror) (s : State) : (modTrv f s).mir.mrt = s.mir.mrt := rfl
@[simp] theorem modTrv_mir_ldl (f : TrivetMirror → TrivetMirror) (s : State) : (modTrv f s).mir.ldl = s.mir.ldl := rfl
@[simp] theorem modTrv_mir_est (f : TrivetMirror → TrivetMirror) (s : State) : (modTrv f s).mir.est = s.mir.est := rfl
@[simp] theorem modTrv_mir_ba (f : TrivetMirror → TrivetMirror) (s : State) : (modTrv f s).mir.ba = s.mir.ba := rfl
@[simp] theorem modTrv_mir_abm (f : TrivetMirror → TrivetMirror) (s : State) : (modTrv f s).mir.abm = s.mir.abm := rfl
@[simp] theorem modTrv_mir_alc (f : TrivetMirror → TrivetMirror) (s : State) : (modTrv f s).mir.alc = s.mir.alc := rfl
@[simp] theorem modTrv_mir_mpc (f : TrivetMirror → TrivetMirror) (s : State) : (modTrv f s).mir.mpc = s.mir.mpc := rfl
@[simp] theorem modTrv_mir_cqa (f : TrivetMirror → TrivetMirror) (s : State) : (modTrv f s).mir.cqa = s.mir.cqa := rfl
@[simp] theorem modTrv_mir_wsk (f : TrivetMirror → TrivetMirror) (s : State) : (modTrv f s).mir.wsk = s.mir.wsk := rfl
@[simp] theorem modTrv_mir_gnA (f : TrivetMirror → TrivetMirror) (s : State) : (modTrv f s).mir.gnA = s.mir.gnA := rfl
@[simp] theorem modTrv_mir_gnB (f : TrivetMirror → TrivetMirror) (s : State) : (modTrv f s).mir.gnB = s.mir.gnB := rfl
@[simp] theorem modTrv_mir_tim (f : TrivetMirror → TrivetMirror) (s : State) : (modTrv f s).mir.tim = s.mir.tim := rfl
@[simp] theorem modTrv_mir_siv (f : TrivetMirror → TrivetMirror) (s : State) : (modTrv f s).mir.siv = s.mir.siv := rfl
@[simp] theorem modTrv_mir_fld (f : TrivetMirror → TrivetMirror) (s : State) : (modTrv f s).mir.fld = s.mir.fld := rfl
@[simp] theorem modTrv_mir_pair (f : TrivetMirror → TrivetMirror) (s : State) : (modTrv f s).mir.pair = s.mir.pair := rfl
@[simp] theorem modTrv_mir_trv (f : TrivetMirror → TrivetMirror) (s : State) : (modTrv f s).mir.trv = f s.mir.trv := rfl
@[simp] theorem modTrv_mir_evt (f : TrivetMirror → TrivetMirror) (s : State) : (modTrv f s).mir.evt = s.mir.evt := rfl
@[simp] theorem modTrv_out (f : TrivetMirror → TrivetMirror) (s : State) : (modTrv f s).out = s.out := rfl
@[simp] theorem modTrv_saved (f : TrivetMirror → TrivetMirror) (s : State) : (modTrv f s).saved = s.saved := rfl
@[simp] theorem modTrv_free (f : TrivetMirror → TrivetMirror) (s : State) : (modTrv f s).free = s.free := rfl
@[simp] theorem modTrv_pending (f : TrivetMirror → TrivetMirror) (s : State) : (modTrv f s).pending = s.pending := rfl

/-! ## send -/

@[simp] theorem send_um (x : OutFrame) (s : State) : (send x s).um = s.um := rfl
@[simp] theorem send_ex (x : OutFrame) (s : State) : (send x s).ex = s.ex := rfl
@[simp] theorem send_cfg (x : OutFrame) (s : State) : (send x s).cfg = s.cfg := rfl
@[simp] theorem send_fab (x : OutFrame) (s : State) : (send x s).fab = s.fab := rfl
@[simp] theorem send_gnA (x : OutFrame) (s : State) : (send x s).gnA = s.gnA := rfl
@[simp] theorem send_gnB (x : OutFrame) (s : State) : (send x s).gnB = s.gnB := rfl
@[simp] theorem send_time (x : OutFrame) (s : State) : (send x s).time = s.time := rfl
@[simp] theorem send_siv (x : OutFrame) (s : State) : (send x s).siv = s.siv := rfl
@[simp] theorem send_rng (x : OutFrame) (s : State) : (send x s).rng = s.rng := rfl
@[simp] theorem send_fld (x : OutFrame) (s : State) : (send x s).fld = s.fld := rfl
@[simp] theorem send_pair (x : OutFrame) (s : State) : (send x s).pair = s.pair := rfl
@[simp] theorem send_trv (x : OutFrame) (s : State) : (send x s).trv = s.trv := rfl
@[simp] theorem send_evt (x : OutFrame) (s : State) : (send x s).evt = s.evt := rfl
@[simp] theorem send_log (x : OutFrame) (s : State) : (send x s).log = s.log := rfl
@[simp] theorem send_dmp (x : OutFrame) (s : State) : (send x s).dmp = s.dmp := rfl
@[simp] theorem send_hap (x : OutFrame) (s : State) : (send x s).hap = s.hap := rfl
@[simp] theorem send_sup (x : OutFrame) (s : State) : (send x s).sup = s.sup := rfl
@[simp] theorem send_pnl (x : OutFrame) (s : State) : (send x s).pnl = s.pnl := rfl
@[simp] theorem send_ktl (x : OutFrame) (s : State) : (send x s).ktl = s.ktl := rfl
@[simp] theorem send_life (x : OutFrame) (s : State) : (send x s).life = s.life := rfl
@[simp] theorem send_upd (x : OutFrame) (s : State) : (send x s).upd = s.upd := rfl
@[simp] theorem send_mir (x : OutFrame) (s : State) : (send x s).mir = s.mir := rfl
@[simp] theorem send_out (x : OutFrame) (s : State) : (send x s).out = sentBy s x :: s.out := rfl
@[simp] theorem send_saved (x : OutFrame) (s : State) : (send x s).saved = s.saved := rfl
@[simp] theorem send_free (x : OutFrame) (s : State) : (send x s).free = s.free := rfl
@[simp] theorem send_pending (x : OutFrame) (s : State) : (send x s).pending = s.pending := rfl

/-! ## addDue -/

@[simp] theorem addDue_um (x : DueRecord) (s : State) : (addDue x s).um = s.um := rfl
@[simp] theorem addDue_ex (x : DueRecord) (s : State) : (addDue x s).ex = s.ex := rfl
@[simp] theorem addDue_cfg (x : DueRecord) (s : State) : (addDue x s).cfg = s.cfg := rfl
@[simp] theorem addDue_fab (x : DueRecord) (s : State) : (addDue x s).fab = s.fab := rfl
@[simp] theorem addDue_gnA (x : DueRecord) (s : State) : (addDue x s).gnA = s.gnA := rfl
@[simp] theorem addDue_gnB (x : DueRecord) (s : State) : (addDue x s).gnB = s.gnB := rfl
@[simp] theorem addDue_time (x : DueRecord) (s : State) : (addDue x s).time = s.time := rfl
@[simp] theorem addDue_siv (x : DueRecord) (s : State) : (addDue x s).siv = s.siv := rfl
@[simp] theorem addDue_rng (x : DueRecord) (s : State) : (addDue x s).rng = s.rng := rfl
@[simp] theorem addDue_fld (x : DueRecord) (s : State) : (addDue x s).fld = s.fld := rfl
@[simp] theorem addDue_pair (x : DueRecord) (s : State) : (addDue x s).pair = s.pair := rfl
@[simp] theorem addDue_trv (x : DueRecord) (s : State) : (addDue x s).trv = s.trv := rfl
@[simp] theorem addDue_evt (x : DueRecord) (s : State) : (addDue x s).evt = { s.evt with due := s.evt.due ++ [x] } := rfl
@[simp] theorem addDue_log (x : DueRecord) (s : State) : (addDue x s).log = s.log := rfl
@[simp] theorem addDue_dmp (x : DueRecord) (s : State) : (addDue x s).dmp = s.dmp := rfl
@[simp] theorem addDue_hap (x : DueRecord) (s : State) : (addDue x s).hap = s.hap := rfl
@[simp] theorem addDue_sup (x : DueRecord) (s : State) : (addDue x s).sup = s.sup := rfl
@[simp] theorem addDue_pnl (x : DueRecord) (s : State) : (addDue x s).pnl = s.pnl := rfl
@[simp] theorem addDue_ktl (x : DueRecord) (s : State) : (addDue x s).ktl = s.ktl := rfl
@[simp] theorem addDue_life (x : DueRecord) (s : State) : (addDue x s).life = s.life := rfl
@[simp] theorem addDue_upd (x : DueRecord) (s : State) : (addDue x s).upd = s.upd := rfl
@[simp] theorem addDue_mir (x : DueRecord) (s : State) : (addDue x s).mir = s.mir := rfl
@[simp] theorem addDue_out (x : DueRecord) (s : State) : (addDue x s).out = s.out := rfl
@[simp] theorem addDue_saved (x : DueRecord) (s : State) : (addDue x s).saved = s.saved := rfl
@[simp] theorem addDue_free (x : DueRecord) (s : State) : (addDue x s).free = s.free := rfl
@[simp] theorem addDue_pending (x : DueRecord) (s : State) : (addDue x s).pending = s.pending := rfl

end Sys2Proof.Machine
end

