-- ==== Sys2Proof/Laws/Kept.lean ====
section
/-! SUPPORT. What the operations leave alone: for the state of the unit that few operations touch (mode, strap, image, life
cycle, the addressed memories, the recorder, the queue), one lemma for each operation, so that no proof about it unfolds one. -/

set_option linter.all false

namespace Sys2Proof.Machine

/-- The parts of the state that few operations touch. -/
structure Kept where
  mode : Mode
  unit : UnitId
  cfg : Config
  life : Life
  dump : List Host.Cell
  records : List EvRecord
  full : Bool
  staging : List Host.Cell
  frame : List Host.Cell
  bankA : List Host.Cell
  bankB : List Host.Cell
  pending : List Instr

/-- Those parts of a state. -/
def kept (s : State) : Kept :=
  ⟨s.um.mode, s.um.unit, s.cfg, s.life, s.dmp.mem, s.log.records, s.log.full, s.upd.staging, s.pnl.frame, s.upd.bankA.content, s.upd.bankB.content, s.pending⟩

/-- The parts kept by an outcome that is a next state. -/
def keptOut : Host.Outcome State Fault Refusal → Option Kept
  | .next t => some (kept t)
  | _ => none

theorem kept_foldl {α : Type} (g : State → α → State) (h : ∀ s x, kept (g s x) = kept s) (l : List α) (s : State) :
    kept (l.foldl g s) = kept s := by
  induction l generalizing s with
  | nil => rfl
  | cons x r ih => rw [List.foldl_cons, ih, h]

theorem kept_mode_foldl {α : Type} (g : State → α → State) (h : ∀ s x, (kept (g s x)).mode = (kept s).mode) (l : List α) (s : State) :
    (kept (l.foldl g s)).mode = (kept s).mode := by
  induction l generalizing s with
  | nil => rfl
  | cons x r ih => rw [List.foldl_cons, ih, h]

theorem kept_unit_foldl {α : Type} (g : State → α → State) (h : ∀ s x, (kept (g s x)).unit = (kept s).unit) (l : List α) (s : State) :
    (kept (l.foldl g s)).unit = (kept s).unit := by
  induction l generalizing s with
  | nil => rfl
  | cons x r ih => rw [List.foldl_cons, ih, h]

theorem kept_cfg_foldl {α : Type} (g : State → α → State) (h : ∀ s x, (kept (g s x)).cfg = (kept s).cfg) (l : List α) (s : State) :
    (kept (l.foldl g s)).cfg = (kept s).cfg := by
  induction l generalizing s with
  | nil => rfl
  | cons x r ih => rw [List.foldl_cons, ih, h]

theorem kept_life_foldl {α : Type} (g : State → α → State) (h : ∀ s x, (kept (g s x)).life = (kept s).life) (l : List α) (s : State) :
    (kept (l.foldl g s)).life = (kept s).life := by
  induction l generalizing s with
  | nil => rfl
  | cons x r ih => rw [List.foldl_cons, ih, h]

theorem kept_dump_foldl {α : Type} (g : State → α → State) (h : ∀ s x, (kept (g s x)).dump = (kept s).dump) (l : List α) (s : State) :
    (kept (l.foldl g s)).dump = (kept s).dump := by
  induction l generalizing s with
  | nil => rfl
  | cons x r ih => rw [List.foldl_cons, ih, h]

theorem kept_records_foldl {α : Type} (g : State → α → State) (h : ∀ s x, (kept (g s x)).records = (kept s).records) (l : List α) (s : State) :
    (kept (l.foldl g s)).records = (kept s).records := by
  induction l generalizing s with
  | nil => rfl
  | cons x r ih => rw [List.foldl_cons, ih, h]

theorem kept_full_foldl {α : Type} (g : State → α → State) (h : ∀ s x, (kept (g s x)).full = (kept s).full) (l : List α) (s : State) :
    (kept (l.foldl g s)).full = (kept s).full := by
  induction l generalizing s with
  | nil => rfl
  | cons x r ih => rw [List.foldl_cons, ih, h]

theorem kept_staging_foldl {α : Type} (g : State → α → State) (h : ∀ s x, (kept (g s x)).staging = (kept s).staging) (l : List α) (s : State) :
    (kept (l.foldl g s)).staging = (kept s).staging := by
  induction l generalizing s with
  | nil => rfl
  | cons x r ih => rw [List.foldl_cons, ih, h]

theorem kept_frame_foldl {α : Type} (g : State → α → State) (h : ∀ s x, (kept (g s x)).frame = (kept s).frame) (l : List α) (s : State) :
    (kept (l.foldl g s)).frame = (kept s).frame := by
  induction l generalizing s with
  | nil => rfl
  | cons x r ih => rw [List.foldl_cons, ih, h]

theorem kept_bankA_foldl {α : Type} (g : State → α → State) (h : ∀ s x, (kept (g s x)).bankA = (kept s).bankA) (l : List α) (s : State) :
    (kept (l.foldl g s)).bankA = (kept s).bankA := by
  induction l generalizing s with
  | nil => rfl
  | cons x r ih => rw [List.foldl_cons, ih, h]

theorem kept_bankB_foldl {α : Type} (g : State → α → State) (h : ∀ s x, (kept (g s x)).bankB = (kept s).bankB) (l : List α) (s : State) :
    (kept (l.foldl g s)).bankB = (kept s).bankB := by
  induction l generalizing s with
  | nil => rfl
  | cons x r ih => rw [List.foldl_cons, ih, h]

theorem kept_pending_foldl {α : Type} (g : State → α → State) (h : ∀ s x, (kept (g s x)).pending = (kept s).pending) (l : List α) (s : State) :
    (kept (l.foldl g s)).pending = (kept s).pending := by
  induction l generalizing s with
  | nil => rfl
  | cons x r ih => rw [List.foldl_cons, ih, h]

/-- Where the parts of the state stand: a proof about `kept` rewrites their reads with these. -/
theorem kept_at :
    (∀ s : State, s.um.mode = (kept s).mode) ∧
    (∀ s : State, s.um.unit = (kept s).unit) ∧
    (∀ s : State, s.cfg = (kept s).cfg) ∧
    (∀ s : State, s.life = (kept s).life) ∧
    (∀ s : State, s.dmp.mem = (kept s).dump) ∧
    (∀ s : State, s.log.records = (kept s).records) ∧
    (∀ s : State, s.log.full = (kept s).full) ∧
    (∀ s : State, s.upd.staging = (kept s).staging) ∧
    (∀ s : State, s.pnl.frame = (kept s).frame) ∧
    (∀ s : State, s.upd.bankA.content = (kept s).bankA) ∧
    (∀ s : State, s.upd.bankB.content = (kept s).bankB) ∧
    (∀ s : State, s.pending = (kept s).pending) := by
  refine ⟨?_, ?_, ?_, ?_, ?_, ?_, ?_, ?_, ?_, ?_, ?_, ?_⟩ <;> (intro s; cases s; rfl)

/-- How a record update and a choice read under `kept`. -/
@[simp] theorem kept_rules :
    (∀ (um : UnitMode) (ex : Exchange) (cfg : Config) (fab : Fabric) (slow : SlowLocal) (gnA : Engine) (gnB : Engine) (time : TimeUnit) (siv : SieveLocal) (rng : RingLocal) (fld : FieldLocal) (pair : PairLocal) (trv : TrivetLocal) (evt : EventLocal) (log : Recorder) (dmp : Dump) (hap : Hap) (sup : Supply) (pnl : Panel) (ktl : Kettle) (life : Life) (upd : Update) (mir : Mirrored) (out : List Sent) (saved : Option Mirrored) (free : Nat) (pending : List Instr),
      kept (State.mk um ex cfg fab slow gnA gnB time siv rng fld pair trv evt log dmp hap sup pnl ktl life upd mir out saved free pending) = Kept.mk um.mode um.unit cfg life dmp.mem log.records log.full upd.staging pnl.frame upd.bankA.content upd.bankB.content pending) ∧
    (∀ s : State, Kept.mk (kept s).mode (kept s).unit (kept s).cfg (kept s).life (kept s).dump (kept s).records (kept s).full (kept s).staging (kept s).frame (kept s).bankA (kept s).bankB (kept s).pending = kept s) ∧
    (∀ (c : Prop) [Decidable c] (a b : State), kept (if c then a else b) = if c then kept a else kept b) ∧
    (∀ (c : Prop) [Decidable c] (a b : Kept), (if c then a else b).mode = if c then a.mode else b.mode) ∧
    (∀ (c : Prop) [Decidable c] (a b : Kept), (if c then a else b).unit = if c then a.unit else b.unit) ∧
    (∀ (c : Prop) [Decidable c] (a b : Kept), (if c then a else b).cfg = if c then a.cfg else b.cfg) ∧
    (∀ (c : Prop) [Decidable c] (a b : Kept), (if c then a else b).life = if c then a.life else b.life) ∧
    (∀ (c : Prop) [Decidable c] (a b : Kept), (if c then a else b).dump = if c then a.dump else b.dump) ∧
    (∀ (c : Prop) [Decidable c] (a b : Kept), (if c then a else b).records = if c then a.records else b.records) ∧
    (∀ (c : Prop) [Decidable c] (a b : Kept), (if c then a else b).full = if c then a.full else b.full) ∧
    (∀ (c : Prop) [Decidable c] (a b : Kept), (if c then a else b).staging = if c then a.staging else b.staging) ∧
    (∀ (c : Prop) [Decidable c] (a b : Kept), (if c then a else b).frame = if c then a.frame else b.frame) ∧
    (∀ (c : Prop) [Decidable c] (a b : Kept), (if c then a else b).bankA = if c then a.bankA else b.bankA) ∧
    (∀ (c : Prop) [Decidable c] (a b : Kept), (if c then a else b).bankB = if c then a.bankB else b.bankB) ∧
    (∀ (c : Prop) [Decidable c] (a b : Kept), (if c then a else b).pending = if c then a.pending else b.pending) ∧
    (∀ (c : Prop) [Decidable c] (a b : State), (if c then a else b).um = if c then a.um else b.um) ∧
    (∀ (c : Prop) [Decidable c] (a b : UnitMode), (if c then a else b).mode = if c then a.mode else b.mode) ∧
    (∀ (c : Prop) [Decidable c] (a b : UnitMode), (if c then a else b).unit = if c then a.unit else b.unit) ∧
    (∀ (c : Prop) [Decidable c] (a b : State), (if c then a else b).cfg = if c then a.cfg else b.cfg) ∧
    (∀ (c : Prop) [Decidable c] (a b : State), (if c then a else b).life = if c then a.life else b.life) ∧
    (∀ (c : Prop) [Decidable c] (a b : State), (if c then a else b).dmp = if c then a.dmp else b.dmp) ∧
    (∀ (c : Prop) [Decidable c] (a b : Dump), (if c then a else b).mem = if c then a.mem else b.mem) ∧
    (∀ (c : Prop) [Decidable c] (a b : State), (if c then a else b).log = if c then a.log else b.log) ∧
    (∀ (c : Prop) [Decidable c] (a b : Recorder), (if c then a else b).records = if c then a.records else b.records) ∧
    (∀ (c : Prop) [Decidable c] (a b : Recorder), (if c then a else b).full = if c then a.full else b.full) ∧
    (∀ (c : Prop) [Decidable c] (a b : State), (if c then a else b).upd = if c then a.upd else b.upd) ∧
    (∀ (c : Prop) [Decidable c] (a b : Update), (if c then a else b).staging = if c then a.staging else b.staging) ∧
    (∀ (c : Prop) [Decidable c] (a b : State), (if c then a else b).pnl = if c then a.pnl else b.pnl) ∧
    (∀ (c : Prop) [Decidable c] (a b : Panel), (if c then a else b).frame = if c then a.frame else b.frame) ∧
    (∀ (c : Prop) [Decidable c] (a b : Update), (if c then a else b).bankA = if c then a.bankA else b.bankA) ∧
    (∀ (c : Prop) [Decidable c] (a b : Update), (if c then a else b).bankB = if c then a.bankB else b.bankB) ∧
    (∀ (c : Prop) [Decidable c] (a b : State), (if c then a else b).pending = if c then a.pending else b.pending) ∧
    (∀ (c : Prop) [Decidable c] (a b : Bank), (if c then a else b).content = if c then a.content else b.content) ∧
    (∀ t : State, keptOut (.next t) = some (kept t)) ∧
    (∀ (c : Prop) [Decidable c] (a b : Host.Outcome State Fault Refusal), keptOut (if c then a else b) = if c then keptOut a else keptOut b) ∧
    (∀ (α : Type) (c : Prop) [Decidable c] (a b : α × State), (if c then a else b).2 = if c then a.2 else b.2) ∧
    (∀ (α : Type) (c : Prop) [Decidable c] (a b : State × α), (if c then a else b).1 = if c then a.1 else b.1) := by
  refine ⟨?_, ?_, ?_, ?_, ?_, ?_, ?_, ?_, ?_, ?_, ?_, ?_, ?_, ?_, ?_, ?_, ?_, ?_, ?_, ?_, ?_, ?_, ?_, ?_, ?_, ?_, ?_, ?_, ?_, ?_, ?_, ?_, ?_, ?_, ?_, ?_, ?_⟩
  all_goals intros
  all_goals first | rfl | (split <;> rfl)

@[simp] theorem updateRelays_kept (s : State) : kept (updateRelays s) = kept s := by
  unfold updateRelays
  simp [kept_at, kept_foldl]

@[simp] theorem addDue_kept (r : DueRecord) (s : State) : kept (addDue r s) = kept s := by
  unfold addDue
  simp [kept_at, kept_foldl]

@[simp] theorem setRaised_kept (e : Nat) (s : State) : kept (setRaised e s) = kept s := by
  unfold setRaised
  simp [kept_at, kept_foldl]

@[simp] theorem noteIndex_kept (e : Nat) (i : Nat) (s : State) : kept (noteIndex e i s) = kept s := by
  unfold noteIndex
  simp [kept_at, kept_foldl]

@[simp] theorem raiseWith_kept (e : Nat) (w0 : Nat) (w1 : Nat) (v : Int) (s : State) : kept (raiseWith e w0 w1 v s) = kept s := by
  unfold raiseWith
  simp [kept_at, kept_foldl]

@[simp] theorem raise_kept (e : Nat) (s : State) : kept (raise e s) = kept s := by
  unfold raise
  simp [kept_at, kept_foldl]

@[simp] theorem raiseAt_kept (e : Nat) (i : Nat) (s : State) : kept (raiseAt e i s) = kept s := by
  unfold raiseAt
  simp [kept_at, kept_foldl]

@[simp] theorem clearEvent_kept (e : Nat) (s : State) : kept (clearEvent e s) = kept s := by
  unfold clearEvent
  simp [kept_at, kept_foldl]

@[simp] theorem condition_kept (e : Nat) (on : Bool) (s : State) : kept (condition e on s) = kept s := by
  unfold condition
  simp [kept_at, kept_foldl]

@[simp] theorem conditionAt_kept (e : Nat) (i : Nat) (on : Bool) (s : State) : kept (conditionAt e i on s) = kept s := by
  unfold conditionAt
  simp [kept_at, kept_foldl]

@[simp] theorem ackEvent_kept (station : Nat) (e : Nat) (s : State) : kept (ackEvent station e s) = kept s := by
  unfold ackEvent
  simp [kept_at, kept_foldl]

@[simp] theorem ackAll_kept (station : Nat) (s : State) : kept (ackAll station s) = kept s := by
  unfold ackAll
  simp [kept_at, kept_foldl]

@[simp] theorem endMomentary_kept (s : State) : kept (endMomentary s) = kept s := by
  unfold endMomentary
  simp [kept_at, kept_foldl]

@[simp] theorem writeRecord_kept_mode (d : DueRecord) (s : State) : (kept (writeRecord d s)).mode = (kept s).mode := by
  unfold writeRecord
  repeat' (first | with_reducible rfl | (simp [kept_mode_foldl, kept_at, kept_foldl]; done) | split | rw [kept_mode_foldl] | intro _ | dsimp only | simp [kept_mode_foldl, kept_at, kept_foldl])

@[simp] theorem writeRecord_kept_unit (d : DueRecord) (s : State) : (kept (writeRecord d s)).unit = (kept s).unit := by
  unfold writeRecord
  repeat' (first | with_reducible rfl | (simp [kept_unit_foldl, kept_at, kept_foldl]; done) | split | rw [kept_unit_foldl] | intro _ | dsimp only | simp [kept_unit_foldl, kept_at, kept_foldl])

@[simp] theorem writeRecord_kept_cfg (d : DueRecord) (s : State) : (kept (writeRecord d s)).cfg = (kept s).cfg := by
  unfold writeRecord
  repeat' (first | with_reducible rfl | (simp [kept_cfg_foldl, kept_at, kept_foldl]; done) | split | rw [kept_cfg_foldl] | intro _ | dsimp only | simp [kept_cfg_foldl, kept_at, kept_foldl])

@[simp] theorem writeRecord_kept_life (d : DueRecord) (s : State) : (kept (writeRecord d s)).life = (kept s).life := by
  unfold writeRecord
  repeat' (first | with_reducible rfl | (simp [kept_life_foldl, kept_at, kept_foldl]; done) | split | rw [kept_life_foldl] | intro _ | dsimp only | simp [kept_life_foldl, kept_at, kept_foldl])

@[simp] theorem writeRecord_kept_dump (d : DueRecord) (s : State) : (kept (writeRecord d s)).dump = (kept s).dump := by
  unfold writeRecord
  repeat' (first | with_reducible rfl | (simp [kept_dump_foldl, kept_at, kept_foldl]; done) | split | rw [kept_dump_foldl] | intro _ | dsimp only | simp [kept_dump_foldl, kept_at, kept_foldl])

@[simp] theorem writeRecord_kept_staging (d : DueRecord) (s : State) : (kept (writeRecord d s)).staging = (kept s).staging := by
  unfold writeRecord
  repeat' (first | with_reducible rfl | (simp [kept_staging_foldl, kept_at, kept_foldl]; done) | split | rw [kept_staging_foldl] | intro _ | dsimp only | simp [kept_staging_foldl, kept_at, kept_foldl])

@[simp] theorem writeRecord_kept_frame (d : DueRecord) (s : State) : (kept (writeRecord d s)).frame = (kept s).frame := by
  unfold writeRecord
  repeat' (first | with_reducible rfl | (simp [kept_frame_foldl, kept_at, kept_foldl]; done) | split | rw [kept_frame_foldl] | intro _ | dsimp only | simp [kept_frame_foldl, kept_at, kept_foldl])

@[simp] theorem writeRecord_kept_bankA (d : DueRecord) (s : State) : (kept (writeRecord d s)).bankA = (kept s).bankA := by
  unfold writeRecord
  repeat' (first | with_reducible rfl | (simp [kept_bankA_foldl, kept_at, kept_foldl]; done) | split | rw [kept_bankA_foldl] | intro _ | dsimp only | simp [kept_bankA_foldl, kept_at, kept_foldl])

@[simp] theorem writeRecord_kept_bankB (d : DueRecord) (s : State) : (kept (writeRecord d s)).bankB = (kept s).bankB := by
  unfold writeRecord
  repeat' (first | with_reducible rfl | (simp [kept_bankB_foldl, kept_at, kept_foldl]; done) | split | rw [kept_bankB_foldl] | intro _ | dsimp only | simp [kept_bankB_foldl, kept_at, kept_foldl])

@[simp] theorem writeRecord_kept_pending (d : DueRecord) (s : State) : (kept (writeRecord d s)).pending = (kept s).pending := by
  unfold writeRecord
  repeat' (first | with_reducible rfl | (simp [kept_pending_foldl, kept_at, kept_foldl]; done) | split | rw [kept_pending_foldl] | intro _ | dsimp only | simp [kept_pending_foldl, kept_at, kept_foldl])

@[simp] theorem writeDue_kept_mode (s : State) : (kept (writeDue s)).mode = (kept s).mode := by
  unfold writeDue
  simp [kept_mode_foldl, kept_at, kept_foldl]

@[simp] theorem writeDue_kept_unit (s : State) : (kept (writeDue s)).unit = (kept s).unit := by
  unfold writeDue
  simp [kept_unit_foldl, kept_at, kept_foldl]

@[simp] theorem writeDue_kept_cfg (s : State) : (kept (writeDue s)).cfg = (kept s).cfg := by
  unfold writeDue
  simp [kept_cfg_foldl, kept_at, kept_foldl]

@[simp] theorem writeDue_kept_life (s : State) : (kept (writeDue s)).life = (kept s).life := by
  unfold writeDue
  simp [kept_life_foldl, kept_at, kept_foldl]

@[simp] theorem writeDue_kept_dump (s : State) : (kept (writeDue s)).dump = (kept s).dump := by
  unfold writeDue
  simp [kept_dump_foldl, kept_at, kept_foldl]

@[simp] theorem writeDue_kept_staging (s : State) : (kept (writeDue s)).staging = (kept s).staging := by
  unfold writeDue
  simp [kept_staging_foldl, kept_at, kept_foldl]

@[simp] theorem writeDue_kept_frame (s : State) : (kept (writeDue s)).frame = (kept s).frame := by
  unfold writeDue
  simp [kept_frame_foldl, kept_at, kept_foldl]

@[simp] theorem writeDue_kept_bankA (s : State) : (kept (writeDue s)).bankA = (kept s).bankA := by
  unfold writeDue
  simp [kept_bankA_foldl, kept_at, kept_foldl]

@[simp] theorem writeDue_kept_bankB (s : State) : (kept (writeDue s)).bankB = (kept s).bankB := by
  unfold writeDue
  simp [kept_bankB_foldl, kept_at, kept_foldl]

@[simp] theorem writeDue_kept_pending (s : State) : (kept (writeDue s)).pending = (kept s).pending := by
  unfold writeDue
  simp [kept_pending_foldl, kept_at, kept_foldl]

@[simp] theorem send_kept (f : OutFrame) (s : State) : kept (send f s) = kept s := by
  unfold send
  simp [kept_at, kept_foldl]

@[simp] theorem drawFree_kept (s : State) : kept (drawFree s).2 = kept s := by
  unfold drawFree
  simp [kept_at, kept_foldl]

@[simp] theorem when_kept (c : Bool) (f : State → State) (s : State) (h0 : ∀ s, kept (f s) = kept s) : kept (when c f s) = kept s := by
  unfold when
  simp [h0, kept_at, kept_foldl]

@[simp] theorem changeMode_kept_unit (dst : Mode) (cause : Nat) (s : State) : (kept (changeMode dst cause s)).unit = (kept s).unit := by
  unfold changeMode
  simp [kept_unit_foldl, kept_at, kept_foldl]

@[simp] theorem changeMode_kept_cfg (dst : Mode) (cause : Nat) (s : State) : (kept (changeMode dst cause s)).cfg = (kept s).cfg := by
  unfold changeMode
  simp [kept_cfg_foldl, kept_at, kept_foldl]

@[simp] theorem changeMode_kept_life (dst : Mode) (cause : Nat) (s : State) : (kept (changeMode dst cause s)).life = (kept s).life := by
  unfold changeMode
  simp [kept_life_foldl, kept_at, kept_foldl]

@[simp] theorem changeMode_kept_dump (dst : Mode) (cause : Nat) (s : State) : (kept (changeMode dst cause s)).dump = (kept s).dump := by
  unfold changeMode
  simp [kept_dump_foldl, kept_at, kept_foldl]

@[simp] theorem changeMode_kept_records (dst : Mode) (cause : Nat) (s : State) : (kept (changeMode dst cause s)).records = (kept s).records := by
  unfold changeMode
  simp [kept_records_foldl, kept_at, kept_foldl]

@[simp] theorem changeMode_kept_full (dst : Mode) (cause : Nat) (s : State) : (kept (changeMode dst cause s)).full = (kept s).full := by
  unfold changeMode
  simp [kept_full_foldl, kept_at, kept_foldl]

@[simp] theorem changeMode_kept_staging (dst : Mode) (cause : Nat) (s : State) : (kept (changeMode dst cause s)).staging = (kept s).staging := by
  unfold changeMode
  simp [kept_staging_foldl, kept_at, kept_foldl]

@[simp] theorem changeMode_kept_frame (dst : Mode) (cause : Nat) (s : State) : (kept (changeMode dst cause s)).frame = (kept s).frame := by
  unfold changeMode
  simp [kept_frame_foldl, kept_at, kept_foldl]

@[simp] theorem changeMode_kept_bankA (dst : Mode) (cause : Nat) (s : State) : (kept (changeMode dst cause s)).bankA = (kept s).bankA := by
  unfold changeMode
  simp [kept_bankA_foldl, kept_at, kept_foldl]

@[simp] theorem changeMode_kept_bankB (dst : Mode) (cause : Nat) (s : State) : (kept (changeMode dst cause s)).bankB = (kept s).bankB := by
  unfold changeMode
  simp [kept_bankB_foldl, kept_at, kept_foldl]

@[simp] theorem changeMode_kept_pending (dst : Mode) (cause : Nat) (s : State) : (kept (changeMode dst cause s)).pending = (kept s).pending := by
  unfold changeMode
  simp [kept_pending_foldl, kept_at, kept_foldl]

@[simp] theorem dropRole_kept (s : State) : kept (dropRole s) = kept s := by
  unfold dropRole
  simp [kept_at, kept_foldl]

@[simp] theorem discardRecords_kept (s : State) : kept (discardRecords s) = kept s := by
  unfold discardRecords
  simp [kept_at, kept_foldl]

@[simp] theorem openOutputs_kept (s : State) : kept (openOutputs s) = kept s := by
  unfold openOutputs
  simp [kept_at, kept_foldl]

@[simp] theorem findFault_kept (cause : Nat) (s : State) : kept (findFault cause s) = kept s := by
  unfold findFault
  simp [kept_at, kept_foldl]

@[simp] theorem endFunction_kept (s : State) : kept (endFunction s) = kept s := by
  unfold endFunction
  simp [kept_at, kept_foldl]

@[simp] theorem fatalError_kept (cause : Nat) (writer : Nat) (s : State) : kept (fatalError cause writer s) = kept s := by
  unfold fatalError
  simp [kept_at, kept_foldl]

@[simp] theorem enterHold_kept_unit (cause : Nat) (s : State) : (kept (enterHold cause s)).unit = (kept s).unit := by
  unfold enterHold
  simp [kept_unit_foldl, kept_at, kept_foldl]

@[simp] theorem enterHold_kept_cfg (cause : Nat) (s : State) : (kept (enterHold cause s)).cfg = (kept s).cfg := by
  unfold enterHold
  simp [kept_cfg_foldl, kept_at, kept_foldl]

@[simp] theorem enterHold_kept_life (cause : Nat) (s : State) : (kept (enterHold cause s)).life = (kept s).life := by
  unfold enterHold
  simp [kept_life_foldl, kept_at, kept_foldl]

@[simp] theorem enterHold_kept_dump (cause : Nat) (s : State) : (kept (enterHold cause s)).dump = (kept s).dump := by
  unfold enterHold
  simp [kept_dump_foldl, kept_at, kept_foldl]

@[simp] theorem enterHold_kept_records (cause : Nat) (s : State) : (kept (enterHold cause s)).records = (kept s).records := by
  unfold enterHold
  simp [kept_records_foldl, kept_at, kept_foldl]

@[simp] theorem enterHold_kept_full (cause : Nat) (s : State) : (kept (enterHold cause s)).full = (kept s).full := by
  unfold enterHold
  simp [kept_full_foldl, kept_at, kept_foldl]

@[simp] theorem enterHold_kept_staging (cause : Nat) (s : State) : (kept (enterHold cause s)).staging = (kept s).staging := by
  unfold enterHold
  simp [kept_staging_foldl, kept_at, kept_foldl]

@[simp] theorem enterHold_kept_frame (cause : Nat) (s : State) : (kept (enterHold cause s)).frame = (kept s).frame := by
  unfold enterHold
  simp [kept_frame_foldl, kept_at, kept_foldl]

@[simp] theorem enterHold_kept_bankA (cause : Nat) (s : State) : (kept (enterHold cause s)).bankA = (kept s).bankA := by
  unfold enterHold
  simp [kept_bankA_foldl, kept_at, kept_foldl]

@[simp] theorem enterHold_kept_bankB (cause : Nat) (s : State) : (kept (enterHold cause s)).bankB = (kept s).bankB := by
  unfold enterHold
  simp [kept_bankB_foldl, kept_at, kept_foldl]

@[simp] theorem enterHold_kept_pending (cause : Nat) (s : State) : (kept (enterHold cause s)).pending = (kept s).pending := by
  unfold enterHold
  simp [kept_pending_foldl, kept_at, kept_foldl]

@[simp] theorem setHoldover_kept (h : Bool) (s : State) : kept (setHoldover h s) = kept s := by
  unfold setHoldover
  simp [kept_at, kept_foldl]

@[simp] theorem putRecord_kept (source : Nat) (stamp : Nat) (tov : Nat) (tagged : Bool) (holdover : Bool) (payload : List Byte) (s : State) : kept (putRecord source stamp tov tagged holdover payload s) = kept s := by
  unfold putRecord
  simp [kept_at, kept_foldl]

@[simp] theorem ingest_kept (source : Nat) (stamp : Nat) (tov : Nat) (tagged : Bool) (payload : List Byte) (s : State) : kept (ingest source stamp tov tagged payload s) = kept s := by
  unfold ingest
  simp [kept_at, kept_foldl]

@[simp] theorem modUnit_kept (j : Nat) (f : UnitState → UnitState) (s : State) : kept (modUnit j f s) = kept s := by
  unfold modUnit
  simp [kept_at, kept_foldl]

@[simp] theorem ingestTagged_kept (source : Nat) (stamp : Nat) (tag : Option Nat) (payload : List Byte) (s : State) : kept (ingestTagged source stamp tag payload s) = kept s := by
  unfold ingestTagged
  simp [kept_at, kept_foldl]

@[simp] theorem setBank_kept (b : Side) (f : Bank → Bank) (s : State) (h : ∀ k, (f k).content = k.content) :
    kept (setBank b f s) = kept s := by
  cases b <;> simp [setBank, kept_at, h s.upd.bankA, h s.upd.bankB]

@[simp] theorem installBank_kept_mode (b : Side) (r : Bool) (s : State) : (kept (installBank b r s)).mode = (kept s).mode := by
  cases b <;> rfl

@[simp] theorem installBank_kept_unit (b : Side) (r : Bool) (s : State) : (kept (installBank b r s)).unit = (kept s).unit := by
  cases b <;> rfl

@[simp] theorem installBank_kept_cfg (b : Side) (r : Bool) (s : State) : (kept (installBank b r s)).cfg = (kept s).cfg := by
  cases b <;> rfl

@[simp] theorem installBank_kept_life (b : Side) (r : Bool) (s : State) : (kept (installBank b r s)).life = (kept s).life := by
  cases b <;> rfl

@[simp] theorem installBank_kept_dump (b : Side) (r : Bool) (s : State) : (kept (installBank b r s)).dump = (kept s).dump := by
  cases b <;> rfl

@[simp] theorem installBank_kept_records (b : Side) (r : Bool) (s : State) :
    (kept (installBank b r s)).records = (kept s).records := by
  cases b <;> rfl

@[simp] theorem installBank_kept_full (b : Side) (r : Bool) (s : State) : (kept (installBank b r s)).full = (kept s).full := by
  cases b <;> rfl

@[simp] theorem installBank_kept_staging (b : Side) (r : Bool) (s : State) :
    (kept (installBank b r s)).staging = (kept s).staging := by
  cases b <;> rfl

@[simp] theorem installBank_kept_frame (b : Side) (r : Bool) (s : State) :
    (kept (installBank b r s)).frame = (kept s).frame := by
  cases b <;> rfl

@[simp] theorem installBank_kept_pending (b : Side) (r : Bool) (s : State) :
    (kept (installBank b r s)).pending = (kept s).pending := by
  cases b <;> rfl

@[simp] theorem confirmBank_kept (s : State) : kept (confirmBank s) = kept s := by
  unfold confirmBank
  simp [kept_at, kept_foldl]

@[simp] theorem failBank_kept (s : State) : kept (failBank s) = kept s := by
  unfold failBank
  simp [kept_at, kept_foldl]

@[simp] theorem bankDecision_kept (s : State) : kept (bankDecision s) = kept s := by
  unfold bankDecision
  repeat' (first | with_reducible rfl | (simp [kept_at, kept_foldl]; done) | split | rw [kept_foldl] | intro _ | dsimp only | simp [kept_at, kept_foldl])

@[simp] theorem standbyBank_kept (s : State) : kept (standbyBank s) = kept s := by
  unfold standbyBank
  simp [kept_at, kept_foldl]

@[simp] theorem setTongs_kept (p : Side) (l : LinkState) (s : State) : kept (setTongs p l s) = kept s := by
  unfold setTongs
  repeat' (first | with_reducible rfl | (simp [kept_at, kept_foldl]; done) | split | rw [kept_foldl] | intro _ | dsimp only | simp [kept_at, kept_foldl])

@[simp] theorem execTongsLinkDown_kept (p : Side) (s : State) : keptOut (execTongsLinkDown p s) = some (kept s) := by
  unfold execTongsLinkDown
  simp [kept_at, kept_foldl]

@[simp] theorem execTongsLinkUp_kept (p : Side) (s : State) : keptOut (execTongsLinkUp p s) = some (kept s) := by
  unfold execTongsLinkUp
  simp [kept_at, kept_foldl]

@[simp] theorem setPhase_kept (p : Phase) (s : State) : kept (setPhase p s) = kept s := by
  unfold setPhase
  simp [kept_at, kept_foldl]

@[simp] theorem startJoin_kept (s : State) : kept (startJoin s) = kept s := by
  unfold startJoin
  simp [kept_at, kept_foldl]

@[simp] theorem noteRole_kept (cause : Nat) (active : UnitId) (s : State) : kept (noteRole cause active s) = kept s := by
  unfold noteRole
  simp [kept_at, kept_foldl]

@[simp] theorem roleChange_kept (cause : Nat) (active : UnitId) (s : State) : kept (roleChange cause active s) = kept s := by
  unfold roleChange
  simp [kept_at, kept_foldl]

@[simp] theorem takeActive_kept (cause : Nat) (s : State) : kept (takeActive cause s) = kept s := by
  unfold takeActive
  simp [kept_at, kept_foldl]

@[simp] theorem coldActive_kept (s : State) : kept (coldActive s) = kept s := by
  unfold coldActive
  simp [kept_at, kept_foldl]

@[simp] theorem takeStandby_kept_unit (h : Heard) (s : State) : (kept (takeStandby h s)).unit = (kept s).unit := by
  unfold takeStandby
  simp [kept_unit_foldl, kept_at, kept_foldl]

@[simp] theorem takeStandby_kept_cfg (h : Heard) (s : State) : (kept (takeStandby h s)).cfg = (kept s).cfg := by
  unfold takeStandby
  simp [kept_cfg_foldl, kept_at, kept_foldl]

@[simp] theorem takeStandby_kept_life (h : Heard) (s : State) : (kept (takeStandby h s)).life = (kept s).life := by
  unfold takeStandby
  simp [kept_life_foldl, kept_at, kept_foldl]

@[simp] theorem takeStandby_kept_dump (h : Heard) (s : State) : (kept (takeStandby h s)).dump = (kept s).dump := by
  unfold takeStandby
  simp [kept_dump_foldl, kept_at, kept_foldl]

@[simp] theorem takeStandby_kept_records (h : Heard) (s : State) : (kept (takeStandby h s)).records = (kept s).records := by
  unfold takeStandby
  simp [kept_records_foldl, kept_at, kept_foldl]

@[simp] theorem takeStandby_kept_full (h : Heard) (s : State) : (kept (takeStandby h s)).full = (kept s).full := by
  unfold takeStandby
  simp [kept_full_foldl, kept_at, kept_foldl]

@[simp] theorem takeStandby_kept_staging (h : Heard) (s : State) : (kept (takeStandby h s)).staging = (kept s).staging := by
  unfold takeStandby
  simp [kept_staging_foldl, kept_at, kept_foldl]

@[simp] theorem takeStandby_kept_frame (h : Heard) (s : State) : (kept (takeStandby h s)).frame = (kept s).frame := by
  unfold takeStandby
  simp [kept_frame_foldl, kept_at, kept_foldl]

@[simp] theorem takeStandby_kept_bankA (h : Heard) (s : State) : (kept (takeStandby h s)).bankA = (kept s).bankA := by
  unfold takeStandby
  simp [kept_bankA_foldl, kept_at, kept_foldl]

@[simp] theorem takeStandby_kept_bankB (h : Heard) (s : State) : (kept (takeStandby h s)).bankB = (kept s).bankB := by
  unfold takeStandby
  simp [kept_bankB_foldl, kept_at, kept_foldl]

@[simp] theorem takeStandby_kept_pending (h : Heard) (s : State) : (kept (takeStandby h s)).pending = (kept s).pending := by
  unfold takeStandby
  simp [kept_pending_foldl, kept_at, kept_foldl]

@[simp] theorem joinRole_kept_unit (h : Heard) (s : State) : (kept (joinRole h s)).unit = (kept s).unit := by
  unfold joinRole
  simp [kept_unit_foldl, kept_at, kept_foldl]

@[simp] theorem joinRole_kept_cfg (h : Heard) (s : State) : (kept (joinRole h s)).cfg = (kept s).cfg := by
  unfold joinRole
  simp [kept_cfg_foldl, kept_at, kept_foldl]

@[simp] theorem joinRole_kept_life (h : Heard) (s : State) : (kept (joinRole h s)).life = (kept s).life := by
  unfold joinRole
  simp [kept_life_foldl, kept_at, kept_foldl]

@[simp] theorem joinRole_kept_dump (h : Heard) (s : State) : (kept (joinRole h s)).dump = (kept s).dump := by
  unfold joinRole
  simp [kept_dump_foldl, kept_at, kept_foldl]

@[simp] theorem joinRole_kept_records (h : Heard) (s : State) : (kept (joinRole h s)).records = (kept s).records := by
  unfold joinRole
  simp [kept_records_foldl, kept_at, kept_foldl]

@[simp] theorem joinRole_kept_full (h : Heard) (s : State) : (kept (joinRole h s)).full = (kept s).full := by
  unfold joinRole
  simp [kept_full_foldl, kept_at, kept_foldl]

@[simp] theorem joinRole_kept_staging (h : Heard) (s : State) : (kept (joinRole h s)).staging = (kept s).staging := by
  unfold joinRole
  simp [kept_staging_foldl, kept_at, kept_foldl]

@[simp] theorem joinRole_kept_frame (h : Heard) (s : State) : (kept (joinRole h s)).frame = (kept s).frame := by
  unfold joinRole
  simp [kept_frame_foldl, kept_at, kept_foldl]

@[simp] theorem joinRole_kept_bankA (h : Heard) (s : State) : (kept (joinRole h s)).bankA = (kept s).bankA := by
  unfold joinRole
  simp [kept_bankA_foldl, kept_at, kept_foldl]

@[simp] theorem joinRole_kept_bankB (h : Heard) (s : State) : (kept (joinRole h s)).bankB = (kept s).bankB := by
  unfold joinRole
  simp [kept_bankB_foldl, kept_at, kept_foldl]

@[simp] theorem joinRole_kept_pending (h : Heard) (s : State) : (kept (joinRole h s)).pending = (kept s).pending := by
  unfold joinRole
  simp [kept_pending_foldl, kept_at, kept_foldl]

@[simp] theorem roleTable_kept_unit (s : State) : (kept (roleTable s)).unit = (kept s).unit := by
  unfold roleTable
  repeat' (first | with_reducible rfl | (simp [kept_unit_foldl, kept_at, kept_foldl]; done) | split | rw [kept_unit_foldl] | intro _ | dsimp only | simp [kept_unit_foldl, kept_at, kept_foldl])

@[simp] theorem roleTable_kept_cfg (s : State) : (kept (roleTable s)).cfg = (kept s).cfg := by
  unfold roleTable
  repeat' (first | with_reducible rfl | (simp [kept_cfg_foldl, kept_at, kept_foldl]; done) | split | rw [kept_cfg_foldl] | intro _ | dsimp only | simp [kept_cfg_foldl, kept_at, kept_foldl])

@[simp] theorem roleTable_kept_life (s : State) : (kept (roleTable s)).life = (kept s).life := by
  unfold roleTable
  repeat' (first | with_reducible rfl | (simp [kept_life_foldl, kept_at, kept_foldl]; done) | split | rw [kept_life_foldl] | intro _ | dsimp only | simp [kept_life_foldl, kept_at, kept_foldl])

@[simp] theorem roleTable_kept_dump (s : State) : (kept (roleTable s)).dump = (kept s).dump := by
  unfold roleTable
  repeat' (first | with_reducible rfl | (simp [kept_dump_foldl, kept_at, kept_foldl]; done) | split | rw [kept_dump_foldl] | intro _ | dsimp only | simp [kept_dump_foldl, kept_at, kept_foldl])

@[simp] theorem roleTable_kept_records (s : State) : (kept (roleTable s)).records = (kept s).records := by
  unfold roleTable
  repeat' (first | with_reducible rfl | (simp [kept_records_foldl, kept_at, kept_foldl]; done) | split | rw [kept_records_foldl] | intro _ | dsimp only | simp [kept_records_foldl, kept_at, kept_foldl])

@[simp] theorem roleTable_kept_full (s : State) : (kept (roleTable s)).full = (kept s).full := by
  unfold roleTable
  repeat' (first | with_reducible rfl | (simp [kept_full_foldl, kept_at, kept_foldl]; done) | split | rw [kept_full_foldl] | intro _ | dsimp only | simp [kept_full_foldl, kept_at, kept_foldl])

@[simp] theorem roleTable_kept_staging (s : State) : (kept (roleTable s)).staging = (kept s).staging := by
  unfold roleTable
  repeat' (first | with_reducible rfl | (simp [kept_staging_foldl, kept_at, kept_foldl]; done) | split | rw [kept_staging_foldl] | intro _ | dsimp only | simp [kept_staging_foldl, kept_at, kept_foldl])

@[simp] theorem roleTable_kept_frame (s : State) : (kept (roleTable s)).frame = (kept s).frame := by
  unfold roleTable
  repeat' (first | with_reducible rfl | (simp [kept_frame_foldl, kept_at, kept_foldl]; done) | split | rw [kept_frame_foldl] | intro _ | dsimp only | simp [kept_frame_foldl, kept_at, kept_foldl])

@[simp] theorem roleTable_kept_bankA (s : State) : (kept (roleTable s)).bankA = (kept s).bankA := by
  unfold roleTable
  repeat' (first | with_reducible rfl | (simp [kept_bankA_foldl, kept_at, kept_foldl]; done) | split | rw [kept_bankA_foldl] | intro _ | dsimp only | simp [kept_bankA_foldl, kept_at, kept_foldl])

@[simp] theorem roleTable_kept_bankB (s : State) : (kept (roleTable s)).bankB = (kept s).bankB := by
  unfold roleTable
  repeat' (first | with_reducible rfl | (simp [kept_bankB_foldl, kept_at, kept_foldl]; done) | split | rw [kept_bankB_foldl] | intro _ | dsimp only | simp [kept_bankB_foldl, kept_at, kept_foldl])

@[simp] theorem roleTable_kept_pending (s : State) : (kept (roleTable s)).pending = (kept s).pending := by
  unfold roleTable
  repeat' (first | with_reducible rfl | (simp [kept_pending_foldl, kept_at, kept_foldl]; done) | split | rw [kept_pending_foldl] | intro _ | dsimp only | simp [kept_pending_foldl, kept_at, kept_foldl])

@[simp] theorem execUnitBRoleWaitExpiry_kept (s : State) : keptOut (execUnitBRoleWaitExpiry s) = some (kept s) := by
  unfold execUnitBRoleWaitExpiry
  simp [kept_at, kept_foldl]

@[simp] theorem followPairMode_kept_unit (s : State) : (kept (followPairMode s)).unit = (kept s).unit := by
  unfold followPairMode
  simp [kept_unit_foldl, kept_at, kept_foldl]

@[simp] theorem followPairMode_kept_cfg (s : State) : (kept (followPairMode s)).cfg = (kept s).cfg := by
  unfold followPairMode
  simp [kept_cfg_foldl, kept_at, kept_foldl]

@[simp] theorem followPairMode_kept_life (s : State) : (kept (followPairMode s)).life = (kept s).life := by
  unfold followPairMode
  simp [kept_life_foldl, kept_at, kept_foldl]

@[simp] theorem followPairMode_kept_dump (s : State) : (kept (followPairMode s)).dump = (kept s).dump := by
  unfold followPairMode
  simp [kept_dump_foldl, kept_at, kept_foldl]

@[simp] theorem followPairMode_kept_records (s : State) : (kept (followPairMode s)).records = (kept s).records := by
  unfold followPairMode
  simp [kept_records_foldl, kept_at, kept_foldl]

@[simp] theorem followPairMode_kept_full (s : State) : (kept (followPairMode s)).full = (kept s).full := by
  unfold followPairMode
  simp [kept_full_foldl, kept_at, kept_foldl]

@[simp] theorem followPairMode_kept_staging (s : State) : (kept (followPairMode s)).staging = (kept s).staging := by
  unfold followPairMode
  simp [kept_staging_foldl, kept_at, kept_foldl]

@[simp] theorem followPairMode_kept_frame (s : State) : (kept (followPairMode s)).frame = (kept s).frame := by
  unfold followPairMode
  simp [kept_frame_foldl, kept_at, kept_foldl]

@[simp] theorem followPairMode_kept_bankA (s : State) : (kept (followPairMode s)).bankA = (kept s).bankA := by
  unfold followPairMode
  simp [kept_bankA_foldl, kept_at, kept_foldl]

@[simp] theorem followPairMode_kept_bankB (s : State) : (kept (followPairMode s)).bankB = (kept s).bankB := by
  unfold followPairMode
  simp [kept_bankB_foldl, kept_at, kept_foldl]

@[simp] theorem followPairMode_kept_pending (s : State) : (kept (followPairMode s)).pending = (kept s).pending := by
  unfold followPairMode
  simp [kept_pending_foldl, kept_at, kept_foldl]

@[simp] theorem joinPairMode_kept (s : State) : kept (joinPairMode s) = kept s := by
  unfold joinPairMode
  repeat' (first | with_reducible rfl | (simp [kept_at, kept_foldl]; done) | split | rw [kept_foldl] | intro _ | dsimp only | simp [kept_at, kept_foldl])

@[simp] theorem enterUnmirrored_kept (s : State) : kept (enterUnmirrored s) = kept s := by
  unfold enterUnmirrored
  simp [kept_at, kept_foldl]

@[simp] theorem dropAndRejoin_kept_unit (s : State) : (kept (dropAndRejoin s)).unit = (kept s).unit := by
  unfold dropAndRejoin
  repeat' (first | with_reducible rfl | (simp [kept_unit_foldl, kept_at, kept_foldl]; done) | split | rw [kept_unit_foldl] | intro _ | dsimp only | simp [kept_unit_foldl, kept_at, kept_foldl])

@[simp] theorem dropAndRejoin_kept_cfg (s : State) : (kept (dropAndRejoin s)).cfg = (kept s).cfg := by
  unfold dropAndRejoin
  repeat' (first | with_reducible rfl | (simp [kept_cfg_foldl, kept_at, kept_foldl]; done) | split | rw [kept_cfg_foldl] | intro _ | dsimp only | simp [kept_cfg_foldl, kept_at, kept_foldl])

@[simp] theorem dropAndRejoin_kept_life (s : State) : (kept (dropAndRejoin s)).life = (kept s).life := by
  unfold dropAndRejoin
  repeat' (first | with_reducible rfl | (simp [kept_life_foldl, kept_at, kept_foldl]; done) | split | rw [kept_life_foldl] | intro _ | dsimp only | simp [kept_life_foldl, kept_at, kept_foldl])

@[simp] theorem dropAndRejoin_kept_dump (s : State) : (kept (dropAndRejoin s)).dump = (kept s).dump := by
  unfold dropAndRejoin
  repeat' (first | with_reducible rfl | (simp [kept_dump_foldl, kept_at, kept_foldl]; done) | split | rw [kept_dump_foldl] | intro _ | dsimp only | simp [kept_dump_foldl, kept_at, kept_foldl])

@[simp] theorem dropAndRejoin_kept_records (s : State) : (kept (dropAndRejoin s)).records = (kept s).records := by
  unfold dropAndRejoin
  repeat' (first | with_reducible rfl | (simp [kept_records_foldl, kept_at, kept_foldl]; done) | split | rw [kept_records_foldl] | intro _ | dsimp only | simp [kept_records_foldl, kept_at, kept_foldl])

@[simp] theorem dropAndRejoin_kept_full (s : State) : (kept (dropAndRejoin s)).full = (kept s).full := by
  unfold dropAndRejoin
  repeat' (first | with_reducible rfl | (simp [kept_full_foldl, kept_at, kept_foldl]; done) | split | rw [kept_full_foldl] | intro _ | dsimp only | simp [kept_full_foldl, kept_at, kept_foldl])

@[simp] theorem dropAndRejoin_kept_staging (s : State) : (kept (dropAndRejoin s)).staging = (kept s).staging := by
  unfold dropAndRejoin
  repeat' (first | with_reducible rfl | (simp [kept_staging_foldl, kept_at, kept_foldl]; done) | split | rw [kept_staging_foldl] | intro _ | dsimp only | simp [kept_staging_foldl, kept_at, kept_foldl])

@[simp] theorem dropAndRejoin_kept_frame (s : State) : (kept (dropAndRejoin s)).frame = (kept s).frame := by
  unfold dropAndRejoin
  repeat' (first | with_reducible rfl | (simp [kept_frame_foldl, kept_at, kept_foldl]; done) | split | rw [kept_frame_foldl] | intro _ | dsimp only | simp [kept_frame_foldl, kept_at, kept_foldl])

@[simp] theorem dropAndRejoin_kept_bankA (s : State) : (kept (dropAndRejoin s)).bankA = (kept s).bankA := by
  unfold dropAndRejoin
  repeat' (first | with_reducible rfl | (simp [kept_bankA_foldl, kept_at, kept_foldl]; done) | split | rw [kept_bankA_foldl] | intro _ | dsimp only | simp [kept_bankA_foldl, kept_at, kept_foldl])

@[simp] theorem dropAndRejoin_kept_bankB (s : State) : (kept (dropAndRejoin s)).bankB = (kept s).bankB := by
  unfold dropAndRejoin
  repeat' (first | with_reducible rfl | (simp [kept_bankB_foldl, kept_at, kept_foldl]; done) | split | rw [kept_bankB_foldl] | intro _ | dsimp only | simp [kept_bankB_foldl, kept_at, kept_foldl])

@[simp] theorem dropAndRejoin_kept_pending (s : State) : (kept (dropAndRejoin s)).pending = (kept s).pending := by
  unfold dropAndRejoin
  repeat' (first | with_reducible rfl | (simp [kept_pending_foldl, kept_at, kept_foldl]; done) | split | rw [kept_pending_foldl] | intro _ | dsimp only | simp [kept_pending_foldl, kept_at, kept_foldl])

@[simp] theorem twoActive_kept_unit (s : State) : (kept (twoActive s)).unit = (kept s).unit := by
  unfold twoActive
  simp [kept_unit_foldl, kept_at, kept_foldl]

@[simp] theorem twoActive_kept_cfg (s : State) : (kept (twoActive s)).cfg = (kept s).cfg := by
  unfold twoActive
  simp [kept_cfg_foldl, kept_at, kept_foldl]

@[simp] theorem twoActive_kept_life (s : State) : (kept (twoActive s)).life = (kept s).life := by
  unfold twoActive
  simp [kept_life_foldl, kept_at, kept_foldl]

@[simp] theorem twoActive_kept_dump (s : State) : (kept (twoActive s)).dump = (kept s).dump := by
  unfold twoActive
  simp [kept_dump_foldl, kept_at, kept_foldl]

@[simp] theorem twoActive_kept_records (s : State) : (kept (twoActive s)).records = (kept s).records := by
  unfold twoActive
  simp [kept_records_foldl, kept_at, kept_foldl]

@[simp] theorem twoActive_kept_full (s : State) : (kept (twoActive s)).full = (kept s).full := by
  unfold twoActive
  simp [kept_full_foldl, kept_at, kept_foldl]

@[simp] theorem twoActive_kept_staging (s : State) : (kept (twoActive s)).staging = (kept s).staging := by
  unfold twoActive
  simp [kept_staging_foldl, kept_at, kept_foldl]

@[simp] theorem twoActive_kept_frame (s : State) : (kept (twoActive s)).frame = (kept s).frame := by
  unfold twoActive
  simp [kept_frame_foldl, kept_at, kept_foldl]

@[simp] theorem twoActive_kept_bankA (s : State) : (kept (twoActive s)).bankA = (kept s).bankA := by
  unfold twoActive
  simp [kept_bankA_foldl, kept_at, kept_foldl]

@[simp] theorem twoActive_kept_bankB (s : State) : (kept (twoActive s)).bankB = (kept s).bankB := by
  unfold twoActive
  simp [kept_bankB_foldl, kept_at, kept_foldl]

@[simp] theorem twoActive_kept_pending (s : State) : (kept (twoActive s)).pending = (kept s).pending := by
  unfold twoActive
  simp [kept_pending_foldl, kept_at, kept_foldl]

@[simp] theorem swapRoles_kept (s : State) : kept (swapRoles s) = kept s := by
  unfold swapRoles
  repeat' (first | with_reducible rfl | (simp [kept_at, kept_foldl]; done) | split | rw [kept_foldl] | intro _ | dsimp only | simp [kept_at, kept_foldl])

@[simp] theorem takeRoleDue_kept (s : State) : kept (takeRoleDue s) = kept s := by
  unfold takeRoleDue
  repeat' (first | with_reducible rfl | (simp [kept_at, kept_foldl]; done) | split | rw [kept_foldl] | intro _ | dsimp only | simp [kept_at, kept_foldl])

@[simp] theorem enterCopy_kept (s : State) : kept (enterCopy s) = kept s := by
  unfold enterCopy
  simp [kept_at, kept_foldl]

@[simp] theorem startResync_kept (s : State) : kept (startResync s) = kept s := by
  unfold startResync
  simp [kept_at, kept_foldl]

@[simp] theorem trimEpoch_kept (s : State) : kept (trimEpoch s) = kept s := by
  unfold trimEpoch
  simp [kept_at, kept_foldl]

@[simp] theorem joinStep_kept (s : State) : kept (joinStep s) = kept s := by
  unfold joinStep
  repeat' (first | with_reducible rfl | (simp [kept_at, kept_foldl]; done) | split | rw [kept_foldl] | intro _ | dsimp only | simp [kept_at, kept_foldl])

@[simp] theorem applyPages_kept (s : State) : kept (applyPages s) = kept s := by
  unfold applyPages
  simp [kept_at, kept_foldl]

@[simp] theorem execJoinEnd_kept (s : State) : keptOut (execJoinEnd s) = some (kept s) := by
  unfold execJoinEnd
  simp [kept_at, kept_foldl]

@[simp] theorem execCopyEnd_kept (s : State) : keptOut (execCopyEnd s) = some (kept s) := by
  unfold execCopyEnd
  simp [kept_at, kept_foldl]

@[simp] theorem execSettleEnd_kept (s : State) : keptOut (execSettleEnd s) = some (kept s) := by
  unfold execSettleEnd
  simp [kept_at, kept_foldl]

@[simp] theorem execAuditEnd_kept (s : State) : keptOut (execAuditEnd s) = some (kept s) := by
  unfold execAuditEnd
  simp [kept_at, kept_foldl]

@[simp] theorem execResyncAttemptFailed_kept (s : State) : keptOut (execResyncAttemptFailed s) = some (kept s) := by
  unfold execResyncAttemptFailed
  simp [kept_at, kept_foldl]

@[simp] theorem execResyncBackoffEnd_kept (s : State) : keptOut (execResyncBackoffEnd s) = some (kept s) := by
  unfold execResyncBackoffEnd
  simp [kept_at, kept_foldl]

@[simp] theorem execTongsPathLost_kept (s : State) : keptOut (execTongsPathLost s) = some (kept s) := by
  unfold execTongsPathLost
  simp [kept_at, kept_foldl]

@[simp] theorem execTongsPathReturn_kept (s : State) : keptOut (execTongsPathReturn s) = some (kept s) := by
  unfold execTongsPathReturn
  simp [kept_at, kept_foldl]

@[simp] theorem execRingPathLost_kept (s : State) : keptOut (execRingPathLost s) = some (kept s) := by
  unfold execRingPathLost
  simp [kept_at, kept_foldl]

@[simp] theorem execUnmirroredStandbyEntry_kept (s : State) : keptOut (execUnmirroredStandbyEntry s) = some (kept s) := by
  unfold execUnmirroredStandbyEntry
  simp [kept_at, kept_foldl]

@[simp] theorem execEpochLockAcquired_kept (s : State) : keptOut (execEpochLockAcquired s) = some (kept s) := by
  unfold execEpochLockAcquired
  simp [kept_at, kept_foldl]

@[simp] theorem execEpochLockLost_kept (s : State) : keptOut (execEpochLockLost s) = some (kept s) := by
  unfold execEpochLockLost
  simp [kept_at, kept_foldl]

@[simp] theorem countTongsCrc_kept (h : TongsHeader) (s : State) : kept (countTongsCrc h s) = kept s := by
  unfold countTongsCrc
  repeat' (first | with_reducible rfl | (simp [kept_at, kept_foldl]; done) | split | rw [kept_foldl] | intro _ | dsimp only | simp [kept_at, kept_foldl])

@[simp] theorem tongsRx_kept (type : Nat) (h : TongsHeader) (f : State → State) (s : State) (h0 : ∀ s, kept (f s) = kept s) : kept (tongsRx type h f s) = kept s := by
  unfold tongsRx
  simp [h0, kept_at, kept_foldl]

@[simp] theorem execTongsRecordFrameRx_kept (h : TongsHeader) (records : List InRecord) (s : State) : keptOut (execTongsRecordFrameRx h records s) = some (kept s) := by
  unfold execTongsRecordFrameRx
  simp [kept_at, kept_foldl]

@[simp] theorem execTongsAckRx_kept (h : TongsHeader) (ids : List RecordId) (s : State) : keptOut (execTongsAckRx h ids s) = some (kept s) := by
  unfold execTongsAckRx
  simp [kept_at, kept_foldl]

@[simp] theorem execTongsDigestRx_kept (h : TongsHeader) (body : DigestBody) (s : State) : keptOut (execTongsDigestRx h body s) = some (kept s) := by
  unfold execTongsDigestRx
  simp [kept_at, kept_foldl]

@[simp] theorem execTongsOutcomeRx_kept (h : TongsHeader) (isMatch : Bool) (s : State) : keptOut (execTongsOutcomeRx h isMatch s) = some (kept s) := by
  unfold execTongsOutcomeRx
  simp [kept_at, kept_foldl]

@[simp] theorem execTongsPageRx_kept (h : TongsHeader) (page : Nat) (content : List Byte) (s : State) :
    keptOut (execTongsPageRx h page content s) = some (kept s) := by
  unfold execTongsPageRx
  refine congrArg some (tongsRx_kept _ _ _ _ fun s => ?_)
  repeat' (first | with_reducible rfl | (simp [kept_at]; done) | split | dsimp only)

@[simp] theorem execTongsAuditRx_kept (h : TongsHeader) (first : Nat) (digests : List Nat) (s : State) : keptOut (execTongsAuditRx h first digests s) = some (kept s) := by
  unfold execTongsAuditRx
  simp [kept_at, kept_foldl]

@[simp] theorem checkImage_kept (imageId : Nat) (s : State) : kept (checkImage imageId s) = kept s := by
  unfold checkImage
  simp [kept_at, kept_foldl]

@[simp] theorem checkFirmware_kept (fw : Nat) (s : State) : kept (checkFirmware fw s) = kept s := by
  unfold checkFirmware
  simp [kept_at, kept_foldl]

@[simp] theorem measureTheta_kept (link : Side) (body : HeartbeatBody) (rxTick : Nat) (s : State) : kept (measureTheta link body rxTick s) = kept s := by
  unfold measureTheta
  simp [kept_at, kept_foldl]

@[simp] theorem takeAnnouncedStep_kept (body : HeartbeatBody) (s : State) : kept (takeAnnouncedStep body s) = kept s := by
  unfold takeAnnouncedStep
  simp [kept_at, kept_foldl]

@[simp] theorem followPartner_kept (h : TongsHeader) (body : HeartbeatBody) (s : State) : kept (followPartner h body s) = kept s := by
  unfold followPartner
  repeat' (first | with_reducible rfl | (simp [kept_at, kept_foldl]; done) | split | rw [kept_foldl] | intro _ | dsimp only | simp [kept_at, kept_foldl])

@[simp] theorem execTongsHeartbeatRx_kept (h : TongsHeader) (body : HeartbeatBody) (rxTick : Nat) (s : State) : keptOut (execTongsHeartbeatRx h body rxTick s) = some (kept s) := by
  unfold execTongsHeartbeatRx
  simp [kept_at, kept_foldl]

@[simp] theorem execTongsUpdateStatusRx_kept (h : TongsHeader) (body : UpdateStatusBody) (s : State) : keptOut (execTongsUpdateStatusRx h body s) = some (kept s) := by
  unfold execTongsUpdateStatusRx
  simp [kept_at, kept_foldl]

@[simp] theorem sendRing_kept (f : OutFrame) (s : State) : kept (sendRing f s) = kept s := by
  unfold sendRing
  rfl

@[simp] theorem execHeartbeatSend_kept (ticks : Nat) (s : State) : keptOut (execHeartbeatSend ticks s) = some (kept s) := by
  unfold execHeartbeatSend
  simp [kept_at, kept_foldl]

@[simp] theorem execUpdateStatusSend_kept (s : State) : keptOut (execUpdateStatusSend s) = some (kept s) := by
  unfold execUpdateStatusSend
  simp [kept_at, kept_foldl]

@[simp] theorem sendAudit_kept (s : State) : kept (sendAudit s) = kept s := by
  unfold sendAudit
  simp [kept_at, kept_foldl]

@[simp] theorem sendPages_kept (s : State) : kept (sendPages s) = kept s := by
  unfold sendPages
  simp [kept_at, kept_foldl]

@[simp] theorem sendMirror_kept (s : State) : kept (sendMirror s) = kept s := by
  unfold sendMirror
  simp [kept_at, kept_foldl]

@[simp] theorem setRing_kept (p : Side) (l : LinkState) (s : State) : kept (setRing p l s) = kept s := by
  unfold setRing
  repeat' (first | with_reducible rfl | (simp [kept_at, kept_foldl]; done) | split | rw [kept_foldl] | intro _ | dsimp only | simp [kept_at, kept_foldl])

@[simp] theorem openRelay_kept (s : State) : kept (openRelay s) = kept s := by
  unfold openRelay
  simp [kept_at, kept_foldl]

@[simp] theorem closeRelay_kept (s : State) : kept (closeRelay s) = kept s := by
  unfold closeRelay
  simp [kept_at, kept_foldl]

@[simp] theorem execRingLoopTrained_kept (s : State) : keptOut (execRingLoopTrained s) = some (kept s) := by
  unfold execRingLoopTrained
  simp [kept_at, kept_foldl]

@[simp] theorem execRingLoopTimeout_kept (s : State) : keptOut (execRingLoopTimeout s) = some (kept s) := by
  unfold execRingLoopTimeout
  simp [kept_at, kept_foldl]

@[simp] theorem execRingLinkDown_kept (p : Side) (s : State) : keptOut (execRingLinkDown p s) = some (kept s) := by
  unfold execRingLinkDown
  simp [kept_at, kept_foldl]

@[simp] theorem execRingLinkUp_kept (p : Side) (s : State) : keptOut (execRingLinkUp p s) = some (kept s) := by
  unfold execRingLinkUp
  simp [kept_at, kept_foldl]

@[simp] theorem execRingLinkTrainTimeout_kept (p : Side) (s : State) : keptOut (execRingLinkTrainTimeout p s) = some (kept s) := by
  unfold execRingLinkTrainTimeout
  simp [kept_at, kept_foldl]

@[simp] theorem hsrNote_kept (src : Nat) (seq : Nat) (nowMs : Nat) (port : Side) (s : State) : kept (hsrNote src seq nowMs port s) = kept s := by
  unfold hsrNote
  simp [kept_at, kept_foldl]

@[simp] theorem ringEvidence_kept (rx : RingRx) (first : Option HsrEntry) (s : State) : kept (ringEvidence rx first s) = kept s := by
  unfold ringEvidence
  simp [kept_at, kept_foldl]

@[simp] theorem countRing_kept (rx : RingRx) (s : State) : kept (countRing rx s) = kept s := by
  unfold countRing
  simp [kept_at, kept_foldl]

@[simp] theorem countInvalid_kept (rx : RingRx) (s : State) : kept (countInvalid rx s) = kept s := by
  unfold countInvalid
  simp [kept_at, kept_foldl]

@[simp] theorem takeCopy_kept (rx : RingRx) (valid evident : Bool) (count deliver : State → State) (s : State)
    (h1 : ∀ s, kept (count s) = kept s) (h2 : ∀ s, kept (deliver s) = kept s) : kept (takeCopy rx valid evident count deliver s) = kept s := by
  unfold takeCopy
  dsimp only
  repeat' (first | with_reducible rfl | (simp [kept_at, h1, h2]; done) | split)

@[simp] theorem ageDuplicate_kept (s : State) : kept (ageDuplicate s) = kept s := by
  unfold ageDuplicate
  repeat' (first | with_reducible rfl | (simp [kept_at, kept_foldl]; done) | split | rw [kept_foldl] | intro _ | dsimp only | simp [kept_at, kept_foldl])

@[simp] theorem closeEvidence_kept (s : State) : kept (closeEvidence s) = kept s := by
  unfold closeEvidence
  simp [kept_at, kept_foldl]

@[simp] theorem execRingBroken_kept (s : State) : keptOut (execRingBroken s) = some (kept s) := by
  unfold execRingBroken
  simp [kept_at, kept_foldl]

@[simp] theorem execRingRestored_kept (s : State) : keptOut (execRingRestored s) = some (kept s) := by
  unfold execRingRestored
  simp [kept_at, kept_foldl]

@[simp] theorem execRingFrameErrors_kept (s : State) : keptOut (execRingFrameErrors s) = some (kept s) := by
  unfold execRingFrameErrors
  simp [kept_at, kept_foldl]

@[simp] theorem execRingCommandFrameRx_kept (rx : RingRx) (f : CommandFrame) (s : State) : keptOut (execRingCommandFrameRx rx f s) = some (kept s) := by
  unfold execRingCommandFrameRx
  simp [kept_at, kept_foldl]

@[simp] theorem takeRingReport_kept (f : RingHeartbeat) (s : State) : kept (takeRingReport f s) = kept s := by
  unfold takeRingReport
  simp [kept_at, kept_foldl]

@[simp] theorem execRingHeartbeatRx_kept (rx : RingRx) (f : RingHeartbeat) (s : State) : keptOut (execRingHeartbeatRx rx f s) = some (kept s) := by
  unfold execRingHeartbeatRx
  simp [kept_at, kept_foldl]

@[simp] theorem takeDriveFrame_kept (port : Side) (tick : Int) (fb : Feedback) (s : State) : kept (takeDriveFrame port tick fb s) = kept s := by
  unfold takeDriveFrame
  simp [kept_at, kept_foldl]

@[simp] theorem execFeedbackFrameRx_kept (rx : RingRx) (tick : Int) (fb : Feedback) (s : State) : keptOut (execFeedbackFrameRx rx tick fb s) = some (kept s) := by
  unfold execFeedbackFrameRx
  simp [kept_at, kept_foldl]

@[simp] theorem hearNode_kept (f : HsrFrame) (s : State) : kept (hearNode f s) = kept s := by
  unfold hearNode
  simp [kept_at, kept_foldl]

@[simp] theorem foreignOwn_kept (f : HsrFrame) (s : State) : kept (foreignOwn f s) = kept s := by
  unfold foreignOwn
  simp [kept_at, kept_foldl]

@[simp] theorem execRingFrameForward_kept (f : HsrFrame) (s : State) : keptOut (execRingFrameForward f s) = some (kept s) := by
  unfold execRingFrameForward
  simp [kept_at, kept_foldl]

@[simp] theorem execSupervisionFrameSend_kept (s : State) : keptOut (execSupervisionFrameSend s) = some (kept s) := by
  unfold execSupervisionFrameSend
  simp [kept_at, kept_foldl]

@[simp] theorem execCommandFrameEmit_kept (startNs : Nat) (s : State) : keptOut (execCommandFrameEmit startNs s) = some (kept s) := by
  unfold execCommandFrameEmit
  simp [kept_at, kept_foldl]

@[simp] theorem modBus_kept (b : Nat) (f : CanBus → CanBus) (s : State) : kept (modBus b f s) = kept s := by
  unfold modBus
  simp [kept_at, kept_foldl]

@[simp] theorem busEvents_kept (b : Nat) (s : State) : kept (busEvents b s) = kept s := by
  unfold busEvents
  simp [kept_at, kept_foldl]

@[simp] theorem setCounters_kept (b : Nat) (tec : Nat) (rec : Nat) (s : State) : kept (setCounters b tec rec s) = kept s := by
  unfold setCounters
  simp [kept_at, kept_foldl]

@[simp] theorem execCanErrorWarning_kept (b : Nat) (tec : Nat) (rec : Nat) (s : State) : keptOut (execCanErrorWarning b tec rec s) = some (kept s) := by
  unfold execCanErrorWarning
  simp [kept_at, kept_foldl]

@[simp] theorem execCanErrorPassive_kept (b : Nat) (tec : Nat) (rec : Nat) (s : State) : keptOut (execCanErrorPassive b tec rec s) = some (kept s) := by
  unfold execCanErrorPassive
  simp [kept_at, kept_foldl]

@[simp] theorem frameReceived_kept (b : Nat) (s : State) : kept (frameReceived b s) = kept s := by
  unfold frameReceived
  simp [kept_at, kept_foldl]

@[simp] theorem withdraw_kept (b : Nat) (n : Nat) (s : State) : kept (withdraw b n s) = kept s := by
  unfold withdraw
  simp [kept_at, kept_foldl]

@[simp] theorem execCanBusOff_kept (b : Nat) (s : State) : keptOut (execCanBusOff b s) = some (kept s) := by
  unfold execCanBusOff
  repeat' (first | with_reducible rfl | (simp [kept_at, kept_foldl]; done) | split | rw [kept_foldl] | intro _ | dsimp only | simp [kept_at, kept_foldl])

@[simp] theorem execCanBusRecovery_kept (b : Nat) (s : State) : keptOut (execCanBusRecovery b s) = some (kept s) := by
  unfold execCanBusRecovery
  simp [kept_at, kept_foldl]

@[simp] theorem restartBuses_kept (mask : Nat) (s : State) : kept (restartBuses mask s) = kept s := by
  unfold restartBuses
  simp [kept_at, kept_foldl]

@[simp] theorem queueOn_kept (b : Nat) (m : Nat) (off : Nat) (dual : Bool) (s : State) : kept (queueOn b m off dual s) = kept s := by
  unfold queueOn
  simp [kept_at, kept_foldl]

@[simp] theorem releaseMessage_kept (m : Nat) (off : Nat) (s : State) : kept (releaseMessage m off s) = kept s := by
  unfold releaseMessage
  simp [kept_at, kept_foldl]

@[simp] theorem execCanRelease_kept (offsetUs : Nat) (s : State) : keptOut (execCanRelease offsetUs s) = some (kept s) := by
  unfold execCanRelease
  simp [kept_at, kept_foldl]

@[simp] theorem execCanWithdrawal_kept (b : Nat) (m : Nat) (offsetUs : Nat) (onWire : Bool) (s : State) : keptOut (execCanWithdrawal b m offsetUs onWire s) = some (kept s) := by
  unfold execCanWithdrawal
  simp [kept_at, kept_foldl]

@[simp] theorem execCanTransmitComplete_kept (b : Nat) (m : Nat) (s : State) : keptOut (execCanTransmitComplete b m s) = some (kept s) := by
  unfold execCanTransmitComplete
  repeat' (first | with_reducible rfl | (simp [kept_at, kept_foldl]; done) | split | rw [kept_foldl] | intro _ | dsimp only | simp [kept_at, kept_foldl])

@[simp] theorem execCanMessageRx_kept (m : CanRx) (s : State) : keptOut (execCanMessageRx m s) = some (kept s) := by
  unfold execCanMessageRx
  repeat' (first | with_reducible rfl | (simp [kept_at, kept_foldl]; done) | split | rw [kept_foldl] | intro _ | dsimp only | simp [kept_at, kept_foldl])

@[simp] theorem modPort_kept (p : Nat) (f : SerialPort → SerialPort) (s : State) : kept (modPort p f s) = kept s := by
  unfold modPort
  simp [kept_at, kept_foldl]

@[simp] theorem silenceEvent_kept (s : State) : kept (silenceEvent s) = kept s := by
  unfold silenceEvent
  simp [kept_at, kept_foldl]

@[simp] theorem execSerialSentenceRx_kept (x : SentenceRx) (s : State) : keptOut (execSerialSentenceRx x s) = some (kept s) := by
  unfold execSerialSentenceRx
  repeat' (first | with_reducible rfl | (simp [kept_at, kept_foldl]; done) | split | rw [kept_foldl] | intro _ | dsimp only | simp [kept_at, kept_foldl])

@[simp] theorem execSerialSourceSilent_kept (source : Nat) (s : State) : keptOut (execSerialSourceSilent source s) = some (kept s) := by
  unfold execSerialSourceSilent
  repeat' (first | with_reducible rfl | (simp [kept_at, kept_foldl]; done) | split | rw [kept_foldl] | intro _ | dsimp only | simp [kept_at, kept_foldl])

@[simp] theorem execSerialPortErrors_kept (p : Nat) (s : State) : keptOut (execSerialPortErrors p s) = some (kept s) := by
  unfold execSerialPortErrors
  repeat' (first | with_reducible rfl | (simp [kept_at, kept_foldl]; done) | split | rw [kept_foldl] | intro _ | dsimp only | simp [kept_at, kept_foldl])

@[simp] theorem suspectEvent_kept (source : Nat) (before : Bool) (after : Bool) (s : State) : kept (suspectEvent source before after s) = kept s := by
  unfold suspectEvent
  simp [kept_at, kept_foldl]

@[simp] theorem acceptList_kept (srcs : List (Option Nat × TimeState)) (s : State) : kept (acceptList srcs s).2 = kept s := by
  unfold acceptList
  simp [kept_at, kept_foldl]

@[simp] theorem timeAcceptance_kept (s : State) : kept (timeAcceptance s) = kept s := by
  unfold timeAcceptance
  simp [kept_at, kept_foldl]

@[simp] theorem leaveSuspects_kept (which : Nat → Bool) (s : State) : kept (leaveSuspects which s) = kept s := by
  unfold leaveSuspects
  simp [kept_at, kept_foldl]

@[simp] theorem execTimeSuspectExit_kept (source : Nat) (s : State) : keptOut (execTimeSuspectExit source s) = some (kept s) := by
  unfold execTimeSuspectExit
  simp [kept_at, kept_foldl]

@[simp] theorem motionFusion_kept (s : State) : kept (motionFusion s) = kept s := by
  unfold motionFusion
  simp [kept_at, kept_foldl]

@[simp] theorem outEvents_kept (l : List (Nat × SourceState × Nat)) (s : State) : kept (outEvents l s) = kept s := by
  unfold outEvents
  simp [kept_at, kept_foldl]

@[simp] theorem disputeEvents_kept (heading : Bool) (started : Bool) (after : AxisState) (s : State) : kept (disputeEvents heading started after s) = kept s := by
  unfold disputeEvents
  simp [kept_at, kept_foldl]

@[simp] theorem positionFusion_kept (s : State) : kept (positionFusion s) = kept s := by
  unfold positionFusion
  simp [kept_at, kept_foldl]

@[simp] theorem tautWires_kept (s : State) : kept (tautWires s) = kept s := by
  unfold tautWires
  simp [kept_at, kept_foldl]

@[simp] theorem headingFusion_kept (s : State) : kept (headingFusion s) = kept s := by
  unfold headingFusion
  simp [kept_at, kept_foldl]

@[simp] theorem egoMotion_kept (s : State) : kept (egoMotion s) = kept s := by
  unfold egoMotion
  simp [kept_at, kept_foldl]

@[simp] theorem windAndDraft_kept (s : State) : kept (windAndDraft s) = kept s := by
  unfold windAndDraft
  simp [kept_at, kept_foldl]

@[simp] theorem sensorEvents_kept (s : State) : kept (sensorEvents s) = kept s := by
  unfold sensorEvents
  simp [kept_at, kept_foldl]

@[simp] theorem whisk_kept (s : State) : kept (whisk s) = kept s := by
  unfold whisk
  simp [kept_at, kept_foldl]

@[simp] theorem execPositionGradeRise_kept (s : State) : keptOut (execPositionGradeRise s) = some (kept s) := by
  unfold execPositionGradeRise
  simp [kept_at, kept_foldl]

@[simp] theorem modAxis_kept (heading : Bool) (f : AxisState → AxisState) (s : State) : kept (modAxis heading f s) = kept s := by
  unfold modAxis
  simp [kept_at, kept_foldl]

@[simp] theorem execDisputeEnd_kept (heading : Bool) (s : State) : keptOut (execDisputeEnd heading s) = some (kept s) := by
  unfold execDisputeEnd
  simp [kept_at, kept_foldl]

@[simp] theorem execDisputeLimit_kept (heading : Bool) (s : State) : keptOut (execDisputeLimit heading s) = some (kept s) := by
  unfold execDisputeLimit
  simp [kept_at, kept_foldl]

@[simp] theorem keepRun_kept (i : Instance) (from' : Nat) (r : Running) (s : State) : kept (keepRun i from' r s) = kept s := by
  unfold keepRun
  simp [kept_at, kept_foldl]

@[simp] theorem runInstance_kept (i : Instance) (s : State) : kept (runInstance i s).2 = kept s := by
  unfold runInstance
  simp [kept_at, kept_foldl]

@[simp] theorem dropLostSource_kept (cls : Nat) (case : Nat) (s : State) : kept (dropLostSource cls case s) = kept s := by
  unfold dropLostSource
  simp [kept_at, kept_foldl]

@[simp] theorem setStatus_kept (b : Nat) (s : State) : kept (setStatus b s) = kept s := by
  unfold setStatus
  simp [kept_at, kept_foldl]

@[simp] theorem noteFailure_kept (cls : Nat) (case : Nat) (retry : Bool) (basis : Nat) (o : Origin) (s : State) : kept (noteFailure cls case retry basis o s) = kept s := by
  unfold noteFailure
  simp [kept_at, kept_foldl]

@[simp] theorem noteSolved_kept (cls : Nat) (case : Nat) (retry : Bool) (basis : Nat) (r : Solved) (s : State) : kept (noteSolved cls case retry basis r s) = kept s := by
  unfold noteSolved
  repeat' (first | with_reducible rfl | (simp [kept_at, kept_foldl]; done) | split | rw [kept_foldl] | intro _ | dsimp only | simp [kept_at, kept_foldl])

@[simp] theorem noteCold_kept (cls : Nat) (case : Nat) (w : WarmReg) (s : State) : kept (noteCold cls case w s) = kept s := by
  unfold noteCold
  simp [kept_at, kept_foldl]

@[simp] theorem modSlow_kept (f : SlowLocal → SlowLocal) (s : State) : kept (modSlow f s) = kept s := by
  unfold modSlow
  simp [kept_at, kept_foldl]

@[simp] theorem runSlow_kept (cls : Nat) (case : Nat) (p : SlowRun) (s : State) : kept (runSlow cls case p s).2 = kept s := by
  unfold runSlow
  repeat' (first | with_reducible rfl | (simp [kept_at, kept_foldl]; done) | split | rw [kept_foldl] | intro _ | dsimp only | simp [kept_at, kept_foldl])

@[simp] theorem modEst_kept (f : Estimator → Estimator) (s : State) : kept (modEst f s) = kept s := by
  unfold modEst
  simp [kept_at, kept_foldl]

@[simp] theorem advanceEstimate_kept (s : State) : kept (advanceEstimate s) = kept s := by
  unfold advanceEstimate
  repeat' (first | with_reducible rfl | (simp [kept_at, kept_foldl]; done) | split | rw [kept_foldl] | intro _ | dsimp only | simp [kept_at, kept_foldl])

@[simp] theorem startState_kept (restart : Bool) (s : State) : kept (startState restart s) = kept s := by
  unfold startState
  simp [kept_at, kept_foldl]

@[simp] theorem firstStart_kept (s : State) : kept (firstStart s) = kept s := by
  unfold firstStart
  simp [kept_at, kept_foldl]

@[simp] theorem startOrRestart_kept (s : State) : kept (startOrRestart s) = kept s := by
  unfold startOrRestart
  simp [kept_at, kept_foldl]

@[simp] theorem inflate_kept (s : State) : kept (inflate s) = kept s := by
  unfold inflate
  simp [kept_at, kept_foldl]

@[simp] theorem limitSkips_kept (s : State) : kept (limitSkips s) = kept s := by
  unfold limitSkips
  simp [kept_at, kept_foldl]

@[simp] theorem skipUpdate_kept (s : State) : kept (skipUpdate s) = kept s := by
  unfold skipUpdate
  simp [kept_at, kept_foldl]

@[simp] theorem takeUpdate_kept (r : Solved) (s : State) : kept (takeUpdate r s) = kept s := by
  unfold takeUpdate
  simp [kept_at, kept_foldl]

@[simp] theorem estimatorUpdate_kept (s : State) : kept (estimatorUpdate s) = kept s := by
  unfold estimatorUpdate
  simp [kept_at, kept_foldl]

@[simp] theorem meetGate_kept (s : State) : kept (meetGate s) = kept s := by
  unfold meetGate
  simp [kept_at, kept_foldl]

@[simp] theorem estimatorStatus_kept (s : State) : kept (estimatorStatus s) = kept s := by
  unfold estimatorStatus
  simp [kept_at, kept_foldl]

@[simp] theorem execEstimatorGateMet_kept (s : State) : keptOut (execEstimatorGateMet s) = some (kept s) := by
  unfold execEstimatorGateMet
  simp [kept_at, kept_foldl]

@[simp] theorem execSkippedUpdateLimit_kept (s : State) : keptOut (execSkippedUpdateLimit s) = some (kept s) := by
  unfold execSkippedUpdateLimit
  simp [kept_at, kept_foldl]

@[simp] theorem modAbm_kept (f : Model → Model) (s : State) : kept (modAbm f s) = kept s := by
  unfold modAbm
  simp [kept_at, kept_foldl]

@[simp] theorem feedbackAngles_kept (s : State) : kept (feedbackAngles s) = kept s := by
  unfold feedbackAngles
  simp [kept_at, kept_foldl]

@[simp] theorem contactJoint_kept (engaged : Bool) (s : State) : kept (contactJoint engaged s) = kept s := by
  unfold contactJoint
  simp [kept_at, kept_foldl]

@[simp] theorem contactForces_kept (engaged : Bool) (r : Solved) (s : State) : kept (contactForces engaged r s) = kept s := by
  unfold contactForces
  simp [kept_at, kept_foldl]

@[simp] theorem advanceModel_kept (s : State) : kept (advanceModel s) = kept s := by
  unfold advanceModel
  simp [kept_at, kept_foldl]

@[simp] theorem propagateEstimate_kept (s : State) : kept (propagateEstimate s) = kept s := by
  unfold propagateEstimate
  simp [kept_at, kept_foldl]

@[simp] theorem modelStep_kept (s : State) : kept (modelStep s) = kept s := by
  unfold modelStep
  simp [kept_at, kept_foldl]

@[simp] theorem modBa_kept (f : Bundle → Bundle) (s : State) : kept (modBa f s) = kept s := by
  unfold modBa
  simp [kept_at, kept_foldl]

@[simp] theorem sampleWindow_kept (s : State) : kept (sampleWindow s) = kept s := by
  unfold sampleWindow
  simp [kept_at, kept_foldl]

@[simp] theorem baTakeBasis_kept (s : State) : kept (baTakeBasis s) = kept s := by
  unfold baTakeBasis
  simp [kept_at, kept_foldl]

@[simp] theorem commitSlot_kept (slot : Nat) (p : SlowRun) (r : BaSlotResult) (s : State) : kept (commitSlot slot p r s) = kept s := by
  unfold commitSlot
  simp [kept_at, kept_foldl]

@[simp] theorem commitBa_kept (p : SlowRun) (r : Solved) (s : State) : kept (commitBa p r s) = kept s := by
  unfold commitBa
  simp [kept_at, kept_foldl]

@[simp] theorem acceptSlot_kept (slot : Nat) (s : State) : kept (acceptSlot slot s) = kept s := by
  unfold acceptSlot
  simp [kept_at, kept_foldl]

@[simp] theorem rejectSlot_kept (slot : Nat) (s : State) : kept (rejectSlot slot s) = kept s := by
  unfold rejectSlot
  simp [kept_at, kept_foldl]

@[simp] theorem modTrv_kept (f : TrivetMirror → TrivetMirror) (s : State) : kept (modTrv f s) = kept s := by
  unfold modTrv
  simp [kept_at, kept_foldl]

@[simp] theorem modSafe_kept (k : Nat) (f : SafeChannel → SafeChannel) (s : State) : kept (modSafe k f s) = kept s := by
  unfold modSafe
  simp [kept_at, kept_foldl]

@[simp] theorem modChannel_kept (k : Nat) (f : ChannelLocal → ChannelLocal) (s : State) : kept (modChannel k f s) = kept s := by
  unfold modChannel
  simp [kept_at, kept_foldl]

@[simp] theorem sampleInputs_kept (levels : Nat) (s : State) : kept (sampleInputs levels s) = kept s := by
  unfold sampleInputs
  simp [kept_at, kept_foldl]

@[simp] theorem execTrivetSample_kept (levels : Nat) (s : State) : keptOut (execTrivetSample levels s) = some (kept s) := by
  unfold execTrivetSample
  simp [kept_at, kept_foldl]

@[simp] theorem execTrivetRecordClose_kept (levels : Nat) (s : State) : keptOut (execTrivetRecordClose levels s) = some (kept s) := by
  unfold execTrivetRecordClose
  simp [kept_at, kept_foldl]

@[simp] theorem execAntivalenceFault_kept (p : Nat) (s : State) : keptOut (execAntivalenceFault p s) = some (kept s) := by
  unfold execAntivalenceFault
  repeat' (first | with_reducible rfl | (simp [kept_at, kept_foldl]; done) | split | rw [kept_foldl] | intro _ | dsimp only | simp [kept_at, kept_foldl])

@[simp] theorem execAntivalenceFaultClear_kept (p : Nat) (s : State) : keptOut (execAntivalenceFaultClear p s) = some (kept s) := by
  unfold execAntivalenceFaultClear
  repeat' (first | with_reducible rfl | (simp [kept_at, kept_foldl]; done) | split | rw [kept_foldl] | intro _ | dsimp only | simp [kept_at, kept_foldl])

@[simp] theorem combineInputs_kept (s : State) : kept (combineInputs s) = kept s := by
  unfold combineInputs
  simp [kept_at, kept_foldl]

@[simp] theorem updatePermits_kept (s : State) : kept (updatePermits s) = kept s := by
  unfold updatePermits
  simp [kept_at, kept_foldl]

@[simp] theorem safetyFunctions_kept (s : State) : kept (safetyFunctions s) = kept s := by
  unfold safetyFunctions
  simp [kept_at, kept_foldl]

@[simp] theorem execSafeOutputSwitch_kept (s : State) : keptOut (execSafeOutputSwitch s) = some (kept s) := by
  unfold execSafeOutputSwitch
  simp [kept_at, kept_foldl]

@[simp] theorem failChannel_kept (k : Nat) (code : Nat) (s : State) : kept (failChannel k code s) = kept s := by
  unfold failChannel
  simp [kept_at, kept_foldl]

@[simp] theorem execWirechkTimeout_kept (k : Nat) (s : State) : keptOut (execWirechkTimeout k s) = some (kept s) := by
  unfold execWirechkTimeout
  simp [kept_at, kept_foldl]

@[simp] theorem execPwrOutOutOfRange_kept (volts : Nat) (s : State) : keptOut (execPwrOutOutOfRange volts s) = some (kept s) := by
  unfold execPwrOutOutOfRange
  simp [kept_at, kept_foldl]

@[simp] theorem execPwrOutRestored_kept (volts : Nat) (s : State) : keptOut (execPwrOutRestored volts s) = some (kept s) := by
  unfold execPwrOutRestored
  simp [kept_at, kept_foldl]

@[simp] theorem execOutputTestPulse_kept (sw : Switch) (s : State) : keptOut (execOutputTestPulse sw s) = some (kept s) := by
  unfold execOutputTestPulse
  repeat' (first | with_reducible rfl | (simp [kept_at, kept_foldl]; done) | split | rw [kept_foldl] | intro _ | dsimp only | simp [kept_at, kept_foldl])

@[simp] theorem execTestPulseEnd_kept (s : State) : keptOut (execTestPulseEnd s) = some (kept s) := by
  unfold execTestPulseEnd
  simp [kept_at, kept_foldl]

@[simp] theorem execPulseSenseCheck_kept (k : Nat) (level : Bool) (s : State) : keptOut (execPulseSenseCheck k level s) = some (kept s) := by
  unfold execPulseSenseCheck
  repeat' (first | with_reducible rfl | (simp [kept_at, kept_foldl]; done) | split | rw [kept_foldl] | intro _ | dsimp only | simp [kept_at, kept_foldl])

@[simp] theorem execSenseNodeCheck_kept (h : Nat) (l : Nat) (s : State) : keptOut (execSenseNodeCheck h l s) = some (kept s) := by
  unfold execSenseNodeCheck
  repeat' (first | with_reducible rfl | (simp [kept_at, kept_foldl]; done) | split | rw [kept_foldl] | intro _ | dsimp only | simp [kept_at, kept_foldl])

@[simp] theorem execOffPulseTest_kept (s : State) : keptOut (execOffPulseTest s) = some (kept s) := by
  unfold execOffPulseTest
  repeat' (first | with_reducible rfl | (simp [kept_at, kept_foldl]; done) | split | rw [kept_foldl] | intro _ | dsimp only | simp [kept_at, kept_foldl])

@[simp] theorem execOffPulseEnd_kept (reached : Bool) (s : State) : keptOut (execOffPulseEnd reached s) = some (kept s) := by
  refine congrArg some (kept_foldl _ (fun s k => ?_) _ _)
  repeat' (first | with_reducible rfl | (simp [kept_at]; done) | split)

@[simp] theorem execOutputOvercurrent_kept (k : Nat) (s : State) : keptOut (execOutputOvercurrent k s) = some (kept s) := by
  unfold execOutputOvercurrent
  simp [kept_at, kept_foldl]

@[simp] theorem execOutputTestOverdue_kept (k : Nat) (s : State) : keptOut (execOutputTestOverdue k s) = some (kept s) := by
  unfold execOutputTestOverdue
  simp [kept_at, kept_foldl]

@[simp] theorem modAlc_kept (f : Allocation → Allocation) (s : State) : kept (modAlc f s) = kept s := by
  unfold modAlc
  simp [kept_at, kept_foldl]

@[simp] theorem modMpc_kept (f : PlanState → PlanState) (s : State) : kept (modMpc f s) = kept s := by
  unfold modMpc
  simp [kept_at, kept_foldl]

@[simp] theorem modMode_kept (f : ModeState → ModeState) (s : State) : kept (modMode f s) = kept s := by
  unfold modMode
  simp [kept_at, kept_foldl]

@[simp] theorem modFld_kept (f : FieldMirror → FieldMirror) (s : State) : kept (modFld f s) = kept s := by
  unfold modFld
  simp [kept_at, kept_foldl]

@[simp] theorem takeFeedback_kept (s : State) (j : Nat) : kept (takeFeedback s j) = kept s := by
  unfold takeFeedback
  repeat' (first | with_reducible rfl | (simp [kept_at, kept_foldl]; done) | split | rw [kept_foldl] | intro _ | dsimp only | simp [kept_at, kept_foldl])

@[simp] theorem takeSections_kept (s : State) : kept (takeSections s) = kept s := by
  unfold takeSections
  simp [kept_at, kept_foldl]

@[simp] theorem takePlant_kept (s : State) : kept (takePlant s) = kept s := by
  unfold takePlant
  repeat' (first | with_reducible rfl | (simp [kept_at, kept_foldl]; done) | split | rw [kept_foldl] | intro _ | dsimp only | simp [kept_at, kept_foldl])

@[simp] theorem takePanels_kept (s : State) : kept (takePanels s) = kept s := by
  unfold takePanels
  simp [kept_at, kept_foldl]

@[simp] theorem joystickEvent_kept (s : State) : kept (joystickEvent s) = kept s := by
  unfold joystickEvent
  simp [kept_at, kept_foldl]

@[simp] theorem fieldIntake_kept (s : State) : kept (fieldIntake s) = kept s := by
  unfold fieldIntake
  simp [kept_at, kept_foldl]

@[simp] theorem execSectionLimitStale_kept (sec : Nat) (s : State) : keptOut (execSectionLimitStale sec s) = some (kept s) := by
  unfold execSectionLimitStale
  simp [kept_at, kept_foldl]

@[simp] theorem execPlantReportStale_kept (s : State) : keptOut (execPlantReportStale s) = some (kept s) := by
  unfold execPlantReportStale
  simp [kept_at, kept_foldl]

@[simp] theorem execJoystickPanelTimeout_kept (k : Nat) (s : State) : keptOut (execJoystickPanelTimeout k s) = some (kept s) := by
  unfold execJoystickPanelTimeout
  simp [kept_at, kept_foldl]

@[simp] theorem captureEstimate_kept (s : State) : kept (captureEstimate s) = kept s := by
  unfold captureEstimate
  simp [kept_at, kept_foldl]

@[simp] theorem captureFused_kept (s : State) : kept (captureFused s) = kept s := by
  unfold captureFused
  simp [kept_at, kept_foldl]

@[simp] theorem setFunction_kept (f : Option Func) (berth : Nat) (forced : Bool) (s : State) : kept (setFunction f berth forced s) = kept s := by
  unfold setFunction
  simp [kept_at, kept_foldl]

@[simp] theorem selectFunction_kept (f : Func) (berth : Nat) (s : State) : kept (selectFunction f berth s) = kept s := by
  unfold selectFunction
  repeat' (first | with_reducible rfl | (simp [kept_at, kept_foldl]; done) | split | rw [kept_foldl] | intro _ | dsimp only | simp [kept_at, kept_foldl])

@[simp] theorem forceFunction_kept (f : Func) (s : State) : kept (forceFunction f s) = kept s := by
  unfold forceFunction
  simp [kept_at, kept_foldl]

@[simp] theorem limitDeadReckoning_kept (s : State) : kept (limitDeadReckoning s) = kept s := by
  unfold limitDeadReckoning
  simp [kept_at, kept_foldl]

@[simp] theorem loseHeading_kept (s : State) : kept (loseHeading s) = kept s := by
  unfold loseHeading
  simp [kept_at, kept_foldl]

@[simp] theorem forceJoystick_kept (s : State) : kept (forceJoystick s) = kept s := by
  unfold forceJoystick
  repeat' (first | with_reducible rfl | (simp [kept_at, kept_foldl]; done) | split | rw [kept_foldl] | intro _ | dsimp only | simp [kept_at, kept_foldl])

@[simp] theorem forcedChanges_kept (s : State) : kept (forcedChanges s) = kept s := by
  unfold forcedChanges
  simp [kept_at, kept_foldl]

@[simp] theorem execDeadReckoningLimit_kept (s : State) : keptOut (execDeadReckoningLimit s) = some (kept s) := by
  unfold execDeadReckoningLimit
  simp [kept_at, kept_foldl]

@[simp] theorem execHeadingLost_kept (s : State) : keptOut (execHeadingLost s) = some (kept s) := by
  unfold execHeadingLost
  simp [kept_at, kept_foldl]

@[simp] theorem berthContact_kept (s : State) : kept (berthContact s) = kept s := by
  unfold berthContact
  simp [kept_at, kept_foldl]

@[simp] theorem rampPush_kept (s : State) : kept (rampPush s) = kept s := by
  unfold rampPush
  simp [kept_at, kept_foldl]

@[simp] theorem advanceTrack_kept (s : State) : kept (advanceTrack s) = kept s := by
  unfold advanceTrack
  simp [kept_at, kept_foldl]

@[simp] theorem sectionLimits_kept (s : State) : kept (sectionLimits s) = kept s := by
  unfold sectionLimits
  simp [kept_at, kept_foldl]

@[simp] theorem removeUnit_kept (j : Nat) (c : Nat) (s : State) : kept (removeUnit j c s) = kept s := by
  unfold removeUnit
  simp [kept_at, kept_foldl]

@[simp] theorem removalCauses_kept (s : State) : kept (removalCauses s) = kept s := by
  unfold removalCauses
  repeat' (first | with_reducible rfl | (simp [kept_at, kept_foldl]; done) | split | rw [kept_foldl] | intro _ | dsimp only | simp [kept_at, kept_foldl])

@[simp] theorem execFeedbackTimeout_kept (j : Nat) (s : State) : keptOut (execFeedbackTimeout j s) = some (kept s) := by
  unfold execFeedbackTimeout
  simp [kept_at, kept_foldl]

@[simp] theorem execFeedbackDiscrepancy_kept (j : Nat) (s : State) : keptOut (execFeedbackDiscrepancy j s) = some (kept s) := by
  unfold execFeedbackDiscrepancy
  simp [kept_at, kept_foldl]

@[simp] theorem execThrustUnitRejoin_kept (j : Nat) (s : State) : keptOut (execThrustUnitRejoin j s) = some (kept s) := by
  unfold execThrustUnitRejoin
  simp [kept_at, kept_foldl]

@[simp] theorem putSetPoint_kept (j : Nat) (p : SetPoint) (s : State) : kept (putSetPoint j p s) = kept s := by
  unfold putSetPoint
  simp [kept_at, kept_foldl]

@[simp] theorem takeUnit_kept (r : Solved) (s : State) (j : Nat) : kept (takeUnit r s j) = kept s := by
  unfold takeUnit
  simp [kept_at, kept_foldl]

@[simp] theorem zeroThrust_kept (mask : Nat) (s : State) : kept (zeroThrust mask s) = kept s := by
  unfold zeroThrust
  simp [kept_at, kept_foldl]

@[simp] theorem thrusterTest_kept (s : State) : kept (thrusterTest s) = kept s := by
  unfold thrusterTest
  simp [kept_at, kept_foldl]

@[simp] theorem noteAllocation_kept (r : Solved) (s : State) : kept (noteAllocation r s) = kept s := by
  unfold noteAllocation
  simp [kept_at, kept_foldl]

@[simp] theorem attempt_kept (i : Instance) (s : State) : kept (attempt i s).2 = kept s := by
  unfold attempt
  simp [kept_at, kept_foldl]

@[simp] theorem runAllocation_kept (mask : Nat) (s : State) : kept (runAllocation mask s).2 = kept s := by
  unfold runAllocation
  simp [kept_at, kept_foldl]

@[simp] theorem takeAllocation_kept (mask : Nat) (r : Solved) (s : State) : kept (takeAllocation mask r s) = kept s := by
  unfold takeAllocation
  simp [kept_at, kept_foldl]

@[simp] theorem fallbackAllocation_kept (mask : Nat) (s : State) : kept (fallbackAllocation mask s) = kept s := by
  unfold fallbackAllocation
  simp [kept_at, kept_foldl]

@[simp] theorem excludedUnits_kept (mask : Nat) (s : State) : kept (excludedUnits mask s) = kept s := by
  unfold excludedUnits
  simp [kept_at, kept_foldl]

@[simp] theorem followFeedback_kept (s : State) : kept (followFeedback s) = kept s := by
  unfold followFeedback
  simp [kept_at, kept_foldl]

@[simp] theorem unitPowers_kept (mask : Nat) (s : State) : kept (unitPowers mask s) = kept s := by
  unfold unitPowers
  simp [kept_at, kept_foldl]

@[simp] theorem allocationStatus_kept (mask : Nat) (s : State) : kept (allocationStatus mask s) = kept s := by
  unfold allocationStatus
  simp [kept_at, kept_foldl]

@[simp] theorem zeroEvent_kept (s : State) : kept (zeroEvent s) = kept s := by
  unfold zeroEvent
  simp [kept_at, kept_foldl]

@[simp] theorem allocationStep_kept (s : State) : kept (allocationStep s) = kept s := by
  unfold allocationStep
  repeat' (first | with_reducible rfl | (simp [kept_at, kept_foldl]; done) | split | rw [kept_foldl] | intro _ | dsimp only | simp [kept_at, kept_foldl])

@[simp] theorem execZeroThrustFallback_kept (s : State) : keptOut (execZeroThrustFallback s) = some (kept s) := by
  unfold execZeroThrustFallback
  simp [kept_at, kept_foldl]

@[simp] theorem execAllocationSaturation_kept (s : State) : keptOut (execAllocationSaturation s) = some (kept s) := by
  unfold execAllocationSaturation
  repeat' (first | with_reducible rfl | (simp [kept_at, kept_foldl]; done) | split | rw [kept_foldl] | intro _ | dsimp only | simp [kept_at, kept_foldl])

@[simp] theorem tripped_kept (k : Nat) (s : State) : kept (tripped k s) = kept s := by
  unfold tripped
  repeat' (first | with_reducible rfl | (simp [kept_at, kept_foldl]; done) | split | rw [kept_foldl] | intro _ | dsimp only | simp [kept_at, kept_foldl])

@[simp] theorem sltTrip_kept (k : Nat) (s : State) : kept (sltTrip k s) = kept s := by
  unfold sltTrip
  repeat' (first | with_reducible rfl | (simp [kept_at, kept_foldl]; done) | split | rw [kept_foldl] | intro _ | dsimp only | simp [kept_at, kept_foldl])

@[simp] theorem stsTrip_kept (k : Nat) (s : State) : kept (stsTrip k s) = kept s := by
  unfold stsTrip
  repeat' (first | with_reducible rfl | (simp [kept_at, kept_foldl]; done) | split | rw [kept_foldl] | intro _ | dsimp only | simp [kept_at, kept_foldl])

@[simp] theorem slsTrip_kept (s : State) : kept (slsTrip s) = kept s := by
  unfold slsTrip
  repeat' (first | with_reducible rfl | (simp [kept_at, kept_foldl]; done) | split | rw [kept_foldl] | intro _ | dsimp only | simp [kept_at, kept_foldl])

@[simp] theorem slsBlind_kept (s : State) : kept (slsBlind s) = kept s := by
  unfold slsBlind
  simp [kept_at, kept_foldl]

@[simp] theorem safetyTrips_kept (s : State) : kept (safetyTrips s) = kept s := by
  unfold safetyTrips
  simp [kept_at, kept_foldl]

@[simp] theorem execSltTrip_kept (k : Nat) (s : State) : keptOut (execSltTrip k s) = some (kept s) := by
  unfold execSltTrip
  repeat' (first | with_reducible rfl | (simp [kept_at, kept_foldl]; done) | split | rw [kept_foldl] | intro _ | dsimp only | simp [kept_at, kept_foldl])

@[simp] theorem execStsTrip_kept (k : Nat) (s : State) : keptOut (execStsTrip k s) = some (kept s) := by
  unfold execStsTrip
  repeat' (first | with_reducible rfl | (simp [kept_at, kept_foldl]; done) | split | rw [kept_foldl] | intro _ | dsimp only | simp [kept_at, kept_foldl])

@[simp] theorem execSlsTrip_kept (s : State) : keptOut (execSlsTrip s) = some (kept s) := by
  unfold execSlsTrip
  repeat' (first | with_reducible rfl | (simp [kept_at, kept_foldl]; done) | split | rw [kept_foldl] | intro _ | dsimp only | simp [kept_at, kept_foldl])

@[simp] theorem execSlsBlind_kept (s : State) : keptOut (execSlsBlind s) = some (kept s) := by
  unfold execSlsBlind
  simp [kept_at, kept_foldl]

@[simp] theorem zeroThrusters_kept (before : List UnitState) (s : State) : kept (zeroThrusters before s) = kept s := by
  unfold zeroThrusters
  simp [kept_at, kept_foldl]

@[simp] theorem endTest_kept (before : List UnitState) (s : State) : kept (endTest before s) = kept s := by
  unfold endTest
  simp [kept_at, kept_foldl]

@[simp] theorem modLdl_kept (f : Ladle → Ladle) (s : State) : kept (modLdl f s) = kept s := by
  unfold modLdl
  simp [kept_at, kept_foldl]

@[simp] theorem modCqa_kept (f : Consequence → Consequence) (s : State) : kept (modCqa f s) = kept s := by
  unfold modCqa
  simp [kept_at, kept_foldl]

@[simp] theorem setRun_kept (c : Nat) (p : Option SlowRun) (s : State) : kept (setRun c p s) = kept s := by
  unfold setRun
  simp [kept_at, kept_foldl]

@[simp] theorem modCase_kept (c : Nat) (f : CaseState → CaseState) (s : State) : kept (modCase c f s) = kept s := by
  unfold modCase
  simp [kept_at, kept_foldl]

@[simp] theorem planTakeBasis_kept (s : State) : kept (planTakeBasis s) = kept s := by
  unfold planTakeBasis
  simp [kept_at, kept_foldl]

@[simp] theorem commitPlan_kept (p : SlowRun) (r : Solved) (s : State) : kept (commitPlan p r s) = kept s := by
  unfold commitPlan
  simp [kept_at, kept_foldl]

@[simp] theorem caseTakeBasis_kept (s : State) : kept (caseTakeBasis s) = kept s := by
  unfold caseTakeBasis
  repeat' (first | with_reducible rfl | (simp [kept_at, kept_foldl]; done) | split | rw [kept_foldl] | intro _ | dsimp only | simp [kept_at, kept_foldl])

@[simp] theorem updateClass_kept (s : State) : kept (updateClass s) = kept s := by
  unfold updateClass
  simp [kept_at, kept_foldl]

@[simp] theorem updateSweep_kept (s : State) : kept (updateSweep s) = kept s := by
  unfold updateSweep
  simp [kept_at, kept_foldl]

@[simp] theorem commitCase_kept (c : Nat) (p : SlowRun) (r : Solved) (s : State) : kept (commitCase c p r s) = kept s := by
  unfold commitCase
  simp [kept_at, kept_foldl]

@[simp] theorem lateResult_kept (s : State) : kept (lateResult s) = kept s := by
  unfold lateResult
  simp [kept_at, kept_foldl]

@[simp] theorem commitJob_kept (cls : Nat) (case : Nat) (span : Nat) (late : Bool) (p : Option SlowRun) (commit : SlowRun → Solved → State → State) (s : State) (h0 : ∀ p r s, kept (commit p r s) = kept s) : kept (commitJob cls case span late p commit s) = kept s := by
  unfold commitJob
  repeat' (first | with_reducible rfl | (simp [h0, kept_at, kept_foldl]; done) | split | rw [kept_foldl] | intro _ | dsimp only | simp [h0, kept_at, kept_foldl])

@[simp] theorem commitSlow_kept (late : List SlowJob) (s : State) : kept (commitSlow late s) = kept s := by
  unfold commitSlow
  simp [kept_at, kept_foldl]

@[simp] theorem takeBasisRecords_kept (s : State) : kept (takeBasisRecords s) = kept s := by
  unfold takeBasisRecords
  simp [kept_at, kept_foldl]

@[simp] theorem runJob_kept (cls : Nat) (case : Nat) (p : Option SlowRun) (put : SlowRun → State → State) (s : State) (h0 : ∀ p s, kept (put p s) = kept s) : kept (runJob cls case p put s) = kept s := by
  unfold runJob
  repeat' (first | with_reducible rfl | (simp [h0, kept_at, kept_foldl]; done) | split | rw [kept_foldl] | intro _ | dsimp only | simp [h0, kept_at, kept_foldl])

@[simp] theorem runSlices_kept (s : State) : kept (runSlices s) = kept s := by
  unfold runSlices
  simp [kept_at, kept_foldl]

@[simp] theorem stopSlow_kept (dst : Mode) (s : State) : kept (stopSlow dst s) = kept s := by
  unfold stopSlow
  simp [kept_at, kept_foldl]

@[simp] theorem changePairMode_kept_unit (dst : Mode) (s : State) : (kept (changePairMode dst s)).unit = (kept s).unit := by
  unfold changePairMode
  simp [kept_unit_foldl, kept_at, kept_foldl]

@[simp] theorem changePairMode_kept_cfg (dst : Mode) (s : State) : (kept (changePairMode dst s)).cfg = (kept s).cfg := by
  unfold changePairMode
  simp [kept_cfg_foldl, kept_at, kept_foldl]

@[simp] theorem changePairMode_kept_life (dst : Mode) (s : State) : (kept (changePairMode dst s)).life = (kept s).life := by
  unfold changePairMode
  simp [kept_life_foldl, kept_at, kept_foldl]

@[simp] theorem changePairMode_kept_dump (dst : Mode) (s : State) : (kept (changePairMode dst s)).dump = (kept s).dump := by
  unfold changePairMode
  simp [kept_dump_foldl, kept_at, kept_foldl]

@[simp] theorem changePairMode_kept_records (dst : Mode) (s : State) : (kept (changePairMode dst s)).records = (kept s).records := by
  unfold changePairMode
  simp [kept_records_foldl, kept_at, kept_foldl]

@[simp] theorem changePairMode_kept_full (dst : Mode) (s : State) : (kept (changePairMode dst s)).full = (kept s).full := by
  unfold changePairMode
  simp [kept_full_foldl, kept_at, kept_foldl]

@[simp] theorem changePairMode_kept_staging (dst : Mode) (s : State) : (kept (changePairMode dst s)).staging = (kept s).staging := by
  unfold changePairMode
  simp [kept_staging_foldl, kept_at, kept_foldl]

@[simp] theorem changePairMode_kept_frame (dst : Mode) (s : State) : (kept (changePairMode dst s)).frame = (kept s).frame := by
  unfold changePairMode
  simp [kept_frame_foldl, kept_at, kept_foldl]

@[simp] theorem changePairMode_kept_bankA (dst : Mode) (s : State) : (kept (changePairMode dst s)).bankA = (kept s).bankA := by
  unfold changePairMode
  simp [kept_bankA_foldl, kept_at, kept_foldl]

@[simp] theorem changePairMode_kept_bankB (dst : Mode) (s : State) : (kept (changePairMode dst s)).bankB = (kept s).bankB := by
  unfold changePairMode
  simp [kept_bankB_foldl, kept_at, kept_foldl]

@[simp] theorem changePairMode_kept_pending (dst : Mode) (s : State) : (kept (changePairMode dst s)).pending = (kept s).pending := by
  unfold changePairMode
  simp [kept_pending_foldl, kept_at, kept_foldl]

@[simp] theorem enterActive_kept_unit (f : Func) (berth : Nat) (s : State) : (kept (enterActive f berth s)).unit = (kept s).unit := by
  unfold enterActive
  simp [kept_unit_foldl, kept_at, kept_foldl]

@[simp] theorem enterActive_kept_cfg (f : Func) (berth : Nat) (s : State) : (kept (enterActive f berth s)).cfg = (kept s).cfg := by
  unfold enterActive
  simp [kept_cfg_foldl, kept_at, kept_foldl]

@[simp] theorem enterActive_kept_life (f : Func) (berth : Nat) (s : State) : (kept (enterActive f berth s)).life = (kept s).life := by
  unfold enterActive
  simp [kept_life_foldl, kept_at, kept_foldl]

@[simp] theorem enterActive_kept_dump (f : Func) (berth : Nat) (s : State) : (kept (enterActive f berth s)).dump = (kept s).dump := by
  unfold enterActive
  simp [kept_dump_foldl, kept_at, kept_foldl]

@[simp] theorem enterActive_kept_records (f : Func) (berth : Nat) (s : State) : (kept (enterActive f berth s)).records = (kept s).records := by
  unfold enterActive
  simp [kept_records_foldl, kept_at, kept_foldl]

@[simp] theorem enterActive_kept_full (f : Func) (berth : Nat) (s : State) : (kept (enterActive f berth s)).full = (kept s).full := by
  unfold enterActive
  simp [kept_full_foldl, kept_at, kept_foldl]

@[simp] theorem enterActive_kept_staging (f : Func) (berth : Nat) (s : State) : (kept (enterActive f berth s)).staging = (kept s).staging := by
  unfold enterActive
  simp [kept_staging_foldl, kept_at, kept_foldl]

@[simp] theorem enterActive_kept_frame (f : Func) (berth : Nat) (s : State) : (kept (enterActive f berth s)).frame = (kept s).frame := by
  unfold enterActive
  simp [kept_frame_foldl, kept_at, kept_foldl]

@[simp] theorem enterActive_kept_bankA (f : Func) (berth : Nat) (s : State) : (kept (enterActive f berth s)).bankA = (kept s).bankA := by
  unfold enterActive
  simp [kept_bankA_foldl, kept_at, kept_foldl]

@[simp] theorem enterActive_kept_bankB (f : Func) (berth : Nat) (s : State) : (kept (enterActive f berth s)).bankB = (kept s).bankB := by
  unfold enterActive
  simp [kept_bankB_foldl, kept_at, kept_foldl]

@[simp] theorem enterActive_kept_pending (f : Func) (berth : Nat) (s : State) : (kept (enterActive f berth s)).pending = (kept s).pending := by
  unfold enterActive
  simp [kept_pending_foldl, kept_at, kept_foldl]

@[simp] theorem selectInActive_kept (f : Func) (berth : Nat) (s : State) : kept (selectInActive f berth s) = kept s := by
  unfold selectInActive
  simp [kept_at, kept_foldl]

@[simp] theorem modQual_kept (t : TimeSource) (f : SourceQual → SourceQual) (s : State) : kept (modQual t f s) = kept s := by
  unfold modQual
  simp [kept_at, kept_foldl]

@[simp] theorem holdoverEvent_kept (s : State) : kept (holdoverEvent s) = kept s := by
  unfold holdoverEvent
  simp [kept_at, kept_foldl]

@[simp] theorem stepEvent_kept (deltaNs : Int) (s : State) : kept (stepEvent deltaNs s) = kept s := by
  unfold stepEvent
  simp [kept_at, kept_foldl]

@[simp] theorem removeOffset_kept (delta : Int) (s : State) : kept (removeOffset delta s) = kept s := by
  unfold removeOffset
  simp [kept_at, kept_foldl]

@[simp] theorem idleSources_kept (s : State) : kept (idleSources s) = kept s := by
  unfold idleSources
  simp [kept_at, kept_foldl]

@[simp] theorem selectSource_kept (s : State) : kept (selectSource s) = kept s := by
  unfold selectSource
  repeat' (first | with_reducible rfl | (simp [kept_at, kept_foldl]; done) | split | rw [kept_foldl] | intro _ | dsimp only | simp [kept_at, kept_foldl])

@[simp] theorem execSourceSelection_kept (s : State) : keptOut (execSourceSelection s) = some (kept s) := by
  unfold execSourceSelection
  simp [kept_at, kept_foldl]

@[simp] theorem enterHoldover_kept (s : State) : kept (enterHoldover s) = kept s := by
  unfold enterHoldover
  simp [kept_at, kept_foldl]

@[simp] theorem execHoldoverEntry_kept (s : State) : keptOut (execHoldoverEntry s) = some (kept s) := by
  unfold execHoldoverEntry
  simp [kept_at, kept_foldl]

@[simp] theorem execHoldoverEnd_kept (s : State) : keptOut (execHoldoverEnd s) = some (kept s) := by
  unfold execHoldoverEnd
  simp [kept_at, kept_foldl]

@[simp] theorem execSlewComplete_kept (s : State) : keptOut (execSlewComplete s) = some (kept s) := by
  unfold execSlewComplete
  simp [kept_at, kept_foldl]

@[simp] theorem applyStep_kept (ns : Int) (s : State) : kept (applyStep ns s) = kept s := by
  unfold applyStep
  simp [kept_at, kept_foldl]

@[simp] theorem execPpsEdge_kept (s : State) : keptOut (execPpsEdge s) = some (kept s) := by
  unfold execPpsEdge
  repeat' (first | with_reducible rfl | (simp [kept_at, kept_foldl]; done) | split | rw [kept_foldl] | intro _ | dsimp only | simp [kept_at, kept_foldl])

@[simp] theorem execPpsMessageSend_kept (s : State) : keptOut (execPpsMessageSend s) = some (kept s) := by
  unfold execPpsMessageSend
  repeat' (first | with_reducible rfl | (simp [kept_at, kept_foldl]; done) | split | rw [kept_foldl] | intro _ | dsimp only | simp [kept_at, kept_foldl])

@[simp] theorem runLoop_kept (s : State) : kept (runLoop s) = kept s := by
  unfold runLoop
  repeat' (first | with_reducible rfl | (simp [kept_at, kept_foldl]; done) | split | rw [kept_foldl] | intro _ | dsimp only | simp [kept_at, kept_foldl])

@[simp] theorem execIncrementUpdate_kept (s : State) : keptOut (execIncrementUpdate s) = some (kept s) := by
  unfold execIncrementUpdate
  simp [kept_at, kept_foldl]

@[simp] theorem execDisciplineDisqualify_kept (t : TimeSource) (s : State) : keptOut (execDisciplineDisqualify t s) = some (kept s) := by
  unfold execDisciplineDisqualify
  simp [kept_at, kept_foldl]

@[simp] theorem execSourceQualified_kept (t : TimeSource) (s : State) : keptOut (execSourceQualified t s) = some (kept s) := by
  unfold execSourceQualified
  simp [kept_at, kept_foldl]

@[simp] theorem restartSlaves_kept (s : State) : kept (restartSlaves s) = kept s := by
  unfold restartSlaves
  simp [kept_at, kept_foldl]

@[simp] theorem execSourceDisqualified_kept (t : TimeSource) (s : State) : keptOut (execSourceDisqualified t s) = some (kept s) := by
  unfold execSourceDisqualified
  simp [kept_at, kept_foldl]

@[simp] theorem measured_kept (t : TimeSource) (offsetPs : Int) (sigma : Nat) (s : State) : kept (measured t offsetPs sigma s) = kept s := by
  unfold measured
  simp [kept_at, kept_foldl]

@[simp] theorem execPairTimeMeasurement_kept (s : State) : keptOut (execPairTimeMeasurement s) = some (kept s) := by
  unfold execPairTimeMeasurement
  repeat' (first | with_reducible rfl | (simp [kept_at, kept_foldl]; done) | split | rw [kept_foldl] | intro _ | dsimp only | simp [kept_at, kept_foldl])

@[simp] theorem modPtp_kept (p : Side) (f : PtpPort → PtpPort) (s : State) : kept (modPtp p f s) = kept s := by
  unfold modPtp
  simp [kept_at, kept_foldl]

@[simp] theorem startPtp_kept (s : State) : kept (startPtp s) = kept s := by
  unfold startPtp
  simp [kept_at, kept_foldl]

@[simp] theorem advanceTime_kept (trim : Int) (s : State) : kept (advanceTime trim s) = kept s := by
  unfold advanceTime
  simp [kept_at, kept_foldl]

@[simp] theorem modEngine_kept (e : Side) (f : Engine → Engine) (s : State) : kept (modEngine e f s) = kept s := by
  unfold modEngine
  repeat' (first | with_reducible rfl | (simp [kept_at, kept_foldl]; done) | split | rw [kept_foldl] | intro _ | dsimp only | simp [kept_at, kept_foldl])

@[simp] theorem modGnssRef_kept (e : Side) (f : GnssRef → GnssRef) (s : State) : kept (modGnssRef e f s) = kept s := by
  unfold modGnssRef
  repeat' (first | with_reducible rfl | (simp [kept_at, kept_foldl]; done) | split | rw [kept_foldl] | intro _ | dsimp only | simp [kept_at, kept_foldl])

@[simp] theorem modAntenna_kept (e : Side) (a : Nat) (f : AntennaPort → AntennaPort) (s : State) : kept (modAntenna e a f s) = kept s := by
  unfold modAntenna
  simp [kept_at, kept_foldl]

@[simp] theorem execChannelReallocation_kept (e : Side) (visible0 : List Satellite) (visible1 : List Satellite) (s : State) : keptOut (execChannelReallocation e visible0 visible1 s) = some (kept s) := by
  unfold execChannelReallocation
  simp [kept_at, kept_foldl]

@[simp] theorem execMultipathFit_kept (e : Side) (antenna : Nat) (signal : Nat) (s : State) : keptOut (execMultipathFit e antenna signal s) = some (kept s) := by
  unfold execMultipathFit
  simp [kept_at, kept_foldl]

@[simp] theorem trackChannels_kept (g : GnssSolution) (s : State) : kept (trackChannels g s) = kept s := by
  unfold trackChannels
  simp [kept_at, kept_foldl]

@[simp] theorem execGnssSolution_kept (g : GnssSolution) (s : State) : keptOut (execGnssSolution g s) = some (kept s) := by
  unfold execGnssSolution
  repeat' (first | with_reducible rfl | (simp [kept_at, kept_foldl]; done) | split | rw [kept_foldl] | intro _ | dsimp only | simp [kept_at, kept_foldl])

@[simp] theorem execGnssTimeMeasurement_kept (e : Side) (s : State) : keptOut (execGnssTimeMeasurement e s) = some (kept s) := by
  unfold execGnssTimeMeasurement
  repeat' (first | with_reducible rfl | (simp [kept_at, kept_foldl]; done) | split | rw [kept_foldl] | intro _ | dsimp only | simp [kept_at, kept_foldl])

@[simp] theorem startAntennas_kept (s : State) : kept (startAntennas s) = kept s := by
  unfold startAntennas
  simp [kept_at, kept_foldl]

@[simp] theorem antennaEvent_kept (s : State) : kept (antennaEvent s) = kept s := by
  unfold antennaEvent
  simp [kept_at, kept_foldl]

@[simp] theorem execAntennaShort_kept (e : Side) (antenna : Nat) (currentMa : Nat) (s : State) : keptOut (execAntennaShort e antenna currentMa s) = some (kept s) := by
  unfold execAntennaShort
  simp [kept_at, kept_foldl]

@[simp] theorem execAntennaOpen_kept (e : Side) (antenna : Nat) (s : State) : keptOut (execAntennaOpen e antenna s) = some (kept s) := by
  unfold execAntennaOpen
  simp [kept_at, kept_foldl]

@[simp] theorem execAntennaSupplyRetry_kept (e : Side) (antenna : Nat) (stillShort : Bool) (s : State) : keptOut (execAntennaSupplyRetry e antenna stillShort s) = some (kept s) := by
  unfold execAntennaSupplyRetry
  simp [kept_at, kept_foldl]

@[simp] theorem readAntennas_kept (ma : List Nat) (s : State) : kept (readAntennas ma s) = kept s := by
  unfold readAntennas
  simp [kept_at, kept_foldl]

@[simp] theorem gnssIntakeOf_kept (e : Side) (s : State) : kept (gnssIntakeOf e s) = kept s := by
  unfold gnssIntakeOf
  simp [kept_at, kept_foldl]

@[simp] theorem gnssIntake_kept (s : State) : kept (gnssIntake s) = kept s := by
  unfold gnssIntake
  simp [kept_at, kept_foldl]

@[simp] theorem execGnssEngineLost_kept (e : Side) (s : State) : keptOut (execGnssEngineLost e s) = some (kept s) := by
  unfold execGnssEngineLost
  simp [kept_at, kept_foldl]

@[simp] theorem modPnl_kept (f : Panel → Panel) (s : State) (h : ∀ p, (f p).frame = p.frame) : kept (modPnl f s) = kept s := by
  simp [modPnl, kept_at, h s.pnl]

@[simp] theorem endUpdate_kept (s : State) : kept (endUpdate s) = kept s := by
  unfold endUpdate
  simp [kept_at, kept_foldl]

@[simp] theorem takeBand_kept (s : State) : kept (takeBand s) = kept s := by
  unfold takeBand
  simp [kept_at, kept_foldl]

@[simp] theorem startRow_kept (s : State) : kept (startRow s) = kept s := by
  unfold startRow
  repeat' (first | with_reducible rfl | (simp [kept_at, kept_foldl]; done) | split | rw [kept_foldl] | intro _ | dsimp only | simp [kept_at, kept_foldl])

@[simp] theorem commitRow_kept_mode (r : Nat) (new : List Byte) (s : State) : (kept (commitRow r new s)).mode = (kept s).mode := by
  unfold commitRow
  rfl

@[simp] theorem commitRow_kept_unit (r : Nat) (new : List Byte) (s : State) : (kept (commitRow r new s)).unit = (kept s).unit := by
  unfold commitRow
  rfl

@[simp] theorem commitRow_kept_cfg (r : Nat) (new : List Byte) (s : State) : (kept (commitRow r new s)).cfg = (kept s).cfg := by
  unfold commitRow
  rfl

@[simp] theorem commitRow_kept_life (r : Nat) (new : List Byte) (s : State) : (kept (commitRow r new s)).life = (kept s).life := by
  unfold commitRow
  rfl

@[simp] theorem commitRow_kept_dump (r : Nat) (new : List Byte) (s : State) : (kept (commitRow r new s)).dump = (kept s).dump := by
  unfold commitRow
  rfl

@[simp] theorem commitRow_kept_records (r : Nat) (new : List Byte) (s : State) : (kept (commitRow r new s)).records = (kept s).records := by
  unfold commitRow
  rfl

@[simp] theorem commitRow_kept_full (r : Nat) (new : List Byte) (s : State) : (kept (commitRow r new s)).full = (kept s).full := by
  unfold commitRow
  rfl

@[simp] theorem commitRow_kept_staging (r : Nat) (new : List Byte) (s : State) : (kept (commitRow r new s)).staging = (kept s).staging := by
  unfold commitRow
  rfl

@[simp] theorem commitRow_kept_bankA (r : Nat) (new : List Byte) (s : State) : (kept (commitRow r new s)).bankA = (kept s).bankA := by
  unfold commitRow
  rfl

@[simp] theorem commitRow_kept_bankB (r : Nat) (new : List Byte) (s : State) : (kept (commitRow r new s)).bankB = (kept s).bankB := by
  unfold commitRow
  rfl

@[simp] theorem commitRow_kept_pending (r : Nat) (new : List Byte) (s : State) : (kept (commitRow r new s)).pending = (kept s).pending := by
  unfold commitRow
  rfl

@[simp] theorem completeLine_kept_mode (s : State) : (kept (completeLine s)).mode = (kept s).mode := by
  unfold completeLine
  repeat' (first | with_reducible rfl | (simp [kept_mode_foldl, kept_at, kept_foldl]; done) | split | rw [kept_mode_foldl] | intro _ | dsimp only | simp [kept_mode_foldl, kept_at, kept_foldl])

@[simp] theorem completeLine_kept_unit (s : State) : (kept (completeLine s)).unit = (kept s).unit := by
  unfold completeLine
  repeat' (first | with_reducible rfl | (simp [kept_unit_foldl, kept_at, kept_foldl]; done) | split | rw [kept_unit_foldl] | intro _ | dsimp only | simp [kept_unit_foldl, kept_at, kept_foldl])

@[simp] theorem completeLine_kept_cfg (s : State) : (kept (completeLine s)).cfg = (kept s).cfg := by
  unfold completeLine
  repeat' (first | with_reducible rfl | (simp [kept_cfg_foldl, kept_at, kept_foldl]; done) | split | rw [kept_cfg_foldl] | intro _ | dsimp only | simp [kept_cfg_foldl, kept_at, kept_foldl])

@[simp] theorem completeLine_kept_life (s : State) : (kept (completeLine s)).life = (kept s).life := by
  unfold completeLine
  repeat' (first | with_reducible rfl | (simp [kept_life_foldl, kept_at, kept_foldl]; done) | split | rw [kept_life_foldl] | intro _ | dsimp only | simp [kept_life_foldl, kept_at, kept_foldl])

@[simp] theorem completeLine_kept_dump (s : State) : (kept (completeLine s)).dump = (kept s).dump := by
  unfold completeLine
  repeat' (first | with_reducible rfl | (simp [kept_dump_foldl, kept_at, kept_foldl]; done) | split | rw [kept_dump_foldl] | intro _ | dsimp only | simp [kept_dump_foldl, kept_at, kept_foldl])

@[simp] theorem completeLine_kept_records (s : State) : (kept (completeLine s)).records = (kept s).records := by
  unfold completeLine
  repeat' (first | with_reducible rfl | (simp [kept_records_foldl, kept_at, kept_foldl]; done) | split | rw [kept_records_foldl] | intro _ | dsimp only | simp [kept_records_foldl, kept_at, kept_foldl])

@[simp] theorem completeLine_kept_full (s : State) : (kept (completeLine s)).full = (kept s).full := by
  unfold completeLine
  repeat' (first | with_reducible rfl | (simp [kept_full_foldl, kept_at, kept_foldl]; done) | split | rw [kept_full_foldl] | intro _ | dsimp only | simp [kept_full_foldl, kept_at, kept_foldl])

@[simp] theorem completeLine_kept_staging (s : State) : (kept (completeLine s)).staging = (kept s).staging := by
  unfold completeLine
  repeat' (first | with_reducible rfl | (simp [kept_staging_foldl, kept_at, kept_foldl]; done) | split | rw [kept_staging_foldl] | intro _ | dsimp only | simp [kept_staging_foldl, kept_at, kept_foldl])

@[simp] theorem completeLine_kept_bankA (s : State) : (kept (completeLine s)).bankA = (kept s).bankA := by
  unfold completeLine
  repeat' (first | with_reducible rfl | (simp [kept_bankA_foldl, kept_at, kept_foldl]; done) | split | rw [kept_bankA_foldl] | intro _ | dsimp only | simp [kept_bankA_foldl, kept_at, kept_foldl])

@[simp] theorem completeLine_kept_bankB (s : State) : (kept (completeLine s)).bankB = (kept s).bankB := by
  unfold completeLine
  repeat' (first | with_reducible rfl | (simp [kept_bankB_foldl, kept_at, kept_foldl]; done) | split | rw [kept_bankB_foldl] | intro _ | dsimp only | simp [kept_bankB_foldl, kept_at, kept_foldl])

@[simp] theorem completeLine_kept_pending (s : State) : (kept (completeLine s)).pending = (kept s).pending := by
  unfold completeLine
  repeat' (first | with_reducible rfl | (simp [kept_pending_foldl, kept_at, kept_foldl]; done) | split | rw [kept_pending_foldl] | intro _ | dsimp only | simp [kept_pending_foldl, kept_at, kept_foldl])

@[simp] theorem execPanelEvaluation_kept (s : State) : keptOut (execPanelEvaluation s) = some (kept s) := by
  unfold execPanelEvaluation
  simp [kept_at, kept_foldl]

@[simp] theorem panelEpoch_kept (s : State) : kept (panelEpoch s) = kept s := by
  unfold panelEpoch
  simp [kept_at, kept_foldl]

@[simp] theorem execPanelTemperatureRead_kept (t : Int) (s : State) : keptOut (execPanelTemperatureRead t s) = some (kept s) := by
  unfold execPanelTemperatureRead
  simp [kept_at, kept_foldl]

@[simp] theorem execFrameMemoryCrcCheck_kept (s : State) : keptOut (execFrameMemoryCrcCheck s) = some (kept s) := by
  unfold execFrameMemoryCrcCheck
  simp [kept_at, kept_foldl]

@[simp] theorem execPanelCrack_kept (openEpochs : Nat) (s : State) : keptOut (execPanelCrack openEpochs s) = some (kept s) := by
  unfold execPanelCrack
  simp [kept_at, kept_foldl]

@[simp] theorem execCrackLoopClosed_kept (s : State) : keptOut (execCrackLoopClosed s) = some (kept s) := by
  unfold execCrackLoopClosed
  simp [kept_at, kept_foldl]

@[simp] theorem refreshPanel_kept (s : State) : kept (refreshPanel s) = kept s := by
  unfold refreshPanel
  simp [kept_at, kept_foldl]

@[simp] theorem closeOutPanel_kept_mode (complete : Bool) (s : State) : (kept (closeOutPanel complete s)).mode = (kept s).mode := by
  unfold closeOutPanel
  repeat' (first | with_reducible rfl | (simp [kept_mode_foldl, kept_at, kept_foldl]; done) | split | rw [kept_mode_foldl] | intro _ | dsimp only | simp [kept_mode_foldl, kept_at, kept_foldl])

@[simp] theorem closeOutPanel_kept_unit (complete : Bool) (s : State) : (kept (closeOutPanel complete s)).unit = (kept s).unit := by
  unfold closeOutPanel
  repeat' (first | with_reducible rfl | (simp [kept_unit_foldl, kept_at, kept_foldl]; done) | split | rw [kept_unit_foldl] | intro _ | dsimp only | simp [kept_unit_foldl, kept_at, kept_foldl])

@[simp] theorem closeOutPanel_kept_cfg (complete : Bool) (s : State) : (kept (closeOutPanel complete s)).cfg = (kept s).cfg := by
  unfold closeOutPanel
  repeat' (first | with_reducible rfl | (simp [kept_cfg_foldl, kept_at, kept_foldl]; done) | split | rw [kept_cfg_foldl] | intro _ | dsimp only | simp [kept_cfg_foldl, kept_at, kept_foldl])

@[simp] theorem closeOutPanel_kept_life (complete : Bool) (s : State) : (kept (closeOutPanel complete s)).life = (kept s).life := by
  unfold closeOutPanel
  repeat' (first | with_reducible rfl | (simp [kept_life_foldl, kept_at, kept_foldl]; done) | split | rw [kept_life_foldl] | intro _ | dsimp only | simp [kept_life_foldl, kept_at, kept_foldl])

@[simp] theorem closeOutPanel_kept_dump (complete : Bool) (s : State) : (kept (closeOutPanel complete s)).dump = (kept s).dump := by
  unfold closeOutPanel
  repeat' (first | with_reducible rfl | (simp [kept_dump_foldl, kept_at, kept_foldl]; done) | split | rw [kept_dump_foldl] | intro _ | dsimp only | simp [kept_dump_foldl, kept_at, kept_foldl])

@[simp] theorem closeOutPanel_kept_records (complete : Bool) (s : State) : (kept (closeOutPanel complete s)).records = (kept s).records := by
  unfold closeOutPanel
  repeat' (first | with_reducible rfl | (simp [kept_records_foldl, kept_at, kept_foldl]; done) | split | rw [kept_records_foldl] | intro _ | dsimp only | simp [kept_records_foldl, kept_at, kept_foldl])

@[simp] theorem closeOutPanel_kept_full (complete : Bool) (s : State) : (kept (closeOutPanel complete s)).full = (kept s).full := by
  unfold closeOutPanel
  repeat' (first | with_reducible rfl | (simp [kept_full_foldl, kept_at, kept_foldl]; done) | split | rw [kept_full_foldl] | intro _ | dsimp only | simp [kept_full_foldl, kept_at, kept_foldl])

@[simp] theorem closeOutPanel_kept_staging (complete : Bool) (s : State) : (kept (closeOutPanel complete s)).staging = (kept s).staging := by
  unfold closeOutPanel
  repeat' (first | with_reducible rfl | (simp [kept_staging_foldl, kept_at, kept_foldl]; done) | split | rw [kept_staging_foldl] | intro _ | dsimp only | simp [kept_staging_foldl, kept_at, kept_foldl])

@[simp] theorem closeOutPanel_kept_bankA (complete : Bool) (s : State) : (kept (closeOutPanel complete s)).bankA = (kept s).bankA := by
  unfold closeOutPanel
  repeat' (first | with_reducible rfl | (simp [kept_bankA_foldl, kept_at, kept_foldl]; done) | split | rw [kept_bankA_foldl] | intro _ | dsimp only | simp [kept_bankA_foldl, kept_at, kept_foldl])

@[simp] theorem closeOutPanel_kept_bankB (complete : Bool) (s : State) : (kept (closeOutPanel complete s)).bankB = (kept s).bankB := by
  unfold closeOutPanel
  repeat' (first | with_reducible rfl | (simp [kept_bankB_foldl, kept_at, kept_foldl]; done) | split | rw [kept_bankB_foldl] | intro _ | dsimp only | simp [kept_bankB_foldl, kept_at, kept_foldl])

@[simp] theorem closeOutPanel_kept_pending (complete : Bool) (s : State) : (kept (closeOutPanel complete s)).pending = (kept s).pending := by
  unfold closeOutPanel
  repeat' (first | with_reducible rfl | (simp [kept_pending_foldl, kept_at, kept_foldl]; done) | split | rw [kept_pending_foldl] | intro _ | dsimp only | simp [kept_pending_foldl, kept_at, kept_foldl])

@[simp] theorem closeOutRecords_kept (s : State) : kept (closeOutRecords s) = kept s := by
  unfold closeOutRecords
  simp [kept_at, kept_foldl]

@[simp] theorem assertReset_kept_unit (complete : Bool) (s : State) : (kept (assertReset complete s)).unit = (kept s).unit := by
  unfold assertReset
  simp [kept_unit_foldl, kept_at, kept_foldl]

@[simp] theorem assertReset_kept_cfg (complete : Bool) (s : State) : (kept (assertReset complete s)).cfg = (kept s).cfg := by
  unfold assertReset
  simp [kept_cfg_foldl, kept_at, kept_foldl]

@[simp] theorem assertReset_kept_life (complete : Bool) (s : State) : (kept (assertReset complete s)).life = (kept s).life := by
  unfold assertReset
  simp [kept_life_foldl, kept_at, kept_foldl]

@[simp] theorem assertReset_kept_dump (complete : Bool) (s : State) : (kept (assertReset complete s)).dump = (kept s).dump := by
  unfold assertReset
  simp [kept_dump_foldl, kept_at, kept_foldl]

@[simp] theorem assertReset_kept_records (complete : Bool) (s : State) : (kept (assertReset complete s)).records = (kept s).records := by
  unfold assertReset
  simp [kept_records_foldl, kept_at, kept_foldl]

@[simp] theorem assertReset_kept_full (complete : Bool) (s : State) : (kept (assertReset complete s)).full = (kept s).full := by
  unfold assertReset
  simp [kept_full_foldl, kept_at, kept_foldl]

@[simp] theorem assertReset_kept_staging (complete : Bool) (s : State) : (kept (assertReset complete s)).staging = (kept s).staging := by
  unfold assertReset
  simp [kept_staging_foldl, kept_at, kept_foldl]

@[simp] theorem assertReset_kept_bankA (complete : Bool) (s : State) : (kept (assertReset complete s)).bankA = (kept s).bankA := by
  unfold assertReset
  simp [kept_bankA_foldl, kept_at, kept_foldl]

@[simp] theorem assertReset_kept_bankB (complete : Bool) (s : State) : (kept (assertReset complete s)).bankB = (kept s).bankB := by
  unfold assertReset
  simp [kept_bankB_foldl, kept_at, kept_foldl]

@[simp] theorem assertReset_kept_pending (complete : Bool) (s : State) : (kept (assertReset complete s)).pending = (kept s).pending := by
  unfold assertReset
  simp [kept_pending_foldl, kept_at, kept_foldl]

@[simp] theorem startEvents_kept (cause : ResetCause) (lost : Bool) (t : State) : kept (startEvents cause lost t) = kept t := by
  unfold startEvents
  simp [kept_at, kept_foldl]

theorem stateAtStart_kept (cause : ResetCause) (unit : UnitId) (crackOpen : Bool) (s : State) :
    kept (stateAtStart cause unit crackOpen s) =
      ⟨.boot, unit, {}, startLife s, (startDump s).mem, (startRecorder s).records, (startRecorder s).full, (startUpdate s).staging,
        (startPanel crackOpen s).frame, (startUpdate s).bankA.content, (startUpdate s).bankB.content, s.pending⟩ := rfl

@[simp] theorem resetUnit_kept_records (cause : ResetCause) (unit : UnitId) (crackOpen : Bool) (s : State) :
    (kept (resetUnit cause unit crackOpen s)).records = (kept s).records := by
  simp [resetUnit, stateAtStart_kept, kept_at, startRecorder]

@[simp] theorem resetUnit_kept_full (cause : ResetCause) (unit : UnitId) (crackOpen : Bool) (s : State) :
    (kept (resetUnit cause unit crackOpen s)).full = (kept s).full := by
  simp [resetUnit, stateAtStart_kept, kept_at, startRecorder]

@[simp] theorem resetUnit_kept_staging (cause : ResetCause) (unit : UnitId) (crackOpen : Bool) (s : State) :
    (kept (resetUnit cause unit crackOpen s)).staging = (kept s).staging := by
  simp [resetUnit, stateAtStart_kept, kept_at, startUpdate]

@[simp] theorem resetUnit_kept_frame (cause : ResetCause) (unit : UnitId) (crackOpen : Bool) (s : State) :
    (kept (resetUnit cause unit crackOpen s)).frame = (kept s).frame := by
  simp [resetUnit, stateAtStart_kept, kept_at, startPanel]

@[simp] theorem resetUnit_kept_bankA (cause : ResetCause) (unit : UnitId) (crackOpen : Bool) (s : State) :
    (kept (resetUnit cause unit crackOpen s)).bankA = (kept s).bankA := by
  simp [resetUnit, stateAtStart_kept, kept_at, startUpdate]

@[simp] theorem resetUnit_kept_bankB (cause : ResetCause) (unit : UnitId) (crackOpen : Bool) (s : State) :
    (kept (resetUnit cause unit crackOpen s)).bankB = (kept s).bankB := by
  simp [resetUnit, stateAtStart_kept, kept_at, startUpdate]

@[simp] theorem resetUnit_kept_pending (cause : ResetCause) (unit : UnitId) (crackOpen : Bool) (s : State) :
    (kept (resetUnit cause unit crackOpen s)).pending = (kept s).pending := by
  simp [resetUnit, stateAtStart_kept, kept_at]

@[simp] theorem resetUnit_kept_mode (cause : ResetCause) (unit : UnitId) (crackOpen : Bool) (s : State) :
    (kept (resetUnit cause unit crackOpen s)).mode = .boot := by
  simp [resetUnit, stateAtStart_kept]

@[simp] theorem resetUnit_kept_unit (cause : ResetCause) (unit : UnitId) (crackOpen : Bool) (s : State) :
    (kept (resetUnit cause unit crackOpen s)).unit = unit := by
  simp [resetUnit, stateAtStart_kept]

@[simp] theorem resetUnit_kept_dump (cause : ResetCause) (unit : UnitId) (crackOpen : Bool) (s : State) :
    (kept (resetUnit cause unit crackOpen s)).dump = if s.dmp.valid then s.dmp.mem else [] := by
  simp [resetUnit, stateAtStart_kept, kept_at, startDump]

@[simp] theorem monitorRelease_kept_records (nowMs : Nat) (strapHigh : Bool) (crackOpen : Bool) (s : State) : (kept (monitorRelease nowMs strapHigh crackOpen s)).records = (kept s).records := by
  unfold monitorRelease
  simp [kept_records_foldl, kept_at, kept_foldl]

@[simp] theorem monitorRelease_kept_full (nowMs : Nat) (strapHigh : Bool) (crackOpen : Bool) (s : State) : (kept (monitorRelease nowMs strapHigh crackOpen s)).full = (kept s).full := by
  unfold monitorRelease
  simp [kept_full_foldl, kept_at, kept_foldl]

@[simp] theorem monitorRelease_kept_staging (nowMs : Nat) (strapHigh : Bool) (crackOpen : Bool) (s : State) : (kept (monitorRelease nowMs strapHigh crackOpen s)).staging = (kept s).staging := by
  unfold monitorRelease
  simp [kept_staging_foldl, kept_at, kept_foldl]

@[simp] theorem monitorRelease_kept_frame (nowMs : Nat) (strapHigh : Bool) (crackOpen : Bool) (s : State) : (kept (monitorRelease nowMs strapHigh crackOpen s)).frame = (kept s).frame := by
  unfold monitorRelease
  simp [kept_frame_foldl, kept_at, kept_foldl]

@[simp] theorem monitorRelease_kept_bankA (nowMs : Nat) (strapHigh : Bool) (crackOpen : Bool) (s : State) : (kept (monitorRelease nowMs strapHigh crackOpen s)).bankA = (kept s).bankA := by
  unfold monitorRelease
  simp [kept_bankA_foldl, kept_at, kept_foldl]

@[simp] theorem monitorRelease_kept_bankB (nowMs : Nat) (strapHigh : Bool) (crackOpen : Bool) (s : State) : (kept (monitorRelease nowMs strapHigh crackOpen s)).bankB = (kept s).bankB := by
  unfold monitorRelease
  simp [kept_bankB_foldl, kept_at, kept_foldl]

@[simp] theorem monitorRelease_kept_pending (nowMs : Nat) (strapHigh : Bool) (crackOpen : Bool) (s : State) : (kept (monitorRelease nowMs strapHigh crackOpen s)).pending = (kept s).pending := by
  unfold monitorRelease
  simp [kept_pending_foldl, kept_at, kept_foldl]

@[simp] theorem supplyRelease_kept_records (volts : Nat) (heldMs : Nat) (strapHigh : Bool) (crackOpen : Bool) (s : State) : (kept (supplyRelease volts heldMs strapHigh crackOpen s)).records = (kept s).records := by
  unfold supplyRelease
  simp [kept_records_foldl, kept_at, kept_foldl]

@[simp] theorem supplyRelease_kept_full (volts : Nat) (heldMs : Nat) (strapHigh : Bool) (crackOpen : Bool) (s : State) : (kept (supplyRelease volts heldMs strapHigh crackOpen s)).full = (kept s).full := by
  unfold supplyRelease
  simp [kept_full_foldl, kept_at, kept_foldl]

@[simp] theorem supplyRelease_kept_staging (volts : Nat) (heldMs : Nat) (strapHigh : Bool) (crackOpen : Bool) (s : State) : (kept (supplyRelease volts heldMs strapHigh crackOpen s)).staging = (kept s).staging := by
  unfold supplyRelease
  simp [kept_staging_foldl, kept_at, kept_foldl]

@[simp] theorem supplyRelease_kept_frame (volts : Nat) (heldMs : Nat) (strapHigh : Bool) (crackOpen : Bool) (s : State) : (kept (supplyRelease volts heldMs strapHigh crackOpen s)).frame = (kept s).frame := by
  unfold supplyRelease
  simp [kept_frame_foldl, kept_at, kept_foldl]

@[simp] theorem supplyRelease_kept_bankA (volts : Nat) (heldMs : Nat) (strapHigh : Bool) (crackOpen : Bool) (s : State) : (kept (supplyRelease volts heldMs strapHigh crackOpen s)).bankA = (kept s).bankA := by
  unfold supplyRelease
  simp [kept_bankA_foldl, kept_at, kept_foldl]

@[simp] theorem supplyRelease_kept_bankB (volts : Nat) (heldMs : Nat) (strapHigh : Bool) (crackOpen : Bool) (s : State) : (kept (supplyRelease volts heldMs strapHigh crackOpen s)).bankB = (kept s).bankB := by
  unfold supplyRelease
  simp [kept_bankB_foldl, kept_at, kept_foldl]

@[simp] theorem supplyRelease_kept_pending (volts : Nat) (heldMs : Nat) (strapHigh : Bool) (crackOpen : Bool) (s : State) : (kept (supplyRelease volts heldMs strapHigh crackOpen s)).pending = (kept s).pending := by
  unfold supplyRelease
  simp [kept_pending_foldl, kept_at, kept_foldl]

@[simp] theorem modWsk_kept (f : Whisk → Whisk) (s : State) : kept (modWsk f s) = kept s := by
  unfold modWsk
  simp [kept_at, kept_foldl]

@[simp] theorem applyModCmd_kept_unit (w : Word) (s : State) : (kept (applyModCmd w s)).unit = (kept s).unit := by
  unfold applyModCmd
  repeat' (first | with_reducible rfl | (simp [kept_unit_foldl, kept_at, kept_foldl]; done) | split | rw [kept_unit_foldl] | intro _ | dsimp only | simp [kept_unit_foldl, kept_at, kept_foldl])

@[simp] theorem applyModCmd_kept_cfg (w : Word) (s : State) : (kept (applyModCmd w s)).cfg = (kept s).cfg := by
  unfold applyModCmd
  repeat' (first | with_reducible rfl | (simp [kept_cfg_foldl, kept_at, kept_foldl]; done) | split | rw [kept_cfg_foldl] | intro _ | dsimp only | simp [kept_cfg_foldl, kept_at, kept_foldl])

@[simp] theorem applyModCmd_kept_life (w : Word) (s : State) : (kept (applyModCmd w s)).life = (kept s).life := by
  unfold applyModCmd
  repeat' (first | with_reducible rfl | (simp [kept_life_foldl, kept_at, kept_foldl]; done) | split | rw [kept_life_foldl] | intro _ | dsimp only | simp [kept_life_foldl, kept_at, kept_foldl])

@[simp] theorem applyModCmd_kept_dump (w : Word) (s : State) : (kept (applyModCmd w s)).dump = (kept s).dump := by
  unfold applyModCmd
  repeat' (first | with_reducible rfl | (simp [kept_dump_foldl, kept_at, kept_foldl]; done) | split | rw [kept_dump_foldl] | intro _ | dsimp only | simp [kept_dump_foldl, kept_at, kept_foldl])

@[simp] theorem applyModCmd_kept_records (w : Word) (s : State) : (kept (applyModCmd w s)).records = (kept s).records := by
  unfold applyModCmd
  repeat' (first | with_reducible rfl | (simp [kept_records_foldl, kept_at, kept_foldl]; done) | split | rw [kept_records_foldl] | intro _ | dsimp only | simp [kept_records_foldl, kept_at, kept_foldl])

@[simp] theorem applyModCmd_kept_full (w : Word) (s : State) : (kept (applyModCmd w s)).full = (kept s).full := by
  unfold applyModCmd
  repeat' (first | with_reducible rfl | (simp [kept_full_foldl, kept_at, kept_foldl]; done) | split | rw [kept_full_foldl] | intro _ | dsimp only | simp [kept_full_foldl, kept_at, kept_foldl])

@[simp] theorem applyModCmd_kept_staging (w : Word) (s : State) : (kept (applyModCmd w s)).staging = (kept s).staging := by
  unfold applyModCmd
  repeat' (first | with_reducible rfl | (simp [kept_staging_foldl, kept_at, kept_foldl]; done) | split | rw [kept_staging_foldl] | intro _ | dsimp only | simp [kept_staging_foldl, kept_at, kept_foldl])

@[simp] theorem applyModCmd_kept_frame (w : Word) (s : State) : (kept (applyModCmd w s)).frame = (kept s).frame := by
  unfold applyModCmd
  repeat' (first | with_reducible rfl | (simp [kept_frame_foldl, kept_at, kept_foldl]; done) | split | rw [kept_frame_foldl] | intro _ | dsimp only | simp [kept_frame_foldl, kept_at, kept_foldl])

@[simp] theorem applyModCmd_kept_bankA (w : Word) (s : State) : (kept (applyModCmd w s)).bankA = (kept s).bankA := by
  unfold applyModCmd
  repeat' (first | with_reducible rfl | (simp [kept_bankA_foldl, kept_at, kept_foldl]; done) | split | rw [kept_bankA_foldl] | intro _ | dsimp only | simp [kept_bankA_foldl, kept_at, kept_foldl])

@[simp] theorem applyModCmd_kept_bankB (w : Word) (s : State) : (kept (applyModCmd w s)).bankB = (kept s).bankB := by
  unfold applyModCmd
  repeat' (first | with_reducible rfl | (simp [kept_bankB_foldl, kept_at, kept_foldl]; done) | split | rw [kept_bankB_foldl] | intro _ | dsimp only | simp [kept_bankB_foldl, kept_at, kept_foldl])

@[simp] theorem applyModCmd_kept_pending (w : Word) (s : State) : (kept (applyModCmd w s)).pending = (kept s).pending := by
  unfold applyModCmd
  repeat' (first | with_reducible rfl | (simp [kept_pending_foldl, kept_at, kept_foldl]; done) | split | rw [kept_pending_foldl] | intro _ | dsimp only | simp [kept_pending_foldl, kept_at, kept_foldl])

@[simp] theorem applyMask_kept (b : Nat) (w : Word) (s : State) : kept (applyMask b w s) = kept s := by
  unfold applyMask
  simp [kept_at, kept_foldl]

@[simp] theorem clearRecorder_kept_mode (slot : Nat) (s : State) : (kept (clearRecorder slot s)).mode = (kept s).mode := by
  unfold clearRecorder
  simp [kept_mode_foldl, kept_at, kept_foldl]

@[simp] theorem clearRecorder_kept_unit (slot : Nat) (s : State) : (kept (clearRecorder slot s)).unit = (kept s).unit := by
  unfold clearRecorder
  simp [kept_unit_foldl, kept_at, kept_foldl]

@[simp] theorem clearRecorder_kept_cfg (slot : Nat) (s : State) : (kept (clearRecorder slot s)).cfg = (kept s).cfg := by
  unfold clearRecorder
  simp [kept_cfg_foldl, kept_at, kept_foldl]

@[simp] theorem clearRecorder_kept_life (slot : Nat) (s : State) : (kept (clearRecorder slot s)).life = (kept s).life := by
  unfold clearRecorder
  simp [kept_life_foldl, kept_at, kept_foldl]

@[simp] theorem clearRecorder_kept_dump (slot : Nat) (s : State) : (kept (clearRecorder slot s)).dump = (kept s).dump := by
  unfold clearRecorder
  simp [kept_dump_foldl, kept_at, kept_foldl]

@[simp] theorem clearRecorder_kept_staging (slot : Nat) (s : State) : (kept (clearRecorder slot s)).staging = (kept s).staging := by
  unfold clearRecorder
  simp [kept_staging_foldl, kept_at, kept_foldl]

@[simp] theorem clearRecorder_kept_frame (slot : Nat) (s : State) : (kept (clearRecorder slot s)).frame = (kept s).frame := by
  unfold clearRecorder
  simp [kept_frame_foldl, kept_at, kept_foldl]

@[simp] theorem clearRecorder_kept_bankA (slot : Nat) (s : State) : (kept (clearRecorder slot s)).bankA = (kept s).bankA := by
  unfold clearRecorder
  simp [kept_bankA_foldl, kept_at, kept_foldl]

@[simp] theorem clearRecorder_kept_bankB (slot : Nat) (s : State) : (kept (clearRecorder slot s)).bankB = (kept s).bankB := by
  unfold clearRecorder
  simp [kept_bankB_foldl, kept_at, kept_foldl]

@[simp] theorem clearRecorder_kept_pending (slot : Nat) (s : State) : (kept (clearRecorder slot s)).pending = (kept s).pending := by
  unfold clearRecorder
  simp [kept_pending_foldl, kept_at, kept_foldl]

@[simp] theorem applyLife_kept_mode (w : Word) (s : State) : (kept (applyLife w s)).mode = (kept s).mode := by
  unfold applyLife
  simp [kept_mode_foldl, kept_at, kept_foldl]

@[simp] theorem applyLife_kept_unit (w : Word) (s : State) : (kept (applyLife w s)).unit = (kept s).unit := by
  unfold applyLife
  simp [kept_unit_foldl, kept_at, kept_foldl]

@[simp] theorem applyLife_kept_cfg (w : Word) (s : State) : (kept (applyLife w s)).cfg = (kept s).cfg := by
  unfold applyLife
  simp [kept_cfg_foldl, kept_at, kept_foldl]

@[simp] theorem applyLife_kept_dump (w : Word) (s : State) : (kept (applyLife w s)).dump = (kept s).dump := by
  unfold applyLife
  simp [kept_dump_foldl, kept_at, kept_foldl]

@[simp] theorem applyLife_kept_records (w : Word) (s : State) : (kept (applyLife w s)).records = (kept s).records := by
  unfold applyLife
  simp [kept_records_foldl, kept_at, kept_foldl]

@[simp] theorem applyLife_kept_full (w : Word) (s : State) : (kept (applyLife w s)).full = (kept s).full := by
  unfold applyLife
  simp [kept_full_foldl, kept_at, kept_foldl]

@[simp] theorem applyLife_kept_staging (w : Word) (s : State) : (kept (applyLife w s)).staging = (kept s).staging := by
  unfold applyLife
  simp [kept_staging_foldl, kept_at, kept_foldl]

@[simp] theorem applyLife_kept_frame (w : Word) (s : State) : (kept (applyLife w s)).frame = (kept s).frame := by
  unfold applyLife
  simp [kept_frame_foldl, kept_at, kept_foldl]

@[simp] theorem applyLife_kept_bankA (w : Word) (s : State) : (kept (applyLife w s)).bankA = (kept s).bankA := by
  unfold applyLife
  simp [kept_bankA_foldl, kept_at, kept_foldl]

@[simp] theorem applyLife_kept_bankB (w : Word) (s : State) : (kept (applyLife w s)).bankB = (kept s).bankB := by
  unfold applyLife
  simp [kept_bankB_foldl, kept_at, kept_foldl]

@[simp] theorem applyLife_kept_pending (w : Word) (s : State) : (kept (applyLife w s)).pending = (kept s).pending := by
  unfold applyLife
  simp [kept_pending_foldl, kept_at, kept_foldl]

@[simp] theorem applyCommit_kept (d : Nat) (s : State) : kept (applyCommit d s) = kept s := by
  unfold applyCommit
  simp [kept_at, kept_foldl]

@[simp] theorem applyWaypoint_kept (a : Nat) (w : Word) (s : State) : kept (applyWaypoint a w s) = kept s := by
  unfold applyWaypoint
  simp [kept_at, kept_foldl]

@[simp] theorem applySieve_kept (n : Nat) (w : Word) (s : State) : kept (applySieve n w s) = kept s := by
  unfold applySieve
  simp [kept_at, kept_foldl]

@[simp] theorem applyDispute_kept (w : Word) (s : State) : kept (applyDispute w s) = kept s := by
  unfold applyDispute
  simp [kept_at, kept_foldl]

@[simp] theorem applyReset_kept (mask : Nat) (s : State) : kept (applyReset mask s) = kept s := by
  unfold applyReset
  simp [kept_at, kept_foldl]

@[simp] theorem applyWirechk_kept (w : Word) (s : State) : kept (applyWirechk w s) = kept s := by
  unfold applyWirechk
  simp [kept_at, kept_foldl]

@[simp] theorem applyWord_kept_unit (slot : Nat) (rs : List (Nat × Word)) (a : Nat) (w : Word) (s : State) : (kept (applyWord slot rs a w s)).unit = (kept s).unit := by
  unfold applyWord
  simp [kept_unit_foldl, kept_at, kept_foldl]

@[simp] theorem applyWord_kept_cfg (slot : Nat) (rs : List (Nat × Word)) (a : Nat) (w : Word) (s : State) : (kept (applyWord slot rs a w s)).cfg = (kept s).cfg := by
  unfold applyWord
  simp [kept_cfg_foldl, kept_at, kept_foldl]

@[simp] theorem applyWord_kept_dump (slot : Nat) (rs : List (Nat × Word)) (a : Nat) (w : Word) (s : State) : (kept (applyWord slot rs a w s)).dump = (kept s).dump := by
  unfold applyWord
  simp [kept_dump_foldl, kept_at, kept_foldl]

@[simp] theorem applyWord_kept_staging (slot : Nat) (rs : List (Nat × Word)) (a : Nat) (w : Word) (s : State) : (kept (applyWord slot rs a w s)).staging = (kept s).staging := by
  unfold applyWord
  simp [kept_staging_foldl, kept_at, kept_foldl]

@[simp] theorem applyWord_kept_frame (slot : Nat) (rs : List (Nat × Word)) (a : Nat) (w : Word) (s : State) : (kept (applyWord slot rs a w s)).frame = (kept s).frame := by
  unfold applyWord
  simp [kept_frame_foldl, kept_at, kept_foldl]

@[simp] theorem applyWord_kept_bankA (slot : Nat) (rs : List (Nat × Word)) (a : Nat) (w : Word) (s : State) : (kept (applyWord slot rs a w s)).bankA = (kept s).bankA := by
  unfold applyWord
  simp [kept_bankA_foldl, kept_at, kept_foldl]

@[simp] theorem applyWord_kept_bankB (slot : Nat) (rs : List (Nat × Word)) (a : Nat) (w : Word) (s : State) : (kept (applyWord slot rs a w s)).bankB = (kept s).bankB := by
  unfold applyWord
  simp [kept_bankB_foldl, kept_at, kept_foldl]

@[simp] theorem applyWord_kept_pending (slot : Nat) (rs : List (Nat × Word)) (a : Nat) (w : Word) (s : State) : (kept (applyWord slot rs a w s)).pending = (kept s).pending := by
  unfold applyWord
  simp [kept_pending_foldl, kept_at, kept_foldl]

@[simp] theorem applyCommand_kept_unit (c : Command) (s : State) : (kept (applyCommand c s)).unit = (kept s).unit := by
  unfold applyCommand
  simp [kept_unit_foldl, kept_at, kept_foldl]

@[simp] theorem applyCommand_kept_cfg (c : Command) (s : State) : (kept (applyCommand c s)).cfg = (kept s).cfg := by
  unfold applyCommand
  simp [kept_cfg_foldl, kept_at, kept_foldl]

@[simp] theorem applyCommand_kept_dump (c : Command) (s : State) : (kept (applyCommand c s)).dump = (kept s).dump := by
  unfold applyCommand
  simp [kept_dump_foldl, kept_at, kept_foldl]

@[simp] theorem applyCommand_kept_staging (c : Command) (s : State) : (kept (applyCommand c s)).staging = (kept s).staging := by
  unfold applyCommand
  simp [kept_staging_foldl, kept_at, kept_foldl]

@[simp] theorem applyCommand_kept_frame (c : Command) (s : State) : (kept (applyCommand c s)).frame = (kept s).frame := by
  unfold applyCommand
  simp [kept_frame_foldl, kept_at, kept_foldl]

@[simp] theorem applyCommand_kept_bankA (c : Command) (s : State) : (kept (applyCommand c s)).bankA = (kept s).bankA := by
  unfold applyCommand
  simp [kept_bankA_foldl, kept_at, kept_foldl]

@[simp] theorem applyCommand_kept_bankB (c : Command) (s : State) : (kept (applyCommand c s)).bankB = (kept s).bankB := by
  unfold applyCommand
  simp [kept_bankB_foldl, kept_at, kept_foldl]

@[simp] theorem applyCommand_kept_pending (c : Command) (s : State) : (kept (applyCommand c s)).pending = (kept s).pending := by
  unfold applyCommand
  simp [kept_pending_foldl, kept_at, kept_foldl]

@[simp] theorem takeEffect_kept_unit (c : Command) (s : State) : (kept (takeEffect c s)).unit = (kept s).unit := by
  unfold takeEffect
  simp [kept_unit_foldl, kept_at, kept_foldl]

@[simp] theorem takeEffect_kept_cfg (c : Command) (s : State) : (kept (takeEffect c s)).cfg = (kept s).cfg := by
  unfold takeEffect
  simp [kept_cfg_foldl, kept_at, kept_foldl]

@[simp] theorem takeEffect_kept_dump (c : Command) (s : State) : (kept (takeEffect c s)).dump = (kept s).dump := by
  unfold takeEffect
  simp [kept_dump_foldl, kept_at, kept_foldl]

@[simp] theorem takeEffect_kept_staging (c : Command) (s : State) : (kept (takeEffect c s)).staging = (kept s).staging := by
  unfold takeEffect
  simp [kept_staging_foldl, kept_at, kept_foldl]

@[simp] theorem takeEffect_kept_frame (c : Command) (s : State) : (kept (takeEffect c s)).frame = (kept s).frame := by
  unfold takeEffect
  simp [kept_frame_foldl, kept_at, kept_foldl]

@[simp] theorem takeEffect_kept_bankA (c : Command) (s : State) : (kept (takeEffect c s)).bankA = (kept s).bankA := by
  unfold takeEffect
  simp [kept_bankA_foldl, kept_at, kept_foldl]

@[simp] theorem takeEffect_kept_bankB (c : Command) (s : State) : (kept (takeEffect c s)).bankB = (kept s).bankB := by
  unfold takeEffect
  simp [kept_bankB_foldl, kept_at, kept_foldl]

@[simp] theorem takeEffect_kept_pending (c : Command) (s : State) : (kept (takeEffect c s)).pending = (kept s).pending := by
  unfold takeEffect
  simp [kept_pending_foldl, kept_at, kept_foldl]

@[simp] theorem validateCommands_kept (s : State) : kept (validateCommands s) = kept s := by
  unfold validateCommands
  simp [kept_at, kept_foldl]

@[simp] theorem restartUnit_kept_unit (s : State) : (kept (restartUnit s)).unit = (kept s).unit := by
  unfold restartUnit
  simp [kept_unit_foldl, kept_at, kept_foldl]

@[simp] theorem restartUnit_kept_staging (s : State) : (kept (restartUnit s)).staging = (kept s).staging := by
  unfold restartUnit
  simp [kept_staging_foldl, kept_at, kept_foldl]

@[simp] theorem restartUnit_kept_bankA (s : State) : (kept (restartUnit s)).bankA = (kept s).bankA := by
  unfold restartUnit
  simp [kept_bankA_foldl, kept_at, kept_foldl]

@[simp] theorem restartUnit_kept_bankB (s : State) : (kept (restartUnit s)).bankB = (kept s).bankB := by
  unfold restartUnit
  simp [kept_bankB_foldl, kept_at, kept_foldl]

@[simp] theorem restartUnit_kept_pending (s : State) : (kept (restartUnit s)).pending = (kept s).pending := by
  unfold restartUnit
  simp [kept_pending_foldl, kept_at, kept_foldl]

@[simp] theorem toMaintenance_kept_unit (s : State) : (kept (toMaintenance s)).unit = (kept s).unit := by
  unfold toMaintenance
  simp [kept_unit_foldl, kept_at, kept_foldl]

@[simp] theorem toMaintenance_kept_cfg (s : State) : (kept (toMaintenance s)).cfg = (kept s).cfg := by
  unfold toMaintenance
  simp [kept_cfg_foldl, kept_at, kept_foldl]

@[simp] theorem toMaintenance_kept_life (s : State) : (kept (toMaintenance s)).life = (kept s).life := by
  unfold toMaintenance
  simp [kept_life_foldl, kept_at, kept_foldl]

@[simp] theorem toMaintenance_kept_dump (s : State) : (kept (toMaintenance s)).dump = (kept s).dump := by
  unfold toMaintenance
  simp [kept_dump_foldl, kept_at, kept_foldl]

@[simp] theorem toMaintenance_kept_records (s : State) : (kept (toMaintenance s)).records = (kept s).records := by
  unfold toMaintenance
  simp [kept_records_foldl, kept_at, kept_foldl]

@[simp] theorem toMaintenance_kept_full (s : State) : (kept (toMaintenance s)).full = (kept s).full := by
  unfold toMaintenance
  simp [kept_full_foldl, kept_at, kept_foldl]

@[simp] theorem toMaintenance_kept_staging (s : State) : (kept (toMaintenance s)).staging = (kept s).staging := by
  unfold toMaintenance
  simp [kept_staging_foldl, kept_at, kept_foldl]

@[simp] theorem toMaintenance_kept_frame (s : State) : (kept (toMaintenance s)).frame = (kept s).frame := by
  unfold toMaintenance
  simp [kept_frame_foldl, kept_at, kept_foldl]

@[simp] theorem toMaintenance_kept_bankA (s : State) : (kept (toMaintenance s)).bankA = (kept s).bankA := by
  unfold toMaintenance
  simp [kept_bankA_foldl, kept_at, kept_foldl]

@[simp] theorem toMaintenance_kept_bankB (s : State) : (kept (toMaintenance s)).bankB = (kept s).bankB := by
  unfold toMaintenance
  simp [kept_bankB_foldl, kept_at, kept_foldl]

@[simp] theorem toMaintenance_kept_pending (s : State) : (kept (toMaintenance s)).pending = (kept s).pending := by
  unfold toMaintenance
  simp [kept_pending_foldl, kept_at, kept_foldl]

@[simp] theorem releaseDump_kept (s : State) : kept (releaseDump s) = kept s := by
  unfold releaseDump
  simp [kept_at, kept_foldl]

@[simp] theorem startManual_kept (w : Word) (s : State) : kept (startManual w s) = kept s := by
  unfold startManual
  simp [kept_at, kept_foldl]

@[simp] theorem clearHealth_kept (w : Word) (s : State) : kept (clearHealth w s) = kept s := by
  unfold clearHealth
  simp [kept_at, kept_foldl]

@[simp] theorem updateControl_kept (slot : Nat) (w : Word) (s : State) : kept (updateControl slot w s) = kept s := by
  unfold updateControl
  repeat' (first | with_reducible rfl | (simp [kept_at, kept_foldl]; done) | split | rw [kept_foldl] | intro _ | dsimp only | simp [kept_at, kept_foldl])

@[simp] theorem applyLocal_kept_unit (slot : Nat) (a : Nat) (w : Word) (s : State) : (kept (applyLocal slot a w s)).unit = (kept s).unit := by
  unfold applyLocal
  simp [kept_unit_foldl, kept_at, kept_foldl]

@[simp] theorem applyLocal_kept_staging (slot : Nat) (a : Nat) (w : Word) (s : State) : (kept (applyLocal slot a w s)).staging = (kept s).staging := by
  unfold applyLocal
  simp [kept_staging_foldl, kept_at, kept_foldl]

@[simp] theorem applyLocal_kept_bankA (slot : Nat) (a : Nat) (w : Word) (s : State) : (kept (applyLocal slot a w s)).bankA = (kept s).bankA := by
  unfold applyLocal
  simp [kept_bankA_foldl, kept_at, kept_foldl]

@[simp] theorem applyLocal_kept_bankB (slot : Nat) (a : Nat) (w : Word) (s : State) : (kept (applyLocal slot a w s)).bankB = (kept s).bankB := by
  unfold applyLocal
  simp [kept_bankB_foldl, kept_at, kept_foldl]

@[simp] theorem applyLocal_kept_pending (slot : Nat) (a : Nat) (w : Word) (s : State) : (kept (applyLocal slot a w s)).pending = (kept s).pending := by
  unfold applyLocal
  simp [kept_pending_foldl, kept_at, kept_foldl]

@[simp] theorem withChains_kept (l : List Chain) (s : State) : kept (withChains l s) = kept s := by
  unfold withChains
  simp [kept_at, kept_foldl]

@[simp] theorem boundaryEpoch_kept (s : State) : kept (boundaryEpoch s) = kept s := by
  unfold boundaryEpoch
  simp [kept_at, kept_foldl]

@[simp] theorem execSieveSample_kept (w : SieveWindow) (s : State) : keptOut (execSieveSample w s) = some (kept s) := by
  unfold execSieveSample
  simp [kept_at, kept_foldl]

@[simp] theorem startSieve_kept (s : State) : kept (startSieve s) = kept s := by
  unfold startSieve
  simp [kept_at, kept_foldl]

@[simp] theorem followSieve_kept (s : State) : kept (followSieve s) = kept s := by
  unfold followSieve
  simp [kept_at, kept_foldl]

@[simp] theorem closeChain_kept (cut : Nat) (n : Nat) (s : State) : kept (closeChain cut n s) = kept s := by
  unfold closeChain
  repeat' (first | with_reducible rfl | (simp [kept_at, kept_foldl]; done) | split | rw [kept_foldl] | intro _ | dsimp only | simp [kept_at, kept_foldl])

@[simp] theorem closeSieve_kept (cut : Nat) (s : State) : kept (closeSieve cut s) = kept s := by
  unfold closeSieve
  simp [kept_at, kept_foldl]

@[simp] theorem sieveIntakeOf_kept (n : Nat) (s : State) : kept (sieveIntakeOf n s) = kept s := by
  unfold sieveIntakeOf
  repeat' (first | with_reducible rfl | (simp [kept_at, kept_foldl]; done) | split | rw [kept_foldl] | intro _ | dsimp only | simp [kept_at, kept_foldl])

@[simp] theorem sieveIntake_kept (s : State) : kept (sieveIntake s) = kept s := by
  unfold sieveIntake
  simp [kept_at, kept_foldl]

@[simp] theorem execBurdenOvercurrent_kept (n : Nat) (currentUa : Nat) (s : State) : keptOut (execBurdenOvercurrent n currentUa s) = some (kept s) := by
  unfold execBurdenOvercurrent
  simp [kept_at, kept_foldl]

@[simp] theorem execBurdenReconnect_kept (n : Nat) (s : State) : keptOut (execBurdenReconnect n s) = some (kept s) := by
  unfold execBurdenReconnect
  simp [kept_at, kept_foldl]

@[simp] theorem modHap_kept (f : Hap → Hap) (s : State) : kept (modHap f s) = kept s := by
  unfold modHap
  simp [kept_at, kept_foldl]

@[simp] theorem modSession_kept (ident : Nat) (f : Session → Session) (s : State) : kept (modSession ident f s) = kept s := by
  unfold modSession
  simp [kept_at, kept_foldl]

@[simp] theorem dropHolds_kept (s : State) : kept (dropHolds s) = kept s := by
  unfold dropHolds
  simp [kept_at, kept_foldl]

@[simp] theorem endSession_kept (ident : Nat) (s : State) : kept (endSession ident s) = kept s := by
  unfold endSession
  simp [kept_at, kept_foldl]

@[simp] theorem sendAnswer_kept (x : Option Session) (store : Bool) (p : Response) (s : State) : kept (sendAnswer x store p s) = kept s := by
  unfold sendAnswer
  repeat' (first | with_reducible rfl | (simp [kept_at, kept_foldl]; done) | split | rw [kept_foldl] | intro _ | dsimp only | simp [kept_at, kept_foldl])

@[simp] theorem macFailed_kept (s : State) : kept (macFailed s) = kept s := by
  unfold macFailed
  simp [kept_at, kept_foldl]

@[simp] theorem refuseRequest_kept (op : Nat) (addr : Nat) (count : Nat) (st : Nat) (r : HapReq) (x : Option Session) (s : State) : kept (refuseRequest op addr count st r x s) = kept s := by
  unfold refuseRequest
  simp [kept_at, kept_foldl]

@[simp] theorem busy_kept (op : Nat) (addr : Nat) (count : Nat) (r : HapReq) (x : Option Session) (s : State) : kept (busy op addr count r x s) = kept s := by
  unfold busy
  simp [kept_at, kept_foldl]

@[simp] theorem enqueue_kept (r : HapReq) (s : State) : kept (enqueue r s) = kept s := by
  unfold enqueue
  simp [kept_at, kept_foldl]

theorem runRequest_kept (op addr count : Nat) (r : HapReq) (act : Option Session → State → Option Answer × State) (x : Option Session) (s : State)
    (h0 : ∀ x s, kept (act x s).2 = kept s) : kept (runRequest op addr count r act x s) = kept s := by
  unfold runRequest
  try dsimp only
  repeat' (first | with_reducible rfl | (simp [kept_at, h0]; done) | split)

theorem runRequest_kept_mode (op addr count : Nat) (r : HapReq) (act : Option Session → State → Option Answer × State) (x : Option Session) (s : State)
    (h0 : ∀ x s, (kept (act x s).2).mode = (kept s).mode) : (kept (runRequest op addr count r act x s)).mode = (kept s).mode := by
  unfold runRequest
  try dsimp only
  repeat' (first | with_reducible rfl | (simp [kept_at, h0]; done) | split)

theorem runRequest_kept_unit (op addr count : Nat) (r : HapReq) (act : Option Session → State → Option Answer × State) (x : Option Session) (s : State)
    (h0 : ∀ x s, (kept (act x s).2).unit = (kept s).unit) : (kept (runRequest op addr count r act x s)).unit = (kept s).unit := by
  unfold runRequest
  try dsimp only
  repeat' (first | with_reducible rfl | (simp [kept_at, h0]; done) | split)

theorem runRequest_kept_cfg (op addr count : Nat) (r : HapReq) (act : Option Session → State → Option Answer × State) (x : Option Session) (s : State)
    (h0 : ∀ x s, (kept (act x s).2).cfg = (kept s).cfg) : (kept (runRequest op addr count r act x s)).cfg = (kept s).cfg := by
  unfold runRequest
  try dsimp only
  repeat' (first | with_reducible rfl | (simp [kept_at, h0]; done) | split)

theorem runRequest_kept_life (op addr count : Nat) (r : HapReq) (act : Option Session → State → Option Answer × State) (x : Option Session) (s : State)
    (h0 : ∀ x s, (kept (act x s).2).life = (kept s).life) : (kept (runRequest op addr count r act x s)).life = (kept s).life := by
  unfold runRequest
  try dsimp only
  repeat' (first | with_reducible rfl | (simp [kept_at, h0]; done) | split)

theorem runRequest_kept_dump (op addr count : Nat) (r : HapReq) (act : Option Session → State → Option Answer × State) (x : Option Session) (s : State)
    (h0 : ∀ x s, (kept (act x s).2).dump = (kept s).dump) : (kept (runRequest op addr count r act x s)).dump = (kept s).dump := by
  unfold runRequest
  try dsimp only
  repeat' (first | with_reducible rfl | (simp [kept_at, h0]; done) | split)

theorem runRequest_kept_records (op addr count : Nat) (r : HapReq) (act : Option Session → State → Option Answer × State) (x : Option Session) (s : State)
    (h0 : ∀ x s, (kept (act x s).2).records = (kept s).records) : (kept (runRequest op addr count r act x s)).records = (kept s).records := by
  unfold runRequest
  try dsimp only
  repeat' (first | with_reducible rfl | (simp [kept_at, h0]; done) | split)

theorem runRequest_kept_full (op addr count : Nat) (r : HapReq) (act : Option Session → State → Option Answer × State) (x : Option Session) (s : State)
    (h0 : ∀ x s, (kept (act x s).2).full = (kept s).full) : (kept (runRequest op addr count r act x s)).full = (kept s).full := by
  unfold runRequest
  try dsimp only
  repeat' (first | with_reducible rfl | (simp [kept_at, h0]; done) | split)

theorem runRequest_kept_staging (op addr count : Nat) (r : HapReq) (act : Option Session → State → Option Answer × State) (x : Option Session) (s : State)
    (h0 : ∀ x s, (kept (act x s).2).staging = (kept s).staging) : (kept (runRequest op addr count r act x s)).staging = (kept s).staging := by
  unfold runRequest
  try dsimp only
  repeat' (first | with_reducible rfl | (simp [kept_at, h0]; done) | split)

theorem runRequest_kept_frame (op addr count : Nat) (r : HapReq) (act : Option Session → State → Option Answer × State) (x : Option Session) (s : State)
    (h0 : ∀ x s, (kept (act x s).2).frame = (kept s).frame) : (kept (runRequest op addr count r act x s)).frame = (kept s).frame := by
  unfold runRequest
  try dsimp only
  repeat' (first | with_reducible rfl | (simp [kept_at, h0]; done) | split)

theorem runRequest_kept_bankA (op addr count : Nat) (r : HapReq) (act : Option Session → State → Option Answer × State) (x : Option Session) (s : State)
    (h0 : ∀ x s, (kept (act x s).2).bankA = (kept s).bankA) : (kept (runRequest op addr count r act x s)).bankA = (kept s).bankA := by
  unfold runRequest
  try dsimp only
  repeat' (first | with_reducible rfl | (simp [kept_at, h0]; done) | split)

theorem runRequest_kept_bankB (op addr count : Nat) (r : HapReq) (act : Option Session → State → Option Answer × State) (x : Option Session) (s : State)
    (h0 : ∀ x s, (kept (act x s).2).bankB = (kept s).bankB) : (kept (runRequest op addr count r act x s)).bankB = (kept s).bankB := by
  unfold runRequest
  try dsimp only
  repeat' (first | with_reducible rfl | (simp [kept_at, h0]; done) | split)

theorem runRequest_kept_pending (op addr count : Nat) (r : HapReq) (act : Option Session → State → Option Answer × State) (x : Option Session) (s : State)
    (h0 : ∀ x s, (kept (act x s).2).pending = (kept s).pending) : (kept (runRequest op addr count r act x s)).pending = (kept s).pending := by
  unfold runRequest
  try dsimp only
  repeat' (first | with_reducible rfl | (simp [kept_at, h0]; done) | split)

theorem admitSession_kept (op addr count : Nat) (body : List Byte) (form : Bool) (r : HapReq)
    (act : Option Session → State → Option Answer × State) (x : Session) (s : State)
    (h0 : ∀ x s, kept (act x s).2 = kept s) : kept (admitSession op addr count body form r act x s) = kept s := by
  unfold admitSession
  try dsimp only
  repeat' (first | with_reducible rfl | (simp [kept_at, h0, runRequest_kept _ _ _ _ _ _ _ h0]; done) | split)

theorem admitSession_kept_mode (op addr count : Nat) (body : List Byte) (form : Bool) (r : HapReq)
    (act : Option Session → State → Option Answer × State) (x : Session) (s : State)
    (h0 : ∀ x s, (kept (act x s).2).mode = (kept s).mode) : (kept (admitSession op addr count body form r act x s)).mode = (kept s).mode := by
  unfold admitSession
  try dsimp only
  repeat' (first | with_reducible rfl | (simp [kept_at, h0, runRequest_kept_mode _ _ _ _ _ _ _ h0]; done) | split)

theorem admitSession_kept_unit (op addr count : Nat) (body : List Byte) (form : Bool) (r : HapReq)
    (act : Option Session → State → Option Answer × State) (x : Session) (s : State)
    (h0 : ∀ x s, (kept (act x s).2).unit = (kept s).unit) : (kept (admitSession op addr count body form r act x s)).unit = (kept s).unit := by
  unfold admitSession
  try dsimp only
  repeat' (first | with_reducible rfl | (simp [kept_at, h0, runRequest_kept_unit _ _ _ _ _ _ _ h0]; done) | split)

theorem admitSession_kept_cfg (op addr count : Nat) (body : List Byte) (form : Bool) (r : HapReq)
    (act : Option Session → State → Option Answer × State) (x : Session) (s : State)
    (h0 : ∀ x s, (kept (act x s).2).cfg = (kept s).cfg) : (kept (admitSession op addr count body form r act x s)).cfg = (kept s).cfg := by
  unfold admitSession
  try dsimp only
  repeat' (first | with_reducible rfl | (simp [kept_at, h0, runRequest_kept_cfg _ _ _ _ _ _ _ h0]; done) | split)

theorem admitSession_kept_life (op addr count : Nat) (body : List Byte) (form : Bool) (r : HapReq)
    (act : Option Session → State → Option Answer × State) (x : Session) (s : State)
    (h0 : ∀ x s, (kept (act x s).2).life = (kept s).life) : (kept (admitSession op addr count body form r act x s)).life = (kept s).life := by
  unfold admitSession
  try dsimp only
  repeat' (first | with_reducible rfl | (simp [kept_at, h0, runRequest_kept_life _ _ _ _ _ _ _ h0]; done) | split)

theorem admitSession_kept_dump (op addr count : Nat) (body : List Byte) (form : Bool) (r : HapReq)
    (act : Option Session → State → Option Answer × State) (x : Session) (s : State)
    (h0 : ∀ x s, (kept (act x s).2).dump = (kept s).dump) : (kept (admitSession op addr count body form r act x s)).dump = (kept s).dump := by
  unfold admitSession
  try dsimp only
  repeat' (first | with_reducible rfl | (simp [kept_at, h0, runRequest_kept_dump _ _ _ _ _ _ _ h0]; done) | split)

theorem admitSession_kept_records (op addr count : Nat) (body : List Byte) (form : Bool) (r : HapReq)
    (act : Option Session → State → Option Answer × State) (x : Session) (s : State)
    (h0 : ∀ x s, (kept (act x s).2).records = (kept s).records) : (kept (admitSession op addr count body form r act x s)).records = (kept s).records := by
  unfold admitSession
  try dsimp only
  repeat' (first | with_reducible rfl | (simp [kept_at, h0, runRequest_kept_records _ _ _ _ _ _ _ h0]; done) | split)

theorem admitSession_kept_full (op addr count : Nat) (body : List Byte) (form : Bool) (r : HapReq)
    (act : Option Session → State → Option Answer × State) (x : Session) (s : State)
    (h0 : ∀ x s, (kept (act x s).2).full = (kept s).full) : (kept (admitSession op addr count body form r act x s)).full = (kept s).full := by
  unfold admitSession
  try dsimp only
  repeat' (first | with_reducible rfl | (simp [kept_at, h0, runRequest_kept_full _ _ _ _ _ _ _ h0]; done) | split)

theorem admitSession_kept_staging (op addr count : Nat) (body : List Byte) (form : Bool) (r : HapReq)
    (act : Option Session → State → Option Answer × State) (x : Session) (s : State)
    (h0 : ∀ x s, (kept (act x s).2).staging = (kept s).staging) : (kept (admitSession op addr count body form r act x s)).staging = (kept s).staging := by
  unfold admitSession
  try dsimp only
  repeat' (first | with_reducible rfl | (simp [kept_at, h0, runRequest_kept_staging _ _ _ _ _ _ _ h0]; done) | split)

theorem admitSession_kept_frame (op addr count : Nat) (body : List Byte) (form : Bool) (r : HapReq)
    (act : Option Session → State → Option Answer × State) (x : Session) (s : State)
    (h0 : ∀ x s, (kept (act x s).2).frame = (kept s).frame) : (kept (admitSession op addr count body form r act x s)).frame = (kept s).frame := by
  unfold admitSession
  try dsimp only
  repeat' (first | with_reducible rfl | (simp [kept_at, h0, runRequest_kept_frame _ _ _ _ _ _ _ h0]; done) | split)

theorem admitSession_kept_bankA (op addr count : Nat) (body : List Byte) (form : Bool) (r : HapReq)
    (act : Option Session → State → Option Answer × State) (x : Session) (s : State)
    (h0 : ∀ x s, (kept (act x s).2).bankA = (kept s).bankA) : (kept (admitSession op addr count body form r act x s)).bankA = (kept s).bankA := by
  unfold admitSession
  try dsimp only
  repeat' (first | with_reducible rfl | (simp [kept_at, h0, runRequest_kept_bankA _ _ _ _ _ _ _ h0]; done) | split)

theorem admitSession_kept_bankB (op addr count : Nat) (body : List Byte) (form : Bool) (r : HapReq)
    (act : Option Session → State → Option Answer × State) (x : Session) (s : State)
    (h0 : ∀ x s, (kept (act x s).2).bankB = (kept s).bankB) : (kept (admitSession op addr count body form r act x s)).bankB = (kept s).bankB := by
  unfold admitSession
  try dsimp only
  repeat' (first | with_reducible rfl | (simp [kept_at, h0, runRequest_kept_bankB _ _ _ _ _ _ _ h0]; done) | split)

theorem admitSession_kept_pending (op addr count : Nat) (body : List Byte) (form : Bool) (r : HapReq)
    (act : Option Session → State → Option Answer × State) (x : Session) (s : State)
    (h0 : ∀ x s, (kept (act x s).2).pending = (kept s).pending) : (kept (admitSession op addr count body form r act x s)).pending = (kept s).pending := by
  unfold admitSession
  try dsimp only
  repeat' (first | with_reducible rfl | (simp [kept_at, h0, runRequest_kept_pending _ _ _ _ _ _ _ h0]; done) | split)

theorem admitRequest_kept (op addr count : Nat) (body : List Byte) (form needsSession : Bool) (r : HapReq)
    (act : Option Session → State → Option Answer × State) (s : State)
    (h0 : ∀ x s, kept (act x s).2 = kept s) : kept (admitRequest op addr count body form needsSession r act s) = kept s := by
  unfold admitRequest
  try dsimp only
  repeat' (first | with_reducible rfl | (simp [kept_at, h0, runRequest_kept _ _ _ _ _ _ _ h0, admitSession_kept _ _ _ _ _ _ _ _ _ h0]; done) | split)

theorem admitRequest_kept_mode (op addr count : Nat) (body : List Byte) (form needsSession : Bool) (r : HapReq)
    (act : Option Session → State → Option Answer × State) (s : State)
    (h0 : ∀ x s, (kept (act x s).2).mode = (kept s).mode) : (kept (admitRequest op addr count body form needsSession r act s)).mode = (kept s).mode := by
  unfold admitRequest
  try dsimp only
  repeat' (first | with_reducible rfl | (simp [kept_at, h0, runRequest_kept_mode _ _ _ _ _ _ _ h0, admitSession_kept_mode _ _ _ _ _ _ _ _ _ h0]; done) | split)

theorem admitRequest_kept_unit (op addr count : Nat) (body : List Byte) (form needsSession : Bool) (r : HapReq)
    (act : Option Session → State → Option Answer × State) (s : State)
    (h0 : ∀ x s, (kept (act x s).2).unit = (kept s).unit) : (kept (admitRequest op addr count body form needsSession r act s)).unit = (kept s).unit := by
  unfold admitRequest
  try dsimp only
  repeat' (first | with_reducible rfl | (simp [kept_at, h0, runRequest_kept_unit _ _ _ _ _ _ _ h0, admitSession_kept_unit _ _ _ _ _ _ _ _ _ h0]; done) | split)

theorem admitRequest_kept_cfg (op addr count : Nat) (body : List Byte) (form needsSession : Bool) (r : HapReq)
    (act : Option Session → State → Option Answer × State) (s : State)
    (h0 : ∀ x s, (kept (act x s).2).cfg = (kept s).cfg) : (kept (admitRequest op addr count body form needsSession r act s)).cfg = (kept s).cfg := by
  unfold admitRequest
  try dsimp only
  repeat' (first | with_reducible rfl | (simp [kept_at, h0, runRequest_kept_cfg _ _ _ _ _ _ _ h0, admitSession_kept_cfg _ _ _ _ _ _ _ _ _ h0]; done) | split)

theorem admitRequest_kept_life (op addr count : Nat) (body : List Byte) (form needsSession : Bool) (r : HapReq)
    (act : Option Session → State → Option Answer × State) (s : State)
    (h0 : ∀ x s, (kept (act x s).2).life = (kept s).life) : (kept (admitRequest op addr count body form needsSession r act s)).life = (kept s).life := by
  unfold admitRequest
  try dsimp only
  repeat' (first | with_reducible rfl | (simp [kept_at, h0, runRequest_kept_life _ _ _ _ _ _ _ h0, admitSession_kept_life _ _ _ _ _ _ _ _ _ h0]; done) | split)

theorem admitRequest_kept_dump (op addr count : Nat) (body : List Byte) (form needsSession : Bool) (r : HapReq)
    (act : Option Session → State → Option Answer × State) (s : State)
    (h0 : ∀ x s, (kept (act x s).2).dump = (kept s).dump) : (kept (admitRequest op addr count body form needsSession r act s)).dump = (kept s).dump := by
  unfold admitRequest
  try dsimp only
  repeat' (first | with_reducible rfl | (simp [kept_at, h0, runRequest_kept_dump _ _ _ _ _ _ _ h0, admitSession_kept_dump _ _ _ _ _ _ _ _ _ h0]; done) | split)

theorem admitRequest_kept_records (op addr count : Nat) (body : List Byte) (form needsSession : Bool) (r : HapReq)
    (act : Option Session → State → Option Answer × State) (s : State)
    (h0 : ∀ x s, (kept (act x s).2).records = (kept s).records) : (kept (admitRequest op addr count body form needsSession r act s)).records = (kept s).records := by
  unfold admitRequest
  try dsimp only
  repeat' (first | with_reducible rfl | (simp [kept_at, h0, runRequest_kept_records _ _ _ _ _ _ _ h0, admitSession_kept_records _ _ _ _ _ _ _ _ _ h0]; done) | split)

theorem admitRequest_kept_full (op addr count : Nat) (body : List Byte) (form needsSession : Bool) (r : HapReq)
    (act : Option Session → State → Option Answer × State) (s : State)
    (h0 : ∀ x s, (kept (act x s).2).full = (kept s).full) : (kept (admitRequest op addr count body form needsSession r act s)).full = (kept s).full := by
  unfold admitRequest
  try dsimp only
  repeat' (first | with_reducible rfl | (simp [kept_at, h0, runRequest_kept_full _ _ _ _ _ _ _ h0, admitSession_kept_full _ _ _ _ _ _ _ _ _ h0]; done) | split)

theorem admitRequest_kept_staging (op addr count : Nat) (body : List Byte) (form needsSession : Bool) (r : HapReq)
    (act : Option Session → State → Option Answer × State) (s : State)
    (h0 : ∀ x s, (kept (act x s).2).staging = (kept s).staging) : (kept (admitRequest op addr count body form needsSession r act s)).staging = (kept s).staging := by
  unfold admitRequest
  try dsimp only
  repeat' (first | with_reducible rfl | (simp [kept_at, h0, runRequest_kept_staging _ _ _ _ _ _ _ h0, admitSession_kept_staging _ _ _ _ _ _ _ _ _ h0]; done) | split)

theorem admitRequest_kept_frame (op addr count : Nat) (body : List Byte) (form needsSession : Bool) (r : HapReq)
    (act : Option Session → State → Option Answer × State) (s : State)
    (h0 : ∀ x s, (kept (act x s).2).frame = (kept s).frame) : (kept (admitRequest op addr count body form needsSession r act s)).frame = (kept s).frame := by
  unfold admitRequest
  try dsimp only
  repeat' (first | with_reducible rfl | (simp [kept_at, h0, runRequest_kept_frame _ _ _ _ _ _ _ h0, admitSession_kept_frame _ _ _ _ _ _ _ _ _ h0]; done) | split)

theorem admitRequest_kept_bankA (op addr count : Nat) (body : List Byte) (form needsSession : Bool) (r : HapReq)
    (act : Option Session → State → Option Answer × State) (s : State)
    (h0 : ∀ x s, (kept (act x s).2).bankA = (kept s).bankA) : (kept (admitRequest op addr count body form needsSession r act s)).bankA = (kept s).bankA := by
  unfold admitRequest
  try dsimp only
  repeat' (first | with_reducible rfl | (simp [kept_at, h0, runRequest_kept_bankA _ _ _ _ _ _ _ h0, admitSession_kept_bankA _ _ _ _ _ _ _ _ _ h0]; done) | split)

theorem admitRequest_kept_bankB (op addr count : Nat) (body : List Byte) (form needsSession : Bool) (r : HapReq)
    (act : Option Session → State → Option Answer × State) (s : State)
    (h0 : ∀ x s, (kept (act x s).2).bankB = (kept s).bankB) : (kept (admitRequest op addr count body form needsSession r act s)).bankB = (kept s).bankB := by
  unfold admitRequest
  try dsimp only
  repeat' (first | with_reducible rfl | (simp [kept_at, h0, runRequest_kept_bankB _ _ _ _ _ _ _ h0, admitSession_kept_bankB _ _ _ _ _ _ _ _ _ h0]; done) | split)

theorem admitRequest_kept_pending (op addr count : Nat) (body : List Byte) (form needsSession : Bool) (r : HapReq)
    (act : Option Session → State → Option Answer × State) (s : State)
    (h0 : ∀ x s, (kept (act x s).2).pending = (kept s).pending) : (kept (admitRequest op addr count body form needsSession r act s)).pending = (kept s).pending := by
  unfold admitRequest
  try dsimp only
  repeat' (first | with_reducible rfl | (simp [kept_at, h0, runRequest_kept_pending _ _ _ _ _ _ _ h0, admitSession_kept_pending _ _ _ _ _ _ _ _ _ h0]; done) | split)

@[simp] theorem execHapOpen_kept (r : HapReq) (slot : Nat) (notify : Bool) (clientNonce : List Byte) (serverNonce : List Byte) (newId : Nat) (s : State) : keptOut (execHapOpen r slot notify clientNonce serverNonce newId s) = some (kept s) := by
  unfold execHapOpen
  repeat' (first | with_reducible rfl | (simp [kept_at, kept_foldl]; done) | split | rw [kept_foldl] | intro _ | dsimp only | simp [kept_at, kept_foldl])

@[simp] theorem execHapClose_kept (r : HapReq) (s : State) : keptOut (execHapClose r s) = some (kept s) := by
  unfold execHapClose
  refine congrArg some (admitRequest_kept _ _ _ _ _ _ _ _ _ fun x s => ?_)
  repeat' (first | with_reducible rfl | (simp [kept_at, kept_foldl]; done) | split)

@[simp] theorem execKeepalive_kept (r : HapReq) (s : State) : keptOut (execKeepalive r s) = some (kept s) := by
  unfold execKeepalive
  refine congrArg some (admitRequest_kept _ _ _ _ _ _ _ _ _ fun x s => ?_)
  repeat' (first | with_reducible rfl | (simp [kept_at, kept_foldl]; done) | split)

@[simp] theorem execSessionTimeout_kept (slot : Nat) (s : State) : keptOut (execSessionTimeout slot s) = some (kept s) := by
  unfold execSessionTimeout
  repeat' (first | with_reducible rfl | (simp [kept_at, kept_foldl]; done) | split | rw [kept_foldl] | intro _ | dsimp only | simp [kept_at, kept_foldl])

@[simp] theorem execSnapHold_kept (r : HapReq) (s : State) : keptOut (execSnapHold r s) = some (kept s) := by
  unfold execSnapHold
  refine congrArg some (admitRequest_kept _ _ _ _ _ _ _ _ _ fun x s => ?_)
  repeat' (first | with_reducible rfl | (simp [kept_at, kept_foldl]; done) | split)

@[simp] theorem execSnapRelease_kept (r : HapReq) (s : State) : keptOut (execSnapRelease r s) = some (kept s) := by
  unfold execSnapRelease
  refine congrArg some (admitRequest_kept _ _ _ _ _ _ _ _ _ fun x s => ?_)
  repeat' (first | with_reducible rfl | (simp [kept_at, kept_foldl]; done) | split)

@[simp] theorem execSnapshotHoldExpiry_kept (s : State) : keptOut (execSnapshotHoldExpiry s) = some (kept s) := by
  unfold execSnapshotHoldExpiry
  simp [kept_at, kept_foldl]

@[simp] theorem sendNotice_kept (x : Session) (n : Notification) (s : State) : kept (sendNotice x n s) = kept s := by
  unfold sendNotice
  simp [kept_at, kept_foldl]

@[simp] theorem loseNotice_kept (s : State) : kept (loseNotice s) = kept s := by
  unfold loseNotice
  simp [kept_at, kept_foldl]

@[simp] theorem notifySession_kept (d : DueRecord) (ident : Nat) (s : State) : kept (notifySession d ident s) = kept s := by
  unfold notifySession
  repeat' (first | with_reducible rfl | (simp [kept_at, kept_foldl]; done) | split | rw [kept_foldl] | intro _ | dsimp only | simp [kept_at, kept_foldl])

@[simp] theorem notifyAll_kept (l : List DueRecord) (s : State) : kept (notifyAll l s) = kept s := by
  unfold notifyAll
  simp [kept_at, kept_foldl]

@[simp] theorem execNotifyAck_kept (r : HapReq) (nseq : Nat) (s : State) : keptOut (execNotifyAck r nseq s) = some (kept s) := by
  unfold execNotifyAck
  refine congrArg some (admitRequest_kept _ _ _ _ _ _ _ _ _ fun x s => ?_)
  repeat' (first | with_reducible rfl | (simp [kept_at, kept_foldl]; done) | split)

@[simp] theorem resendNotice_kept (ident : Nat) (s : State) (n : Notification) : kept (resendNotice ident s n) = kept s := by
  unfold resendNotice
  repeat' (first | with_reducible rfl | (simp [kept_at, kept_foldl]; done) | split | rw [kept_foldl] | intro _ | dsimp only | simp [kept_at, kept_foldl])

@[simp] theorem execNotificationResend_kept (slot : Nat) (s : State) : keptOut (execNotificationResend slot s) = some (kept s) := by
  unfold execNotificationResend
  repeat' (first | with_reducible rfl | (simp [kept_at, kept_foldl]; done) | split | rw [kept_foldl] | intro _ | dsimp only | simp [kept_at, kept_foldl])

@[simp] theorem noteDumpRead_kept (sel : Nat) (a : Nat) (n : Nat) (s : State) : kept (noteDumpRead sel a n s) = kept s := by
  unfold noteDumpRead
  simp [kept_at, kept_foldl]

@[simp] theorem readBulk_kept (r : HapReq) (x : Option Session) (snap : Snapshot) (addr : Nat) (n : Nat) (s : State) : kept (readBulk r x snap addr n s).2 = kept s := by
  unfold readBulk
  repeat' (first | with_reducible rfl | (simp [kept_at, kept_foldl]; done) | split | rw [kept_foldl] | intro _ | dsimp only | simp [kept_at, kept_foldl])

@[simp] theorem readRequest_kept (r : HapReq) (addr : Nat) (n : Nat) (s : State) : kept (readRequest r addr n s) = kept s := by
  unfold readRequest
  refine admitRequest_kept _ _ _ _ _ _ _ _ _ fun x s => ?_
  repeat' (first | with_reducible rfl | (simp [kept_at, kept_foldl]; done) | split)

@[simp] theorem execHapRead_kept (r : HapReq) (addr : Word) (count : Nat) (s : State) : keptOut (execHapRead r addr count s) = some (kept s) := by
  unfold execHapRead
  simp [kept_at, kept_foldl]

@[simp] theorem execBlkDataRead_kept (r : HapReq) (count : Nat) (s : State) : keptOut (execBlkDataRead r count s) = some (kept s) := by
  unfold execBlkDataRead
  simp [kept_at, kept_foldl]

@[simp] theorem writeBulk_kept_mode (r : HapReq) (x : Session) (addr : Nat) (words : List Word) (s : State) : (kept (writeBulk r x addr words s).2).mode = (kept s).mode := by
  unfold writeBulk
  simp [kept_mode_foldl, kept_at, kept_foldl]

@[simp] theorem writeBulk_kept_unit (r : HapReq) (x : Session) (addr : Nat) (words : List Word) (s : State) : (kept (writeBulk r x addr words s).2).unit = (kept s).unit := by
  unfold writeBulk
  simp [kept_unit_foldl, kept_at, kept_foldl]

@[simp] theorem writeBulk_kept_cfg (r : HapReq) (x : Session) (addr : Nat) (words : List Word) (s : State) : (kept (writeBulk r x addr words s).2).cfg = (kept s).cfg := by
  unfold writeBulk
  simp [kept_cfg_foldl, kept_at, kept_foldl]

@[simp] theorem writeBulk_kept_life (r : HapReq) (x : Session) (addr : Nat) (words : List Word) (s : State) : (kept (writeBulk r x addr words s).2).life = (kept s).life := by
  unfold writeBulk
  simp [kept_life_foldl, kept_at, kept_foldl]

@[simp] theorem writeBulk_kept_dump (r : HapReq) (x : Session) (addr : Nat) (words : List Word) (s : State) : (kept (writeBulk r x addr words s).2).dump = (kept s).dump := by
  unfold writeBulk
  simp [kept_dump_foldl, kept_at, kept_foldl]

@[simp] theorem writeBulk_kept_records (r : HapReq) (x : Session) (addr : Nat) (words : List Word) (s : State) : (kept (writeBulk r x addr words s).2).records = (kept s).records := by
  unfold writeBulk
  simp [kept_records_foldl, kept_at, kept_foldl]

@[simp] theorem writeBulk_kept_full (r : HapReq) (x : Session) (addr : Nat) (words : List Word) (s : State) : (kept (writeBulk r x addr words s).2).full = (kept s).full := by
  unfold writeBulk
  simp [kept_full_foldl, kept_at, kept_foldl]

@[simp] theorem writeBulk_kept_frame (r : HapReq) (x : Session) (addr : Nat) (words : List Word) (s : State) : (kept (writeBulk r x addr words s).2).frame = (kept s).frame := by
  unfold writeBulk
  simp [kept_frame_foldl, kept_at, kept_foldl]

@[simp] theorem writeBulk_kept_bankA (r : HapReq) (x : Session) (addr : Nat) (words : List Word) (s : State) : (kept (writeBulk r x addr words s).2).bankA = (kept s).bankA := by
  unfold writeBulk
  simp [kept_bankA_foldl, kept_at, kept_foldl]

@[simp] theorem writeBulk_kept_bankB (r : HapReq) (x : Session) (addr : Nat) (words : List Word) (s : State) : (kept (writeBulk r x addr words s).2).bankB = (kept s).bankB := by
  unfold writeBulk
  simp [kept_bankB_foldl, kept_at, kept_foldl]

@[simp] theorem writeBulk_kept_pending (r : HapReq) (x : Session) (addr : Nat) (words : List Word) (s : State) : (kept (writeBulk r x addr words s).2).pending = (kept s).pending := by
  unfold writeBulk
  simp [kept_pending_foldl, kept_at, kept_foldl]

@[simp] theorem ingestCommand_kept (r : HapReq) (x : Session) (addr : Nat) (words : List Word) (s : State) : kept (ingestCommand r x addr words s) = kept s := by
  unfold ingestCommand
  simp [kept_at, kept_foldl]

@[simp] theorem closeAfter_kept (x : Session) (addr : Nat) (s : State) : kept (closeAfter x addr s) = kept s := by
  unfold closeAfter
  simp [kept_at, kept_foldl]

@[simp] theorem ingestLocal_kept (x : Session) (addr : Nat) (words : List Word) (s : State) : kept (ingestLocal x addr words s).2 = kept s := by
  unfold ingestLocal
  simp [kept_at, kept_foldl]

@[simp] theorem writeRequest_kept_mode (r : HapReq) (addr : Nat) (words : List Word) (s : State) :
    (kept (writeRequest r addr words s)).mode = (kept s).mode := by
  refine admitRequest_kept_mode _ _ _ _ _ _ _ _ _ fun x s => ?_
  cases x with
  | none => rfl
  | some y =>
    simp only []
    repeat' (first | with_reducible rfl | (simp [kept_at]; done) | split)

@[simp] theorem writeRequest_kept_unit (r : HapReq) (addr : Nat) (words : List Word) (s : State) :
    (kept (writeRequest r addr words s)).unit = (kept s).unit := by
  refine admitRequest_kept_unit _ _ _ _ _ _ _ _ _ fun x s => ?_
  cases x with
  | none => rfl
  | some y =>
    simp only []
    repeat' (first | with_reducible rfl | (simp [kept_at]; done) | split)

@[simp] theorem writeRequest_kept_cfg (r : HapReq) (addr : Nat) (words : List Word) (s : State) :
    (kept (writeRequest r addr words s)).cfg = (kept s).cfg := by
  refine admitRequest_kept_cfg _ _ _ _ _ _ _ _ _ fun x s => ?_
  cases x with
  | none => rfl
  | some y =>
    simp only []
    repeat' (first | with_reducible rfl | (simp [kept_at]; done) | split)

@[simp] theorem writeRequest_kept_life (r : HapReq) (addr : Nat) (words : List Word) (s : State) :
    (kept (writeRequest r addr words s)).life = (kept s).life := by
  refine admitRequest_kept_life _ _ _ _ _ _ _ _ _ fun x s => ?_
  cases x with
  | none => rfl
  | some y =>
    simp only []
    repeat' (first | with_reducible rfl | (simp [kept_at]; done) | split)

@[simp] theorem writeRequest_kept_dump (r : HapReq) (addr : Nat) (words : List Word) (s : State) :
    (kept (writeRequest r addr words s)).dump = (kept s).dump := by
  refine admitRequest_kept_dump _ _ _ _ _ _ _ _ _ fun x s => ?_
  cases x with
  | none => rfl
  | some y =>
    simp only []
    repeat' (first | with_reducible rfl | (simp [kept_at]; done) | split)

@[simp] theorem writeRequest_kept_records (r : HapReq) (addr : Nat) (words : List Word) (s : State) :
    (kept (writeRequest r addr words s)).records = (kept s).records := by
  refine admitRequest_kept_records _ _ _ _ _ _ _ _ _ fun x s => ?_
  cases x with
  | none => rfl
  | some y =>
    simp only []
    repeat' (first | with_reducible rfl | (simp [kept_at]; done) | split)

@[simp] theorem writeRequest_kept_full (r : HapReq) (addr : Nat) (words : List Word) (s : State) :
    (kept (writeRequest r addr words s)).full = (kept s).full := by
  refine admitRequest_kept_full _ _ _ _ _ _ _ _ _ fun x s => ?_
  cases x with
  | none => rfl
  | some y =>
    simp only []
    repeat' (first | with_reducible rfl | (simp [kept_at]; done) | split)

@[simp] theorem writeRequest_kept_frame (r : HapReq) (addr : Nat) (words : List Word) (s : State) :
    (kept (writeRequest r addr words s)).frame = (kept s).frame := by
  refine admitRequest_kept_frame _ _ _ _ _ _ _ _ _ fun x s => ?_
  cases x with
  | none => rfl
  | some y =>
    simp only []
    repeat' (first | with_reducible rfl | (simp [kept_at]; done) | split)

@[simp] theorem writeRequest_kept_bankA (r : HapReq) (addr : Nat) (words : List Word) (s : State) :
    (kept (writeRequest r addr words s)).bankA = (kept s).bankA := by
  refine admitRequest_kept_bankA _ _ _ _ _ _ _ _ _ fun x s => ?_
  cases x with
  | none => rfl
  | some y =>
    simp only []
    repeat' (first | with_reducible rfl | (simp [kept_at]; done) | split)

@[simp] theorem writeRequest_kept_bankB (r : HapReq) (addr : Nat) (words : List Word) (s : State) :
    (kept (writeRequest r addr words s)).bankB = (kept s).bankB := by
  refine admitRequest_kept_bankB _ _ _ _ _ _ _ _ _ fun x s => ?_
  cases x with
  | none => rfl
  | some y =>
    simp only []
    repeat' (first | with_reducible rfl | (simp [kept_at]; done) | split)

@[simp] theorem writeRequest_kept_pending (r : HapReq) (addr : Nat) (words : List Word) (s : State) :
    (kept (writeRequest r addr words s)).pending = (kept s).pending := by
  refine admitRequest_kept_pending _ _ _ _ _ _ _ _ _ fun x s => ?_
  cases x with
  | none => rfl
  | some y =>
    simp only []
    repeat' (first | with_reducible rfl | (simp [kept_at]; done) | split)

@[simp] theorem answerCommand_kept (id : RecordId) (status : Nat) (detail : Nat) (epoch : Nat) (words : List Word) (s : State) : kept (answerCommand id status detail epoch words s) = kept s := by
  unfold answerCommand
  repeat' (first | with_reducible rfl | (simp [kept_at, kept_foldl]; done) | split | rw [kept_foldl] | intro _ | dsimp only | simp [kept_at, kept_foldl])

@[simp] theorem decideCommand_kept (status : Nat) (detail : Nat) (c : Command) (s : State) : kept (decideCommand status detail c s) = kept s := by
  unfold decideCommand
  simp [kept_at, kept_foldl]

@[simp] theorem headingReturn_kept (s : State) : kept (headingReturn s) = kept s := by
  unfold headingReturn
  simp [kept_at, kept_foldl]

@[simp] theorem intake_kept (s : State) : kept (intake s) = kept s := by
  unfold intake
  simp [kept_at, kept_foldl]

@[simp] theorem fusionStep_kept (s : State) : kept (fusionStep s) = kept s := by
  unfold fusionStep
  simp [kept_at, kept_foldl]

@[simp] theorem estimationStep_kept (s : State) : kept (estimationStep s) = kept s := by
  unfold estimationStep
  simp [kept_at, kept_foldl]

@[simp] theorem commandStep_kept (s : State) : kept (commandStep s) = kept s := by
  unfold commandStep
  simp [kept_at, kept_foldl]

@[simp] theorem decideAlone_kept (s : State) : kept (decideAlone s) = kept s := by
  unfold decideAlone
  simp [kept_at, kept_foldl]

@[simp] theorem fastWork_kept (s : State) : kept (fastWork s) = kept s := by
  unfold fastWork
  simp [kept_at, kept_foldl]

@[simp] theorem execFastWork_kept (s : State) : keptOut (execFastWork s) = some (kept s) := by
  unfold execFastWork
  simp [kept_at, kept_foldl]

@[simp] theorem execFastWorkOverrun_kept (s : State) : keptOut (execFastWorkOverrun s) = some (kept s) := by
  unfold execFastWorkOverrun
  simp [kept_at, kept_foldl]

@[simp] theorem takeBasis_kept (s : State) : kept (takeBasis s) = kept s := by
  unfold takeBasis
  simp [kept_at, kept_foldl]

@[simp] theorem execDigestSend_kept (s : State) : keptOut (execDigestSend s) = some (kept s) := by
  unfold execDigestSend
  simp [kept_at, kept_foldl]

@[simp] theorem countDivergence_kept (s : State) : kept (countDivergence s) = kept s := by
  unfold countDivergence
  simp [kept_at, kept_foldl]

@[simp] theorem compareDigests_kept (d : DigestBody) (s : State) : kept (compareDigests d s) = kept s := by
  unfold compareDigests
  simp [kept_at, kept_foldl]

@[simp] theorem auditFails_kept (d : DigestBody) (s : State) : kept (auditFails d s) = kept s := by
  unfold auditFails
  simp [kept_at, kept_foldl]

@[simp] theorem takeOverrun_kept (s : State) : kept (takeOverrun s) = kept s := by
  unfold takeOverrun
  simp [kept_at, kept_foldl]

@[simp] theorem judgePartner_kept (s : State) : kept (judgePartner s) = kept s := by
  unfold judgePartner
  repeat' (first | with_reducible rfl | (simp [kept_at, kept_foldl]; done) | split | rw [kept_foldl] | intro _ | dsimp only | simp [kept_at, kept_foldl])

@[simp] theorem decideTogether_kept (s : State) : kept (decideTogether s) = kept s := by
  unfold decideTogether
  simp [kept_at, kept_foldl]

@[simp] theorem execEmissionDecision_kept (s : State) : keptOut (execEmissionDecision s) = some (kept s) := by
  unfold execEmissionDecision
  simp [kept_at, kept_foldl]

@[simp] theorem execArbitrationOutcomeSend_kept (upset : Nat) (s : State) : keptOut (execArbitrationOutcomeSend upset s) = some (kept s) := by
  unfold execArbitrationOutcomeSend
  simp [kept_at, kept_foldl]

@[simp] theorem arbitrate_kept (act : Bool) (sby : Bool) (s : State) : kept (arbitrate act sby s) = kept s := by
  unfold arbitrate
  repeat' (first | with_reducible rfl | (simp [kept_at, kept_foldl]; done) | split | rw [kept_foldl] | intro _ | dsimp only | simp [kept_at, kept_foldl])

@[simp] theorem execArbitrationDecision_kept (s : State) : keptOut (execArbitrationDecision s) = some (kept s) := by
  unfold execArbitrationDecision
  repeat' (first | with_reducible rfl | (simp [kept_at, kept_foldl]; done) | split | rw [kept_foldl] | intro _ | dsimp only | simp [kept_at, kept_foldl])

@[simp] theorem effectMirrored_kept_unit (addr : Nat) (hit : List Word → Bool) (s : State) : (kept (effectMirrored addr hit s)).unit = (kept s).unit := by
  unfold effectMirrored
  repeat' (first | with_reducible rfl | (simp [kept_unit_foldl, kept_at, kept_foldl]; done) | split | rw [kept_unit_foldl] | intro _ | dsimp only | simp [kept_unit_foldl, kept_at, kept_foldl])

@[simp] theorem effectMirrored_kept_cfg (addr : Nat) (hit : List Word → Bool) (s : State) : (kept (effectMirrored addr hit s)).cfg = (kept s).cfg := by
  unfold effectMirrored
  repeat' (first | with_reducible rfl | (simp [kept_cfg_foldl, kept_at, kept_foldl]; done) | split | rw [kept_cfg_foldl] | intro _ | dsimp only | simp [kept_cfg_foldl, kept_at, kept_foldl])

@[simp] theorem effectMirrored_kept_dump (addr : Nat) (hit : List Word → Bool) (s : State) : (kept (effectMirrored addr hit s)).dump = (kept s).dump := by
  unfold effectMirrored
  repeat' (first | with_reducible rfl | (simp [kept_dump_foldl, kept_at, kept_foldl]; done) | split | rw [kept_dump_foldl] | intro _ | dsimp only | simp [kept_dump_foldl, kept_at, kept_foldl])

@[simp] theorem effectMirrored_kept_staging (addr : Nat) (hit : List Word → Bool) (s : State) : (kept (effectMirrored addr hit s)).staging = (kept s).staging := by
  unfold effectMirrored
  repeat' (first | with_reducible rfl | (simp [kept_staging_foldl, kept_at, kept_foldl]; done) | split | rw [kept_staging_foldl] | intro _ | dsimp only | simp [kept_staging_foldl, kept_at, kept_foldl])

@[simp] theorem effectMirrored_kept_frame (addr : Nat) (hit : List Word → Bool) (s : State) : (kept (effectMirrored addr hit s)).frame = (kept s).frame := by
  unfold effectMirrored
  repeat' (first | with_reducible rfl | (simp [kept_frame_foldl, kept_at, kept_foldl]; done) | split | rw [kept_frame_foldl] | intro _ | dsimp only | simp [kept_frame_foldl, kept_at, kept_foldl])

@[simp] theorem effectMirrored_kept_bankA (addr : Nat) (hit : List Word → Bool) (s : State) : (kept (effectMirrored addr hit s)).bankA = (kept s).bankA := by
  unfold effectMirrored
  repeat' (first | with_reducible rfl | (simp [kept_bankA_foldl, kept_at, kept_foldl]; done) | split | rw [kept_bankA_foldl] | intro _ | dsimp only | simp [kept_bankA_foldl, kept_at, kept_foldl])

@[simp] theorem effectMirrored_kept_bankB (addr : Nat) (hit : List Word → Bool) (s : State) : (kept (effectMirrored addr hit s)).bankB = (kept s).bankB := by
  unfold effectMirrored
  repeat' (first | with_reducible rfl | (simp [kept_bankB_foldl, kept_at, kept_foldl]; done) | split | rw [kept_bankB_foldl] | intro _ | dsimp only | simp [kept_bankB_foldl, kept_at, kept_foldl])

@[simp] theorem effectMirrored_kept_pending (addr : Nat) (hit : List Word → Bool) (s : State) : (kept (effectMirrored addr hit s)).pending = (kept s).pending := by
  unfold effectMirrored
  repeat' (first | with_reducible rfl | (simp [kept_pending_foldl, kept_at, kept_foldl]; done) | split | rw [kept_pending_foldl] | intro _ | dsimp only | simp [kept_pending_foldl, kept_at, kept_foldl])

@[simp] theorem applyLocalWrite_kept_unit (x : Nat × List Word × Nat × Nat) (s : State) : (kept (applyLocalWrite x s)).unit = (kept s).unit := by
  unfold applyLocalWrite
  simp [kept_unit_foldl, kept_at, kept_foldl]

@[simp] theorem applyLocalWrite_kept_staging (x : Nat × List Word × Nat × Nat) (s : State) : (kept (applyLocalWrite x s)).staging = (kept s).staging := by
  unfold applyLocalWrite
  simp [kept_staging_foldl, kept_at, kept_foldl]

@[simp] theorem applyLocalWrite_kept_bankA (x : Nat × List Word × Nat × Nat) (s : State) : (kept (applyLocalWrite x s)).bankA = (kept s).bankA := by
  unfold applyLocalWrite
  simp [kept_bankA_foldl, kept_at, kept_foldl]

@[simp] theorem applyLocalWrite_kept_bankB (x : Nat × List Word × Nat × Nat) (s : State) : (kept (applyLocalWrite x s)).bankB = (kept s).bankB := by
  unfold applyLocalWrite
  simp [kept_bankB_foldl, kept_at, kept_foldl]

@[simp] theorem applyLocalWrite_kept_pending (x : Nat × List Word × Nat × Nat) (s : State) : (kept (applyLocalWrite x s)).pending = (kept s).pending := by
  unfold applyLocalWrite
  simp [kept_pending_foldl, kept_at, kept_foldl]

@[simp] theorem effectLocal_kept_unit (addr : Nat) (hit : List Word → Bool) (s : State) : (kept (effectLocal addr hit s)).unit = (kept s).unit := by
  unfold effectLocal
  repeat' (first | with_reducible rfl | (simp [kept_unit_foldl, kept_at, kept_foldl]; done) | split | rw [kept_unit_foldl] | intro _ | dsimp only | simp [kept_unit_foldl, kept_at, kept_foldl])

@[simp] theorem effectLocal_kept_staging (addr : Nat) (hit : List Word → Bool) (s : State) : (kept (effectLocal addr hit s)).staging = (kept s).staging := by
  unfold effectLocal
  repeat' (first | with_reducible rfl | (simp [kept_staging_foldl, kept_at, kept_foldl]; done) | split | rw [kept_staging_foldl] | intro _ | dsimp only | simp [kept_staging_foldl, kept_at, kept_foldl])

@[simp] theorem effectLocal_kept_bankA (addr : Nat) (hit : List Word → Bool) (s : State) : (kept (effectLocal addr hit s)).bankA = (kept s).bankA := by
  unfold effectLocal
  repeat' (first | with_reducible rfl | (simp [kept_bankA_foldl, kept_at, kept_foldl]; done) | split | rw [kept_bankA_foldl] | intro _ | dsimp only | simp [kept_bankA_foldl, kept_at, kept_foldl])

@[simp] theorem effectLocal_kept_bankB (addr : Nat) (hit : List Word → Bool) (s : State) : (kept (effectLocal addr hit s)).bankB = (kept s).bankB := by
  unfold effectLocal
  repeat' (first | with_reducible rfl | (simp [kept_bankB_foldl, kept_at, kept_foldl]; done) | split | rw [kept_bankB_foldl] | intro _ | dsimp only | simp [kept_bankB_foldl, kept_at, kept_foldl])

@[simp] theorem effectLocal_kept_pending (addr : Nat) (hit : List Word → Bool) (s : State) : (kept (effectLocal addr hit s)).pending = (kept s).pending := by
  unfold effectLocal
  repeat' (first | with_reducible rfl | (simp [kept_pending_foldl, kept_at, kept_foldl]; done) | split | rw [kept_pending_foldl] | intro _ | dsimp only | simp [kept_pending_foldl, kept_at, kept_foldl])

@[simp] theorem commandPoint_kept_unit (p : CmdPoint) (addr : Nat) (words : List Word) (hit : List Word → Bool) (s : State) :
    (kept (commandPoint p addr words hit s)).unit = (kept s).unit := by
  cases p
  · exact writeRequest_kept_unit _ _ _ _
  · simp only [commandPoint]
    split <;> simp

@[simp] theorem commandPoint_kept_bankA (p : CmdPoint) (addr : Nat) (words : List Word) (hit : List Word → Bool) (s : State) :
    (kept (commandPoint p addr words hit s)).bankA = (kept s).bankA := by
  cases p
  · exact writeRequest_kept_bankA _ _ _ _
  · simp only [commandPoint]
    split <;> simp

@[simp] theorem commandPoint_kept_bankB (p : CmdPoint) (addr : Nat) (words : List Word) (hit : List Word → Bool) (s : State) :
    (kept (commandPoint p addr words hit s)).bankB = (kept s).bankB := by
  cases p
  · exact writeRequest_kept_bankB _ _ _ _
  · simp only [commandPoint]
    split <;> simp

@[simp] theorem commandPoint_kept_pending (p : CmdPoint) (addr : Nat) (words : List Word) (hit : List Word → Bool) (s : State) :
    (kept (commandPoint p addr words hit s)).pending = (kept s).pending := by
  cases p
  · exact writeRequest_kept_pending _ _ _ _
  · simp only [commandPoint]
    split <;> simp

@[simp] theorem exactCommand_kept_unit (p : CmdPoint) (addr : Nat) (words : List Word) (s : State) : (kept (exactCommand p addr words s)).unit = (kept s).unit := by
  unfold exactCommand
  simp [kept_unit_foldl, kept_at, kept_foldl]

@[simp] theorem exactCommand_kept_bankA (p : CmdPoint) (addr : Nat) (words : List Word) (s : State) : (kept (exactCommand p addr words s)).bankA = (kept s).bankA := by
  unfold exactCommand
  simp [kept_bankA_foldl, kept_at, kept_foldl]

@[simp] theorem exactCommand_kept_bankB (p : CmdPoint) (addr : Nat) (words : List Word) (s : State) : (kept (exactCommand p addr words s)).bankB = (kept s).bankB := by
  unfold exactCommand
  simp [kept_bankB_foldl, kept_at, kept_foldl]

@[simp] theorem exactCommand_kept_pending (p : CmdPoint) (addr : Nat) (words : List Word) (s : State) : (kept (exactCommand p addr words s)).pending = (kept s).pending := by
  unfold exactCommand
  simp [kept_pending_foldl, kept_at, kept_foldl]

@[simp] theorem anyWrite_kept_unit (p : CmdPoint) (addr : Nat) (s : State) : (kept (anyWrite p addr s)).unit = (kept s).unit := by
  unfold anyWrite
  simp [kept_unit_foldl, kept_at, kept_foldl]

@[simp] theorem anyWrite_kept_bankA (p : CmdPoint) (addr : Nat) (s : State) : (kept (anyWrite p addr s)).bankA = (kept s).bankA := by
  unfold anyWrite
  simp [kept_bankA_foldl, kept_at, kept_foldl]

@[simp] theorem anyWrite_kept_bankB (p : CmdPoint) (addr : Nat) (s : State) : (kept (anyWrite p addr s)).bankB = (kept s).bankB := by
  unfold anyWrite
  simp [kept_bankB_foldl, kept_at, kept_foldl]

@[simp] theorem anyWrite_kept_pending (p : CmdPoint) (addr : Nat) (s : State) : (kept (anyWrite p addr s)).pending = (kept s).pending := by
  unfold anyWrite
  simp [kept_pending_foldl, kept_at, kept_foldl]

@[simp] theorem modSup_kept (f : Supply → Supply) (s : State) : kept (modSup f s) = kept s := by
  unfold modSup
  simp [kept_at, kept_foldl]

@[simp] theorem execBusWarning_kept (volts : Nat) (s : State) : keptOut (execBusWarning volts s) = some (kept s) := by
  unfold execBusWarning
  simp [kept_at, kept_foldl]

@[simp] theorem execBusWarningClear_kept (volts : Nat) (s : State) : keptOut (execBusWarningClear volts s) = some (kept s) := by
  unfold execBusWarningClear
  simp [kept_at, kept_foldl]

@[simp] theorem inputEvents_kept (s : State) : kept (inputEvents s) = kept s := by
  unfold inputEvents
  simp [kept_at, kept_foldl]

@[simp] theorem setAbsent_kept (p : Side) (b : Bool) (s : State) : kept (setAbsent p b s) = kept s := by
  unfold setAbsent
  simp [kept_at, kept_foldl]

@[simp] theorem setCut_kept (p : Side) (b : Bool) (s : State) : kept (setCut p b s) = kept s := by
  unfold setCut
  simp [kept_at, kept_foldl]

@[simp] theorem execInputAbsent_kept (p : Side) (s : State) : keptOut (execInputAbsent p s) = some (kept s) := by
  unfold execInputAbsent
  simp [kept_at, kept_foldl]

@[simp] theorem execInputReturn_kept (p : Side) (s : State) : keptOut (execInputReturn p s) = some (kept s) := by
  unfold execInputReturn
  simp [kept_at, kept_foldl]

@[simp] theorem execOvervoltageDisconnect_kept (p : Side) (s : State) : keptOut (execOvervoltageDisconnect p s) = some (kept s) := by
  unfold execOvervoltageDisconnect
  simp [kept_at, kept_foldl]

@[simp] theorem execOvervoltageReconnect_kept (p : Side) (s : State) : keptOut (execOvervoltageReconnect p s) = some (kept s) := by
  unfold execOvervoltageReconnect
  simp [kept_at, kept_foldl]

@[simp] theorem execHoldupReady_kept (s : State) : keptOut (execHoldupReady s) = some (kept s) := by
  unfold execHoldupReady
  simp [kept_at, kept_foldl]

@[simp] theorem execOcxoStable_kept (s : State) : keptOut (execOcxoStable s) = some (kept s) := by
  unfold execOcxoStable
  simp [kept_at, kept_foldl]

@[simp] theorem execOcxoWarmupOverdue_kept (s : State) : keptOut (execOcxoWarmupOverdue s) = some (kept s) := by
  unfold execOcxoWarmupOverdue
  simp [kept_at, kept_foldl]

@[simp] theorem execTemperatureWarning_kept (base : Int) (s : State) : keptOut (execTemperatureWarning base s) = some (kept s) := by
  unfold execTemperatureWarning
  simp [kept_at, kept_foldl]

@[simp] theorem execTemperatureLimit_kept (base : Int) (s : State) : keptOut (execTemperatureLimit base s) = some (kept s) := by
  unfold execTemperatureLimit
  simp [kept_at, kept_foldl]

@[simp] theorem execTemperatureFall_kept (base : Int) (s : State) : keptOut (execTemperatureFall base s) = some (kept s) := by
  unfold execTemperatureFall
  simp [kept_at, kept_foldl]

@[simp] theorem reportKey_kept (n : Nat) (s : State) : kept (reportKey n s) = kept s := by
  unfold reportKey
  simp [kept_at, kept_foldl]

@[simp] theorem execKeyPresenceChange_kept (seated : Bool) (heldEpochs : Nat) (s : State) : keptOut (execKeyPresenceChange seated heldEpochs s) = some (kept s) := by
  unfold execKeyPresenceChange
  repeat' (first | with_reducible rfl | (simp [kept_at, kept_foldl]; done) | split | rw [kept_foldl] | intro _ | dsimp only | simp [kept_at, kept_foldl])

@[simp] theorem setStation_kept (p : Side) (l : LinkState) (s : State) : kept (setStation p l s) = kept s := by
  unfold setStation
  simp [kept_at, kept_foldl]

@[simp] theorem execStationLinkDown_kept (p : Side) (s : State) : keptOut (execStationLinkDown p s) = some (kept s) := by
  unfold execStationLinkDown
  simp [kept_at, kept_foldl]

@[simp] theorem execStationLinkUp_kept (p : Side) (s : State) : keptOut (execStationLinkUp p s) = some (kept s) := by
  unfold execStationLinkUp
  simp [kept_at, kept_foldl]

@[simp] theorem execSvcLinkUp_kept (s : State) : keptOut (execSvcLinkUp s) = some (kept s) := by
  unfold execSvcLinkUp
  simp [kept_at, kept_foldl]

@[simp] theorem execSvcLinkDown_kept (s : State) : keptOut (execSvcLinkDown s) = some (kept s) := by
  unfold execSvcLinkDown
  simp [kept_at, kept_foldl]

@[simp] theorem execStationFrameErrors_kept (frames : Nat) (s : State) : keptOut (execStationFrameErrors frames s) = some (kept s) := by
  unfold execStationFrameErrors
  simp [kept_at, kept_foldl]

@[simp] theorem countMuted_kept (s : State) : kept (countMuted s) = kept s := by
  unfold countMuted
  simp [kept_at, kept_foldl]

@[simp] theorem advanceOpTime_kept (s : State) : kept (advanceOpTime s) = kept s := by
  unfold advanceOpTime
  simp [kept_at, kept_foldl]

@[simp] theorem ageHap_kept (s : State) : kept (ageHap s) = kept s := by
  unfold ageHap
  simp [kept_at, kept_foldl]

@[simp] theorem agePorts_kept (s : State) : kept (agePorts s) = kept s := by
  unfold agePorts
  simp [kept_at, kept_foldl]

@[simp] theorem ageOutputs_kept (s : State) : kept (ageOutputs s) = kept s := by
  unfold ageOutputs
  simp [kept_at, kept_foldl]

@[simp] theorem closeEpoch_kept (s : State) : kept (closeEpoch s) = kept s := by
  unfold closeEpoch
  simp [kept_at, kept_foldl]

@[simp] theorem agePair_kept (s : State) : kept (agePair s) = kept s := by
  unfold agePair
  simp [kept_at, kept_foldl]

@[simp] theorem pathReturns_kept (s : State) : kept (pathReturns s) = kept s := by
  unfold pathReturns
  simp [kept_at, kept_foldl]

@[simp] theorem standbyDecision_kept (s : State) : kept (standbyDecision s) = kept s := by
  unfold standbyDecision
  repeat' (first | with_reducible rfl | (simp [kept_at, kept_foldl]; done) | split | rw [kept_foldl] | intro _ | dsimp only | simp [kept_at, kept_foldl])

@[simp] theorem rejoin_kept (s : State) : kept (rejoin s) = kept s := by
  unfold rejoin
  simp [kept_at, kept_foldl]

@[simp] theorem activePhase_kept (s : State) : kept (activePhase s) = kept s := by
  unfold activePhase
  repeat' (first | with_reducible rfl | (simp [kept_at, kept_foldl]; done) | split | rw [kept_foldl] | intro _ | dsimp only | simp [kept_at, kept_foldl])

@[simp] theorem standbyCleared_kept (s : State) : kept (standbyCleared s) = kept s := by
  unfold standbyCleared
  simp [kept_at, kept_foldl]

@[simp] theorem roleDecisions_kept_unit (s : State) : (kept (roleDecisions s)).unit = (kept s).unit := by
  unfold roleDecisions
  simp [kept_unit_foldl, kept_at, kept_foldl]

@[simp] theorem roleDecisions_kept_cfg (s : State) : (kept (roleDecisions s)).cfg = (kept s).cfg := by
  unfold roleDecisions
  simp [kept_cfg_foldl, kept_at, kept_foldl]

@[simp] theorem roleDecisions_kept_life (s : State) : (kept (roleDecisions s)).life = (kept s).life := by
  unfold roleDecisions
  simp [kept_life_foldl, kept_at, kept_foldl]

@[simp] theorem roleDecisions_kept_dump (s : State) : (kept (roleDecisions s)).dump = (kept s).dump := by
  unfold roleDecisions
  simp [kept_dump_foldl, kept_at, kept_foldl]

@[simp] theorem roleDecisions_kept_records (s : State) : (kept (roleDecisions s)).records = (kept s).records := by
  unfold roleDecisions
  simp [kept_records_foldl, kept_at, kept_foldl]

@[simp] theorem roleDecisions_kept_full (s : State) : (kept (roleDecisions s)).full = (kept s).full := by
  unfold roleDecisions
  simp [kept_full_foldl, kept_at, kept_foldl]

@[simp] theorem roleDecisions_kept_staging (s : State) : (kept (roleDecisions s)).staging = (kept s).staging := by
  unfold roleDecisions
  simp [kept_staging_foldl, kept_at, kept_foldl]

@[simp] theorem roleDecisions_kept_frame (s : State) : (kept (roleDecisions s)).frame = (kept s).frame := by
  unfold roleDecisions
  simp [kept_frame_foldl, kept_at, kept_foldl]

@[simp] theorem roleDecisions_kept_bankA (s : State) : (kept (roleDecisions s)).bankA = (kept s).bankA := by
  unfold roleDecisions
  simp [kept_bankA_foldl, kept_at, kept_foldl]

@[simp] theorem roleDecisions_kept_bankB (s : State) : (kept (roleDecisions s)).bankB = (kept s).bankB := by
  unfold roleDecisions
  simp [kept_bankB_foldl, kept_at, kept_foldl]

@[simp] theorem roleDecisions_kept_pending (s : State) : (kept (roleDecisions s)).pending = (kept s).pending := by
  unfold roleDecisions
  simp [kept_pending_foldl, kept_at, kept_foldl]

@[simp] theorem correctTimer_kept (s : State) : kept (correctTimer s) = kept s := by
  unfold correctTimer
  simp [kept_at, kept_foldl]

@[simp] theorem settlePages_kept (s : State) : kept (settlePages s) = kept s := by
  unfold settlePages
  simp [kept_at, kept_foldl]

@[simp] theorem standbyMode_kept_unit (s : State) : (kept (standbyMode s)).unit = (kept s).unit := by
  unfold standbyMode
  simp [kept_unit_foldl, kept_at, kept_foldl]

@[simp] theorem standbyMode_kept_cfg (s : State) : (kept (standbyMode s)).cfg = (kept s).cfg := by
  unfold standbyMode
  simp [kept_cfg_foldl, kept_at, kept_foldl]

@[simp] theorem standbyMode_kept_life (s : State) : (kept (standbyMode s)).life = (kept s).life := by
  unfold standbyMode
  simp [kept_life_foldl, kept_at, kept_foldl]

@[simp] theorem standbyMode_kept_dump (s : State) : (kept (standbyMode s)).dump = (kept s).dump := by
  unfold standbyMode
  simp [kept_dump_foldl, kept_at, kept_foldl]

@[simp] theorem standbyMode_kept_records (s : State) : (kept (standbyMode s)).records = (kept s).records := by
  unfold standbyMode
  simp [kept_records_foldl, kept_at, kept_foldl]

@[simp] theorem standbyMode_kept_full (s : State) : (kept (standbyMode s)).full = (kept s).full := by
  unfold standbyMode
  simp [kept_full_foldl, kept_at, kept_foldl]

@[simp] theorem standbyMode_kept_staging (s : State) : (kept (standbyMode s)).staging = (kept s).staging := by
  unfold standbyMode
  simp [kept_staging_foldl, kept_at, kept_foldl]

@[simp] theorem standbyMode_kept_frame (s : State) : (kept (standbyMode s)).frame = (kept s).frame := by
  unfold standbyMode
  simp [kept_frame_foldl, kept_at, kept_foldl]

@[simp] theorem standbyMode_kept_bankA (s : State) : (kept (standbyMode s)).bankA = (kept s).bankA := by
  unfold standbyMode
  simp [kept_bankA_foldl, kept_at, kept_foldl]

@[simp] theorem standbyMode_kept_bankB (s : State) : (kept (standbyMode s)).bankB = (kept s).bankB := by
  unfold standbyMode
  simp [kept_bankB_foldl, kept_at, kept_foldl]

@[simp] theorem standbyMode_kept_pending (s : State) : (kept (standbyMode s)).pending = (kept s).pending := by
  unfold standbyMode
  simp [kept_pending_foldl, kept_at, kept_foldl]

@[simp] theorem sendRecords_kept (l : List (List InRecord)) (s : State) : kept (sendRecords l s) = kept s := by
  unfold sendRecords
  simp [kept_at, kept_foldl]

@[simp] theorem offerRecords_kept (s : State) : kept (offerRecords s) = kept s := by
  unfold offerRecords
  simp [kept_at, kept_foldl]

@[simp] theorem beginEpoch_kept (s : State) : kept (beginEpoch s) = kept s := by
  unfold beginEpoch
  simp [kept_at, kept_foldl]

@[simp] theorem inputCutoff_kept_unit (levels : Nat) (s : State) : (kept (inputCutoff levels s)).unit = (kept s).unit := by
  unfold inputCutoff
  simp [kept_unit_foldl, kept_at, kept_foldl]

@[simp] theorem inputCutoff_kept_cfg (levels : Nat) (s : State) : (kept (inputCutoff levels s)).cfg = (kept s).cfg := by
  unfold inputCutoff
  simp [kept_cfg_foldl, kept_at, kept_foldl]

@[simp] theorem inputCutoff_kept_life (levels : Nat) (s : State) : (kept (inputCutoff levels s)).life = (kept s).life := by
  unfold inputCutoff
  simp [kept_life_foldl, kept_at, kept_foldl]

@[simp] theorem inputCutoff_kept_dump (levels : Nat) (s : State) : (kept (inputCutoff levels s)).dump = (kept s).dump := by
  unfold inputCutoff
  simp [kept_dump_foldl, kept_at, kept_foldl]

@[simp] theorem inputCutoff_kept_records (levels : Nat) (s : State) : (kept (inputCutoff levels s)).records = (kept s).records := by
  unfold inputCutoff
  simp [kept_records_foldl, kept_at, kept_foldl]

@[simp] theorem inputCutoff_kept_full (levels : Nat) (s : State) : (kept (inputCutoff levels s)).full = (kept s).full := by
  unfold inputCutoff
  simp [kept_full_foldl, kept_at, kept_foldl]

@[simp] theorem inputCutoff_kept_staging (levels : Nat) (s : State) : (kept (inputCutoff levels s)).staging = (kept s).staging := by
  unfold inputCutoff
  simp [kept_staging_foldl, kept_at, kept_foldl]

@[simp] theorem inputCutoff_kept_frame (levels : Nat) (s : State) : (kept (inputCutoff levels s)).frame = (kept s).frame := by
  unfold inputCutoff
  simp [kept_frame_foldl, kept_at, kept_foldl]

@[simp] theorem inputCutoff_kept_bankA (levels : Nat) (s : State) : (kept (inputCutoff levels s)).bankA = (kept s).bankA := by
  unfold inputCutoff
  simp [kept_bankA_foldl, kept_at, kept_foldl]

@[simp] theorem inputCutoff_kept_bankB (levels : Nat) (s : State) : (kept (inputCutoff levels s)).bankB = (kept s).bankB := by
  unfold inputCutoff
  simp [kept_bankB_foldl, kept_at, kept_foldl]

@[simp] theorem inputCutoff_kept_pending (levels : Nat) (s : State) : (kept (inputCutoff levels s)).pending = (kept s).pending := by
  unfold inputCutoff
  simp [kept_pending_foldl, kept_at, kept_foldl]

@[simp] theorem execAcknowledgementSend_kept (s : State) : keptOut (execAcknowledgementSend s) = some (kept s) := by
  unfold execAcknowledgementSend
  simp [kept_at, kept_foldl]

@[simp] theorem dropRecord_kept (s : State) (r : OwnRecord) : kept (dropRecord s r) = kept s := by
  unfold dropRecord
  simp [kept_at, kept_foldl]

@[simp] theorem commitRecords_kept (s : State) : kept (commitRecords s) = kept s := by
  unfold commitRecords
  simp [kept_at, kept_foldl]

@[simp] theorem commitTime_kept (s : State) : kept (commitTime s) = kept s := by
  unfold commitTime
  repeat' (first | with_reducible rfl | (simp [kept_at, kept_foldl]; done) | split | rw [kept_foldl] | intro _ | dsimp only | simp [kept_at, kept_foldl])

@[simp] theorem takeCommands_kept (s : State) : kept (takeCommands s) = kept s := by
  unfold takeCommands
  simp [kept_at, kept_foldl]

@[simp] theorem applyDue_kept_unit (s : State) : (kept (applyDue s)).unit = (kept s).unit := by
  unfold applyDue
  simp [kept_unit_foldl, kept_at, kept_foldl]

@[simp] theorem applyDue_kept_cfg (s : State) : (kept (applyDue s)).cfg = (kept s).cfg := by
  unfold applyDue
  simp [kept_cfg_foldl, kept_at, kept_foldl]

@[simp] theorem applyDue_kept_dump (s : State) : (kept (applyDue s)).dump = (kept s).dump := by
  unfold applyDue
  simp [kept_dump_foldl, kept_at, kept_foldl]

@[simp] theorem applyDue_kept_staging (s : State) : (kept (applyDue s)).staging = (kept s).staging := by
  unfold applyDue
  simp [kept_staging_foldl, kept_at, kept_foldl]

@[simp] theorem applyDue_kept_frame (s : State) : (kept (applyDue s)).frame = (kept s).frame := by
  unfold applyDue
  simp [kept_frame_foldl, kept_at, kept_foldl]

@[simp] theorem applyDue_kept_bankA (s : State) : (kept (applyDue s)).bankA = (kept s).bankA := by
  unfold applyDue
  simp [kept_bankA_foldl, kept_at, kept_foldl]

@[simp] theorem applyDue_kept_bankB (s : State) : (kept (applyDue s)).bankB = (kept s).bankB := by
  unfold applyDue
  simp [kept_bankB_foldl, kept_at, kept_foldl]

@[simp] theorem applyDue_kept_pending (s : State) : (kept (applyDue s)).pending = (kept s).pending := by
  unfold applyDue
  simp [kept_pending_foldl, kept_at, kept_foldl]

@[simp] theorem applyLocalDue_kept_unit (s : State) : (kept (applyLocalDue s)).unit = (kept s).unit := by
  unfold applyLocalDue
  simp [kept_unit_foldl, kept_at, kept_foldl]

@[simp] theorem applyLocalDue_kept_staging (s : State) : (kept (applyLocalDue s)).staging = (kept s).staging := by
  unfold applyLocalDue
  simp [kept_staging_foldl, kept_at, kept_foldl]

@[simp] theorem applyLocalDue_kept_bankA (s : State) : (kept (applyLocalDue s)).bankA = (kept s).bankA := by
  unfold applyLocalDue
  simp [kept_bankA_foldl, kept_at, kept_foldl]

@[simp] theorem applyLocalDue_kept_bankB (s : State) : (kept (applyLocalDue s)).bankB = (kept s).bankB := by
  unfold applyLocalDue
  simp [kept_bankB_foldl, kept_at, kept_foldl]

@[simp] theorem applyLocalDue_kept_pending (s : State) : (kept (applyLocalDue s)).pending = (kept s).pending := by
  unfold applyLocalDue
  simp [kept_pending_foldl, kept_at, kept_foldl]

@[simp] theorem commitSlowWork_kept (late : List SlowJob) (s : State) : kept (commitSlowWork late s) = kept s := by
  unfold commitSlowWork
  simp [kept_at, kept_foldl]

@[simp] theorem clearFlags_kept (s : State) : kept (clearFlags s) = kept s := by
  unfold clearFlags
  simp [kept_at, kept_foldl]

@[simp] theorem inputCommit_kept_unit (late : List SlowJob) (s : State) : (kept (inputCommit late s)).unit = (kept s).unit := by
  unfold inputCommit
  simp [kept_unit_foldl, kept_at, kept_foldl]

@[simp] theorem inputCommit_kept_staging (late : List SlowJob) (s : State) : (kept (inputCommit late s)).staging = (kept s).staging := by
  unfold inputCommit
  simp [kept_staging_foldl, kept_at, kept_foldl]

@[simp] theorem inputCommit_kept_bankA (late : List SlowJob) (s : State) : (kept (inputCommit late s)).bankA = (kept s).bankA := by
  unfold inputCommit
  simp [kept_bankA_foldl, kept_at, kept_foldl]

@[simp] theorem inputCommit_kept_bankB (late : List SlowJob) (s : State) : (kept (inputCommit late s)).bankB = (kept s).bankB := by
  unfold inputCommit
  simp [kept_bankB_foldl, kept_at, kept_foldl]

@[simp] theorem inputCommit_kept_pending (late : List SlowJob) (s : State) : (kept (inputCommit late s)).pending = (kept s).pending := by
  unfold inputCommit
  simp [kept_pending_foldl, kept_at, kept_foldl]

@[simp] theorem execSlowWorkSlice_kept (s : State) : keptOut (execSlowWorkSlice s) = some (kept s) := by
  unfold execSlowWorkSlice
  simp [kept_at, kept_foldl]

@[simp] theorem takeProgress_kept (s : State) : kept (takeProgress s) = kept s := by
  unfold takeProgress
  simp [kept_at, kept_foldl]

@[simp] theorem takeReadings_kept (r : Readings) (s : State) : kept (takeReadings r s) = kept s := by
  unfold takeReadings
  simp [kept_at, kept_foldl]

@[simp] theorem formTimeRecord_kept (s : State) : kept (formTimeRecord s) = kept s := by
  unfold formTimeRecord
  simp [kept_at, kept_foldl]

@[simp] theorem execSnapshotPublish_kept (r : Readings) (s : State) : keptOut (execSnapshotPublish r s) = some (kept s) := by
  unfold execSnapshotPublish
  simp [kept_at, kept_foldl]

@[simp] theorem execSnapshotSkip_kept (s : State) : keptOut (execSnapshotSkip s) = some (kept s) := by
  unfold execSnapshotSkip
  simp [kept_at, kept_foldl]

@[simp] theorem modKtl_kept (f : Kettle → Kettle) (s : State) : kept (modKtl f s) = kept s := by
  unfold modKtl
  simp [kept_at, kept_foldl]

@[simp] theorem kettleFailure_kept (kind : Nat) (item : Nat) (code : Nat) (start : Bool) (retired : Bool) (s : State) : kept (kettleFailure kind item code start retired s) = kept s := by
  unfold kettleFailure
  simp [kept_at, kept_foldl]

@[simp] theorem requestVariant_kept (v : Option Nat) (s : State) : kept (requestVariant v s) = kept s := by
  unfold requestVariant
  simp [kept_at, kept_foldl]

@[simp] theorem skilletFails_kept (k : Nat) (s : State) : kept (skilletFails k s) = kept s := by
  unfold skilletFails
  simp [kept_at, kept_foldl]

@[simp] theorem dropSpare_kept (spare : Nat) (s : State) : kept (dropSpare spare s) = kept s := by
  unfold dropSpare
  simp [kept_at, kept_foldl]

@[simp] theorem withdrawSpare_kept (spare : Nat) (s : State) : kept (withdrawSpare spare s) = kept s := by
  unfold withdrawSpare
  simp [kept_at, kept_foldl]

@[simp] theorem useSpare_kept (spare : Nat) (n : Nat) (s : State) : kept (useSpare spare n s) = kept s := by
  unfold useSpare
  simp [kept_at, kept_foldl]

@[simp] theorem sliceFails_kept (n : Nat) (s : State) : kept (sliceFails n s) = kept s := by
  unfold sliceFails
  repeat' (first | with_reducible rfl | (simp [kept_at, kept_foldl]; done) | split | rw [kept_foldl] | intro _ | dsimp only | simp [kept_at, kept_foldl])

@[simp] theorem beginManual_kept (s : State) : kept (beginManual s) = kept s := by
  unfold beginManual
  repeat' (first | with_reducible rfl | (simp [kept_at, kept_foldl]; done) | split | rw [kept_foldl] | intro _ | dsimp only | simp [kept_at, kept_foldl])

@[simp] theorem execVariantChange_kept (s : State) : keptOut (execVariantChange s) = some (kept s) := by
  unfold execVariantChange
  repeat' (first | with_reducible rfl | (simp [kept_at, kept_foldl]; done) | split | rw [kept_foldl] | intro _ | dsimp only | simp [kept_at, kept_foldl])

@[simp] theorem countUntested_kept (taken : Option Nat) (s : State) : kept (countUntested taken s) = kept s := by
  unfold countUntested
  simp [kept_at, kept_foldl]

@[simp] theorem skilletOpportunity_kept (k : Nat) (directed : Bool) (s : State) : kept (skilletOpportunity k directed s) = kept s := by
  unfold skilletOpportunity
  simp [kept_at, kept_foldl]

@[simp] theorem flashOpportunity_kept (c : Nat) (chunkCrc : Nat) (s : State) : kept (flashOpportunity c chunkCrc s) = kept s := by
  unfold flashOpportunity
  simp [kept_at, kept_foldl]

@[simp] theorem noteOpportunity_kept (kind : Nat) (item : Nat) (s : State) : kept (noteOpportunity kind item s) = kept s := by
  unfold noteOpportunity
  simp [kept_at, kept_foldl]

@[simp] theorem opportunity_kept (chunkCrc : Nat) (s : State) : kept (opportunity chunkCrc s) = kept s := by
  unfold opportunity
  repeat' (first | with_reducible rfl | (simp [kept_at, kept_foldl]; done) | split | rw [kept_foldl] | intro _ | dsimp only | simp [kept_at, kept_foldl])

@[simp] theorem execKettleOpportunity_kept (chunkCrc : Nat) (s : State) : keptOut (execKettleOpportunity chunkCrc s) = some (kept s) := by
  unfold execKettleOpportunity
  simp [kept_at, kept_foldl]

@[simp] theorem spendInjected_kept (n : Nat) (s : State) : kept (spendInjected n s) = kept s := by
  unfold spendInjected
  simp [kept_at, kept_foldl]

@[simp] theorem countCorrected_kept (slice : Nat) (s : State) : kept (countCorrected slice s) = kept s := by
  unfold countCorrected
  simp [kept_at, kept_foldl]

@[simp] theorem endMarch_kept (n : Nat) (pass : Bool) (s : State) : kept (endMarch n pass s) = kept s := by
  unfold endMarch
  simp [kept_at, kept_foldl]

@[simp] theorem execSramMarchComplete_kept (pass : Bool) (s : State) : keptOut (execSramMarchComplete pass s) = some (kept s) := by
  unfold execSramMarchComplete
  repeat' (first | with_reducible rfl | (simp [kept_at, kept_foldl]; done) | split | rw [kept_foldl] | intro _ | dsimp only | simp [kept_at, kept_foldl])

@[simp] theorem returnSkillet_kept (s : State) : kept (returnSkillet s) = kept s := by
  unfold returnSkillet
  simp [kept_at, kept_foldl]

@[simp] theorem execSkilletTestVerdict_kept (pass : Bool) (s : State) : keptOut (execSkilletTestVerdict pass s) = some (kept s) := by
  unfold execSkilletTestVerdict
  repeat' (first | with_reducible rfl | (simp [kept_at, kept_foldl]; done) | split | rw [kept_foldl] | intro _ | dsimp only | simp [kept_at, kept_foldl])

@[simp] theorem execKnownAnswerFailure_kept (skillet : Nat) (s : State) : keptOut (execKnownAnswerFailure skillet s) = some (kept s) := by
  unfold execKnownAnswerFailure
  repeat' (first | with_reducible rfl | (simp [kept_at, kept_foldl]; done) | split | rw [kept_foldl] | intro _ | dsimp only | simp [kept_at, kept_foldl])

@[simp] theorem execSliceRetire_kept (s : State) : keptOut (execSliceRetire s) = some (kept s) := by
  unfold execSliceRetire
  repeat' (first | with_reducible rfl | (simp [kept_at, kept_foldl]; done) | split | rw [kept_foldl] | intro _ | dsimp only | simp [kept_at, kept_foldl])

@[simp] theorem execKettleSliceOverdue_kept (s : State) : keptOut (execKettleSliceOverdue s) = some (kept s) := by
  unfold execKettleSliceOverdue
  simp [kept_at, kept_foldl]

@[simp] theorem manualFault_kept (k : Nat) (s : State) : kept (manualFault k s).2 = kept s := by
  unfold manualFault
  simp [kept_at, kept_foldl]

@[simp] theorem manualOutcome_kept (code : Nat) (item : Nat) (pass : Bool) (s : State) : kept (manualOutcome code item pass s) = kept s := by
  unfold manualOutcome
  repeat' (first | with_reducible rfl | (simp [kept_at, kept_foldl]; done) | split | rw [kept_foldl] | intro _ | dsimp only | simp [kept_at, kept_foldl])

@[simp] theorem execManualActionComplete_kept (pass : Bool) (s : State) : keptOut (execManualActionComplete pass s) = some (kept s) := by
  unfold execManualActionComplete
  repeat' (first | with_reducible rfl | (simp [kept_at, kept_foldl]; done) | split | rw [kept_foldl] | intro _ | dsimp only | simp [kept_at, kept_foldl])

@[simp] theorem loseWord_kept (k : Nat) (s : State) : kept (loseWord k s) = kept s := by
  unfold loseWord
  simp [kept_at, kept_foldl]

@[simp] theorem execEccUncorrectable_kept (f : SramFault) (s : State) : keptOut (execEccUncorrectable f s) = some (kept s) := by
  unfold execEccUncorrectable
  simp [kept_at, kept_foldl]

@[simp] theorem execEccCorrected_kept (f : SramFault) (s : State) : keptOut (execEccCorrected f s) = some (kept s) := by
  unfold execEccCorrected
  simp [kept_at, kept_foldl]

@[simp] theorem execLockstepMismatch_kept (p : Processor) (s : State) : keptOut (execLockstepMismatch p s) = some (kept s) := by
  unfold execLockstepMismatch
  simp [kept_at, kept_foldl]

@[simp] theorem execWatchdogExpiry_kept (p : Processor) (s : State) : keptOut (execWatchdogExpiry p s) = some (kept s) := by
  unfold execWatchdogExpiry
  simp [kept_at, kept_foldl]

@[simp] theorem execOptimeSave_kept (s : State) : keptOut (execOptimeSave s) = some (kept s) := by
  unfold execOptimeSave
  simp [kept_at, kept_foldl]

@[simp] theorem finishDump_kept_mode (processorState : List Byte) (s : State) : (kept (finishDump processorState s)).mode = (kept s).mode := by
  unfold finishDump
  repeat' (first | with_reducible rfl | (simp [kept_mode_foldl, kept_at, kept_foldl]; done) | split | rw [kept_mode_foldl] | intro _ | dsimp only | simp [kept_mode_foldl, kept_at, kept_foldl])

@[simp] theorem finishDump_kept_unit (processorState : List Byte) (s : State) : (kept (finishDump processorState s)).unit = (kept s).unit := by
  unfold finishDump
  repeat' (first | with_reducible rfl | (simp [kept_unit_foldl, kept_at, kept_foldl]; done) | split | rw [kept_unit_foldl] | intro _ | dsimp only | simp [kept_unit_foldl, kept_at, kept_foldl])

@[simp] theorem finishDump_kept_cfg (processorState : List Byte) (s : State) : (kept (finishDump processorState s)).cfg = (kept s).cfg := by
  unfold finishDump
  repeat' (first | with_reducible rfl | (simp [kept_cfg_foldl, kept_at, kept_foldl]; done) | split | rw [kept_cfg_foldl] | intro _ | dsimp only | simp [kept_cfg_foldl, kept_at, kept_foldl])

@[simp] theorem finishDump_kept_life (processorState : List Byte) (s : State) : (kept (finishDump processorState s)).life = (kept s).life := by
  unfold finishDump
  repeat' (first | with_reducible rfl | (simp [kept_life_foldl, kept_at, kept_foldl]; done) | split | rw [kept_life_foldl] | intro _ | dsimp only | simp [kept_life_foldl, kept_at, kept_foldl])

@[simp] theorem finishDump_kept_records (processorState : List Byte) (s : State) : (kept (finishDump processorState s)).records = (kept s).records := by
  unfold finishDump
  repeat' (first | with_reducible rfl | (simp [kept_records_foldl, kept_at, kept_foldl]; done) | split | rw [kept_records_foldl] | intro _ | dsimp only | simp [kept_records_foldl, kept_at, kept_foldl])

@[simp] theorem finishDump_kept_full (processorState : List Byte) (s : State) : (kept (finishDump processorState s)).full = (kept s).full := by
  unfold finishDump
  repeat' (first | with_reducible rfl | (simp [kept_full_foldl, kept_at, kept_foldl]; done) | split | rw [kept_full_foldl] | intro _ | dsimp only | simp [kept_full_foldl, kept_at, kept_foldl])

@[simp] theorem finishDump_kept_staging (processorState : List Byte) (s : State) : (kept (finishDump processorState s)).staging = (kept s).staging := by
  unfold finishDump
  repeat' (first | with_reducible rfl | (simp [kept_staging_foldl, kept_at, kept_foldl]; done) | split | rw [kept_staging_foldl] | intro _ | dsimp only | simp [kept_staging_foldl, kept_at, kept_foldl])

@[simp] theorem finishDump_kept_frame (processorState : List Byte) (s : State) : (kept (finishDump processorState s)).frame = (kept s).frame := by
  unfold finishDump
  repeat' (first | with_reducible rfl | (simp [kept_frame_foldl, kept_at, kept_foldl]; done) | split | rw [kept_frame_foldl] | intro _ | dsimp only | simp [kept_frame_foldl, kept_at, kept_foldl])

@[simp] theorem finishDump_kept_bankA (processorState : List Byte) (s : State) : (kept (finishDump processorState s)).bankA = (kept s).bankA := by
  unfold finishDump
  repeat' (first | with_reducible rfl | (simp [kept_bankA_foldl, kept_at, kept_foldl]; done) | split | rw [kept_bankA_foldl] | intro _ | dsimp only | simp [kept_bankA_foldl, kept_at, kept_foldl])

@[simp] theorem finishDump_kept_bankB (processorState : List Byte) (s : State) : (kept (finishDump processorState s)).bankB = (kept s).bankB := by
  unfold finishDump
  repeat' (first | with_reducible rfl | (simp [kept_bankB_foldl, kept_at, kept_foldl]; done) | split | rw [kept_bankB_foldl] | intro _ | dsimp only | simp [kept_bankB_foldl, kept_at, kept_foldl])

@[simp] theorem finishDump_kept_pending (processorState : List Byte) (s : State) : (kept (finishDump processorState s)).pending = (kept s).pending := by
  unfold finishDump
  repeat' (first | with_reducible rfl | (simp [kept_pending_foldl, kept_at, kept_foldl]; done) | split | rw [kept_pending_foldl] | intro _ | dsimp only | simp [kept_pending_foldl, kept_at, kept_foldl])

@[simp] theorem rollBack_kept (code : Nat) (s : State) : kept (rollBack code s) = kept s := by
  unfold rollBack
  simp [kept_at, kept_foldl]

@[simp] theorem countStart_kept (s : State) : kept (countStart s) = kept s := by
  unfold countStart
  simp [kept_at, kept_foldl]

@[simp] theorem tryBanks_kept (x y : BankCheck) (l : List Side) (s : State) : kept (tryBanks x y l s).2 = kept s := by
  induction l generalizing s with
  | nil => rfl
  | cons b r ih =>
    unfold tryBanks
    split
    · exact ih s
    · split
      · rfl
      · rw [ih]; simp

theorem tryBanks_kept_of (x y : BankCheck) (l : List Side) (s t : State) (o : Option Side)
    (h : tryBanks x y l s = (o, t)) : kept t = kept s := by
  have := tryBanks_kept x y l s
  rwa [h] at this

@[simp] theorem writeRecovery_kept_mode (s : State) : (kept (writeRecovery s)).mode = (kept s).mode := by
  unfold writeRecovery
  simp [kept_mode_foldl, kept_at, kept_foldl]

@[simp] theorem writeRecovery_kept_unit (s : State) : (kept (writeRecovery s)).unit = (kept s).unit := by
  unfold writeRecovery
  simp [kept_unit_foldl, kept_at, kept_foldl]

@[simp] theorem writeRecovery_kept_cfg (s : State) : (kept (writeRecovery s)).cfg = (kept s).cfg := by
  unfold writeRecovery
  simp [kept_cfg_foldl, kept_at, kept_foldl]

@[simp] theorem writeRecovery_kept_life (s : State) : (kept (writeRecovery s)).life = (kept s).life := by
  unfold writeRecovery
  simp [kept_life_foldl, kept_at, kept_foldl]

@[simp] theorem writeRecovery_kept_dump (s : State) : (kept (writeRecovery s)).dump = (kept s).dump := by
  unfold writeRecovery
  simp [kept_dump_foldl, kept_at, kept_foldl]

@[simp] theorem writeRecovery_kept_records (s : State) : (kept (writeRecovery s)).records = (kept s).records := by
  unfold writeRecovery
  simp [kept_records_foldl, kept_at, kept_foldl]

@[simp] theorem writeRecovery_kept_full (s : State) : (kept (writeRecovery s)).full = (kept s).full := by
  unfold writeRecovery
  simp [kept_full_foldl, kept_at, kept_foldl]

@[simp] theorem writeRecovery_kept_staging (s : State) : (kept (writeRecovery s)).staging = (kept s).staging := by
  unfold writeRecovery
  simp [kept_staging_foldl, kept_at, kept_foldl]

@[simp] theorem writeRecovery_kept_bankA (s : State) : (kept (writeRecovery s)).bankA = (kept s).bankA := by
  unfold writeRecovery
  simp [kept_bankA_foldl, kept_at, kept_foldl]

@[simp] theorem writeRecovery_kept_bankB (s : State) : (kept (writeRecovery s)).bankB = (kept s).bankB := by
  unfold writeRecovery
  simp [kept_bankB_foldl, kept_at, kept_foldl]

@[simp] theorem writeRecovery_kept_pending (s : State) : (kept (writeRecovery s)).pending = (kept s).pending := by
  unfold writeRecovery
  simp [kept_pending_foldl, kept_at, kept_foldl]

@[simp] theorem startRecovery_kept_unit (s : State) : (kept (startRecovery s)).unit = (kept s).unit := by
  unfold startRecovery
  simp [kept_unit_foldl, kept_at, kept_foldl]

@[simp] theorem startRecovery_kept_cfg (s : State) : (kept (startRecovery s)).cfg = (kept s).cfg := by
  unfold startRecovery
  simp [kept_cfg_foldl, kept_at, kept_foldl]

@[simp] theorem startRecovery_kept_life (s : State) : (kept (startRecovery s)).life = (kept s).life := by
  unfold startRecovery
  simp [kept_life_foldl, kept_at, kept_foldl]

@[simp] theorem startRecovery_kept_dump (s : State) : (kept (startRecovery s)).dump = (kept s).dump := by
  unfold startRecovery
  simp [kept_dump_foldl, kept_at, kept_foldl]

@[simp] theorem startRecovery_kept_records (s : State) : (kept (startRecovery s)).records = (kept s).records := by
  unfold startRecovery
  simp [kept_records_foldl, kept_at, kept_foldl]

@[simp] theorem startRecovery_kept_full (s : State) : (kept (startRecovery s)).full = (kept s).full := by
  unfold startRecovery
  simp [kept_full_foldl, kept_at, kept_foldl]

@[simp] theorem startRecovery_kept_staging (s : State) : (kept (startRecovery s)).staging = (kept s).staging := by
  unfold startRecovery
  simp [kept_staging_foldl, kept_at, kept_foldl]

@[simp] theorem startRecovery_kept_bankA (s : State) : (kept (startRecovery s)).bankA = (kept s).bankA := by
  unfold startRecovery
  simp [kept_bankA_foldl, kept_at, kept_foldl]

@[simp] theorem startRecovery_kept_bankB (s : State) : (kept (startRecovery s)).bankB = (kept s).bankB := by
  unfold startRecovery
  simp [kept_bankB_foldl, kept_at, kept_foldl]

@[simp] theorem startRecovery_kept_pending (s : State) : (kept (startRecovery s)).pending = (kept s).pending := by
  unfold startRecovery
  simp [kept_pending_foldl, kept_at, kept_foldl]

@[simp] theorem startBank_kept_unit (b : Side) (selected : Side) (s : State) : (kept (startBank b selected s)).unit = (kept s).unit := by
  unfold startBank
  simp [kept_unit_foldl, kept_at, kept_foldl]

@[simp] theorem startBank_kept_cfg (b : Side) (selected : Side) (s : State) : (kept (startBank b selected s)).cfg = (kept s).cfg := by
  unfold startBank
  simp [kept_cfg_foldl, kept_at, kept_foldl]

@[simp] theorem startBank_kept_life (b : Side) (selected : Side) (s : State) : (kept (startBank b selected s)).life = (kept s).life := by
  unfold startBank
  simp [kept_life_foldl, kept_at, kept_foldl]

@[simp] theorem startBank_kept_dump (b : Side) (selected : Side) (s : State) : (kept (startBank b selected s)).dump = (kept s).dump := by
  unfold startBank
  simp [kept_dump_foldl, kept_at, kept_foldl]

@[simp] theorem startBank_kept_records (b : Side) (selected : Side) (s : State) : (kept (startBank b selected s)).records = (kept s).records := by
  unfold startBank
  simp [kept_records_foldl, kept_at, kept_foldl]

@[simp] theorem startBank_kept_full (b : Side) (selected : Side) (s : State) : (kept (startBank b selected s)).full = (kept s).full := by
  unfold startBank
  simp [kept_full_foldl, kept_at, kept_foldl]

@[simp] theorem startBank_kept_staging (b : Side) (selected : Side) (s : State) : (kept (startBank b selected s)).staging = (kept s).staging := by
  unfold startBank
  simp [kept_staging_foldl, kept_at, kept_foldl]

@[simp] theorem startBank_kept_frame (b : Side) (selected : Side) (s : State) : (kept (startBank b selected s)).frame = (kept s).frame := by
  unfold startBank
  simp [kept_frame_foldl, kept_at, kept_foldl]

@[simp] theorem startBank_kept_bankA (b : Side) (selected : Side) (s : State) : (kept (startBank b selected s)).bankA = (kept s).bankA := by
  unfold startBank
  simp [kept_bankA_foldl, kept_at, kept_foldl]

@[simp] theorem startBank_kept_bankB (b : Side) (selected : Side) (s : State) : (kept (startBank b selected s)).bankB = (kept s).bankB := by
  unfold startBank
  simp [kept_bankB_foldl, kept_at, kept_foldl]

@[simp] theorem startBank_kept_pending (b : Side) (selected : Side) (s : State) : (kept (startBank b selected s)).pending = (kept s).pending := by
  unfold startBank
  simp [kept_pending_foldl, kept_at, kept_foldl]

theorem execBootComplete_kept_unit (headerOk : Bool) (bankA bankB : BankCheck) (s t : State)
    (h : execBootComplete headerOk bankA bankB s = .next t) : (kept t).unit = (kept s).unit := by
  cases h
  dsimp only
  repeat' (first | with_reducible rfl | (simp [kept_at]; done) | split)
  all_goals rename_i h; simpa using congrArg Kept.unit (tryBanks_kept_of _ _ _ _ _ _ h)

theorem execBootComplete_kept_cfg (headerOk : Bool) (bankA bankB : BankCheck) (s t : State)
    (h : execBootComplete headerOk bankA bankB s = .next t) : (kept t).cfg = (kept s).cfg := by
  cases h
  dsimp only
  repeat' (first | with_reducible rfl | (simp [kept_at]; done) | split)
  all_goals rename_i h; simpa using congrArg Kept.cfg (tryBanks_kept_of _ _ _ _ _ _ h)

theorem execBootComplete_kept_life (headerOk : Bool) (bankA bankB : BankCheck) (s t : State)
    (h : execBootComplete headerOk bankA bankB s = .next t) : (kept t).life = (kept s).life := by
  cases h
  dsimp only
  repeat' (first | with_reducible rfl | (simp [kept_at]; done) | split)
  all_goals rename_i h; simpa using congrArg Kept.life (tryBanks_kept_of _ _ _ _ _ _ h)

theorem execBootComplete_kept_dump (headerOk : Bool) (bankA bankB : BankCheck) (s t : State)
    (h : execBootComplete headerOk bankA bankB s = .next t) : (kept t).dump = (kept s).dump := by
  cases h
  dsimp only
  repeat' (first | with_reducible rfl | (simp [kept_at]; done) | split)
  all_goals rename_i h; simpa using congrArg Kept.dump (tryBanks_kept_of _ _ _ _ _ _ h)

theorem execBootComplete_kept_records (headerOk : Bool) (bankA bankB : BankCheck) (s t : State)
    (h : execBootComplete headerOk bankA bankB s = .next t) : (kept t).records = (kept s).records := by
  cases h
  dsimp only
  repeat' (first | with_reducible rfl | (simp [kept_at]; done) | split)
  all_goals rename_i h; simpa using congrArg Kept.records (tryBanks_kept_of _ _ _ _ _ _ h)

theorem execBootComplete_kept_full (headerOk : Bool) (bankA bankB : BankCheck) (s t : State)
    (h : execBootComplete headerOk bankA bankB s = .next t) : (kept t).full = (kept s).full := by
  cases h
  dsimp only
  repeat' (first | with_reducible rfl | (simp [kept_at]; done) | split)
  all_goals rename_i h; simpa using congrArg Kept.full (tryBanks_kept_of _ _ _ _ _ _ h)

theorem execBootComplete_kept_staging (headerOk : Bool) (bankA bankB : BankCheck) (s t : State)
    (h : execBootComplete headerOk bankA bankB s = .next t) : (kept t).staging = (kept s).staging := by
  cases h
  dsimp only
  repeat' (first | with_reducible rfl | (simp [kept_at]; done) | split)
  all_goals rename_i h; simpa using congrArg Kept.staging (tryBanks_kept_of _ _ _ _ _ _ h)

theorem execBootComplete_kept_bankA (headerOk : Bool) (bankA bankB : BankCheck) (s t : State)
    (h : execBootComplete headerOk bankA bankB s = .next t) : (kept t).bankA = (kept s).bankA := by
  cases h
  dsimp only
  repeat' (first | with_reducible rfl | (simp [kept_at]; done) | split)
  all_goals rename_i h; simpa using congrArg Kept.bankA (tryBanks_kept_of _ _ _ _ _ _ h)

theorem execBootComplete_kept_bankB (headerOk : Bool) (bankA bankB : BankCheck) (s t : State)
    (h : execBootComplete headerOk bankA bankB s = .next t) : (kept t).bankB = (kept s).bankB := by
  cases h
  dsimp only
  repeat' (first | with_reducible rfl | (simp [kept_at]; done) | split)
  all_goals rename_i h; simpa using congrArg Kept.bankB (tryBanks_kept_of _ _ _ _ _ _ h)

theorem execBootComplete_kept_pending (headerOk : Bool) (bankA bankB : BankCheck) (s t : State)
    (h : execBootComplete headerOk bankA bankB s = .next t) : (kept t).pending = (kept s).pending := by
  cases h
  dsimp only
  repeat' (first | with_reducible rfl | (simp [kept_at]; done) | split)
  all_goals rename_i h; simpa using congrArg Kept.pending (tryBanks_kept_of _ _ _ _ _ _ h)

@[simp] theorem acceptKey_kept_mode (k : KeyRead) (s : State) : (kept (acceptKey k s)).mode = (kept s).mode := by
  unfold acceptKey
  simp [kept_mode_foldl, kept_at, kept_foldl]

@[simp] theorem acceptKey_kept_unit (k : KeyRead) (s : State) : (kept (acceptKey k s)).unit = (kept s).unit := by
  unfold acceptKey
  simp [kept_unit_foldl, kept_at, kept_foldl]

@[simp] theorem acceptKey_kept_life (k : KeyRead) (s : State) : (kept (acceptKey k s)).life = (kept s).life := by
  unfold acceptKey
  simp [kept_life_foldl, kept_at, kept_foldl]

@[simp] theorem acceptKey_kept_dump (k : KeyRead) (s : State) : (kept (acceptKey k s)).dump = (kept s).dump := by
  unfold acceptKey
  simp [kept_dump_foldl, kept_at, kept_foldl]

@[simp] theorem acceptKey_kept_records (k : KeyRead) (s : State) : (kept (acceptKey k s)).records = (kept s).records := by
  unfold acceptKey
  simp [kept_records_foldl, kept_at, kept_foldl]

@[simp] theorem acceptKey_kept_full (k : KeyRead) (s : State) : (kept (acceptKey k s)).full = (kept s).full := by
  unfold acceptKey
  simp [kept_full_foldl, kept_at, kept_foldl]

@[simp] theorem acceptKey_kept_staging (k : KeyRead) (s : State) : (kept (acceptKey k s)).staging = (kept s).staging := by
  unfold acceptKey
  simp [kept_staging_foldl, kept_at, kept_foldl]

@[simp] theorem acceptKey_kept_frame (k : KeyRead) (s : State) : (kept (acceptKey k s)).frame = (kept s).frame := by
  unfold acceptKey
  simp [kept_frame_foldl, kept_at, kept_foldl]

@[simp] theorem acceptKey_kept_bankA (k : KeyRead) (s : State) : (kept (acceptKey k s)).bankA = (kept s).bankA := by
  unfold acceptKey
  simp [kept_bankA_foldl, kept_at, kept_foldl]

@[simp] theorem acceptKey_kept_bankB (k : KeyRead) (s : State) : (kept (acceptKey k s)).bankB = (kept s).bankB := by
  unfold acceptKey
  simp [kept_bankB_foldl, kept_at, kept_foldl]

@[simp] theorem acceptKey_kept_pending (k : KeyRead) (s : State) : (kept (acceptKey k s)).pending = (kept s).pending := by
  unfold acceptKey
  simp [kept_pending_foldl, kept_at, kept_foldl]

@[simp] theorem refuseKey_kept_unit (code : Nat) (s : State) : (kept (refuseKey code s)).unit = (kept s).unit := by
  unfold refuseKey
  simp [kept_unit_foldl, kept_at, kept_foldl]

@[simp] theorem refuseKey_kept_life (code : Nat) (s : State) : (kept (refuseKey code s)).life = (kept s).life := by
  unfold refuseKey
  simp [kept_life_foldl, kept_at, kept_foldl]

@[simp] theorem refuseKey_kept_dump (code : Nat) (s : State) : (kept (refuseKey code s)).dump = (kept s).dump := by
  unfold refuseKey
  simp [kept_dump_foldl, kept_at, kept_foldl]

@[simp] theorem refuseKey_kept_records (code : Nat) (s : State) : (kept (refuseKey code s)).records = (kept s).records := by
  unfold refuseKey
  simp [kept_records_foldl, kept_at, kept_foldl]

@[simp] theorem refuseKey_kept_full (code : Nat) (s : State) : (kept (refuseKey code s)).full = (kept s).full := by
  unfold refuseKey
  simp [kept_full_foldl, kept_at, kept_foldl]

@[simp] theorem refuseKey_kept_staging (code : Nat) (s : State) : (kept (refuseKey code s)).staging = (kept s).staging := by
  unfold refuseKey
  simp [kept_staging_foldl, kept_at, kept_foldl]

@[simp] theorem refuseKey_kept_frame (code : Nat) (s : State) : (kept (refuseKey code s)).frame = (kept s).frame := by
  unfold refuseKey
  simp [kept_frame_foldl, kept_at, kept_foldl]

@[simp] theorem refuseKey_kept_bankA (code : Nat) (s : State) : (kept (refuseKey code s)).bankA = (kept s).bankA := by
  unfold refuseKey
  simp [kept_bankA_foldl, kept_at, kept_foldl]

@[simp] theorem refuseKey_kept_bankB (code : Nat) (s : State) : (kept (refuseKey code s)).bankB = (kept s).bankB := by
  unfold refuseKey
  simp [kept_bankB_foldl, kept_at, kept_foldl]

@[simp] theorem refuseKey_kept_pending (code : Nat) (s : State) : (kept (refuseKey code s)).pending = (kept s).pending := by
  unfold refuseKey
  simp [kept_pending_foldl, kept_at, kept_foldl]

@[simp] theorem setUpBlocks_kept (s : State) : kept (setUpBlocks s) = kept s := by
  unfold setUpBlocks
  simp [kept_at, kept_foldl]

@[simp] theorem finishTongs_kept (t1 : Bool) (t2 : Bool) (s : State) : kept (finishTongs t1 t2 s) = kept s := by
  unfold finishTongs
  simp [kept_at, kept_foldl]

@[simp] theorem finishStations_kept (s1 : Bool) (s2 : Bool) (s : State) : kept (finishStations s1 s2 s) = kept s := by
  unfold finishStations
  simp [kept_at, kept_foldl]

@[simp] theorem startSkillet_kept (s : State) (k : Nat) : kept (startSkillet s k) = kept s := by
  unfold startSkillet
  simp [kept_at, kept_foldl]

@[simp] theorem startSlice_kept (x : State × Bool) (n : Nat) : kept (startSlice x n).1 = kept x.1 := by
  unfold startSlice
  repeat' (first | with_reducible rfl | (simp [kept_at, kept_foldl]; done) | split | rw [kept_foldl] | intro _ | dsimp only | simp [kept_at, kept_foldl])

@[simp] theorem dropFailedMarks_kept (s : State) : kept (dropFailedMarks s) = kept s := by
  unfold dropFailedMarks
  simp [kept_at, kept_foldl]

@[simp] theorem startChannel_kept (s : State) (c : Nat × Nat) : kept (startChannel s c) = kept s := by
  unfold startChannel
  simp [kept_at, kept_foldl]

theorem foldl_fst_kept {α : Type} (g : State × Bool → α → State × Bool) (h : ∀ x n, kept (g x n).1 = kept x.1) (l : List α)
    (x : State × Bool) : kept (l.foldl g x).1 = kept x.1 := by
  induction l generalizing x with
  | nil => rfl
  | cons a r ih => rw [List.foldl_cons, ih, h]

@[simp] theorem testOutcome_kept (f : SelfTestFindings) (s : State) : kept (testOutcome f s).1 = kept s := by
  simp [testOutcome, kept_at, kept_foldl, foldl_fst_kept]

@[simp] theorem enterStandby_kept_unit (s : State) : (kept (enterStandby s)).unit = (kept s).unit := by
  unfold enterStandby
  simp [kept_unit_foldl, kept_at, kept_foldl]

@[simp] theorem enterStandby_kept_cfg (s : State) : (kept (enterStandby s)).cfg = (kept s).cfg := by
  unfold enterStandby
  simp [kept_cfg_foldl, kept_at, kept_foldl]

@[simp] theorem enterStandby_kept_life (s : State) : (kept (enterStandby s)).life = (kept s).life := by
  unfold enterStandby
  simp [kept_life_foldl, kept_at, kept_foldl]

@[simp] theorem enterStandby_kept_dump (s : State) : (kept (enterStandby s)).dump = (kept s).dump := by
  unfold enterStandby
  simp [kept_dump_foldl, kept_at, kept_foldl]

@[simp] theorem enterStandby_kept_records (s : State) : (kept (enterStandby s)).records = (kept s).records := by
  unfold enterStandby
  simp [kept_records_foldl, kept_at, kept_foldl]

@[simp] theorem enterStandby_kept_full (s : State) : (kept (enterStandby s)).full = (kept s).full := by
  unfold enterStandby
  simp [kept_full_foldl, kept_at, kept_foldl]

@[simp] theorem enterStandby_kept_staging (s : State) : (kept (enterStandby s)).staging = (kept s).staging := by
  unfold enterStandby
  simp [kept_staging_foldl, kept_at, kept_foldl]

@[simp] theorem enterStandby_kept_frame (s : State) : (kept (enterStandby s)).frame = (kept s).frame := by
  unfold enterStandby
  simp [kept_frame_foldl, kept_at, kept_foldl]

@[simp] theorem enterStandby_kept_bankA (s : State) : (kept (enterStandby s)).bankA = (kept s).bankA := by
  unfold enterStandby
  simp [kept_bankA_foldl, kept_at, kept_foldl]

@[simp] theorem enterStandby_kept_bankB (s : State) : (kept (enterStandby s)).bankB = (kept s).bankB := by
  unfold enterStandby
  simp [kept_bankB_foldl, kept_at, kept_foldl]

@[simp] theorem enterStandby_kept_pending (s : State) : (kept (enterStandby s)).pending = (kept s).pending := by
  unfold enterStandby
  simp [kept_pending_foldl, kept_at, kept_foldl]

@[simp] theorem finishVerify_kept (s : State) : kept (finishVerify s) = kept s := by
  unfold finishVerify
  simp [kept_at, kept_foldl]

@[simp] theorem execStagingVerifyComplete_kept (s : State) : keptOut (execStagingVerifyComplete s) = some (kept s) := by
  unfold execStagingVerifyComplete
  simp [kept_at, kept_foldl]

@[simp] theorem finishCopy_kept_unit (s : State) : (kept (finishCopy s)).unit = (kept s).unit := by
  unfold finishCopy
  simp [kept_unit_foldl, kept_at, kept_foldl]

@[simp] theorem finishCopy_kept_staging (s : State) : (kept (finishCopy s)).staging = (kept s).staging := by
  unfold finishCopy
  simp [kept_staging_foldl, kept_at, kept_foldl]

@[simp] theorem finishCopy_kept_pending (s : State) : (kept (finishCopy s)).pending = (kept s).pending := by
  unfold finishCopy
  simp [kept_pending_foldl, kept_at, kept_foldl]

@[simp] theorem answerRecovery_kept (op : Nat) (r : RecReq) (status : Nat) (s : State) : kept (answerRecovery op r status s) = kept s := by
  unfold answerRecovery
  simp [kept_at, kept_foldl]

theorem recoveryRequest_kept_mode (op : Nat) (r : RecReq) (act : State → State) (s : State) (h0 : ∀ s, (kept (act s)).mode = (kept s).mode) :
    (kept (recoveryRequest op r act s)).mode = (kept s).mode := by
  unfold recoveryRequest
  repeat' (first | with_reducible rfl | (simp [kept_at, h0]; done) | split)

theorem recoveryRequest_kept_unit (op : Nat) (r : RecReq) (act : State → State) (s : State) (h0 : ∀ s, (kept (act s)).unit = (kept s).unit) :
    (kept (recoveryRequest op r act s)).unit = (kept s).unit := by
  unfold recoveryRequest
  repeat' (first | with_reducible rfl | (simp [kept_at, h0]; done) | split)

theorem recoveryRequest_kept_cfg (op : Nat) (r : RecReq) (act : State → State) (s : State) (h0 : ∀ s, (kept (act s)).cfg = (kept s).cfg) :
    (kept (recoveryRequest op r act s)).cfg = (kept s).cfg := by
  unfold recoveryRequest
  repeat' (first | with_reducible rfl | (simp [kept_at, h0]; done) | split)

theorem recoveryRequest_kept_life (op : Nat) (r : RecReq) (act : State → State) (s : State) (h0 : ∀ s, (kept (act s)).life = (kept s).life) :
    (kept (recoveryRequest op r act s)).life = (kept s).life := by
  unfold recoveryRequest
  repeat' (first | with_reducible rfl | (simp [kept_at, h0]; done) | split)

theorem recoveryRequest_kept_dump (op : Nat) (r : RecReq) (act : State → State) (s : State) (h0 : ∀ s, (kept (act s)).dump = (kept s).dump) :
    (kept (recoveryRequest op r act s)).dump = (kept s).dump := by
  unfold recoveryRequest
  repeat' (first | with_reducible rfl | (simp [kept_at, h0]; done) | split)

theorem recoveryRequest_kept_records (op : Nat) (r : RecReq) (act : State → State) (s : State) (h0 : ∀ s, (kept (act s)).records = (kept s).records) :
    (kept (recoveryRequest op r act s)).records = (kept s).records := by
  unfold recoveryRequest
  repeat' (first | with_reducible rfl | (simp [kept_at, h0]; done) | split)

theorem recoveryRequest_kept_full (op : Nat) (r : RecReq) (act : State → State) (s : State) (h0 : ∀ s, (kept (act s)).full = (kept s).full) :
    (kept (recoveryRequest op r act s)).full = (kept s).full := by
  unfold recoveryRequest
  repeat' (first | with_reducible rfl | (simp [kept_at, h0]; done) | split)

theorem recoveryRequest_kept_staging (op : Nat) (r : RecReq) (act : State → State) (s : State) (h0 : ∀ s, (kept (act s)).staging = (kept s).staging) :
    (kept (recoveryRequest op r act s)).staging = (kept s).staging := by
  unfold recoveryRequest
  repeat' (first | with_reducible rfl | (simp [kept_at, h0]; done) | split)

theorem recoveryRequest_kept_frame (op : Nat) (r : RecReq) (act : State → State) (s : State) (h0 : ∀ s, (kept (act s)).frame = (kept s).frame) :
    (kept (recoveryRequest op r act s)).frame = (kept s).frame := by
  unfold recoveryRequest
  repeat' (first | with_reducible rfl | (simp [kept_at, h0]; done) | split)

theorem recoveryRequest_kept_bankA (op : Nat) (r : RecReq) (act : State → State) (s : State) (h0 : ∀ s, (kept (act s)).bankA = (kept s).bankA) :
    (kept (recoveryRequest op r act s)).bankA = (kept s).bankA := by
  unfold recoveryRequest
  repeat' (first | with_reducible rfl | (simp [kept_at, h0]; done) | split)

theorem recoveryRequest_kept_bankB (op : Nat) (r : RecReq) (act : State → State) (s : State) (h0 : ∀ s, (kept (act s)).bankB = (kept s).bankB) :
    (kept (recoveryRequest op r act s)).bankB = (kept s).bankB := by
  unfold recoveryRequest
  repeat' (first | with_reducible rfl | (simp [kept_at, h0]; done) | split)

theorem recoveryRequest_kept_pending (op : Nat) (r : RecReq) (act : State → State) (s : State) (h0 : ∀ s, (kept (act s)).pending = (kept s).pending) :
    (kept (recoveryRequest op r act s)).pending = (kept s).pending := by
  unfold recoveryRequest
  repeat' (first | with_reducible rfl | (simp [kept_at, h0]; done) | split)

@[simp] theorem recoveryRequest_kept (op : Nat) (r : RecReq) (act : State → State) (s : State) (h0 : ∀ s, kept (act s) = kept s) : kept (recoveryRequest op r act s) = kept s := by
  unfold recoveryRequest
  simp [h0, kept_at, kept_foldl]

@[simp] theorem execRecoveryVerify_kept (r : RecReq) (s : State) : keptOut (execRecoveryVerify r s) = some (kept s) := by
  unfold execRecoveryVerify
  simp [kept_at, kept_foldl]

@[simp] theorem decidePort_kept (p : Side) (silent : Bool) (s : State) : kept (decidePort p silent s) = kept s := by
  unfold decidePort
  repeat' (first | with_reducible rfl | (simp [kept_at, kept_foldl]; done) | split | rw [kept_foldl] | intro _ | dsimp only | simp [kept_at, kept_foldl])

@[simp] theorem decidePorts_kept (p : Side) (silent : Bool) (s : State) : kept (decidePorts p silent s) = kept s := by
  unfold decidePorts
  simp [kept_at, kept_foldl]

@[simp] theorem takeFollowUp_kept (p : Side) (h : PtpHeader) (origin : Nat) (s : State) : kept (takeFollowUp p h origin s) = kept s := by
  unfold takeFollowUp
  repeat' (first | with_reducible rfl | (simp [kept_at, kept_foldl]; done) | split | rw [kept_foldl] | intro _ | dsimp only | simp [kept_at, kept_foldl])

theorem claimStamp_kept (i n : Nat) (s t : State) (h : claimStamp i s = some (n, t)) : kept t = kept s := by
  unfold claimStamp at h
  split at h
  · cases h; rfl
  · cases h

@[simp] theorem takeDelayResp_kept (p : Side) (h : PtpHeader) (rxTime requester : Nat) (s : State) :
    kept (takeDelayResp p h rxTime requester s) = kept s := by
  unfold takeDelayResp
  dsimp only
  repeat' (first | with_reducible rfl | (simp [kept_at]; done) | split)
  rename_i h
  simpa [kept_at] using claimStamp_kept _ _ _ _ h

@[simp] theorem stationRx_kept (p : Side) (h : PtpHeader) (body : PtpBody) (s : State) : kept (stationRx p h body s) = kept s := by
  unfold stationRx
  repeat' (first | with_reducible rfl | (simp [kept_at, kept_foldl]; done) | split | rw [kept_foldl] | intro _ | dsimp only | simp [kept_at, kept_foldl])

@[simp] theorem modRingPtp_kept (p : Side) (f : RingPtp → RingPtp) (s : State) : kept (modRingPtp p f s) = kept s := by
  unfold modRingPtp
  simp [kept_at, kept_foldl]

@[simp] theorem takePeerDelay_kept (p : Side) (h : PtpHeader) (t3 requester : Nat) (s : State) :
    kept (takePeerDelay p h t3 requester s) = kept s := by
  unfold takePeerDelay
  dsimp only
  repeat' (first | with_reducible rfl | (simp [kept_at]; done) | split)
  rename_i h
  simpa [kept_at] using claimStamp_kept _ _ _ _ h

@[simp] theorem ringRx_kept (p : Side) (h : PtpHeader) (body : PtpBody) (s : State) : kept (ringRx p h body s) = kept s := by
  unfold ringRx
  repeat' (first | with_reducible rfl | (simp [kept_at, kept_foldl]; done) | split | rw [kept_foldl] | intro _ | dsimp only | simp [kept_at, kept_foldl])

@[simp] theorem execPtpMessageRx_kept (p : Side) (ring : Bool) (h : PtpHeader) (body : PtpBody) (s : State) : keptOut (execPtpMessageRx p ring h body s) = some (kept s) := by
  unfold execPtpMessageRx
  simp [kept_at, kept_foldl]

@[simp] theorem stationSend_kept (p : Side) (kind seq : Nat) (s : State) : kept (stationSend p kind seq s) = kept s := by
  unfold stationSend
  dsimp only
  repeat' (first | with_reducible rfl | (simp [kept_at]; done) | split)
  all_goals simpa [kept_at] using claimStamp_kept _ _ _ _ ‹_›

@[simp] theorem ringSend_kept (p : Side) (kind seq : Nat) (s : State) : kept (ringSend p kind seq s) = kept s := by
  unfold ringSend
  dsimp only
  repeat' (first | with_reducible rfl | (simp [kept_at]; done) | split)
  all_goals rename_i h; simpa [kept_at, modRingPtp] using claimStamp_kept _ _ _ _ h

@[simp] theorem execPtpMessageSend_kept (p : Side) (ring : Bool) (kind : Nat) (seq : Nat) (s : State) : keptOut (execPtpMessageSend p ring kind seq s) = some (kept s) := by
  unfold execPtpMessageSend
  simp [kept_at, kept_foldl]

@[simp] theorem execAnnounceReceiptTimeout_kept (p : Side) (s : State) : keptOut (execAnnounceReceiptTimeout p s) = some (kept s) := by
  unfold execAnnounceReceiptTimeout
  simp [kept_at, kept_foldl]

@[simp] theorem execTxStamp_kept (ident : Nat) (tick : Int) (s : State) : keptOut (execTxStamp ident tick s) = some (kept s) := by
  unfold execTxStamp
  simp [kept_at, kept_foldl]

@[simp] theorem execTxStampExpiry_kept (s : State) : keptOut (execTxStampExpiry s) = some (kept s) := by
  unfold execTxStampExpiry
  simp [kept_at, kept_foldl]

end Sys2Proof.Machine
end

