-- ==== Sys2Proof/Laws/Memory.lean ====
section
/-! SUPPORT. The canonical form of addressed octets: what it says, that every write keeps it, and what a read gives after a
write. -/

namespace Sys2Proof.Machine

/-- The canonical form: addresses rise and no entry holds the unlisted value. -/
theorem Memory.wf_iff (d : Byte) (m : List (Nat × Byte)) :
    Memory.wf d m = true ↔ (∀ p ∈ m, p.2 ≠ d) ∧ m.Pairwise (fun p q => p.1 < q.1) := by
  induction m with
  | nil => simp [Memory.wf]
  | cons p r ih =>
    obtain ⟨a, v⟩ := p
    cases r with
    | nil => simp [Memory.wf]
    | cons q t =>
      obtain ⟨b, w⟩ := q
      have step : Memory.wf d ((a, v) :: (b, w) :: t) = (v != d && decide (a < b) && Memory.wf d ((b, w) :: t)) := by
        rw [Memory.wf]
      rw [step, Bool.and_eq_true, Bool.and_eq_true, ih]
      constructor
      · rintro ⟨⟨hv, hab⟩, hne, hp⟩
        have hab : a < b := by simpa using hab
        refine ⟨?_, List.pairwise_cons.2 ⟨?_, hp⟩⟩
        · intro p hp'
          rcases List.mem_cons.1 hp' with rfl | h
          · simpa using hv
          · exact hne p h
        · intro q hq
          rcases List.mem_cons.1 hq with rfl | h
          · exact hab
          · exact hab.trans ((List.pairwise_cons.1 hp).1 q h)
      · rintro ⟨hne, hp⟩
        obtain ⟨h1, h2⟩ := List.pairwise_cons.1 hp
        refine ⟨⟨?_, ?_⟩, fun p hp' => hne p (List.mem_cons_of_mem _ hp'), h2⟩
        · simpa using hne (a, v) (List.mem_cons_self ..)
        · simpa using h1 (b, w) (List.mem_cons_self ..)

/-- An empty memory is canonical. -/
theorem Memory.wf_nil (d : Byte) : Memory.wf d [] = true := by rw [Memory.wf]

/-- Addresses of a written memory: those before and the one written. -/
theorem memWrite_mem (d : Byte) (a : Nat) (v : Byte) (m : List (Nat × Byte)) (p : Nat × Byte)
    (h : p ∈ memWrite d a v m) : p ∈ m ∨ (p = (a, v) ∧ v ≠ d) := by
  induction m with
  | nil =>
    simp only [memWrite] at h
    split at h <;> simp_all
  | cons q r ih =>
    obtain ⟨b, w⟩ := q
    simp only [memWrite] at h
    split at h
    · split at h <;> simp_all
      tauto
    · split at h
      · split at h <;> simp_all
        tauto
      · rcases List.mem_cons.1 h with rfl | h
        · simp
        · rcases ih h with h | h
          · exact .inl (List.mem_cons_of_mem _ h)
          · exact .inr h

/-- A write keeps the canonical form. -/
theorem memWrite_wf (d : Byte) (a : Nat) (v : Byte) (m : List (Nat × Byte)) (h : Memory.wf d m = true) :
    Memory.wf d (memWrite d a v m) = true := by
  rw [Memory.wf_iff] at h ⊢
  obtain ⟨hne, hp⟩ := h
  refine ⟨fun p hp' => ?_, ?_⟩
  · rcases memWrite_mem d a v m p hp' with h | ⟨rfl, h⟩
    · exact hne p h
    · exact h
  · clear hne
    induction m with
    | nil => simp only [memWrite]; split <;> simp
    | cons q r ih =>
      obtain ⟨b, w⟩ := q
      obtain ⟨h1, h2⟩ := List.pairwise_cons.1 hp
      simp only [memWrite]
      split
      · rename_i hab
        split
        · exact hp
        · refine List.pairwise_cons.2 ⟨fun q hq => ?_, hp⟩
          rcases List.mem_cons.1 hq with rfl | h
          · exact hab
          · exact hab.trans (h1 q h)
      · rename_i hab
        split
        · rename_i hEq
          split
          · exact h2
          · exact List.pairwise_cons.2 ⟨fun q hq => hEq ▸ h1 q hq, h2⟩
        · rename_i hEq
          refine List.pairwise_cons.2 ⟨fun q hq => ?_, ih h2⟩
          rcases memWrite_mem d a v r q hq with h | ⟨rfl, -⟩
          · exact h1 q h
          · exact lt_of_le_of_ne (not_lt.1 hab) (fun e => hEq e.symm)

/-- Writes keep the canonical form. -/
theorem memWrites_wf (d : Byte) (l : List Byte) : ∀ (a : Nat) (m : List (Nat × Byte)),
    Memory.wf d m = true → Memory.wf d (memWrites d a l m) = true := by
  induction l with
  | nil => intro a m h; simpa [memWrites] using h
  | cons v r ih => intro a m h; simpa [memWrites] using ih (a + 1) _ (memWrite_wf d a v m h)

/-- Leaving out entries keeps the canonical form. -/
theorem Memory.wf_filter (d : Byte) (f : Nat × Byte → Bool) (m : List (Nat × Byte)) (h : Memory.wf d m = true) :
    Memory.wf d (m.filter f) = true := by
  rw [Memory.wf_iff] at h ⊢
  exact ⟨fun p hp => h.1 p (List.mem_of_mem_filter hp), h.2.filter _⟩

/-- An address below every entry is unlisted. -/
theorem lookupNat_below (a : Nat) (m : List (Nat × Byte)) (h : ∀ p ∈ m, a < p.1) : lookupNat a m = none := by
  induction m with
  | nil => rfl
  | cons q r ih =>
    obtain ⟨b, w⟩ := q
    have hb : a < b := h (b, w) (List.mem_cons_self ..)
    have hr : ∀ p ∈ r, a < p.1 := fun p hp => h p (List.mem_cons_of_mem _ hp)
    rw [lookupNat, if_neg (by omega), ih hr]

/-- Reading the address written gives the value written. -/
theorem memRead_write_same (d : Byte) (a : Nat) (v : Byte) (m : List (Nat × Byte)) (h : Memory.wf d m = true) :
    memRead d (memWrite d a v m) a = v := by
  rw [Memory.wf_iff] at h
  obtain ⟨-, hp⟩ := h
  induction m with
  | nil => simp only [memWrite]; split <;> simp_all [memRead, lookupNat]
  | cons q r ih =>
    obtain ⟨b, w⟩ := q
    obtain ⟨h1, h2⟩ := List.pairwise_cons.1 hp
    simp only [memWrite]
    split
    · rename_i hab
      split
      · rename_i hv
        have : lookupNat a ((b, w) :: r) = none := lookupNat_below a _ (by
          intro p hp'
          rcases List.mem_cons.1 hp' with rfl | h
          · exact hab
          · exact hab.trans (h1 p h))
        simp [memRead, this, hv]
      · simp [memRead, lookupNat]
    · split
      · rename_i hEq
        split
        · rename_i hv
          have : lookupNat a r = none := lookupNat_below a _ (fun p hp' => hEq ▸ h1 p hp')
          simp [memRead, this, hv]
        · simp [memRead, lookupNat]
      · rename_i hEq
        have := ih h2
        simpa [memRead, lookupNat, Ne.symm hEq] using this

/-- A write leaves every other address as it was. -/
theorem memRead_write_other (d : Byte) (a b : Nat) (v : Byte) (m : List (Nat × Byte)) (hab : b ≠ a) :
    memRead d (memWrite d a v m) b = memRead d m b := by
  induction m with
  | nil => simp only [memWrite]; split <;> simp [memRead, lookupNat, Ne.symm hab]
  | cons q r ih =>
    obtain ⟨c, w⟩ := q
    simp only [memWrite]
    split
    · split
      · rfl
      · simp [memRead, lookupNat, Ne.symm hab]
    · split
      · rename_i hEq
        subst hEq
        split <;> simp [memRead, lookupNat, Ne.symm hab]
      · by_cases hc : c = b
        · simp [memRead, lookupNat, hc]
        · simpa [memRead, lookupNat, hc] using ih

/-- Writes from an address on leave every address outside them as it was. -/
theorem memRead_writes_other (d : Byte) (l : List Byte) : ∀ (a b : Nat) (m : List (Nat × Byte)),
    (b < a ∨ a + l.length ≤ b) → memRead d (memWrites d a l m) b = memRead d m b := by
  induction l with
  | nil => intro a b m _; rfl
  | cons v r ih =>
    intro a b m h
    simp only [List.length_cons] at h
    rw [memWrites, ih (a + 1) b _ (by omega), memRead_write_other d a b v m (by omega)]

end Sys2Proof.Machine
end

