-- ==== Sys2Proof/Tests/Slice0.lean ====
section
/-! SUPPORT. Tests: states that meet the hypotheses of the statements, worked examples of the manual, and one ill-formed command for
each check of well-formedness. -/

namespace Sys2Proof.Machine.Tests

open Sys2Proof Sys2Proof.Machine

/-! ## Small states -/

/-- A small image of a single unit, and of a pair: one azimuth thruster on channel 0, an emergency-stop pair, a CAN message, a serial
source, PTP on STN_1. -/
def image : Image :=
  { units := [{ rated := 1000, slt := some 900, channel := some 0, source := 0x20 }]
    berths := [{}]
    pairTypes := [1]
    estopMap := [[0]]
    secLimits := [1000]
    buses := [1]
    messages := [{ primary := 1 }]
    canSources := [{ ident := ⟨0x100, false⟩, source := 0x30 }]
    serial := [{ source := 0x40, port := 1 }]
    chains := [{ mode := 1, current := true }]
    ptpRole := [2, 0]
    offPulse := [0]
    refs := [{ source := 0x50 }]
    patterns := [] }

def pairImage : Image := { image with single := false }

/-- A single unit in STANDBY. -/
def single : State := { um := { mode := .standby }, cfg := { valid := true, image } }

/-- A unit of a pair in STANDBY, active or standby, with the relay open. -/
def active : State :=
  { um := { mode := .standby, role := .active }, cfg := { valid := true, image := pairImage }, rng := { relayOpen := true } }

def standby : State := { active with um := { mode := .standby, role := .standby, unit := .b } }

/-- A unit in ACTIVE. -/
def inActive : State := { active with um := { active.um with mode := .active }, mir := { mode := { pairMode := .active } } }

/-- A unit in a mode of its own, without an image. -/
def inMode (m : Mode) : State := { um := { mode := m } }

/-- A unit that is held in reset by nothing any more, by the supply supervisor, by the clock monitor, by both. -/
def inReset : State := { um := { inReset := true } }
def supplyHeld : State := { inReset with sup := { supplyHolds := true } }
def monitorHeld : State := { inReset with sup := { monitorHolds := true } }
def bothHeld : State := { inReset with sup := { monitorHolds := true, supplyHolds := true } }

/-- Each release starts a unit. -/
theorem starts_each : starts .power inReset ∧ starts (.supply 3789 50) supplyHeld ∧ starts (.monitor 7) monitorHeld :=
  ⟨trivial, by unfold starts; decide, by unfold starts; decide⟩

/-! ## Hypotheses of the statements -/

theorem witness_StepRunsFrontCommand : ({ single with pending := [.svcLinkUp] } : State).pending = .svcLinkUp :: [] := rfl

theorem witness_EmptyQueueIdles : single.pending = [] := rfl

theorem witness_ResetLeavesBootAndTheResetColumns :
    (starts .power inReset ∧ starts (.supply 3789 50) supplyHeld ∧ starts (.monitor 7) monitorHeld) ∧
    (0x80011C, (0x4040 : Word)) ∈ resetColumns ∧ (127 : Nat) < 128 := ⟨starts_each, by decide, by decide⟩

theorem witness_EveryStepKeepsInvariant :
    (memoryOk State.reset = true ∧ State.reset.log.full = false ∧ State.reset.log.records.length ≤ lastIndex) ∧
    step State.reset = .next State.reset := ⟨by decide, rfl⟩

theorem witness_OnlyModeCommandsChangeTheMode :
    mayChangeMode .svcLinkUp = false ∧ (∃ t, exec .svcLinkUp single = .next t ∧ t.um.mode = .standby) :=
  ⟨by decide, _, rfl, by decide⟩

theorem witness_EveryModeChangeIsListed :
    (∃ t, exec .holdEntry { single with ex := { holdDue := some 4 } } = .next t ∧ t.um.mode = .hold) ∧ (∀ b, Instr.holdEntry ≠ .inputCommit b) :=
  ⟨⟨_, rfl, by decide⟩, fun _ h => Instr.noConfusion h⟩

theorem witness_ImageAndStrapChangeOnlyAtStart :
    (∃ t, exec (.resetRelease .power true false) single = .next t ∧ t.cfg ≠ single.cfg) ∧
    (∃ t, exec (.resetRelease .power true false) single = .next t ∧ t.um.unit ≠ single.um.unit) :=
  ⟨⟨_, rfl, by decide⟩, ⟨_, rfl, by decide⟩⟩

theorem witness_ResetReleaseStartsTheUnit :
    (starts .power single ∧ countersBad single = false ∧ single.evt.mramBad.contains .lifeCycle = false) ∧
    (starts (.supply 3789 50) supplyHeld ∧ starts (.monitor 7) monitorHeld ∧ Release.monitor 7 ≠ .power) ∧
    ({ inReset with evt := { mramBad := [.lifeCycle] }, dmp := { valid := true } } : State).evt.mramBad.contains .lifeCycle = true ∧
    ({ inReset with dmp := { valid := true } } : State).dmp.valid = true :=
  ⟨⟨trivial, by decide, by decide⟩, ⟨starts_each.2.1, starts_each.2.2, by decide⟩, by decide, by decide⟩

theorem witness_ResetReleaseStartsTheUnit_clock :
    (monitorHeld.um.inReset = true ∧ monitorHeld.sup.monitorHolds = true ∧ monitorHeld.sup.monitorLatched = false ∧
      monitorHeld.sup.supplyHolds = false) ∧
    (bothHeld.um.inReset = true ∧ bothHeld.sup.monitorHolds = true ∧ bothHeld.sup.supplyHolds = true) ∧
    ({ monitorLatched := true } : Supply).monitorLatched = true ∧
    ((inReset.sup.monitorReleases ++ [0, 400000]).filter fun r => decide (600000 ≤ r + 600000)).length = 2 ∧
    (([0, 1, 2] : List Nat).filter fun r => decide (600000 ≤ r + 600000)).length = 3 := by decide

theorem witness_AssertedResetSilencesTheUnit :
    single.um.inReset = false ∧ ({ single with evt := { due := [{ event := 3, kind := 1 }] } } : State).evt.due ≠ [] ∧ (3379 : Nat) ≤ 3379 := by decide

theorem witness_BootStartsTheSelectedBank :
    (State.reset.um.mode = .boot ∧ State.reset.um.inReset = false) ∧
    ((bankOf State.reset.upd.selected State.reset).state = .confirmed ∧ State.reset.upd.trialFailed = false ∧
      startable .one ⟨true, true⟩ ⟨true, true⟩ State.reset = true) ∧
    (tried .one { State.reset with upd := { bankA := { state := .failed } } } = false ∧
      tried .two { State.reset with upd := { bankA := { state := .failed } } } = false) ∧
    (bankOf .one { State.reset with upd := { bankA := { state := .provisional }, attempts := 2 } }).state = .provisional ∧
    State.reset.sup.svcUp = false ∧ ({ svcUp := true } : Supply).svcUp = true := by decide

/-- BOOT with bank A on trial at its first, second or third start, and bank B confirmed. -/
def onTrial (n : Nat) : State :=
  { State.reset with upd := { bankA := { state := .provisional, fw := some default }, bankB := { state := .confirmed, fw := some default }
                              attempts := n } }

theorem witness_BankOnTrialCountsItsStarts :
    ((onTrial 1).um.mode = .boot ∧ (onTrial 1).um.inReset = false ∧ (bankOf (onTrial 1).upd.selected (onTrial 1)).state = .provisional ∧
      (onTrial 1).upd.trialFailed = false ∧ (onTrial 1).upd.attempts < 2 ∧
      startable (onTrial 1).upd.selected ⟨true, true⟩ ⟨true, true⟩ (onTrial 1) = true) ∧
    (2 ≤ (onTrial 2).upd.attempts ∧ tried (otherSide (onTrial 2).upd.selected) (onTrial 2) = true ∧
      startable (otherSide (onTrial 2).upd.selected) ⟨true, true⟩ ⟨true, true⟩ (onTrial 2) = true ∧ eventActive 23 (onTrial 2) = false) ∧
    ((inMode .selftest).um.mode = .selftest ∧ (inMode .selftest).pair.heard = none ∧
      (lostSkillets ⟨[7], [], false, []⟩ (inMode .selftest)).length < 2) ∧
    (match exec (.selftestComplete ⟨[7], [], false, []⟩) (inMode .selftest) with | .next t => t.um.mode == .standby | _ => false) = true := by decide

/-- A key that is not seated; the reading of it fails at its first step. -/
def noKey : KeyRead :=
  { seated := false, certificate := [], challenge := [], signature := [], leftInStep2 := false, readOk := false, octets := [], slots := [], deriveOk := false }

theorem witness_KeyReadingVerifiesOrHolds :
    (inMode .load).um.mode = .load ∧ (inMode .load).um.loaded = false ∧ keyFault noKey (inMode .load) = 1 := by decide

/-- LOAD with its image in force. -/
def loaded : State := { um := { mode := .load, loaded := true }, cfg := { valid := true, image := pairImage } }

theorem witness_LoadEndsInSelftest :
    loaded.um.mode = .load ∧ loaded.um.loaded = true ∧ loaded.rng.loopTrained ≠ some true ∧ isPair loaded = true ∧
    ({ loaded with rng := { loopTrained := some true } } : State).rng.loopTrained = some true := by decide

/-- Findings of a start-up test. -/
def findings (skillets slices : List Nat) (ioFail : Bool) (channels : List (Nat × Nat)) : SelfTestFindings :=
  ⟨skillets, slices, ioFail, channels⟩

theorem witness_SelftestAndWaitDecideModeAndRole :
    (inMode .selftest).um.mode = .selftest ∧ 2 ≤ (lostSkillets (findings [0, 7] [] false []) (inMode .selftest)).length ∧
    (lostSkillets (findings [7] [] true []) (inMode .selftest)).length < 2 ∧
    (lostSkillets (findings [7] [] false []) (inMode .selftest)).length < 2 ∧ (inMode .selftest).pair.heard = none ∧
    (isPair { loaded with um := { mode := .selftest } } = true ∧ loaded.um.unit = .a ∧ loaded.um.role = .none) := by decide

theorem witness_SelftestAndWaitDecideModeAndRole_wait :
    isPair { standby with um := { mode := .standby, unit := .b, roleWait := 20000 } } = true ∧
    partnerInStandby { standby with um := { mode := .standby, unit := .b, roleWait := 20000 } } = false := by decide

theorem witness_LinksTakeTheirStateAndEvent :
    isPair active = true ∧ active.rng.relayOpen = true ∧ active.rng.link1 ≠ .up ∧ active.rng.link2 ≠ .up ∧ timerRuns active = true ∧
    active.um.mode ≠ .load := by decide

theorem witness_PathsFollowTheirEpochCounts :
    isPair active = true ∧ timerRuns active = true ∧ 3 ≤ ({ active with pair := { tongsAge := 3 } } : State).pair.tongsAge ∧
    200 ≤ ({ active with pair := { beatRun := 200 } } : State).pair.beatRun ∧
    2000 ≤ ({ active with rng := { oneSided := 2000, twoSided := 2000 } } : State).rng.oneSided ∧
    (100 < ([100] : List Nat).foldl (· + ·) 1 ∧ ([100] : List Nat).foldl (· + ·) 0 ≤ 100) ∧
    (100 < 60 + 41 + ([] : List Nat).sum ∧ 60 + 40 + ([] : List Nat).sum ≤ 100) := by decide

theorem witness_EpochLockAndResynchronisationFollow_active :
    ({ active with ex := { epoch := 7 }, pair := { copyStart := some 7, phase := .join } } : State).um.role = .active ∧
    ({ active with ex := { epoch := 7 }, pair := { copyStart := some 7, phase := .join } } : State).pair.copyStart = some 7 ∧
    (active.um.role = .active ∧ ({ phase := .copy, unsent := [] } : PairLocal).unsent = [] ∧ ({ phase := .settle, unsent := [9] } : PairLocal).unsent ≠ []) ∧
    (({ phase := .settle, settleEnd := some 7, pageCount := 7 } : PairLocal).settleEnd = some 7 ∧
      ({ phase := .settle, settleEnd := some 7, pageCount := 7 } : PairLocal).pageCount < 8 ∧ standby.um.role ≠ .active) := by decide

theorem witness_EpochLockAndResynchronisationFollow_pages :
    ∃ l : List Nat, ∀ p, p < 512 → p ∈ ({ phase := .copy, pagesSeen := l } : PairLocal).pagesSeen := by
  have h : ∃ l : List Nat, ∀ p, p < 512 → p ∈ l := ⟨List.range 512, fun _ => by rw [List.mem_range]; exact id⟩
  obtain ⟨l, h⟩ := h
  exact ⟨l, h⟩

theorem witness_EpochLockAndResynchronisationFollow :
    standby.um.role = .standby ∧ standby.pair.locked = false ∧
    ({ standby with pair := { lockRun := 200 } } : State).pair.lockRun = 200 ∧
    (({ locked := true, noMeasure := 20, phase := .join } : PairLocal).locked = true ∧ phaseMirrored .join = false ∧
      phaseMirrored .settle = true ∧ 600 < (-601 : Int).natAbs) ∧
    (({ copyStart := some 7, phase := .join, stepped := true } : PairLocal).copyStart = some 7 ∧ 7 ≤ 7) ∧
    ({ phase := .audit, auditRun := 8, locked := true } : PairLocal).auditRun = 8 := by decide

theorem witness_FailedAttemptsBackOff :
    attemptFailed { standby with pair := { phase := .copy, phaseEpochs := 2000, attempts := 1 } } = true ∧
    attemptFailed { standby with pair := { phase := .audit, auditDiff := true, attempts := 2 } } = true ∧
    (({ phase := .unmirrored, attempts := 3, backoff := 0 } : PairLocal).attempts = 3 ∧ ({} : PairLocal).imageMismatch = false ∧
      ({} : PairLocal).fwMismatch = false) ∧
    standbyChoice { standby with pair := { tongsAge := 3, ringAge := 3, activeAge := 0 } } = .unmirrored := by decide

/-- A Tongs frame of the other unit, of epoch 0. -/
def tongs (u : UnitId) (atNs : Nat) : TongsHeader :=
  { link := .one, fcsOk := true, crcOk := true, version := 1, lengthOk := true, epoch := 0, unit := u, role := .active, index := 0
    count := 1, atNs }

/-- A standby unit in MIRRORED, and one in SETTLE. -/
def mirrored : State := { standby with pair := { phase := .mirrored } }
def settling : State := { standby with pair := { phase := .settle } }

theorem witness_TongsFramesOfTheEpochAreHeld :
    isPair mirrored = true ∧ timerRuns mirrored = true ∧ tongsValid (tongs .a 63000) mirrored = true ∧
    (tongs .a 0).epoch = mirrored.ex.epoch ∧ (0x41, 0, 0) ∉ mirrored.pair.copies ∧ (0x41, 0, 0) ∉ mirrored.pair.copiesBefore ∧
    isMirrored mirrored = true ∧
    (∀ r ∈ ([default] : List InRecord), recordId r ∉ mirrored.ex.seen) ∧ mirrored.ex.ackRx = none ∧
    ({ mirrored with ex := { arbitration := true } } : State).ex.arbitration = true ∧
    (0x43, (tongs .a 0).epoch, (tongs .a 0).index) ∈
      ({ mirrored with pair := { mirrored.pair with copies := [(0x43, 0, 0)] } } : State).pair.copies := by decide

theorem witness_TongsStateOfThePartnerIsHeld :
    isPair settling = true ∧ timerRuns settling = true ∧ tongsValid (tongs .a 0) settling = true ∧ settling.um.role = .standby ∧
    settling.pair.phase = .settle ∧ (511 : Nat) < 512 ∧ (0x45, 0, 0) ∉ settling.pair.copies ∧ (0x45, 0, 0) ∉ settling.pair.copiesBefore ∧
    mirrored.pair.phase = .mirrored := by decide

theorem witness_TongsStateOfThePartnerIsHeld_audit :
    (tongs .a 0).epoch = mirrored.ex.epoch ∧
    (List.range [auditDigest 0 mirrored + 1].length).map (fun i => auditDigest (0 + i) mirrored) ≠ [auditDigest 0 mirrored + 1] := by
  constructor
  · decide
  · simp

/-- A ring frame whose checks hold, of a type and length. -/
def goodRx (type length : Nat) : RingRx :=
  { port := .one, src := 0, hsrSeq := 9, nowMs := 0, fcsOk := true, crcOk := true, type, version := 1, length }

/-- A unit of a pair to which the first copy of that frame came in by the other port. -/
def heardOnce : State := { active with rng := { active.rng with hsrSeen := [⟨0, 9, 0, .two⟩] } }

/-- Feedback of a thrust unit with FB_SEQ 1, without values. -/
def feedbackOf (u : Nat) : Feedback :=
  { unit := u, ready := true, following := true, lossOfCommand := false, loc := false, fault := false, limited := false, fbSeq := 1
    echo := 0, tag := 0, thrust := some 901, power := none, pitch := none, rpm := none, azimuth := none }

/-- An HSR frame that came in on RING_1. -/
def hsr (own : Bool) : HsrFrame :=
  { inPort := .one, source := 7, hsrSeq := 9, own, forNode := false, forward := true, ptpEvent := true, correction := 5, inTick := 6
    outTick := 7, nowMs := 0 }

/-- A command frame and a ring heartbeat of a unit. -/
def frameOf (u : UnitId) : CommandFrame :=
  { epoch := 3, unit := u, role := .active, authority := true, single := false, notMirrored := false, func := none, seq := 0, imageId := 0
    digest := 0, setPoints := [] }
def beatOf (u : UnitId) : RingHeartbeat :=
  { epoch := 5, unit := u, role := .active, mode := .standby, mirrored := false, single := false, holdCause := 0, imageId := 0, fwDigest := 3 }

theorem witness_RingFramesAreTakenAndForwarded :
    active.rng.relayOpen = true ∧ ringValid 1 420 (partnerNet active).ring (goodRx 1 420) = true ∧
    ringValid 3 40 (partnerNet active).ring (goodRx 3 40) = true ∧ ringValid 2 48 (unitDecl 0 active).ringAddr (goodRx 2 48) = true ∧
    hsrFirst 0 9 0 active = none ∧ (hsrFirst 0 9 0 heardOnce = some ⟨0, 9, 0, .two⟩ ∧ (goodRx 1 420).port ≠ .two ∧ isPair heardOnce = true) ∧
    (ringFormed 3 40 (goodRx 3 40) = true ∧ hsrFirst 0 9 0 { single with rng := { relayOpen := true } } = none) ∧
    ((goodRx 1 419).length ≠ 420 ∧ (goodRx 1 419).fcsOk = true ∧ ({ goodRx 1 420 with fcsOk := false } : RingRx).fcsOk = false) ∧
    (frameOf .b).unit ≠ active.um.unit ∧ (beatOf .b).unit ≠ active.um.unit ∧
    isPair active = true ∧ ringBothUp { active with rng := { active.rng with link1 := .up, link2 := .up } } = true ∧
    ({ goodRx 1 420 with crcOk := false } : RingRx).crcOk = false ∧ isSingle active = false ∧
    isSingle { single with rng := { relayOpen := true } } = true ∧
    ((hsr false).own = false ∧ (hsr false).forNode = false ∧ (hsr false).forward = true ∧ (hsr true).own = true ∧
      (hsr false).source ≠ active.cfg.net.ring ∧ (hsr false).source = (7 : Nat)) ∧
    ({ active with rng := { active.rng with link2 := .up } } : State).rng.link2 = .up ∧ isSingle active = false ∧
    ({ active with cfg := { active.cfg with net := { active.cfg.net with ring := 7 } } } : State).cfg.net.ring = 7 ∧
    (declared 0 active = true ∧ formsRecords active = true ∧ active.rng.fbSeq.length = 16 ∧ active.rng.fbSeq[0]? ≠ some (some 1)) ∧
    ({ active with rng := { active.rng with fbSeq := modAt active.rng.fbSeq 15 fun _ => some 1 } } : State).rng.fbSeq[15]? = some (some 1) := by
  decide

theorem witness_ExchangeMessagesAreSent :
    pastLoad active = true ∧ isPair active = true ∧ active.rng.relayOpen = true ∧ active.ex.epoch % 200 = 0 ∧ isMirrored mirrored = true ∧
    formsRecords mirrored = true ∧ mirrored.ex.ackSent = none ∧
    (pastLoad single = true ∧ isPair single = false ∧ ({ single with rng := { relayOpen := true } } : State).rng.relayOpen = true) ∧
    (pastLoad { active with rng := {} } = true ∧ isPair { active with rng := {} } = true ∧
      ({ active with rng := {} } : State).rng.relayOpen = false) := by decide

/-- ACTIVE, to emit in this epoch. -/
def toEmit : State := { inActive with ex := { emit := true } }

theorem witness_CommandFrameGoesOutOnce :
    emitMode toEmit.um.mode = true ∧ toEmit.ex.emit = true ∧ toEmit.ex.emitted = false ∧ toEmit.ex.stopped = false ∧
    toEmit.rng.relayOpen = true ∧ inActive.ex.emit = false ∧ emitMode Mode.maintenance = false := by decide

/-- Bus CAN_1 in use; in bus-off with and without a recovery begun. -/
def bus (x : CanBus) : State := { active with fld := { buses := x :: List.replicate 7 {} } }

theorem witness_CanBusesFollowTheirCounters :
    (bus { state := 0 }).fld.buses.length = 8 ∧ busUsed 1 (bus { state := 0 }) = true ∧ busOff 1 (bus { state := 0 }) = false ∧
    (128 ≤ 128 ∨ 128 ≤ 0) ∧ (255 : Nat) < 256 ∧ (warnOf 1 (bus { state := 0 })).1 ≤ 127 ∧
    (busUsed 1 (bus { state := 3 }) = true ∧ busOff 1 (bus { state := 3 }) = true) ∧
    (([0, 1, 120000] : List Nat).filter (· < 120000)).length < 3 ∧ ¬ (([0, 1, 119999] : List Nat).filter (· < 120000)).length < 3 ∧
    busOpen (pairedBus 1) (bus { state := 0 }) = false ∧ busOpen (pairedBus 2) (bus { state := 0 }) = true ∧
    topMessage (([⟨0, {}, [], 0, 0, false⟩] : List Queued).filter fun m => !m.dual) = some ⟨0, {}, [], 0, 0, false⟩ ∧
    (busState 1 (bus { state := 3, begun := true })).begun = true ∧ (busState 1 (bus { state := 3 })).state = 3 := by decide

/-- A panel message from CAN_1, and its source's image. -/
def canRx (crcOk : Bool) : CanRx :=
  { bus := 1, known := true, lengthOk := true, typeOk := true, crcOk, ident := 0x100, extended := false, tick := 11
    body := .panel 0 true false 4 none none none }

/-- A message waiting on CAN_1 since epoch 0. -/
def waits : Queued := ⟨0, {}, [], 0, 0, false⟩

/-- CAN_1 and CAN_2 in states of their own, in a unit that is to emit, with one release due. -/
def sending (x y : CanBus) : State :=
  { toEmit with fld := { releases := [(0, 100)], buses := x :: y :: List.replicate 6 {} } }

theorem witness_CanMessagesQueueCompleteAndArrive :
    (sending { state := 0 } { state := 0 }).fld.buses.length = 8 ∧ Machine.emitting (sending { state := 0 } { state := 0 }) = true ∧
    toEmit.um.role ≠ .none ∧ (sending { state := 0 } { state := 0 }).fld.releases = [(0, 100)] ∧
    (toEmit.cfg.image.messages[0]? = some { primary := 1 } ∧ ({ primary := 1 } : CanMessage).dual = false) ∧
    busOpen 1 (sending { state := 0 } { state := 0 }) = true ∧
    (busUsed 1 (sending { state := 3 } { state := 0 }) = true ∧ busOpen 1 (sending { state := 3 } { state := 0 }) = false ∧
      busOpen 2 (sending { state := 3 } { state := 0 }) = true) ∧ busOpen 2 (sending { state := 3 } { state := 4 }) = false ∧
    busUsed 1 (sending {} { state := 0 }) = false ∧ Machine.emitting active = false ∧
    (busState 1 { bus { state := 0, queue := [waits] } with ex := { epoch := 1 } }).queue.filter
      (outWaited 0 0 { bus { state := 0, queue := [waits] } with ex := { epoch := 1 } }) = [waits] ∧
    (busState 1 (bus { state := 0, queue := [waits] })).queue.find? (·.message == 0) = some waits ∧
    busOpen (canRx true).bus (bus { state := 0 }) = true ∧ timerRuns active = true ∧
    canSource 1 ⟨0x100, false⟩ (canRx true).body (bus { state := 0 }) = some 0x30 ∧
    lookupNat 0x30 (bus { state := 0 }).fld.seqs ≠ some (canSeq (canRx true).body) ∧ formsRecords (bus { state := 0 }) = true ∧
    lookupNat 0x30 [(0x30, canSeq (canRx true).body)] = some (canSeq (canRx true).body) ∧ (canRx false).crcOk = false := by decide

/-- A sentence on SER_1 of the declared source. -/
def sentence (ok : Bool) : SentenceRx :=
  { port := 1, startOk := true, endOk := true, checksumOk := ok, framing := false, source := some 0x40, tick := 12, timeField := none
    chars := [] }

theorem witness_SerialSentencesBecomeRecords :
    timerRuns single = true ∧ single.fld.ports.length = 8 ∧ (sentence true).checksumOk = true ∧ (sentence false).checksumOk = false ∧ (sentence true).chars.length ≤ 80 ∧
    single.cfg.image.serial.find? (fun e => e.source == 0x40 && e.port == 1) = some { source := 0x40, port := 1 } ∧
    formsRecords single = true ∧ single.um.mode ≠ .boot ∧ single.um.mode ≠ .load ∧ single.um.mode ≠ .recovery ∧
    3 * ({ source := 0x40, port := 1 } : SerialDecl).period ≤ (lookupNat 0x40 ([(0x40, 6000)] : List (Nat × Nat))).getD 0 * 500000 ∧
    10 < ([10] : List Nat).foldl (· + ·) 1 := by decide

/-- The counter has just reached second 1, in the epoch that begins; and a second that lies 1000 epochs ahead. -/
def atEdge : State := { single with time := { counter := 10 ^ 9 * 2 ^ 32 } }
def beforeEdge : State := { single with time := { counter := 10 ^ 9 * 2 ^ 32 - 1000 * 150000 * 0x355555555 } }

theorem witness_PpsEdgeCountsTheSecond :
    edgeNow atEdge = some (10 ^ 9, 0) ∧ atEdge.time.step = none ∧ edgeAhead beforeEdge = some (10 ^ 9, 0) ∧ beforeEdge.time.step = none ∧
    beforeEdge.time.neverLocked = true ∧ ({ atEdge.time with step := some (10 ^ 9, -5) } : TimeUnit).step = some (10 ^ 9, -5) := by decide

/-- A unit whose GNSS A and PTP sources have these seconds. -/
def qualified (q : SourceQual) : State :=
  { single with time := { quals := [q, {}, q, {}], incrDue := true, ptp := [{ state := 9 }, {}] } }

theorem witness_TimeSourcesQualifyAndAreMeasured :
    (qualified { good := 10, bad := 2 }).time.quals.length = 4 ∧ clockRuns (qualified {}) = true ∧
    10 ≤ (qualOf .gnssA (qualified { good := 10, bad := 2 })).good ∧ (qualOf .gnssA (qualified { good := 10, bad := 2 })).bad < 3 ∧
    inSlave (qualified {}) = true ∧ (qualOf .ptp (qualified { qualified := true, bad := 3 })).qualified = true ∧
    60 ≤ (qualOf .gnssA (qualified { beyond := 60 })).beyond := by decide

/-- A port in SLAVE with a good master for 10 s; one whose Syncs have ceased. -/
def slavePort : PtpPort := { state := 9, gmClass := 6, slaveFor := 20000, syncAge := 5999 }
def deafPort : PtpPort := { state := 9, gmClass := 6, slaveFor := 20000, syncAge := 6000 }

theorem witness_TimeSourcesQualifyAndAreMeasured_ptp :
    ((∃ p ∈ [slavePort], goodSlave p = true ∧ 20000 ≤ p.slaveFor) ∧ ∃ p ∈ [slavePort], p.state = 9 ∧ p.syncAge < 6000) ∧
    (∀ p ∈ [deafPort], p.state = 9 → 6000 ≤ p.syncAge) ∧ (standby.pair.locked = false ∧ ({ locked := true } : PairLocal).locked = true) := by
  decide

theorem witness_SelectionHoldoverAndSlew :
    (qualified { qualified := true, offset := some 0 }).time.incrDue = true ∧ single.time.holdover = true ∧
    firstQualified (qualified { qualified := true, offset := some 0 }) = some .gnssA ∧
    (qualified { qualified := true }).time.source ≠ some .gnssA ∧ (qualOf .gnssA (qualified { qualified := true, offset := some 0 })).offset = some 0 ∧
    ({ holdover := false } : TimeUnit).holdover = false ∧ firstQualified (qualified {}) = none ∧
    (({ slewing := true, slewLeft := -(2 ^ 32 - 1) } : TimeUnit).slewLeft.natAbs < 2 ^ 32) ∧ (qualified {}).time.source = none ∧
    (qualified {}).time.slewing = false ∧ ({ (qualified {}).time with edgeAge := 1 } : TimeUnit).edgeAge = 1 ∧ (qualified {}).time.edgeAge ≠ 1 ∧
    (-freqLimit ≤ (qualified {}).time.freq ∧ (qualified {}).time.freq ≤ freqLimit) ∧ clockRuns (qualified {}) = true ∧
    single.time.incrDue = false := by decide

theorem witness_TimeSourcesQualifyAndAreMeasured_measured :
    clockRuns single = true ∧ single.time.quals.length = 4 ∧
    (({ standby with pair := { beat := some (10, 5, 6) }, time := { pairDue := true } } : State).pair.beat = some (10, 5, 6) ∧
      standby.um.role = .standby ∧ clockRuns standby = true) := by decide

/-- STN_1 as a boundary port or slave only, with its port in a state of its own. -/
def port (role : Nat) (q : PtpPort) : State :=
  { single with time := { ptp := [q, {}] }, cfg := { valid := true, image := { image with ptpRole := [role, 0] } } }

/-- A header of version 2 and sequenceId 3 from port 1 of clock 8, and a slave port that follows it. -/
def fromMaster : PtpHeader := { version := 2, domain := 0, source := 8 * 65536 + 1, seq := 3, correction := 4 }
def following : PtpPort := { state := 9, parent := some (8 * 65536 + 1) }
def grandmaster : ClockData := { priority1 := 1, cls := 6, accuracy := 0x20, variance := 1, priority2 := 1, identity := 8, steps := 0 }

theorem witness_PtpPortsAndStampsFollowTheirState :
    ptpRuns (port 1 following) = true ∧ ptpRole .one (port 1 following) ≠ 0 ∧ (port 1 following).time.ptp.length = 2 ∧
    (port 1 following).time.quals.length = 4 ∧ fromMaster.version = 2 ∧ fromMaster.domain = (ptpPort .one (port 1 following)).domain ∧
    fromMaster.domain ≠ ({ following with domain := 1 } : PtpPort).domain ∧ following.parent = some fromMaster.source ∧
    ({ following with sync := some (3, 5, 6) } : PtpPort).sync = some (fromMaster.seq, 5, 6) ∧
    (({ following with delayReq := some 3, t12 := some (1, 2, 0) } : PtpPort).delayReq = some fromMaster.seq ∧
      ([(stampIdent false .one 1 3, 77, 0)].find? (·.1 == stampIdent false .one 1 fromMaster.seq)) = some (stampIdent false .one 1 3, 77, 0)) ∧
    ((ptpPort .one (port 2 { state := 6 })).state = 6 ∧ ptpRole .one (port 2 { state := 6 }) = 2 ∧
      logEpochs (image.ptpLogSync.getD (portIndex .one) (-3)) ≤ ({ state := 6 } : PtpPort).syncSent ∧
      announceEpochs (portIndex .one) image ≤ ({ state := 6 } : PtpPort).announceSent ∧
      3 * announceEpochs (portIndex .one) image ≤ ({ state := 9, announceAge := 12000 } : PtpPort).announceAge ∧
      ({ announceAge := 0 } : PtpPort).announceAge < 3 * announceEpochs (portIndex .one) image) := by decide

/-- The clock is heard for the second time; it is not this unit. -/
theorem witness_PtpPortsAndStampsFollowTheirState_announce (h : (8 : Nat) ≠ Cfg.clockIdentity) :
    ptpRole .one (port 1 { state := 4, heard := [{ sender := 8 * 65536 + 1, clock := grandmaster, age := 4000 }] }) = 1 ∧
    ptpRole .two (port 1 {}) = 0 ∧ 4000 < 4 * announceEpochs (portIndex .one) image ∧ grandmaster.steps < 255 ∧
    grandmaster.identity ≠ Cfg.clockIdentity ∧ fromMaster.source / 65536 ≠ Cfg.clockIdentity ∧
    (goodSlave { following with gmClass := 6 } = true ∧ goodClass 7 = true ∧ goodClass 52 = false) :=
  ⟨by decide, by decide, by decide, by decide, h, h, by decide⟩

theorem witness_PtpPortsAndStampsFollowTheirState_ring :
    (ptpRuns active = true ∧ active.rng.relayOpen = true ∧ active.time.ringPtp.length = 2) ∧
    ({ req := some 3 } : RingPtp).req = some fromMaster.seq ∧ ({ req := some 3, resp := some (1, 2, 0) } : RingPtp).resp = some (1, 2, 0) ∧
    2000 ≤ ({} : RingPtp).reqAge := by decide

theorem witness_PtpPortsAndStampsFollowTheirState_stamps :
    ptpRuns single = true ∧ (List.replicate 15 (0, 0, 0)).length < 16 ∧ 16 ≤ (List.replicate 16 ((0 : Nat), (0 : Nat), (0 : Nat))).length ∧
    single.time.txq.length < 16 := by decide

/-- An antenna's observations of four satellites of GPS. -/
def antennaObs : AntennaObs :=
  { north := 1, east := 2, down := 3, sats := (List.range 4).map fun k =>
      { system := 0, sv := k + 1, elevationMdeg := 45000, sightN := 0, sightE := 0, sightD := -2 ^ 30, sbas := none
        signals := [{ lock := true, taps := List.replicate 9 (1, 0), range := 0, iono := 0 }] } }

/-- A solution of GNSS A. -/
def solution (utc : Option Int) : GnssSolution :=
  { engine := .one, tov := 0, tick := 0, clock := 0, ant0 := antennaObs, ant1 := antennaObs, utcOffset := utc }

theorem witness_GnssSolutionsFormTwoRecords :
    clockRuns single = true ∧ formsRecords single = true ∧ (solution (some 37)).utcOffset = some 37 ∧ (solution none).utcOffset = none ∧
    (solution none).tov % outputPeriod .one single = 0 ∧ (solution none).tov ≤ readingAt (solution none).tick single ∧
    readingAt (solution none).tick single ≤ (solution none).tov + 6000000 := by decide

/-- Engine A with one channel tracked at antenna 1, its supply cut for 10 s at antenna 0. -/
def tracking : State :=
  { single with gnA := { ant0 := { supplied := false, state := 2, cutFor := 20000 }, ant1 := { channels := [{ sv := 3 }], low := 2000 }
                         clock := some (19 * 10 ^ 15 + 4, 9) } }

theorem witness_GnssEnginesReallocateFitAndAreLost :
    clockRuns single = true ∧ (engineOf .one single).lastAlloc ≠ some (counterSeconds single) ∧
    ((antennaOf .one 1 tracking).channels[0]?.map fun c => (c.fitted, c.excluded)) = some (none, false) ∧
    (none : Option Nat) ≠ some (counterSeconds tracking) ∧ isMirrored tracking = false ∧ clockRuns tracking = true ∧
    2000 ≤ (gnssRef .two { single with mir := { gnB := { silent := 2000 } } }).silent := by decide

theorem witness_TimeSourcesQualifyAndAreMeasured_engine :
    clockRuns tracking = true ∧ tracking.time.quals.length = 4 ∧ (engineOf .one tracking).clock = some (19 * 10 ^ 15 + 4, 9) ∧
    (engineOf .one tracking).timed ≠ some (counterSeconds tracking) ∧ (engineOf .two tracking).clock = none := by decide

theorem witness_AntennaFaultsRaiseAndClear :
    (1 : Nat) < 2 ∧ (antennaOf .one 1 tracking).supplied = true ∧ (135 : Nat) < 136 ∧ 2000 ≤ (antennaOf .one 1 tracking).low ∧
    (antennaOf .one 0 tracking).state = 2 ∧ 20000 ≤ (antennaOf .one 0 tracking).cutFor ∧
    (({ state := 2, cutFor := 19999 } : AntennaPort).state = 2 ∧ ({ state := 2, cutFor := 19999 } : AntennaPort).cutFor < 20000) := by decide

/-- The unit one epoch after chain 0, of 1 kHz, has started; the window of two epochs that ends there. -/
def sampling (c : Chain) : State :=
  { single with time := { single.time with counter := 2 ^ 60 }, siv := { chains := c :: List.replicate 15 {} } }
def window : SieveWindow := { chain := 0, tick := 0, bits := List.replicate (windowBits (chainDecl 0 single)) true, overload := false, clearedAt := none }

theorem witness_SieveWindowsAddOneSample :
    window.bits.length = windowBits (chainDecl 0 single) ∧
    ((sampling { start := some 5, ends := some 5 }).siv.chains.length = 16 ∧
      atBoundary (chainDecl 0 single) window.tick { start := some 5, ends := some 5 } = true ∧
      5 < chainCounter window.tick (sampling { start := some 5, ends := some 5 })) ∧
    (atBoundary (chainDecl 0 single) window.tick { armed := true } = true ∧ ({ armed := true } : Chain).start = none) ∧
    single.siv.chains.length = 16 ∧ clockRuns single = true ∧ (chainDecl 0 single).mode ≠ 0 ∧ (chainDecl 0 single).current = true ∧
    (0 : Nat) < 16 ∧ (28000 : Nat) < 28001 ∧ (single.siv.chains[0]?).isSome = true ∧
    ({ burdenCut := true, burdenFor := 2000 } : Chain).burdenCut = true := ⟨List.length_replicate, by decide⟩

/-- A single unit in an epoch, with channel 0 in a state of its own. -/
def channel (n : Nat) (m : Mode) (x : ChannelLocal) : State :=
  { single with um := { mode := m }, ex := { epoch := n }, trv := { channels := x :: List.replicate 7 {} } }

theorem witness_TrivetSamplesCloseARecord :
    timerRuns single = true ∧ formsRecords single = true ∧
    (({ a := { level := false, next := true, same := 3 } } : PairLocalInput).a.next = true) ∧
    (pairType 0 single ≠ .unused ∧ discrepancyOf 0 single < ({ equalRun := 161 } : PairLocalInput).equalRun) ∧
    400 ≤ ({ safeRun := 400 } : PairLocalInput).safeRun ∧ (single.trv.pairs[0]?).isSome = true := by decide

/-- A wiring check on the channel of a thrust unit that reports ready. -/
def wired : State :=
  { channel 0 .maintenance { wirechk := true } with mir := { alc := { units := { feedback := some (feedbackOf 0) } :: List.replicate 15 {} } } }

theorem witness_SafeOutputsFollowPermits :
    (channel 0 .standby {}).trv.channels.length = 8 ∧ timerRuns (channel 0 .standby {}) = true ∧ (4275 : Nat) ≤ 4275 ∧ (8525 : Nat) ≤ 8525 ∧
    20 ≤ ({ pwrRun := 20 } : TrivetLocal).pwrRun ∧ (channelLocal 0 (channel 0 .maintenance { wirechk := true, wirechkEpochs := 20000 })).wirechk = true ∧
    (channel 0 .standby { wirechk := true }).um.mode ≠ .maintenance ∧ channelUnit 0 wired = some 0 ∧ unitReady 0 wired = true := by decide

theorem witness_OutputTestsFindTheirFaults :
    (channel 0 .standby {}).trv.channels.length = 8 ∧ timerRuns (channel 0 .standby {}) = true ∧
    ((channelLocal 0 (channel 0 .standby {})).hs = false ∧ (channelLocal 0 (channel 0 .standby {})).pulse = none) ∧
    ((channel 2000 .standby {}).ex.epoch % 2000 = 250 * 0 ∧ (channel 1875 .standby {}).ex.epoch % 2000 = 250 * 7 + 125) ∧
    single.cfg.image.offPulse.contains 0 = true ∧ (channel 2000 .standby {}).ex.epoch % 4000 = (250 * 0 + 2000) % 4000 ∧
    (channelLocal 0 (channel 0 .standby { pulse := some (.hs, true) })).pulse = some (.hs, true) ∧
    (∀ j, j < 8 → j ≠ 0 → (channelLocal j (channel 0 .standby { pulse := some (.hs, true) })).pulse = none) ∧
    single.cfg.image.testInterval ≤ testHours { testAge := 168 * 7200000 } := by decide

/-- ACTIVE, with thrust unit 0 over its limit and its channel's runs complete. -/
def overLimit : State :=
  { inActive with mir := { inActive.mir with
      alc := { units := { feedback := some (feedbackOf 0) } :: List.replicate 15 {} }
      trv := { channels := { sltRun := 40, stsRun := 100 } :: List.replicate 7 {}, slsRun := 200, berth := some 0, blindRun := 200 }
      wsk := { velU := some 2097153, velV := some 0, velHeld := 0 } } }

theorem witness_SafetyTripsLatchTheirChannel :
    overLimit.mir.trv.channels.length = 8 ∧ overLimit.mir.alc.units.length = 16 ∧ channelUnit 0 overLimit = some 0 ∧
    (sltTolerance 0 overLimit ≤ (safeChannel 0 overLimit).sltRun ∧ (safeChannel 0 overLimit).slt = false) ∧ (unitDecl 0 overLimit).slt = some 900 ∧
    (unitState 0 overLimit).feedback = some (feedbackOf 0) ∧ (feedbackOf 0).loc = false ∧ (feedbackOf 0).thrust = some 901 ∧
    overLimit.mir.mode.pairMode = .active ∧ overLimit.cfg.image.slsTol ≤ overLimit.mir.trv.slsRun ∧ overLimit.mir.trv.slsTripped = false ∧
    (overLimit.cfg.image.berths.getD 0 {}).speed = some 2097152 ∧ (2097152 : Int) * 2097152 < 2097153 * 2097153 + 0 * 0 ∧
    200 ≤ overLimit.mir.trv.blindRun ∧ overLimit.mir.trv.blind = false ∧ 40 ≤ ({ fbMissing := 40 } : UnitState).fbMissing := by decide

/-- Thrust unit 0 outside its Safe Thrust Sector, at the end of the tolerance. -/
def outOfSector : State :=
  { overLimit with
      cfg := { overLimit.cfg with image := { pairImage with berths := [{ sectors := [some { lo := 0, hi := 1 }] }] } }
      mir := { overLimit.mir with
        alc := { units := { feedback := some { feedbackOf 0 with azimuth := some 2 } } :: List.replicate 15 {} } } }

theorem witness_SafetyTripsLatchTheirChannel_sector :
    outOfSector.cfg.image.stsTol ≤ (safeChannel 0 outOfSector).stsRun ∧ (safeChannel 0 outOfSector).sts = false ∧ stsExceeds 0 outOfSector = true ∧
    channelUnit 0 outOfSector = some 0 := by decide

/-- Whisk's position axis, its heading axis, or its first reference in a state of its own. -/
def fused (p h : AxisState) (x : SourceState) : State :=
  { single with mir := { wsk := { pos := p, hdg := h, refs := [x] } } }

theorem witness_FusionConditionsFollowTheirRuns :
    200 ≤ (fused { riseRun := 200, grade := 0, raw := 1 } {} {}).mir.wsk.pos.riseRun ∧
    (fused { riseRun := 200, grade := 0, raw := 1 } {} {}).mir.wsk.pos.grade < (fused { riseRun := 200, grade := 0, raw := 1 } {} {}).mir.wsk.pos.raw ∧
    ((axisOf false (fused { pair := some (0, 1), third := true } {} {})).pair.isSome = true ∧ (axisOf false (fused { third := true } {} {})).third = true) ∧
    ((axisOf true (fused {} { pair := some (0, 1), absentRunB := 200 } {})).pair.isSome = true ∧
      200 ≤ (axisOf true (fused {} { pair := some (0, 1), absentRunB := 200 } {})).absentRunB) ∧
    single.cfg.image.tuning.disputeLimit ≤ ({ unresolvedRun := 120000 } : AxisState).unresolvedRun ∧
    (0 : Nat) < ({ unresolvedRun := 120000 } : AxisState).unresolvedRun ∧ (refSource 0 single = some 0x50 ∧ ({ suspect := true, agreeRun := 120000 } : SourceState).suspect = true) ∧
    ({ started := true, gate := false, gateRun := 60000, covOk := true } : Estimator).gateRun = 60000 ∧
    200 ≤ ({ skipRun := 200 } : Estimator).skipRun := by decide

theorem witness_AllocationConditionsFollowTheirRuns :
    inActive.mir.alc.units.length = 16 ∧ inActive.cfg.image.units.length ≤ 16 ∧ declared 0 inActive = true ∧
    inActive.cfg.image.tuning.drLimit < inActive.cfg.image.tuning.drLimit + 1 ∧ 0 < inActive.cfg.image.tuning.hdgLimit ∧
    20 ≤ ({ satRun := [0, 0, 20] } : Allocation).satRun.getD 2 0 ∧
    (inActive.mir.mode.pairMode = .active ∧ ({ alcZero := true } : Ladle).alcZero = true ∧ ({ ran := true } : Allocation).ran = true) ∧
    (4 ≤ ({ alcHold := 4 } : Ladle).alcHold ∧ inActive.mir.alc.everSolved = false ∧ (1 : Nat).testBit 0 = true) ∧
    20 ≤ ({ fbMissing := 20 } : UnitState).fbMissing ∧
    2000 ≤ ({ discRun := 2000 } : UnitState).discRun ∧
    (({ excluded := true, clear := 20 } : UnitState).present = [] ∧ ({ excluded := true, clear := 20 } : UnitState).excluded = true) ∧
    (0 < inActive.cfg.image.tuning.drLimit + 1 ∧ inActive.mir.mode.func ≠ some .autoPosition) ∧
    ({ func := some .autoTrack } : ModeState).func = some .autoTrack ∧
    (1 ≤ sectionCount inActive ∧ (inActive.mir.alc.sections.getD 0 {}).reported = none) ∧ inActive.mir.fld.plantSeen = false ∧
    40 < ({ age := 41 } : PanelState).age ∧ (inActive.mir.fld.panels[0]?).isSome = true := by decide

/-- A record of source 0x40 that unit A stamped before the cut-off. -/
def aRecord (n : Nat) : InRecord :=
  { origin := .a, holdover := false, tagged := false, source := 0x40, seq := n, stamp := 5, tov := 5, payload := [] }

/-- A single unit at E+80 µs that offered record 0 and not record 1. -/
def offering : State :=
  { single with ex := { epoch := 7, cutoff := 10, buffer := [{ item := aRecord 0, offers := 1 }, { item := aRecord 1, offers := 4 }]
                        offered := [recordId (aRecord 0)] } }

/-- The readings of an epoch. -/
def readings : Readings :=
  { pwrA := 1, pwrB := 2, bus := 3, power := 4, pwrOut := 5, tempBase := some 6, tempAsic := some 7, antennaMa := [], overloads := 0, served := 0
    peak := 11, stalls := 12 }

theorem witness_EpochOpensAndCommits :
    timerRuns single = true ∧ ({ single with um := { mode := .active } } : State).um.mode = .active ∧ isPair single = false ∧
    single.um.role ≠ .standby ∧ single.mir.pair.swapDue = false ∧ formsRecords offering = true ∧ offering.ex.due = [] ∧
    offering.hap.localDue = [] ∧ isMirrored offering = false ∧ runsSlowWork offering = true ∧ epochTimeRecord offering = none ∧
    (({ single with ex := { holdDue := some 4 } } : State).ex.holdDue = some 4 ∧ transition single.um.mode .hold = true) ∧
    transition Mode.hold .hold = false ∧ formsRecords (inMode .hold) = false ∧ formsRecords mirrored = true ∧ mirrored.ex.ackRx = none ∧
    (isMirrored mirrored = true ∧ mirrored.ex.due = [] ∧ mirrored.hap.localDue = []) := by decide

/-- A plan due in this epoch, without its result. -/
def overdue : State :=
  { offering with ex := { offering.ex with epoch := 100 }
                  slow := { plan := some { basis := 0, mask := 1, inputs := [], source := none, result := none } } }

theorem witness_EpochOpensAndCommits_overdue :
    timerRuns overdue = true ∧ formsRecords overdue = true ∧ overdue.ex.due = [] ∧ overdue.hap.localDue = [] ∧ runsSlowWork overdue = true ∧
    epochWrap (0 + 100) = overdue.ex.epoch ∧ (overdue.slow.plan.map fun p => (p.basis, p.result.isNone)) = some (0, true) := by decide

/-- One record of the recorder. -/
def evRecord (e k n : Nat) : EvRecord :=
  { opTime := 0, cycle := 0, epoch := n, event := e, kind := k, flags := 4, rep := 0, lastDelta := 0, w0 := 0, w1 := 0, value := 0
    corrupt := false }

/-- A single unit with one record due, and what its recorder holds. -/
def recording (d : DueRecord) (rs : List EvRecord) (full : Bool) : State :=
  { single with ex := { epoch := 2000 }, evt := { due := [d] }, log := { records := rs, full } }

theorem witness_RecorderAndVariantTakeWhatIsDue :
    ((recording { event := 54, kind := 1 } [] false).evt.due = [{ event := 54, kind := 1 }] ∧
      (recording { event := 54, kind := 1 } [] false).hap.sessions = []) ∧
    (recording { event := 54, kind := 1 } [] false).log.records.length < lastIndex ∧
    (∀ r ∈ [evRecord 55 1 0], folds { event := 54, kind := 1 } 2000 r = false) ∧
    (lastOfScope (attrOf 54).scopeL [evRecord 54 2 0] = some 0 ∧ folds { event := 54, kind := 1 } 2000 (evRecord 54 2 0) = true) ∧
    ({ variantDue := some (some 3) } : Fabric).variantDue = some (some 3) ∧ single.fab.variant ≠ some 3 ∧ single.ktl.manualHeld = false ∧
    (({ manual := some (1, 5), manualHeld := true } : Kettle).manual = some (1, 5) ∧ single.ktl.running = none ∧ single.fab.marked = [] ∧
      ({ variantDue := some none, variant := none } : Fabric).test = none) := by decide

theorem witness_RecorderAndVariantTakeWhatIsDue_full : (List.replicate lastIndex (evRecord 55 1 0)).length = lastIndex ∧
    ∀ r ∈ List.replicate lastIndex (evRecord 55 1 0), folds { event := 54, kind := 1 } 2000 r = false :=
  ⟨by rw [List.length_replicate], fun r h => by rw [List.eq_of_mem_replicate h]; decide⟩

theorem witness_RecorderStopsWhenFull :
    ((recording { event := 54, kind := 1 } [] true).log.full = true ∧ (recording { event := 54, kind := 1 } [] true).ex.due = []) ∧
    ((recording { event := 54, kind := 1 } [evRecord 55 1 0] false).evt.due = [{ event := 54, kind := 1 }] ∧
      (recording { event := 54, kind := 1 } [evRecord 55 1 0] false).evt.written = [] ∧
      (recording { event := 54, kind := 1 } [evRecord 55 1 0] false).hap.sessions = [] ∧
      (∀ r ∈ (recording { event := 54, kind := 1 } [evRecord 55 1 0] false).log.records,
        folds { event := 54, kind := 1 } (recording { event := 54, kind := 1 } [evRecord 55 1 0] false).ex.epoch r = false) ∧
      (recording { event := 54, kind := 1 } [evRecord 55 1 0] false).log.records.length < 524287) ∧
    (([0, 0, 0, 0] : List Word).length = 4 ∧ namesUnit 0 single = true) := by decide

theorem witness_RecorderStopsWhenFull_last : (List.replicate 524287 (evRecord 55 1 0)).length = 524287 ∧
    ∀ r ∈ List.replicate 524287 (evRecord 55 1 0), folds { event := 54, kind := 1 } 2000 r = false :=
  ⟨by rw [List.length_replicate], fun r h => by rw [List.eq_of_mem_replicate h]; decide⟩

theorem witness_FastWorkIsDoneOrOverruns :
    runsFastWork single = true ∧ single.ex.fastDone = false ∧ single.ex.overrun = false ∧ timerRuns single = true ∧
    commits single.um.mode = true ∧ single.ex.digestSent = false ∧ single.ex.stopped = false ∧
    ({ single with ex := { stopped := true } } : State).ex.stopped = true := by decide

/-- A partner's digest frame in MIRRORED. -/
def digestOf (cmd com : Nat) : DigestBody := ⟨false, .mirrored, cmd, com, []⟩

theorem witness_EmissionAndArbitrationAreDecided :
    timerRuns single = true ∧ commits single.um.mode = true ∧ single.ex.decided = false ∧ takesDigests single = false ∧
    (takesDigests mirrored = true ∧ timerRuns mirrored = true ∧ commits mirrored.um.mode = true ∧ mirrored.ex.decided = false) ∧
    (pairVotes mirrored = true ∧ mirrored.ex.commands = [] ∧ mirrored.ex.partnerDigest = none ∧ mirrored.pair.phase = .mirrored) ∧
    ((digestOf 0 0).phase = .mirrored ∧ (digestOf 0 0).overrun = false ∧ mirrored.ex.overrun = false ∧
      (digestOf 0 0).command = mirrored.ex.cmdDigest ∧ (digestOf 1 0).command ≠ mirrored.ex.cmdDigest ∧
      (digestOf 0 1).commit ≠ mirrored.ex.commitDigest) ∧
    (({ arbitration := true, rerun := some true, partnerRerun := some false } : Exchange).rerun = some true ∧ active.um.role = .active ∧
      standby.um.role = .standby) ∧
    runsSlowWork (inMode .hold) = false ∧ isPair active = true ∧ timerRuns active = true ∧ active.pair.mirrorSent = false ∧
    (takesDigests { standby with pair := { phase := .join } } = true ∧ standby.um.role = .standby) ∧
    ({ digestOf 0 0 with overrun := true } : DigestBody).overrun = true := by decide

/-! ## Sessions and requests -/

/-- A session of slot 2 that holds snapshot 1 and waits for one acknowledgement. -/
def session : Session :=
  { ident := 5, slot := 2, notify := true, key := List.replicate 32 0, lastSeq := 9, holds := [1]
    notes := [{ nseq := 1, epoch := 0, words := [], age := 200 }] }

/-- A request of that session, without a body; with one; and one that names snapshot 1. -/
def request : HapReq :=
  { port := .stn1, source := (1, 2), dest := (0, 47560), magic := 0x4850, version := 1, length := 36, session := 5, reqSeq := 10, addr := 0
    count := 0, flags := 0, holdId := 0, mac := [], served := 0, tick := 33 }
def requestOf (flags : Nat) (body : List Byte) : HapReq := { request with length := 36 + body.length, flags }
def releasing : HapReq := { request with holdId := 1 }

/-- Its form holds with either value of REPEAT, whatever the operation. -/
theorem requestOf_form (op : Nat) (body : List Byte) : formGood op body (requestOf 0 body) = true ∧ formGood op body (requestOf 2 body) = true := by
  constructor <;> simp [formGood, requestOf, request] <;> omega

/-- A request with the MAC of a session's key over its octets. -/
def macked (x : Session) (op addr count : Nat) (body : List Byte) (r : HapReq) : HapReq :=
  { r with mac := requestMac x.key op addr count body r }

/-- A state with a session and a published snapshot. -/
def serving (b : State) (x : Session) : State :=
  { b with hap := { sessions := [x], snap := some { epoch := 3 }, keys := modAt (List.replicate 10 none) 2 (fun _ => some []) } }

/-- The request of that session is admitted, whatever its operation. -/
theorem request_admitted (op addr count : Nat) (body : List Byte) (x : Session) (r : HapReq) (s : State)
    (f : formGood op body r = true)
    (h : reaches r s = true ∧ waiting r s < 32 ∧ x.closing = false ∧ r.session ≠ 0 ∧ r.session = x.ident ∧
      sessionOf x.ident s = some x ∧ x.lastSeq < r.reqSeq ∧ s.hap.awaiting = [] ∧ x.stored = none) :
    admits op addr count body x (macked x op addr count body r) s := by
  obtain ⟨h1, h2, h3, h5, h6, h7, h8, h9, h10⟩ := h
  refine ⟨h1, h2, f, h3, rfl, h5, h6, h7, h8, ?_, ?_⟩
  · rw [h9]; exact fun p hp => absurd hp (List.not_mem_nil)
  · rw [h10]; exact fun p hp => nomatch hp

/-- The MAC covers a request's octets without the MAC. -/
theorem mac_of (w : List Byte) (op addr count : Nat) (body : List Byte) (r : HapReq) :
    ({ r with mac := requestMac w op addr count body r } : HapReq).mac =
      requestMac w op addr count body { r with mac := requestMac w op addr count body r } := rfl

theorem witness_SessionsOpenActAndEnd :
    (∀ op, admits op request.addr request.count [] session (macked session op 0 0 [] request) (serving single session)) ∧
    admits opRelease releasing.addr releasing.count [] session (macked session opRelease 0 0 [] releasing) (serving single session) ∧
    (request.count = 0 ∧ request.repeated = false ∧ ¬ ((1 : Nat) = 0 ∧ request.repeated = false)) ∧
    ((serving single session).hap.keys.getD 2 none = some [] ∧ (2 : Nat) < 8) ∧ ((serving single session).hap.snap = some { epoch := 3 } ∧
      (serving single session).hap.holds.find? (·.snap.epoch == 3) = none ∧ freeHold (serving single session) = some 1) ∧
    ((([⟨1, { epoch := 3 }, 5⟩] : List Hold).find? (·.snap.epoch == 3)).isSome = true) ∧
    freeHold { single with hap := { holds := [⟨1, {}, 0⟩, ⟨2, {}, 0⟩, ⟨3, {}, 0⟩, ⟨4, {}, 0⟩] } } = none ∧
    releasing.holdId ∈ session.holds ∧ 2 ∉ session.holds ∧ session.closing = false ∧
    ((serving single { session with idle := 60000 }).hap.sessions.find? (·.slot == 2) = some { session with idle := 60000 }) ∧
    (session.notes = [{ nseq := 1, epoch := 0, words := [], age := 200 }] ∧ (1 : Nat) < 6 ∧ (6 : Nat) ≤ 6 ∧
      sessionOf 5 (serving single session) = some session) :=
  ⟨fun op => request_admitted op _ _ _ _ _ _ (requestOf_form op []).1 (by decide), request_admitted _ _ _ _ _ _ _ (by decide) (by decide),
    by decide, by decide, by decide, by decide, by decide, by decide, by decide, by decide, by decide, by decide⟩

/-- A repeat of what session 5 was answered last, and of what it still awaits; a lower REQ_SEQ; a full queue; another port's address. -/
theorem witness_SessionsOpenActAndEnd_repeats :
    (reaches request (serving single session) = true ∧ request.session ≠ 0 ∧ sessionOf 5 (serving single session) = some session) ∧
    (macked session opKeepalive 0 0 [] request).mac = requestMac session.key opKeepalive 0 0 [] (macked session opKeepalive 0 0 [] request) ∧
    (∃ p ∈ ([⟨⟨.a, 0, 0⟩, 5, 10, 0, 0, .stn1, (0, 0)⟩] : List PendingCmd), p.session = session.ident ∧ p.reqSeq = request.reqSeq) ∧
    (∃ p : Response, ({ session with stored := some { (default : Response) with reqSeq := 10 } } : Session).stored = some p ∧ p.reqSeq = request.reqSeq) ∧
    request.reqSeq ≤ ({ session with lastSeq := 10 } : Session).lastSeq ∧
    32 ≤ waiting request { serving single session with hap := { (serving single session).hap with queue := 32 } } ∧
    reaches { request with dest := (0, 47561) } (serving single session) = false :=
  ⟨by decide, mac_of session.key opKeepalive 0 0 [] request, by decide, ⟨_, rfl, rfl⟩, by decide, by decide, by decide⟩

/-- An OPEN whose MAC is that of the slot's key. -/
def opening : HapReq :=
  let r : HapReq := { requestOf 0 (openBody 2 true []) with session := 0 }
  { r with mac := requestMac [] opOpen 0 0 (openBody 2 true []) r }


theorem witness_SessionsOpenActAndEnd_open : opening.mac = requestMac [] opOpen 0 0 (openBody 2 true []) opening ∧
    formGood opOpen (openBody 2 true []) opening = true ∧ waiting opening (serving single session) < 32 ∧ opening.count = 0 ∧
    opening.repeated = false ∧ reaches opening (serving single session) = true ∧ (serving single session).hap.keys.getD 3 none = none ∧
    formGood opOpen (openBody 2 true []) { opening with magic := 0 } = false :=
  ⟨mac_of [] opOpen 0 0 (openBody 2 true []) { requestOf 0 (openBody 2 true []) with session := 0 }, by decide, by decide, by decide, by decide, by decide, by decide, by decide⟩

/-- A session that holds snapshot 1, 199 epochs after its publication. -/
def holding : State := { serving single session with hap := { (serving single session).hap with holds := [⟨1, { epoch := 2 }, 199⟩] } }

theorem witness_HeldReadsServeTheHeldSnapshot :
    admits opRead 0x201000 5 [] session (macked session opRead 0x201000 5 [] { releasing with flags := 1 }) holding ∧
    ({ releasing with flags := 1 } : HapReq).held = true ∧ ({ releasing with flags := 1 } : HapReq).repeated = false ∧
    rangeOk 0x201000 5 holding = true ∧ bulkAddr 0x201000 = false ∧ 1 ∈ session.holds ∧
    holding.hap.holds.find? (fun h => h.ident == 1 && decide (h.age < 200)) = some ⟨1, { epoch := 2 }, 199⟩ ∧ 2 ∉ session.holds ∧
    (([⟨1, { epoch := 2 }, 200⟩] : List Hold).find? fun h => h.ident == 1 && decide (h.age < 200)) = none :=
  ⟨request_admitted _ _ _ _ _ _ _ (by decide) (by decide), by decide, by decide, by decide, by decide, by decide, by decide, by decide, by decide⟩

theorem serving_takes : reaches request (serving single session) = true ∧ waiting request (serving single session) < 32 ∧
    session.closing = false ∧ request.session ≠ 0 ∧ request.session = session.ident ∧
    sessionOf session.ident (serving single session) = some session ∧ session.lastSeq < request.reqSeq ∧
    (serving single session).hap.awaiting = [] ∧ session.stored = none := by decide

theorem witness_ReadsAndWritesReachTheirPlace :
    (∀ op addr count body, admits op addr count body session (macked session op addr count body (requestOf 0 body)) (serving single session)) ∧
    ((requestOf 0 []).repeated = false ∧ (requestOf 0 []).held = false ∧
      ({ inMode .hold with hap := { frozen := some { epoch := 2 } } } : State).hap.frozen = some { epoch := 2 } ∧ isLocal 0x201000 = false) ∧
    (rangeOk 0x201000 5 (serving single session) = true ∧ bulkAddr 0x201000 = false ∧ single.um.mode ≠ .hold) ∧
    rangeOk 0x10001 1 (serving single session) = false ∧
    (rangeOk 0xFF1200 1 (serving single session) = true ∧ (regsOf 0xFF1200 [1]).all (fun w => writable w.1) = true ∧
      isWo 0xFF1200 = false ∧ isLocal 0xFF1200 = true ∧ localVerdict 0xFF1200 [1] (serving single session) = (0, 0)) ∧
    (rangeOk 0x20030 1 (serving single session) = true ∧ (regsOf 0x20030 [1]).all (fun w => writable w.1) = true ∧
      isLocal 0x20030 = false ∧ ingressRefusal (regsOf 0x20030 [1]) (serving single session) = none) ∧
    ((4 : Word).toNat ≤ 4 ∧ (0xFFFFFF : Word).toNat < 2 ^ 24) :=
  ⟨fun op _ _ body => request_admitted op _ _ body _ _ _ (requestOf_form op body).1 serving_takes, by decide, by decide, by decide,
    by decide +kernel, by decide, by decide⟩

/-- A session at the last two words of staging, which is open for its slot. -/
def atStaging : Session := { session with blkSel := 4, blkAddr := 12582910 }

theorem staging_takes :
    let s := serving { single with upd := { state := 2, slot := some 2 } } atStaging
    reaches request s = true ∧ waiting request s < 32 ∧ atStaging.closing = false ∧ request.session ≠ 0 ∧ request.session = atStaging.ident ∧
    sessionOf atStaging.ident s = some atStaging ∧ atStaging.lastSeq < request.reqSeq ∧ s.hap.awaiting = [] ∧ atStaging.stored = none := by
  decide

theorem witness_ReadsAndWritesReachTheirPlace_bulk :
    (∀ op count body, admits op 0xF00008 count body atStaging (macked atStaging op 0xF00008 count body (requestOf 2 body))
      (serving { single with upd := { state := 2, slot := some 2 } } atStaging)) ∧ (requestOf 2 []).repeated = true ∧ (requestOf 2 []).held = false ∧
    atStaging.blkAddr + 2 ≤ objectSize atStaging.blkSel (serving single atStaging) ∧ atStaging.blkSel = 4 ∧
    stagingWritable atStaging (serving { single with upd := { state := 2, slot := some 2 } } atStaging) = true ∧
    Memory.wf 0xFF ({ state := 2, slot := some 2 } : Update).staging = true ∧
    1 ≤ objectSize 1 { single with log := { records := [evRecord 1 1 0] } } ∧
    (objectSize 2 { single with dmp := { valid := true } } = 1048576 ∧ objectSize 2 single = 0) :=
  ⟨fun op _ body => request_admitted op _ _ body _ _ _ (requestOf_form op body).2 staging_takes, by decide, by decide, by decide, by decide, by decide,
    by decide, by decide, by decide⟩

/-! ## Commands and unit-local writes -/

/-- A state in epoch 7 with one command due that was accepted in epoch 6. -/
def dueIn (b : State) (addr : Nat) (words : List Word) : State :=
  { b with ex := { epoch := 7, due := [{ addr, words, slot := 3, epoch := 6 }] } }

/-- The command of `dueIn`. -/
def dueCommand (addr : Nat) (words : List Word) : Command := { addr, words, slot := 3, epoch := 6 }

theorem due_in (b : State) (addr : Nat) (words : List Word) : dueIs addr words (dueCommand addr words) (dueIn b addr words) :=
  ⟨rfl, rfl, rfl, by show (6 : Nat) ≠ 7; decide⟩

theorem witness_ModeAndServiceCommandsTakeEffect :
    dueIs 0x1000C [activeWord 5 7] (dueCommand 0x1000C [activeWord 5 7]) (dueIn single 0x1000C [activeWord 5 7]) ∧
    ((5 : Nat) < 8 ∧ (7 : Nat) < 8 ∧ funcOf 5 = some .berthPush) ∧
    ((dueIn { single with mir := { mode := { pairMode := .standby } } } 0 []).mir.mode.pairMode = .standby ∧
      (dueIn single 0 []).um.mode = .standby) ∧
    (inActive.mir.mode.pairMode = .active ∧ inActive.um.mode = .active) ∧
    dueIs 0x20030 [pack [(127, 7, 0)]] (dueCommand 0x20030 [pack [(127, 7, 0)]]) (dueIn single 0x20030 [pack [(127, 7, 0)]]) ∧
    eventUnack 0 { single with evt := { unack := [0] } } = true ∧
    ((3 : Nat) < 4 ∧ single.mir.evt.masks.length = 4 ∧ dueIs (0x20020 + 4 * 3) [9] (dueCommand (0x20020 + 4 * 3) [9])
      (dueIn single (0x20020 + 4 * 3) [9])) ∧
    (namesUnit 0 single = true ∧ namesUnit 1 single = false ∧ ([0, 0, 0, 0] : List Word).length = 4) :=
  ⟨due_in _ _ _, by decide, by decide, by decide, due_in _ _ _, by decide, ⟨by decide, by decide, due_in _ _ _⟩, by decide⟩

theorem witness_ControlCommandsTakeEffect :
    (single.mir.alc.units.length = 16 ∧ single.mir.mpc.waypoints.length = 32) ∧
    dueIs 0x200084 [pack [(10, 4, 0), (255, 8, 16), (1, 1, 31)]] (dueCommand 0x200084 [pack [(10, 4, 0), (255, 8, 16), (1, 1, 31)]])
      (dueIn single 0x200084 [pack [(10, 4, 0), (255, 8, 16), (1, 1, 31)]]) ∧
    ((10 : Nat) < 11 ∧ (single.mir.ba.slots[10]?).isSome = true) ∧
    dueIs (0x202008 + 4 * 2) [1] (dueCommand (0x202008 + 4 * 2) [1]) (dueIn single (0x202008 + 4 * 2) [1]) ∧
    2 + ([1] : List Word).length ≤ 3 ∧ 127 + ([1] : List Word).length ≤ 128 ∧ ([1] : List Word) ≠ [] :=
  ⟨by decide, due_in _ _ _, by decide, due_in _ _ _, by decide, by decide, by decide⟩

theorem witness_SensorAndFieldCommandsTakeEffect :
    dueIs 0x300044 [0x102] (dueCommand 0x300044 [0x102]) (dueIn single 0x300044 [0x102]) ∧
    ((15 : Nat) < 16 ∧ (single.mir.siv[15]?).isSome = true ∧ (single.siv.chains[15]?).isSome = true) ∧
    ((bus { state := 4 }).fld.buses.length = 8 ∧ (0x1 : Word).toNat.testBit (1 - 1) = true ∧ (busState 1 (bus { state := 4 })).state = 4) ∧
    (single.mir.fld.warn.length = 8 ∧ 3 ≤ (busState 1 (bus { state := 4 })).state) ∧ single.mir.trv.channels.length = 8 ∧
    ((7 : Nat) < 8 ∧ single.trv.channels.length = 8) :=
  ⟨due_in _ _ _, by decide, by decide, by decide, by decide, by decide⟩

/-- A state in epoch 7 with one unit-local write due that came in epoch 6. -/
def localIn (m : Mode) (addr : Nat) (words : List Word) : State :=
  { um := { mode := m }, ex := { epoch := 7 }, hap := { localDue := [(addr, words, 6, 3)] } }

theorem local_in (m : Mode) (addr : Nat) (words : List Word) (h : localMode addr (localIn m addr words) = true) :
    localIs addr words 3 (localIn m addr words) := ⟨6, rfl, by show (6 : Nat) ≠ 7; decide, h⟩

theorem witness_UnitLocalWritesTakeEffect :
    localIs 0xFF0018 [9] 3 (localIn .hold 0xFF0018 [9]) ∧ (localIn .hold 0xFF0018 [9]).upd.commit = none ∧
    localIs 0xFF0018 [9] 3 (localIn .maintenance 0xFF0018 [9]) ∧ localIs 0xFF001C [9] 3 (localIn .hold 0xFF001C [9]) ∧
    localIs 0xFF0E48 [9] 3 (localIn .standby 0xFF0E48 [9]) ∧ localIs 0xFF0620 [0x80000000] 3 (localIn .active 0xFF0620 [0x80000000]) ∧
    localIs 0xFF110C [manualWord 10 255] 3 (localIn .maintenance 0xFF110C [manualWord 10 255]) ∧
    localIs 0xFF1114 [0x281] 3 (localIn .maintenance 0xFF1114 [0x281]) ∧ localIs 0xFF1200 [1] 3 (localIn .hold 0xFF1200 [1]) ∧
    localIs 0xFF1200 [3] 3 (localIn .active 0xFF1200 [3]) ∧ ({ commit := some 7 } : Update).commit.isSome = true :=
  ⟨local_in _ _ _ (by decide), by decide, local_in _ _ _ (by decide), local_in _ _ _ (by decide), local_in _ _ _ (by decide),
    local_in _ _ _ (by decide), local_in _ _ _ (by decide), local_in _ _ _ (by decide), local_in _ _ _ (by decide),
    local_in _ _ _ (by decide), by decide⟩

/-! ## Update, Kettle, panel, supply, faults -/

theorem witness_KettleTestsMarkAndRetire :
    (timerRuns { single with ex := { epoch := 200 } } = true ∧ commits single.um.mode = true ∧
      ({ single with ex := { epoch := 200 } } : State).ex.epoch % 200 = 0) ∧
    (single.ktl.manual = none ∧ single.ktl.directed = [] ∧ ({ pos := 254 } : Kettle).pos = 4 * 63 + 2 ∧ (2 = 1 ∨ 2 = 2) ∧
      ({ pos := 36 } : Kettle).pos = 4 * 9 ∧ ({ pos := 131 } : Kettle).pos = 4 * 32 + 3 ∧ single.fab.marked = []) ∧
    (({ marked := [1] } : Fabric).marked ≠ [] ∧ 9 % 8 ∈ ({ marked := [1] } : Fabric).marked ∧ 10 % 8 ∉ ({ marked := [1] } : Fabric).marked) ∧
    (recordedCrc 0 single = 0 ∧ 1 ≠ recordedCrc 0 single) ∧
    (({ directed := [7] } : Kettle).directed = 7 :: [] ∧ ({ manual := some (1, 2) } : Kettle).manual.isSome = true) := by decide +kernel

theorem witness_KettleTestsMarkAndRetire_slices :
    (({ running := some (1, 251, 3, false) } : Kettle).running = some (1, 251, 3, false) ∧ single.ktl.used0 = false ∧
      single.ktl.withdrawn0 = false ∧ single.ktl.manualHeld = false ∧ (251, true) ∉ single.ktl.injected ∧ (251, false) ∉ single.ktl.injected ∧
      (159, true) ∈ ({ injected := [(159, true)] } : Kettle).injected ∧ (128 : Nat) ≤ 159 ∧ (159 : Nat) < 160) ∧
    (({ manual := some (1, 2), manualHeld := true } : Kettle).manual = some (1, 2) ∧ single.fab.test = none ∧ single.fab.variantDue = none) ∧
    (({ running := some (0, 7, 3, true) } : Kettle).running = some (0, 7, 3, true) ∧ testPasses 7 true single = true ∧
      testPasses 7 false single = false ∧ single.fab.variant ≠ some 7 ∧ ({ marked := [1] } : Fabric).marked = [1] ∧ (1 : Nat) ≠ 7) ∧
    ({ retireDue := some 251 } : Kettle).retireDue = some 251 := by decide +kernel

theorem witness_KettleTestsMarkAndRetire_manual :
    (∃ n ∈ ({ untested := [599, 600] } : Kettle).untested, 600 ≤ n) ∧
    ({ manual := some (2, 251) } : Kettle).manual = some (2, 251) ∧ ({ manual := some (9, 0) } : Kettle).manual = some (9, 0) ∧
    (({ manual := some (3, 7) } : Kettle).manual = some (3, 7) ∧ 7 < single.trv.channels.length) ∧
    ({ manual := some (8, 255) } : Kettle).manual = some (8, 255) ∧ ({ manual := some (10, 7) } : Kettle).manual = some (10, 7) := by decide +kernel

/-- A panel whose update has driven row 127 for its 48 epochs, and one between two rows. -/
def driving (rows : List (Nat × List Byte)) : State :=
  { single with pnl := { state := 1, row := some 127, rows, rowFor := 48 } }

theorem witness_PanelDrivesCommitsAndGuards :
    panelRuns single = true ∧ (({ single with ex := { epoch := 3000 }, pnl := { fullPending := true } } : State).ex.epoch % 2000 = 1000 ∧
      ({ fullPending := true } : Panel).fullPending = true) ∧
    ((List.replicate 74 (1 : Byte)).length = 74 ∧ (127 : Nat) < 128 ∧ Memory.wf 0 ([] : List Host.Cell) = true ∧
      ({ row := some 127, rows := [(127, [])] } : Panel).row = some 127) ∧
    ({ row := some 0, rows := [(0, [])], compensating := true } : Panel).compensating = true ∧ single.ex.epoch % 2000 = 0 := by decide

/-- Fields as the registers of the snapshot give them (R408): MODE of a unit in STANDBY, and GRADE, whose text the table writes out. -/
theorem test_panel_fields :
    fieldText 3 (fieldParts 3 (fun a => (regAt (panelSnapshot single).regs a).getD 0) single) = txt "STANDBY" ∧
    fieldText 5 [txt "POS", digits 3, txt "HDG", digits 2] = txt "POS 3 HDG 2" := by decide +kernel

theorem witness_PanelDrivesCommitsAndGuards_rows :
    (lineEpochs (driving []) ≤ (driving []).pnl.rowFor ∧ panelRuns (driving []) = true ∧ (driving []).pnl.frozen = false) ∧
    ((driving [(127, []), (126, [])]).pnl.rows = (127, []) :: (126, []) :: [] ∧ 126 / 8 = 127 / 8 ∧ (126 : Nat) ≠ 127) ∧
    (single.pnl.rowFor < lineEpochs single) ∧
    (({ state := 2, rows := [(3, [])] } : Panel).state ≠ 0 ∧ ({ state := 2, rows := [(3, [])] } : Panel).row = none) :=
  ⟨⟨by decide, by decide, rfl⟩, ⟨rfl, by decide, by decide⟩, by decide, by decide, rfl⟩

/-- A row that differs from the glass is drawn: a full-refresh row here. -/
theorem witness_PanelDrivesCommitsAndGuards_drawn :
    (∃ r, r < 128 ∧ r ∈ ({ fullRows := [127] } : Panel).fullRows) ∧ ({} : Panel).fullPending = false := ⟨⟨127, by decide, by decide⟩, rfl⟩

/-- Some CRC differs from any given one. -/
theorem other_crc (n : Nat) : ∃ c : Nat, n ≠ ({ crc := c } : Panel).crc := ⟨n + 1, (Nat.succ_ne_self n).symm⟩

theorem witness_PanelDrivesCommitsAndGuards_crc : ∃ c : Nat, crc32 (memReads 0 [] 0 (74 * 128)) ≠ ({ crc := c } : Panel).crc :=
  other_crc _

theorem witness_BrokenGlassFreezesThePanel :
    panelRuns single = true ∧ ({ frozen := true, row := some 5, rows := [(5, []), (6, [])] } : Panel).frozen = true ∧
    ({ frozen := true, row := some 5, rows := [(5, []), (6, [])] } : Panel).row = some 5 ∧
    ({ frozen := true, compensating := true } : Panel).compensating = true ∧ (List.replicate 74 (1 : Byte)).length = 74 ∧
    (lineEpochs { driving [(127, [])] with pnl := { (driving [(127, [])]).pnl with frozen := true } } ≤ 48 ∧ (200 : Nat) ≤ 200 ∧ (199 : Nat) < 200) ∧
    (starts .power single ∧ starts (.supply 3789 50) supplyHeld ∧ starts (.monitor 7) monitorHeld) :=
  ⟨by decide, by decide, by decide, by decide, by decide, by decide, ⟨trivial, starts_each.2.1, starts_each.2.2⟩⟩

theorem witness_SupplyConditionsRaiseAndClear :
    timerRuns single = true ∧ single.sup.stable = false ∧ single.sup.keyPresent = false ∧ single.um.mode ≠ .load ∧
    (timerRuns loaded = true ∧ loaded.um.mode = .load ∧ loaded.um.loaded = true ∧ loaded.sup.keyPresent = false) ∧
    single.um.inReset = false ∧ (20992 : Int) < 20993 ∧ (23552 : Int) < 23553 ∧
    (200 ≤ ({ aLow := 200 } : Supply).aLow ∧ 200 ≤ ({ bLow := 200 } : Supply).bLow ∧ 200 < ({ aHigh := 201 } : Supply).aHigh ∧
      200 < ({ bHigh := 201 } : Supply).bHigh ∧ 4276 ≤ ({ pwrA := 4276 } : Supply).pwrA ∧ 4276 ≤ ({ pwrB := 4276 } : Supply).pwrB ∧
      ({ pwrA := 20991 } : Supply).pwrA < 20992 ∧ ({ pwrB := 20991 } : Supply).pwrB < 20992 ∧ 300 ≤ ({ warmS := 300 } : Supply).warmS) := by decide

theorem witness_HardwareFaultsStopAndAreCounted :
    (timerRuns single = true ∧ transition single.um.mode .hold = true ∧ commits single.um.mode = true ∧ single.dmp.valid = false ∧
      single.dmp.due = none) ∧
    ({ single with dmp := { valid := true } } : State).dmp.valid = true ∧ (0x800000 : Nat) ≤ 0x800000 ∧ (0x7FFFFF : Nat) < 0x800000 ∧
    ({ single with sup := { eccs := [5, 6] } } : State).sup.eccs = 5 :: [6] ∧
    (single.cfg.valid = true ∧ single.cfg.image.eccRate < single.cfg.image.eccRate + 1 + ([] : List Nat).sum) ∧
    single.um.inReset = false ∧ ([evRecord 1 1 0][0]? = some (evRecord 1 1 0)) ∧ (∀ i, MramItem.panel ≠ .record i) ∧
    ((inMode .hold).um.mode = .hold ∧ ({ due := some ⟨2, 1, 77, 5⟩ } : Dump).due = some ⟨2, 1, 77, 5⟩) :=
  ⟨by decide, by decide, by decide, by decide, by decide, by decide, by decide, by decide, fun _ h => MramItem.noConfusion h, by decide⟩

/-- SHA-256 of nothing and of the octets 0, …, 0, 7, as other programs compute them. -/
def hashNone : List Byte := beBytes 32 0xe3b0c44298fc1c149afbf4c8996fb92427ae41e4649b934ca495991b7852b855
def hashSeven : List Byte := beBytes 32 0xa3eb8db89fc5123ccfd49585059f292bc40a1c0d550b860f24f84efb4760fbf2

/-- An entry of a part table, of version 3 at 64 KB × k. -/
def partEntry (k len : Nat) (hash : List Byte) : List Byte :=
  beBytes 2 k ++ [0, 0] ++ beBytes 4 3 ++ beBytes 4 (0x10000 * k) ++ beBytes 4 len ++ hash

/-- A manifest of six parts, five of them empty; the sixth names the partner version 7. -/
def testManifest : List Byte :=
  beBytes 4 0x4D4E4654 ++ beBytes 2 1 ++ beBytes 2 6 ++ beBytes 4 376 ++ beBytes 4 1 ++ beBytes 2 0 ++ [0, 0, 0, 0, 0, 0] ++
    (([1, 2, 3, 4, 5] : List Nat).map fun k => partEntry k 0 hashNone).flatten ++ partEntry 6 8 hashSeven ++ List.replicate 64 0

/-- The update of a unit that runs version 7, with that manifest in staging. -/
def staged (st : Nat) : Update :=
  { bankA := { state := .confirmed, fw := some { (default : FwSet) with digest := 7 } }, running := .one, state := st
    staging := mapAt testManifest (fun i b => (i, b)) ++ mapAt (beBytes 8 7) fun i b => (0x60000 + i, b) }

/-- The microcode range and format that the manifest fits. -/
def verifying : State :=
  { single with upd := staged 3, cfg := { valid := true, image := { image with formatMajor := 0, formatMinor := 0, ucodeMin := 3, ucodeMax := 3 } } }

/-! Every check of the manifest but the signature holds of it: a signature that verifies makes it VERIFIED. -/

theorem lookup_cells (rest : List (Nat × Byte)) (l : List Byte) : ∀ k i : Nat, i < l.length →
    lookupNat (k + i) (l.mapIdx (fun j b => (k + j, b)) ++ rest) = l[i]? := by
  induction l with
  | nil => intro k i h; exact absurd h (Nat.not_lt_zero _)
  | cons b l ih =>
    intro k i h
    cases i with
    | zero => simp [List.mapIdx_cons, lookupNat]
    | succ i =>
      have := ih (k + 1) i (by simpa using h)
      simp only [List.mapIdx_cons, List.cons_append, lookupNat]
      rw [if_neg (by simp), ← Nat.add_assoc, show k + i + 1 = k + 1 + i by omega]
      simpa [Nat.add_assoc, Nat.add_comm 1] using this

theorem reads_cells (rest : List (Nat × Byte)) (l : List Byte) : memReads 0xFF (mapAt l (fun i b => (i, b)) ++ rest) 0 l.length = l := by
  apply List.ext_getElem?
  intro i
  by_cases h : i < l.length
  · have := lookup_cells rest l 0 i h
    simp only [Nat.zero_add] at this
    simp [memReads, memRead, mapAt, this, h]
  · simp [memReads, h]

theorem reads_rest (rest : List (Nat × Byte)) (l : List Byte) : ∀ k a : Nat, k + l.length ≤ a →
    lookupNat a (l.mapIdx (fun j b => (k + j, b)) ++ rest) = lookupNat a rest := by
  induction l with
  | nil => intro k a _; rfl
  | cons b l ih =>
    intro k a h
    have := ih (k + 1) a (by simp at h; omega)
    simp only [List.mapIdx_cons, List.cons_append, lookupNat]
    rw [if_neg (by simp at h; omega)]
    simpa [Nat.add_assoc, Nat.add_comm 1] using this

theorem manifest_length : testManifest.length = manifestLen := by decide +kernel

theorem manifest_staged : stagedManifest verifying = testManifest := by
  have := reads_cells (mapAt (beBytes 8 7) fun i b => (0x60000 + i, b)) testManifest
  rw [manifest_length] at this
  exact this

theorem content_staged : stagingOctets 0x60000 8 verifying = beBytes 8 7 := by
  have h (i : Nat) : lookupNat (0x60000 + i) verifying.upd.staging = lookupNat (0x60000 + i) (mapAt (beBytes 8 7) fun i b => (0x60000 + i, b)) := by
    have := reads_rest (mapAt (beBytes 8 7) fun i b => (0x60000 + i, b)) testManifest 0 (0x60000 + i)
      (by rw [manifest_length]; simp [manifestLen]; omega)
    simpa [verifying, staged, mapAt] using this
  simp only [stagingOctets, memReads, memRead, h]
  decide +kernel

theorem parts_staged : partsOf testManifest = [⟨1, 3, 0x10000, 0, hashNone⟩, ⟨2, 3, 0x20000, 0, hashNone⟩, ⟨3, 3, 0x30000, 0, hashNone⟩,
    ⟨4, 3, 0x40000, 0, hashNone⟩, ⟨5, 3, 0x50000, 0, hashNone⟩, ⟨6, 3, 0x60000, 8, hashSeven⟩] := by decide +kernel

theorem sha_none : sha256 [] = hashNone := by decide +kernel

theorem sha_seven : sha256 (beBytes 8 7) = hashSeven := by decide +kernel

theorem no_octets (o : Nat) (s : State) : stagingOctets o 0 s = [] := rfl

theorem staged_step1 : verifyStep 1 verifying = true := by
  simp only [verifyStep, manifest_staged]; decide +kernel

theorem staged_step3 : verifyStep 3 verifying = true := by
  simp only [verifyStep, show verifying.upd.floor = 0 from rfl, Nat.zero_le, decide_true]

theorem staged_step4 : verifyStep 4 verifying = true := by
  simp only [verifyStep, manifest_staged, parts_staged, List.all_cons, List.all_nil, no_octets, content_staged, sha_none, sha_seven,
    beq_self_eq_true, Bool.and_self]

theorem staged_step5 : verifyStep 5 verifying = true := by
  simp only [verifyStep, manifest_staged]; decide +kernel

theorem staged_step6 : verifyStep 6 verifying = true := by
  have p : partOf 6 testManifest = ⟨6, 3, 0x60000, 8, hashSeven⟩ := by simp [partOf, parts_staged]
  have h : expectedPartners testManifest verifying = [7] := by
    simp only [expectedPartners, p, show List.range (8 / 8) = [0] from rfl, List.map_cons, List.map_nil, Nat.mul_zero, Nat.add_zero,
      content_staged]
    decide +kernel
  simp only [verifyStep, manifest_staged, h]
  decide +kernel

theorem witness_UpdateAndRecoveryFollowTheirSteps :
    ({ state := 1 } : Update).state = 1 ∧ verifying.upd.state = 3 ∧ ({ state := 7 } : Update).state = 7 ∧
    verifyStep 1 { single with upd := { state := 3 } } = false ∧
    ((inMode .recovery).um.mode = .recovery ∧ (inMode .recovery).um.inReset = false ∧ (inMode .recovery).upd.recSeq ≠ some 0) ∧
    Memory.wf 0xFF (inMode .recovery).upd.staging = true ∧ single.upd.recVerified = false ∧
    ({ recVerified := true, recSeq := some 3 } : Update).recVerified = true := by decide +kernel

/-- A recovery request with the CRC over its octets. -/
def recRequest (op offset : Nat) (data : List Byte) : RecReq :=
  let r : RecReq := { port := .svc, source := (1, 2), dest := (0xA9FE6001, 47562), magic := 0x524C, zero := 0, seq := 0, offset
                      length := data.length, zero2 := 0, data, crc := 0 }
  { r with crc := crc32c (recoveryOctets op r) }

/-- Each operation is asked for by its request; a write that ends with staging is good, one beyond it or of three octets is not; a datagram
to the other unit, or with another CRC, is no request. -/
theorem witness_UpdateAndRecoveryFollowTheirSteps_asked :
    (∀ op offset data, loaderTakes op (recRequest op offset data) (inMode .recovery) = true) ∧
    recoveryWriteOk (recRequest 2 (48 * 2 ^ 20 - 4) [1, 2, 3, 4]) = true ∧
    recoveryWriteOk (recRequest 2 (48 * 2 ^ 20 - 4) [1, 2, 3, 4, 5, 6, 7, 8]) = false ∧ recoveryWriteOk (recRequest 2 0 [1, 2, 3]) = false ∧
    recoveryWriteOk { recRequest 2 0 [1, 2, 3, 4] with zero := 1 } = false ∧ recoveryWriteOk { recRequest 2 0 [1, 2, 3, 4] with length := 8 } = false ∧
    loaderTakes 1 { recRequest 1 0 [] with dest := (0xA9FE6002, 47562) } (inMode .recovery) = false ∧
    loaderTakes 1 { recRequest 1 0 [] with crc := 0 } (inMode .recovery) = false := by
  refine ⟨fun op offset data => ?_, by decide +kernel⟩
  have h : loaderAddress (inMode .recovery) = 0xA9FE6001 := by decide +kernel
  simp [loaderTakes, recRequest, recoveryOctets, h, loaderUdpPort]

/-- An ERASE request before its CRC (R446): MAGIC, OP 1, and zeros. -/
theorem test_recovery_octets : recoveryOctets 1 (recRequest 1 0 []) = [0x52, 0x4C, 1, 0, 0, 0, 0, 0, 0, 0, 0, 0, 0, 0, 0, 0] := by decide +kernel

theorem witness_UpdateAndRecoveryFollowTheirSteps_verified (h : verifyStep 2 verifying = true) :
    verifying.upd.state = 3 ∧ ∀ k, 1 ≤ k → k ≤ 6 → verifyStep k verifying = true := by
  refine ⟨by decide, fun k h1 h6 => ?_⟩
  obtain rfl | rfl | rfl | rfl | rfl | rfl : k = 1 ∨ k = 2 ∨ k = 3 ∨ k = 4 ∨ k = 5 ∨ k = 6 := by omega
  · exact staged_step1
  · exact h
  · exact staged_step3
  · exact staged_step4
  · exact staged_step5
  · exact staged_step6

/-! ## Worked examples of the manual -/

/-- 180.001 953 125 kN and 180.005 859 375 kN lie halfway: the even code is kept (example after R11). -/
theorem test_convergent_rounding : roundDiv (180001953125 * 256) (10 ^ 9) = 46080 ∧ roundDiv (180005859375 * 256) (10 ^ 9) = 46082 := by decide

/-- −180 kN is 0xFFFF_4C00; −352.910 m in sQ19.12 is 0xFFE9_F171 (examples of chapters 0 and 18). -/
theorem test_signed_codes : wordS (some (-46080)) = 0xFFFF4C00 ∧ wordS (some (roundDiv (-352910 * 4096) 1000)) = 0xFFE9F171 := by decide

/-- The multiplier and the collapsing pivot of the example of chapter 5. -/
theorem test_pivot_collapse :
    narrow 48 24 (2097151 * 67108864) = some 0x7FFFFC ∧ narrow 48 24 (1048576 * 2 ^ 24 - 8388604 * 2097151) = some 1 := by decide

/-- Unit pivots before shared ones and primal before dual (R115), and the counts of R173. -/
theorem test_schedule_order : (blockTags 0).length = 8 ∧ (blockTags 1).length = 6 ∧ (blockTags 2).length = 8 ∧
    ordered [{ op := .param 1 0, owner := some 0 }, { op := .pivot 0 .primal, owner := some 0 }, { op := .pivot 0 .dual, owner := some 0 },
      { op := .pivot 0 .dual }] = true ∧
    ordered [{ op := .param 1 0, owner := some 0 }, { op := .pivot 0 .dual }, { op := .pivot 0 .primal, owner := some 0 }] = false := by
  decide

/-- A triangular matrix of one variable, with and without the test of its pivot (R114). -/
theorem test_pivots_tested :
    compiled { image with schedules := [{ cls := 0, vars := [{ tag := 0 }], positions := [(0, 0, 0)]
                                          steps := [{ op := .param 1 0 }, { op := .pivot 0 .diagonal }] }] } = true ∧
    compiled { image with schedules := [{ cls := 0, vars := [{ tag := 0 }], positions := [(0, 0, 0)], steps := [{ op := .param 1 0 }] }] } = false := by
  decide +kernel

/-- LDL_ALC_WARM of a mapped start on 45 of 45 tags (chapter 6). -/
theorem test_warm_register : warmWord { mode := 2, cause := 0, matched := 45, total := 45 } = 0x8002D02D := by decide

/-- LOC_SKL_STATE and LOC_SKL_RELOC while Skillet 3 is out (chapter 6). -/
theorem test_skillet_registers :
    locFabricRegs { single with fab := { test := some 3, variant := some 3, reloc := 421888 } } = [(0xFF0400, [0x33, 0, 0x67000, 0, 0])] := by
  decide

/-- EST_BA_ACCEPT of slot 9 with sequence number 1 puts −0.62° in force (chapter 7). -/
theorem test_bundle_acceptance :
    pack [(9, 4, 0), (1, 8, 16)] = 0x00010009 ∧
    ∃ t x, exec (.estBaAccept .effect 9 1) (dueIn { single with mir := { ba := { slots := modAt (List.replicate 11 {}) 9 fun b =>
      { b with seq := 1, state := 2, pending := ⟨none, none, none, some (-5809502)⟩ } } } } 0x200084 [0x00010009]) = .next t ∧
      t.mir.ba.slots[9]? = some x ∧ x.inForce.dpsi = some (-5809502) ∧ x.accepted = true ∧ x.state = 1 :=
  ⟨by decide, _, _, rfl, rfl, by decide, rfl, rfl⟩

/-- CQA_8_VERDICT of the example of chapter 8. -/
theorem test_case_verdict :
    regAt (cqaRegs { single with
      cfg := { valid := true, image := { image with cases := List.replicate 8 {} ++ [{ kind := 2, index := 3 }] } }
      mir := { cqa := { cases := List.replicate 8 {} ++
        [{ verdict := 2, committed := true, converged := true, socMin := 61, cause := 0x18 }] } } }) (0x203100 + 0x80) = some 0xA2033D18 := by
  decide +kernel

/-- The increment for y = +25 ppb (25 × 10⁻⁹ × 2⁴⁸), and with the slew of 143 codes at the 10 ppb limit (chapter 11). -/
theorem test_increment :
    roundDiv (slewTerm { single with time := { slewing := true, slewLeft := -520 * 2 ^ 32 } }) 1000000000 = 143 ∧
    increment 7036874 (slewTerm { single with time := { slewing := true, slewLeft := -520 * 2 ^ 32 } }) = 0x35555547E := by decide

/-- The header of chain 0's state during cross-fade sample 1 (chapter 12). -/
theorem test_sieve_state :
    regAt (sivRegs { single with
      cfg := { valid := true, image := { image with chains := [{ mode := 1, rate := 2, taps := 127, current := true }] } }
      mir := { siv := [{ phase := 2, setShown := 1, fade := 7 }] } }) 0x600104 = some 0x1289077F := by decide +kernel

/-- LOC_CAN_3_STATE between bus-off and recovery (chapter 14). -/
theorem test_can_state :
    (locFieldRegs { active with ex := { epoch := 7000003 }
                                fld := { buses := [{}, {}, { state := 3, txErr := 255, recoveries := [1] }] } })[2]? =
      some (0xFF0920, [0x0310FF00, 0]) := by decide +kernel

/-- LOC_TNG_LINK of the unmirrored standby (chapter 15). -/
theorem test_tongs_link :
    ((locPairRegs { standby with pair := { ringPath := true, ringActive := true, phase := .unmirrored } })[0]?.map fun r => r.2[0]?) =
      some (some 0x00002660) := by decide

/-- TRV_CH_1_STATE before the trip and with SLT latched (chapter 16). -/
theorem test_channel_state :
    ((trvRegs { single with
      cfg := { valid := true, image := { image with units := [{}, { channel := some 1 }] } }
      mir := { trv := { channels := [{}, { permit := true, run := 39 }] } } })[1]?.map fun r => r.2[1]?) = some (some 0x10800027) ∧
    ((trvRegs { single with
      cfg := { valid := true, image := { image with units := [{}, { channel := some 1 }] } }
      mir := { trv := { channels := [{}, { slt := true, run := 40 }] } } })[1]?.map fun r => r.2[1]?) = some (some 0x10010028) := by
  decide +kernel

/-- The record of laser 2's outliers, octets 0 to 27 (chapter 17). -/
theorem test_recorder_record :
    (recordWords { opTime := 1234567890, cycle := 57, epoch := 12345678, event := 0x52, kind := 1, flags := 1, rep := 599
                   lastDelta := 5990, w0 := 1, w1 := 0, value := 0, corrupt := false }).take 7 =
      [0x00499602, 0xD2000039, 0x000000BC, 0x614E5201, 0x01000257, 0x00001766, 0x00000001] := by decide +kernel

/-- MOD_CMD with FUNC 5 and BERTH 2; MOD_FUNC and MOD_MODE_EPOCH in ACTIVE (chapter 19). -/
theorem test_mode_registers :
    activeWord 5 2 = 0x00020504 ∧ ((modeRegs { inActive with ex := { epoch := 9000002 }, mir := { mode := {
      pairMode := .active, func := some .autoPosition, modeEpoch := 8640001, funcEpoch := 8700001 } } })[0]?.map fun r =>
        [r.2[0]?, r.2[1]?, r.2[4]?, r.2[5]?, r.2[6]?, r.2[7]?]) =
      some [some 4, some 0x300, some 0x0083D601, some 0x0084C061, some 0, some 0x00895442] := by decide +kernel

/-- The rotation at P mod 256 = 85 takes slice 170, and its failure shows in the registers (chapter 21). -/
theorem test_rotation :
    rotation 85 = (1, 170) ∧
    (∃ t, exec .sliceRetire { single with ktl := { lastPos := 85, lastKind := 1, lastItem := 170, retireDue := some 170 } } = .next t ∧
      locKettleRegs t = [(0xFF1100, [0x005540AA, 0xAA000001, 0x50AA0001, 0, 0, 0, 0])]) :=
  ⟨by decide, _, rfl, by decide⟩

/-- EV_023 with word 1 set to 0x2 follows a bank that failed on trial (chapter 22): the other bank starts. -/
theorem test_failed_bank_is_left :
    ∃ t, exec (.bootComplete true ⟨true, true⟩ ⟨true, true⟩) { State.reset with
      upd := { bankA := { state := .confirmed, fw := some default }, bankB := { state := .failed, fw := some default }, running := .two
               selected := .one, trialFailed := true } } = .next t ∧
      t.upd.running = .one ∧ (t.evt.due.any fun d => d.event == 23 && d.w1 == 2) = true := ⟨_, rfl, by decide, by decide⟩

/-- FIPS 180-4: SHA-256 of "abc"; CRC-32C and CRC-32 of "123456789". -/
theorem test_digests :
    beNat (sha256 (ascii [97, 98, 99])) = 0xba7816bf8f01cfea414140de5dae2223b00361a396177a9cb410ff61f20015ad ∧
    crc32c (ascii [49, 50, 51, 52, 53, 54, 55, 56, 57]) = 0xE3069283 ∧ crc32 (ascii [49, 50, 51, 52, 53, 54, 55, 56, 57]) = 0xCBF43926 := by
  decide +kernel

/-! ## Ill-formed commands -/

def illOf (l : List Instr) : Bool := l.all fun i => !wellFormed i

def head (f : TongsHeader → TongsHeader) : TongsHeader := f (tongs .a 0)
def rec (f : InRecord → InRecord) : InRecord := f (aRecord 0)
def noMode : HeartbeatBody :=
  { mode := .standby, mirrored := false, single := false, locked := false, phase := .none, holdCause := 0, imageId := 0, fwDigest := 0
    txTick := 0, txTime := 0, echoTick := 0, echoRx := 0, copyStart := 0, stepAt := 0, stepNs := 0, digest := none }

theorem smoke_start_and_epoch : illOf
    [.keyReading noKey, .selftestComplete (findings [8] [] false []), .selftestComplete (findings [] [127] false []),
     .selftestComplete (findings [] [256] false []), .selftestComplete (findings [] [] false [(8, 1)]),
     .selftestComplete (findings [] [] false [(0, 6)]), .selftestComplete (findings [] [] false [(0, 0)]), .inputCutoff (2 ^ 32),
     .kettleOpportunity (2 ^ 32), .inputCommit [.case 64], .resetRelease (.supply 65536 50) true false, .supplyReset 65536 true,
     .trivetSample (2 ^ 32), .heartbeatSend 150000, .feedbackTimeout 16, .feedbackDiscrepancy 16, .thrustUnitRejoin 16, .sectionLimitStale 9,
     .sectionLimitStale 0, .joystickPanelTimeout 4, .sltTrip 8, .stsTrip 8, .arbitrationOutcomeSend (2 ^ 64), .commandFrameEmit 500000,
     .canRelease 500, .canWithdrawal 0 0 0 false, .canWithdrawal 9 0 0 false, .canWithdrawal 1 0 500 false] = true := by decide +kernel

theorem smoke_readings : illOf
    [.snapshotPublish readings, .snapshotPublish { readings with antennaMa := [0, 0, 0, 0], overloads := 65536 },
     .snapshotPublish { readings with antennaMa := [0, 0, 0, 0], served := 33 }, .snapshotPublish { readings with antennaMa := [0, 0, 0, 0], peak := 513 }] =
    true := by decide +kernel

theorem smoke_safe_io : illOf
    [.trivetRecordClose (2 ^ 32), .antivalenceFault 16, .antivalenceFaultClear 16, .pulseSenseCheck 8 true, .senseNodeCheck 256 0,
     .senseNodeCheck 0 256, .outputOvercurrent 8, .outputTestOverdue 8, .pwrOutOutOfRange 65536, .pwrOutRestored 65536, .wirechkTimeout 8,
     .trvWirechkOn .effect 8, .trvWirechkOff .effect 8] = true := by decide +kernel

theorem smoke_tongs : illOf
    [.tongsRecordFrameRx (tongs .a 500000) [aRecord 0], .tongsRecordFrameRx (head fun h => { h with epoch := 2 ^ 48 }) [aRecord 0],
     .tongsRecordFrameRx (head fun h => { h with index := 256 }) [aRecord 0], .tongsRecordFrameRx (head fun h => { h with count := 256 }) [aRecord 0],
     .tongsRecordFrameRx (tongs .a 0) [], .tongsRecordFrameRx (tongs .a 0) (List.replicate 35 (aRecord 0)),
     .tongsRecordFrameRx (tongs .a 0) [rec fun r => { r with source := 65536 }], .tongsRecordFrameRx (tongs .a 0) [rec fun r => { r with seq := 2 ^ 32 }],
     .tongsRecordFrameRx (tongs .a 0) [rec fun r => { r with stamp := 2 ^ 64 }], .tongsRecordFrameRx (tongs .a 0) [rec fun r => { r with tov := 2 ^ 64 }],
     .tongsRecordFrameRx (tongs .a 0) [rec fun r => { r with payload := List.replicate 97 0 }], .tongsAckRx (tongs .a 500000) [],
     .tongsAckRx (tongs .a 0) (List.replicate 129 ⟨.a, 0, 0⟩), .tongsDigestRx (tongs .a 500000) (digestOf 0 0),
     .tongsDigestRx (tongs .a 0) (digestOf (2 ^ 64) 0), .tongsDigestRx (tongs .a 0) (digestOf 0 (2 ^ 64)), .tongsHeartbeatRx (tongs .a 500000) noMode 0,
     .tongsHeartbeatRx (tongs .a 0) { noMode with imageId := 2 ^ 64 } 0, .tongsHeartbeatRx (tongs .a 0) { noMode with fwDigest := 2 ^ 64 } 0,
     .tongsPageRx (tongs .a 500000) 0 (List.replicate 4096 0), .tongsPageRx (tongs .a 0) 512 (List.replicate 4096 0), .tongsPageRx (tongs .a 0) 0 [],
     .tongsAuditRx (tongs .a 500000) 0 (List.replicate 64 0), .tongsAuditRx (tongs .a 0) 512 (List.replicate 64 0), .tongsAuditRx (tongs .a 0) 0 [],
     .tongsOutcomeRx (tongs .a 500000) true, .tongsUpdateStatusRx (tongs .a 500000) ⟨0, false, 0⟩, .tongsUpdateStatusRx (tongs .a 0) ⟨16, false, 0⟩,
     .tongsUpdateStatusRx (tongs .a 0) ⟨0, false, 2 ^ 64⟩] = true := by decide +kernel

theorem smoke_ring_and_field : illOf
    [.ringCommandFrameRx (goodRx 1 420) (frameOf .a), .ringHeartbeatRx (goodRx 3 40) { beatOf .a with epoch := 2 ^ 32 },
     .ringHeartbeatRx (goodRx 3 40) { beatOf .a with imageId := 2 ^ 64 }, .ringHeartbeatRx (goodRx 3 40) { beatOf .a with fwDigest := 2 ^ 64 },
     .ringHeartbeatRx (goodRx 256 40) (beatOf .a), .ringHeartbeatRx (goodRx 3 65536) (beatOf .a),
     .ringHeartbeatRx { goodRx 3 40 with version := 256 } (beatOf .a), .ringHeartbeatRx { goodRx 3 40 with src := 2 ^ 48 } (beatOf .a),
     .ringHeartbeatRx { goodRx 3 40 with hsrSeq := 65536 } (beatOf .a),
     .ringFrameForward { hsr true with hsrSeq := 65536 }, .ringFrameForward { hsr true with source := 2 ^ 48 },
     .feedbackFrameRx (goodRx 2 48) 0 { feedbackOf 256 with fbSeq := 1 },
     .feedbackFrameRx (goodRx 2 48) 0 { feedbackOf 0 with fbSeq := 65536 }, .canMessageRx { canRx true with bus := 0 },
     .canMessageRx { canRx true with ident := 2 ^ 11 }, .canMessageRx { canRx true with ident := 2 ^ 29, extended := true },
     .serialSentenceRx { sentence true with port := 9 }, .sieveSample ⟨16, 0, [], false, none⟩,
     .multipathFit .one 2 0, .multipathFit .one 0 60, .antennaShort .one 2 0,
     .antennaShort .one 0 65536, .channelReallocation .one [⟨5, 1, 0, 1⟩] [], .channelReallocation .two [] [⟨0, 1, 0, 3⟩],
     .gnssSolution { solution none with ant0 := { antennaObs with sats := [⟨0, 1, 0, 0, 0, 0, [], none⟩] } },
     .gnssSolution { solution none with ant1 := { antennaObs with sats := [⟨0, 1, 0, 0, 0, 0, [⟨true, [], 0, 0⟩], none⟩] } }, .antennaOpen .one 2, .antennaSupplyRetry .one 2 true, .txStamp 65536 0,
     .canErrorWarning 0 0 0, .canErrorPassive 9 0 0, .canErrorWarning 1 256 0, .canErrorPassive 1 0 256, .canBusOff 0,
     .ptpMessageRx .one false ⟨16, 0, 0, 0, 0⟩ (.sync 0), .ptpMessageRx .one false ⟨2, 256, 0, 0, 0⟩ (.sync 0),
     .ptpMessageRx .one false ⟨2, 0, 2 ^ 80, 0, 0⟩ (.sync 0), .ptpMessageRx .one false ⟨2, 0, 0, 65536, 0⟩ (.sync 0), .canBusRecovery 9, .serialPortErrors 0, .canTransmitComplete 9 0,
     .burdenOvercurrent 16 0, .burdenReconnect 16, .ptpMessageSend .one false 7 0, .ptpMessageSend .one false 0 65536,
     .sivSetSelect .effect 16 0, .canWarnWrite .effect 0 0, .canWarnWrite .effect 9 0] = true := by decide +kernel

/-- A request with one field out of its range. -/
def wide : HapReq := { request with reqSeq := 2 ^ 32 }

theorem smoke_host_access : illOf
    [.hapRead { request with session := 65536 } 0 1, .hapRead wide 0 1, .hapRead { request with holdId := 256 } 0 1,
     .hapRead { request with served := 33 } 0 1, .hapRead { request with source := (2 ^ 32, 0) } 0 1, .hapRead { request with dest := (0, 65536) } 0 1,
     .hapRead { request with magic := 65536 } 0 1, .hapRead { request with version := 256 } 0 1, .hapRead { request with length := 65536 } 0 1,
     .hapRead { request with addr := 2 ^ 32 } 0 1, .hapRead { request with count := 65536 } 0 1, .hapRead { request with flags := 256 } 0 1, .hapRead { request with mac := [0] } 0 1, .hapRead request 0 0, .hapRead request 0 257, .registerWrite wide 0 [0], .registerWrite request 0 [],
     .registerWrite request 0 (List.replicate 257 0), .hapOpen wide 0 true (List.replicate 16 0) (List.replicate 16 0) 0,
     .hapOpen request 256 true (List.replicate 16 0) (List.replicate 16 0) 0, .hapOpen request 0 true [] (List.replicate 16 0) 0,
     .hapOpen request 0 true (List.replicate 16 0) [] 0, .hapOpen request 0 true (List.replicate 16 0) (List.replicate 16 0) 65536,
     .hapClose wide, .snapHold wide, .snapRelease wide, .keepalive wide, .notifyAck wide 0, .notifyAck request (2 ^ 32), .notificationResend 8,
     .sessionTimeout 8, .blkSel wide 0, .blkAddr wide 0, .blkDataRead wide 1, .blkDataRead request 0, .blkDataWrite wide [0],
     .blkDataWrite request []] = true := by decide +kernel

theorem smoke_commands : illOf
    [.cmdToActive .effect 256 0, .cmdToActive .effect 0 256, .cmdSelectFunction .effect 256 0, .cmdSelectFunction .effect 0 256,
     .evtAckEvent .effect 128, .evtMask .effect 4 0, .logClear .effect 0 (List.replicate 5 0), .estBaAccept .effect 16 0, .estBaAccept .effect 0 256,
     .estBaReject .effect 16 0, .estBaReject .effect 0 256, .mpcTargetWrite .effect 3 [], .mpcTrkWaypointWrite .effect 128 [],
     .lifeCycleTransition .effect 0 (List.replicate 5 0), .ktlManualSkilletTest .effect 256, .ktlManualSliceMarch .effect 256,
     .ktlManualOutputTest .effect 256, .ktlInjectCorrectable .effect 256, .ktlInjectUncorrectable .effect 256, .ktlInjectSkilletFail .effect 256] =
    true := by decide +kernel

theorem smoke_update_and_faults : illOf
    [.recoveryErase { recRequest 1 0 [] with seq := 2 ^ 32 } true, .recoveryWrite { recRequest 2 0 [] with offset := 2 ^ 32 },
     .recoveryWrite { recRequest 2 0 [] with length := 65536 }, .recoveryWrite { recRequest 2 0 [] with source := (2 ^ 32, 0) },
     .recoveryErase { recRequest 1 0 [] with dest := (0, 65536) } true, .recoveryErase { recRequest 1 0 [] with magic := 65536 } true,
     .recoveryVerify { recRequest 3 0 [] with zero := 256 }, .recoveryInstall { recRequest 4 0 [] with zero2 := 65536 },
     .recoveryInstall { recRequest 4 0 [] with crc := 2 ^ 32 },
     .eccUncorrectable ⟨2 ^ 24⟩, .eccCorrected ⟨2 ^ 24⟩, .mramUncorrectable (.record 524288), .busWarning 65536, .busWarningClear 65536,
     .knownAnswerFailure 8] = true := by decide +kernel

theorem long_data (r : RecReq) (h : r.data.length = 65536) : wellFormed (.recoveryWrite r) = false := by
  show recReqOk r = false
  simp [recReqOk, h, below]

theorem smoke_long_data : wellFormed (.recoveryWrite { recRequest 2 0 [] with data := List.replicate 65536 0 }) = false :=
  long_data _ List.length_replicate

end Sys2Proof.Machine.Tests
end

section
/-! The recorder (R357 to R363): what one due record does to it, what stands in it after a clear, and that a full recorder is left as it is by
every command but the commit at E+80 µs and an error in MRAM. -/

namespace Sys2Proof.Machine

/-! ## Events beside the recorder -/

/-- An inactive source is ACTIVE once its bits are set. -/
theorem eventActive_setRaised_of_inactive {e : Nat} {s : State} (h : eventActive e s = false) : eventActive e (setRaised e s) = true := by
  have hr : eventActive e (raise e s) = true := raise_active e s
  unfold raise raiseWith at hr
  rw [h] at hr
  obtain ⟨a, b, hn⟩ := noteIndex_eq e 0xFFFFFFFF (setRaised e s)
  rw [hn] at hr
  exact hr

/-! ## Notifications -/

theorem notifySession_log (d : DueRecord) (ident : Nat) (s : State) : (notifySession d ident s).log = s.log := by
  unfold notifySession
  split
  · split
    · rfl
    · split
      · simp [loseNotice, modSession]
      · simp [sendNotice, modSession]
  · rfl

theorem foldl_notifySession_log (d : DueRecord) (l : List Nat) (s : State) :
    (l.foldl (fun s i => notifySession d i s) s).log = s.log := by
  induction l generalizing s with
  | nil => rfl
  | cons i r ih => rw [List.foldl_cons, ih, notifySession_log]

theorem notifyAll_log (l : List DueRecord) (s : State) : (notifyAll l s).log = s.log := by
  unfold notifyAll
  induction l generalizing s with
  | nil => rfl
  | cons d r ih =>
    rw [List.foldl_cons, ih]
    split
    · exact foldl_notifySession_log _ _ _
    · rfl

/-- Without a session nothing is notified. -/
theorem notifyAll_of_no_session (l : List DueRecord) {s : State} (h : s.hap.sessions = []) : notifyAll l s = s := by
  unfold notifyAll
  induction l with
  | nil => rfl
  | cons d r ih =>
    have hd : (if notified d s then (s.hap.sessions.map (·.ident)).foldl (fun s i => notifySession d i s) s else s) = s := by
      rw [h]
      exact ite_self s
    rw [List.foldl_cons, hd, ih]

/-! ## One due record (R360, R361) -/

/-- A due record that folds into no record has no place to fold into (R360). -/
theorem foldTarget_none {d : DueRecord} {n : Nat} {l : Bool} {rs : List EvRecord} (h : ∀ r ∈ rs, folds d n r = false) :
    ((lastOfScope l rs).bind fun i => (rs[i]?).bind fun r => if folds d n r then some i else none) = none := by
  refine Option.bind_eq_none_iff.mpr fun i _ => Option.bind_eq_none_iff.mpr fun r hr => ?_
  rw [h r (List.mem_of_getElem? hr)]
  rfl

/-- A full recorder takes no record. -/
theorem writeRecord_of_full (d : DueRecord) {s : State} (h : s.log.full = true) : writeRecord d s = s := by
  unfold writeRecord
  rw [if_pos h]

section
variable {d : DueRecord} {s : State} (hfull : s.log.full = false) (hfold : ∀ r ∈ s.log.records, folds d s.ex.epoch r = false)
include hfull hfold

/-- A record that does not fold takes the next index. -/
theorem writeRecord_append (hlen : s.log.records.length ≠ lastIndex) :
    writeRecord d s = { s with log := { s.log with records := s.log.records ++ [newRecord d s] } } := by
  unfold writeRecord
  simp only [hfull, foldTarget_none hfold, if_neg hlen, Bool.false_eq_true, if_false]

/-- At the last index a record of EV_018 is written in its place, and recording stops. -/
theorem writeRecord_last_log (hlen : s.log.records.length = lastIndex) :
    (writeRecord d s).log =
      { s.log with records := s.log.records ++ [newRecord { event := 18, kind := 1 } s], full := true } := by
  unfold writeRecord
  simp only [hfull, foldTarget_none hfold, if_pos hlen, Bool.false_eq_true, if_false]
  split
  · rfl
  · simp

/-- At the last index EV_018 becomes ACTIVE. -/
theorem writeRecord_last_active (hlen : s.log.records.length = lastIndex) : eventActive 18 (writeRecord d s) = true := by
  unfold writeRecord
  simp only [hfull, foldTarget_none hfold, if_pos hlen, Bool.false_eq_true, if_false]
  split
  · rename_i hact
    exact hact
  · rename_i hact
    exact eventActive_setRaised_of_inactive (Bool.eq_false_iff.mpr hact)

end

theorem writeRecord_hap (d : DueRecord) (s : State) : (writeRecord d s).hap = s.hap := by
  unfold writeRecord
  dsimp only
  split
  · rfl
  · split
    · rfl
    · split
      · split
        · rfl
        · simp
      · rfl

/-! ## The records due -/

/-- With a full recorder the records due are lost. -/
theorem writeDue_of_full {s : State} (h : s.log.full = true) : writeDue s = { s with evt := { s.evt with due := [] } } := by
  have hl : ∀ l : List DueRecord, l.foldl (fun s d => writeRecord d s) s = s := by
    intro l
    induction l with
    | nil => rfl
    | cons d r ih => rw [List.foldl_cons, writeRecord_of_full d h, ih]
  unfold writeDue
  dsimp only
  rw [hl]

theorem writeDue_of_one {d : DueRecord} {s : State} (h : s.evt.due = [d]) :
    writeDue s = { writeRecord d s with evt := { (writeRecord d s).evt with due := [] } } := by
  unfold writeDue
  rw [h]
  rfl

/-- E+500 µs with a full recorder leaves it whole. -/
theorem recorderWrite_of_full {s : State} (h : s.log.full = true) : ∃ t, exec .recorderWrite s = .next t ∧ t.log = s.log := by
  refine ⟨_, rfl, ?_⟩
  dsimp only
  rw [notifyAll_log, writeDue_of_full]
  · simp only [notifyAll_log]
  · simpa only [notifyAll_log] using h

/-- E+500 µs with one record due and no session: that record is written. -/
theorem recorderWrite_of_one_due {d : DueRecord} {s : State} (hdue : s.evt.due = [d]) (hwritten : s.evt.written = [])
    (hsessions : s.hap.sessions = []) :
    ∃ t, exec .recorderWrite s = .next t ∧ t.log = (writeRecord d s).log ∧ eventActive 18 t = eventActive 18 (writeRecord d s) := by
  have hs : ({ s with evt := { s.evt with written := [] } } : State) = s := by rw [← hwritten]
  have hw : (writeDue s).hap.sessions = [] := by rw [writeDue_of_one hdue, ← hsessions, ← writeRecord_hap d s]
  refine ⟨_, rfl, ?_⟩
  dsimp only
  rw [notifyAll_of_no_session _ hsessions, notifyAll_of_no_session _ hsessions, hs, notifyAll_of_no_session _ hw, writeDue_of_one hdue]
  exact ⟨rfl, rfl⟩

/-! ## The clear (R363) -/

/-- What a clear leaves: EV_019 at index 0, recording on, EV_018 not ACTIVE. -/
theorem clearRecorder_recorder (slot : Nat) (s : State) :
    (∃ r, (clearRecorder slot s).log.records = [r] ∧ r.event = 19) ∧ (clearRecorder slot s).log.full = false ∧
      eventActive 18 (clearRecorder slot s) = false := by
  unfold clearRecorder
  refine ⟨⟨_, rfl, rfl⟩, ?_, ?_⟩
  · simp
  · exact (cleared_clearEvent 18 _).inactive

/-- The token's registers have no effect of their own. -/
theorem applyWord_logToken (slot : Nat) (rs : List (Nat × Word)) (w : Word) (s : State) :
    ∀ a ∈ [0xB00004, 0xB00008, 0xB0000C, 0xB00010], applyWord slot rs a w s = s := by
  intro a ha
  simp only [List.mem_cons, List.not_mem_nil, or_false] at ha
  obtain rfl | rfl | rfl | rfl := ha <;> rfl

/-- LOG_CLEAR of this unit takes effect: the recorder is cleared. -/
theorem applyCommand_logClear {c : Command} {u : Word} {tok : List Word} {s : State} (haddr : c.addr = 0xB00000) (hwords : c.words = u :: tok)
    (htok : tok.length = 4) (hunit : namesUnit u s = true) : applyCommand c s = clearRecorder c.slot s := by
  obtain ⟨w1, w2, w3, w4, rfl⟩ : ∃ w1 w2 w3 w4, tok = [w1, w2, w3, w4] := List.length_eq_four.mp htok
  have hregs : regsOf c.addr c.words = [(0xB00000, u), (0xB00004, w1), (0xB00008, w2), (0xB0000C, w3), (0xB00010, w4)] := by
    rw [haddr, hwords]
    rfl
  have hclear : ∀ rs, applyWord c.slot rs 0xB00000 u s = if namesUnit u s then clearRecorder c.slot s else s := fun rs => rfl
  unfold applyCommand
  rw [hregs]
  simp [hclear, hunit, applyWord_logToken]

/-- Outside the unit-local page the effect of a command is that of an accepted command. -/
theorem exactCommand_effect {addr : Nat} (haddr : isLocal addr = false) (words : List Word) (s : State) :
    exactCommand .effect addr words s = effectMirrored addr (· == words) s := by
  unfold exactCommand commandPoint
  simp only [haddr, Bool.false_eq_true, if_false]

/-- The one due command at an address takes effect. -/
theorem effectMirrored_of_dueIs {addr : Nat} {words : List Word} {c : Command} {hit : List Word → Bool} {s : State} (h : dueIs addr words c s)
    (hhit : hit words = true) : effectMirrored addr hit s = takeEffect c { s with ex := { s.ex with due := [] } } := by
  obtain ⟨hdue, rfl, rfl, hepoch⟩ := h
  unfold effectMirrored
  simp [hdue, hhit, hepoch]

/-! ## What leaves a recorder as it is -/

/-- The records and the stop are those of `s`. -/
def SameRecorder (s t : State) : Prop := t.log.records = s.log.records ∧ t.log.full = s.log.full

namespace SameRecorder

theorem refl (s : State) : SameRecorder s s := ⟨rfl, rfl⟩

theorem trans {s t u : State} (h : SameRecorder s t) (k : SameRecorder t u) : SameRecorder s u := ⟨k.1.trans h.1, k.2.trans h.2⟩

theorem full {s t : State} (h : SameRecorder s t) (hs : s.log.full = true) : t.log.full = true := h.2.trans hs

theorem ite {s a b : State} {c : Prop} [Decidable c] (ha : SameRecorder s a) (hb : SameRecorder s b) : SameRecorder s (if c then a else b) := by
  split
  · exact ha
  · exact hb

theorem of_kept_parts {s t : State} (hr : (kept t).records = (kept s).records) (hf : (kept t).full = (kept s).full) : SameRecorder s t :=
  ⟨hr, hf⟩

theorem of_kept {s t : State} (h : kept t = kept s) : SameRecorder s t := of_kept_parts (congrArg Kept.records h) (congrArg Kept.full h)

/-- An outcome that keeps all that `kept` reads keeps the recorder. -/
theorem of_keptOut {s t : State} {o : Host.Outcome State Fault Refusal} (h : o = .next t) (hk : keptOut o = some (kept s)) :
    SameRecorder s t := by
  subst h
  exact of_kept (Option.some.inj hk)

theorem of_next {s x t : State} (h : (.next x : Host.Outcome State Fault Refusal) = .next t) (hx : SameRecorder s x) : SameRecorder s t := by
  injection h with h
  exact h ▸ hx

/-- Steps that each leave a full recorder as it is leave it so together. -/
theorem foldl {α : Type} {g : State → α → State} (hg : ∀ s x, s.log.full = true → SameRecorder s (g s x)) (l : List α) {s : State}
    (hs : s.log.full = true) : SameRecorder s (l.foldl g s) := by
  induction l generalizing s with
  | nil => exact refl s
  | cons x r ih => exact (hg s x hs).trans (ih ((hg s x hs).full hs))

end SameRecorder

theorem changeMode_sameRecorder (m : Mode) (cause : Nat) (s : State) : SameRecorder s (changeMode m cause s) :=
  .of_kept_parts (changeMode_kept_records m cause s) (changeMode_kept_full m cause s)

theorem assertReset_sameRecorder (complete : Bool) (s : State) : SameRecorder s (assertReset complete s) :=
  .of_kept_parts (assertReset_kept_records complete s) (assertReset_kept_full complete s)

theorem resetUnit_sameRecorder (cause : ResetCause) (unit : UnitId) (crackOpen : Bool) (s : State) :
    SameRecorder s (resetUnit cause unit crackOpen s) :=
  .of_kept_parts (resetUnit_kept_records cause unit crackOpen s) (resetUnit_kept_full cause unit crackOpen s)

theorem installBank_sameRecorder (b : Side) (r : Bool) (s : State) : SameRecorder s (installBank b r s) :=
  .of_kept_parts (installBank_kept_records b r s) (installBank_kept_full b r s)

theorem enterHold_sameRecorder (cause : Nat) (s : State) : SameRecorder s (enterHold cause s) :=
  .of_kept_parts (enterHold_kept_records cause s) (enterHold_kept_full cause s)

theorem completeLine_sameRecorder (s : State) : SameRecorder s (completeLine s) :=
  .of_kept_parts (completeLine_kept_records s) (completeLine_kept_full s)

theorem writeRequest_sameRecorder (r : HapReq) (addr : Nat) (words : List Word) (s : State) : SameRecorder s (writeRequest r addr words s) :=
  .of_kept_parts (writeRequest_kept_records r addr words s) (writeRequest_kept_full r addr words s)

/-- A recovery request leaves the recorder as it is where its action does. -/
theorem recoveryRequest_sameRecorder (op : Nat) (r : RecReq) {act : State → State} {s : State} (h : SameRecorder s (act s)) :
    SameRecorder s (recoveryRequest op r act s) :=
  .ite (.ite (.of_kept (send_kept _ s)) h) (.refl s)

theorem answerRecovery_sameRecorder (op : Nat) (r : RecReq) (status : Nat) (s : State) : SameRecorder s (answerRecovery op r status s) :=
  .of_kept (answerRecovery_kept op r status s)

/-! ## A full recorder at a restart -/

/-- Records due, then reset: of a full recorder nothing changes. -/
theorem writtenReset_sameRecorder (cause : ResetCause) {s : State} (hs : s.log.full = true) :
    SameRecorder s (resetUnit cause (writeDue (changeMode .boot 0 s)).um.unit (writeDue (changeMode .boot 0 s)).pnl.crack
      (assertReset true (writeDue (changeMode .boot 0 s)))) := by
  have hmode := changeMode_sameRecorder .boot 0 s
  have hdue : SameRecorder (changeMode .boot 0 s) (writeDue (changeMode .boot 0 s)) := by
    rw [writeDue_of_full (hmode.full hs)]
    exact ⟨rfl, rfl⟩
  exact ((hmode.trans hdue).trans (assertReset_sameRecorder true _)).trans (resetUnit_sameRecorder cause _ _ _)

theorem restartUnit_sameRecorder {s : State} (hs : s.log.full = true) : SameRecorder s (restartUnit s) :=
  .ite ⟨rfl, rfl⟩ (writtenReset_sameRecorder .locRestart hs)

theorem finishCopy_sameRecorder {s : State} (hs : s.log.full = true) : SameRecorder s (finishCopy s) := by
  have hbank := installBank_sameRecorder (otherSide s.upd.running) false s
  exact hbank.trans (restartUnit_sameRecorder (hbank.full hs))

/-! ## A full recorder and the commands written over HAP -/

theorem applyLocal_sameRecorder (slot a : Nat) (w : Word) {s : State} (hs : s.log.full = true) : SameRecorder s (applyLocal slot a w s) :=
  .ite (restartUnit_sameRecorder hs) <| .ite (.of_kept_parts (toMaintenance_kept_records s) (toMaintenance_kept_full s)) <|
    .ite (.ite ⟨rfl, rfl⟩ (.refl s)) <| .ite (.of_kept (releaseDump_kept s)) <| .ite (.of_kept (startManual_kept w s)) <|
    .ite (.of_kept (clearHealth_kept w s)) <| .ite (.of_kept (updateControl_kept slot w s)) (.refl s)

theorem applyLocalWrite_sameRecorder (x : Nat × List Word × Nat × Nat) {s : State} (hs : s.log.full = true) :
    SameRecorder s (applyLocalWrite x s) :=
  .foldl (fun s _ hs => .ite (applyLocal_sameRecorder _ _ _ hs) (.refl s)) _ hs

theorem effectLocal_sameRecorder (addr : Nat) (hit : List Word → Bool) {s : State} (hs : s.log.full = true) :
    SameRecorder s (effectLocal addr hit s) := by
  unfold effectLocal
  split
  · exact applyLocalWrite_sameRecorder _ (s := modHap _ s) hs
  · exact .refl s

theorem effectMirrored_of_none_due (addr : Nat) (hit : List Word → Bool) {s : State} (hdue : s.ex.due = []) : effectMirrored addr hit s = s := by
  unfold effectMirrored
  rw [hdue]
  rfl

section
variable {s : State} (hs : s.log.full = true) (hdue : s.ex.due = [])
include hs hdue

/-- With no command due, only a unit-local write can take effect, and it leaves a full recorder as it is. -/
theorem commandPoint_sameRecorder (p : CmdPoint) (addr : Nat) (words : List Word) (hit : List Word → Bool) :
    SameRecorder s (commandPoint p addr words hit s) := by
  cases p with
  | request r => exact writeRequest_sameRecorder r addr words s
  | effect =>
    refine .ite (effectLocal_sameRecorder addr hit hs) ?_
    rw [effectMirrored_of_none_due addr hit hdue]
    exact .refl s

theorem exactCommand_sameRecorder (p : CmdPoint) (addr : Nat) (words : List Word) : SameRecorder s (exactCommand p addr words s) :=
  commandPoint_sameRecorder hs hdue p addr words _

theorem anyWrite_sameRecorder (p : CmdPoint) (addr : Nat) : SameRecorder s (anyWrite p addr s) :=
  commandPoint_sameRecorder hs hdue p addr [0] _

end

/-! ## A full recorder and the other rows that change some of what `kept` reads -/

section
variable {s t : State}

theorem execResetRelease_sameRecorder {cause : Release} {strapHigh crackOpen : Bool} (h : execResetRelease cause strapHigh crackOpen s = .next t) :
    SameRecorder s t := by
  cases cause with
  | power => exact .of_next h (resetUnit_sameRecorder _ _ _ s)
  | supply volts heldMs => exact .of_next h <| .of_kept_parts (supplyRelease_kept_records _ _ _ _ s) (supplyRelease_kept_full _ _ _ _ s)
  | monitor nowMs => exact .of_next h (.of_kept_parts (monitorRelease_kept_records _ _ _ s) (monitorRelease_kept_full _ _ _ s))

theorem execSupplyReset_sameRecorder {volts : Nat} {complete : Bool} (h : execSupplyReset volts complete s = .next t) : SameRecorder s t := by
  have hx : SameRecorder s (if s.um.inReset then s else assertReset (s.sup.holdup || complete) s) :=
    .ite (.refl s) (assertReset_sameRecorder _ s)
  exact .of_next h (.ite hx (.refl s))

theorem execClockMonitorReset_sameRecorder (h : execClockMonitorReset s = .next t) : SameRecorder s t := by
  have hx : SameRecorder s (if s.um.inReset then s else assertReset true s) := .ite (.refl s) (assertReset_sameRecorder true s)
  exact .of_next h hx

theorem execKeyReading_sameRecorder {k : KeyRead} (h : execKeyReading k s = .next t) : SameRecorder s t :=
  .of_next h <| .ite
    (.ite (.of_kept_parts (acceptKey_kept_records k _) (acceptKey_kept_full k _))
      (.of_kept_parts (refuseKey_kept_records _ _) (refuseKey_kept_full _ _))) (.refl s)

theorem execLoadComplete_sameRecorder {tongs1 tongs2 stn1 stn2 : Bool} (h : execLoadComplete tongs1 tongs2 stn1 stn2 s = .next t) :
    SameRecorder s t := by
  refine .of_next h (.ite ?_ (.refl s))
  have hlinks : SameRecorder s (finishTongs tongs1 tongs2 (setUpBlocks s)) := .of_kept (by simp)
  have hrelay := SameRecorder.ite (c := (finishTongs tongs1 tongs2 (setUpBlocks s)).rng.loopTrained = some true)
    (hlinks.trans (.of_kept (openRelay_kept _))) hlinks
  exact (hrelay.trans (changeMode_sameRecorder .selftest 0 _)).trans (.of_kept (by simp))

theorem execSelftestComplete_sameRecorder {f : SelfTestFindings} (h : execSelftestComplete f s = .next t) : SameRecorder s t := by
  have hx : SameRecorder s (testOutcome f s).1 := .of_kept (testOutcome_kept f s)
  have hy : SameRecorder s (enterStandby (testOutcome f s).1) :=
    hx.trans (.of_kept_parts (enterStandby_kept_records _) (enterStandby_kept_full _))
  exact .of_next h <| .ite
    (.ite (hx.trans (enterHold_sameRecorder 9 _)) (.ite (hx.trans (enterHold_sameRecorder 0xA _)) hy)) (.refl s)

theorem execHoldEntry_sameRecorder (h : execHoldEntry s = .next t) : SameRecorder s t := by
  refine .of_next h ?_
  split
  · have hx := enterHold_sameRecorder (s := { s with ex := { s.ex with fatalDue := false } }) ‹Nat›
    exact .ite (hx.trans (.of_kept (raise_kept 11 _))) hx
  · exact .refl s

theorem execRecoveryErase_sameRecorder {r : RecReq} {busy : Bool} (h : execRecoveryErase r busy s = .next t) : SameRecorder s t :=
  .of_next h <| recoveryRequest_sameRecorder 1 r <| .ite (answerRecovery_sameRecorder 1 r 2 s) (answerRecovery_sameRecorder 1 r 0 _)

theorem execRecoveryWrite_sameRecorder {r : RecReq} (h : execRecoveryWrite r s = .next t) : SameRecorder s t :=
  .of_next h <| recoveryRequest_sameRecorder 2 r <| .ite (answerRecovery_sameRecorder 2 r 0 _) (answerRecovery_sameRecorder 2 r 1 s)

theorem execRecoveryInstall_sameRecorder {r : RecReq} (hs : s.log.full = true) (h : execRecoveryInstall r s = .next t) : SameRecorder s t := by
  have hbank := (installBank_sameRecorder (installTarget s) true s).trans (answerRecovery_sameRecorder 4 r 0 _)
  exact .of_next h <| recoveryRequest_sameRecorder 4 r <| .ite
    (hbank.trans (writtenReset_sameRecorder .endOfRecovery (hbank.full hs))) (answerRecovery_sameRecorder 4 r 3 s)

theorem execRecorderWrite_sameRecorder (hs : s.log.full = true) (h : exec .recorderWrite s = .next t) : SameRecorder s t := by
  obtain ⟨u, hu, hlog⟩ := recorderWrite_of_full hs
  have htu : t = u := Host.Outcome.next.inj (h.symm.trans hu)
  rw [htu]
  exact ⟨congrArg Recorder.records hlog, congrArg Recorder.full hlog⟩

theorem execPanelRowComplete_sameRecorder (h : execPanelRowComplete s = .next t) : SameRecorder s t :=
  .of_next h <| .ite ((completeLine_sameRecorder s).trans (.of_kept (startRow_kept _))) (.refl s)

theorem execCompensationLineComplete_sameRecorder (h : execCompensationLineComplete s = .next t) : SameRecorder s t :=
  .of_next h <| .ite
    (.ite ((completeLine_sameRecorder s).trans (.of_kept (endUpdate_kept _))) (completeLine_sameRecorder s)) (.refl s)

theorem execInputCutoff_sameRecorder {levels : Nat} (h : execInputCutoff levels s = .next t) : SameRecorder s t := by
  have hcutoff : SameRecorder s (inputCutoff levels s) := .of_kept_parts (inputCutoff_kept_records levels s) (inputCutoff_kept_full levels s)
  have hidle : SameRecorder s (advanceOpTime s) := .of_kept (advanceOpTime_kept s)
  exact .of_next h (.ite hcutoff (.ite (.refl s) hidle))

theorem execFatalDumpComplete_sameRecorder {p : List Byte} (h : execFatalDumpComplete p s = .next t) : SameRecorder s t :=
  .of_next h <| .ite (.of_kept_parts (finishDump_kept_records p s) (finishDump_kept_full p s)) (.refl s)

end

/-- With no command due, every command but the commit at E+80 µs and an error in MRAM leaves a full recorder as it is. -/
theorem exec_sameRecorder {c : Instr} {s t : State} (hs : s.log.full = true) (hdue : s.ex.due = []) (hcommit : ∀ b, c ≠ .inputCommit b)
    (hmram : ∀ i, c ≠ .mramUncorrectable i) (h : exec c s = .next t) : SameRecorder s t := by
  cases c
  case inputCommit late => exact absurd rfl (hcommit late)
  case mramUncorrectable item => exact absurd rfl (hmram item)
  case recorderWrite => exact execRecorderWrite_sameRecorder hs h
  -- start, reset and restart
  case resetRelease => exact execResetRelease_sameRecorder h
  case supplyReset => exact execSupplyReset_sameRecorder h
  case clockMonitorReset => exact execClockMonitorReset_sameRecorder h
  case clockMonitorRelease => exact .of_next h (.of_kept_parts (monitorRelease_kept_records _ _ _ s) (monitorRelease_kept_full _ _ _ s))
  case bootComplete => exact .of_kept_parts (execBootComplete_kept_records _ _ _ s t h) (execBootComplete_kept_full _ _ _ s t h)
  case keyReading => exact execKeyReading_sameRecorder h
  case loadComplete => exact execLoadComplete_sameRecorder h
  case selftestComplete => exact execSelftestComplete_sameRecorder h
  case holdEntry => exact execHoldEntry_sameRecorder h
  case inputCutoff => exact execInputCutoff_sameRecorder h
  case fatalDumpComplete => exact execFatalDumpComplete_sameRecorder h
  case panelRowComplete => exact execPanelRowComplete_sameRecorder h
  case compensationLineComplete => exact execCompensationLineComplete_sameRecorder h
  -- update and recovery
  case stagingEraseComplete => exact .of_next h (.ite ⟨rfl, rfl⟩ (.refl s))
  case bankCopyComplete => exact .of_next h (.ite (finishCopy_sameRecorder hs) (.refl s))
  case recoveryErase => exact execRecoveryErase_sameRecorder h
  case recoveryWrite => exact execRecoveryWrite_sameRecorder h
  case recoveryInstall => exact execRecoveryInstall_sameRecorder hs h
  -- writes over HAP, at their request and at their effect
  case registerWrite | blkSel | blkAddr | blkDataWrite => exact .of_next h (writeRequest_sameRecorder _ _ _ s)
  case cmdToActive | cmdSelectFunction => exact .of_next h (.ite (.refl s) (exactCommand_sameRecorder hs hdue _ _ _))
  case locRestart | locMaint | locDmpRelease | mrtCntClear | ldlCntClear | estRestart | tngSwap | pnlRefresh =>
    exact .of_next h (anyWrite_sameRecorder hs hdue _ _)
  case cmdToStandby | cmdToMaintenance | evtAckAll | evtAckEvent | evtMask | logClear | estBaAccept | estBaReject | alcUnitEnable |
      alcPushForce | alcTest | alcTestThrust | alcTestAz | mpcTargetWrite | mpcTrkCtrl | mpcTrkWaypointWrite | wskDisputeSel | wskExclude |
      gnaSysEnable | sivSetSelect | canRestart | canWarnWrite | trvReset | trvWirechkOn | trvWirechkOff | lifeCycleTransition |
      ktlManualSkilletTest | ktlManualSliceMarch | ktlManualOutputTest | ktlInjectCorrectable | ktlInjectUncorrectable |
      ktlInjectSkilletFail | locKtlClear | updOpen | updVerify | updDiscard | updCommit | txqOvfClear =>
    exact .of_next h (exactCommand_sameRecorder hs hdue _ _ _)
  -- every other row keeps all that `kept` reads, the recorder with it
  all_goals exact .of_keptOut h (by simp [exec])

/-- Settles O45: the branches of `writeRecord` give the next index and the last one, `clearRecorder` the clear, and a case for each command
that a full recorder stays. -/
theorem recorderStopsWhenFull : Obligations.RecorderStopsWhenFull := by
  intro s
  refine ⟨recorderWrite_of_full, ?_, ?_, ?_⟩
  · intro c t hs hdue hcommit hmram h
    have hsame := exec_sameRecorder hs hdue hcommit hmram h
    exact ⟨hsame.1, hsame.full hs⟩
  · intro d hdue hwritten hsessions hfull hfold
    obtain ⟨t, ht, hlog, hact⟩ := recorderWrite_of_one_due hdue hwritten hsessions
    constructor
    · intro hlen
      have hnext := writeRecord_append hfull hfold (Nat.ne_of_lt hlen)
      rw [hnext] at hlog
      exact ⟨t, newRecord d s, ht, congrArg Recorder.records hlog, rfl, (congrArg Recorder.full hlog).trans hfull⟩
    · intro hlen
      rw [writeRecord_last_log hfull hfold hlen] at hlog
      rw [writeRecord_last_active hfull hfold hlen] at hact
      exact ⟨t, newRecord { event := 18, kind := 1 } s, ht, congrArg Recorder.records hlog, rfl, rfl, congrArg Recorder.full hlog, hact⟩
  · intro c u tok htok hdue hunit
    have heff : exactCommand .effect 0xB00000 (u :: tok) s = takeEffect c { s with ex := { s.ex with due := [] } } :=
      (exactCommand_effect (by decide) _ s).trans (effectMirrored_of_dueIs hdue (beq_self_eq_true _))
    obtain ⟨-, haddr, hwords, -⟩ := hdue
    have hclear : applyCommand c { s with ex := { s.ex with due := [] } } = clearRecorder c.slot { s with ex := { s.ex with due := [] } } :=
      applyCommand_logClear haddr hwords htok hunit
    obtain ⟨⟨r, hr, hevent⟩, hfull, hact⟩ := clearRecorder_recorder c.slot { s with ex := { s.ex with due := [] } }
    rw [← hclear] at hr hfull hact
    exact ⟨_, r, congrArg Host.Outcome.next heff, hr, hevent, hfull, hact⟩

end Sys2Proof.Machine
end

section
/-! Host access (R370 to R380): what the admission of a request leaves in the state, its answer, and READ under HELD. -/

namespace Sys2Proof.Machine

/-! ## Which addresses are assigned (R393) -/

/-- Base and length of each run: which addresses are assigned, whatever they read. -/
def runShapes (runs : List RegRun) : List (Nat × Nat) := runs.map fun r => (r.1, r.2.length)

/-- Runs of the same shape assign the same addresses. -/
theorem regAt_isSome_of_runShapes {l m : List RegRun} (h : runShapes l = runShapes m) (a : Nat) : (regAt l a).isSome = (regAt m a).isSome := by
  induction l generalizing m with
  | nil =>
    obtain rfl : m = [] := List.map_eq_nil_iff.mp h.symm
    rfl
  | cons r l ih =>
    obtain ⟨q, m, rfl, hq, hm⟩ := List.map_eq_cons_iff.mp h.symm
    obtain ⟨hbase, hlen⟩ := Prod.mk.inj hq
    unfold regAt
    rw [hbase, hlen]
    split
    · rw [Bool.eq_iff_iff]
      simp [hlen]
    · exact ih hm.symm

/-- No register outside the unit-local page reads the host access state. -/
theorem mirroredRegs_modHap (f : Hap → Hap) (s : State) : mirroredRegs (modHap f s) = mirroredRegs s := rfl

theorem runShapes_append (l m : List RegRun) : runShapes (l ++ m) = runShapes l ++ runShapes m := List.map_append

/-- Of the registers of R404 only the count of skipped publications reads the host access state. -/
theorem runShapes_locUnitRegs_modHap (f : Hap → Hap) (s : State) : runShapes (locUnitRegs (modHap f s)) = runShapes (locUnitRegs s) := by
  simp only [runShapes, locUnitRegs, List.map_cons, List.map_nil, List.length_cons, List.length_nil, List.length_append]

theorem runShapes_locHapRegs (s t : State) : runShapes (locHapRegs s) = runShapes (locHapRegs t) := by
  simp only [runShapes, locHapRegs, List.map_cons, List.map_nil, List.length_cons, List.length_nil]

theorem runShapes_localRegs_modHap (f : Hap → Hap) (s : State) : runShapes (localRegs (modHap f s)) = runShapes (localRegs s) := by
  unfold localRegs
  simp only [runShapes_append, runShapes_locUnitRegs_modHap, runShapes_locHapRegs (modHap f s) s]
  rfl

/-- The host access state has no part in which ranges are whole. -/
theorem rangeOk_modHap (f : Hap → Hap) (a n : Nat) (s : State) : rangeOk a n (modHap f s) = rangeOk a n s := by
  have hregs : runShapes (allRegs (modHap f s)) = runShapes (allRegs s) := by
    simp only [allRegs, runShapes_append, mirroredRegs_modHap, runShapes_localRegs_modHap]
  simp only [rangeOk, assigned, regAt_isSome_of_runShapes hregs]

/-! ## Admission and answer -/

/-- `s` once a request has been admitted to its session (R371, R377, R378): it has joined the queue, and the session has its REQ_SEQ. -/
def admitted (x : Session) (r : HapReq) (s : State) : State :=
  modSession x.ident (fun z => { z with idle := 0, lastSeq := r.reqSeq }) (enqueue r s)

/-- `s` once an admitted request has been answered and changed no more than that. -/
def answered (op addr count : Nat) (x : Session) (r : HapReq) (a : Answer) (s : State) : State :=
  sendAnswer (some x) true (responseOf op addr count r a s) (admitted x r s)

section
variable {op addr count : Nat} {body : List Byte} {x : Session} {r : HapReq} {s : State}

/-- An admitted request of good form acts. -/
theorem admitRequest_of_admits {form : Bool} (h : admits op addr count body x r s) (hform : form = true) (needsSession : Bool)
    (act : Option Session → State → Option Answer × State) :
    admitRequest op addr count body form needsSession r act s = runRequest op addr count r act (some x) (admitted x r s) := by
  obtain ⟨hreach, hroom, hgood, hopen, hmac, hsession, hident, hfind, hseq, hawait, hstored⟩ := h
  have hpending : s.hap.awaiting.any (fun p => p.session == x.ident && p.reqSeq == r.reqSeq) = false := by
    simpa [← not_and_or] using hawait
  have hrepeat : x.stored.filter (·.reqSeq == r.reqSeq) = none := by
    simpa [Option.filter_eq_none_iff] using hstored
  have hsess : admitSession op addr count body form r act x s = runRequest op addr count r act (some x) (admitted x r s) := by
    unfold admitSession
    simp only [hpending, hrepeat, hopen, hgood, hform, Nat.not_le.mpr hroom, Nat.not_le.mpr hseq, Bool.false_eq_true, Bool.and_self,
      Bool.not_true, if_false]
    rfl
  unfold admitRequest
  simp only [hreach, hsession, hident ▸ hfind, hmac, hsess, Bool.not_true, Bool.false_eq_true, if_false, ne_eq, not_true_eq_false]

/-- A request whose action is to answer alone is answered. -/
theorem runRequest_of_answer {act : Option Session → State → Option Answer × State} {a : Answer}
    (h : act (some x) (admitted x r s) = (some a, admitted x r s)) :
    runRequest op addr count r act (some x) (admitted x r s) = answered op addr count x r a s := by
  unfold runRequest
  rw [h]
  rfl

end

/-- An answer leaves nothing else changed than the frames sent, the queue and the session. -/
theorem answered_frame (op addr count : Nat) (x : Session) (r : HapReq) (a : Answer) (s : State) :
    answered op addr count x r a s = { s with
      out := (answered op addr count x r a s).out
      hap := { s.hap with queue := (answered op addr count x r a s).hap.queue, sessions := (answered op addr count x r a s).hap.sessions } } := rfl

/-- The response that `answered` sends. -/
theorem answered_out (op addr count : Nat) (x : Session) (r : HapReq) (a : Answer) (s : State) :
    (answered op addr count x r a s).out = sentBy s (.response (authenticate (some x.key) (responseOf op addr count r a s))) :: s.out := rfl

theorem answered_answers (op addr count : Nat) (x : Session) (r : HapReq) (a : Answer) (s : State) :
    answers op addr a.status (if a.status = 0 then a.data else []) r s (answered op addr count x r a s) :=
  ⟨rfl, _, answered_out op addr count x r a s, rfl, rfl, rfl, rfl, rfl, rfl, rfl, rfl⟩

/-! ## READ under HELD (R380) -/

/-- A session's unexpired hold is found under its HOLD_ID. -/
theorem heldSnapshot_of_held {x : Session} {id : Nat} {s : State} {h : Hold} (hmem : id ∈ x.holds)
    (hfind : s.hap.holds.find? (fun h => h.ident == id && decide (h.age < 200)) = some h) : heldSnapshot (some x) id s = some h.snap := by
  simp [heldSnapshot, hmem, hfind]

/-- A hold that the session has not, or that has expired, is not found. -/
theorem heldSnapshot_of_not_held {x : Session} {id : Nat} {s : State}
    (h : id ∉ x.holds ∨ s.hap.holds.find? (fun h => h.ident == id && decide (h.age < 200)) = none) : heldSnapshot (some x) id s = none := by
  rcases h with hmem | hfind
  · simp [heldSnapshot, hmem]
  · simp [heldSnapshot, hfind]

/-- The answer to a READ under HELD outside the bulk window: the words of the held snapshot, or status 0x0B. -/
def heldAnswer (held : Option Snapshot) (addr n : Nat) (s : State) : Answer :=
  match held with
  | some snap => { epoch := snap.epoch, data := snapWords snap addr n }
  | none => plain 0x0B s

/-- An admitted READ under HELD, of registers outside the bulk window, is answered by `heldAnswer`. -/
theorem readRequest_held {x : Session} {r : HapReq} {addr n : Nat} {s : State} (h : admits opRead addr n [] x r s) (hheld : r.held = true)
    (honce : r.repeated = false) (hpos : 1 ≤ n) (hmax : n ≤ 256) (hrange : rangeOk addr n s = true) (hbulk : bulkAddr addr = false) :
    readRequest r addr n s = answered opRead addr n x r (heldAnswer (heldSnapshot (some x) r.holdId s) addr n s) s := by
  have hform : (decide (1 ≤ n) && decide (n ≤ 256) && (!r.repeated || addr == 0xF00008)) = true := by simp [hpos, hmax, honce]
  have hrange' : rangeOk addr n (admitted x r s) = true := by
    rw [admitted, modSession, enqueue, rangeOk_modHap, rangeOk_modHap, hrange]
  have hsnap : heldSnapshot (some x) r.holdId (admitted x r s) = heldSnapshot (some x) r.holdId s := rfl
  unfold readRequest
  rw [admitRequest_of_admits h hform]
  apply runRequest_of_answer
  simp only [honce, hrange', hbulk, hheld, hsnap, Bool.false_eq_true, if_false, if_true, Bool.not_true]
  cases heldSnapshot (some x) r.holdId s <;> rfl

/-- Settles O49: an admitted READ under HELD is answered by `heldAnswer`, and the session's unexpired hold decides which answer that is. -/
theorem heldReadsServeTheHeldSnapshot : Obligations.HeldReadsServeTheHeldSnapshot := by
  intro x r s a n hadmits hheld honce hpos hmax hrange hbulk
  have hread : exec (.hapRead r a n) s =
      .next (answered opRead a.toNat n x r (heldAnswer (heldSnapshot (some x) r.holdId s) a.toNat n s) s) :=
    congrArg Host.Outcome.next (readRequest_held hadmits hheld honce hpos hmax hrange hbulk)
  constructor
  · intro h hmem hfind
    rw [heldSnapshot_of_held hmem hfind] at hread
    exact ⟨_, _, hread, answered_out .., rfl, rfl, rfl, rfl, rfl, answered_frame ..⟩
  · intro hnot
    rw [heldSnapshot_of_not_held hnot] at hread
    exact ⟨_, hread, answered_answers .., answered_frame ..⟩

end Sys2Proof.Machine
end

section
/-! The broken glass (R415): what a line leaves when it completes on a frozen panel, and what a start makes of the freeze. -/

namespace Sys2Proof.Machine

/-! ## Reading what was written -/

/-- Octets written from an address on are read back. -/
theorem memRead_writes_same (d : Byte) (l : List Byte) : ∀ (a i : Nat) (m : List (Nat × Byte)), Memory.wf d m = true → i < l.length →
    some (memRead d (memWrites d a l m) (a + i)) = l[i]? := by
  induction l with
  | nil => intro a i m _ hi; exact absurd hi (Nat.not_lt_zero _)
  | cons v l ih =>
    intro a i m hm hi
    cases i with
    | zero =>
      have hrest : memRead d (memWrites d (a + 1) l (memWrite d a v m)) a = memRead d (memWrite d a v m) a :=
        memRead_writes_other d l (a + 1) a _ (.inl (Nat.lt_succ_self a))
      rw [memWrites, Nat.add_zero a, hrest, memRead_write_same d a v m hm, List.getElem?_cons_zero]
    | succ i =>
      have hnext := ih (a + 1) i _ (memWrite_wf d a v m hm) (Nat.lt_of_succ_lt_succ hi)
      rw [memWrites, List.getElem?_cons_succ, ← hnext, Nat.add_right_comm a 1 i]
      rfl

/-! ## The line in progress (R410, R413) -/

/-- After the end of an update nothing is driven. -/
theorem endUpdate_line (s : State) : (endUpdate s).pnl.row = none ∧ (endUpdate s).pnl.rows = [] ∧ (endUpdate s).pnl.state = 0 :=
  ⟨rfl, rfl, rfl⟩

/-- The end of an update changes neither the glass nor its balance records, and nothing beside the panel. -/
theorem endUpdate_frame (s : State) : (endUpdate s).pnl.frame = s.pnl.frame ∧ (endUpdate s).pnl.balance = s.pnl.balance ∧
    endUpdate s = { s with pnl := (endUpdate s).pnl } :=
  ⟨rfl, rfl, rfl⟩

/-- While the panel is frozen no row starts: the update ends. -/
theorem startRow_of_frozen {s : State} (h : s.pnl.frozen = true) : startRow s = endUpdate s := by
  unfold startRow
  split
  · rfl
  · rw [if_pos (Or.inl h)]

/-- `s` once the compensation line of row r has been driven (R413): the row's balance records have moved towards zero. -/
def compensatedRow (r : Nat) (s : State) : State :=
  modPnl (fun p => { p with
    compensating := false, compensated := insertNat r p.compensated, balance := compensateRow r p.balance }) s

section
variable {s : State} {r : Nat} {new : List Byte} {rest : List (Nat × List Byte)} (hrow : s.pnl.row = some r)
  (hrows : s.pnl.rows = (r, new) :: rest)
include hrow hrows

/-- A row in progress completes with its commit. -/
theorem completeLine_of_row (hcomp : s.pnl.compensating = false) : completeLine s = commitRow r new s := by
  simp [completeLine, hrow, hrows, hcomp]

/-- A compensation line in progress completes as its row's compensation. -/
theorem completeLine_of_compensating (hcomp : s.pnl.compensating = true) :
    completeLine s = compensatedRow r s := by
  simp [completeLine, compensatedRow, hrow, hrows, hcomp]

/-- On a frozen panel the commit of the row in progress ends the update. -/
theorem panelRowComplete_of_frozen (hruns : panelRuns s = true) (hfrozen : s.pnl.frozen = true) (hcomp : s.pnl.compensating = false)
    (hdue : lineEpochs s ≤ s.pnl.rowFor) : exec .panelRowComplete s = .next (endUpdate (commitRow r new s)) := by
  have hguard : panelRuns s = true ∧ s.pnl.row.isSome = true ∧ ¬ s.pnl.compensating = true ∧ lineEpochs s ≤ s.pnl.rowFor :=
    ⟨hruns, Option.isSome_of_eq_some hrow, Bool.not_eq_true _ ▸ hcomp, hdue⟩
  have hstart : startRow (commitRow r new s) = endUpdate (commitRow r new s) := startRow_of_frozen hfrozen
  exact congrArg Host.Outcome.next (by rw [if_pos hguard, completeLine_of_row hrow hrows hcomp, hstart])

/-- On a frozen panel the compensation line in progress ends the update: it is a line of its own, and its row is not driven (log 64). -/
theorem compensationLineComplete_of_frozen (hruns : panelRuns s = true) (hfrozen : s.pnl.frozen = true)
    (hcomp : s.pnl.compensating = true) : exec .compensationLineComplete s = .next (endUpdate (compensatedRow r s)) := by
  have hguard : panelRuns s = true ∧ s.pnl.row.isSome = true ∧ s.pnl.compensating = true :=
    ⟨hruns, Option.isSome_of_eq_some hrow, hcomp⟩
  exact congrArg Host.Outcome.next (by rw [if_pos hguard, if_pos hfrozen, completeLine_of_compensating hrow hrows hcomp])

end

/-- A row's commit writes the row's octets to the frame memory. -/
theorem commitRow_frame (r : Nat) (new : List Byte) (s : State) :
    (commitRow r new s).pnl.frame = memWrites 0 (74 * r) new s.pnl.frame := rfl

/-- While the panel is frozen no update starts. -/
theorem panelEvaluation_of_frozen {s : State} (h : s.pnl.frozen = true) : exec .panelEvaluation s = .next s := by
  refine congrArg Host.Outcome.next (if_neg ?_)
  rintro ⟨-, -, -, hnot, -⟩
  exact hnot h

/-! ## The crack loop (R415) -/

section
variable {s : State} (hruns : panelRuns s = true)
include hruns

theorem panelCrack_of_long {n : Nat} (hn : 200 ≤ n) :
    exec (.panelCrack n) s = .next (raise 27 { s with pnl := { s.pnl with crack := true, frozen := true } }) :=
  congrArg Host.Outcome.next ((if_pos hruns).trans (if_pos hn))

theorem panelCrack_of_short {n : Nat} (hn : n < 200) : exec (.panelCrack n) s = .next { s with pnl := { s.pnl with crack := true } } :=
  congrArg Host.Outcome.next ((if_pos hruns).trans (if_neg (Nat.not_le.mpr hn)))

theorem crackLoopClosed_of_runs : exec .crackLoopClosed s = .next (clearEvent 27 { s with pnl := { s.pnl with crack := false } }) :=
  congrArg Host.Outcome.next (if_pos hruns)

end

/-! ## A start (R65, R415) -/

/-- A release that starts the unit resets it in a state in which only the supply has changed. -/
theorem resetRelease_of_starts {rel : Release} {s : State} (h : starts rel s) (high crackOpen : Bool) :
    ∃ u, exec (.resetRelease rel high crackOpen) s =
      .next (resetUnit (releaseCause rel) (strapUnit high) crackOpen { s with sup := u }) := by
  cases rel with
  | power => exact ⟨s.sup, rfl⟩
  | supply volts heldMs =>
    obtain ⟨hreset, hholds, hvolts, htime, hmonitor⟩ := h
    have hguard : s.um.inReset = true ∧ s.sup.supplyHolds = true ∧ busReleaseMin ≤ volts ∧ 50 ≤ heldMs :=
      ⟨hreset, hholds, hvolts, htime⟩
    exact ⟨_, congrArg Host.Outcome.next ((if_pos hguard).trans (if_neg (Bool.not_eq_true _ ▸ hmonitor)))⟩
  | monitor nowMs =>
    obtain ⟨hreset, hholds, hlatched, hsupply⟩ := h
    have hguard : s.um.inReset = true ∧ s.sup.monitorHolds = true ∧ ¬ s.sup.monitorLatched = true :=
      ⟨hreset, hholds, Bool.not_eq_true _ ▸ hlatched⟩
    exact ⟨_, congrArg Host.Outcome.next ((if_pos hguard).trans (if_neg (Bool.not_eq_true _ ▸ hsupply)))⟩

/-- A start keeps the freeze exactly where the loop reads open. -/
theorem resetUnit_glass (cause : ResetCause) (unit : UnitId) (crackOpen : Bool) (s : State) :
    (resetUnit cause unit crackOpen s).pnl.frozen = (s.pnl.frozen && crackOpen) ∧
      (resetUnit cause unit crackOpen s).pnl.crack = crackOpen := by
  unfold resetUnit
  simp only [startEvents_fields]
  exact ⟨rfl, rfl⟩

/-- Settles O58: on a frozen panel the line in progress completes into the end of its update, no update starts, and only a start ends
the freeze. -/
theorem brokenGlassFreezesThePanel : Obligations.BrokenGlassFreezesThePanel := by
  intro s
  refine ⟨fun hruns => ⟨?_, ?_, ?_, ?_⟩, ?_⟩
  · intro n hn
    exact ⟨_, panelCrack_of_long hruns hn, raised_raise 27 _⟩
  · intro n hn
    exact panelCrack_of_short hruns hn
  · intro hfrozen
    refine ⟨fun r new rest hrow hrows hlen hwf => ⟨fun hcomp hdue => ?_, fun hcomp => ?_⟩, panelEvaluation_of_frozen hfrozen⟩
    · obtain ⟨hnone, hempty, hidle⟩ := endUpdate_line (commitRow r new s)
      obtain ⟨hframe, -, honly⟩ := endUpdate_frame (commitRow r new s)
      refine ⟨_, panelRowComplete_of_frozen hrow hrows hruns hfrozen hcomp hdue, hnone, hempty, hidle, fun i hi => ?_, honly⟩
      rw [hframe, commitRow_frame]
      exact memRead_writes_same 0 new (74 * r) i _ hwf (hlen.symm ▸ hi)
    · obtain ⟨hnone, hempty, hidle⟩ := endUpdate_line (compensatedRow r s)
      obtain ⟨hframe, hbalance, honly⟩ := endUpdate_frame (compensatedRow r s)
      exact ⟨_, compensationLineComplete_of_frozen hrow hrows hruns hfrozen hcomp, hnone, hempty, hidle, hframe,
        hbalance, honly⟩
  · exact ⟨_, crackLoopClosed_of_runs hruns, cleared_clearEvent 27 _⟩
  · intro rel high crackOpen hstarts
    obtain ⟨u, hexec⟩ := resetRelease_of_starts hstarts high crackOpen
    exact ⟨_, hexec, resetUnit_glass _ _ crackOpen { s with sup := u }⟩

end Sys2Proof.Machine
end

section
/-! The bank on trial (R68, R443): what the mask ROM's count leaves for the choice of a bank, what that choice and the start of a bank keep,
and that the entry to STANDBY clears the count. -/

namespace Sys2Proof.Machine

/-! ## A raise and the records due -/

theorem setRaised_due (e : Nat) (s : State) : (setRaised e s).evt.due = s.evt.due := by
  have hrelays (u : State) : (updateRelays u).evt.due = u.evt.due := by
    obtain ⟨x, y, h⟩ := updateRelays_eq u
    rw [h]
  unfold setRaised
  rw [hrelays]
  split <;> split <;> rfl

/-- A raise of an inactive source falls due with its index, its code and its value. -/
theorem raiseWith_due_of_inactive {e : Nat} {s : State} (h : eventActive e s = false) (w0 w1 : Nat) (v : Int) :
    (raiseWith e w0 w1 v s).evt.due = s.evt.due ++ [⟨e, 1, w0, w1, v⟩] := by
  unfold raiseWith
  rw [h]
  obtain ⟨a, b, hnote⟩ := noteIndex_eq e w0 (setRaised e s)
  rw [hnote]
  exact congrArg (· ++ [(⟨e, 1, w0, w1, v⟩ : DueRecord)]) (setRaised_due e s)

/-- A raise takes no record from those due. -/
theorem mem_raiseWith_due {d : DueRecord} {s : State} (hd : d ∈ s.evt.due) (e w0 w1 : Nat) (v : Int) :
    d ∈ (raiseWith e w0 w1 v s).evt.due := by
  cases h : eventActive e s with
  | true =>
    unfold raiseWith
    rw [h]
    exact hd
  | false =>
    rw [raiseWith_due_of_inactive h]
    exact List.mem_append_left _ hd

/-! ## Mode changes (R64) -/

@[simp] theorem changeMode_upd (dst : Mode) (cause : Nat) (s : State) : (changeMode dst cause s).upd = s.upd := by
  unfold changeMode
  split
  · dsimp only
    split <;> simp
  · rfl

@[simp] theorem changeMode_pair (dst : Mode) (cause : Nat) (s : State) : (changeMode dst cause s).pair = s.pair := by
  unfold changeMode
  split
  · dsimp only
    split <;> simp
  · rfl

/-- A listed transition sets the mode. -/
theorem changeMode_um {dst : Mode} {s : State} (h : transition s.um.mode dst = true) (cause : Nat) :
    (changeMode dst cause s).um = { s.um with mode := dst } := by
  unfold changeMode
  rw [if_pos h]
  dsimp only
  split <;> simp

/-- A transition that leaves BOOT raises nothing. -/
theorem changeMode_of_boot {dst : Mode} {s : State} (hboot : s.um.mode = .boot) (h : transition .boot dst = true) (cause : Nat) :
    ∃ x y, changeMode dst cause s =
      { s with um := { s.um with mode := dst }, evt := { s.evt with dpRelay := x, ufRelay := y } } := by
  unfold changeMode
  rw [hboot, if_pos h]
  exact updateRelays_eq { s with um := { s.um with mode := dst } }

/-! ## Banks (R442, R443) -/

@[simp] theorem bankOf_setBank_same (b : Side) (f : Bank → Bank) (s : State) : bankOf b (setBank b f s) = f (bankOf b s) := by
  cases b <;> rfl

@[simp] theorem bankOf_setBank_other (b : Side) (f : Bank → Bank) (s : State) :
    bankOf (otherSide b) (setBank b f s) = bankOf (otherSide b) s := by
  cases b <;> rfl

/-- Which banks there are is read in the update state alone. -/
theorem bankOf_congr {s t : State} (h : t.upd.bankA = s.upd.bankA ∧ t.upd.bankB = s.upd.bankB) (b : Side) : bankOf b t = bankOf b s := by
  cases b
  · exact h.1
  · exact h.2

@[simp] theorem bankOf_raiseWith (b : Side) (e w0 w1 : Nat) (v : Int) (s : State) : bankOf b (raiseWith e w0 w1 v s) = bankOf b s :=
  bankOf_congr (by simp) b

/-- EV_023 changes ROLLBACK alone of the update state. -/
@[simp] theorem rollBack_upd (code : Nat) (s : State) : (rollBack code s).upd = { s.upd with rollback := code } := by
  simp [rollBack]

@[simp] theorem rollBack_um (code : Nat) (s : State) : (rollBack code s).um = s.um := by
  simp [rollBack]

@[simp] theorem bankOf_rollBack (b : Side) (code : Nat) (s : State) : bankOf b (rollBack code s) = bankOf b s :=
  bankOf_congr (by simp) b

/-- A bank that neither is EMPTY nor FAILED and passes its checks is the one that starts. -/
theorem tryBanks_of_startable {b : Side} {x y : BankCheck} {s : State} (htried : tried b s = true) (hstart : startable b x y s = true)
    (rest : List Side) : tryBanks x y (b :: rest) s = (some b, s) := by
  unfold tryBanks
  simp [htried, hstart]

/-! ## The count (R443) -/

/-- The selected bank FAILED after one more start, and the other one selected. -/
def giveUpSelected (s : State) : State :=
  let t := setBank s.upd.selected (fun k => { k with state := .failed }) { s with upd := { s.upd with attempts := s.upd.attempts + 1 } }
  { t with upd := { t.upd with selected := otherSide s.upd.selected } }

theorem giveUpSelected_frame (s : State) :
    (giveUpSelected s).um = s.um ∧ (giveUpSelected s).evt = s.evt ∧ (giveUpSelected s).mir = s.mir ∧
      (giveUpSelected s).upd.floor = s.upd.floor := by
  unfold giveUpSelected setBank
  split <;> exact ⟨rfl, rfl, rfl, rfl⟩

theorem giveUpSelected_banks (s : State) :
    (giveUpSelected s).upd.selected = otherSide s.upd.selected ∧ (bankOf s.upd.selected (giveUpSelected s)).state = .failed ∧
      bankOf (otherSide s.upd.selected) (giveUpSelected s) = bankOf (otherSide s.upd.selected) s := by
  unfold giveUpSelected
  cases s.upd.selected <;> exact ⟨rfl, rfl, rfl⟩

section
variable {s : State} (htrial : (bankOf s.upd.selected s).state = .provisional)
include htrial

/-- The first and the second start of a bank on trial are counted. -/
theorem countStart_of_early (h : s.upd.attempts < 2) :
    countStart s = { s with upd := { s.upd with attempts := s.upd.attempts + 1 } } := by
  have htwo : ¬ 3 ≤ s.upd.attempts + 1 := by omega
  exact (if_pos htrial).trans (if_neg htwo)

/-- The third gives it up, with EV_023. -/
theorem countStart_of_third (h : 2 ≤ s.upd.attempts) : countStart s = rollBack 1 (giveUpSelected s) := by
  have hthree : 3 ≤ s.upd.attempts + 1 := by omega
  exact (if_pos htrial).trans (if_pos hthree)

end

/-- The count, and what it may bring, leave the mode state alone. -/
theorem countStart_um (s : State) : (countStart s).um = s.um := by
  by_cases htrial : (bankOf s.upd.selected s).state = .provisional
  · by_cases h : s.upd.attempts < 2
    · rw [countStart_of_early htrial h]
    · rw [countStart_of_third htrial (Nat.le_of_not_lt h), rollBack_um]
      exact (giveUpSelected_frame s).1
  · unfold countStart
    rw [if_neg htrial]

/-! ## What the choice and the start of a bank keep -/

/-- `t` keeps the count of `s`, its selection, its FAILED banks, what is ACTIVE in it and its records due. -/
structure TrialKept (s t : State) : Prop where
  attempts : t.upd.attempts = s.upd.attempts
  selected : t.upd.selected = s.upd.selected
  failed : ∀ b, (bankOf b s).state = .failed → (bankOf b t).state = .failed
  active : ∀ e, eventActive e s = true → eventActive e t = true
  due : ∀ d ∈ s.evt.due, d ∈ t.evt.due

namespace TrialKept

theorem refl (s : State) : TrialKept s s := ⟨rfl, rfl, fun _ h => h, fun _ h => h, fun _ h => h⟩

theorem trans {s t u : State} (h : TrialKept s t) (k : TrialKept t u) : TrialKept s u where
  attempts := k.attempts.trans h.attempts
  selected := k.selected.trans h.selected
  failed b hb := k.failed b (h.failed b hb)
  active e he := k.active e (h.active e he)
  due d hd := k.due d (h.due d hd)

theorem ite {s t u : State} {c : Prop} [Decidable c] (ht : TrialKept s t) (hu : TrialKept s u) : TrialKept s (if c then t else u) := by
  split
  · exact ht
  · exact hu

theorem raiseWith (e w0 w1 : Nat) (v : Int) (s : State) : TrialKept s (raiseWith e w0 w1 v s) where
  attempts := by simp
  selected := by simp
  failed b hb := (congrArg Bank.state (bankOf_raiseWith b e w0 w1 v s)).trans hb
  active k hk := by simp [hk]
  due _ hd := mem_raiseWith_due hd e w0 w1 v

theorem rollBack (code : Nat) (s : State) : TrialKept s (rollBack code s) :=
  have hcode : TrialKept s { s with upd := { s.upd with rollback := code } } :=
    ⟨rfl, rfl, fun | .one, h => h | .two, h => h, fun _ h => h, fun _ h => h⟩
  hcode.trans (raiseWith 23 0xFFFFFFFF code 0 _)

theorem failBank (b : Side) (s : State) : TrialKept s (setBank b (fun k => { k with state := .failed }) s) := by
  cases b
  · exact ⟨rfl, rfl, fun | .one, _ => rfl | .two, h => h, fun _ h => h, fun _ h => h⟩
  · exact ⟨rfl, rfl, fun | .one, h => h | .two, _ => rfl, fun _ h => h, fun _ h => h⟩

theorem tryBanks (x y : BankCheck) (l : List Side) (s : State) : TrialKept s (tryBanks x y l s).2 := by
  induction l generalizing s with
  | nil => exact refl s
  | cons b rest ih =>
    unfold Machine.tryBanks
    split
    · exact ih s
    · split
      · exact refl s
      · exact (failBank b s).trans (ih _)

theorem changeMode {dst : Mode} {s : State} (hboot : s.um.mode = .boot) (h : transition .boot dst = true) (cause : Nat) :
    TrialKept s (changeMode dst cause s) := by
  obtain ⟨x, y, hmode⟩ := changeMode_of_boot hboot h cause
  rw [hmode]
  exact ⟨rfl, rfl, fun | .one, h => h | .two, h => h, fun _ h => h, fun _ h => h⟩

end TrialKept

/-- "RECOVERY" on the glass changes the panel alone. -/
theorem writeRecovery_eq (s : State) : ∃ p, writeRecovery s = { s with pnl := p } := by
  unfold writeRecovery
  split
  · exact ⟨s.pnl, rfl⟩
  · exact ⟨_, rfl⟩

theorem startRecovery_trialKept {s : State} (hboot : s.um.mode = .boot) : TrialKept s (startRecovery s) := by
  obtain ⟨p, hpanel⟩ := writeRecovery_eq (changeMode .recovery 0 s)
  unfold startRecovery
  rw [hpanel]
  exact (TrialKept.changeMode hboot rfl 0).trans
    ⟨rfl, rfl, fun | .one, h => h | .two, h => h, fun _ h => h, fun _ h => h⟩

/-! ## The start of a bank (R442) -/

/-- The events of a start: EV_023 after a trial that failed or in another bank than the selected one, EV_062 while SVC is up. -/
def startNotices (b selected : Side) (s : State) : State :=
  let s := if s.upd.trialFailed then rollBack 2 s else if b ≠ selected then rollBack 3 s else s
  if s.sup.svcUp then raise 62 s else s

/-- The state in which the firmware of bank b takes over from the mask ROM. -/
def handOver (b : Side) (s : State) : State :=
  { s with upd := { s.upd with running := b, trialFailed := false }, time := { s.time with ocxoStable := s.sup.stable } }

theorem startBank_eq (b selected : Side) (s : State) :
    startBank b selected s =
      setStation .two .training (setStation .one .training (changeMode .load 0 (handOver b (startNotices b selected s)))) := rfl

theorem startNotices_um (b selected : Side) (s : State) : (startNotices b selected s).um = s.um := by
  simp [startNotices, apply_ite State.um]

theorem startNotices_banks (b selected : Side) (s : State) (c : Side) : bankOf c (startNotices b selected s) = bankOf c s := by
  simp [startNotices, raise, apply_ite (bankOf c)]

theorem startNotices_trialKept (b selected : Side) (s : State) : TrialKept s (startNotices b selected s) := by
  have hrolled : TrialKept s (if s.upd.trialFailed then rollBack 2 s else if b ≠ selected then rollBack 3 s else s) :=
    .ite (.rollBack 2 s) (.ite (.rollBack 3 s) (.refl s))
  exact hrolled.trans (.ite (.raiseWith 62 _ _ _ _) (.refl _))

section
variable {s : State} (hboot : s.um.mode = .boot)
include hboot

/-- The start of a bank is its notices, the running bank and LOAD. -/
theorem startBank_spec (b selected : Side) :
    (startBank b selected s).um = { s.um with mode := .load } ∧ (startBank b selected s).upd.running = b ∧
      (∀ c, bankOf c (startBank b selected s) = bankOf c s) ∧ TrialKept s (startBank b selected s) := by
  have hum : (startNotices b selected s).um = s.um := startNotices_um b selected s
  have hload : (handOver b (startNotices b selected s)).um.mode = .boot := (congrArg UnitMode.mode hum).trans hboot
  obtain ⟨x, y, hmode⟩ := changeMode_of_boot (dst := .load) hload rfl 0
  rw [startBank_eq, hmode]
  refine ⟨congrArg (fun u : UnitMode => { u with mode := .load }) hum, rfl, ?_, ?_⟩
  · intro c
    exact Eq.trans (bankOf_congr ⟨rfl, rfl⟩ c) (startNotices_banks b selected s c)
  · exact (startNotices_trialKept b selected s).trans ⟨rfl, rfl, fun | .one, h => h | .two, h => h, fun _ h => h, fun _ h => h⟩

end

/-! ## BOOT (R442, R443) -/

/-- What the mask ROM makes of the banks it has tried: the one that passed starts, else RECOVERY. -/
def startFound (selected : Side) : Option Side × State → State
  | (some k, s) => startBank k selected s
  | (none, s) => startRecovery s

theorem startFound_trialKept (selected : Side) (k : Option Side) {s : State} (hboot : s.um.mode = .boot) :
    TrialKept s (startFound selected (k, s)) := by
  cases k with
  | none => exact startRecovery_trialKept hboot
  | some k =>
    obtain ⟨-, -, -, hkept⟩ := startBank_spec hboot k selected
    exact hkept

section
variable {s : State} (hboot : s.um.mode = .boot) (hreset : s.um.inReset = false)
include hboot hreset

/-- A start with a good boot header: the count, then the choice of a bank from the selected one on. -/
theorem exec_bootComplete (a b : BankCheck) :
    exec (.bootComplete true a b) s = .next (startFound (countStart s).upd.selected
      (tryBanks a b [(countStart s).upd.selected, otherSide (countStart s).upd.selected] (countStart s))) := by
  have hruns : s.um.mode = .boot ∧ ¬ s.um.inReset = true := ⟨hboot, by simp [hreset]⟩
  refine congrArg Host.Outcome.next ((if_pos hruns).trans ((if_pos rfl).trans ?_))
  unfold startFound
  rfl

/-- Whatever bank starts, and where none does, the trial stands as it was counted. -/
theorem exec_bootComplete_trialKept (a b : BankCheck) :
    ∃ t, exec (.bootComplete true a b) s = .next t ∧ TrialKept (countStart s) t := by
  refine ⟨_, exec_bootComplete hboot hreset a b, ?_⟩
  have hcounted : (countStart s).um.mode = .boot := (congrArg UnitMode.mode (countStart_um s)).trans hboot
  generalize [(countStart s).upd.selected, otherSide (countStart s).upd.selected] = sides
  have hmode : (tryBanks a b sides (countStart s)).2.um.mode = .boot :=
    (congrArg Kept.mode (tryBanks_kept a b sides (countStart s))).trans hcounted
  exact (TrialKept.tryBanks a b sides (countStart s)).trans (startFound_trialKept _ _ hmode)

/-- The bank that the count leaves selected runs when it passes its checks. -/
theorem exec_bootComplete_of_startable {c : Side} {a b : BankCheck} (hselected : (countStart s).upd.selected = c)
    (htried : tried c (countStart s) = true) (hstart : startable c a b (countStart s) = true) :
    ∃ t, exec (.bootComplete true a b) s = .next t ∧ t.um = { s.um with mode := .load } ∧ t.upd.running = c ∧
      bankOf s.upd.selected t = bankOf s.upd.selected (countStart s) := by
  have hcounted : (countStart s).um.mode = .boot := (congrArg UnitMode.mode (countStart_um s)).trans hboot
  obtain ⟨hum, hrunning, hbanks, -⟩ := startBank_spec hcounted c c
  refine ⟨_, ?_, (countStart_um s) ▸ hum, hrunning, hbanks _⟩
  rw [exec_bootComplete hboot hreset, hselected, tryBanks_of_startable htried hstart]
  rfl

variable (htrial : (bankOf s.upd.selected s).state = .provisional)
include htrial

/-- The first and the second start of a bank on trial are counted, and it stays selected. -/
theorem bootComplete_counts (h : s.upd.attempts < 2) (a b : BankCheck) :
    ∃ t, exec (.bootComplete true a b) s = .next t ∧ t.upd.attempts = s.upd.attempts + 1 ∧ t.upd.selected = s.upd.selected := by
  obtain ⟨t, hexec, hkept⟩ := exec_bootComplete_trialKept hboot hreset a b
  rw [countStart_of_early htrial h] at hkept
  exact ⟨t, hexec, hkept.attempts, hkept.selected⟩

/-- They run the bank when it passes its checks, and it is still on trial. -/
theorem bootComplete_runs_trial (h : s.upd.attempts < 2) {a b : BankCheck} (hstart : startable s.upd.selected a b s = true) :
    ∃ t, exec (.bootComplete true a b) s = .next t ∧ t.um = { s.um with mode := .load } ∧ t.upd.running = s.upd.selected ∧
      (bankOf s.upd.selected t).state = .provisional := by
  have hbank (c : Side) : bankOf c (countStart s) = bankOf c s := by
    rw [countStart_of_early htrial h]
    exact bankOf_congr ⟨rfl, rfl⟩ c
  have htried : tried s.upd.selected (countStart s) = true := by simp [tried, hbank, htrial]
  have hpasses : startable s.upd.selected a b (countStart s) = true := by
    rw [← hstart, startable, startable, hbank, countStart_of_early htrial h]
  have hselected : (countStart s).upd.selected = s.upd.selected := by rw [countStart_of_early htrial h]
  obtain ⟨t, hexec, hum, hrunning, hon⟩ := exec_bootComplete_of_startable hboot hreset hselected htried hpasses
  exact ⟨t, hexec, hum, hrunning, by rw [hon, hbank, htrial]⟩

/-- The third start gives the bank up: FAILED, the other one selected, EV_023 with word 1 set to 0x1. -/
theorem bootComplete_gives_up (h : 2 ≤ s.upd.attempts) (hquiet : eventActive 23 s = false) (a b : BankCheck) :
    ∃ t d, exec (.bootComplete true a b) s = .next t ∧ (bankOf s.upd.selected t).state = .failed ∧
      t.upd.selected = otherSide s.upd.selected ∧ eventActive 23 t = true ∧ d ∈ t.evt.due ∧ d.event = 23 ∧ d.kind = 1 ∧ d.w1 = 1 := by
  obtain ⟨t, hexec, hkept⟩ := exec_bootComplete_trialKept hboot hreset a b
  rw [countStart_of_third htrial h] at hkept
  obtain ⟨-, hevt, hmir, -⟩ := giveUpSelected_frame s
  obtain ⟨hselected, hfailed, -⟩ := giveUpSelected_banks s
  have hquiet' : eventActive 23 (giveUpSelected s) = false := by
    rw [← hquiet, eventActive, eventActive, hevt, hmir]
  have hdue := raiseWith_due_of_inactive (s := { giveUpSelected s with upd := { (giveUpSelected s).upd with rollback := 1 } })
    hquiet' 0xFFFFFFFF 1 0
  refine ⟨t, ⟨23, 1, 0xFFFFFFFF, 1, 0⟩, hexec, hkept.failed _ (by simpa using hfailed), ?_, hkept.active 23 (by simp [rollBack]),
    hkept.due _ ?_, rfl, rfl, rfl⟩
  · rw [hkept.selected, rollBack_upd, hselected]
  · rw [rollBack, hdue]
    simp

/-- The other bank then runs when it passes its checks. -/
theorem bootComplete_runs_other (h : 2 ≤ s.upd.attempts) (htried : tried (otherSide s.upd.selected) s = true) {a b : BankCheck}
    (hstart : startable (otherSide s.upd.selected) a b s = true) :
    ∃ t, exec (.bootComplete true a b) s = .next t ∧ t.um = { s.um with mode := .load } ∧ t.upd.running = otherSide s.upd.selected := by
  have hcount := countStart_of_third htrial h
  obtain ⟨-, -, -, hfloor⟩ := giveUpSelected_frame s
  obtain ⟨hselected, -, hother⟩ := giveUpSelected_banks s
  have hbank : bankOf (otherSide s.upd.selected) (countStart s) = bankOf (otherSide s.upd.selected) s := by
    rw [hcount, bankOf_rollBack, hother]
  have htried' : tried (otherSide s.upd.selected) (countStart s) = true := by rw [← htried, tried, tried, hbank]
  have hpasses : startable (otherSide s.upd.selected) a b (countStart s) = true := by
    rw [← hstart, startable, startable, hbank, hcount, rollBack_upd, hfloor]
  have hselected' : (countStart s).upd.selected = otherSide s.upd.selected := by rw [hcount, rollBack_upd, hselected]
  obtain ⟨t, hexec, hum, hrunning, -⟩ := exec_bootComplete_of_startable hboot hreset hselected' htried' hpasses
  exact ⟨t, hexec, hum, hrunning⟩

end

/-! ## The entry to STANDBY (R68, R445) -/

@[simp] theorem setBank_attempts (b : Side) (f : Bank → Bank) (s : State) : (setBank b f s).upd.attempts = s.upd.attempts := by
  cases b <;> rfl

@[simp] theorem setBank_pair (b : Side) (f : Bank → Bank) (s : State) : (setBank b f s).pair = s.pair := by
  cases b <;> rfl

theorem confirmBank_frame (s : State) : (confirmBank s).upd.attempts = s.upd.attempts ∧ (confirmBank s).pair = s.pair := by
  simp [confirmBank]

theorem failBank_frame (s : State) : (failBank s).upd.attempts = s.upd.attempts ∧ (failBank s).pair = s.pair := by
  simp [failBank]

theorem bankDecision_frame (s : State) : (bankDecision s).upd.attempts = s.upd.attempts ∧ (bankDecision s).pair = s.pair := by
  unfold bankDecision
  split
  · split
    · split
      · exact confirmBank_frame s
      · split
        · split
          · exact ⟨rfl, rfl⟩
          · exact failBank_frame s
        · exact ⟨rfl, rfl⟩
    · exact ⟨rfl, rfl⟩
  · exact ⟨rfl, rfl⟩

/-- Whatever the fate of the bank, the count is clear. -/
theorem standbyBank_frame (s : State) : (standbyBank s).upd.attempts = 0 ∧ (standbyBank s).pair = s.pair := by
  unfold standbyBank
  dsimp only
  split
  · exact confirmBank_frame { s with upd := { s.upd with attempts := 0 } }
  · exact bankDecision_frame { s with upd := { s.upd with attempts := 0 } }

theorem setPhase_upd (p : Phase) (s : State) : (setPhase p s).upd = s.upd := by
  unfold setPhase
  dsimp only
  split <;> simp

theorem joinRole_upd (h : Heard) (s : State) : (joinRole h s).upd = s.upd := by
  unfold joinRole takeStandby startJoin
  dsimp only
  split
  · split
    · split <;> simp [setPhase_upd]
    · simp [setPhase_upd]
  · rfl

/-- The role table leaves the update state alone. -/
theorem roleTable_upd (s : State) : (roleTable s).upd = s.upd := by
  unfold roleTable
  split
  · rfl
  · split
    · split <;> rfl
    · split
      · split
        · exact joinRole_upd _ s
        · split
          · split <;> rfl
          · split <;> rfl
      · split <;> rfl

/-- Without a partner that has been heard, no row of the role table leads out of STANDBY. -/
theorem roleTable_mode_of_unheard {s : State} (h : s.pair.heard = none) : (roleTable s).um.mode = s.um.mode := by
  have hreport : report s = none := by simp [report, h]
  unfold roleTable
  rw [hreport]
  split
  · rfl
  · split
    · split <;> rfl
    · dsimp only
      split <;> rfl

theorem enterStandby_attempts (s : State) : (enterStandby s).upd.attempts = 0 := by
  unfold enterStandby
  dsimp only
  rw [roleTable_upd]
  exact (standbyBank_frame _).1

theorem enterStandby_mode_of_unheard {s : State} (hmode : s.um.mode = .selftest) (hheard : s.pair.heard = none) :
    (enterStandby s).um.mode = .standby := by
  have hstandby : (changeMode .standby 0 s).um.mode = .standby :=
    congrArg UnitMode.mode (changeMode_um (dst := .standby) (by rw [hmode]; rfl) 0)
  unfold enterStandby
  dsimp only
  rw [roleTable_mode_of_unheard]
  · exact (congrArg Kept.mode (standbyBank_kept _)).trans hstandby
  · rw [(standbyBank_frame _).2]
    simpa using hheard

/-! ## The start-up test (R70) -/

/-- HOLD is entered where a transition leads to it. -/
theorem enterHold_mode {s : State} (h : transition s.um.mode .hold = true) (cause : Nat) : (enterHold cause s).um.mode = .hold := by
  unfold enterHold
  rw [if_pos h]
  exact congrArg UnitMode.mode (changeMode_um h cause)

@[simp] theorem startSkillet_pair (s : State) (k : Nat) : (startSkillet s k).pair = s.pair := by
  simp [startSkillet, kettleFailure]

theorem foldl_startSkillet_pair (l : List Nat) (s : State) : (l.foldl startSkillet s).pair = s.pair := by
  induction l generalizing s with
  | nil => rfl
  | cons k rest ih => rw [List.foldl_cons, ih, startSkillet_pair]

theorem testOutcome_mode (f : SelfTestFindings) (s : State) : (testOutcome f s).1.um.mode = s.um.mode :=
  congrArg Kept.mode (testOutcome_kept f s)

/-- With nothing but Skillets found failing, nothing else has failed, and the pair is left alone. -/
theorem testOutcome_of_skillets {f : SelfTestFindings} (hio : f.ioFail = false) (hchannels : f.channels = []) (hslices : f.slices = [])
    (s : State) : (testOutcome f s).2 = false ∧ (testOutcome f s).1.pair = s.pair := by
  simp [testOutcome, hio, hchannels, hslices, dropFailedMarks, foldl_startSkillet_pair]

section
variable {f : SelfTestFindings} {s : State} (hmode : s.um.mode = .selftest)
include hmode

/-- A start-up test that ends in STANDBY has cleared the count. -/
theorem attempts_of_selftest_to_standby {t : State} (h : exec (.selftestComplete f) s = .next t) (ht : t.um.mode = .standby) :
    t.upd.attempts = 0 := by
  have hhold (cause : Nat) : (enterHold cause (testOutcome f s).1).um.mode = .hold :=
    enterHold_mode (by rw [testOutcome_mode, hmode]; rfl) cause
  have hout := Host.Outcome.next.inj (h.symm.trans (congrArg Host.Outcome.next (if_pos hmode)))
  dsimp only at hout
  split at hout
  · rw [hout, hhold] at ht
    cases ht
  · split at hout
    · rw [hout, hhold] at ht
      cases ht
    · rw [hout, enterStandby_attempts]

/-- A unit that has lost at most one Skillet, and has heard no partner, ends its start-up test in STANDBY. -/
theorem exec_selftestComplete_standby (hlost : (lostSkillets f s).length < 2) (hio : f.ioFail = false) (hchannels : f.channels = [])
    (hslices : f.slices = []) (hheard : s.pair.heard = none) :
    ∃ t, exec (.selftestComplete f) s = .next t ∧ t.um.mode = .standby := by
  obtain ⟨hnone, hpair⟩ := testOutcome_of_skillets hio hchannels hslices s
  refine ⟨enterStandby (testOutcome f s).1, ?_, ?_⟩
  · exact congrArg Host.Outcome.next ((if_pos hmode).trans ((if_neg (Nat.not_le_of_lt hlost)).trans (if_neg (by simp [hnone]))))
  · exact enterStandby_mode_of_unheard ((testOutcome_mode f s).trans hmode) (hpair ▸ hheard)

end

/-- Settles O13: the count decides the state from which a bank is chosen, the choice and the start keep it, and the entry to STANDBY
clears it. -/
theorem bankOnTrialCountsItsStarts : Obligations.BankOnTrialCountsItsStarts := by
  refine ⟨fun a b s hboot hreset htrial => ⟨?_, ?_, ?_, ?_⟩, ?_, ?_⟩
  · exact fun h => bootComplete_counts hboot hreset htrial h a b
  · exact fun h hstart => bootComplete_runs_trial hboot hreset htrial h hstart
  · exact fun h hquiet => bootComplete_gives_up hboot hreset htrial h hquiet a b
  · exact fun h htried hstart => bootComplete_runs_other hboot hreset htrial h htried hstart
  · exact fun f s t hmode => attempts_of_selftest_to_standby hmode
  · intro f s hmode hlost hio hchannels hslices hheard
    obtain ⟨t, hexec, ht⟩ := exec_selftestComplete_standby hmode hlost hio hchannels hslices hheard
    exact ⟨t, hexec, ht, attempts_of_selftest_to_standby hmode hexec ht⟩

end Sys2Proof.Machine
end

section
/-! The block as a whole: every command completes and leaves the queue, the invariant of stores and recorder, the mode. -/

namespace Sys2Proof.Machine

/-! ## Every command completes -/

theorem exec_next (c : Instr) (s : State) : ∃ t, exec c s = .next t := by cases c <;> exact ⟨_, rfl⟩

theorem pending_of_keptOut {s t : State} {o : Host.Outcome State Fault Refusal} (h : o = .next t) (hk : keptOut o = some (kept s)) :
    t.pending = s.pending := by
  subst h
  exact congrArg Kept.pending (Option.some.inj hk)

theorem pending_of_next {s x t : State} (h : (.next x : Host.Outcome State Fault Refusal) = .next t) (hx : (kept x).pending = (kept s).pending) :
    t.pending = s.pending := by
  injection h with h
  exact h ▸ hx

/-- The rows that are commands written over HAP, at either of their two points. -/
def isWritten : Instr → Bool
  | .cmdToStandby _ | .cmdToActive _ _ _ | .cmdSelectFunction _ _ _ | .cmdToMaintenance _ | .locRestart _ | .locMaint _ | .locDmpRelease _
  | .evtAckAll _ | .evtAckEvent _ _ | .evtMask _ _ _ | .logClear _ _ _ | .mrtCntClear _ | .ldlCntClear _ | .estRestart _
  | .estBaAccept _ _ _ | .estBaReject _ _ _ | .alcUnitEnable _ _ | .alcPushForce _ _ | .alcTest _ _ | .alcTestThrust _ _ | .alcTestAz _ _
  | .mpcTargetWrite _ _ _ | .mpcTrkCtrl _ _ | .mpcTrkWaypointWrite _ _ _ | .wskDisputeSel _ _ | .wskExclude _ _ | .gnaSysEnable _ _ _
  | .sivSetSelect _ _ _ | .canRestart _ _ | .canWarnWrite _ _ _ | .tngSwap _ | .trvReset _ _ | .trvWirechkOn _ _ | .trvWirechkOff _ _
  | .pnlRefresh _ | .lifeCycleTransition _ _ _ | .ktlManualSkilletTest _ _ | .ktlManualSliceMarch _ _ | .ktlManualOutputTest _ _
  | .ktlInjectCorrectable _ _ | .ktlInjectUncorrectable _ _ | .ktlInjectSkilletFail _ _ | .locKtlClear _ _ | .updOpen _ | .updVerify _
  | .updDiscard _ | .updCommit _ _ _ | .txqOvfClear _ => true
  | _ => false

/-- The rows beside them that may change something of what `kept` reads. -/
def changesKept : Instr → Bool
  | .resetRelease _ _ _ | .supplyReset _ _ | .clockMonitorReset | .clockMonitorRelease _ _ _ | .bootComplete _ _ _ | .keyReading _
  | .loadComplete _ _ _ _ | .selftestComplete _ | .inputCutoff _ | .holdEntry | .inputCommit _ | .recorderWrite | .registerWrite _ _ _ | .stagingEraseComplete
  | .bankCopyComplete | .blkSel _ _ | .blkAddr _ _ | .blkDataWrite _ _ | .recoveryErase _ _ | .recoveryWrite _ | .recoveryInstall _
  | .mramUncorrectable _ | .fatalDumpComplete _ | .panelRowComplete | .compensationLineComplete => true
  | _ => false

/-- Every other row keeps all that `kept` reads. -/
theorem keptOut_exec {c : Instr} (hw : isWritten c = false) (hc : changesKept c = false) (s : State) : keptOut (exec c s) = some (kept s) := by
  cases c
  all_goals first
    | exact Bool.noConfusion hw
    | exact Bool.noConfusion hc
    | simp [exec]

/-- A command written over HAP is its write request or its effect; the two with MODE 4 may find the pair in another mode. -/
theorem exec_of_isWritten {c : Instr} (hw : isWritten c = true) (s : State) :
    exec c s = .next s ∨ ∃ p addr words hit, exec c s = .next (commandPoint p addr words hit s) := by
  cases c
  case cmdToActive p func berth =>
    by_cases h : p = .effect ∧ s.mir.mode.pairMode ≠ .standby
    · exact .inl (congrArg Host.Outcome.next (if_pos h))
    · exact .inr ⟨_, _, _, _, congrArg Host.Outcome.next (if_neg h)⟩
  case cmdSelectFunction p func berth =>
    by_cases h : p = .effect ∧ s.mir.mode.pairMode ≠ .active
    · exact .inl (congrArg Host.Outcome.next (if_pos h))
    · exact .inr ⟨_, _, _, _, congrArg Host.Outcome.next (if_neg h)⟩
  all_goals first
    | exact Bool.noConfusion hw
    | exact .inr ⟨_, _, _, _, rfl⟩

theorem written_pending {c : Instr} {s t : State} (hw : isWritten c = true) (h : exec c s = .next t) : t.pending = s.pending := by
  obtain hs | ⟨p, addr, words, hit, hx⟩ := exec_of_isWritten hw s
  · exact pending_of_next (hs.symm.trans h) rfl
  · exact pending_of_next (hx.symm.trans h) (commandPoint_kept_pending p addr words hit s)

theorem exec_pending {c : Instr} {s t : State} (h : exec c s = .next t) : t.pending = s.pending := by
  by_cases hw : isWritten c = true
  · exact written_pending hw h
  by_cases hc : changesKept c = true
  case neg => exact pending_of_keptOut h (keptOut_exec (by simpa using hw) (by simpa using hc) s)
  cases c
  all_goals first
    | exact absurd rfl hw
    | exact Bool.noConfusion hc
    | skip
  case bootComplete => exact execBootComplete_kept_pending _ _ _ s t h
  case resetRelease cause _ _ => cases cause <;> exact pending_of_next h (by simp)
  case holdEntry =>
    refine pending_of_next h ?_
    split <;> simp [kept_at]
  case mramUncorrectable item => cases item <;> exact pending_of_next h (by simp [kept_at])
  case recoveryErase r busy => exact pending_of_next h (recoveryRequest_kept_pending _ _ _ s (fun s => by simp [kept_at]))
  case recoveryWrite r => exact pending_of_next h (recoveryRequest_kept_pending _ _ _ s (fun s => by simp [kept_at]))
  case recoveryInstall r => exact pending_of_next h (recoveryRequest_kept_pending _ _ _ s (fun s => by simp [kept_at]))
  all_goals exact pending_of_next h (by simp [kept_at])
  

/-! ## The invariant -/

/-- The invariant, part by part. -/
structure StoresOk (s : State) : Prop where
  dump : Memory.wf 0 s.dmp.mem = true
  staging : Memory.wf 0xFF s.upd.staging = true
  frame : Memory.wf 0 s.pnl.frame = true
  bankA : Memory.wf 0xFF s.upd.bankA.content = true
  bankB : Memory.wf 0xFF s.upd.bankB.content = true
  recorder : recorderOk s

theorem inv_iff (s : State) : Inv s ↔ StoresOk s := by
  simp only [Inv, memoryOk, Bool.and_eq_true]
  constructor
  · rintro ⟨⟨⟨⟨⟨hd, hs⟩, hf⟩, ha⟩, hb⟩, hr⟩
    exact ⟨hd, hs, hf, ha, hb, hr⟩
  · rintro ⟨hd, hs, hf, ha, hb, hr⟩
    exact ⟨⟨⟨⟨⟨hd, hs⟩, hf⟩, ha⟩, hb⟩, hr⟩

/-- What the invariant reads of the addressed memories. -/
def memories (s : State) : List Host.Cell × List Host.Cell × List Host.Cell × List Host.Cell × List Host.Cell :=
  ((kept s).dump, (kept s).staging, (kept s).frame, (kept s).bankA, (kept s).bankB)

/-- What it reads of the recorder. -/
def recordings (s : State) : List EvRecord × Bool := ((kept s).records, (kept s).full)

/-- Where the invariant holds in `s`, it holds in `t`. -/
def KeepsInv (s t : State) : Prop := StoresOk s → StoresOk t

namespace KeepsInv

theorem refl (s : State) : KeepsInv s s := id

theorem trans {s t u : State} (h : KeepsInv s t) (k : KeepsInv t u) : KeepsInv s u := k ∘ h

theorem ite {s a b : State} {c : Prop} [Decidable c] (ha : KeepsInv s a) (hb : KeepsInv s b) : KeepsInv s (if c then a else b) := by
  split
  · exact ha
  · exact hb

/-- The same memories, and a recorder that stays in order. -/
theorem of_memories {s t : State} (hm : memories t = memories s) (hr : recorderOk s → recorderOk t) : KeepsInv s t := by
  intro h
  simp only [memories, Prod.mk.injEq] at hm
  obtain ⟨hdump, hstaging, hframe, hbankA, hbankB⟩ := hm
  exact ⟨(congrArg (Memory.wf 0) hdump).trans h.dump, (congrArg (Memory.wf 0xFF) hstaging).trans h.staging,
    (congrArg (Memory.wf 0) hframe).trans h.frame, (congrArg (Memory.wf 0xFF) hbankA).trans h.bankA,
    (congrArg (Memory.wf 0xFF) hbankB).trans h.bankB, hr h.recorder⟩

theorem recorderOk_of_recordings {s t : State} (hr : recordings t = recordings s) (h : recorderOk s) : recorderOk t := by
  obtain ⟨hrecords, hfull⟩ := Prod.mk.inj hr
  change t.log.records = s.log.records at hrecords
  change t.log.full = s.log.full at hfull
  rwa [recorderOk, hrecords, hfull]

theorem of_stores {s t : State} (hm : memories t = memories s) (hr : recordings t = recordings s) : KeepsInv s t :=
  of_memories hm (recorderOk_of_recordings hr)

/-- As `trans`, where what comes first changes nothing that the invariant reads. -/
theorem after {s t u : State} (h : KeepsInv t u) (hm : memories t = memories s) (hr : recordings t = recordings s) : KeepsInv s u :=
  (of_stores hm hr).trans h

theorem of_kept {s t : State} (h : kept t = kept s) : KeepsInv s t := of_stores (by simp only [memories, h]) (by simp only [recordings, h])

theorem of_keptOut {s t : State} {o : Host.Outcome State Fault Refusal} (h : o = .next t) (hk : keptOut o = some (kept s)) : KeepsInv s t := by
  subst h
  exact of_kept (Option.some.inj hk)

theorem of_next {s x t : State} (h : (.next x : Host.Outcome State Fault Refusal) = .next t) (hx : KeepsInv s x) : KeepsInv s t := by
  injection h with h
  exact h ▸ hx

theorem foldl {α : Type} {g : State → α → State} (hg : ∀ s x, KeepsInv s (g s x)) (l : List α) (s : State) : KeepsInv s (l.foldl g s) := by
  induction l generalizing s with
  | nil => exact refl s
  | cons x r ih => exact (hg s x).trans (ih _)

end KeepsInv

/-! ### The recorder -/

theorem writeRecord_recorderOk (d : DueRecord) (s : State) (h : recorderOk s) : recorderOk (writeRecord d s) := by
  cases hfull : s.log.full
  case true => rwa [writeRecord_of_full d hfull]
  have hroom : s.log.records.length ≤ lastIndex := by simpa [recorderOk, hfull] using h
  unfold writeRecord
  simp only [hfull, Bool.false_eq_true, if_false]
  split
  · exact .inl ⟨rfl, by simpa [modAt] using hroom⟩
  · split
    · have hlast : s.log.records.length = lastIndex := ‹_›
      split
      · exact .inr ⟨rfl, by simp [hlast]⟩
      · exact .inr (by simp [hlast])
    · exact .inl ⟨rfl, by simp; omega⟩

theorem writeRecord_keepsInv (d : DueRecord) (s : State) : KeepsInv s (writeRecord d s) :=
  .of_memories (by simp [memories]) (writeRecord_recorderOk d s)

theorem writeDue_keepsInv (s : State) : KeepsInv s (writeDue s) := by
  have h := KeepsInv.foldl (fun s d => writeRecord_keepsInv d s) (dueOrder s.evt.due) s
  exact h.trans (.of_stores rfl rfl)

theorem clearRecorder_keepsInv (slot : Nat) (s : State) : KeepsInv s (clearRecorder slot s) := by
  obtain ⟨⟨r, hr, -⟩, hfull, -⟩ := clearRecorder_recorder slot s
  exact .of_memories (by simp [memories]) fun _ => .inl ⟨hfull, by simp [hr, lastIndex]⟩


/-! ### Reset, restart and the panel -/

theorem commitRow_keepsInv (r : Nat) (new : List Byte) (s : State) : KeepsInv s (commitRow r new s) :=
  fun h => { h with frame := memWrites_wf 0 new _ _ h.frame }

theorem completeLine_keepsInv (s : State) : KeepsInv s (completeLine s) := by
  unfold completeLine
  split
  · exact .ite (.refl s) (.ite (.of_stores rfl rfl) (commitRow_keepsInv _ _ s))
  · exact .refl s

theorem closeOutPanel_keepsInv (complete : Bool) (s : State) : KeepsInv s (closeOutPanel complete s) := by
  unfold closeOutPanel
  split
  · exact .refl s
  · exact .ite (completeLine_keepsInv s) (.of_stores rfl rfl)

theorem assertReset_keepsInv (complete : Bool) (s : State) : KeepsInv s (assertReset complete s) := by
  have hpanel := closeOutPanel_keepsInv complete s
  have hrest : KeepsInv (closeOutPanel complete s) (assertReset complete s) := by
    refine .of_stores ?_ ?_
    · simp [memories, assertReset, kept_at]
    · simp [recordings, assertReset, kept_at]
  exact hpanel.trans hrest

theorem resetUnit_keepsInv (cause : ResetCause) (unit : UnitId) (crackOpen : Bool) (s : State) : KeepsInv s (resetUnit cause unit crackOpen s) := by
  intro h
  have hdump : Memory.wf 0 (kept (resetUnit cause unit crackOpen s)).dump = true := by
    rw [resetUnit_kept_dump]
    split
    · exact h.dump
    · exact Memory.wf_nil 0
  have hlog : recordings (resetUnit cause unit crackOpen s) = recordings s := by simp [recordings]
  exact
    { dump := hdump
      staging := (congrArg (Memory.wf 0xFF) (resetUnit_kept_staging cause unit crackOpen s)).trans h.staging
      frame := (congrArg (Memory.wf 0) (resetUnit_kept_frame cause unit crackOpen s)).trans h.frame
      bankA := (congrArg (Memory.wf 0xFF) (resetUnit_kept_bankA cause unit crackOpen s)).trans h.bankA
      bankB := (congrArg (Memory.wf 0xFF) (resetUnit_kept_bankB cause unit crackOpen s)).trans h.bankB
      recorder := KeepsInv.recorderOk_of_recordings hlog h.recorder }

theorem changeMode_keepsInv (m : Mode) (cause : Nat) (s : State) : KeepsInv s (changeMode m cause s) :=
  .of_stores (by simp [memories]) (by simp [recordings])

/-- The records due are written, reset asserts, and the unit starts. -/
theorem writtenReset_keepsInv (cause : ResetCause) (s : State) :
    KeepsInv s (resetUnit cause (writeDue (changeMode .boot 0 s)).um.unit (writeDue (changeMode .boot 0 s)).pnl.crack
      (assertReset true (writeDue (changeMode .boot 0 s)))) :=
  ((changeMode_keepsInv .boot 0 s).trans (writeDue_keepsInv _)).trans ((assertReset_keepsInv true _).trans (resetUnit_keepsInv cause _ _ _))

theorem restartUnit_keepsInv (s : State) : KeepsInv s (restartUnit s) :=
  .ite (.of_stores rfl rfl) (writtenReset_keepsInv .locRestart s)

theorem monitorRelease_keepsInv (nowMs : Nat) (strapHigh crackOpen : Bool) (s : State) :
    KeepsInv s (monitorRelease nowMs strapHigh crackOpen s) := by
  unfold monitorRelease
  refine .ite (.ite (.of_kept ?_) (.trans (.of_kept ?_) (resetUnit_keepsInv _ _ _ _))) (.refl s)
  all_goals simp [kept_at]

theorem supplyRelease_keepsInv (volts heldMs : Nat) (strapHigh crackOpen : Bool) (s : State) :
    KeepsInv s (supplyRelease volts heldMs strapHigh crackOpen s) := by
  unfold supplyRelease
  refine .ite (.ite (.of_kept ?_) (.trans (.of_kept ?_) (resetUnit_keepsInv _ _ _ _))) (.refl s)
  all_goals simp [kept_at]

/-! ### Banks and recovery -/

/-- A bank takes a canonical content from canonical staging. -/
theorem installBank_keepsInv (b : Side) (byRecovery : Bool) (s : State) : KeepsInv s (installBank b byRecovery s) := by
  intro h
  have hcontent : Memory.wf 0xFF (newBank byRecovery s).content = true := Memory.wf_filter 0xFF _ _ h.staging
  cases b
  · exact { h with bankA := hcontent }
  · exact { h with bankB := hcontent }

theorem finishCopy_keepsInv (s : State) : KeepsInv s (finishCopy s) := by
  unfold finishCopy
  refine (installBank_keepsInv (otherSide s.upd.running) false s).trans (.trans (.of_stores ?_ ?_) (restartUnit_keepsInv _))
  all_goals simp [memories, recordings, kept_at]

theorem answerRecovery_keepsInv (op : Nat) (r : RecReq) (status : Nat) (s : State) : KeepsInv s (answerRecovery op r status s) :=
  .of_kept (answerRecovery_kept op r status s)

/-- A recovery request keeps the invariant where its action does. -/
theorem recoveryRequest_keepsInv (op : Nat) (r : RecReq) {act : State → State} {s : State} (h : KeepsInv s (act s)) :
    KeepsInv s (recoveryRequest op r act s) :=
  .ite (.ite (.of_kept (send_kept _ s)) h) (.refl s)

/-- Updates that each keep a panel's frame memory canonical keep it so together. -/
theorem frame_wf_foldl {put : Panel → Nat → Panel} (hput : ∀ p r, Memory.wf 0 p.frame = true → Memory.wf 0 (put p r).frame = true)
    (l : List Nat) {p : Panel} (h : Memory.wf 0 p.frame = true) : Memory.wf 0 (l.foldl put p).frame = true := by
  induction l generalizing p with
  | nil => exact h
  | cons r l ih => exact ih (hput p r h)

theorem writeRecovery_frame_wf {s : State} (h : Memory.wf 0 s.pnl.frame = true) : Memory.wf 0 (writeRecovery s).pnl.frame = true := by
  rw [writeRecovery]
  cases hoff : (s.pnl.suspended || s.pnl.frozen)
  · simp only [Bool.false_eq_true, if_false]
    refine frame_wf_foldl (fun p r hp => ?_) _ h
    exact memWrites_wf 0 _ _ _ hp
  · simpa using h

theorem writeRecovery_keepsInv (s : State) : KeepsInv s (writeRecovery s) := fun h =>
  { dump := (congrArg (Memory.wf 0) (writeRecovery_kept_dump s)).trans h.dump
    staging := (congrArg (Memory.wf 0xFF) (writeRecovery_kept_staging s)).trans h.staging
    frame := writeRecovery_frame_wf h.frame
    bankA := (congrArg (Memory.wf 0xFF) (writeRecovery_kept_bankA s)).trans h.bankA
    bankB := (congrArg (Memory.wf 0xFF) (writeRecovery_kept_bankB s)).trans h.bankB
    recorder := KeepsInv.recorderOk_of_recordings (by simp [recordings]) h.recorder }

/-! ### Requests and their effects -/

theorem setStaging_keepsInv {m : List Host.Cell} {s : State} (hm : Memory.wf 0xFF s.upd.staging = true → Memory.wf 0xFF m = true) :
    KeepsInv s { s with upd := { s.upd with staging := m } } := fun h => { h with staging := hm h.staging }

theorem writeBulk_keepsInv (r : HapReq) (x : Session) (addr : Nat) (words : List Word) (s : State) : KeepsInv s (writeBulk r x addr words s).2 := by
  unfold writeBulk
  dsimp only
  generalize List.foldl bulkStep _ _ = b
  split
  · exact .refl s
  · split
    · exact .refl s
    · refine .ite (.of_kept (modSession_kept _ _ s)) ?_
      exact .trans (.of_kept (modSession_kept _ _ s)) (setStaging_keepsInv fun h => memWrites_wf 0xFF _ _ _ h)

section
variable {op addr count : Nat} {body : List Byte} {form needsSession : Bool} {r : HapReq}
  {act : Option Session → State → Option Answer × State} (hact : ∀ x s, KeepsInv s (act x s).2)
include hact

theorem runRequest_keepsInv (x : Option Session) (s : State) : KeepsInv s (runRequest op addr count r act x s) := by
  unfold runRequest
  dsimp only
  split
  · exact (hact x s).trans (.of_kept (sendAnswer_kept _ _ _ _))
  · exact hact x s

theorem admitSession_keepsInv (x : Session) (s : State) : KeepsInv s (admitSession op addr count body form r act x s) := by
  unfold admitSession
  refine .ite (.refl s) ?_
  split
  · exact .of_kept (by simp)
  · refine .ite (.refl s) (.ite (.of_kept (busy_kept ..)) (.ite (.of_kept (by simp)) (.ite (.of_kept (by simp)) ?_)))
    exact .trans (.of_kept (by simp)) (runRequest_keepsInv hact _ _)

theorem admitRequest_keepsInv (s : State) : KeepsInv s (admitRequest op addr count body form needsSession r act s) := by
  unfold admitRequest
  refine .ite (.refl s) ?_
  split
  · exact .ite (.of_kept (macFailed_kept s)) (admitSession_keepsInv hact _ s)
  · refine .ite (.of_kept (busy_kept ..)) (.ite (.of_kept (by simp)) (.ite (.of_kept (by simp)) (.ite (.of_kept (by simp)) ?_)))
    exact .trans (.of_kept (enqueue_kept r s)) (runRequest_keepsInv hact _ _)

end

theorem writeRequest_keepsInv (r : HapReq) (addr : Nat) (words : List Word) (s : State) : KeepsInv s (writeRequest r addr words s) := by
  refine admitRequest_keepsInv (fun x s => ?_) s
  split
  · exact .refl s
  · dsimp only
    generalize (if r.repeated = true then [(addr, (0 : Word))] else regsOf addr words) = rs
    split
    · exact .refl s
    · split
      · exact .refl s
      · split
        · exact .refl s
        · split
          · split <;> exact writeBulk_keepsInv _ _ _ _ s
          · split
            · exact .refl s
            · split
              · exact .of_kept (by simp)
              · split
                · exact .refl s
                · exact .of_kept (by simp)

theorem applyWord_keepsInv (slot : Nat) (rs : List (Nat × Word)) (a : Nat) (w : Word) (s : State) : KeepsInv s (applyWord slot rs a w s) := by
  by_cases ha : a = 0xB00000
  · subst ha
    change KeepsInv s (if namesUnit w s then clearRecorder slot s else s)
    exact .ite (clearRecorder_keepsInv slot s) (.refl s)
  · exact .of_stores (by simp [memories]) (by simp [recordings, applyWord, ha, kept_at, kept_foldl])

theorem takeEffect_keepsInv (c : Command) (s : State) : KeepsInv s (takeEffect c s) :=
  .trans (.foldl (fun s r => applyWord_keepsInv c.slot _ r.1 r.2 s) (regsOf c.addr c.words) s) (.of_stores rfl rfl)

theorem effectMirrored_keepsInv (addr : Nat) (hit : List Word → Bool) (s : State) : KeepsInv s (effectMirrored addr hit s) := by
  unfold effectMirrored
  split
  · exact .after (takeEffect_keepsInv _ _) rfl rfl
  · exact .refl s

theorem applyLocal_keepsInv (slot a : Nat) (w : Word) (s : State) : KeepsInv s (applyLocal slot a w s) :=
  .ite (restartUnit_keepsInv s) <| .ite (.of_stores (by simp [memories]) (by simp [recordings])) <|
    .ite (.ite (.of_stores rfl rfl) (.refl s)) <| .ite (.of_kept (releaseDump_kept s)) <| .ite (.of_kept (startManual_kept w s)) <|
    .ite (.of_kept (clearHealth_kept w s)) <| .ite (.of_kept (updateControl_kept slot w s)) (.refl s)

theorem applyLocalWrite_keepsInv (x : Nat × List Word × Nat × Nat) (s : State) : KeepsInv s (applyLocalWrite x s) :=
  .foldl (fun s _ => .ite (applyLocal_keepsInv _ _ _ s) (.refl s)) _ s

theorem effectLocal_keepsInv (addr : Nat) (hit : List Word → Bool) (s : State) : KeepsInv s (effectLocal addr hit s) := by
  unfold effectLocal
  split
  · exact .after (applyLocalWrite_keepsInv _ _) rfl rfl
  · exact .refl s

theorem commandPoint_keepsInv (p : CmdPoint) (addr : Nat) (words : List Word) (hit : List Word → Bool) (s : State) :
    KeepsInv s (commandPoint p addr words hit s) := by
  cases p with
  | request r => exact writeRequest_keepsInv r addr words s
  | effect => exact .ite (effectLocal_keepsInv addr hit s) (effectMirrored_keepsInv addr hit s)

/-! ### E+80 µs -/

theorem applyDue_keepsInv (s : State) : KeepsInv s (applyDue s) :=
  .after (.foldl (fun s c => takeEffect_keepsInv c s) _ _) rfl rfl

theorem applyLocalDue_keepsInv (s : State) : KeepsInv s (applyLocalDue s) :=
  .after (.foldl (fun s x => applyLocalWrite_keepsInv x s) _ _) rfl rfl

theorem inputCommit_keepsInv (late : List SlowJob) (s : State) : KeepsInv s (inputCommit late s) := by
  have hcommit : KeepsInv s (commitTime (clearFlags (commitRecords s))) := .of_kept (by simp)
  have hslow (t : State) : KeepsInv t (takeCommands (commitSlowWork late t)) := .of_kept (by simp)
  have hsave (t : State) : KeepsInv t { t with saved := some t.mir } := .of_stores rfl rfl
  unfold inputCommit
  exact ((hcommit.trans (applyDue_keepsInv _)).trans (hslow _)).trans ((applyLocalDue_keepsInv _).trans (hsave _))

/-! ### Every row -/

theorem startRecovery_keepsInv (s : State) : KeepsInv s (startRecovery s) := (changeMode_keepsInv _ _ s).trans (writeRecovery_keepsInv _)

theorem execBootComplete_keepsInv {headerOk : Bool} {a b : BankCheck} {s t : State} (h : execBootComplete headerOk a b s = .next t) :
    KeepsInv s t := by
  have hbanks (l : List Side) : KeepsInv s (tryBanks a b l (countStart s)).2 := .of_kept (by simp)
  refine .of_next h (.ite (.ite ?_ (startRecovery_keepsInv s)) (.refl s))
  dsimp only
  split
  · rename_i k u hk
    have hu : KeepsInv s u := by simpa [hk] using hbanks [(countStart s).upd.selected, otherSide (countStart s).upd.selected]
    exact hu.trans (.of_stores (by simp [memories]) (by simp [recordings]))
  · rename_i u hk
    have hu : KeepsInv s u := by simpa [hk] using hbanks [(countStart s).upd.selected, otherSide (countStart s).upd.selected]
    exact hu.trans (startRecovery_keepsInv u)

/-- The dump is written over memory that reads 0 elsewhere. -/
theorem dumpSections_wf (processorState : List Byte) (sets : List (Nat × List InRecord)) (s : State) :
    Memory.wf 0 (dumpSections processorState sets s) = true := by
  have hfold (l : List Nat) (m : List Host.Cell) (hm : Memory.wf 0 m = true) (put : Nat → Nat × List Byte) :
      Memory.wf 0 (l.foldl (fun m i => memWrites 0 (put i).1 (put i).2 m) m) = true := by
    induction l generalizing m with
    | nil => exact hm
    | cons i l ih => exact ih _ (memWrites_wf 0 _ _ _ hm)
  exact hfold _ _ (memWrites_wf 0 _ _ _ (memWrites_wf 0 _ _ _ (memWrites_wf 0 _ _ _ (Memory.wf_nil 0))))
    fun i => (dumpInputsAt + 0x8000 * i, (dumpBlock (sets.getD i (0, []))).take 0x8000)

theorem setDump_keepsInv {d : Dump} (hd : Memory.wf 0 d.mem = true) (s : State) : KeepsInv s { s with dmp := d } := fun h => { h with dump := hd }

theorem finishDump_keepsInv (processorState : List Byte) (s : State) : KeepsInv s (finishDump processorState s) := by
  unfold finishDump
  split
  · rename_i d hd
    have hsections := dumpSections_wf processorState (recentSets d.epoch s) s
    dsimp only
    generalize dumpSections processorState (recentSets d.epoch s) s = m at hsections ⊢
    exact .trans (setDump_keepsInv (memWrites_wf 0 _ 0 m hsections) s) (.of_kept (raise_kept 17 _))
  · exact .refl s

theorem execMramUncorrectable_keepsInv {item : MramItem} {s t : State} (h : execMramUncorrectable item s = .next t) : KeepsInv s t := by
  refine .of_next h (.ite (.refl s) ?_)
  cases item with
  | record i =>
    have hraise (t : State) : KeepsInv t (raise 20 t) := .of_kept (raise_kept 20 t)
    refine .trans (.of_memories ?_ fun hs => ?_) (hraise _)
    · rfl
    simpa [recorderOk, modAt] using hs
  | _ => exact .of_kept (by simp [kept_at])

theorem exec_keepsInv {c : Instr} {s t : State} (h : exec c s = .next t) : KeepsInv s t := by
  by_cases hw : isWritten c = true
  · obtain hs | ⟨p, addr, words, hit, hx⟩ := exec_of_isWritten hw s
    · exact .of_next (hs.symm.trans h) (.refl s)
    · exact .of_next (hx.symm.trans h) (commandPoint_keepsInv p addr words hit s)
  by_cases hc : changesKept c = true
  case neg => exact .of_keptOut h (keptOut_exec (by simpa using hw) (by simpa using hc) s)
  cases c
  case resetRelease cause _ _ =>
    refine .of_next h ?_
    cases cause with
    | power => exact resetUnit_keepsInv _ _ _ s
    | supply volts heldMs => exact supplyRelease_keepsInv _ _ _ _ s
    | monitor nowMs => exact monitorRelease_keepsInv _ _ _ s
  case supplyReset =>
    exact .of_next h (.ite (.trans (.ite (.refl s) (assertReset_keepsInv _ s)) (.of_stores rfl rfl)) (.refl s))
  case clockMonitorReset => exact .of_next h (.trans (.ite (.refl s) (assertReset_keepsInv _ s)) (.of_stores rfl rfl))
  case clockMonitorRelease => exact .of_next h (monitorRelease_keepsInv _ _ _ s)
  case bootComplete => exact execBootComplete_keepsInv h
  case mramUncorrectable => exact execMramUncorrectable_keepsInv h
  case inputCommit =>
    have hlocal (t : State) := (applyDue_keepsInv t).trans (applyLocalDue_keepsInv _)
    exact .of_next h (.after (.ite (inputCommit_keepsInv _ _) (.ite (hlocal _) (.refl _))) rfl rfl)
  case recorderWrite =>
    have hnotify (l : List DueRecord) (t : State) : KeepsInv t (notifyAll l t) := .of_kept (notifyAll_kept l t)
    have hwritten (t : State) : KeepsInv t { t with evt := { t.evt with written := [] } } := .of_stores rfl rfl
    exact .of_next h (((hnotify _ s).trans (hnotify _ _)).trans ((hwritten _).trans ((writeDue_keepsInv _).trans ((hnotify _ _).trans (hwritten _)))))
  case registerWrite | blkSel | blkAddr | blkDataWrite => exact .of_next h (writeRequest_keepsInv _ _ _ s)
  case stagingEraseComplete =>
    have hempty : KeepsInv s { s with upd := { s.upd with staging := [], state := 2, progress := 0 } } :=
      fun hs => { hs with staging := Memory.wf_nil 0xFF }
    exact .of_next h (.ite hempty (.refl s))
  case bankCopyComplete => exact .of_next h (.ite (finishCopy_keepsInv s) (.refl s))
  case recoveryErase r busy =>
    have hempty : KeepsInv s { s with upd := { s.upd with staging := [], recVerified := false } } :=
      fun hs => { hs with staging := Memory.wf_nil 0xFF }
    exact .of_next h (recoveryRequest_keepsInv 1 r (.ite (answerRecovery_keepsInv _ _ _ s) (hempty.trans (answerRecovery_keepsInv _ _ _ _))))
  case recoveryWrite r =>
    have hwrite : KeepsInv s { s with upd := { s.upd with staging := memWrites 0xFF r.offset r.data s.upd.staging, recVerified := false } } :=
      fun hs => { hs with staging := memWrites_wf 0xFF _ _ _ hs.staging }
    exact .of_next h (recoveryRequest_keepsInv 2 r (.ite (hwrite.trans (answerRecovery_keepsInv _ _ _ _)) (answerRecovery_keepsInv _ _ _ s)))
  case recoveryInstall r =>
    have hbank := (installBank_keepsInv (installTarget s) true s).trans (answerRecovery_keepsInv 4 r 0 _)
    have hstart := hbank.trans (writtenReset_keepsInv .endOfRecovery _)
    exact .of_next h (recoveryRequest_keepsInv 4 r (.ite (hstart.trans (.of_stores rfl rfl)) (answerRecovery_keepsInv _ _ _ s)))
  case fatalDumpComplete p => exact .of_next h (.ite (finishDump_keepsInv p s) (.refl s))
  case panelRowComplete => exact .of_next h (.ite ((completeLine_keepsInv s).trans (.of_kept (startRow_kept _))) (.refl s))
  case compensationLineComplete =>
    exact .of_next h (.ite (.ite ((completeLine_keepsInv s).trans (.of_kept (endUpdate_kept _)))
      ((completeLine_keepsInv s).trans (.of_stores rfl rfl))) (.refl s))
  case holdEntry =>
    refine .of_next h ?_
    split
    · exact .trans (.of_stores (by simp [memories, kept_at]) (by simp [recordings, kept_at])) (.ite (.of_kept (raise_kept 11 _)) (.refl _))
    · exact .refl s
  all_goals first
    | exact absurd rfl hw
    | exact Bool.noConfusion hc
    | exact .of_next h (.of_stores (by simp [memories, kept_at]) (by simp [recordings, kept_at]))

/-- Settles O5: each operation that writes to a store or to the recorder keeps its form, and every other one leaves them alone. -/
theorem everyStepKeepsInvariant : Obligations.EveryStepKeepsInvariant := by
  intro s t hinv hstep
  rw [inv_iff] at hinv ⊢
  unfold step at hstep
  split at hstep
  · exact KeepsInv.of_next hstep (.refl s) hinv
  · have hkeeps : KeepsInv s t := .after (exec_keepsInv hstep) rfl rfl
    exact hkeeps hinv


/-! ## The mode -/

/-- A restart without a commit record starts the unit in BOOT. -/
theorem restartUnit_mode {s : State} (h : s.upd.commit = none) : (restartUnit s).um.mode = .boot := by
  have hmode : (kept (restartUnit s)).mode = .boot := by
    unfold restartUnit
    simp [h]
  exact hmode

/-- A unit in HOLD that has accepted LOC_RESTART. -/
def restartWaits : State := { um := { mode := .hold }, ex := { epoch := 1 }, hap := { localDue := [(0xFF0018, [0], 0, 0)] } }

/-- The effect of EVT_MASK of a bank whose address would be that of LOC_RESTART takes the restart that waits there. -/
theorem exec_evtMask_restartWaits : exec (.evtMask .effect 0x3F3FFE 0) restartWaits = .next (restartUnit (localTaken restartWaits)) := rfl

/-- Refutes O7: EVT_MASK of a bank beyond 3, which no well-formed command names, reaches the address of LOC_RESTART, so that the effect of
that row restarts a unit in HOLD with an accepted LOC_RESTART. -/
theorem not_onlyModeCommandsChangeTheMode : ¬ Obligations.OnlyModeCommandsChangeTheMode := by
  intro h
  have hsame := h (.evtMask .effect 0x3F3FFE 0) restartWaits _ rfl exec_evtMask_restartWaits
  rw [restartUnit_mode rfl] at hsame
  exact absurd hsame (by decide)

/-- Settles O6. -/
theorem everyCommandCompletesAndKeepsQueue : Obligations.EveryCommandCompletesAndKeepsQueue := by
  intro c s
  obtain ⟨t, ht⟩ := exec_next c s
  exact ⟨t, ht, exec_pending ht⟩

/-- Settles O1: `step` reads the front of the queue. -/
theorem stepRunsFrontCommand : Obligations.StepRunsFrontCommand := by
  intro c rest s h
  simp [step, h]

/-- Settles O2: `step` reads an empty queue. -/
theorem emptyQueueIdles : Obligations.EmptyQueueIdles := by
  intro s h
  simp [step, h]

/-- Settles O4: the stores are empty and the recorder holds nothing. -/
theorem resetMeetsInvariant : Obligations.ResetMeetsInvariant := by
  refine ⟨rfl, .inl ⟨rfl, ?_⟩⟩
  exact Nat.zero_le _

end Sys2Proof.Machine
end

section
/-! Transitions (R64): what each operation that changes the unit's own mode may do to it. -/

namespace Sys2Proof.Machine

/-! ## One transition, a reset, or none -/

/-- The mode stays, takes one of the transitions of R64, or is BOOT after a reset. -/
def ModeStep (m n : Mode) : Prop := n = m ∨ transition m n = true ∨ n = .boot

theorem changeMode_mode (dst : Mode) (cause : Nat) (s : State) :
    (changeMode dst cause s).um.mode = if transition s.um.mode dst then dst else s.um.mode := by
  split
  · rw [changeMode_um ‹_›]
  · rw [changeMode, if_neg ‹_›]

theorem mode_of_kept {s t : State} (h : kept t = kept s) : t.um.mode = s.um.mode := congrArg Kept.mode h

theorem mode_of_kept_mode {s t : State} (h : (kept t).mode = (kept s).mode) : t.um.mode = s.um.mode := h

theorem changeMode_modeStep (dst : Mode) (cause : Nat) (s : State) : ModeStep s.um.mode (changeMode dst cause s).um.mode := by
  rw [changeMode_mode]
  split
  · exact .inr (.inl ‹_›)
  · exact .inl rfl

theorem enterHold_modeStep (cause : Nat) (s : State) : ModeStep s.um.mode (enterHold cause s).um.mode := by
  by_cases h : transition s.um.mode .hold = true
  · exact .inr (.inl ((enterHold_mode h cause).symm ▸ h))
  · exact .inl (by rw [enterHold, if_neg h])

theorem resetUnit_mode (cause : ResetCause) (unit : UnitId) (crackOpen : Bool) (s : State) : (resetUnit cause unit crackOpen s).um.mode = .boot :=
  resetUnit_kept_mode cause unit crackOpen s

theorem assertReset_mode (complete : Bool) (s : State) : (assertReset complete s).um.mode = .boot := by
  simp [assertReset]

theorem restartUnit_mode_or (s : State) : (restartUnit s).um.mode = s.um.mode ∨ (restartUnit s).um.mode = .boot := by
  cases h : s.upd.commit with
  | none => exact .inr (restartUnit_mode h)
  | some d => exact .inl (by simp [restartUnit, h])

theorem monitorRelease_modeStep (nowMs : Nat) (strapHigh crackOpen : Bool) (s : State) :
    ModeStep s.um.mode (monitorRelease nowMs strapHigh crackOpen s).um.mode := by
  unfold monitorRelease
  dsimp only
  split
  · split
    · exact .inl rfl
    · exact .inr (.inr (resetUnit_mode ..))
  · exact .inl rfl

theorem supplyRelease_modeStep (volts heldMs : Nat) (strapHigh crackOpen : Bool) (s : State) :
    ModeStep s.um.mode (supplyRelease volts heldMs strapHigh crackOpen s).um.mode := by
  unfold supplyRelease
  dsimp only
  split
  · split
    · exact .inl rfl
    · exact .inr (.inr (resetUnit_mode ..))
  · exact .inl rfl

/-! ## Commands written over HAP -/

theorem stopSlow_um (dst : Mode) (s : State) : (stopSlow dst s).um = s.um := by
  unfold stopSlow
  split
  · rfl
  · rfl

theorem changePairMode_mode (dst : Mode) (s : State) :
    (changePairMode dst s).um.mode = if transition s.um.mode dst then dst else s.um.mode := by
  have hleft (c : Prop) [Decidable c] : (if c then clearEvent 99 (setFunction none 0 false s) else s).um.mode = s.um.mode :=
    mode_of_kept (by simp)
  have hunits (c : Prop) [Decidable c] (f : Allocation → Allocation) (t : State) : (if c then modAlc f t else t).um = t.um := by
    split <;> rfl
  unfold changePairMode
  dsimp only
  rw [stopSlow_um, hunits, changeMode_mode]
  change (if transition (ite _ _ _ : State).um.mode dst = true then dst else (ite _ _ _ : State).um.mode) = _
  rw [hleft]

theorem changePairMode_modeStep (dst : Mode) (s : State) : ModeStep s.um.mode (changePairMode dst s).um.mode := by
  rw [changePairMode_mode]
  split
  · exact .inr (.inl ‹_›)
  · exact .inl rfl

theorem enterActive_modeStep (f : Func) (berth : Nat) (s : State) : ModeStep s.um.mode (enterActive f berth s).um.mode := by
  have hselect (t : State) : (selectFunction f berth t).um.mode = t.um.mode := mode_of_kept (selectFunction_kept f berth t)
  unfold enterActive
  rw [hselect]
  exact changePairMode_modeStep .active s

theorem applyModCmd_modeStep (w : Word) (s : State) : ModeStep s.um.mode (applyModCmd w s).um.mode := by
  unfold applyModCmd
  split
  · exact changePairMode_modeStep .standby s
  · split
    · split
      · exact enterActive_modeStep _ _ s
      · exact .inl (mode_of_kept (selectFunction_kept _ _ s))
    · exact .inl rfl
  · exact changePairMode_modeStep .maintenance s
  · exact .inl rfl

/-- Only MOD_CMD changes the mode (R401). -/
theorem applyWord_mode {a : Nat} (ha : a ≠ 0x1000C) (slot : Nat) (rs : List (Nat × Word)) (w : Word) (s : State) :
    (applyWord slot rs a w s).um.mode = s.um.mode := by
  have hmode : (kept (applyWord slot rs a w s)).mode = (kept s).mode := by
    simp [applyWord, ha, kept_at, kept_foldl]
  exact hmode

theorem applyWord_modeStep (slot : Nat) (rs : List (Nat × Word)) (a : Nat) (w : Word) (s : State) :
    ModeStep s.um.mode (applyWord slot rs a w s).um.mode := by
  by_cases ha : a = 0x1000C
  · subst ha
    exact applyModCmd_modeStep w s
  · exact .inl (applyWord_mode ha slot rs w s)

/-- Words of other registers leave the mode. -/
theorem foldl_applyWord_mode (slot : Nat) (rs : List (Nat × Word)) (l : List (Nat × Word)) (hl : ∀ r ∈ l, r.1 ≠ 0x1000C) (s : State) :
    (l.foldl (fun s r => applyWord slot rs r.1 r.2 s) s).um.mode = s.um.mode := by
  induction l generalizing s with
  | nil => rfl
  | cons r l ih =>
    rw [List.foldl_cons, ih (fun q hq => hl q (List.mem_cons_of_mem r hq)), applyWord_mode (hl r List.mem_cons_self)]

/-- Of registers with different addresses at most one is MOD_CMD. -/
theorem foldl_applyWord_modeStep (slot : Nat) (rs : List (Nat × Word)) (l : List (Nat × Word)) (hl : l.Pairwise fun p q => p.1 < q.1) (s : State) :
    ModeStep s.um.mode (l.foldl (fun s r => applyWord slot rs r.1 r.2 s) s).um.mode := by
  induction l generalizing s with
  | nil => exact .inl rfl
  | cons r l ih =>
    obtain ⟨hr, hl⟩ := List.pairwise_cons.mp hl
    rw [List.foldl_cons]
    by_cases ha : r.1 = 0x1000C
    · rw [foldl_applyWord_mode slot rs l (fun q hq => Nat.ne_of_gt (ha ▸ hr q hq))]
      exact applyWord_modeStep slot rs r.1 r.2 s
    · have hmode := applyWord_mode ha slot rs r.2 s
      exact hmode ▸ ih hl _

theorem regsOf_ascending (addr : Nat) (words : List Word) : (regsOf addr words).Pairwise fun p q => p.1 < q.1 := by
  simp only [regsOf, mapAt, List.pairwise_iff_getElem, List.getElem_mapIdx]
  omega

theorem takeEffect_modeStep (c : Command) (s : State) : ModeStep s.um.mode (takeEffect c s).um.mode :=
  foldl_applyWord_modeStep c.slot _ _ (regsOf_ascending c.addr c.words) s

theorem effectMirrored_modeStep (addr : Nat) (hit : List Word → Bool) (s : State) : ModeStep s.um.mode (effectMirrored addr hit s).um.mode := by
  unfold effectMirrored
  split
  · exact takeEffect_modeStep _ _
  · exact .inl rfl

/-- LOC_MAINT takes effect in HOLD alone. -/
theorem hold_of_localMode {s : State} (h : localMode 0xFF001C s = true) : s.um.mode = .hold := by
  cases hmode : s.um.mode with
  | hold => rfl
  | standby | active | maintenance => simp [localMode, hmode] at h
  | boot | load | selftest | recovery => simp [localMode, hmode] at h

theorem toMaintenance_mode {s : State} (h : s.um.mode = .hold) : (toMaintenance s).um.mode = .maintenance := by
  have hmode : (endFunction s).um.mode = .hold := h
  unfold toMaintenance
  dsimp only
  rw [changeMode_mode, hmode]
  rfl

/-- Where the unit's mode takes it, a unit-local word restarts the unit, takes it from HOLD to MAINTENANCE, or leaves its mode. -/
theorem applyLocal_mode (slot : Nat) {a : Nat} (w : Word) {s : State} (h : localMode a s = true) :
    (applyLocal slot a w s).um.mode = s.um.mode ∨ (applyLocal slot a w s).um.mode = .boot ∨
      s.um.mode = .hold ∧ (applyLocal slot a w s).um.mode = .maintenance := by
  by_cases hrestart : a = 0xFF0018
  · rw [applyLocal, if_pos hrestart]
    exact (restartUnit_mode_or s).imp_right .inl
  by_cases hmaint : a = 0xFF001C
  · subst hmaint
    have hhold := hold_of_localMode h
    exact .inr (.inr ⟨hhold, toMaintenance_mode hhold⟩)
  · refine .inl (mode_of_kept ?_)
    simp [applyLocal, hrestart, hmaint, kept_at]

/-- The modes that unit-local writes can lead to from `m`. -/
def LocalModes (m n : Mode) : Prop := n = m ∨ n = .boot ∨ m = .hold ∧ n = .maintenance

theorem LocalModes.modeStep {m n : Mode} (h : LocalModes m n) : ModeStep m n := by
  obtain rfl | rfl | ⟨rfl, rfl⟩ := h
  · exact .inl rfl
  · exact .inr (.inr rfl)
  · exact .inr (.inl rfl)

theorem LocalModes.applyLocal {m : Mode} (slot : Nat) {a : Nat} (w : Word) {s : State} (h : LocalModes m s.um.mode)
    (ha : localMode a s = true) : LocalModes m (applyLocal slot a w s).um.mode := by
  obtain hsame | hboot | ⟨hhold, hmaint⟩ := applyLocal_mode slot w ha
  · rwa [hsame]
  · exact .inr (.inl hboot)
  · rw [hhold] at h
    obtain hm | hm | ⟨-, hm⟩ := h
    · exact .inr (.inr ⟨hm.symm, hmaint⟩)
    · cases hm
    · cases hm

theorem applyLocalWrite_localModes {m : Mode} (x : Nat × List Word × Nat × Nat) {s : State} (h : LocalModes m s.um.mode) :
    LocalModes m (applyLocalWrite x s).um.mode := by
  unfold applyLocalWrite
  generalize regsOf x.1 x.2.1 = l
  induction l generalizing s with
  | nil => exact h
  | cons r l ih =>
    refine ih (s := if localMode r.1 s then applyLocal x.2.2.2 r.1 r.2 s else s) ?_
    split
    · exact h.applyLocal _ _ ‹_›
    · exact h

theorem effectLocal_modeStep (addr : Nat) (hit : List Word → Bool) (s : State) : ModeStep s.um.mode (effectLocal addr hit s).um.mode := by
  unfold effectLocal
  split
  · exact (applyLocalWrite_localModes _ (s := modHap _ s) (.inl rfl)).modeStep
  · exact .inl rfl

theorem commandPoint_modeStep (p : CmdPoint) (addr : Nat) (words : List Word) (hit : List Word → Bool) (s : State) :
    ModeStep s.um.mode (commandPoint p addr words hit s).um.mode := by
  cases p with
  | request r => exact .inl (writeRequest_kept_mode r addr words s)
  | effect =>
    unfold commandPoint
    dsimp only
    split
    · exact effectLocal_modeStep addr hit s
    · exact effectMirrored_modeStep addr hit s

/-! ## Roles (R62, R71, R320) -/

/-- The modes that the decisions of roles and of the pair mode can lead to from `m`: by a listed transition to STANDBY, and in the standby role on to the pair mode. -/
def RoleModes (m : Mode) (s : State) : Prop :=
  s.um.mode = m ∨ (s.um.mode = .standby ∧ transition m .standby = true) ∨
    (s.um.role = .standby ∧ transition .standby s.um.mode = true ∧ (m = .standby ∨ transition m .standby = true))

/-- A state with the same mode, and still in the standby role where `s` was. -/
theorem RoleModes.congr {m : Mode} {s t : State} (h : RoleModes m s) (hmode : t.um.mode = s.um.mode)
    (hrole : s.um.role = .standby → t.um.role = .standby) : RoleModes m t := by
  unfold RoleModes at h ⊢
  rw [hmode]
  exact h.imp_right (.imp_right fun ⟨hs, hrest⟩ => ⟨hrole hs, hrest⟩)

theorem changeMode_role (dst : Mode) (cause : Nat) (s : State) : (changeMode dst cause s).um.role = s.um.role := by
  by_cases h : transition s.um.mode dst = true
  · rw [changeMode_um h]
  · rw [changeMode, if_neg h]

theorem setPhase_um (p : Phase) (s : State) : (setPhase p s).um = s.um := by
  unfold setPhase
  dsimp only
  split
  · simp
  · rfl

theorem startJoin_um (s : State) : (startJoin s).um = s.um := setPhase_um .join s

theorem enterCopy_um (s : State) : (enterCopy s).um = s.um := setPhase_um .copy s

/-- A unit that takes the standby role in STANDBY takes its partner's pair mode with it. -/
theorem takeStandby_role_mode (h : Heard) (s : State) :
    (takeStandby h s).um.role = .standby ∧
      ((takeStandby h s).um.mode = s.um.mode ∨ s.um.mode = .standby ∧ transition .standby (takeStandby h s).um.mode = true) := by
  have hjoin (u : UnitMode) (p : PairLocal) : (startJoin { s with um := u, pair := p }).um = u := startJoin_um _
  unfold takeStandby
  dsimp only
  split
  · split
    · rename_i hmode
      rw [hjoin] at hmode
      dsimp only
      rw [changeMode_role, changeMode_mode, hjoin, hmode]
      refine ⟨rfl, ?_⟩
      split
      · exact .inr ⟨rfl, ‹_›⟩
      · exact .inl rfl
    · dsimp only
      rw [hjoin]
      exact ⟨rfl, .inl rfl⟩
  · rw [hjoin]
    exact ⟨rfl, .inl rfl⟩

theorem roleModes_takeStandby {m : Mode} {s : State} (hs : RoleModes m s) (hrole : s.um.role = .none) (h : Heard) :
    RoleModes m (takeStandby h s) := by
  obtain ⟨hstandby, hsame | ⟨hmode, hon⟩⟩ := takeStandby_role_mode h s
  · exact hs.congr hsame fun _ => hstandby
  · obtain hm | ⟨-, hm⟩ | ⟨hr, -⟩ := hs
    · exact .inr (.inr ⟨hstandby, hon, .inl (hm.symm.trans hmode)⟩)
    · exact .inr (.inr ⟨hstandby, hon, .inr hm⟩)
    · rw [hr] at hrole
      cases hrole

theorem roleModes_joinRole {m : Mode} {s : State} (hs : RoleModes m s) (hrole : s.um.role = .none) (h : Heard) : RoleModes m (joinRole h s) := by
  unfold joinRole
  split
  · exact roleModes_takeStandby hs hrole h
  · exact hs

/-- The active role at cold start leaves the mode of a unit without a role. -/
theorem roleModes_coldActive {m : Mode} {s : State} (hs : RoleModes m s) (hrole : s.um.role = .none) : RoleModes m (coldActive s) :=
  hs.congr rfl fun h => by rw [hrole] at h; cases h

/-- What the table of roles can decide: nothing, the active role at cold start, or the join of the partner's pair. -/
theorem roleTable_cases (s : State) : roleTable s = s ∨ (s.um.role = .none ∧ (roleTable s = coldActive s ∨ ∃ h, roleTable s = joinRole h s)) := by
  unfold roleTable
  split
  · exact .inl rfl
  · rename_i hnot
    have hrole : s.um.role = .none := by
      by_contra hr
      exact hnot (.inr hr)
    have hcold (c : Prop) [Decidable c] : (if c then coldActive s else s) = s ∨ (s.um.role = .none ∧
        ((if c then coldActive s else s) = coldActive s ∨ ∃ h, (if c then coldActive s else s) = joinRole h s)) := by
      split
      · exact .inr ⟨hrole, .inl rfl⟩
      · exact .inl rfl
    split
    · split
      · exact .inl rfl
      · exact .inr ⟨hrole, .inl rfl⟩
    · split
      · rename_i h _
        split
        · exact .inr ⟨hrole, .inr ⟨h, rfl⟩⟩
        · split
          · exact hcold _
          · exact hcold _
      · exact hcold _

theorem roleModes_roleTable {m : Mode} {s : State} (hs : RoleModes m s) : RoleModes m (roleTable s) := by
  rcases roleTable_cases s with h | ⟨hrole, h | ⟨x, h⟩⟩ <;> rw [h]
  · exact hs
  · exact roleModes_coldActive hs hrole
  · exact roleModes_joinRole hs hrole _

theorem pairModeOf_iff (m : Mode) : pairModeOf m = true ↔ m = .standby ∨ m = .active ∨ m = .maintenance := by
  cases m <;> decide

/-- From one pair mode to another the listed transitions lead at once, or through STANDBY. -/
theorem pairMode_reached {x y : Mode} (hx : pairModeOf x = true) (hy : pairModeOf y = true) (s : State) (hs : s.um.mode = x) :
    (changeMode y 0 (if transition x y then s else changeMode .standby 0 s)).um.mode = y ∨ x = y := by
  rw [changeMode_mode, apply_ite (fun t : State => t.um.mode), changeMode_mode, hs]
  rcases (pairModeOf_iff x).mp hx with rfl | rfl | rfl <;> rcases (pairModeOf_iff y).mp hy with rfl | rfl | rfl <;> decide

theorem standby_or_of_pairMode {x : Mode} (hx : pairModeOf x = true) : x = .standby ∨ transition x .standby = true := by
  rcases (pairModeOf_iff x).mp hx with rfl | rfl | rfl <;> decide

theorem roleModes_followPairMode {m : Mode} {s : State} (hs : RoleModes m s) : RoleModes m (followPairMode s) := by
  unfold followPairMode
  dsimp only
  split
  · rename_i hfollow
    obtain ⟨hrole, hpair, hown, hne⟩ := hfollow
    have hback : m = .standby ∨ transition m .standby = true := by
      obtain rfl | ⟨-, h⟩ | ⟨-, -, h⟩ := hs
      · exact standby_or_of_pairMode hown
      · exact .inr h
      · exact h
    have hmode := (pairMode_reached hown hpair s rfl).resolve_right (Ne.symm hne)
    unfold RoleModes
    dsimp only
    rw [hmode, changeMode_role, apply_ite (fun t : State => t.um.role), changeMode_role, ite_self, hrole]
    obtain hstandby | hon := standby_or_of_pairMode hpair
    · rw [hstandby]
      exact hback.imp Eq.symm fun h => .inl ⟨rfl, h⟩
    · refine .inr (.inr ⟨rfl, ?_, hback⟩)
      cases hy : s.mir.mode.pairMode <;> simp_all [pairModeOf, transition]
  · exact hs

/-- A unit without a role takes it under R71 where the partner reports one, or leaves its mode for STANDBY. -/
def rejoinOrLeave (s : State) : State :=
  let s := match report s with
    | some h => if h.role ≠ .none then joinRole h s else s
    | none => s
  if s.um.role = .none then changeMode .standby 0 (endFunction s) else s

theorem dropAndRejoin_eq (s : State) : dropAndRejoin s = rejoinOrLeave { dropRole s with ex := { s.ex with emit := false } } := rfl

/-- A unit that does not take the standby role leaves its mode for STANDBY where that is listed. -/
theorem roleModes_leave {m : Mode} {t : State} (hmode : t.um.mode = m) : RoleModes m (changeMode .standby 0 (endFunction t)) := by
  have hkept : (endFunction t).um = t.um := rfl
  unfold RoleModes
  rw [changeMode_mode, hkept, hmode]
  split
  · exact .inr (.inl ⟨rfl, ‹_›⟩)
  · exact .inl rfl

theorem roleModes_rejoinOrLeave {m : Mode} {t : State} (hmode : t.um.mode = m) (hrole : t.um.role = .none) : RoleModes m (rejoinOrLeave t) := by
  have hjoin (h : Heard) :
      RoleModes m (if (joinRole h t).um.role = .none then changeMode .standby 0 (endFunction (joinRole h t)) else joinRole h t) := by
    by_cases hmatch : (matching t && (h.mode != .active || activePermitted t.life.state)) = true
    · rw [joinRole, if_pos hmatch, if_neg (by rw [(takeStandby_role_mode h t).1]; decide)]
      exact roleModes_takeStandby (.inl hmode) hrole h
    · rw [joinRole, if_neg hmatch, if_pos hrole]
      exact roleModes_leave hmode
  have hdropped : RoleModes m (if t.um.role = .none then changeMode .standby 0 (endFunction t) else t) := by
    rw [if_pos hrole]
    exact roleModes_leave hmode
  unfold rejoinOrLeave
  cases report t with
  | none => exact hdropped
  | some h =>
    by_cases hr : h.role ≠ .none
    · simpa only [if_pos hr] using hjoin h
    · simpa only [if_neg hr] using hdropped

theorem roleModes_dropAndRejoin (s : State) : RoleModes s.um.mode (dropAndRejoin s) := by
  rw [dropAndRejoin_eq]
  exact roleModes_rejoinOrLeave rfl rfl

theorem roleModes_twoActive (s : State) : RoleModes s.um.mode (twoActive s) := by
  have hnote (t : State) : (noteRole 6 .a (raise 118 t)).um = t.um := by simp [noteRole]
  unfold twoActive
  dsimp only
  split
  · split
    · have h := roleModes_dropAndRejoin (noteRole 6 .a (raise 118 { s with pair := { s.pair with twoSeen := s.um.role == .active && isPair s && activeEvidence s } }))
      rwa [hnote] at h
    · exact .inl (congrArg UnitMode.mode (hnote _))
  · exact .inl rfl

/-- What the active unit's phase can become: the one it is, another, or COPY begun again. -/
theorem activePhase_cases (s : State) : activePhase s = s ∨ (∃ p, activePhase s = setPhase p s) ∨ activePhase s = enterCopy s := by
  have hdst (p : Phase) : (if s.pair.phase = p then s else setPhase p s) = s ∨
      (∃ q, (if s.pair.phase = p then s else setPhase p s) = setPhase q s) ∨ (if s.pair.phase = p then s else setPhase p s) = enterCopy s := by
    split
    · exact .inl rfl
    · exact .inr (.inl ⟨p, rfl⟩)
  unfold activePhase
  dsimp only
  split
  · split
    · split
      · exact hdst _
      · split
        · exact hdst _
        · split
          · split
            · exact .inr (.inr rfl)
            · exact hdst _
          · split
            · exact hdst _
            · split
              · exact .inr (.inr rfl)
              · exact .inl rfl
    · exact hdst _
  · exact .inl rfl

theorem activePhase_um (s : State) : (activePhase s).um = s.um := by
  rcases activePhase_cases s with h | ⟨p, h⟩ | h <;> rw [h]
  · exact setPhase_um p s
  · exact enterCopy_um s

theorem roleModes_roleDecisions (s : State) : RoleModes s.um.mode (roleDecisions s) := by
  unfold roleDecisions
  split
  · exact .inl rfl
  · have hbefore : (standbyCleared (rejoin (standbyDecision (swapRoles (takeRoleDue s))))).um.mode = s.um.mode := mode_of_kept (by simp)
    have htwo := roleModes_twoActive (standbyCleared (rejoin (standbyDecision (swapRoles (takeRoleDue s)))))
    rw [hbefore] at htwo
    exact roleModes_roleTable (htwo.congr (congrArg UnitMode.mode (activePhase_um _)) fun h => by rwa [activePhase_um])

/-! ## E+0 µs and the rows -/

theorem joinPairMode_um (s : State) : (joinPairMode s).um = s.um := by
  unfold joinPairMode
  repeat' split
  all_goals rfl

theorem startResync_um (s : State) : (startResync s).um = s.um := by
  unfold startResync
  dsimp only
  split
  · split
    · rw [enterCopy_um]
      split
      · exact (raise_fields 46 _).1
      · rfl
    · rfl
  · rfl

theorem correctTimer_um (s : State) : (correctTimer s).um = s.um := by
  unfold correctTimer joinStep trimEpoch
  dsimp only
  repeat' split
  all_goals rfl

theorem foldl_um {α : Type} {g : State → α → State} (hg : ∀ s x, (g s x).um = s.um) (l : List α) (s : State) : (l.foldl g s).um = s.um := by
  induction l generalizing s with
  | nil => rfl
  | cons x r ih => rw [List.foldl_cons, ih, hg]

theorem ingest_um (source stamp tov : Nat) (tagged : Bool) (payload : List Byte) (s : State) : (ingest source stamp tov tagged payload s).um = s.um := by
  unfold ingest
  split <;> rfl

theorem closeChain_um (cut n : Nat) (s : State) : (closeChain cut n s).um = s.um := by
  unfold closeChain
  dsimp only
  split
  · split
    · rfl
    · rw [ingest_um]
  · rfl

theorem sendRecords_um (l : List (List InRecord)) (s : State) : (sendRecords l s).um = s.um :=
  foldl_um (g := fun s (f : Nat × List InRecord) => send (.record f.1 l.length f.2) s) (fun _ _ => rfl) _ s

theorem offerRecords_um (s : State) : (offerRecords s).um = s.um := by
  unfold offerRecords
  dsimp only
  split
  · split
    · exact sendRecords_um _ _
    · rfl
  · rfl

theorem sampleInputs_um (levels : Nat) (s : State) : (sampleInputs levels s).um = s.um := rfl
theorem followSieve_um (s : State) : (followSieve s).um = s.um := rfl
theorem boundaryEpoch_um (s : State) : (boundaryEpoch s).um = s.um := rfl

theorem closeSieve_um (cut : Nat) (s : State) : (closeSieve cut s).um = s.um := foldl_um (fun s n => closeChain_um cut n s) _ s

/-- E+0 µs after the decisions of roles and of the pair mode. -/
def cutoffRest (levels : Nat) (s : State) : State :=
  let s := correctTimer (startResync s)
  let s := { s with pair := { s.pair with measuredNow := false, partnerClear := false }
                    fld := { s.fld with releases := epochReleases s }
                    mir := { s.mir with epoch := s.ex.epoch } }
  let s := sampleInputs levels s
  offerRecords (closeSieve s.ex.cutoff (boundaryEpoch (followSieve s)))

theorem inputCutoff_eq (levels : Nat) (s : State) :
    inputCutoff levels s =
      cutoffRest levels (standbyMode (roleDecisions (pathReturns (agePair (panelEpoch (beginEpoch (settlePages (closeEpoch s)))))))) := rfl

theorem cutoffRest_um (levels : Nat) (s : State) : (cutoffRest levels s).um = s.um := by
  have htimer : (correctTimer (startResync s)).um = s.um := by rw [correctTimer_um, startResync_um]
  rw [← htimer]
  unfold cutoffRest
  generalize correctTimer (startResync s) = t
  dsimp only
  rw [offerRecords_um, closeSieve_um, boundaryEpoch_um, followSieve_um, sampleInputs_um]

theorem roleModes_inputCutoff (levels : Nat) (s : State) : RoleModes s.um.mode (inputCutoff levels s) := by
  have hbefore : (pathReturns (agePair (panelEpoch (beginEpoch (settlePages (closeEpoch s)))))).um.mode = s.um.mode := mode_of_kept (by simp)
  have hroles := roleModes_roleDecisions (pathReturns (agePair (panelEpoch (beginEpoch (settlePages (closeEpoch s))))))
  rw [hbefore] at hroles
  have hjoin := hroles.congr (congrArg UnitMode.mode (joinPairMode_um _)) fun h => by rwa [joinPairMode_um]
  rw [inputCutoff_eq]
  exact (roleModes_followPairMode hjoin).congr (congrArg UnitMode.mode (cutoffRest_um levels _)) fun h => by rw [cutoffRest_um]; exact h

/-- What the rows of R445 can decide. -/
theorem bankDecision_cases (s : State) : bankDecision s = s ∨ bankDecision s = confirmBank s ∨ bankDecision s = failBank s := by
  unfold bankDecision
  split
  · split
    · split
      · exact .inr (.inl rfl)
      · split
        · split
          · exact .inl rfl
          · exact .inr (.inr rfl)
        · exact .inl rfl
    · exact .inl rfl
  · exact .inl rfl

theorem standbyBank_um (s : State) : (standbyBank s).um = s.um := by
  have hconfirm (t : State) : (confirmBank t).um = t.um := by
    unfold confirmBank setBank
    dsimp only
    split <;> rfl
  have hfail (t : State) : (failBank t).um = t.um := by
    unfold failBank setBank
    dsimp only
    split <;> simp
  have hdecision (t : State) : (bankDecision t).um = t.um := by
    rcases bankDecision_cases t with h | h | h <;> rw [h]
    · exact hconfirm t
    · exact hfail t
  unfold standbyBank
  dsimp only
  split
  · exact hconfirm _
  · exact hdecision _

theorem roleModes_enterStandby {s : State} (h : s.um.mode = .selftest) : RoleModes .selftest (enterStandby s) := by
  have hchange : (changeMode .standby 0 s).um.mode = .standby := by
    rw [changeMode_mode, h]
    rfl
  have hbank (t : State) (ht : t.um.mode = .standby) : RoleModes .selftest (roleTable (standbyBank t)) :=
    roleModes_roleTable (.inr (.inl ⟨(congrArg UnitMode.mode (standbyBank_um t)).trans ht, rfl⟩))
  unfold enterStandby
  extract_lets t u f k m o n v w
  exact (hbank n hchange).congr rfl id

/-! ## The start, HOLD, and reset -/

theorem finishCopy_mode (s : State) : (finishCopy s).um.mode = .boot := by
  unfold finishCopy
  exact restartUnit_mode rfl

theorem assertedOrReset_modeStep (complete : Bool) (s : State) :
    ModeStep s.um.mode (if s.um.inReset then s else assertReset complete s).um.mode := by
  split
  · exact .inl rfl
  · exact .inr (.inr (assertReset_mode complete s))

theorem recoveryInstall_modeStep (r : RecReq) (s : State) :
    ModeStep s.um.mode (recoveryRequest 4 r (fun s =>
      if s.upd.recVerified then
        let s := answerRecovery 4 r 0 (installBank (installTarget s) true s)
        let sent := s.out
        let s := writeDue (changeMode .boot 0 s)
        let s := resetUnit .endOfRecovery s.um.unit s.pnl.crack (assertReset true s)
        { s with out := sent }
      else answerRecovery 4 r 3 s) s).um.mode := by
  unfold recoveryRequest
  split
  · split
    · exact .inl rfl
    · beta_reduce
      split
      · exact .inr (.inr (resetUnit_mode ..))
      · exact .inl rfl
  · exact .inl rfl

theorem holdEntry_modeStep (s : State) :
    ModeStep s.um.mode (match s.ex.holdDue with
      | some c =>
        let fatal := transition s.um.mode .hold && s.ex.fatalDue
        let s := enterHold c { s with ex := { s.ex with fatalDue := false } }
        if fatal then raise 11 s else s
      | none => s).um.mode := by
  have hraise (b : Bool) (t : State) : (if b then raise 11 t else t).um.mode = t.um.mode := mode_of_kept (by simp)
  split
  · dsimp only
    rw [hraise]
    exact enterHold_modeStep _ { s with ex := { s.ex with fatalDue := false } }
  · exact .inl rfl

theorem keyReading_modeStep (k : KeyRead) (s : State) :
    ModeStep s.um.mode (if s.um.mode = .load ∧ ¬ s.um.loaded then
      let s := { s with sup := { s.sup with keyPresent := k.seated } }
      let code := keyFault k s
      if code = 0 then acceptKey k s else refuseKey code s
    else s).um.mode := by
  have haccept (t : State) : (acceptKey k t).um.mode = t.um.mode := by
    unfold acceptKey
    dsimp only
    split <;> rfl
  have hrefuse (code : Nat) (t : State) : ModeStep t.um.mode (refuseKey code t).um.mode := by
    have h : (raise (if code = 1 then 12 else 13) { t with cfg := { fault := code } }).um.mode = t.um.mode := mode_of_kept_mode (by rw [raise_kept]; rfl)
    rw [← h]
    exact enterHold_modeStep _ _
  split
  · dsimp only
    split
    · exact .inl (haccept _)
    · exact hrefuse _ { s with sup := { s.sup with keyPresent := k.seated } }
  · exact .inl rfl

/-- In BOOT the start of a bank leads to LOAD, that of the recovery loader to RECOVERY. -/
theorem startBank_mode (b selected : Side) {s : State} (h : s.um.mode = .boot) : (startBank b selected s).um.mode = .load :=
  congrArg UnitMode.mode (startBank_spec h b selected).1

theorem startRecovery_modeStep (s : State) : ModeStep s.um.mode (startRecovery s).um.mode := by
  have h : (startRecovery s).um.mode = (changeMode .recovery 0 s).um.mode := writeRecovery_kept_mode _
  rw [h]
  exact changeMode_modeStep .recovery 0 s

theorem countStart_mode (s : State) : (countStart s).um.mode = s.um.mode := mode_of_kept_mode (by simp)

theorem bootComplete_modeStep (headerOk : Bool) (x y : BankCheck) (s : State) :
    ModeStep s.um.mode (if s.um.mode = .boot ∧ ¬ s.um.inReset then
      (if headerOk then
        let s := countStart s
        let b := s.upd.selected
        match tryBanks x y [b, otherSide b] s with
        | (some k, s) => startBank k b s
        | (none, s) => startRecovery s
      else startRecovery s)
    else s).um.mode := by
  split
  · rename_i h
    split
    · dsimp only
      split
      all_goals
        rename_i t htry
        have ht : t.um.mode = s.um.mode := (mode_of_kept (tryBanks_kept_of _ _ _ _ _ _ htry)).trans (countStart_mode s)
      · rw [startBank_mode _ _ (ht.trans h.1), h.1]
        exact .inr (.inl rfl)
      · rw [← ht]
        exact startRecovery_modeStep t
    · exact startRecovery_modeStep s
  · exact .inl rfl

theorem loadComplete_modeStep (tongs1 tongs2 stn1 stn2 : Bool) (s : State) :
    ModeStep s.um.mode (if s.um.mode = .load ∧ s.um.loaded ∧ s.rng.loopTrained.isSome then
      let s := finishTongs tongs1 tongs2 (setUpBlocks s)
      let s := if s.rng.loopTrained = some true then openRelay s else s
      let s := changeMode .selftest 0 s
      reportKey s.sup.keyDue (finishStations stn1 stn2 s)
    else s).um.mode := by
  have hbefore (t : State) : (if t.rng.loopTrained = some true then openRelay t else t).um.mode = t.um.mode := mode_of_kept (by simp)
  have hset : (finishTongs tongs1 tongs2 (setUpBlocks s)).um.mode = s.um.mode := mode_of_kept_mode (by simp [finishTongs, setUpBlocks, kept_at])
  have hafter (b : Nat) (t : State) : (reportKey b (finishStations stn1 stn2 t)).um.mode = t.um.mode :=
    mode_of_kept_mode (by simp [finishStations])
  split
  · dsimp only
    rw [hafter, ← hset, ← hbefore]
    exact changeMode_modeStep .selftest 0 _
  · exact .inl rfl

/-! ## Every row -/

/-- What O8 says of the modes before and after a row. -/
def ListedChange (c : Instr) (s t : State) : Prop :=
  t.um.mode = s.um.mode ∨ transition s.um.mode t.um.mode = true ∨ t.um.mode = .boot ∨
    (((∃ lv, c = .inputCutoff lv) ∨ ∃ f, c = .selftestComplete f) ∧ t.um.role = .standby ∧ transition s.um.mode .standby = true ∧
      transition .standby t.um.mode = true)

theorem listedChange_of_next {c : Instr} {s x t : State} (h : (.next x : Host.Outcome State Fault Refusal) = .next t)
    (hx : ModeStep s.um.mode x.um.mode) : ListedChange c s t := by
  injection h with h
  subst h
  obtain hsame | hlisted | hboot := hx
  · exact .inl hsame
  · exact .inr (.inl hlisted)
  · exact .inr (.inr (.inl hboot))

theorem listedChange_of_roleModes {c : Instr} {s x t : State} (h : (.next x : Host.Outcome State Fault Refusal) = .next t)
    (hc : (∃ lv, c = .inputCutoff lv) ∨ ∃ f, c = .selftestComplete f) (hx : RoleModes s.um.mode x) : ListedChange c s t := by
  injection h with h
  subst h
  obtain hsame | ⟨hmode, hlisted⟩ | ⟨hrole, hon, hown | hback⟩ := hx
  · exact .inl hsame
  · exact .inr (.inl (hmode ▸ hlisted))
  · exact .inr (.inl (hown ▸ hon))
  · exact .inr (.inr (.inr ⟨hc, hrole, hback, hon⟩))

theorem listedChange_of_testEnd {f : SelfTestFindings} {s u t : State} {n : Nat} {failed : Bool}
    (h : (.next (if 2 ≤ n then enterHold 9 u else if failed then enterHold 0xA u else enterStandby u) : Host.Outcome State Fault Refusal) = .next t)
    (hmode : s.um.mode = .selftest) (hu : u.um.mode = s.um.mode) : ListedChange (.selftestComplete f) s t := by
  have hhold (cause : Nat) : ModeStep s.um.mode (enterHold cause u).um.mode := hu ▸ enterHold_modeStep cause u
  split at h
  · exact listedChange_of_next h (hhold 9)
  · split at h
    · exact listedChange_of_next h (hhold 0xA)
    · exact listedChange_of_roleModes h (.inr ⟨f, rfl⟩) (by rw [hmode]; exact roleModes_enterStandby (hu.trans hmode))

theorem exec_listedChange {c : Instr} {s t : State} (hcommit : ∀ b, c ≠ .inputCommit b) (h : exec c s = .next t) : ListedChange c s t := by
  have hsame {x : State} (hx : (.next x : Host.Outcome State Fault Refusal) = .next t) (hk : (kept x).mode = (kept s).mode) :
      ListedChange c s t := listedChange_of_next hx (.inl hk)
  by_cases hw : isWritten c = true
  · obtain hs | ⟨p, addr, words, hit, hx⟩ := exec_of_isWritten hw s
    · exact listedChange_of_next (hs.symm.trans h) (.inl rfl)
    · exact listedChange_of_next (hx.symm.trans h) (commandPoint_modeStep p addr words hit s)
  by_cases hc : changesKept c = true
  case neg =>
    have hk := keptOut_exec (by simpa using hw) (by simpa using hc) s
    rw [h] at hk
    exact .inl (mode_of_kept (Option.some.inj hk))
  cases c
  case inputCommit late => exact absurd rfl (hcommit late)
  case inputCutoff levels =>
    by_cases hrun : timerRuns s = true
    · exact listedChange_of_roleModes ((congrArg Host.Outcome.next (if_pos hrun)).symm.trans h) (.inl ⟨levels, rfl⟩) (roleModes_inputCutoff levels s)
    · exact hsame ((congrArg Host.Outcome.next (if_neg hrun)).symm.trans h) (by split <;> rfl)
  case selftestComplete f =>
    by_cases hmode : s.um.mode = .selftest
    · refine listedChange_of_testEnd ((congrArg Host.Outcome.next (if_pos hmode)).symm.trans h) hmode (testOutcome_mode f s)
    · exact listedChange_of_next ((congrArg Host.Outcome.next (if_neg hmode)).symm.trans h) (.inl rfl)
  case holdEntry =>
    exact listedChange_of_next h (holdEntry_modeStep s)
  case keyReading k =>
    exact listedChange_of_next h (keyReading_modeStep k s)
  case bootComplete headerOk x y =>
    exact listedChange_of_next h (bootComplete_modeStep headerOk x y s)
  case loadComplete =>
    exact listedChange_of_next h (loadComplete_modeStep _ _ _ _ s)
  case resetRelease cause strapHigh crackOpen =>
    refine listedChange_of_next h ?_
    cases cause
    · exact .inr (.inr (resetUnit_mode ..))
    · exact supplyRelease_modeStep _ _ strapHigh crackOpen s
    · exact monitorRelease_modeStep _ strapHigh crackOpen s
  case supplyReset volts complete =>
    refine listedChange_of_next h ?_
    split
    · exact assertedOrReset_modeStep _ s
    · exact .inl rfl
  case clockMonitorReset =>
    exact listedChange_of_next h (assertedOrReset_modeStep true s)
  case clockMonitorRelease => exact listedChange_of_next h (monitorRelease_modeStep _ _ _ s)
  case bankCopyComplete =>
    refine listedChange_of_next h ?_
    split
    · exact .inr (.inr (finishCopy_mode s))
    · exact .inl rfl
  case recoveryInstall r =>
    exact listedChange_of_next h (recoveryInstall_modeStep r s)
  case recoveryErase => exact hsame h (recoveryRequest_kept_mode _ _ _ s (fun s => by simp [kept_at]))
  case recoveryWrite => exact hsame h (recoveryRequest_kept_mode _ _ _ s (fun s => by simp [kept_at]))
  case mramUncorrectable item => cases item <;> exact hsame h (by simp [kept_at])
  all_goals first
    | exact absurd rfl hw
    | exact Bool.noConfusion hc
    | exact hsame h (by simp [kept_at])

/-- Settles O8. -/
theorem everyModeChangeIsListed : Obligations.EveryModeChangeIsListed := fun _ _ _ h hcommit => exec_listedChange hcommit h

end Sys2Proof.Machine
end

section
/-! Reset (R28, R65, R398): what its assertion ends and what a start leaves. -/

namespace Sys2Proof.Machine

/-! ## Changes of the event state alone -/

/-- The two states differ in their event state at most. -/
structure EventsOnly (s t : State) : Prop where
  eq : t = withEvents s t

namespace EventsOnly

theorem refl (s : State) : EventsOnly s s := ⟨rfl⟩

theorem trans {s t u : State} (hst : EventsOnly s t) (htu : EventsOnly t u) : EventsOnly s u where
  eq := calc u = withEvents t u := htu.eq
    _ = withEvents (withEvents s t) u := congrArg (withEvents · u) hst.eq
    _ = withEvents s u := rfl

theorem raise (e : Nat) (s : State) : EventsOnly s (raise e s) := ⟨(raised_raise e s).eq⟩

theorem raiseAt (e i : Nat) (s : State) : EventsOnly s (raiseAt e i s) := ⟨(raised_raiseAt e i s).eq⟩

theorem raiseWith (e w0 w1 : Nat) (v : Int) (s : State) : EventsOnly s (raiseWith e w0 w1 v s) := ⟨(raised_raiseWith e w0 w1 v s).eq⟩

theorem clearEvent (e : Nat) (s : State) : EventsOnly s (clearEvent e s) := ⟨(cleared_clearEvent e s).eq⟩

theorem condition (e : Nat) (on : Bool) (s : State) : EventsOnly s (condition e on s) := by
  cases on
  · exact clearEvent e s
  · exact raise e s

theorem updateRelays (s : State) : EventsOnly s (updateRelays s) := by
  unfold Machine.updateRelays
  split <;> exact ⟨rfl⟩

theorem setRaised (e : Nat) (s : State) : EventsOnly s (setRaised e s) := by
  unfold Machine.setRaised
  dsimp only
  refine trans ?_ (updateRelays _)
  split <;> split <;> exact ⟨rfl⟩

theorem when {f : State → State} (hf : ∀ s, EventsOnly s (f s)) (c : Bool) (s : State) : EventsOnly s (when c f s) := by
  cases c
  · exact refl s
  · exact hf s

/-- A start raises events and does nothing else. -/
theorem startEvents (cause : ResetCause) (lost : Bool) (t : State) : EventsOnly t (startEvents cause lost t) := by
  unfold Machine.startEvents
  dsimp only
  exact (((when (raise 17) _ t).trans (when (setRaised 18) _ _)).trans (when (raise 30) _ _)).trans (when (raise 3) _ _)

end EventsOnly

/-! ## The relays of a unit in BOOT (R356) -/

/-- Both alarm relays are de-energised in a mode that keeps them so. -/
def RelaysOff (s : State) : Prop := relayOff s.um.mode = true ∧ s.evt.dpRelay = false ∧ s.evt.ufRelay = false

namespace RelaysOff

theorem updateRelays {s : State} (h : relayOff s.um.mode = true) : RelaysOff (updateRelays s) := by
  unfold Machine.updateRelays
  rw [h, Bool.true_or, if_pos rfl]
  exact ⟨h, rfl, rfl⟩

theorem setRaised {s : State} (h : RelaysOff s) (e : Nat) : RelaysOff (setRaised e s) := by
  obtain ⟨hmode, -, -⟩ := h
  unfold Machine.setRaised
  dsimp only
  refine updateRelays ?_
  split <;> split <;> exact hmode

theorem noteIndex {s : State} (h : RelaysOff s) (e i : Nat) : RelaysOff (noteIndex e i s) := by
  unfold Machine.noteIndex
  split <;> exact h

theorem raise {s : State} (h : RelaysOff s) (e : Nat) : RelaysOff (raise e s) := by
  unfold Machine.raise raiseWith
  split
  · exact h
  · exact (h.setRaised e).noteIndex e _

theorem when {f : State → State} (hf : ∀ {s}, RelaysOff s → RelaysOff (f s)) {s : State} (h : RelaysOff s) (c : Bool) : RelaysOff (when c f s) := by
  cases c
  · exact h
  · exact hf h

theorem startEvents {t : State} (h : RelaysOff t) (cause : ResetCause) (lost : Bool) : RelaysOff (startEvents cause lost t) := by
  unfold Machine.startEvents
  dsimp only
  exact (((h.when (fun h => h.raise 17) _).when (fun h => h.setRaised 18) _).when (fun h => h.raise 30) _).when (fun h => h.raise 3) _

end RelaysOff

/-! ## The state of a unit that starts -/

section
variable (cause : ResetCause) (unit : UnitId) (crackOpen : Bool) (s : State)

theorem resetUnit_events : EventsOnly (stateAtStart cause unit crackOpen s) (resetUnit cause unit crackOpen s) := EventsOnly.startEvents ..

theorem resetUnit_relaysOff : RelaysOff (resetUnit cause unit crackOpen s) :=
  RelaysOff.startEvents (t := stateAtStart cause unit crackOpen s) ⟨rfl, rfl, rfl⟩ cause _

/-- Of the mirrored state only the event state can differ from its reset value. -/
theorem resetUnit_mir : (resetUnit cause unit crackOpen s).mir = { evt := (resetUnit cause unit crackOpen s).mir.evt } := by
  rw [(resetUnit_events cause unit crackOpen s).eq]
  rfl

theorem resetUnit_masks : (resetUnit cause unit crackOpen s).mir.evt.masks = [0, 0, 0, 0] := by
  rw [(resetUnit_events cause unit crackOpen s).eq]
  rfl

/-- What R31 and R359 give the counters of MRAM at a start. -/
theorem startRecorder_of_good {s : State} (h : countersBad s = false) :
    (startRecorder s).opTime = min (s.log.opSaved + 1000) (2 ^ 40 - 1) ∧ (startRecorder s).cycle = min (s.log.cycle + 1) 0xFFFFFF := by
  simp [startRecorder, h]

theorem startRecorder_records (s : State) : (startRecorder s).records = s.log.records ∧ (startRecorder s).full = s.log.full := by
  unfold startRecorder
  dsimp only
  split <;> exact ⟨rfl, rfl⟩

theorem startDump_of_valid {s : State} (h : s.dmp.valid = true) : startDump s = { s.dmp with due := none, history := [] } := if_pos h

theorem resetUnit_log : (resetUnit cause unit crackOpen s).log = startRecorder s := by rw [(resetUnit_events ..).eq]; rfl
theorem resetUnit_upd : (resetUnit cause unit crackOpen s).upd = startUpdate s := by rw [(resetUnit_events ..).eq]; rfl
theorem resetUnit_dmp : (resetUnit cause unit crackOpen s).dmp = startDump s := by rw [(resetUnit_events ..).eq]; rfl
theorem resetUnit_life : (resetUnit cause unit crackOpen s).life = startLife s := by rw [(resetUnit_events ..).eq]; rfl
theorem resetUnit_trv : (resetUnit cause unit crackOpen s).trv = startTrivet s := by rw [(resetUnit_events ..).eq]; rfl
theorem resetUnit_um : (resetUnit cause unit crackOpen s).um = { resetCause := cause, unit } := by rw [(resetUnit_events ..).eq]; rfl
theorem resetUnit_sup : (resetUnit cause unit crackOpen s).sup = startSupply (cause == .powerApplied) s := by rw [(resetUnit_events ..).eq]; rfl

/-- What a start leaves at its reset value. -/
theorem resetUnit_fresh :
    (resetUnit cause unit crackOpen s).ex = {} ∧ (resetUnit cause unit crackOpen s).cfg = {} ∧ (resetUnit cause unit crackOpen s).hap = {} ∧
      (resetUnit cause unit crackOpen s).pair = {} ∧ (resetUnit cause unit crackOpen s).rng = {} ∧
      (resetUnit cause unit crackOpen s).time = {} ∧ (resetUnit cause unit crackOpen s).gnA = {} ∧
      (resetUnit cause unit crackOpen s).gnB = {} ∧ (resetUnit cause unit crackOpen s).siv = {} ∧
      (resetUnit cause unit crackOpen s).fld = {} ∧ (resetUnit cause unit crackOpen s).pnl.frame = s.pnl.frame := by
  rw [(resetUnit_events ..).eq]
  exact ⟨rfl, rfl, rfl, rfl, rfl, rfl, rfl, rfl, rfl, rfl, rfl⟩

/-- A reset by the supply supervisor or the clock monitor is EV_003. -/
theorem resetUnit_unplanned {cause : ResetCause} (h : (cause == .supplySupervisor || cause == .clockMonitor) = true) :
    eventActive 3 (resetUnit cause unit crackOpen s) = true := by
  unfold resetUnit startEvents
  dsimp only
  rw [h]
  exact raise_active 3 _

end

/-! ## The Reset columns -/

/-- A run that does not hold an address does not answer for it. -/
theorem regAt_cons_of_outside {b a : Nat} {l : List Word} {rest : List RegRun} (h : a < b ∨ b + 4 * l.length ≤ a) :
    regAt ((b, l) :: rest) a = regAt rest a := by
  rw [regAt, if_neg]
  rintro ⟨hlow, hhigh, -⟩
  dsimp only at hlow hhigh
  omega

theorem regAt_cons_of_inside {b a : Nat} {l : List Word} {rest : List RegRun} (h : b ≤ a ∧ a < b + 4 * l.length ∧ (a - b) % 4 = 0) :
    regAt ((b, l) :: rest) a = l[(a - b) / 4]? := if_pos h

theorem regAt_cons_congr {r : RegRun} {l m : List RegRun} {a : Nat} (h : regAt l a = regAt m a) : regAt (r :: l) a = regAt (r :: m) a := by
  rw [regAt, regAt, h]

/-- The registers of R393 behind the events of R367. -/
def laterRegs (s : State) : List RegRun :=
  supRegs ++ (cfgRegs s ++ (mrtRegs s ++ (ldlRegs s ++ (estRegs s ++ (alcRegs s ++ (mpcRegs s ++
    (cqaRegs s ++ (wskRegs s ++ (gnssRegs 0x400000 .gnssA s.cfg.image.rateA s.mir.gnA s ++
    (gnssRegs 0x410000 .gnssB s.cfg.image.rateB s.mir.gnB s ++ (timRegs s ++ (sivRegs s ++ (rngRegs s ++ (canRegs s ++
    (tngRegs s ++ (trvRegs s ++ commandRegs s))))))))))))))))

theorem mirroredRegs_eq (s : State) : mirroredRegs s = idRegs s ++ (modeRegs s ++ (evtRegs s ++ laterRegs s)) := by
  unfold mirroredRegs laterRegs
  simp only [List.append_assoc]

theorem modAvail_of_idle {s : State} (h : s.mir.wsk.ran = false) : modAvail s = 0 := by
  rw [modAvail, h, if_neg Bool.false_ne_true]

/-- Of the state that these registers show, a unit at reset holds what the reset state holds. -/
theorem laterRegs_of_reset {t : State} {e : EventMirror} (hmir : t.mir = { evt := e }) (hcfg : t.cfg = {}) (hpair : t.pair = {})
    (hex : t.ex = {}) : laterRegs t = laterRegs State.reset := by
  obtain ⟨⟩ := t
  dsimp only at hmir hcfg hpair hex
  subst hmir hcfg hpair hex
  unfold laterRegs
  repeat refine congrArg₂ List.append rfl ?_
  rfl

theorem modeRegs_of_reset {t : State} {e : EventMirror} (hmir : t.mir = { evt := e }) (hex : t.ex = {}) : modeRegs t = modeRegs State.reset := by
  have havail : modAvail t = modAvail State.reset := by rw [modAvail_of_idle (by rw [hmir]), modAvail_of_idle rfl]
  unfold modeRegs
  rw [havail, hmir, hex]
  rfl

/-- The address of a register of identity or of events that has a fixed Reset column, or one that the reset state answers for without
these two blocks. -/
theorem resetColumns_cases :
    ∀ p ∈ resetColumns, p ∈ [(0x0, (0x584E3936 : Word)), (0x4, 0x42524C52), (0x24, 0x10084008)] ∨ p ∈ [(0x20020, (0 : Word)), (0x2002C, 0)] ∨
      (0x28 ≤ p.1 ∧ (p.1 < 0x20000 ∨ 0x2003C ≤ p.1) ∧ regAt (modeRegs State.reset ++ laterRegs State.reset) p.1 = some p.2) := by
  decide +kernel

theorem mirroredRegs_identity (s : State) :
    ∀ p ∈ [(0x0, (0x584E3936 : Word)), (0x4, 0x42524C52), (0x24, 0x10084008)], regAt (mirroredRegs s) p.1 = some p.2 := by
  intro p hp
  rw [mirroredRegs_eq, idRegs]
  simp only [List.mem_cons, List.not_mem_nil, or_false] at hp
  obtain rfl | rfl | rfl := hp
  all_goals exact (regAt_cons_of_inside ⟨Nat.zero_le _, by simp [pairWords], rfl⟩).trans rfl

/-- A unit at reset reads the Reset columns of R398. -/
theorem regAt_of_reset {t : State} (hmir : t.mir = { evt := t.mir.evt }) (hmasks : t.mir.evt.masks = [0, 0, 0, 0]) (hcfg : t.cfg = {})
    (hpair : t.pair = {}) (hex : t.ex = {}) : ∀ p ∈ resetColumns, regAt (mirroredRegs t) p.1 = some p.2 := by
  intro p hp
  obtain hid | hevt | ⟨habove, hout, hreset⟩ := resetColumns_cases p hp
  · exact mirroredRegs_identity t p hid
  all_goals rw [mirroredRegs_eq, modeRegs_of_reset hmir hex, laterRegs_of_reset hmir hcfg hpair hex]
  · have hmode (l : List RegRun) (ha : 0x20000 ≤ p.1) : regAt (modeRegs State.reset ++ l) p.1 = regAt l p.1 :=
      regAt_cons_of_outside (.inr (Nat.le_trans (by decide) ha))
    simp only [List.mem_cons, List.not_mem_nil, or_false] at hevt
    obtain rfl | rfl := hevt
    all_goals
      refine (regAt_cons_of_outside (.inr (by simp [pairWords]))).trans ((hmode _ (by decide)).trans ?_)
      rw [evtRegs, hmasks]
      exact (regAt_cons_of_inside ⟨by decide, by simp, rfl⟩).trans rfl
  · have hid : regAt (idRegs t ++ (modeRegs State.reset ++ (evtRegs t ++ laterRegs State.reset))) p.1 =
        regAt (modeRegs State.reset ++ (evtRegs t ++ laterRegs State.reset)) p.1 := regAt_cons_of_outside (.inr habove)
    have hevt : regAt (evtRegs t ++ laterRegs State.reset) p.1 = regAt (laterRegs State.reset) p.1 := regAt_cons_of_outside hout
    rw [hid, ← hreset]
    exact regAt_cons_congr hevt

/-- Settles O3. -/
theorem resetLeavesBootAndTheResetColumns : Obligations.ResetLeavesBootAndTheResetColumns := by
  refine ⟨⟨rfl, rfl, rfl, rfl, rfl, rfl, rfl, rfl, rfl, by decide⟩, regAt_of_reset rfl rfl rfl rfl rfl, fun rel high crack s hstarts => ?_⟩
  obtain ⟨u, hexec⟩ := resetRelease_of_starts hstarts high crack
  refine ⟨_, hexec, regAt_of_reset (resetUnit_mir ..) (resetUnit_masks ..) ?_ ?_ ?_⟩
  all_goals rw [(resetUnit_events ..).eq]; rfl

/-! ## The release of reset (R28, R65) -/

theorem startLife_state (s : State) :
    (startLife s).state = if s.evt.mramBad.contains .lifeCycle then .returned else s.life.state := rfl

/-- A latched clock monitor releases nothing. -/
theorem monitorRelease_of_latched {s : State} (h : s.sup.monitorLatched = true) (nowMs : Nat) (high crack : Bool) :
    monitorRelease nowMs high crack s = s := if_neg fun ⟨_, _, hnot⟩ => hnot h

section
variable {s : State} (hreset : s.um.inReset = true) (hholds : s.sup.monitorHolds = true) (hfree : s.sup.monitorLatched = false)
variable (now : Nat) (high crack : Bool)
include hreset hholds hfree

/-- The supply of a unit whose clock monitor has released it once more. -/
def releasedSupply (now : Nat) (x : Supply) : Supply :=
  { x with monitorReleases := recentReleases now x.monitorReleases
           monitorLatched := decide (3 ≤ (recentReleases now x.monitorReleases).length), monitorHolds := false }

theorem monitorRelease_starts (hsupply : s.sup.supplyHolds = false) :
    monitorRelease now high crack s = resetUnit .clockMonitor (strapUnit high) crack { s with sup := releasedSupply now s.sup } := by
  rw [monitorRelease, if_pos ⟨hreset, hholds, by simp [hfree]⟩]
  exact if_neg (by simp [hsupply])

theorem monitorRelease_of_held (hsupply : s.sup.supplyHolds = true) :
    monitorRelease now high crack s = { s with sup := releasedSupply now s.sup } := by
  rw [monitorRelease, if_pos ⟨hreset, hholds, by simp [hfree]⟩]
  exact if_pos hsupply

end

theorem latched_iff_three (now : Nat) (l : List Nat) :
    decide (3 ≤ (recentReleases now l).length) = decide (2 ≤ (l.filter fun r => decide (now ≤ r + 600000)).length) := by
  simp [recentReleases]

/-- Settles O10. -/
theorem resetReleaseStartsTheUnit : Obligations.ResetReleaseStartsTheUnit := by
  refine ⟨fun rel high crack s hstarts => ?_, fun now high crack s => ⟨fun hreset hholds hfree => ⟨fun hsupply => ?_, fun hsupply => ?_⟩,
    fun hlatched => ⟨?_, ?_⟩⟩⟩
  · obtain ⟨u, hexec⟩ := resetRelease_of_starts hstarts high crack
    obtain ⟨hex, hcfg, hhap, hpair, hrng, htime, hgnA, hgnB, hsiv, hfld, hframe⟩ :=
      resetUnit_fresh (releaseCause rel) (strapUnit high) crack { s with sup := u }
    obtain ⟨hrecords, hfull⟩ := startRecorder_records { s with sup := u }
    have hupd := resetUnit_upd (releaseCause rel) (strapUnit high) crack { s with sup := u }
    have hlog := resetUnit_log (releaseCause rel) (strapUnit high) crack { s with sup := u }
    have hdmp := resetUnit_dmp (releaseCause rel) (strapUnit high) crack { s with sup := u }
    have hlife := resetUnit_life (releaseCause rel) (strapUnit high) crack { s with sup := u }
    obtain ⟨-, hdp, huf⟩ := resetUnit_relaysOff (releaseCause rel) (strapUnit high) crack { s with sup := u }
    refine ⟨_, hexec, resetUnit_um .., hex, hcfg, hhap, hpair, hrng, htime, hgnA, hgnB, resetUnit_trv .., hsiv, hfld, resetUnit_mir ..,
      resetUnit_masks .., hdp, huf, hlog ▸ hrecords, hlog ▸ hfull, fun hgood => hlog ▸ startRecorder_of_good hgood, hupd ▸ rfl, hupd ▸ rfl,
      hupd ▸ rfl, hupd ▸ rfl, hupd ▸ rfl, hupd ▸ rfl, hframe, fun hvalid => ?_, fun hgood => ?_, fun hbad => ?_, fun hrel => ?_⟩
    · rw [hdmp, startDump_of_valid (s := { s with sup := u }) hvalid]
      exact ⟨rfl, hvalid⟩
    · rw [hlife, startLife_state, if_neg (Bool.eq_false_iff.mp hgood)]
    · rw [hlife, startLife_state, if_pos hbad]
    · exact resetUnit_unplanned _ _ _ (by cases rel <;> simp_all [releaseCause])
  · refine ⟨_, congrArg Host.Outcome.next (monitorRelease_starts hreset hholds hfree now high crack hsupply), resetUnit_um ..,
      resetUnit_unplanned _ _ _ rfl, ?_, ?_, ?_⟩
    · rw [resetUnit_log]
      exact (startRecorder_records _).1
    · rw [resetUnit_sup]
      rfl
    · rw [resetUnit_sup, ← latched_iff_three]
      rfl
  · exact ⟨_, congrArg Host.Outcome.next (monitorRelease_of_held hreset hholds hfree now high crack hsupply), rfl, rfl, hsupply, rfl⟩
  · exact congrArg Host.Outcome.next (monitorRelease_of_latched hlatched now high crack)
  · exact congrArg Host.Outcome.next (monitorRelease_of_latched hlatched now high crack)

/-! ## The assertion of reset (R65, R451) -/

theorem closeOutPanel_eq (complete : Bool) (s : State) :
    ∃ p lost, closeOutPanel complete s = { s with pnl := p, log := { s.log with closeOutLost := lost } } := by
  have hline : ∃ p, completeLine s = { s with pnl := p } := by
    unfold completeLine
    split
    · split
      · exact ⟨_, rfl⟩
      · split <;> exact ⟨_, rfl⟩
    · exact ⟨_, rfl⟩
  unfold closeOutPanel
  split
  · exact ⟨_, _, rfl⟩
  · split
    · obtain ⟨p, hp⟩ := hline
      exact ⟨p, _, hp⟩
    · exact ⟨_, _, rfl⟩

/-- The records due are lost, and the recorder says so where there were any. -/
theorem closeOutRecords_eq (s : State) :
    ∃ lost, closeOutRecords s = { s with evt := { s.evt with due := [] }, log := { s.log with closeOutLost := lost } } ∧
      (s.evt.due ≠ [] → lost = true) := by
  unfold closeOutRecords
  split
  · rename_i h
    have hnone : s.evt.due = [] := List.isEmpty_iff.mp h
    exact ⟨s.log.closeOutLost, by rw [← hnone], fun hne => absurd hnone hne⟩
  · exact ⟨true, rfl, fun _ => rfl⟩

/-- What an asserted reset leaves of a unit (O11). -/
def Silenced (s t : State) : Prop :=
  t.um.inReset = true ∧ t.um.mode = .boot ∧ t.um.role = .none ∧ t.ex.emit = false ∧ t.ex.buffer = [] ∧
    t.rng.relayOpen = false ∧ t.evt.dpRelay = false ∧ t.evt.ufRelay = false ∧ t.hap = {} ∧ t.evt.due = [] ∧
    (s.evt.due ≠ [] → t.log.closeOutLost = true) ∧ (∀ x ∈ t.trv.channels, x.hs = false ∧ x.ls = false) ∧
    t.log.records = s.log.records ∧ t.cfg = s.cfg ∧ t.life = s.life ∧ t.upd = s.upd ∧ t.um.unit = s.um.unit ∧
    t.mir = s.mir ∧ t.dmp = s.dmp

theorem openOutputs_channels (s : State) : ∀ x ∈ (openOutputs s).trv.channels, x.hs = false ∧ x.ls = false := by
  intro x hx
  obtain ⟨c, -, rfl⟩ := List.mem_map.mp hx
  exact ⟨rfl, rfl⟩

theorem assertReset_silenced (complete : Bool) (s : State) (u : Supply) :
    Silenced s { assertReset complete s with sup := u } ∧ (assertReset complete s).sup = s.sup := by
  obtain ⟨p, lost, hpanel⟩ := closeOutPanel_eq complete s
  obtain ⟨lost', hrecords, hdue⟩ := closeOutRecords_eq { s with pnl := p, log := { s.log with closeOutLost := lost } }
  unfold assertReset updateRelays
  rw [hpanel, hrecords]
  dsimp only
  rw [Bool.or_true, if_pos rfl]
  exact ⟨⟨rfl, rfl, rfl, rfl, rfl, rfl, rfl, rfl, rfl, rfl, hdue, openOutputs_channels _, rfl, rfl, rfl, rfl, rfl, rfl, rfl⟩, rfl⟩

/-- Settles O11. -/
theorem assertedResetSilencesTheUnit : Obligations.AssertedResetSilencesTheUnit := by
  intro s hrunning
  have hasserted (complete : Bool) : (if s.um.inReset then s else assertReset complete s) = assertReset complete s :=
    if_neg (by simp [hrunning])
  refine ⟨?_, fun volts complete hvolts => ?_⟩
  · obtain ⟨hsilenced, hsup⟩ := assertReset_silenced true s { s.sup with monitorHolds := true }
    refine ⟨_, ?_, hsilenced, rfl⟩
    change Host.Outcome.next _ = _
    rw [hasserted, hsup]
  · obtain ⟨hsilenced, hsup⟩ := assertReset_silenced (s.sup.holdup || complete) s { s.sup with supplyHolds := true }
    refine ⟨_, (congrArg Host.Outcome.next (if_pos hvolts)).trans ?_, hsilenced, rfl⟩
    dsimp only
    rw [hasserted, hsup]

end Sys2Proof.Machine
end

section
/-! The start sequence (R67 to R72, R92 to R101, R442): BOOT, the key reading, the end of LOAD, the start-up test. -/

namespace Sys2Proof.Machine

/-! ## BOOT (R442) -/

/-- A bank's firmware runs: LOAD, in which the station ports train. -/
def bankStarted (x : State) : State := { x with
  um := { x.um with mode := .load }, upd := { x.upd with running := x.upd.selected, trialFailed := false }
  time := { x.time with ocxoStable := x.sup.stable }, evt := { x.evt with dpRelay := false, ufRelay := false }
  sup := { x.sup with stn1 := .training, stn2 := .training } }

/-- Both relays stay de-energised in the modes of R356. -/
theorem changeMode_relaysOff {dst : Mode} {s : State} (hboot : s.um.mode = .boot) (h : transition .boot dst = true) (hoff : relayOff dst = true) :
    changeMode dst 0 s = { s with um := { s.um with mode := dst }, evt := { s.evt with dpRelay := false, ufRelay := false } } := by
  unfold changeMode updateRelays
  rw [hboot, if_pos h]
  exact if_pos (Bool.or_eq_true_iff.mpr (.inl hoff))

theorem changeMode_load {s : State} (hboot : s.um.mode = .boot) :
    changeMode .load 0 s = { s with um := { s.um with mode := .load }, evt := { s.evt with dpRelay := false, ufRelay := false } } :=
  changeMode_relaysOff hboot rfl rfl

/-- The selected bank starts with no notice but EV_062 when the bank on trial has not failed. -/
theorem startBank_selected {s : State} (hboot : s.um.mode = .boot) (hgood : s.upd.trialFailed = false) :
    startBank s.upd.selected s.upd.selected s = bankStarted (if s.sup.svcUp then raise 62 s else s) := by
  have hnotices : startNotices s.upd.selected s.upd.selected s = if s.sup.svcUp then raise 62 s else s := by
    simp [startNotices, hgood]
  have hum : (if s.sup.svcUp then raise 62 s else s).um = s.um := by simp [apply_ite State.um]
  have hupd : (if s.sup.svcUp then raise 62 s else s).upd = s.upd := by simp [apply_ite State.upd]
  rw [startBank_eq, hnotices]
  generalize (if s.sup.svcUp then raise 62 s else s) = x at hum hupd ⊢
  rw [changeMode_load (s := handOver _ x) ((congrArg UnitMode.mode hum).trans hboot), ← hupd]
  rfl

theorem countStart_of_settled {s : State} (h : (bankOf s.upd.selected s).state ≠ .provisional) : countStart s = s := if_neg h

/-- Two banks that are EMPTY or FAILED leave none to start. -/
theorem tryBanks_of_none {s : State} (hone : tried .one s = false) (htwo : tried .two s = false) (x y : BankCheck) (b : Side) :
    tryBanks x y [b, otherSide b] s = (none, s) := by
  have hnot (c : Side) : tried c s = false := by cases c <;> assumption
  simp [tryBanks, hnot]

/-- RECOVERY is entered without touching the update state or the image. -/
theorem startRecovery_spec {s : State} (hboot : s.um.mode = .boot) :
    (startRecovery s).um = { s.um with mode := .recovery } ∧ (startRecovery s).upd = s.upd ∧ (startRecovery s).cfg = s.cfg := by
  obtain ⟨p, hpanel⟩ := writeRecovery_eq (changeMode .recovery 0 s)
  rw [startRecovery, hpanel, changeMode_relaysOff hboot rfl rfl]
  exact ⟨rfl, rfl, rfl⟩

theorem bootComplete_of_badHeader {s : State} (hboot : s.um.mode = .boot) (hreset : s.um.inReset = false) (a b : BankCheck) :
    exec (.bootComplete false a b) s = .next (startRecovery s) :=
  congrArg Host.Outcome.next ((if_pos ⟨hboot, by simp [hreset]⟩).trans (if_neg Bool.false_ne_true))

theorem bootComplete_of_none {s : State} (hboot : s.um.mode = .boot) (hreset : s.um.inReset = false) (hone : tried .one s = false)
    (htwo : tried .two s = false) (hsettled : (bankOf s.upd.selected s).state ≠ .provisional) (a b : BankCheck) :
    exec (.bootComplete true a b) s = .next (startRecovery s) := by
  rw [exec_bootComplete hboot hreset, countStart_of_settled hsettled, tryBanks_of_none hone htwo]
  rfl

theorem bootComplete_of_confirmed {s : State} (hboot : s.um.mode = .boot) (hreset : s.um.inReset = false)
    (hconfirmed : (bankOf s.upd.selected s).state = .confirmed) {a b : BankCheck} (hstart : startable s.upd.selected a b s = true)
    (hgood : s.upd.trialFailed = false) :
    exec (.bootComplete true a b) s = .next (bankStarted (if s.sup.svcUp then raise 62 s else s)) := by
  have htried : tried s.upd.selected s = true := by simp [tried, hconfirmed]
  rw [exec_bootComplete hboot hreset, countStart_of_settled (by simp [hconfirmed]), tryBanks_of_startable htried hstart,
    ← startBank_selected hboot hgood]
  rfl

/-- Settles O12. -/
theorem bootStartsTheSelectedBank : Obligations.BootStartsTheSelectedBank := by
  intro ok a b s hboot hreset
  refine ⟨?_, ?_, ?_, ?_⟩
  · rintro rfl hconfirmed hstart hgood
    have hexec := bootComplete_of_confirmed hboot hreset hconfirmed hstart hgood
    refine ⟨fun hdown => ?_, fun hup => ⟨raise 62 s, raised_raise 62 s, ?_⟩⟩
    · rwa [hdown, if_neg Bool.false_ne_true] at hexec
    · rwa [hup, if_pos rfl] at hexec
  · rintro rfl
    exact ⟨_, bootComplete_of_badHeader hboot hreset a b, startRecovery_spec hboot⟩
  · rintro rfl hone htwo hsettled
    obtain ⟨hum, hupd, -⟩ := startRecovery_spec hboot
    exact ⟨_, bootComplete_of_none hboot hreset hone htwo hsettled a b, hum, hupd⟩
  · rintro rfl htrial hthird
    obtain ⟨t, hexec, hkept⟩ := exec_bootComplete_trialKept hboot hreset a b
    obtain ⟨hselected, hfailed, -⟩ := giveUpSelected_banks s
    rw [countStart_of_third htrial hthird] at hkept
    refine ⟨t, hexec, hkept.failed _ (by simpa using hfailed), ?_, hkept.active 23 (by simp [rollBack])⟩
    rw [hkept.selected, rollBack_upd, hselected]

/-! ## Transitions with EV_124 (R64) -/

/-- A listed transition sets the mode and raises events at most. -/
theorem changeMode_events {dst : Mode} {s : State} (h : transition s.um.mode dst = true) (cause : Nat) :
    EventsOnly { s with um := { s.um with mode := dst } } (changeMode dst cause s) := by
  unfold changeMode
  rw [if_pos h]
  dsimp only
  split
  · exact EventsOnly.updateRelays _
  · exact (EventsOnly.raiseWith ..).trans (EventsOnly.updateRelays _)

theorem changeMode_active {dst : Mode} {s : State} (h : transition s.um.mode dst = true) {e : Nat} (he : eventActive e s = true) (cause : Nat) :
    eventActive e (changeMode dst cause s) = true := by
  have hrelays (u : State) : eventActive e (updateRelays u) = eventActive e u := by
    obtain ⟨x, y, hu⟩ := updateRelays_eq u
    rw [hu]
    rfl
  have hbefore : eventActive e { s with um := { s.um with mode := dst } } = true := he
  unfold changeMode
  rw [if_pos h]
  dsimp only
  rw [hrelays]
  split
  · exact hbefore
  · simp [hbefore]

/-! ## The key (R92 to R101) -/

/-- Every step passes: the image is in force. -/
theorem acceptKey_spec (k : KeyRead) (s : State) :
    (acceptKey k s).cfg = { valid := true, fault := 0, image := imageOf k.octets, net := netOf s.um.unit (imageOf k.octets) } ∧
      (acceptKey k s).um = { s.um with loaded := true } ∧ (acceptKey k s).sup = s.sup ∧ (acceptKey k s).mir = s.mir ∧
      (acceptKey k s).evt = s.evt ∧ (acceptKey k s).hap.keys = workingKeys k s := by
  unfold acceptKey
  dsimp only
  split <;> exact ⟨rfl, rfl, rfl, rfl, rfl, rfl⟩

/-- The entry to HOLD by a listed transition. -/
theorem enterHold_spec {s : State} (h : transition s.um.mode .hold = true) (cause : Nat) :
    (enterHold cause s).um.mode = .hold ∧ (enterHold cause s).um.holdCause = cause ∧
      (enterHold cause s).um.holdFromLoad = (s.um.mode == .load) ∧ (enterHold cause s).um.role = .none ∧ (enterHold cause s).cfg = s.cfg ∧
      (enterHold cause s).hap.keys = s.hap.keys ∧ (enterHold cause s).log = s.log ∧ (enterHold cause s).upd = s.upd := by
  unfold enterHold
  rw [if_pos h, (changeMode_events h cause).eq]
  exact ⟨rfl, rfl, rfl, rfl, rfl, rfl, rfl, rfl⟩

theorem enterHold_active {s : State} (h : transition s.um.mode .hold = true) {e : Nat} (he : eventActive e s = true) (cause : Nat) :
    eventActive e (enterHold cause s) = true := by
  unfold enterHold
  rw [if_pos h]
  exact changeMode_active h he cause

/-- A configuration fault: CFG_FAULT, EV_012 or EV_013, and HOLD. -/
theorem refuseKey_spec {s : State} (h : s.um.mode = .load) (code : Nat) :
    (refuseKey code s).cfg = { valid := false, fault := code } ∧ (refuseKey code s).um.mode = .hold ∧
      (refuseKey code s).um.holdCause = (if code = 1 then 7 else 8) ∧ (refuseKey code s).um.holdFromLoad = true ∧
      eventActive (if code = 1 then 12 else 13) (refuseKey code s) = true ∧ (refuseKey code s).hap.keys = s.hap.keys ∧
      (refuseKey code s).log = s.log ∧ (refuseKey code s).upd = s.upd := by
  generalize hs : ({ s with cfg := { fault := code } } : State) = t
  have hraise := EventsOnly.raise (if code = 1 then 12 else 13) t
  have hload : (raise (if code = 1 then 12 else 13) t).um.mode = .load := by
    rw [hraise.eq, ← hs]
    exact h
  have hhold : transition (raise (if code = 1 then 12 else 13) t).um.mode .hold = true := by rw [hload]; rfl
  obtain ⟨hmode, hcause, hfrom, -, hcfg, hkeys, hlog, hupd⟩ := enterHold_spec hhold (if code = 1 then 7 else 8)
  have hrefuse : refuseKey code s = enterHold (if code = 1 then 7 else 8) (raise (if code = 1 then 12 else 13) t) := by rw [← hs]; rfl
  rw [hrefuse]
  refine ⟨?_, hmode, hcause, by rw [hfrom, hload]; rfl, enterHold_active hhold (raise_active _ t) _, ?_, ?_, ?_⟩
  · rw [hcfg, hraise.eq, ← hs]; rfl
  · rw [hkeys, hraise.eq, ← hs]; rfl
  · rw [hlog, hraise.eq, ← hs]; rfl
  · rw [hupd, hraise.eq, ← hs]; rfl

/-- Settles O14. -/
theorem keyReadingVerifiesOrHolds : Obligations.KeyReadingVerifiesOrHolds := by
  intro k s hload hfresh
  have hreads : s.um.mode = .load ∧ ¬ s.um.loaded = true := ⟨hload, by simp [hfresh]⟩
  refine ⟨fun hpass => ?_, fun code hcode hfault => ?_⟩
  · obtain ⟨hcfg, hum, hsup, hmir, hevt, hkeys⟩ := acceptKey_spec k { s with sup := { s.sup with keyPresent := k.seated } }
    exact ⟨_, congrArg Host.Outcome.next ((if_pos hreads).trans (if_pos hpass)), hcfg, hum, hsup, hmir, hevt, hkeys⟩
  · have hexec : exec (.keyReading k) s = .next (refuseKey (keyFault k { s with sup := { s.sup with keyPresent := k.seated } }) { s with sup := { s.sup with keyPresent := k.seated } }) :=
      congrArg Host.Outcome.next ((if_pos hreads).trans (if_neg (hcode ▸ hfault)))
    rw [hcode] at hexec
    exact ⟨_, hexec, refuseKey_spec (s := { s with sup := { s.sup with keyPresent := k.seated } }) hload code⟩

/-! ## The end of LOAD (R67, R69) -/

/-- What O15 says of a state, apart from its mode. -/
structure LoadView where
  counter : Nat
  rng : RingLocal
  link1 : LinkState
  link2 : LinkState
  stn1 : LinkState
  stn2 : LinkState
  cfg : Config
  log : Recorder
  ex : Exchange
  upd : Update
  life : Life

def loadView (s : State) : LoadView :=
  { counter := s.time.counter, rng := s.rng, link1 := s.pair.link1, link2 := s.pair.link2, stn1 := s.sup.stn1, stn2 := s.sup.stn2
    cfg := s.cfg, log := s.log, ex := s.ex, upd := s.upd, life := s.life }

theorem EventsOnly.loadView {s t : State} (h : EventsOnly s t) : loadView t = loadView s := (congrArg Machine.loadView h.eq).trans rfl

theorem EventsOnly.um {s t : State} (h : EventsOnly s t) : t.um = s.um := (congrArg State.um h.eq).trans rfl

theorem setUpBlocks_view (s : State) : loadView (setUpBlocks s) = { loadView s with counter := 0 } ∧ (setUpBlocks s).um = s.um := ⟨rfl, rfl⟩

theorem finishTongs_view (t1 t2 : Bool) (s : State) :
    loadView (finishTongs t1 t2 s) =
        (if isPair s then { loadView s with link1 := trained t1, link2 := trained t2 } else loadView s) ∧ (finishTongs t1 t2 s).um = s.um := by
  unfold finishTongs
  split
  · have hevents := (EventsOnly.condition 39 (!t1) _).trans (EventsOnly.condition 40 (!t2) (condition 39 (!t1) (setTongs .two (trained t2) (setTongs .one (trained t1) s))))
    exact ⟨hevents.loadView, hevents.um⟩
  · exact ⟨rfl, rfl⟩

theorem finishStations_view (s1 s2 : Bool) (s : State) :
    loadView (finishStations s1 s2 s) = { loadView s with stn1 := trained s1, stn2 := trained s2 } ∧ (finishStations s1 s2 s).um = s.um := by
  have hevents := (EventsOnly.condition 54 (!s1) _).trans (EventsOnly.condition 55 (!s2) (condition 54 (!s1) (setStation .two (trained s2) (setStation .one (trained s1) s))))
  exact ⟨hevents.loadView, hevents.um⟩

theorem reportKey_view (n : Nat) (s : State) : loadView (reportKey n s) = loadView s ∧ (reportKey n s).um = s.um := by
  unfold reportKey
  split
  · exact ⟨rfl, rfl⟩
  · have hevents := EventsOnly.raise 14 (modSup (fun u => { u with keyChanges := min (u.keyChanges + n) 0xFFFF, keyDue := 0 }) s)
    exact ⟨hevents.loadView, hevents.um⟩

/-- The bypass relay opens if the internal loop has trained. -/
def relayOpened (x : Bool) (r : RingLocal) : RingLocal :=
  if x then { r with relayOpen := true, link1 := .training, link2 := .training, lostNow := true } else r

/-- The state in which LOAD ends. -/
def loaded (t1 t2 s1 s2 : Bool) (s : State) : State :=
  let s := finishTongs t1 t2 (setUpBlocks s)
  let s := if s.rng.loopTrained = some true then openRelay s else s
  let s := changeMode .selftest 0 s
  reportKey s.sup.keyDue (finishStations s1 s2 s)

theorem openIfTrained_view {x : Bool} {s : State} (h : s.rng.loopTrained = some x) :
    loadView (if s.rng.loopTrained = some true then openRelay s else s) = { loadView s with rng := relayOpened x s.rng } ∧
      (if s.rng.loopTrained = some true then openRelay s else s).um = s.um := by
  rw [h]
  cases x <;> exact ⟨rfl, rfl⟩

theorem loaded_view {x : Bool} {s : State} (hload : s.um.mode = .load) (hloop : s.rng.loopTrained = some x) (t1 t2 s1 s2 : Bool) :
    loadView (loaded t1 t2 s1 s2 s) =
        { loadView s with
          counter := 0, rng := relayOpened x s.rng, stn1 := trained s1, stn2 := trained s2
          link1 := if isPair s then trained t1 else s.pair.link1, link2 := if isPair s then trained t2 else s.pair.link2 } ∧
      (loaded t1 t2 s1 s2 s).um = { s.um with mode := .selftest } := by
  unfold loaded
  obtain ⟨hset, humset⟩ := setUpBlocks_view s
  have hpair : isPair (setUpBlocks s) = isPair s := rfl
  generalize setUpBlocks s = a at hset humset hpair ⊢
  obtain ⟨htongs, humtongs⟩ := finishTongs_view t1 t2 a
  generalize finishTongs t1 t2 a = b at htongs humtongs ⊢
  have hrng : b.rng = s.rng := by
    have h : b.rng = a.rng := (congrArg LoadView.rng htongs).trans (by split <;> rfl)
    exact h.trans (congrArg LoadView.rng hset)
  obtain ⟨hopen, humopen⟩ := openIfTrained_view (hrng ▸ hloop)
  dsimp only
  generalize (if b.rng.loopTrained = some true then openRelay b else b) = c at hopen humopen ⊢
  have hum : c.um = s.um := humopen.trans (humtongs.trans humset)
  have hmode := changeMode_events (dst := .selftest) (s := c) (by rw [hum, hload]; rfl) 0
  have humode : (changeMode .selftest 0 c).um = { c.um with mode := .selftest } := hmode.um
  have hvmode : loadView (changeMode .selftest 0 c) = loadView c := hmode.loadView
  generalize changeMode .selftest 0 c = d at humode hvmode ⊢
  obtain ⟨hst, humst⟩ := finishStations_view s1 s2 d
  obtain ⟨hkey, humkey⟩ := reportKey_view d.sup.keyDue (finishStations s1 s2 d)
  refine ⟨?_, by rw [humkey, humst, humode, hum]⟩
  rw [hkey, hst, hvmode, hopen, htongs, hrng, hset, hpair]
  split <;> rfl

theorem loadComplete_of_tried {x : Bool} {s : State} (hload : s.um.mode = .load) (hloaded : s.um.loaded = true) (hloop : s.rng.loopTrained = some x)
    (t1 t2 s1 s2 : Bool) : exec (.loadComplete t1 t2 s1 s2) s = .next (loaded t1 t2 s1 s2 s) :=
  congrArg Host.Outcome.next (if_pos ⟨hload, hloaded, by rw [hloop]; rfl⟩)

/-- Settles O15. -/
theorem loadEndsInSelftest : Obligations.LoadEndsInSelftest := by
  intro s hload hloaded
  refine ⟨congrArg Host.Outcome.next (if_pos ⟨hload, hloaded⟩), fun hnot => ?_, fun x t1 t2 s1 s2 hloop => ?_⟩
  · exact ⟨_, _, congrArg Host.Outcome.next (if_pos ⟨hload, hloaded, hnot⟩), raised_raise 32 _, raised_raise 33 _⟩
  · obtain ⟨hview, hum⟩ := loaded_view hload hloop t1 t2 s1 s2
    refine ⟨_, loadComplete_of_tried hload hloaded hloop t1 t2 s1 s2, hum, congrArg LoadView.counter hview, congrArg LoadView.rng hview,
      congrArg LoadView.stn1 hview, congrArg LoadView.stn2 hview, fun hpair => ⟨?_, ?_⟩, congrArg LoadView.cfg hview, congrArg LoadView.log hview,
      congrArg LoadView.ex hview, congrArg LoadView.upd hview, congrArg LoadView.life hview⟩
    · exact (congrArg LoadView.link1 hview).trans (if_pos hpair)
    · exact (congrArg LoadView.link2 hview).trans (if_pos hpair)

end Sys2Proof.Machine
end

section
/-! The start-up test and the role of a unit without a partner (R70 to R72). -/

namespace Sys2Proof.Machine

/-! ## The findings of the start-up test (R70) -/

theorem EventsOnly.addDue (d : DueRecord) (s : State) : EventsOnly s (addDue d s) := ⟨rfl⟩

/-- A Skillet found failing changes Kettle's report and the events alone. -/
theorem startSkillet_events (s : State) (k : Nat) : ∃ kettle, EventsOnly { s with ktl := kettle } (startSkillet s k) :=
  ⟨_, (EventsOnly.setRaised 9 _).trans (EventsOnly.addDue _ _)⟩

/-- A change of Kettle alone can go before the events. -/
theorem EventsOnly.withKettle {s t : State} (h : EventsOnly s t) (kettle : Kettle) : EventsOnly { s with ktl := kettle } { t with ktl := kettle } where
  eq := (congrArg (fun u : State => { u with ktl := kettle }) h.eq).trans rfl

theorem foldl_startSkillet_events (l : List Nat) (s : State) : ∃ kettle, EventsOnly { s with ktl := kettle } (l.foldl startSkillet s) := by
  induction l generalizing s with
  | nil => exact ⟨s.ktl, EventsOnly.refl s⟩
  | cons k rest ih =>
    obtain ⟨first, hfirst⟩ := startSkillet_events s k
    obtain ⟨kettle, hrest⟩ := ih (startSkillet s k)
    exact ⟨kettle, EventsOnly.trans (hfirst.withKettle kettle) hrest⟩

/-- With nothing but Skillets found failing, the test leaves its mark in the tile-health record. -/
theorem testOutcome_of_skillets_spec {f : SelfTestFindings} (hio : f.ioFail = false) (hchannels : f.channels = []) (hslices : f.slices = []) (s : State) :
    (testOutcome f s).2 = false ∧ (testOutcome f s).1.um = s.um ∧ (testOutcome f s).1.cfg = s.cfg ∧ (testOutcome f s).1.log = s.log ∧
      (testOutcome f s).1.pair = s.pair ∧ (testOutcome f s).1.mir.pair = s.mir.pair ∧ (testOutcome f s).1.fab.marked = lostSkillets f s := by
  obtain ⟨kettle, hfold⟩ := foldl_startSkillet_events (lostSkillets f s) s
  simp only [testOutcome, hio, hchannels, hslices, List.foldl_nil, Bool.false_eq_true, if_false, List.isEmpty_nil, Bool.not_true, Bool.or_false]
  rw [hfold.eq]
  exact ⟨trivial, rfl, rfl, rfl, rfl, rfl, rfl⟩

/-- A failing interface or channel is beyond retiring. -/
theorem testOutcome_of_failed {f : SelfTestFindings} (h : f.ioFail = true ∨ f.channels ≠ []) (s : State) : (testOutcome f s).2 = true := by
  unfold testOutcome
  simp only [Bool.or_eq_true, Bool.not_eq_true', List.isEmpty_eq_false_iff]
  exact h.elim (fun hio => .inl (.inr hio)) .inr

/-! ## The entry to STANDBY (R68, R71) -/

theorem report_of_unheard {s : State} (h : s.pair.heard = none) : report s = none := by simp [report, h]

/-- Without a partner's report a bank on trial is confirmed or stays on trial. -/
theorem standbyBank_of_unheard {s : State} (h : s.pair.heard = none) : ∃ u, standbyBank s = { s with upd := u } := by
  have hconfirm (t : State) : ∃ u, confirmBank t = { t with upd := u } := by
    unfold confirmBank setBank
    dsimp only
    split <;> exact ⟨_, rfl⟩
  have hnone (t : State) (ht : t.pair.heard = none) : bankDecision t = t := by
    unfold bankDecision
    rw [ht]
    split <;> rfl
  unfold standbyBank
  dsimp only
  split
  · obtain ⟨u, hu⟩ := hconfirm { s with upd := { s.upd with attempts := 0 } }
    exact ⟨u, hu⟩
  · exact ⟨_, hnone { s with upd := { s.upd with attempts := 0 } } h⟩

/-- Without a partner's report a unit takes the active role at cold start, or none. -/
theorem roleTable_of_unheard {s : State} (h : s.pair.heard = none) : roleTable s = s ∨ roleTable s = coldActive s := by
  unfold roleTable
  rw [report_of_unheard h]
  dsimp only
  split
  · exact .inl rfl
  · split
    · split
      · exact .inl rfl
      · exact .inr rfl
    · split
      · exact .inr rfl
      · exact .inl rfl

/-- Unit A of a pair takes it. -/
theorem roleTable_unitA {s : State} (h : s.pair.heard = none) (hmode : s.um.mode = .standby) (hrole : s.um.role = .none) (hpair : isPair s = true)
    (hunit : s.um.unit = .a) : roleTable s = coldActive s := by
  have hsingle : isSingle s = false := by
    unfold isPair at hpair
    unfold isSingle
    simp_all
  unfold roleTable
  rw [report_of_unheard h, if_neg (by simp [hmode, hrole]), hsingle]
  exact if_pos hunit

/-- The state in which the unit's bank and role are decided at the entry to STANDBY. -/
def standbyEntered (w : State) (u : Update) : State :=
  { w with
    um := { w.um with roleWait := 0 }
    fab := { w.fab with variant := w.fab.marked.head? }
    ktl := { w.ktl with pos := 0 }
    mir := { w.mir with mode := { w.mir.mode with pairMode := .standby } }
    upd := u }

/-- MOD_MODE's epoch is that of the entry. -/
def modeEpochNoted (x : State) : State := { x with mir := { x.mir with mode := { x.mir.mode with modeEpoch := x.ex.epoch } } }

theorem enterStandby_eq (v : State) :
    enterStandby v = modeEpochNoted (roleTable (standbyBank (standbyEntered (changeMode .standby 0 v) (changeMode .standby 0 v).upd))) := rfl

theorem enterStandby_of_unheard {v : State} (hmode : v.um.mode = .selftest) (hheard : v.pair.heard = none) :
    ∃ w u, EventsOnly { v with um := { v.um with mode := .standby } } w ∧ enterStandby v = modeEpochNoted (roleTable (standbyEntered w u)) := by
  have hunheard : (changeMode .standby 0 v).pair.heard = none := by simp [hheard]
  obtain ⟨u, hu⟩ := standbyBank_of_unheard (s := standbyEntered (changeMode .standby 0 v) (changeMode .standby 0 v).upd) hunheard
  refine ⟨changeMode .standby 0 v, u, changeMode_events (by rw [hmode]; rfl) 0, ?_⟩
  rw [enterStandby_eq, hu]
  rfl

theorem isPair_congr {s t : State} (h : t.cfg = s.cfg) : isPair t = isPair s := by unfold isPair; rw [h]

/-- A unit that has heard no partner enters STANDBY on the variant of the Skillet it has lost; unit A of a pair takes the active role. -/
theorem enterStandby_spec {v : State} (hmode : v.um.mode = .selftest) (hheard : v.pair.heard = none) :
    (enterStandby v).um.mode = .standby ∧ (enterStandby v).mir.mode.pairMode = .standby ∧ (enterStandby v).fab.marked = v.fab.marked ∧
      (enterStandby v).fab.variant = v.fab.marked.head? ∧ (enterStandby v).cfg = v.cfg ∧ (enterStandby v).log = v.log ∧
      (isPair v = true → v.um.unit = .a → v.um.role = .none →
        (enterStandby v).um.role = .active ∧ (enterStandby v).ex.epoch = 0 ∧ (enterStandby v).mir.pair.activeUnit = .a ∧
          (enterStandby v).mir.pair.roleChanges = v.mir.pair.roleChanges) := by
  obtain ⟨w, u, hevents, henter⟩ := enterStandby_of_unheard hmode hheard
  have hx : (standbyEntered w u).um = { v.um with mode := .standby, roleWait := 0 } ∧ (standbyEntered w u).fab = { v.fab with variant := v.fab.marked.head? } ∧
      (standbyEntered w u).cfg = v.cfg ∧ (standbyEntered w u).log = v.log ∧ (standbyEntered w u).pair = v.pair ∧
      (standbyEntered w u).mir.pair = v.mir.pair ∧ (standbyEntered w u).mir.mode.pairMode = .standby := by
    rw [hevents.eq]
    exact ⟨rfl, rfl, rfl, rfl, rfl, rfl, rfl⟩
  rw [henter]
  generalize standbyEntered w u = x at hx ⊢
  obtain ⟨hum, hfab, hcfg, hlog, hpair, hmirPair, hmodePair⟩ := hx
  have hunheard : x.pair.heard = none := hpair ▸ hheard
  have hkept : (roleTable x).um.mode = x.um.mode ∧ (roleTable x).mir.mode = x.mir.mode ∧ (roleTable x).fab = x.fab ∧
      (roleTable x).cfg = x.cfg ∧ (roleTable x).log = x.log := by
    obtain h | h := roleTable_of_unheard hunheard
    · rw [h]; exact ⟨rfl, rfl, rfl, rfl, rfl⟩
    · rw [h]; exact ⟨rfl, rfl, rfl, rfl, rfl⟩
  obtain ⟨hkmode, hkpair, hkfab, hkcfg, hklog⟩ := hkept
  refine ⟨?_, ?_, ?_, ?_, hkcfg.trans hcfg, hklog.trans hlog, fun hisPair hunit hrole => ?_⟩
  · exact hkmode.trans (by rw [hum])
  · exact (congrArg ModeState.pairMode hkpair).trans hmodePair
  · exact (congrArg Fabric.marked hkfab).trans (by rw [hfab])
  · exact (congrArg Fabric.variant hkfab).trans (by rw [hfab])
  · have h := roleTable_unitA hunheard (by rw [hum]) (by rw [hum]; exact hrole) ((isPair_congr hcfg).trans hisPair) (by rw [hum]; exact hunit)
    rw [h]
    simp [modeEpochNoted, coldActive, hum, hunit, hmirPair]

/-! ## The rows -/

/-- The start-up test has ended. -/
theorem exec_selftestComplete {s : State} (hmode : s.um.mode = .selftest) (f : SelfTestFindings) :
    exec (.selftestComplete f) s = .next (if 2 ≤ (lostSkillets f s).length then enterHold 9 (testOutcome f s).1
      else if (testOutcome f s).2 then enterHold 0xA (testOutcome f s).1 else enterStandby (testOutcome f s).1) :=
  congrArg Host.Outcome.next (if_pos hmode)

/-- Settles O16. -/
theorem selftestAndWaitDecideModeAndRole : Obligations.SelftestAndWaitDecideModeAndRole := by
  refine ⟨fun f s hmode => ?_, fun s hmode hrole hunit hpair hwait habsent => ?_⟩
  · have htest : (testOutcome f s).1.um.mode = .selftest := (testOutcome_mode f s).trans hmode
    have hhold : transition (testOutcome f s).1.um.mode .hold = true := by rw [htest]; rfl
    refine ⟨fun hlost => ?_, fun hlost hfail => ?_, fun hlost hio hchannels hslices hheard => ?_⟩
    · obtain ⟨hin, hcause, -, hnone, -⟩ := enterHold_spec hhold 9
      refine ⟨_, exec_selftestComplete hmode f, ?_⟩
      rw [if_pos hlost]
      exact ⟨hin, hcause, hnone⟩
    · obtain ⟨hin, hcause, -, hnone, -⟩ := enterHold_spec hhold 0xA
      refine ⟨_, exec_selftestComplete hmode f, ?_⟩
      rw [if_neg (Nat.not_le_of_lt hlost), if_pos (testOutcome_of_failed hfail s)]
      exact ⟨hin, hcause, hnone⟩
    · obtain ⟨hnone, hum, hcfg, hlog, hpair, hmirPair, hmarked⟩ := testOutcome_of_skillets_spec hio hchannels hslices s
      refine ⟨_, exec_selftestComplete hmode f, ?_⟩
      rw [if_neg (Nat.not_le_of_lt hlost), hnone, if_neg Bool.false_ne_true]
      have hspec := enterStandby_spec htest (hpair ▸ hheard)
      rwa [hum, hcfg, hlog, hmirPair, hmarked, isPair_congr hcfg] at hspec
  · refine (congrArg Host.Outcome.next (if_pos ⟨hmode, hrole, hunit, hpair, hwait, by simp [habsent]⟩)).trans ?_
    rw [coldActive, hunit]

end Sys2Proof.Machine
end

section
/-! Links, paths, epoch lock and resynchronisation (R282, R309, R315 to R323). -/

namespace Sys2Proof.Machine

/-! ## A row with a guard -/

theorem next_of_pos {p : Prop} [Decidable p] (h : p) (a b : State) :
    (.next (if p then a else b) : Host.Outcome State Fault Refusal) = .next a := congrArg Host.Outcome.next (if_pos h)

theorem next_of_neg {p : Prop} [Decidable p] (h : ¬ p) (a b : State) :
    (.next (if p then a else b) : Host.Outcome State Fault Refusal) = .next b := congrArg Host.Outcome.next (if_neg h)

/-! ## Links -/

/-- The service link takes its state while the unit runs, and EV_062 follows. -/
theorem inReset_of_timerRuns {s : State} (h : timerRuns s = true) : s.um.inReset = false := by
  unfold timerRuns at h
  simp only [Bool.and_eq_true, Bool.not_eq_true'] at h
  exact h.1.1

theorem stationLinkDown_of_started {s : State} (hruns : timerRuns s = true) (hmode : s.um.mode ≠ .load) (p : Side) :
    exec (.stationLinkDown p) s = .next (raise (stationEvent p) (setStation p .down s)) :=
  (next_of_pos hruns _ _).trans (next_of_neg hmode _ _)

theorem svcLinkUp_of_runs {s : State} (hruns : timerRuns s = true) :
    exec .svcLinkUp s = .next (raise 62 (modSup (fun u => { u with svcUp := true }) s)) :=
  (next_of_neg (by simp [inReset_of_timerRuns hruns]) _ _).trans (next_of_pos hruns _ _)

theorem svcLinkDown_of_runs {s : State} (hruns : timerRuns s = true) :
    exec .svcLinkDown s = .next (clearEvent 62 (modSup (fun u => { u with svcUp := false }) s)) :=
  (next_of_neg (by simp [inReset_of_timerRuns hruns]) _ _).trans (next_of_pos hruns _ _)

/-- Settles O17. -/
theorem linksTakeTheirStateAndEvent : Obligations.LinksTakeTheirStateAndEvent := by
  intro s
  refine ⟨fun hpair => ⟨?_, ?_, ?_, ?_⟩, fun hopen => ⟨?_, ?_, ?_, ?_, fun hlink => ?_, fun hlink => ?_⟩,
    fun hruns => ⟨fun hmode => ⟨?_, ?_⟩, ?_, ?_, ?_, ?_⟩⟩
  · exact ⟨_, next_of_pos hpair _ _, raised_raise 39 _⟩
  · exact ⟨_, next_of_pos hpair _ _, raised_raise 40 _⟩
  · exact ⟨_, next_of_pos hpair _ _, cleared_clearEvent 39 _⟩
  · exact ⟨_, next_of_pos hpair _ _, cleared_clearEvent 40 _⟩
  · exact ⟨_, next_of_pos hopen _ _, raised_raise 32 _⟩
  · exact ⟨_, next_of_pos hopen _ _, raised_raise 33 _⟩
  · exact ⟨_, next_of_pos hopen _ _, cleared_clearEvent 32 _⟩
  · exact ⟨_, next_of_pos hopen _ _, cleared_clearEvent 33 _⟩
  · exact ⟨_, next_of_pos ⟨hopen, hlink⟩ _ _, raised_raise 32 _⟩
  · exact ⟨_, next_of_pos ⟨hopen, hlink⟩ _ _, raised_raise 33 _⟩
  · exact ⟨_, stationLinkDown_of_started hruns hmode .one, raised_raise 54 _⟩
  · exact ⟨_, stationLinkDown_of_started hruns hmode .two, raised_raise 55 _⟩
  · exact ⟨_, next_of_pos hruns _ _, cleared_clearEvent 54 _⟩
  · exact ⟨_, next_of_pos hruns _ _, cleared_clearEvent 55 _⟩
  · exact ⟨_, svcLinkUp_of_runs hruns, raised_raise 62 _⟩
  · exact ⟨_, svcLinkDown_of_runs hruns, cleared_clearEvent 62 _⟩

/-! ## Paths and evidence -/

/-- The window of 2000 epochs and FRAME_ERR with `n` more frames. -/
def frameErrorsCounted (n k : Nat) (r : List Nat) (s : State) : State :=
  { s with sup := { s.sup with frameErrs := (k + n) :: r, frameErr := min (s.sup.frameErr + n) 255 } }

theorem stationFrameErrors_of_runs {s : State} {k : Nat} {r : List Nat} (hruns : timerRuns s = true) (herrs : s.sup.frameErrs = k :: r) (n : Nat) :
    exec (.stationFrameErrors n) s =
      .next (if 100 < k + n + r.sum then raise 60 (frameErrorsCounted n k r s) else frameErrorsCounted n k r s) := by
  refine (next_of_pos hruns _ _).trans ?_
  rw [herrs]
  rfl

/-- Settles O18. -/
theorem pathsFollowTheirEpochCounts : Obligations.PathsFollowTheirEpochCounts := by
  intro s
  refine ⟨fun hpair hruns => ⟨fun h => ?_, fun h => ?_, fun h => ?_⟩, fun h => ?_, fun h => ?_, fun h => ?_, fun h => ?_,
    fun n k r hruns herrs => ⟨fun h => ?_, fun h => ?_⟩⟩
  · exact ⟨_, next_of_pos ⟨hpair, hruns, h⟩ _ _, raised_raise 41 _⟩
  · exact ⟨_, next_of_pos ⟨hpair, hruns, h⟩ _ _, cleared_clearEvent 41 _⟩
  · exact ⟨_, next_of_pos ⟨hpair, hruns, h⟩ _ _, raised_raise 42 _⟩
  · exact ⟨_, next_of_pos h _ _, raised_raise 34 _⟩
  · exact ⟨_, next_of_pos h _ _, cleared_clearEvent 34 _⟩
  · exact ⟨_, next_of_pos h _ _, raised_raise 35 _⟩
  · exact next_of_neg (Nat.not_lt.mpr h) _ _
  · exact ⟨_, (stationFrameErrors_of_runs hruns herrs n).trans (next_of_pos h _ _), raised_raise 60 _⟩
  · exact (stationFrameErrors_of_runs hruns herrs n).trans (next_of_neg (Nat.not_lt.mpr h) _ _)

/-! ## Phases (R322) -/

/-- Out of any phase but the unmirrored standby a change of phase touches the pair's local state alone. -/
theorem setPhase_of_mirroring {s : State} (h : s.pair.phase ≠ .unmirrored) (p : Phase) :
    setPhase p s = { s with pair := { s.pair with
      phase := p, phaseEpochs := 0, auditRun := 0, auditDiff := false, copyStart := if p = .copy then s.pair.copyStart else none } } := by
  unfold setPhase
  rw [if_neg fun hboth => h hboth.1]

theorem enterCopy_of_mirroring {s : State} (h : s.pair.phase ≠ .unmirrored) :
    enterCopy s = { s with pair := { s.pair with
      phase := .copy, phaseEpochs := 0, auditRun := 0, auditDiff := false
      copyStart := if s.um.role = .active then some (s.pair.copyStart.getD s.ex.epoch) else none
      stepped := false, copyEnd := none, settleEnd := none, unsent := if s.um.role = .active then allPages else []
      pageDigests := [], pagesRx := [], pagesSeen := [] } } := by
  unfold enterCopy
  rw [setPhase_of_mirroring h]
  rfl

theorem joinEnd_of_started {s : State} {c : Nat} (hphase : s.pair.phase = .join) (hstart : s.pair.copyStart = some c) (hc : c ≤ s.ex.epoch)
    (hready : s.um.role = .active ∨ s.pair.stepped = true) : exec .joinEnd s = .next (enterCopy s) :=
  next_of_pos ⟨hphase, by simp [hstart, hc], hready⟩ _ _

theorem pagesComplete_iff (s : State) :
    pagesComplete s = true ↔ if s.um.role = .active then s.pair.unsent = [] else ∀ p, p < 512 → p ∈ s.pair.pagesSeen := by
  unfold pagesComplete
  split
  · exact List.isEmpty_iff
  · simp [allPages]

theorem pagesDone_of_sent {s : State} (h : if s.um.role = .active then s.pair.unsent = [] else s.pair.pageCount < 8) : pagesDone s = true := by
  unfold pagesDone
  split
  · rename_i hrole
    rw [if_pos hrole] at h
    exact List.isEmpty_iff.mpr h
  · rename_i hrole
    rw [if_neg hrole] at h
    simp [h]

/-- The lock is lost beyond 300 ticks, or after 20 epochs without a measurement (R315). -/
theorem lockLost_guard {s : State} (h : 20 ≤ s.pair.noMeasure ∨ ∃ th, s.pair.theta = some th ∧ 600 < th.natAbs) :
    600 < (s.pair.theta.getD 0).natAbs ∨ 20 ≤ s.pair.noMeasure := by
  obtain h | ⟨th, hth, h⟩ := h
  · exact .inr h
  · exact .inl (by rwa [hth])

/-- Settles O19. -/
theorem epochLockAndResynchronisationFollow : Obligations.EpochLockAndResynchronisationFollow := by
  refine ⟨fun c s hrole hstart hc hphase => ?_, fun s => ⟨fun hphase hsent => ?_, fun e hphase hend he hsent => ?_, fun hphase hrole hunsent => ?_⟩,
    fun s hrole => ⟨fun hlock hrun => ?_, fun hlock hlost => ⟨fun hphase => ?_, fun hphase => ?_⟩, fun c hstart hc hphase hstepped => ?_,
      fun hphase hrun hlock => ?_⟩⟩
  · refine ⟨_, joinEnd_of_started hphase hstart hc (.inl hrole), ?_⟩
    rw [enterCopy_of_mirroring (by simp [hphase]), hrole, hstart]
    exact ⟨rfl, rfl, rfl, by simp only [allPages, if_true]⟩
  · refine ⟨_, next_of_pos ⟨hphase, (pagesComplete_iff s).mpr hsent⟩ _ _, ?_⟩
    dsimp only
    rw [setPhase_of_mirroring (by simp [hphase])]
    exact ⟨rfl, rfl, rfl, rfl⟩
  · refine ⟨_, next_of_pos ⟨hphase, by simpa [hend] using he, pagesDone_of_sent hsent⟩ _ _, ?_⟩
    rw [setPhase_of_mirroring (by simp [hphase])]
    exact ⟨rfl, rfl, rfl⟩
  · have hnot : pagesDone s = false := by simp [pagesDone, hrole, hunsent]
    exact next_of_neg (fun ⟨_, _, hdone⟩ => by rw [hnot] at hdone; cases hdone) _ _
  · exact next_of_pos ⟨hrole, by simp [hlock], hrun⟩ _ _
  · have hguard := lockLost_guard hlost
    refine ⟨_, (next_of_pos ⟨hrole, hlock, hguard⟩ _ _).trans (next_of_neg ?_ _ _), raised_raise 43 _⟩
    simp [hphase]
  · have hguard := lockLost_guard hlost
    refine ⟨_, _, (next_of_pos ⟨hrole, hlock, hguard⟩ _ _).trans (next_of_pos ?_ _ _), raised_raise 43 _, ?_⟩
    · simp [hphase]
    · rw [startJoin, setPhase_of_mirroring]
      · rfl
      · intro hun
        simp [phaseMirrored] at hun hphase
        rw [hun] at hphase
        cases hphase
  · refine ⟨_, joinEnd_of_started hphase hstart hc (.inr hstepped), ?_⟩
    rw [enterCopy_of_mirroring (by simp [hphase]), hrole]
    exact ⟨rfl, rfl, rfl, rfl, rfl⟩
  · refine ⟨_, next_of_pos ⟨hrole, hphase, hrun, hlock⟩ _ _, ?_⟩
    dsimp only
    rw [setPhase_of_mirroring (by simp [hphase])]
    exact ⟨rfl, rfl, rfl⟩

/-! ## Failed attempts (R323) -/

/-- An attempt fails in the standby role, in COPY, SETTLE or AUDIT. -/
theorem phase_of_attemptFailed {s : State} (h : attemptFailed s = true) : s.pair.phase ≠ .unmirrored := by
  intro hphase
  simp [attemptFailed, hphase] at h

/-- The attempt counts, and the pause follows the third (R323). -/
def attemptCounted (n : Nat) (s : State) : State :=
  { s with pair := { s.pair with attempts := n, backoff := if 3 ≤ n then 120000 else 0 } }

theorem resyncAttemptFailed_of_failed {s : State} (h : attemptFailed s = true) :
    exec .resyncAttemptFailed s = .next (attemptCounted (s.pair.attempts + 1)
      (if 3 ≤ s.pair.attempts + 1 then enterUnmirrored (raise 47 s) else enterCopy (raise 47 s))) := next_of_pos h _ _

theorem enterUnmirrored_of_mirroring {s : State} (h : s.pair.phase ≠ .unmirrored) :
    enterUnmirrored s = raise 119 { s with pair := { s.pair with
      phase := .unmirrored, phaseEpochs := 0, auditRun := 0, auditDiff := false, copyStart := none } } := by
  unfold enterUnmirrored
  rw [if_neg h, setPhase_of_mirroring h]
  rfl

/-- A phase that ends the unmirrored standby ends EV_119 with it. -/
theorem startJoin_of_unmirrored {s : State} (h : s.pair.phase = .unmirrored) :
    startJoin s = { clearEvent 119 s with pair := { s.pair with
      phase := .join, phaseEpochs := 0, auditRun := 0, auditDiff := false, copyStart := none, stepped := false } } := by
  have hpair : (clearEvent 119 s).pair = s.pair := by simp
  unfold startJoin setPhase
  rw [if_pos ⟨h, by decide⟩]
  dsimp only
  rw [hpair]
  rfl

/-- Settles O20. -/
theorem failedAttemptsBackOff : Obligations.FailedAttemptsBackOff := by
  intro s
  refine ⟨fun hfailed => ⟨fun hfew => ?_, fun hthird => ?_⟩, fun hrole hphase hattempts hpause himage hfw => ?_, fun hrole hpair hchoice hphase => ?_⟩
  · have hphase : (raise 47 s).pair.phase ≠ .unmirrored := by simpa using phase_of_attemptFailed hfailed
    refine ⟨_, resyncAttemptFailed_of_failed hfailed, ?_⟩
    rw [if_neg (by omega), enterCopy_of_mirroring hphase]
    exact ⟨raise_active 47 s, rfl, rfl, if_neg (by omega), by simp [attemptCounted], by simp [attemptCounted], by simp [attemptCounted]⟩
  · have hphase : (raise 47 s).pair.phase ≠ .unmirrored := by simpa using phase_of_attemptFailed hfailed
    refine ⟨_, resyncAttemptFailed_of_failed hfailed, ?_⟩
    rw [if_pos (by omega), enterUnmirrored_of_mirroring hphase]
    generalize hu : ({ raise 47 s with pair := { (raise 47 s).pair with
      phase := .unmirrored, phaseEpochs := 0, auditRun := 0, auditDiff := false, copyStart := none } } : State) = u
    have hactive : eventActive 47 u = true := by rw [← hu]; exact raise_active 47 s
    have hactive' : eventActive 47 (raise 119 u) = true := by simp [hactive]
    refine ⟨hactive', ?_, raise_active 119 u, rfl, if_pos (by omega), ?_, ?_, ?_⟩
    all_goals simp [attemptCounted, ← hu]
  · have hmatch : matching s = true := by simp [matching, himage, hfw]
    have hexec : exec .resyncBackoffEnd s = .next (startJoin { s with pair := { s.pair with attempts := 0 } }) :=
      next_of_pos ⟨hrole, hphase, hattempts, hpause, hmatch⟩ _ _
    rw [startJoin_of_unmirrored (s := { s with pair := { s.pair with attempts := 0 } }) hphase] at hexec
    exact ⟨_, hexec, rfl, rfl, rfl, (cleared_clearEvent 119 _).inactive, by simp, by simp⟩
  · refine ⟨_, next_of_pos ⟨hrole, hpair, hchoice⟩ _ _, ?_⟩
    rw [enterUnmirrored_of_mirroring hphase]
    exact ⟨by simp, rfl, raise_active 119 _, by simp, by simp⟩

end Sys2Proof.Machine
end

section
/-! What frames on Tongs leave of the partner (R310 to R324, R444). -/

namespace Sys2Proof.Machine

/-! ## The first valid copy of a frame (R310) -/

/-- The evidence of a valid Tongs frame whose copies are known from now on. -/
def copyNoted (type : Nat) (h : TongsHeader) (s : State) : State :=
  { s with pair := { s.pair with tongsNow := true, copies := (type, h.epoch, h.index) :: s.pair.copies } }

theorem tongsRx_of_fresh {h : TongsHeader} {s : State} (hpair : isPair s = true) (hruns : timerRuns s = true) (hvalid : tongsValid h s = true)
    {type : Nat} (hfresh : (type, h.epoch, h.index) ∉ s.pair.copies ∧ (type, h.epoch, h.index) ∉ s.pair.copiesBefore) (f : State → State) :
    tongsRx type h f s = f (copyNoted type h s) := by
  have hunknown : (s.pair.copies.contains (type, h.epoch, h.index) || s.pair.copiesBefore.contains (type, h.epoch, h.index)) = false := by
    simp [hfresh.1, hfresh.2]
  unfold tongsRx
  rw [hpair, hruns, hvalid, Bool.true_and, if_pos rfl, if_pos rfl]
  dsimp only
  rw [hunknown]
  rfl

theorem mem_insertNat (k e : Nat) (l : List Nat) : k ∈ insertNat e l ↔ k = e ∨ k ∈ l := by
  have h := contains_insertNat e k l
  rw [Bool.eq_iff_iff] at h
  simpa using h

/-! ## Heartbeats (R312, R315, R324) -/

/-- What O22 says of a state after a heartbeat. -/
structure PartnerView where
  beatNow : Bool
  echoTick : Nat
  echoRx : Nat
  heardAge : Nat
  heard : Option Heard
  exchanged : Option (Nat × Nat)
  image : Bool
  firmware : Bool
  um : UnitMode
  ex : Exchange
  cfg : Config

def partnerView (s : State) : PartnerView :=
  { beatNow := s.pair.tongsBeatNow, echoTick := s.pair.echoTick, echoRx := s.pair.echoRx, heardAge := s.pair.heardAge, heard := s.pair.heard
    exchanged := s.pair.exchanged, image := eventActive 15 s, firmware := eventActive 16 s, um := s.um, ex := s.ex, cfg := s.cfg }

theorem partnerView_raise {e : Nat} (h15 : e ≠ 15) (h16 : e ≠ 16) (s : State) : partnerView (raise e s) = partnerView s := by
  unfold partnerView
  simp [(raised_raise e s).others h15.symm, (raised_raise e s).others h16.symm]

theorem partnerView_clearEvent {e : Nat} (h15 : e ≠ 15) (h16 : e ≠ 16) (s : State) : partnerView (clearEvent e s) = partnerView s := by
  unfold partnerView
  simp [(cleared_clearEvent e s).others h15.symm, (cleared_clearEvent e s).others h16.symm]

theorem partnerView_bankDecision (s : State) : partnerView (bankDecision s) = partnerView s := by
  have hconfirm : partnerView (confirmBank s) = partnerView s := by
    unfold confirmBank setBank
    dsimp only
    split <;> rfl
  have hfail : partnerView (failBank s) = partnerView s := by
    unfold failBank setBank
    dsimp only
    split <;> exact (partnerView_raise (by decide) (by decide) _).trans rfl
  rcases bankDecision_cases s with h | h | h <;> rw [h]
  · exact hconfirm
  · exact hfail

theorem partnerView_setPhase (p : Phase) (s : State) : partnerView (setPhase p s) = partnerView s := by
  unfold setPhase
  dsimp only
  split
  · exact Eq.trans rfl (partnerView_clearEvent (e := 119) (by decide) (by decide) s)
  · rfl

theorem partnerView_followPartner (h : TongsHeader) (b : HeartbeatBody) (s : State) : partnerView (followPartner h b s) = partnerView s := by
  have hjoin (t : State) : partnerView (if t.pair.copyStart = none then
      { t with pair := { t.pair with copyStart := some (epochWrap (t.ex.epoch + 1)) } } else t) = partnerView t := by split <;> rfl
  have hphase (p : Phase) : partnerView (if s.pair.phase = p then s else setPhase p s) = partnerView s := by
    split
    · rfl
    · exact partnerView_setPhase p s
  unfold followPartner
  split
  · split
    · exact (hjoin _).trans (hphase .join)
    · exact hphase b.phase
    · exact hphase b.phase
    · rfl
  · rfl

theorem partnerView_measureTheta (link : Side) (b : HeartbeatBody) (tick : Nat) (s : State) :
    partnerView (measureTheta link b tick s) = partnerView s := by
  unfold measureTheta
  split <;> rfl

theorem partnerView_takeAnnouncedStep (b : HeartbeatBody) (s : State) : partnerView (takeAnnouncedStep b s) = partnerView s := by
  have htime (t : TimeUnit) : partnerView { s with time := t } = partnerView s := rfl
  unfold takeAnnouncedStep
  split
  · exact htime _
  · rfl

/-- The partner's report, as a heartbeat on Tongs gives it. -/
def heardOnTongs (h : TongsHeader) (b : HeartbeatBody) : Heard :=
  { epoch := h.epoch, role := h.role, mode := b.mode, mirrored := b.mirrored, single := b.single, imageId := b.imageId, fwDigest := b.fwDigest
    phase := b.phase }

/-- The digest D known for the partner's image (R105). -/
def digestKnown (b : HeartbeatBody) (s : State) : Option (Nat × Nat) :=
  match b.digest with
  | some d => some (b.imageId, d)
  | none => s.pair.exchanged

/-- What a heartbeat leaves of the pair before its checks. -/
def beatTaken (h : TongsHeader) (b : HeartbeatBody) (tick : Nat) (s : State) : State :=
  { s with pair := { s.pair with
    tongsBeatNow := true, partnerClear := s.pair.partnerClear || !b.mirrored, echoTick := b.txTick, echoRx := tick
    heard := some (heardOnTongs h b), exchanged := digestKnown b s, heardAge := 0 } }

/-- The image differs, or its exchanged digest does (R105, R106). -/
def imageDiffers (imageId : Nat) (known : Option (Nat × Nat)) (own : Image) : Bool :=
  imageId != own.imageId || (match known with
    | some e => e.1 == imageId && e.2 != beNat own.digest
    | none => false)

theorem partnerView_condition15 (on : Bool) (s : State) : partnerView (condition 15 on s) = { partnerView s with image := on } := by
  have hactive : eventActive 15 (condition 15 on s) = on := by simp
  have hother : eventActive 16 (condition 15 on s) = eventActive 16 s := by simp
  unfold partnerView
  rw [hactive, hother, (EventsOnly.condition 15 on s).eq]
  rfl

theorem partnerView_condition16 (on : Bool) (s : State) : partnerView (condition 16 on s) = { partnerView s with firmware := on } := by
  have hactive : eventActive 16 (condition 16 on s) = on := by simp
  have hother : eventActive 15 (condition 16 on s) = eventActive 15 s := by simp
  unfold partnerView
  rw [hactive, hother, (EventsOnly.condition 16 on s).eq]
  rfl

theorem partnerView_checkImage (imageId : Nat) (s : State) :
    partnerView (checkImage imageId s) = { partnerView s with image := imageDiffers imageId s.pair.exchanged s.cfg.image } :=
  (partnerView_condition15 (imageDiffers imageId s.pair.exchanged s.cfg.image) _).trans rfl

theorem fwDigest_checkImage (imageId : Nat) (s : State) : fwDigest (checkImage imageId s) = fwDigest s := by
  have hevents := EventsOnly.condition 15 (imageDiffers imageId s.pair.exchanged s.cfg.image)
    { s with pair := { s.pair with imageMismatch := imageDiffers imageId s.pair.exchanged s.cfg.image } }
  exact (congrArg fwDigest hevents.eq).trans rfl

theorem partnerView_checkFirmware (fw : Nat) (s : State) :
    partnerView (checkFirmware fw s) = { partnerView s with firmware := fw != fwDigest s } :=
  (partnerView_condition16 (fw != fwDigest s) _).trans rfl

theorem partnerView_checked (imageId fw : Nat) (s : State) :
    partnerView (checkFirmware fw (checkImage imageId s)) =
      { partnerView s with image := imageDiffers imageId s.pair.exchanged s.cfg.image, firmware := fw != fwDigest s } := by
  rw [partnerView_checkFirmware, fwDigest_checkImage, partnerView_checkImage]

/-- What a heartbeat of the partner leaves. -/
def heartbeatTaken (h : TongsHeader) (b : HeartbeatBody) (tick : Nat) (s : State) : State :=
  let s := followPartner h b (bankDecision (checkFirmware b.fwDigest (checkImage b.imageId (beatTaken h b tick s))))
  if h.role = .active then
    let s := takeAnnouncedStep b (measureTheta h.link b tick s)
    { s with pair := { s.pair with
        copyStart := if b.copyStart ≠ 0 ∧ s.um.role = .standby ∧ s.pair.phase = .join then some b.copyStart else s.pair.copyStart } }
  else s

theorem heartbeatTaken_view (h : TongsHeader) (b : HeartbeatBody) (tick : Nat) (s : State) :
    partnerView (heartbeatTaken h b tick s) =
      { partnerView (beatTaken h b tick s) with image := imageDiffers b.imageId (digestKnown b s) s.cfg.image, firmware := b.fwDigest != fwDigest s } := by
  have hfollowed : partnerView (followPartner h b (bankDecision (checkFirmware b.fwDigest (checkImage b.imageId (beatTaken h b tick s))))) =
      { partnerView (beatTaken h b tick s) with image := imageDiffers b.imageId (digestKnown b s) s.cfg.image, firmware := b.fwDigest != fwDigest s } := by
    rw [partnerView_followPartner, partnerView_bankDecision, partnerView_checked]
    rfl
  unfold heartbeatTaken
  generalize followPartner h b (bankDecision (checkFirmware b.fwDigest (checkImage b.imageId (beatTaken h b tick s)))) = t at hfollowed ⊢
  rw [← hfollowed]
  dsimp only
  split
  · exact Eq.trans rfl ((partnerView_takeAnnouncedStep b _).trans (partnerView_measureTheta h.link b tick t))
  · rfl

theorem bankDecision_partner (s : State) :
    (bankDecision s).upd.partner = s.upd.partner ∧ (bankDecision s).um = s.um ∧ (bankDecision s).ex = s.ex ∧ (bankDecision s).mir.pair = s.mir.pair := by
  have hconfirm : (confirmBank s).upd.partner = s.upd.partner ∧ (confirmBank s).um = s.um ∧ (confirmBank s).ex = s.ex ∧
      (confirmBank s).mir.pair = s.mir.pair := by
    unfold confirmBank setBank
    dsimp only
    split <;> exact ⟨rfl, rfl, rfl, rfl⟩
  have hfail : (failBank s).upd.partner = s.upd.partner ∧ (failBank s).um = s.um ∧ (failBank s).ex = s.ex ∧ (failBank s).mir.pair = s.mir.pair := by
    unfold failBank setBank
    dsimp only
    split <;> simp
  rcases bankDecision_cases s with h | h | h <;> rw [h]
  · exact ⟨rfl, rfl, rfl, rfl⟩
  · exact hconfirm
  · exact hfail

/-! ## The rows -/

section
variable {h : TongsHeader} {s : State} (hpair : isPair s = true) (hruns : timerRuns s = true) (hvalid : tongsValid h s = true)
include hpair hruns hvalid

theorem tongsHeartbeatRx_of_fresh (hfresh : (0x44, h.epoch, h.index) ∉ s.pair.copies ∧ (0x44, h.epoch, h.index) ∉ s.pair.copiesBefore)
    (b : HeartbeatBody) (tick : Nat) : exec (.tongsHeartbeatRx h b tick) s = .next (heartbeatTaken h b tick (copyNoted 0x44 h s)) := by
  have hsingle : ¬ (isSingle s && timerRuns s) = true := by
    unfold isPair at hpair
    unfold isSingle
    simp_all
  refine (next_of_neg hsingle _ _).trans (congrArg Host.Outcome.next ?_)
  rw [tongsRx_of_fresh hpair hruns hvalid hfresh]
  rfl

end

/-- Settles O22. -/
theorem tongsStateOfThePartnerIsHeld : Obligations.TongsStateOfThePartnerIsHeld := by
  intro h s hpair hruns hvalid
  refine ⟨fun n content hfresh hrole hphase hn => ?_, fun n content hfresh hrole hphase hn => ?_, fun first d hfresh hrole hphase hepoch hdiff => ?_,
    fun first d hfresh hrole hphase hepoch hdiff => ?_, fun b tick hfresh => ?_, fun b hfresh => ?_⟩
  · refine ⟨_, congrArg Host.Outcome.next ((tongsRx_of_fresh hpair hruns hvalid hfresh _).trans (if_pos ⟨hrole, hn⟩)), ?_⟩
    dsimp only [copyNoted]
    rw [hphase]
    exact ⟨rfl, fun p => mem_insertNat p n _, rfl⟩
  · refine (congrArg Host.Outcome.next ((tongsRx_of_fresh hpair hruns hvalid hfresh _).trans (if_pos ⟨hrole, hn⟩))).trans ?_
    dsimp only [copyNoted]
    rw [hphase]
  · have hours : ofEpoch h (copyNoted 0x46 h s) = true := by simpa [ofEpoch, copyNoted] using hepoch
    refine (congrArg Host.Outcome.next ((tongsRx_of_fresh hpair hruns hvalid hfresh _).trans ((if_pos ⟨hrole, .inl hphase, hours⟩).trans ((if_neg hdiff).trans (if_neg ?_))))).trans ?_
    · intro hm
      cases hphase.symm.trans hm
    · rfl
  · have hours : ofEpoch h (copyNoted 0x46 h s) = true := by simpa [ofEpoch, copyNoted] using hepoch
    exact congrArg Host.Outcome.next ((tongsRx_of_fresh hpair hruns hvalid hfresh _).trans ((if_pos ⟨hrole, .inr hphase, hours⟩).trans ((if_neg hdiff).trans (if_pos hphase))))
  · have hview := heartbeatTaken_view h b tick (copyNoted 0x44 h s)
    refine ⟨_, tongsHeartbeatRx_of_fresh hpair hruns hvalid hfresh b tick, congrArg PartnerView.beatNow hview, congrArg PartnerView.echoTick hview,
      congrArg PartnerView.echoRx hview, congrArg PartnerView.heardAge hview, ⟨_, congrArg PartnerView.heard hview, rfl, rfl, rfl, rfl, rfl⟩,
      ⟨congrArg PartnerView.exchanged hview, congrArg PartnerView.image hview⟩, congrArg PartnerView.firmware hview, congrArg PartnerView.um hview,
      congrArg PartnerView.ex hview, congrArg PartnerView.cfg hview⟩
  · obtain ⟨hpartner, hum, hex, hmir⟩ := bankDecision_partner { copyNoted 0x48 h s with upd := { s.upd with partner := some b } }
    exact ⟨_, congrArg Host.Outcome.next (tongsRx_of_fresh hpair hruns hvalid hfresh _), hpartner, hum, hex, hmir⟩

end Sys2Proof.Machine
end

section
/-! Frames of the ring (R251, R266, R275 to R282, R317). -/

namespace Sys2Proof.Machine

/-! ## Copies (R266) -/

/-- The entry of a copy in the duplicate table. -/
def hsrEntry (rx : RingRx) : HsrEntry := ⟨rx.src, rx.hsrSeq, rx.nowMs, rx.port⟩

theorem hsrLive_idem (now : Nat) (l : List HsrEntry) : hsrLive now (hsrLive now l) = hsrLive now l := by
  simp [hsrLive, List.filter_filter]

/-- A first copy is known from its arrival on. -/
theorem hsrFirst_of_noted {src seq now : Nat} {s : State} (h : hsrFirst src seq now s = none) (port : Side) :
    hsrFirst src seq now (hsrNote src seq now port s) = some ⟨src, seq, now, port⟩ := by
  have hlive : hsrLive now [(⟨src, seq, now, port⟩ : HsrEntry)] = [⟨src, seq, now, port⟩] := by simp [hsrLive]
  have hnote : (hsrNote src seq now port s).rng.hsrSeen = hsrLive now s.rng.hsrSeen ++ [⟨src, seq, now, port⟩] := by
    unfold hsrNote
    dsimp only
    rw [h]
    rfl
  have happend (a b : List HsrEntry) : hsrLive now (a ++ b) = hsrLive now a ++ hsrLive now b := List.filter_append ..
  unfold hsrFirst
  rw [hnote, happend, hsrLive_idem, hlive, List.find?_append]
  unfold hsrFirst at h
  rw [h]
  simp

theorem hsrNote_eq (src seq now : Nat) (port : Side) (s : State) : ∃ l, hsrNote src seq now port s = { s with rng := { s.rng with hsrSeen := l } } :=
  ⟨_, rfl⟩

theorem ringEvidence_eq (rx : RingRx) (first : Option HsrEntry) (s : State) :
    ∃ a b, ringEvidence rx first s = { s with rng := { s.rng with seen := a, seenBoth := b } } ∧
      (ringBothUp s = true → a = true ∧ b = (s.rng.seenBoth || first.any (·.port != rx.port))) := by
  unfold ringEvidence
  split
  · exact ⟨_, _, rfl, fun _ => ⟨rfl, rfl⟩⟩
  · rename_i h
    exact ⟨_, _, rfl, fun hup => absurd hup h⟩

/-- The state that a copy with a good FCS leaves before it is delivered or counted. -/
def copyKnown (rx : RingRx) (evident : Bool) (s : State) : State :=
  let t := hsrNote rx.src rx.hsrSeq rx.nowMs rx.port s
  if evident then ringEvidence rx (hsrFirst rx.src rx.hsrSeq rx.nowMs s) t else t

theorem takeCopy_of_first {rx : RingRx} {s : State} (hfcs : rx.fcsOk = true) (hfirst : hsrFirst rx.src rx.hsrSeq rx.nowMs s = none) (valid evident : Bool)
    (count deliver : State → State) :
    takeCopy rx valid evident count deliver s =
      if valid then deliver (copyKnown rx (valid && evident) s) else count (copyKnown rx (valid && evident) s) := by
  unfold takeCopy copyKnown
  rw [hfcs, hfirst]
  rfl

theorem takeCopy_of_second {rx : RingRx} {s : State} {e : HsrEntry} (hfcs : rx.fcsOk = true) (hfirst : hsrFirst rx.src rx.hsrSeq rx.nowMs s = some e)
    (valid evident : Bool) (count deliver : State → State) :
    takeCopy rx valid evident count deliver s = copyKnown rx (valid && evident) s := by
  unfold takeCopy copyKnown
  rw [hfcs, hfirst]
  rfl

theorem takeCopy_of_badFcs {rx : RingRx} (hfcs : rx.fcsOk = false) (valid evident : Bool) (count deliver : State → State) (s : State) :
    takeCopy rx valid evident count deliver s = count s := by
  unfold takeCopy
  rw [hfcs]
  rfl

/-- A known copy changes the duplicate table and the epoch's evidence. -/
theorem copyKnown_eq (rx : RingRx) (evident : Bool) (s : State) :
    ∃ l a b, copyKnown rx evident s = { s with rng := { s.rng with hsrSeen := l, seen := a, seenBoth := b } } := by
  obtain ⟨l, hl⟩ := hsrNote_eq rx.src rx.hsrSeq rx.nowMs rx.port s
  cases evident
  · exact ⟨l, _, _, hl⟩
  · obtain ⟨a, b, hev, -⟩ := ringEvidence_eq rx (hsrFirst rx.src rx.hsrSeq rx.nowMs s) (hsrNote rx.src rx.hsrSeq rx.nowMs rx.port s)
    exact ⟨l, a, b, hev.trans (by rw [hl])⟩

/-- Without evidence it changes the table alone. -/
theorem copyKnown_silent (rx : RingRx) (s : State) : ∃ l, copyKnown rx false s = { s with rng := { s.rng with hsrSeen := l } } :=
  hsrNote_eq ..

theorem ringBothUp_hsrNote (src seq now : Nat) (port : Side) (s : State) : ringBothUp (hsrNote src seq now port s) = ringBothUp s := rfl

/-- Evidence of a first copy, and of one on the other port. -/
theorem copyKnown_evidence (rx : RingRx) {s : State} (hup : ringBothUp s = true) :
    (copyKnown rx true s).rng.seen = true ∧
      ∀ e, hsrFirst rx.src rx.hsrSeq rx.nowMs s = some e → e.port ≠ rx.port → (copyKnown rx true s).rng.seenBoth = true := by
  obtain ⟨a, b, hev, hseen⟩ := ringEvidence_eq rx (hsrFirst rx.src rx.hsrSeq rx.nowMs s) (hsrNote rx.src rx.hsrSeq rx.nowMs rx.port s)
  obtain ⟨ha, hb⟩ := hseen ((ringBothUp_hsrNote ..).trans hup)
  have hknown : copyKnown rx true s = ringEvidence rx (hsrFirst rx.src rx.hsrSeq rx.nowMs s) (hsrNote rx.src rx.hsrSeq rx.nowMs rx.port s) := rfl
  rw [hknown, hev]
  refine ⟨ha, fun e he hport => ?_⟩
  dsimp only
  rw [hb, he]
  simp [hport]

theorem copyKnown_first {rx : RingRx} {s : State} (hfirst : hsrFirst rx.src rx.hsrSeq rx.nowMs s = none) (evident : Bool) :
    hsrFirst rx.src rx.hsrSeq rx.nowMs (copyKnown rx evident s) = some (hsrEntry rx) := by
  have hnoted := hsrFirst_of_noted hfirst rx.port
  have hkept (t : State) : hsrFirst rx.src rx.hsrSeq rx.nowMs (ringEvidence rx none t) = hsrFirst rx.src rx.hsrSeq rx.nowMs t := by
    unfold ringEvidence
    split <;> rfl
  unfold copyKnown
  rw [hfirst]
  cases evident
  · exact hnoted
  · exact (hkept _).trans hnoted

/-! ## Counted frames (R284) -/

theorem countInvalid_of_damaged {rx : RingRx} (h : rx.fcsOk = false ∨ rx.crcOk = false) (s : State) :
    countInvalid rx s = { s with rng := { s.rng with crcErr := min (s.rng.crcErr + 1) 65535, invalidNow := s.rng.invalidNow + 1 } } := by
  have hbad : ¬ (rx.fcsOk && rx.crcOk) = true := by
    obtain h | h := h <;> simp [h]
  unfold countInvalid countRing
  rw [if_neg hbad]
  rfl

theorem countInvalid_of_foreign {rx : RingRx} (hfcs : rx.fcsOk = true) (hcrc : rx.crcOk = true) (s : State) :
    countInvalid rx s = { s with rng := { s.rng with foreign := min (s.rng.foreign + 1) 65535, invalidNow := s.rng.invalidNow + 1 } } := by
  unfold countInvalid countRing
  rw [if_pos (by simp [hfcs, hcrc])]
  rfl

/-! ## The partner's frames -/

theorem fcsOk_of_ringFormed {type length : Nat} {rx : RingRx} (h : ringFormed type length rx = true) : rx.fcsOk = true := by
  unfold ringFormed at h
  simp only [Bool.and_eq_true] at h
  exact h.1.1.1.1

theorem ringFormed_of_ringValid {type length addr : Nat} {rx : RingRx} (h : ringValid type length addr rx = true) : ringFormed type length rx = true := by
  unfold ringValid at h
  exact (Bool.and_eq_true _ _ ▸ h).1

/-- A command frame of the partner in the active role is active evidence. -/
def activeSeen (role : Role) (s : State) : State :=
  if role = .active then { s with pair := { s.pair with activeNow := true } } else s

theorem activeSeen_eq (role : Role) (s : State) : activeSeen role s = { s with pair := { s.pair with activeNow := s.pair.activeNow || role == .active } } := by
  unfold activeSeen
  split
  · rename_i h
    simp [h]
  · rename_i h
    have hr : (role == Role.active) = false := by simpa using h
    rw [hr, Bool.or_false]

theorem ringCommandFrameRx_of_open {s : State} (hopen : s.rng.relayOpen = true) (rx : RingRx) (f : CommandFrame) :
    exec (.ringCommandFrameRx rx f) s = .next (takeCopy rx (ringValid 1 420 (partnerNet s).ring rx && f.unit != s.um.unit) (isPair s) (countInvalid rx)
      (activeSeen f.role) s) := next_of_pos hopen _ _

/-- The partner's epoch is read to its low 32 bits (R6). -/
theorem widenEpoch_mod (prev low : Nat) : widenEpoch prev low % 2 ^ 32 = low % 2 ^ 32 := by
  unfold widenEpoch epochWrap
  dsimp only
  split <;> omega

/-- A ring heartbeat is the partner's report (R281, R317). -/
def heardOnRing (f : RingHeartbeat) (s : State) : Heard :=
  { epoch := widenEpoch ((s.pair.heard.map (·.epoch)).getD s.ex.epoch) f.epoch, role := f.role, mode := f.mode, mirrored := f.mirrored
    single := f.single, imageId := f.imageId, fwDigest := f.fwDigest, phase := (s.pair.heard.map (·.phase)).getD .none }

def ringReportTaken (f : RingHeartbeat) (s : State) : State :=
  { s with pair := { s.pair with
    ringNow := true, activeNow := s.pair.activeNow || f.role == .active, heard := some (heardOnRing f s), heardAge := 0 } }

theorem takeRingReport_eq (f : RingHeartbeat) (s : State) :
    takeRingReport f s = bankDecision (checkFirmware f.fwDigest (checkImage f.imageId (ringReportTaken f s))) := rfl

theorem takeRingReport_view (f : RingHeartbeat) (s : State) :
    partnerView (takeRingReport f s) =
      { partnerView (ringReportTaken f s) with image := imageDiffers f.imageId s.pair.exchanged s.cfg.image, firmware := f.fwDigest != fwDigest s } := by
  rw [takeRingReport_eq, partnerView_bankDecision, partnerView_checked]
  rfl

theorem takeRingReport_ringNow (f : RingHeartbeat) (s : State) : (takeRingReport f s).pair.ringNow = true := by
  have hpair (e : Nat) (on : Bool) (t : State) : (condition e on t).pair = t.pair := (congrArg State.pair (EventsOnly.condition e on t).eq).trans rfl
  rw [takeRingReport_eq, (bankDecision_frame _).2]
  unfold checkFirmware
  rw [hpair]
  unfold checkImage
  dsimp only
  rw [hpair]
  rfl

theorem ringHeartbeatRx_of_pair {s : State} (hopen : s.rng.relayOpen = true) (hpair : isSingle s = false) (rx : RingRx) (f : RingHeartbeat) :
    exec (.ringHeartbeatRx rx f) s = .next (takeCopy rx (ringValid 3 40 (partnerNet s).ring rx && f.unit != s.um.unit) true (countRing rx)
      (takeRingReport f) s) := (next_of_pos hopen _ _).trans (next_of_neg (by simp [hpair]) _ _)

/-- A single-unit image that hears another XN-960 (R107). -/
def otherHeard (s : State) : State := raise 15 { s with pair := { s.pair with ringNow := true } }

theorem ringHeartbeatRx_of_single {s : State} (hopen : s.rng.relayOpen = true) (hsingle : isSingle s = true) (rx : RingRx) (f : RingHeartbeat) :
    exec (.ringHeartbeatRx rx f) s = .next (takeCopy rx (ringFormed 3 40 rx) false (countRing rx) otherHeard s) :=
  (next_of_pos hopen _ _).trans (next_of_pos hsingle _ _)

/-! ## Forwarding (R251, R266) -/

theorem lookupNat_insertKey {β : Type} (k : Nat) (v : β) (l : List (Nat × β)) : lookupNat k (insertKey k v l) = some v := by
  induction l with
  | nil => simp [insertKey, lookupNat]
  | cons e r ih =>
    unfold insertKey
    split
    · simp [lookupNat]
    · rename_i hlt
      split
      · simp [lookupNat]
      · rename_i hne
        rw [lookupNat, if_neg (fun h => hne h.symm), ih]

/-- A frame that is not the unit's own, after its sender has been heard. -/
def forwardFrame (f : HsrFrame) (s : State) : State :=
  let s := foreignOwn f (hearNode f s)
  let s := if f.forNode then hsrNote f.source f.hsrSeq f.nowMs f.inPort s else s
  if f.forward ∧ ringLink (otherSide f.inPort) s = .up then
    send (.forwarded (otherSide f.inPort) f.source f.hsrSeq (forwardedCorrection f s)) s
  else s

theorem ringFrameForward_of_other {s : State} (hopen : s.rng.relayOpen = true) {f : HsrFrame} (hother : f.own = false) :
    exec (.ringFrameForward f) s = .next (forwardFrame f s) := next_of_pos ⟨hopen, by simp [hother]⟩ _ _

theorem ringLink_hearNode (p : Side) (f : HsrFrame) (s : State) : ringLink p (hearNode f s) = ringLink p s := by
  cases p <;> rfl

theorem forwardFrame_on {f : HsrFrame} {s : State} (hnode : f.forNode = false) (hforward : f.forward = true) (hsource : f.source ≠ ringAddress s)
    (hlink : ringLink (otherSide f.inPort) s = .up) :
    forwardFrame f s = send (.forwarded (otherSide f.inPort) f.source f.hsrSeq (forwardedCorrection f (hearNode f s))) (hearNode f s) := by
  have hforeign : foreignOwn f (hearNode f s) = hearNode f s := if_neg hsource
  unfold forwardFrame
  rw [hforeign, hnode]
  exact if_pos ⟨hforward, (ringLink_hearNode ..).trans hlink⟩

/-- EV_063 for a frame from the unit's own address, whether it goes on or not (log 141). -/
theorem forwardFrame_own {f : HsrFrame} {s : State} (hsource : f.source = ringAddress s) :
    eventActive 63 (forwardFrame f s) = true ∧ (forwardFrame f s).rng.duplicate = some 0 ∧ (forwardFrame f s).um = s.um ∧
      (forwardFrame f s).ex = s.ex := by
  have hraised := raised_raise 63 { hearNode f s with rng := { (hearNode f s).rng with duplicate := some 0 } }
  have hforeign : foreignOwn f (hearNode f s) = raise 63 { hearNode f s with rng := { (hearNode f s).rng with duplicate := some 0 } } := if_pos hsource
  have hbefore : eventActive 63 (foreignOwn f (hearNode f s)) = true ∧ (foreignOwn f (hearNode f s)).rng.duplicate = some 0 ∧
      (foreignOwn f (hearNode f s)).um = s.um ∧ (foreignOwn f (hearNode f s)).ex = s.ex := by
    rw [hforeign]
    refine ⟨hraised.active, ?_⟩
    rw [hraised.eq]
    exact ⟨rfl, rfl, rfl⟩
  unfold forwardFrame
  generalize foreignOwn f (hearNode f s) = t at hbefore ⊢
  dsimp only
  split <;> split <;> exact hbefore

/-! ## Feedback (R279, R280) -/

theorem feedbackFrameRx_of_open {s : State} (hopen : s.rng.relayOpen = true) (rx : RingRx) (tick : Int) (fb : Feedback) :
    exec (.feedbackFrameRx rx tick fb) s = .next (takeCopy rx (feedbackValid rx fb s) (isSingle s) (countInvalid rx) (takeDriveFrame rx.port tick fb) s) :=
  next_of_pos hopen _ _

/-- The record of a feedback frame that is taken. -/
def feedbackRecord (port : Side) (tick : Int) (fb : Feedback) (s : State) : InRecord :=
  let u := unitDecl fb.unit s
  let stamp := arrivalStamp (ringPortNo port) tick s
  let v := validityOf stamp (feedbackTiming u s).1 (if fb.tag = 0 then none else some fb.tag) (!suspect u.source s)
  { origin := s.um.unit, holdover := holdoverAt v.1 s, tagged := v.2, source := u.source, seq := nextSeq u.source s, stamp, tov := v.1
    payload := feedbackBytes fb }

theorem takeDriveFrame_of_new {s : State} {fb : Feedback} (hforms : formsRecords s = true) (hnew : s.rng.fbSeq.getD fb.unit none ≠ some fb.fbSeq)
    (port : Side) (tick : Int) :
    takeDriveFrame port tick fb s = { s with
      rng := { s.rng with fbSeq := modAt s.rng.fbSeq fb.unit (fun _ => some fb.fbSeq) }
      ex := { s.ex with
        buffer := s.ex.buffer ++ [{ item := feedbackRecord port tick fb s }]
        seqs := insertKey (unitDecl fb.unit s).source ((nextSeq (unitDecl fb.unit s).source s + 1) % 2 ^ 32) s.ex.seqs } } := by
  unfold takeDriveFrame
  rw [if_neg hnew, if_pos hforms]
  exact if_pos hforms

theorem takeDriveFrame_of_repeat {s : State} {fb : Feedback} (hrepeat : s.rng.fbSeq.getD fb.unit none = some fb.fbSeq) (port : Side) (tick : Int) :
    takeDriveFrame port tick fb s = s := if_pos hrepeat

/-- Settles O23. -/
theorem ringFramesAreTakenAndForwarded : Obligations.RingFramesAreTakenAndForwarded := by
  intro s hopen
  refine ⟨fun rx f hvalid hunit => ?_, fun rx f hfcs => ?_, fun rx f hfcs hcrc hfirst => ?_, fun rx f hfcs hcrc hforeign hfirst => ?_,
    fun rx f hpair hvalid hunit hfirst => ?_, fun rx f hsingle hformed hfirst => ?_, fun f hown hnode hforward hsource hlink => ?_,
    fun f hown hsource => ?_, fun f hown => ?_, fun rx tick fb hvalid hdeclared hfirst hforms hlen hunit => ?_⟩
  · have hfcs := fcsOk_of_ringFormed (ringFormed_of_ringValid hvalid)
    have hgood : (ringValid 1 420 (partnerNet s).ring rx && f.unit != s.um.unit) = true := by simp [hvalid, hunit]
    refine ⟨fun hfirst => ?_, fun e hfirst => ?_⟩
    · have hexec := ringCommandFrameRx_of_open hopen rx f
      rw [hgood, takeCopy_of_first hfcs hfirst, if_pos rfl, activeSeen_eq] at hexec
      refine ⟨_, hexec, ?_⟩
      have hknown := copyKnown_first hfirst (isPair s)
      have hseen (hpair : isPair s = true) (hup : ringBothUp s = true) : (copyKnown rx (isPair s) s).rng.seen = true := by
        rw [hpair]
        exact (copyKnown_evidence rx hup).1
      obtain ⟨l, a, b, heq⟩ := copyKnown_eq rx (isPair s) s
      rw [Bool.true_and]
      rw [heq] at hknown hseen ⊢
      exact ⟨rfl, rfl, rfl, hknown, hseen⟩
    · have hexec := ringCommandFrameRx_of_open hopen rx f
      rw [hgood, takeCopy_of_second hfcs hfirst, Bool.true_and] at hexec
      refine ⟨_, hexec, ?_, fun hpair hup hport => ?_⟩
      · obtain ⟨l, a, b, heq⟩ := copyKnown_eq rx (isPair s) s
        rw [heq]
      · rw [hpair]
        exact (copyKnown_evidence rx hup).2 e hfirst hport
  · rw [ringCommandFrameRx_of_open hopen, takeCopy_of_badFcs hfcs, countInvalid_of_damaged (.inl hfcs)]
  · have hbad : (ringValid 1 420 (partnerNet s).ring rx && f.unit != s.um.unit) = false := by simp [ringValid, ringFormed, hcrc]
    obtain ⟨l, hl⟩ := copyKnown_silent rx s
    have hexec := ringCommandFrameRx_of_open hopen rx f
    rw [hbad, takeCopy_of_first hfcs hfirst, if_neg Bool.false_ne_true, Bool.false_and, countInvalid_of_damaged (.inr hcrc), hl] at hexec
    exact ⟨_, hexec, rfl⟩
  · have hbad : (ringValid 1 420 (partnerNet s).ring rx && f.unit != s.um.unit) = false := by
      simp only [ringValid, ringFormed, Bool.and_eq_false_iff, beq_eq_false_iff_ne]
      obtain h | h | h | h := hforeign <;> simp [h]
    obtain ⟨l, hl⟩ := copyKnown_silent rx s
    have hexec := ringCommandFrameRx_of_open hopen rx f
    rw [hbad, takeCopy_of_first hfcs hfirst, if_neg Bool.false_ne_true, Bool.false_and, countInvalid_of_foreign hfcs hcrc, hl] at hexec
    exact ⟨_, hexec, rfl⟩
  · have hgood : (ringValid 3 40 (partnerNet s).ring rx && f.unit != s.um.unit) = true := by simp [hvalid, hunit]
    have hexec := ringHeartbeatRx_of_pair hopen hpair rx f
    rw [hgood, takeCopy_of_first (fcsOk_of_ringFormed (ringFormed_of_ringValid hvalid)) hfirst, if_pos rfl] at hexec
    have hview := takeRingReport_view f (copyKnown rx (true && true) s)
    obtain ⟨l, a, b, heq⟩ := copyKnown_eq rx (true && true) s
    have hbefore : (copyKnown rx (true && true) s).um = s.um ∧ (copyKnown rx (true && true) s).ex = s.ex ∧
        fwDigest (copyKnown rx (true && true) s) = fwDigest s := by
      rw [heq]
      exact ⟨rfl, rfl, rfl⟩
    obtain ⟨hum, hex, hfw⟩ := hbefore
    refine ⟨_, hexec, takeRingReport_ringNow f _, congrArg PartnerView.heardAge hview, (congrArg PartnerView.um hview).trans hum,
      (congrArg PartnerView.ex hview).trans hex, ⟨_, congrArg PartnerView.heard hview, rfl, rfl, rfl, rfl, widenEpoch_mod _ _⟩, ?_⟩
    exact (congrArg PartnerView.firmware hview).trans (by rw [hfw])
  · have hexec := ringHeartbeatRx_of_single hopen hsingle rx f
    rw [hformed, takeCopy_of_first (fcsOk_of_ringFormed hformed) hfirst, if_pos rfl] at hexec
    refine ⟨_, _, hexec, ?_, raised_raise 15 _⟩
    obtain ⟨l, hl⟩ := copyKnown_silent rx s
    rw [Bool.and_false, hl]
  · have hup : ringLink (otherSide f.inPort) s = .up := by
      cases hport : f.inPort <;> simpa [hport, otherSide, ringLink] using hlink
    refine ⟨_, (ringFrameForward_of_other hopen hown).trans (congrArg Host.Outcome.next (forwardFrame_on hnode hforward hsource hup)), ?_, ?_, rfl⟩
    · refine congrArg (fun p => sentBy s (.forwarded p f.source f.hsrSeq (forwardedCorrection f (hearNode f s))) :: s.out)
        (?_ : otherSide f.inPort = _)
      cases f.inPort <;> rfl
    · exact lookupNat_insertKey _ _ _
  · exact ⟨_, ringFrameForward_of_other hopen hown, forwardFrame_own hsource⟩
  · exact next_of_neg (fun ⟨_, hnot⟩ => hnot hown) _ _
  · have hgood : feedbackValid rx fb s = true := by simp [feedbackValid, hdeclared, hvalid]
    have hfcs := fcsOk_of_ringFormed (ringFormed_of_ringValid hvalid)
    have hexec := feedbackFrameRx_of_open hopen rx tick fb
    rw [hgood, takeCopy_of_first hfcs hfirst, if_pos rfl, Bool.true_and] at hexec
    obtain ⟨l, a, b, heq⟩ := copyKnown_eq rx (isSingle s) s
    have hknown : formsRecords (copyKnown rx (isSingle s) s) = true ∧ (copyKnown rx (isSingle s) s).rng.fbSeq = s.rng.fbSeq := by
      rw [heq]
      exact ⟨hforms, rfl⟩
    have hget : s.rng.fbSeq.getD fb.unit none = some fb.fbSeq ↔ s.rng.fbSeq[fb.unit]? = some (some fb.fbSeq) := by
      rw [List.getD_eq_getElem?_getD, List.getElem?_eq_getElem (hlen ▸ hunit), Option.getD_some, Option.some_inj]
    refine ⟨fun hnew => ?_, fun hrepeat => ?_⟩
    · rw [takeDriveFrame_of_new hknown.1 (hknown.2 ▸ fun h => hnew (hget.mp h)), heq] at hexec
      refine ⟨_, _, hexec, rfl, ?_, rfl, rfl, ?_, rfl, rfl, rfl⟩
      · simp [modAt, List.getElem?_eq_getElem (hlen ▸ hunit)]
      · cases rx.port <;> rfl
    · rw [takeDriveFrame_of_repeat (hknown.2 ▸ hget.mpr hrepeat), heq] at hexec
      exact ⟨_, hexec, rfl⟩

end Sys2Proof.Machine
end

section
/-! The octets of frames, and what the unit sends in an epoch (R272, R275, R281, R310 to R312, R444). -/

namespace Sys2Proof.Machine

/-! ## Octets (R14) -/

@[simp] theorem length_beBytes (n v : Nat) : (beBytes n v).length = n := by
  induction n with
  | zero => rfl
  | succ n ih => rw [beBytes, List.length_cons, ih]

theorem beNat_cons (b : Byte) (l : List Byte) : beNat (b :: l) = b.toNat * 256 ^ l.length + beNat l := by
  have hfold (l : List Byte) (a : Nat) : l.foldl (fun a b => a * 256 + b.toNat) a = a * 256 ^ l.length + beNat l := by
    induction l generalizing a with
    | nil => simp [beNat]
    | cons b l ih =>
      rw [beNat, List.foldl_cons, List.foldl_cons, ih, ih, List.length_cons, Nat.pow_succ]
      ring
  rw [beNat, List.foldl_cons, hfold, Nat.zero_mul, Nat.zero_add]

theorem beNat_beBytes (n v : Nat) : beNat (beBytes n v) = v % 256 ^ n := by
  induction n with
  | zero => simp [beBytes, beNat, Nat.mod_one]
  | succ n ih =>
    have hmod : v % 256 ^ (n + 1) = v % 256 ^ n + 256 ^ n * (v / 256 ^ n % 256) := by rw [Nat.pow_succ 256 n, Nat.mod_mul]
    rw [beBytes, beNat_cons, length_beBytes, ih, BitVec.toNat_ofNat, hmod, Nat.add_comm, Nat.mul_comm]

/-- Octets of what stands before a later part. -/
theorem octets_append_left {l : List Byte} {o n : Nat} (h : o + n ≤ l.length) (r : List Byte) : octets (l ++ r) o n = octets l o n := by
  unfold octets
  rw [List.drop_append_of_le_length (by omega), List.take_append_of_le_length (by rw [List.length_drop]; omega)]

/-- Octets of what stands behind an earlier part. -/
theorem octets_append_right {l : List Byte} {o : Nat} (h : l.length ≤ o) (r : List Byte) (n : Nat) : octets (l ++ r) o n = octets r (o - l.length) n := by
  unfold octets
  rw [List.drop_append, List.drop_eq_nil_of_le h, List.nil_append]

theorem octets_beBytes (n v : Nat) : octets (beBytes n v) 0 n = v % 256 ^ n := by
  unfold octets
  rw [List.drop_zero, List.take_of_length_le (by rw [length_beBytes]), beNat_beBytes]

/-- A payload with its CRC: its length, the CRC of what precedes it, and what precedes it (R271). -/
theorem withCrc_spec {l : List Byte} {k : Nat} (h : l.length = k) :
    (withCrc l).length = k + 4 ∧ octets (withCrc l) k 4 = crc32c ((withCrc l).take k) % 2 ^ 32 ∧
      ∀ o n, o + n ≤ k → octets (withCrc l) o n = octets l o n := by
  subst h
  unfold withCrc
  refine ⟨by simp, ?_, fun o n hin => octets_append_left hin _⟩
  rw [octets_append_right (Nat.le_refl _), Nat.sub_self, octets_beBytes, List.take_left' rfl]
  rfl

/-! ## Heartbeats (R281, R312) -/

/-- The octets of the Tongs heartbeat before its CRC. -/
def heartbeatCovered (b : HeartbeatBody) (s : State) : List Byte :=
  beBytes 1 0x44 ++ beBytes 1 1 ++ beBytes 2 (16 + (heartbeatBytes b).length + 4) ++ beBytes 6 s.ex.epoch ++ beBytes 1 (unitCode s.um.unit) ++
    beBytes 1 (roleCode s.um.role) ++ beBytes 2 0 ++ beBytes 2 1 ++ heartbeatBytes b

theorem length_heartbeatBytes (b : HeartbeatBody) : (heartbeatBytes b).length = 76 := by simp [heartbeatBytes]

theorem length_heartbeatCovered (b : HeartbeatBody) (s : State) : (heartbeatCovered b s).length = 92 := by
  simp [heartbeatCovered, length_heartbeatBytes]

theorem payloadOf_heartbeat (b : HeartbeatBody) (s : State) : payloadOf (sentBy s (.heartbeat b)) = some (withCrc (heartbeatCovered b s)) := rfl

theorem unitCode_lt (u : UnitId) : unitCode u % 256 = unitCode u := by cases u <;> rfl
theorem roleCode_lt (r : Role) : roleCode r % 256 = roleCode r := by cases r <;> rfl
theorem modeCode_lt (m : Mode) : modeCode m % 256 = modeCode m := by cases m <;> rfl

theorem heartbeatCovered_octets (b : HeartbeatBody) (s : State) :
    octets (heartbeatCovered b s) 0 1 = 0x44 ∧ octets (heartbeatCovered b s) 1 1 = 1 ∧ octets (heartbeatCovered b s) 2 2 = 96 ∧
      octets (heartbeatCovered b s) 4 6 = s.ex.epoch % 2 ^ 48 ∧ octets (heartbeatCovered b s) 10 1 = unitCode s.um.unit ∧
      octets (heartbeatCovered b s) 11 1 = roleCode s.um.role ∧ octets (heartbeatCovered b s) 16 1 = modeCode b.mode ∧
      octets (heartbeatCovered b s) 20 8 = b.imageId % 2 ^ 64 ∧ octets (heartbeatCovered b s) 36 8 = b.txTick % 2 ^ 64 ∧
      octets (heartbeatCovered b s) 68 8 = b.copyStart % 2 ^ 64 := by
  unfold heartbeatCovered
  rw [length_heartbeatBytes]
  unfold heartbeatBytes
  refine ⟨?_, ?_, ?_, ?_, ?_, ?_, ?_, ?_, ?_, ?_⟩
  all_goals
    simp (disch := simp) only [octets_append_left, octets_append_right, List.length_append, length_beBytes, Nat.reduceAdd, Nat.sub_self,
      octets_beBytes, Nat.reducePow, Nat.reduceMod, unitCode_lt, roleCode_lt, modeCode_lt]

/-- The octets of the ring heartbeat before its CRC. -/
def ringHeartbeatCovered (f : RingHeartbeat) : List Byte :=
  beBytes 1 3 ++ beBytes 1 1 ++ beBytes 2 40 ++ beBytes 4 f.epoch ++ beBytes 1 (unitCode f.unit) ++ beBytes 1 (roleCode f.role) ++
    beBytes 1 (modeCode f.mode) ++ beBytes 1 (flag f.mirrored + 2 * flag f.single) ++ beBytes 1 f.holdCause ++ beBytes 3 0 ++
    beBytes 8 f.imageId ++ beBytes 8 f.fwDigest ++ beBytes 4 0

theorem payloadOf_ringHeartbeat (f : RingHeartbeat) (s : State) :
    payloadOf (sentBy s (.ringHeartbeat f)) = some (withCrc (ringHeartbeatCovered f)) := rfl

theorem length_ringHeartbeatCovered (f : RingHeartbeat) : (ringHeartbeatCovered f).length = 36 := by simp [ringHeartbeatCovered]

theorem ringHeartbeatCovered_octets (f : RingHeartbeat) :
    octets (ringHeartbeatCovered f) 0 1 = 3 ∧ octets (ringHeartbeatCovered f) 4 4 = f.epoch % 2 ^ 32 := by
  unfold ringHeartbeatCovered
  constructor
  all_goals
    simp (disch := simp) only [octets_append_left, octets_append_right, List.length_append, length_beBytes, Nat.reduceAdd, Nat.sub_self,
      octets_beBytes, Nat.reducePow, Nat.reduceMod]

/-! ## The exchange -/

/-- The ring heartbeat goes out while the relay is open. -/
def ringBeatSent (s : State) : State := if s.rng.relayOpen then sendRing (.ringHeartbeat (ringHeartbeat s)) s else s

/-- The Tongs heartbeat of a pair, whose tick the unit remembers (R315). -/
def tongsBeatSent (ticks : Nat) (s : State) : State :=
  { send (.heartbeat (heartbeatBody ticks s)) s with pair := { s.pair with txTicks := ((heartbeatBody ticks s).txTick :: s.pair.txTicks).take 2 } }

theorem heartbeatSend_of_ready {s : State} (hready : pastLoad s = true) (ticks : Nat) :
    exec (.heartbeatSend ticks) s = .next (ringBeatSent (if isPair s then tongsBeatSent ticks s else s)) := next_of_pos hready _ _

/-- Settles O24. -/
theorem exchangeMessagesAreSent : Obligations.ExchangeMessagesAreSent := by
  refine ⟨fun s => ⟨fun ticks hready hpair hopen => ?_, fun ticks hready hpair hclosed => ?_, fun ticks hready hpair hopen => ?_,
    fun hready hpair hepoch => ?_, fun hmirrored hforms hack => ?_, fun hopen => ?_⟩, fun b s => ?_, fun f s => ?_⟩
  · have hsent : ringBeatSent (tongsBeatSent ticks s) = sendRing (.ringHeartbeat (ringHeartbeat (tongsBeatSent ticks s))) (tongsBeatSent ticks s) :=
      if_pos hopen
    have hexec := heartbeatSend_of_ready hready ticks
    rw [if_pos hpair, hsent] at hexec
    exact ⟨_, hexec, rfl, rfl⟩
  · have hsilent : ringBeatSent (tongsBeatSent ticks s) = tongsBeatSent ticks s := if_neg (by simp [tongsBeatSent, send, hclosed])
    rw [heartbeatSend_of_ready hready, if_pos hpair, hsilent]
    rfl
  · have hsent : ringBeatSent s = sendRing (.ringHeartbeat (ringHeartbeat s)) s := if_pos hopen
    rw [heartbeatSend_of_ready hready, if_neg (by simp [hpair]), hsent]
    rfl
  · exact next_of_pos ⟨hpair, hready, hepoch⟩ _ _
  · exact next_of_pos (by simp [hmirrored, hforms, hack]) _ _
  · exact next_of_pos hopen _ _
  · obtain ⟨hlen, hcrc, hbefore⟩ := withCrc_spec (length_heartbeatCovered b s)
    obtain ⟨h0, h1, h2, h4, h10, h11, h16, h20, h36, h68⟩ := heartbeatCovered_octets b s
    exact ⟨_, payloadOf_heartbeat b s, hlen, (hbefore 0 1 (by decide)).trans h0, (hbefore 1 1 (by decide)).trans h1,
      (hbefore 2 2 (by decide)).trans h2, (hbefore 4 6 (by decide)).trans h4, (hbefore 10 1 (by decide)).trans h10,
      (hbefore 11 1 (by decide)).trans h11, (hbefore 16 1 (by decide)).trans h16, (hbefore 20 8 (by decide)).trans h20,
      (hbefore 36 8 (by decide)).trans h36, (hbefore 68 8 (by decide)).trans h68, hcrc, rfl⟩
  · obtain ⟨hlen, hcrc, hbefore⟩ := withCrc_spec (length_ringHeartbeatCovered f)
    obtain ⟨h0, h4⟩ := ringHeartbeatCovered_octets f
    exact ⟨_, payloadOf_ringHeartbeat f s, hlen, (hbefore 0 1 (by decide)).trans h0, (hbefore 4 4 (by decide)).trans h4, hcrc, rfl⟩

/-! ## The command frame (R272, R275) -/

/-- The octets of a command frame before its CRC. -/
def commandCovered (f : CommandFrame) : List Byte :=
  beBytes 1 1 ++ beBytes 1 1 ++ beBytes 2 420 ++ beBytes 4 f.epoch ++ beBytes 1 (unitCode f.unit) ++ beBytes 1 (roleCode f.role) ++
    beBytes 1 (flag f.authority + 2 * flag f.single + 4 * flag f.notMirrored) ++ beBytes 1 ((f.func.map funcCode).getD 0) ++
    beBytes 2 f.seq ++ beBytes 2 0 ++ beBytes 8 f.imageId ++ beBytes 8 f.digest ++ (mapAt f.setPoints setPointBytes).flatten

theorem payloadOf_command (f : CommandFrame) (s : State) : payloadOf (sentBy s (.command f)) = some (withCrc (commandCovered f)) := rfl

theorem length_setPointBytes (j : Nat) (p : SetPoint) : (setPointBytes j p).length = 24 := by simp [setPointBytes]

/-- Every set-point record has 24 octets (R274). -/
theorem length_flatten_setPoints (l : List SetPoint) : (mapAt l setPointBytes).flatten.length = 24 * l.length := by
  have hall : (mapAt l setPointBytes).map List.length = List.replicate l.length 24 := by
    refine List.eq_replicate_iff.mpr ⟨by simp [mapAt], fun n hn => ?_⟩
    obtain ⟨x, hx, rfl⟩ := List.mem_map.mp hn
    obtain ⟨i, hi, rfl⟩ := List.mem_mapIdx.mp hx
    exact length_setPointBytes i _
  rw [List.length_flatten, hall, List.sum_replicate, smul_eq_mul, Nat.mul_comm]

theorem length_commandCovered {f : CommandFrame} (h : f.setPoints.length = 16) : (commandCovered f).length = 416 := by
  unfold commandCovered
  rw [List.length_append, length_flatten_setPoints, h]
  simp

theorem commandCovered_octets (f : CommandFrame) :
    octets (commandCovered f) 0 1 = 1 ∧ octets (commandCovered f) 4 4 = f.epoch % 2 ^ 32 := by
  unfold commandCovered
  constructor
  all_goals
    simp (disch := simp) only [octets_append_left, octets_append_right, List.length_append, length_beBytes, Nat.reduceAdd, Nat.sub_self,
      octets_beBytes, Nat.reducePow, Nat.reduceMod]

theorem length_setPoints (s : State) : (setPoints s).length = 16 := by simp [setPoints]

/-- The command frame of the epoch has gone out. -/
def commandEmitted (start : Nat) (s : State) : State :=
  let s := sendRing (.command (commandFrame { s with ex := { s.ex with emitted := true } })) { s with ex := { s.ex with emitted := true } }
  if 352000 < start then { s with rng := { s.rng with late := bump 16 s.rng.late } } else s

theorem commandEmitted_eq (start : Nat) (s : State) :
    commandEmitted start s = { s with
      out := sentBy s (.command (commandFrame s)) :: s.out, ex := { s.ex with emitted := true }
      rng := { s.rng with hsrSeq := (s.rng.hsrSeq + 1) % 65536
                          late := if 352000 < start then min (s.rng.late + 1) 65535 else s.rng.late } } := by
  unfold commandEmitted
  dsimp only
  split <;> rfl

theorem emitting_iff (s : State) :
    emitting s = true ↔ emitMode s.um.mode = true ∧ s.ex.emit = true ∧ s.ex.stopped = false ∧ s.rng.relayOpen = true := by
  simp [emitting, and_assoc]

/-- Settles O25. -/
theorem commandFrameGoesOutOnce : Obligations.CommandFrameGoesOutOnce := by
  refine fun start s => ⟨fun hmode hemit hfresh hstopped hopen => ?_, fun hnot => ?_⟩
  · have hready : (emitting s && !s.ex.emitted) = true := by simp [(emitting_iff s).mpr ⟨hmode, hemit, hstopped, hopen⟩, hfresh]
    have hexec : exec (.commandFrameEmit start) s = .next (commandEmitted start s) := next_of_pos hready _ _
    rw [commandEmitted_eq] at hexec
    obtain ⟨hlen, hcrc, hbefore⟩ := withCrc_spec (length_commandCovered (f := commandFrame s) (length_setPoints s))
    obtain ⟨h0, h4⟩ := commandCovered_octets (commandFrame s)
    refine ⟨_, hexec, ⟨commandFrame s, _, rfl, rfl, rfl, rfl, rfl, rfl, rfl, rfl, rfl, payloadOf_command _ s, hlen, (hbefore 0 1 (by decide)).trans h0,
      (hbefore 4 4 (by decide)).trans (h4.trans (Nat.mod_mod _ _)), hcrc, rfl⟩, rfl, next_of_neg ?_ _ _⟩
    simp
  · refine next_of_neg (fun hready => ?_) _ _
    obtain ⟨hmode, hemit, hstopped, -⟩ := (emitting_iff s).mp (Bool.and_eq_true _ _ ▸ hready).1
    obtain h | h | h := hnot
    · simp [h] at hemit
    · simp [h] at hstopped
    · simp [h] at hmode

end Sys2Proof.Machine
end

section
/-! CAN buses: their error counters, bus-off and recovery (R300 to R302). -/

namespace Sys2Proof.Machine

/-! ## Changes of one bus -/

/-- The two states differ in their CAN buses and their event state at most. -/
structure BusesOnly (s t : State) : Prop where
  eq : t = withEvents { s with fld := { s.fld with buses := t.fld.buses } } t

namespace BusesOnly

theorem of_events {s t : State} (h : EventsOnly s t) : BusesOnly s t where
  eq := by
    have hfld : t.fld = s.fld := (congrArg State.fld h.eq).trans rfl
    rw [hfld]
    exact h.eq

theorem refl (s : State) : BusesOnly s s := ⟨rfl⟩

theorem modBus (b : Nat) (f : CanBus → CanBus) (s : State) : BusesOnly s (modBus b f s) := by
  unfold Machine.modBus
  split
  · exact refl s
  · exact ⟨rfl⟩

theorem trans {s t u : State} (hst : BusesOnly s t) (htu : BusesOnly t u) : BusesOnly s u where
  eq := by
    have hfld : t.fld = { s.fld with buses := t.fld.buses } := (congrArg State.fld hst.eq).trans rfl
    calc u = withEvents { t with fld := { t.fld with buses := u.fld.buses } } u := htu.eq
      _ = withEvents { withEvents { s with fld := { s.fld with buses := t.fld.buses } } t with fld := { t.fld with buses := u.fld.buses } } u :=
        congrArg (fun x : State => withEvents { x with fld := { t.fld with buses := u.fld.buses } } u) hst.eq
      _ = withEvents { s with fld := { t.fld with buses := u.fld.buses } } u := rfl
      _ = withEvents { s with fld := { s.fld with buses := u.fld.buses } } u := by rw [hfld]

end BusesOnly

theorem busState_of_events {s t : State} (h : EventsOnly s t) (k : Nat) : busState k t = busState k s :=
  (congrArg (busState k) h.eq).trans rfl

theorem busState_modBus_same {b : Nat} {s : State} (hb : 1 ≤ b) (hlen : b ≤ s.fld.buses.length) (f : CanBus → CanBus) :
    busState b (modBus b f s) = f (busState b s) := by
  have hin : b - 1 < s.fld.buses.length := by omega
  simp [busState, modBus, modAt, Nat.ne_of_gt hb, List.getD_eq_getElem?_getD, List.getElem?_eq_getElem hin]

theorem busState_modBus_other {b k : Nat} (hk : 1 ≤ k) (hne : k ≠ b) (f : CanBus → CanBus) (s : State) :
    busState k (modBus b f s) = busState k s := by
  unfold modBus
  split
  · rfl
  · have hother : b - 1 ≠ k - 1 := by omega
    simp [busState, modAt, List.getD_eq_getElem?_getD, hother]

theorem length_modBus (b : Nat) (f : CanBus → CanBus) (s : State) : (modBus b f s).fld.buses.length = s.fld.buses.length := by
  unfold modBus
  split
  · rfl
  · simp [modAt]

/-! ## Their events -/

theorem EventsOnly.conditionAt (e i : Nat) (on : Bool) (s : State) : EventsOnly s (conditionAt e i on s) := by
  cases on
  · exact EventsOnly.clearEvent e s
  · exact EventsOnly.raiseAt e i s

theorem EventsOnly.busEvents (b : Nat) (s : State) : EventsOnly s (busEvents b s) :=
  ((EventsOnly.conditionAt 48 b _ s).trans (EventsOnly.conditionAt 49 b _ _)).trans (EventsOnly.conditionAt 51 b _ _)

theorem eventActive_conditionAt (k e i : Nat) (on : Bool) (s : State) :
    eventActive k (conditionAt e i on s) = if k = e then on else eventActive k s := by
  by_cases h : k = e
  · subst h
    cases on <;> simp [conditionAt]
  · cases on <;> simp [conditionAt, h]

/-- EV_049 and EV_051 stand while some bus is error passive or held off; EV_048 follows the thresholds. -/
theorem busEvents_active (b : Nat) (s : State) :
    (eventActive 48 (busEvents b s) = (List.range 8).any fun i =>
        decide ((busState (i + 1) s).state ≤ 2) && decide ((warnOf (i + 1) s).1 ≤ (busState (i + 1) s).txErr ∨ (warnOf (i + 1) s).2 ≤ (busState (i + 1) s).rxErr)) ∧
      (eventActive 49 (busEvents b s) = s.fld.buses.any fun c => c.state == 2) ∧
      (eventActive 51 (busEvents b s) = s.fld.buses.any fun c => c.state == 4) := by
  simp [busEvents, eventActive_conditionAt]

/-- Other events stay as they are. -/
theorem busEvents_others {e : Nat} (h : e ≠ 48 ∧ e ≠ 49 ∧ e ≠ 51) (b : Nat) (s : State) : eventActive e (busEvents b s) = eventActive e s := by
  simp [busEvents, eventActive_conditionAt, h]

theorem busState_mem {b : Nat} {s : State} (hb : 1 ≤ b) (hlen : b ≤ s.fld.buses.length) : busState b s ∈ s.fld.buses := by
  have hin : b - 1 < s.fld.buses.length := by omega
  rw [busState, List.getD_eq_getElem?_getD, List.getElem?_eq_getElem hin]
  exact List.getElem_mem hin

/-- A bus of the list that is held off, or error passive. -/
theorem any_bus {b : Nat} {s : State} (hb : 1 ≤ b) (hlen : b ≤ s.fld.buses.length) {n : Nat} (h : (busState b s).state = n) :
    (s.fld.buses.any fun c => c.state == n) = true :=
  List.any_eq_true.mpr ⟨_, busState_mem hb hlen, by simp [h]⟩

/-! ## Counters (R300) -/

theorem busUsed_range {b : Nat} {s : State} (h : busUsed b s = true) : 1 ≤ b ∧ b ≤ 8 ∧ (busState b s).state ≠ 5 := by
  simpa [busUsed, and_assoc] using h

theorem busOpen_iff (b : Nat) (s : State) : busOpen b s = true ↔ busUsed b s = true ∧ busOff b s = false := by
  simp [busOpen]

theorem setCounters_of_closed {b : Nat} {s : State} (h : busOpen b s = false) (tec rec : Nat) : setCounters b tec rec s = s := by
  rw [setCounters, if_neg (by simp [h])]

theorem counterState_le (w : Nat × Nat) (tec rec : Nat) : counterState w tec rec ≤ 2 := by
  unfold counterState
  split
  · exact Nat.le_refl _
  · split <;> decide

/-- What the counters of a bus in use that is not off leave of it. -/
def busCounted (w : Nat × Nat) (tec rec : Nat) (c : CanBus) : CanBus :=
  { c with txErr := min tec 255, rxErr := min rec 255, state := counterState w (min tec 255) (min rec 255) }

section
variable {b : Nat} {s : State} (hlen : s.fld.buses.length = 8) (hopen : busOpen b s = true) (tec rec : Nat)
include hopen

theorem setCounters_of_open : setCounters b tec rec s = busEvents b (modBus b (busCounted (warnOf b s) tec rec) s) := if_pos hopen

theorem setCounters_only : BusesOnly s (setCounters b tec rec s) := by
  rw [setCounters_of_open hopen]
  exact (BusesOnly.modBus b _ s).trans (.of_events (EventsOnly.busEvents b _))

theorem setCounters_other {k : Nat} (hk : 1 ≤ k) (hne : k ≠ b) : busState k (setCounters b tec rec s) = busState k s := by
  rw [setCounters_of_open hopen, busState_of_events (EventsOnly.busEvents b _), busState_modBus_other hk hne]

include hlen

theorem setCounters_bus : busState b (setCounters b tec rec s) = busCounted (warnOf b s) tec rec (busState b s) := by
  obtain ⟨hused, -⟩ := (busOpen_iff b s).mp hopen
  obtain ⟨hb, hb8, -⟩ := busUsed_range hused
  rw [setCounters_of_open hopen, busState_of_events (EventsOnly.busEvents b _), busState_modBus_same hb (hlen ▸ hb8)]

theorem setCounters_warns (h : (warnOf b s).1 ≤ min tec 255 ∨ (warnOf b s).2 ≤ min rec 255) : eventActive 48 (setCounters b tec rec s) = true := by
  obtain ⟨hused, -⟩ := (busOpen_iff b s).mp hopen
  obtain ⟨hb, hb8, -⟩ := busUsed_range hused
  have hbus := busState_modBus_same hb (hlen ▸ hb8) (busCounted (warnOf b s) tec rec)
  have hwarn (u : List CanBus) : warnOf b { s with fld := { s.fld with buses := u } } = warnOf b s := rfl
  have hsame : warnOf b (modBus b (busCounted (warnOf b s) tec rec) s) = warnOf b s := by
    rw [modBus, if_neg (Nat.ne_of_gt hb), hwarn]
  rw [setCounters_of_open hopen, (busEvents_active b _).1, List.any_eq_true]
  refine ⟨b - 1, List.mem_range.mpr (by omega), ?_⟩
  rw [Nat.sub_add_cancel hb, hbus, hsame]
  simp only [busCounted, Bool.and_eq_true]
  exact ⟨decide_eq_true (counterState_le _ _ _), decide_eq_true h⟩

theorem setCounters_passive (h : 128 ≤ min tec 255 ∨ 128 ≤ min rec 255) : eventActive 49 (setCounters b tec rec s) = true := by
  obtain ⟨hused, -⟩ := (busOpen_iff b s).mp hopen
  obtain ⟨hb, hb8, -⟩ := busUsed_range hused
  rw [setCounters_of_open hopen, (busEvents_active b _).2.1]
  refine any_bus (b := b) hb (by rw [length_modBus, hlen]; exact hb8) ?_
  rw [busState_modBus_same hb (hlen ▸ hb8)]
  exact if_pos h

end

/-! ## Bus-off and recovery (R301, R302) -/

theorem pairedBus_range {b : Nat} (hb : 1 ≤ b) (hb8 : b ≤ 8) : 1 ≤ pairedBus b ∧ pairedBus b ≤ 8 ∧ pairedBus b ≠ b := by
  unfold pairedBus
  split <;> omega

/-- What n withdrawn messages leave of their bus. -/
def busWithdrawn (n : Nat) (c : CanBus) : CanBus := { c with withdrawn := if n = 0 then c.withdrawn else min 255 (c.withdrawn + n) }

theorem EventsOnly.withdrawn (b n : Nat) (s : State) : EventsOnly (modBus b (busWithdrawn n) s) (withdraw b n s) := by
  unfold withdraw
  split
  · next h =>
    subst h
    have hid : modBus b (busWithdrawn 0) s = s := by
      unfold modBus
      split
      · rfl
      · exact congrArg (fun l => { s with fld := { s.fld with buses := l } }) (List.modify_id (b - 1) _)
    rw [hid]
    exact EventsOnly.refl s
  · next h =>
    have hf : busWithdrawn n = fun c => { c with withdrawn := min 255 (c.withdrawn + n) } := funext fun c => by simp [busWithdrawn, h]
    rw [hf]
    exact EventsOnly.raiseAt 52 b _

theorem withdraw_active {e : Nat} (h : e ≠ 52) (b n : Nat) (s : State) : eventActive e (withdraw b n s) = eventActive e s := by
  have hbus (f : CanBus → CanBus) : eventActive e (modBus b f s) = eventActive e s := by
    unfold modBus
    split <;> rfl
  unfold withdraw
  split
  · rfl
  · rw [eventActive_raiseAt, hbus]
    simp [h]

/-- What a bus-off leaves of its bus before the withdrawal: `recent` holds the recoveries of the last 120 000 epochs, and `handed` says whether a
message moves on. -/
def busGoneOff (recent : List Nat) (handed : Bool) (c : CanBus) : CanBus :=
  let begins := decide (recent.length < 3)
  { c with
    state := if begins then 3 else 4, txErr := 255, busOffs := bump 8 c.busOffs, begun := begins
    recoveries := if begins then recent ++ [0] else recent
    moved := if handed then bump 8 c.moved else c.moved
    queue := c.queue.filter (·.dual) }

/-- The message that moves to bus p enters its queue. -/
def moveOn (p : Nat) (m : Option Queued) (s : State) : State :=
  match m with
  | some q => modBus p (fun c => { c with queue := c.queue ++ [q] }) s
  | none => s

theorem BusesOnly.moveOn (p : Nat) (m : Option Queued) (s : State) : BusesOnly s (moveOn p m s) := by
  cases m with
  | none => exact BusesOnly.refl s
  | some q => exact BusesOnly.modBus p _ s

theorem busState_moveOn_other {p k : Nat} (hk : 1 ≤ k) (hne : k ≠ p) (m : Option Queued) (s : State) :
    busState k (moveOn p m s) = busState k s := by
  cases m with
  | none => rfl
  | some q => exact busState_modBus_other hk hne _ s

theorem length_moveOn (p : Nat) (m : Option Queued) (s : State) : (moveOn p m s).fld.buses.length = s.fld.buses.length := by
  cases m with
  | none => rfl
  | some q => exact length_modBus p _ s

section
variable (b : Nat) (s : State)

/-- Epochs since each automatic recovery begun in the last 120 000 epochs. -/
def recentRecoveries : List Nat := (busState b s).recoveries.filter (· < 120000)

/-- The single message of highest priority, where the paired bus can take it. -/
def handedOn : Option Queued :=
  if busOpen (pairedBus b) s then topMessage ((busState b s).queue.filter fun m => !m.dual) else none

/-- The bus off, its message handed on, before the rest is withdrawn. -/
def goneOff : State :=
  moveOn (pairedBus b) (handedOn b s) (modBus b (busGoneOff (recentRecoveries b s) (handedOn b s).isSome) s)

/-- How many single messages are withdrawn. -/
def notHandedOn : Nat := ((busState b s).queue.filter fun m => !m.dual).length - (if (handedOn b s).isSome then 1 else 0)

end

theorem execCanBusOff_eq {b : Nat} {s : State} (h : busOpen b s = true) :
    execCanBusOff b s = .next (busEvents b (withdraw b (notHandedOn b s) (raiseAt 50 b (goneOff b s)))) := by
  rw [execCanBusOff, if_pos h]
  rcases htop : topMessage ((busState b s).queue.filter fun m => !m.dual) with _ | m <;> rcases hp : busOpen (pairedBus b) s with _ | _ <;>
    simp only [goneOff, handedOn, notHandedOn, htop, hp, Bool.false_eq_true, if_true, if_false] <;> rfl

theorem length_goneOff (b : Nat) (s : State) : (raiseAt 50 b (goneOff b s)).fld.buses.length = s.fld.buses.length := by
  rw [(EventsOnly.raiseAt 50 b (goneOff b s)).eq]
  exact (length_moveOn (pairedBus b) (handedOn b s) _).trans (length_modBus b _ s)

section
variable {b : Nat} {s : State}

theorem goneOff_only : BusesOnly s (busEvents b (withdraw b (notHandedOn b s) (raiseAt 50 b (goneOff b s)))) :=
  ((((BusesOnly.modBus b _ s).trans (.moveOn _ _ _)).trans (.of_events (.raiseAt 50 b _))).trans
    ((BusesOnly.modBus b _ _).trans (.of_events (.withdrawn b _ _)))).trans (.of_events (.busEvents b _))

theorem goneOff_other {k : Nat} (hk : 1 ≤ k) (hne : k ≠ b) :
    busState k (busEvents b (withdraw b (notHandedOn b s) (raiseAt 50 b (goneOff b s)))) = busState k (goneOff b s) := by
  rw [busState_of_events (.busEvents b _), busState_of_events (.withdrawn b _ _), busState_modBus_other hk hne,
    busState_of_events (.raiseAt 50 b _)]

variable (hlen : s.fld.buses.length = 8) (hb : 1 ≤ b) (hb8 : b ≤ 8)
include hlen hb hb8

theorem goneOff_bus : busState b (busEvents b (withdraw b (notHandedOn b s) (raiseAt 50 b (goneOff b s)))) =
    busWithdrawn (notHandedOn b s) (busGoneOff (recentRecoveries b s) (handedOn b s).isSome (busState b s)) := by
  have hlen' : b ≤ (raiseAt 50 b (goneOff b s)).fld.buses.length := by rw [length_goneOff, hlen]; exact hb8
  obtain ⟨-, -, hne⟩ := pairedBus_range hb hb8
  rw [busState_of_events (.busEvents b _), busState_of_events (.withdrawn b _ _), busState_modBus_same hb hlen',
    busState_of_events (.raiseAt 50 b _), goneOff, busState_moveOn_other hb hne.symm, busState_modBus_same hb (hlen ▸ hb8)]

theorem goneOff_paired : busState (pairedBus b) (goneOff b s) =
    match handedOn b s with
    | some m => { busState (pairedBus b) s with queue := (busState (pairedBus b) s).queue ++ [m] }
    | none => busState (pairedBus b) s := by
  obtain ⟨hp, hp8, hne⟩ := pairedBus_range hb hb8
  unfold goneOff moveOn
  cases handedOn b s with
  | none => exact busState_modBus_other hp hne _ s
  | some m =>
    rw [busState_modBus_same hp (by rw [length_modBus, hlen]; exact hp8), busState_modBus_other hp hne]

theorem goneOff_held (h : ¬ (recentRecoveries b s).length < 3) :
    eventActive 51 (busEvents b (withdraw b (notHandedOn b s) (raiseAt 50 b (goneOff b s)))) = true := by
  have hbus := goneOff_bus hlen hb hb8
  rw [busState_of_events (.busEvents b _)] at hbus
  rw [(busEvents_active b _).2.2]
  refine any_bus (b := b) hb ?_ ?_
  · rw [(EventsOnly.withdrawn b _ _).eq]
    exact le_of_le_of_eq (hlen ▸ hb8) ((length_modBus b _ _).trans (length_goneOff b s)).symm
  · rw [hbus]
    exact if_neg (by simpa using h)

end

theorem recovered_only (b : Nat) (f : CanBus → CanBus) (s : State) : BusesOnly s (busEvents b (modBus b f s)) :=
  (BusesOnly.modBus b f s).trans (.of_events (.busEvents b _))

section
variable {b : Nat} {s : State} (hb : 1 ≤ b) (hlen : b ≤ s.fld.buses.length) (f : CanBus → CanBus)

theorem recovered_other {k : Nat} (hk : 1 ≤ k) (hne : k ≠ b) : busState k (busEvents b (modBus b f s)) = busState k s := by
  rw [busState_of_events (.busEvents b _), busState_modBus_other hk hne]

include hb hlen

theorem recovered_bus : busState b (busEvents b (modBus b f s)) = f (busState b s) := by
  rw [busState_of_events (.busEvents b _), busState_modBus_same hb hlen]

theorem recovered_held (h : (f (busState b s)).state = 4) : eventActive 51 (busEvents b (modBus b f s)) = true := by
  rw [(busEvents_active b _).2.2]
  refine any_bus hb (by rw [length_modBus]; exact hlen) ?_
  rw [busState_modBus_same hb hlen, h]

end

/-! ## The statement -/

/-- Settles O26: the counters (R300), bus-off (R301) and the recovery (R302), each by what its command leaves of its bus. -/
theorem canBusesFollowTheirCounters : Obligations.CanBusesFollowTheirCounters := by
  intro b s hlen hused
  obtain ⟨hb, hb8, -⟩ := busUsed_range hused
  have hopen (h : busOff b s = false) : busOpen b s = true := (busOpen_iff b s).mpr ⟨hused, h⟩
  have hclosed (h : busOff b s = true) : busOpen b s = false := by simp [busOpen, h]
  refine ⟨fun tec rec htec hrec => ?_, fun hon => ?_, fun hoff => ?_, fun h3 hbegun => ?_, fun h3 hbegun => ?_, fun h3 => ?_⟩
  · have hmin : min tec 255 = tec ∧ min rec 255 = rec := by omega
    have hcounted (hon : busOff b s = false) :
        busState b (setCounters b tec rec s) = busCounted (warnOf b s) tec rec (busState b s) ∧
          ((warnOf b s).1 ≤ tec ∨ (warnOf b s).2 ≤ rec → eventActive 48 (setCounters b tec rec s) = true) ∧
          (128 ≤ tec ∨ 128 ≤ rec → eventActive 49 (setCounters b tec rec s) = true) ∧
          (∀ k, 1 ≤ k → k ≠ b → busState k (setCounters b tec rec s) = busState k s) ∧ BusesOnly s (setCounters b tec rec s) :=
      ⟨setCounters_bus hlen (hopen hon) tec rec, fun h => setCounters_warns hlen (hopen hon) tec rec (by rwa [hmin.1, hmin.2]),
        fun h => setCounters_passive hlen (hopen hon) tec rec (by rwa [hmin.1, hmin.2]),
        fun k hk hne => setCounters_other (hopen hon) tec rec hk hne, setCounters_only (hopen hon) tec rec⟩
    have hbus : busCounted (warnOf b s) tec rec (busState b s) = { busState b s with
        state := counterState (warnOf b s) tec rec, txErr := tec, rxErr := rec } := by
      rw [busCounted, hmin.1, hmin.2]
    refine ⟨fun hon => ?_, fun hon hpassive => ?_, fun ht hr => ?_, fun hoff => ⟨?_, ?_⟩⟩
    · obtain ⟨hc, h48, h49, hk, honly⟩ := hcounted hon
      exact ⟨_, rfl, hc.trans hbus, h48, h49, hk, honly.eq⟩
    · obtain ⟨hc, h48, h49, hk, honly⟩ := hcounted hon
      exact ⟨_, next_of_pos hpassive _ _, hc.trans hbus, h48, h49, hk, honly.eq⟩
    · exact next_of_neg (by omega) _ _
    · exact congrArg Host.Outcome.next (setCounters_of_closed (hclosed hoff) tec rec)
    · have hsame := setCounters_of_closed (hclosed hoff) tec rec
      exact congrArg Host.Outcome.next ((congrArg (ite (128 ≤ tec ∨ 128 ≤ rec) · s) hsame).trans (ite_self s))
  · obtain ⟨hp, hp8, hne⟩ := pairedBus_range hb hb8
    have hbus := goneOff_bus (s := s) hlen hb hb8
    have hpaired := (goneOff_other (b := b) (s := s) hp hne).trans (goneOff_paired hlen hb hb8)
    refine ⟨_, execCanBusOff_eq (hopen hon), by rw [hbus]; rfl, by rw [hbus]; rfl, by rw [hbus]; rfl, by rw [hbus]; rfl,
      by rw [hbus]; rfl, ?_, fun h => goneOff_held hlen hb hb8 (of_decide_eq_false h), fun m htop hpo => ⟨?_, ?_⟩, fun hnone => ?_, fun k hk hkb hkp => ?_, goneOff_only.eq⟩
    · rw [busEvents_others (by decide), withdraw_active (by decide)]
      simp
    · have hm : handedOn b s = some m := (if_pos hpo).trans htop
      rw [hpaired, hm]
    · have hm : handedOn b s = some m := (if_pos hpo).trans htop
      rw [hbus, hm]
      rfl
    · have hm : handedOn b s = none := by
        rcases hnone with htop | hpo
        · unfold handedOn
          split
          · exact htop
          · rfl
        · exact if_neg (by simp [hpo])
      rw [hpaired, hm]
    · rw [goneOff_other hk hkb, goneOff, busState_moveOn_other hk hkp, busState_modBus_other hk hkb]
  · exact next_of_neg (by simp [hclosed hoff]) _ _
  · refine ⟨_, (next_of_pos (by simp [hused, h3]) _ _).trans (congrArg _ (if_pos hbegun)), recovered_bus hb (hlen ▸ hb8) _,
      fun k hk hne => recovered_other _ hk hne, (recovered_only b _ s).eq⟩
  · refine ⟨_, (next_of_pos (by simp [hused, h3]) _ _).trans (congrArg _ (if_neg (by simp [hbegun]))), recovered_bus hb (hlen ▸ hb8) _,
      recovered_held hb (hlen ▸ hb8) _ rfl, fun k hk hne => recovered_other _ hk hne, (recovered_only b _ s).eq⟩
  · exact next_of_neg (by simp [h3]) _ _

end Sys2Proof.Machine
end

section
/-! Messages on CAN: release, withdrawal, transmission and receipt (R289 to R296). -/

namespace Sys2Proof.Machine

/-! ## Release (R295) -/

theorem bump_eight (n : Nat) : bump 8 n = min (n + 1) 255 := rfl

/-- The entry of message m in a queue. -/
def queuedEntry (m off : Nat) (dual : Bool) (s : State) : Queued := ⟨m, identOf m s, canPayload m s, s.ex.epoch, off, dual⟩

theorem canPayload_buses (m : Nat) (l : FieldLocal) (s : State) : canPayload m { s with fld := l } = canPayload m s := rfl

theorem queuedEntry_fld (m off : Nat) (dual : Bool) (l : FieldLocal) (s : State) :
    queuedEntry m off dual { s with fld := l } = queuedEntry m off dual s := by
  unfold queuedEntry
  rw [canPayload_buses]
  rfl

theorem queuedEntry_modBus (m off : Nat) (dual : Bool) (b : Nat) (f : CanBus → CanBus) (s : State) :
    queuedEntry m off dual (modBus b f s) = queuedEntry m off dual s := by
  unfold modBus
  split
  · rfl
  · exact queuedEntry_fld m off dual _ s

/-- An entry joins the queue of its bus. -/
def busQueued (q : Queued) (c : CanBus) : CanBus := { c with queue := c.queue ++ [q] }

theorem queueOn_of_used {b : Nat} {s : State} (h : busUsed b s = true) (m off : Nat) (dual : Bool) :
    queueOn b m off dual s = modBus b (busQueued (queuedEntry m off dual s)) s := if_pos h

theorem busUsed_modBus_other {b k : Nat} (hk : 1 ≤ k) (hne : k ≠ b) (f : CanBus → CanBus) (s : State) : busUsed k (modBus b f s) = busUsed k s := by
  rw [busUsed, busState_modBus_other hk hne, busUsed]

/-- The release of the one message that is due at its offset. -/
theorem execCanRelease_of_one {s : State} {m off : Nat} (hemit : emitting s = true) (hrole : s.um.role ≠ .none) (h : s.fld.releases = [(m, off)]) :
    execCanRelease off s = .next (releaseMessage m off { s with fld := { s.fld with releases := [] } }) := by
  rw [execCanRelease, if_pos (by simp [hemit, hrole]), h]
  simp

section
variable {s : State} {m off : Nat} {d : CanMessage} (hdecl : s.cfg.image.messages.getD m {} = d)
include hdecl

theorem identOf_decl : identOf m s = if s.um.unit = .a then d.identA else d.identB := by rw [identOf, hdecl]

theorem releaseMessage_of_unused (hused : busUsed d.primary s = false) : releaseMessage m off s = s := by
  rw [releaseMessage, hdecl, if_pos (by simp [hused])]

variable (hused : busUsed d.primary s = true)
include hused

theorem releaseMessage_of_closed (hp : busOpen d.primary s = false) (hq : busOpen (pairedBus d.primary) s = false) :
    releaseMessage m off s = withdraw d.primary 1 s := by
  rw [releaseMessage, hdecl, if_neg (by simp [hused]), if_pos (by simp [hp, hq])]

theorem releaseMessage_of_single (hdual : d.dual = false) (hp : busOpen d.primary s = true) :
    releaseMessage m off s = modBus d.primary (busQueued (queuedEntry m off false s)) s := by
  rw [releaseMessage, hdecl, if_neg (by simp [hused]), if_neg (by simp [hp]), if_neg (by simp [hdual]), if_pos hp, queueOn_of_used hused]

theorem releaseMessage_of_paired (hdual : d.dual = false) (hp : busOpen d.primary s = false) (hq : busOpen (pairedBus d.primary) s = true) :
    releaseMessage m off s = modBus (pairedBus d.primary) (busQueued (queuedEntry m off false s)) s := by
  rw [releaseMessage, hdecl, if_neg (by simp [hused]), if_neg (by simp [hq]), if_neg (by simp [hdual]), if_neg (by simp [hp]),
    queueOn_of_used ((busOpen_iff _ s).mp hq).1]

theorem releaseMessage_of_dual (hdual : d.dual = true) (hopen : busOpen d.primary s = true ∨ busOpen (pairedBus d.primary) s = true)
    (hother : busUsed (pairedBus d.primary) s = true) :
    releaseMessage m off s = modBus (pairedBus d.primary) (busQueued (queuedEntry m off true s))
      (modBus d.primary (busQueued (queuedEntry m off true s)) s) := by
  obtain ⟨hb, hb8, -⟩ := busUsed_range hused
  obtain ⟨hq, -, hne⟩ := pairedBus_range hb hb8
  have hclosed : ¬ (!busOpen d.primary s && !busOpen (pairedBus d.primary) s) = true := by
    rcases hopen with h | h <;> simp [h]
  rw [releaseMessage, hdecl, if_neg (by simp [hused]), if_neg hclosed, if_pos hdual, queueOn_of_used hused,
    queueOn_of_used (by rw [busUsed_modBus_other hq hne]; exact hother), queuedEntry_modBus]

end

/-! ## Withdrawal (R295) -/

section
variable {b m off : Nat} {s : State}

theorem withdrawnQueue_of_late (h : (busState b s).queue.filter (outWaited m off s) ≠ []) :
    withdrawnQueue m off false s (busState b s).queue = (busState b s).queue.filter fun q => !outWaited m off s q := by
  unfold withdrawnQueue
  cases hlate : (busState b s).queue.filter (outWaited m off s) with
  | nil => exact absurd hlate h
  | cons q l => rfl

theorem withdrawnQueue_of_wire {q : Queued} (h : (busState b s).queue.filter (outWaited m off s) = [q]) :
    withdrawnQueue m off true s (busState b s).queue = q :: (busState b s).queue.filter fun q => !outWaited m off s q := by
  rw [withdrawnQueue, h]
  rfl

end

theorem length_filter_not {α : Type} (p : α → Bool) (l : List α) : l.length - (l.filter fun x => !p x).length = (l.filter p).length := by
  have h := List.length_eq_length_filter_add (l := l) p
  omega

/-! ## Transmission -/

/-- Entry q of message m is on bus b and no longer in its queue. -/
def sentMessage (b m : Nat) (q : Queued) (s : State) : State :=
  modBus b (fun c => { c with queue := c.queue.erase q }) (send (.can b m q.ident ((busState b s).state == 2) q.payload) s)

theorem send_modBus (f : OutFrame) (b : Nat) (g : CanBus → CanBus) (s : State) : send f (modBus b g s) = modBus b g (send f s) := by
  unfold modBus
  split <;> rfl

theorem sentMessage_bus {b : Nat} {s : State} (hlen : s.fld.buses.length = 8) (hb : 1 ≤ b) (hb8 : b ≤ 8) (m : Nat) (q : Queued) :
    busState b (sentMessage b m q s) = { busState b s with queue := (busState b s).queue.erase q } := by
  rw [sentMessage, busState_modBus_same hb (by exact hlen ▸ hb8)]
  rfl

/-- Whether a bus is open depends on its state alone. -/
theorem busOpen_congr {b : Nat} {s t : State} (h : (busState b t).state = (busState b s).state) : busOpen b t = busOpen b s := by
  simp [busOpen, busUsed, busOff, h]

/-! ## Receipt (R289 to R293, R300) -/

section
variable {b : Nat} {s : State}

theorem frameReceived_of_zero (h : (busState b s).rxErr = 0) : frameReceived b s = s := if_pos h

theorem frameReceived_of_low (h : (busState b s).rxErr ≠ 0) (hlow : (busState b s).rxErr ≤ 127) :
    frameReceived b s = setCounters b (busState b s).txErr ((busState b s).rxErr - 1) s := (if_neg h).trans (if_pos hlow)

theorem frameReceived_of_high (h : 128 ≤ (busState b s).rxErr) :
    frameReceived b s = setCounters b (busState b s).txErr (119 + Cfg.freeValue s.free % 9) { s with free := s.free + 1 } :=
  (if_neg (by omega)).trans (if_neg (by omega))

end

/-- But for the open value that it may draw, a frame received leaves everything but the buses and the event state. -/
theorem frameReceived_only (b : Nat) (s : State) : ∃ n, BusesOnly { s with free := n } (frameReceived b s) := by
  have hset (tec rec : Nat) (u : State) : BusesOnly u (setCounters b tec rec u) := by
    cases h : busOpen b u with
    | true => exact setCounters_only h tec rec
    | false =>
      rw [setCounters_of_closed h tec rec]
      exact BusesOnly.refl u
  by_cases h0 : (busState b s).rxErr = 0
  · exact ⟨s.free, by rw [frameReceived_of_zero h0]; exact BusesOnly.refl s⟩
  · by_cases hlow : (busState b s).rxErr ≤ 127
    · exact ⟨s.free, by rw [frameReceived_of_low h0 hlow]; exact hset _ _ s⟩
    · exact ⟨s.free + 1, by rw [frameReceived_of_high (by omega)]; exact hset _ _ { s with free := s.free + 1 }⟩

theorem length_setCounters (b tec rec : Nat) (s : State) : (setCounters b tec rec s).fld.buses.length = s.fld.buses.length := by
  cases h : busOpen b s with
  | true =>
    rw [setCounters_of_open h, (EventsOnly.busEvents b _).eq]
    exact length_modBus b _ s
  | false => rw [setCounters_of_closed h]

/-- What a frame received leaves of the state it arrives in. -/
structure Received (b : Nat) (s t : State) : Prop where
  eq : t = withEvents { s with free := t.free, fld := { s.fld with buses := t.fld.buses } } t
  lowered : (busState b s).rxErr ≤ 127 → (busState b t).rxErr = (busState b s).rxErr - 1
  drawn : 128 ≤ (busState b s).rxErr → 119 ≤ (busState b t).rxErr ∧ (busState b t).rxErr ≤ 127
  foreign : (busState b t).foreign = (busState b s).foreign
  length : t.fld.buses.length = s.fld.buses.length

theorem received_frameReceived {b : Nat} {s : State} (hlen : s.fld.buses.length = 8) (hopen : busOpen b s = true) : Received b s (frameReceived b s) where
  eq := by
    obtain ⟨n, h⟩ := frameReceived_only b s
    have hn : (frameReceived b s).free = n := (congrArg State.free h.eq).trans rfl
    rw [hn]
    exact h.eq
  lowered h := by
    by_cases h0 : (busState b s).rxErr = 0
    · rw [frameReceived_of_zero h0, h0]
    · rw [frameReceived_of_low h0 h, setCounters_bus hlen hopen]
      exact Nat.min_eq_left (by omega)
  drawn h := by
    have hmod : Cfg.freeValue s.free % 9 < 9 := Nat.mod_lt _ (by decide)
    have hmin : min (119 + Cfg.freeValue s.free % 9) 255 = 119 + Cfg.freeValue s.free % 9 := Nat.min_eq_left (by omega)
    have hbus : (busState b (frameReceived b s)).rxErr = 119 + Cfg.freeValue s.free % 9 := by
      rw [frameReceived_of_high h, setCounters_bus (s := { s with free := s.free + 1 }) hlen hopen]
      exact hmin
    omega
  foreign := by
    by_cases h0 : (busState b s).rxErr = 0
    · rw [frameReceived_of_zero h0]
    · by_cases hlow : (busState b s).rxErr ≤ 127
      · rw [frameReceived_of_low h0 hlow, setCounters_bus hlen hopen]
        rfl
      · rw [frameReceived_of_high (by omega), setCounters_bus (s := { s with free := s.free + 1 }) hlen hopen]
        rfl
  length := by
    by_cases h0 : (busState b s).rxErr = 0
    · rw [frameReceived_of_zero h0]
    · by_cases hlow : (busState b s).rxErr ≤ 127
      · rw [frameReceived_of_low h0 hlow, length_setCounters]
      · rw [frameReceived_of_high (by omega), length_setCounters]

/-- The buses decide nothing about the source of a message. -/
theorem Received.source {b : Nat} {s t : State} (h : Received b s t) (bus : Nat) (ident : CanId) (body : CanBody) :
    canSource bus ident body t = canSource bus ident body s := by
  obtain ⟨n, l, u, rfl⟩ : ∃ n l u, t = withEvents { s with free := n, fld := { s.fld with buses := l } } u := ⟨_, _, _, h.eq⟩
  rfl

/-- The record of a message of a declared source, and its sequence number noted. -/
def recordCan (m : CanRx) (src : Nat) (s : State) : State :=
  let payload := canRecordBytes m.bus ⟨m.ident, m.extended⟩ (canBodyBytes m.body)
  let s := if formsRecords s then { s with fld := { s.fld with seqs := insertKey src (canSeq m.body) s.fld.seqs } } else s
  match m.body with
  | .feedback fb => ingestTagged src (readingAt m.tick s) (if fb.tag = 0 then none else some fb.tag) payload s
  | _ => ingest src (readingAt m.tick s) (readingAt m.tick s) false payload s

/-- What a message leaves once its frame has been received. -/
def takeCan (m : CanRx) (s : State) : State :=
  match canSource m.bus ⟨m.ident, m.extended⟩ m.body s with
  | some src =>
    if m.known && m.lengthOk && m.typeOk && m.crcOk then
      if lookupNat src s.fld.seqs = some (canSeq m.body) then s else recordCan m src s
    else modBus m.bus (fun c => { c with foreign := bump 8 c.foreign }) s
  | none => modBus m.bus (fun c => { c with foreign := bump 8 c.foreign }) s

theorem canMessageRx_of_open {m : CanRx} {s : State} (hopen : busOpen m.bus s = true) (hruns : timerRuns s = true) :
    exec (.canMessageRx m) s = .next (takeCan m (if m.known then frameReceived m.bus s else s)) :=
  next_of_pos (by simp [hopen, hruns]) _ _

section
variable {m : CanRx} {s : State} {src : Nat}

theorem takeCan_of_foreign (h : m.crcOk = false ∨ canSource m.bus ⟨m.ident, m.extended⟩ m.body s = none) :
    takeCan m s = modBus m.bus (fun c => { c with foreign := bump 8 c.foreign }) s := by
  unfold takeCan
  rcases h with h | h
  · cases canSource m.bus ⟨m.ident, m.extended⟩ m.body s with
    | none => rfl
    | some src => exact if_neg (by simp [h])
  · rw [h]

variable (hsource : canSource m.bus ⟨m.ident, m.extended⟩ m.body s = some src)
  (hgood : m.known = true ∧ m.lengthOk = true ∧ m.typeOk = true ∧ m.crcOk = true)
include hsource hgood

theorem takeCan_of_repeat (h : lookupNat src s.fld.seqs = some (canSeq m.body)) : takeCan m s = s := by
  obtain ⟨hknown, hlength, htype, hcrc⟩ := hgood
  simp [takeCan, hsource, hknown, hlength, htype, hcrc, h]

theorem takeCan_of_new (h : lookupNat src s.fld.seqs ≠ some (canSeq m.body)) : takeCan m s = recordCan m src s := by
  obtain ⟨hknown, hlength, htype, hcrc⟩ := hgood
  simp [takeCan, hsource, hknown, hlength, htype, hcrc, h]

end

/-- The record is stamped at its tick, whatever its time of validity. -/
theorem recordCan_eq {s : State} (hforms : formsRecords s = true) (m : CanRx) (src : Nat) : ∃ tov tagged holdover,
    recordCan m src s = putRecord src (readingAt m.tick s) tov tagged holdover (canRecordBytes m.bus ⟨m.ident, m.extended⟩ (canBodyBytes m.body))
      { s with fld := { s.fld with seqs := insertKey src (canSeq m.body) s.fld.seqs } } := by
  unfold recordCan
  rw [if_pos hforms]
  cases m.body with
  | feedback fb => exact ⟨_, _, _, if_pos hforms⟩
  | _ => exact ⟨_, _, _, if_pos hforms⟩

/-- A new message that follows a frame received from s. -/
theorem Received.record {b : Nat} {s t : State} (h : Received b s t) (hforms : formsRecords s = true) (m : CanRx) (src : Nat) : ∃ r : InRecord,
    (recordCan m src t).ex.buffer = s.ex.buffer ++ [{ item := r }] ∧ r.source = src ∧ r.stamp = readingAt m.tick s ∧ r.seq = nextSeq src s ∧
      r.payload = canRecordBytes m.bus ⟨m.ident, m.extended⟩ (canBodyBytes m.body) ∧ r.origin = s.um.unit ∧
      (recordCan m src t).fld.buses = t.fld.buses ∧
      recordCan m src t = withEvents { s with
        free := (recordCan m src t).free
        fld := { s.fld with buses := (recordCan m src t).fld.buses, seqs := (recordCan m src t).fld.seqs }
        ex := { s.ex with buffer := (recordCan m src t).ex.buffer, seqs := (recordCan m src t).ex.seqs } } (recordCan m src t) := by
  obtain ⟨n, l, u, rfl⟩ : ∃ n l u, t = withEvents { s with free := n, fld := { s.fld with buses := l } } u := ⟨_, _, _, h.eq⟩
  obtain ⟨tov, tagged, holdover, hrecord⟩ := recordCan_eq (s := withEvents { s with free := n, fld := { s.fld with buses := l } } u) hforms m src
  rw [hrecord]
  exact ⟨_, rfl, rfl, rfl, rfl, rfl, rfl, rfl, rfl⟩

/-! ## The statement -/

theorem messages_getD {s : State} {m : Nat} {d : CanMessage} (h : s.cfg.image.messages[m]? = some d) : s.cfg.image.messages.getD m {} = d := by
  simp [List.getD_eq_getElem?_getD, h]

theorem BusesOnly.released {s t : State} (h : BusesOnly { s with fld := { s.fld with releases := [] } } t) :
    t.fld.releases = [] ∧ t = withEvents { s with fld := { s.fld with releases := [], buses := t.fld.buses } } t :=
  ⟨(congrArg (·.fld.releases) h.eq).trans rfl, h.eq⟩

section
variable {s : State} {m off : Nat} {d : CanMessage} (hlen : s.fld.buses.length = 8) (hdecl : s.cfg.image.messages.getD m {} = d)
  (hused : busUsed d.primary s = true)

/-- The state after the release has left the list of releases. -/
def offered (s : State) : State := { s with fld := { s.fld with releases := [] } }

include hdecl in
theorem queuedEntry_offered (dual : Bool) : queuedEntry m off dual (offered s) =
    ⟨m, if s.um.unit = .a then d.identA else d.identB, canPayload m s, s.ex.epoch, off, dual⟩ := by
  rw [offered, queuedEntry_fld, queuedEntry, identOf_decl hdecl]

include hlen

/-- A queue that takes one entry. -/
theorem queue_busQueued {b : Nat} (hb : 1 ≤ b) (hb8 : b ≤ 8) (q : Queued) :
    (busState b (modBus b (busQueued q) (offered s))).queue = (busState b s).queue ++ [q] := by
  rw [busState_modBus_same hb (s := offered s) (hlen ▸ hb8)]
  rfl

/-- Both queues of a pair take the entry. -/
theorem queue_busQueued_both {b : Nat} (hb : 1 ≤ b) (hb8 : b ≤ 8) (q : Queued) :
    let t := modBus (pairedBus b) (busQueued q) (modBus b (busQueued q) (offered s))
    (busState b t).queue = (busState b s).queue ++ [q] ∧ (busState (pairedBus b) t).queue = (busState (pairedBus b) s).queue ++ [q] := by
  obtain ⟨hp, hp8, hne⟩ := pairedBus_range hb hb8
  refine ⟨?_, ?_⟩
  · rw [busState_modBus_other hb hne.symm, queue_busQueued hlen hb hb8]
  · rw [busState_modBus_same hp (by rw [length_modBus]; exact hlen ▸ hp8), busState_modBus_other hp hne]
    rfl

/-- A withdrawn message is counted on its bus. -/
theorem withdraw_bus {b : Nat} (hb : 1 ≤ b) (hb8 : b ≤ 8) {n : Nat} (hn : n ≠ 0) :
    busState b (withdraw b n s) = { busState b s with withdrawn := min 255 ((busState b s).withdrawn + n) } := by
  rw [busState_of_events (.withdrawn b n s), busState_modBus_same hb (hlen ▸ hb8), busWithdrawn, if_neg hn]

omit hlen in
theorem withdraw_raises {n : Nat} (hn : n ≠ 0) (b : Nat) : eventActive 52 (withdraw b n s) = true := by
  rw [withdraw, if_neg hn]
  simp

end

/-- The entry that has won arbitration is on the bus and out of its queue, and the transmit counter falls (R295, R300). -/
theorem canTransmitComplete_of_open {b m : Nat} {q : Queued} {s : State} (hlen : s.fld.buses.length = 8) (hopen : busOpen b s = true)
    (hq : (busState b s).queue.find? (·.message == m) = some q) : ∃ t, exec (.canTransmitComplete b m) s = .next t ∧
      t.out = sentBy s (.can b m q.ident ((busState b s).state == 2) q.payload) :: s.out ∧
      (busState b t).queue = (busState b s).queue.erase q ∧ (busState b t).txErr = min ((busState b s).txErr - 1) 255 ∧
      t = withEvents { s with out := t.out, fld := { s.fld with buses := t.fld.buses } } t := by
  obtain ⟨hb, hb8, -⟩ := busUsed_range ((busOpen_iff _ s).mp hopen).1
  have hexec : exec (.canTransmitComplete b m) s =
      .next (setCounters b ((busState b s).txErr - 1) (busState b s).rxErr (sentMessage b m q s)) := by
    rw [sentMessage, ← send_modBus]
    refine congrArg Host.Outcome.next ?_
    rw [hq]
    exact if_pos hopen
  have hbus := sentMessage_bus hlen hb hb8 m q
  have hlen' : (sentMessage b m q s).fld.buses.length = 8 := (length_modBus b _ _).trans hlen
  have hopen' : busOpen b (sentMessage b m q s) = true := (busOpen_congr (by rw [hbus])).trans hopen
  have hsent : BusesOnly (send (.can b m q.ident ((busState b s).state == 2) q.payload) s) (sentMessage b m q s) := BusesOnly.modBus b _ _
  have hcounted := setCounters_bus hlen' hopen' ((busState b s).txErr - 1) (busState b s).rxErr
  have honly := hsent.trans (setCounters_only hopen' ((busState b s).txErr - 1) (busState b s).rxErr)
  rw [hbus] at hcounted
  generalize setCounters b ((busState b s).txErr - 1) (busState b s).rxErr (sentMessage b m q s) = t at hexec hcounted honly
  have hout : t.out = sentBy s (.can b m q.ident ((busState b s).state == 2) q.payload) :: s.out := (congrArg State.out honly.eq).trans rfl
  refine ⟨t, hexec, hout, ?_, ?_, ?_⟩
  · rw [hcounted]
    rfl
  · rw [hcounted]
    rfl
  · rw [hout]
    exact honly.eq

/-- Settles O27: each of the four commands by the case it meets (R295, R296, R289, R300). -/
theorem canMessagesQueueCompleteAndArrive : Obligations.CanMessagesQueueCompleteAndArrive := by
  intro s hlen
  refine ⟨fun m off d hemit hrole hrel hdecl hused => ?_, fun m off d hemit hrole hrel hdecl hused => ?_, fun hsilent off => ?_,
    fun b m off hb hb8 => ?_, fun b m q hopen hq => ?_, fun m src hopen hruns hsource hknown hlength htype hcrc => ?_, fun m hopen hruns hforeign => ?_⟩
  · have hexec : exec (.canRelease off) s = .next (releaseMessage m off (offered s)) := execCanRelease_of_one hemit hrole hrel
    have hd := messages_getD hdecl
    obtain ⟨hb, hb8, -⟩ := busUsed_range hused
    obtain ⟨hp, hp8, hne⟩ := pairedBus_range hb hb8
    have hentry := queuedEntry_offered (m := m) (off := off) hd
    refine ⟨fun hdual hopen => ?_, fun hdual hopen hother => ?_, fun hdual hopen hother => ?_, fun hopen hother => ?_⟩
    · rw [releaseMessage_of_single (s := offered s) hd hused hdual hopen, hentry] at hexec
      obtain ⟨hrest, honly⟩ := (BusesOnly.modBus _ _ (offered s)).released
      exact ⟨_, ⟨hexec, hrest, honly⟩, hdual ▸ queue_busQueued hlen hb hb8 _, busState_modBus_other hp hne _ _⟩
    · rw [releaseMessage_of_paired (s := offered s) hd hused hdual hopen hother, hentry] at hexec
      obtain ⟨hrest, honly⟩ := (BusesOnly.modBus _ _ (offered s)).released
      exact ⟨_, ⟨hexec, hrest, honly⟩, hdual ▸ queue_busQueued hlen hp hp8 _, busState_modBus_other hb hne.symm _ _⟩
    · rw [releaseMessage_of_dual (s := offered s) hd hused hdual hopen hother, hentry] at hexec
      obtain ⟨hrest, honly⟩ := ((BusesOnly.modBus _ _ (offered s)).trans (.modBus _ _ _)).released
      exact ⟨_, ⟨hexec, hrest, honly⟩, hdual ▸ queue_busQueued_both hlen hb hb8 _⟩
    · rw [releaseMessage_of_closed (s := offered s) hd hused hopen hother] at hexec
      obtain ⟨hrest, honly⟩ := ((BusesOnly.modBus _ _ (offered s)).trans (.of_events (.withdrawn _ _ _))).released
      have hbus := withdraw_bus (s := offered s) hlen hb hb8 Nat.one_ne_zero
      exact ⟨_, ⟨hexec, hrest, honly⟩, withdraw_raises Nat.one_ne_zero _, (congrArg CanBus.queue hbus).trans rfl,
        (congrArg CanBus.withdrawn hbus).trans rfl⟩
  · have hexec := execCanRelease_of_one hemit hrole hrel
    rwa [releaseMessage_of_unused (s := { s with fld := { s.fld with releases := [] } }) (messages_getD hdecl) hused] at hexec
  · exact next_of_neg (by rcases hsilent with h | h <;> simp [h]) _ _
  · have hexec (onWire : Bool) : exec (.canWithdrawal b m off onWire) s =
        .next (withdraw b ((busState b s).queue.length - (withdrawnQueue m off onWire s (busState b s).queue).length)
          (modBus b (fun c => { c with queue := withdrawnQueue m off onWire s (busState b s).queue }) s)) := rfl
    have hbus (l : List Queued) := busState_modBus_same hb (hlen ▸ hb8) (fun c : CanBus => { c with queue := l })
    refine ⟨fun q => by simp [outWaited], fun hlate => ?_, fun q hlate => ?_⟩
    · have hcount := length_filter_not (outWaited m off s) (busState b s).queue
      have hn := List.length_pos_iff.mpr hlate
      have h := hexec false
      rw [withdrawnQueue_of_late hlate, hcount] at h
      have hafter := withdraw_bus
        (s := modBus b (fun c => { c with queue := (busState b s).queue.filter fun q => !outWaited m off s q }) s) ((length_modBus _ _ _).trans hlen) hb hb8 (Nat.ne_of_gt hn)
      rw [hbus] at hafter
      exact ⟨_, h, congrArg CanBus.queue hafter, congrArg CanBus.withdrawn hafter, withdraw_raises (Nat.ne_of_gt hn) _,
        ((BusesOnly.modBus _ _ s).trans ((BusesOnly.modBus _ _ _).trans (.of_events (.withdrawn _ _ _)))).eq⟩
    · have hcount := length_filter_not (outWaited m off s) (busState b s).queue
      have hle := List.length_filter_le (fun q => !outWaited m off s q) (busState b s).queue
      have hzero : (busState b s).queue.length - ((busState b s).queue.filter fun q => !outWaited m off s q).length = 1 := by
        rw [hcount, hlate]
        rfl
      have h := hexec true
      rw [withdrawnQueue_of_wire hlate, List.length_cons, show (busState b s).queue.length - _ = 0 by omega, withdraw, if_pos rfl] at h
      refine ⟨_, h, ?_, ?_, ?_⟩
      · rw [hbus]
      · rw [hbus]
      · unfold modBus
        split <;> rfl
  · exact canTransmitComplete_of_open hlen hopen hq
  · have hreceived : Received m.bus s (frameReceived m.bus s) := received_frameReceived hlen hopen
    have hexec := canMessageRx_of_open hopen hruns
    rw [if_pos hknown] at hexec
    have hsource' : canSource m.bus ⟨m.ident, m.extended⟩ m.body (frameReceived m.bus s) = some src :=
      (hreceived.source _ _ _).trans hsource
    have hseqs : (frameReceived m.bus s).fld.seqs = s.fld.seqs := (congrArg (·.fld.seqs) hreceived.eq).trans rfl
    refine ⟨fun hrepeat => ?_, fun hnew hforms => ?_⟩
    · rw [takeCan_of_repeat hsource' ⟨hknown, hlength, htype, hcrc⟩ (hseqs ▸ hrepeat)] at hexec
      exact ⟨_, hexec, ⟨hreceived.lowered, hreceived.drawn⟩, hreceived.eq⟩
    · rw [takeCan_of_new hsource' ⟨hknown, hlength, htype, hcrc⟩ (hseqs ▸ hnew)] at hexec
      obtain ⟨r, hbuffer, hsrc, hstamp, hseq, hpayload, horigin, hbuses, honly⟩ := hreceived.record hforms m src
      have hbus : busState m.bus (recordCan m src (frameReceived m.bus s)) = busState m.bus (frameReceived m.bus s) := by
        rw [busState, hbuses, busState]
      exact ⟨_, r, hexec, ⟨hbus ▸ hreceived.lowered, hbus ▸ hreceived.drawn⟩, hbuffer, hsrc, hstamp, hseq, hpayload, horigin, honly⟩
  · have hrange := busUsed_range ((busOpen_iff _ s).mp hopen).1
    obtain ⟨hb, hb8, -⟩ := hrange
    have hexec := canMessageRx_of_open hopen hruns
    obtain ⟨u, hu, hlen', hforeign', hfree, hex⟩ : ∃ u, (if m.known then frameReceived m.bus s else s) = u ∧ u.fld.buses.length = 8 ∧
        (busState m.bus u).foreign = (busState m.bus s).foreign ∧
        canSource m.bus ⟨m.ident, m.extended⟩ m.body u = canSource m.bus ⟨m.ident, m.extended⟩ m.body s ∧ u.ex = s.ex := by
      cases m.known with
      | false => exact ⟨s, rfl, hlen, rfl, rfl, rfl⟩
      | true =>
        have h : Received m.bus s (frameReceived m.bus s) := received_frameReceived hlen hopen
        exact ⟨_, rfl, h.length.trans hlen, h.foreign, h.source _ _ _,
          (congrArg State.ex h.eq).trans rfl⟩
    rw [hu, takeCan_of_foreign (hfree ▸ hforeign)] at hexec
    refine ⟨_, hexec, ?_, ?_⟩
    · rw [busState_modBus_same hb (hlen' ▸ hb8), hforeign']
      rfl
    · unfold modBus
      split <;> exact hex

end Sys2Proof.Machine
end

section
/-! Serial sensor ports: sentences, silent sources and port errors (R303 to R306). -/

namespace Sys2Proof.Machine

theorem EventsOnly.silenceEvent (s : State) : EventsOnly s (silenceEvent s) := by
  unfold Machine.silenceEvent
  split
  · exact EventsOnly.clearEvent 56 s
  · exact EventsOnly.refl s

/-- The source of an accepted sentence is heard. -/
def heardSource (n : Nat) (s : State) : State :=
  { s with fld := { s.fld with serialAge := insertKey n 0 s.fld.serialAge, silent := s.fld.silent.filter (· != n) } }

/-- The tag of a sentence that carries the time (R305). -/
def sentenceTag (x : SentenceRx) (d : SerialDecl) (s : State) : Option Nat :=
  if d.hasTime then x.timeField.bind fun tod => s.mir.tim.utc.map fun off => tagOfDay (readingAt x.tick s) tod off else none

/-- The record of an accepted sentence (R304, R305). -/
def recordSentence (x : SentenceRx) (d : SerialDecl) (s : State) : State :=
  let stamp := readingAt x.tick s
  let v := validityOf stamp (sourceDecl d.source s).latency (sentenceTag x d s) (!suspect d.source s)
  ingest d.source stamp v.1 v.2
    (beBytes 1 x.port ++ beBytes 1 (flag (holdoverAt v.1 s)) ++ beBytes 1 x.chars.length ++ beBytes 1 0 ++ x.chars) s

/-- A checksum error counts on its port. -/
def checksumCounted (p : SerialPort) : SerialPort := { p with checksum := bump 8 p.checksum, errorsNow := p.errorsNow + 1 }

section
variable {x : SentenceRx} {s : State} (hruns : timerRuns s = true) (hport : 1 ≤ x.port) (hport8 : x.port ≤ 8)
  (hframing : x.framing = false) (hstart : x.startOk = true) (hend : x.endOk = true) (hlen : x.chars.length ≤ 80)
include hruns hport hport8 hframing hstart hend hlen

theorem serialSentenceRx_of_badChecksum (hsum : x.checksumOk = false) : exec (.serialSentenceRx x) s = .next (modPort x.port checksumCounted s) := by
  refine (next_of_pos (by simp [hruns, hport, hport8]) _ _).trans (congrArg _ ?_)
  rw [if_neg (by simp [hframing, hstart, hend]), if_neg (by omega), if_pos (by simp [hsum])]
  rfl

theorem serialSentenceRx_of_accepted {d : SerialDecl} (hsum : x.checksumOk = true) (hsource : x.source = some d.source)
    (hdecl : s.cfg.image.serial.find? (fun e => e.source == d.source && e.port == x.port) = some d) :
    exec (.serialSentenceRx x) s = .next (recordSentence x d (silenceEvent (heardSource d.source s))) := by
  refine (next_of_pos (by simp [hruns, hport, hport8]) _ _).trans (congrArg _ ?_)
  rw [if_neg (by simp [hframing, hstart, hend]), if_neg (by omega), if_neg (by simp [hsum]), hsource, Option.bind_some, hdecl]
  rfl

end

theorem recordSentence_of_heard {x : SentenceRx} {d : SerialDecl} {s t : State} (h : EventsOnly (heardSource d.source s) t)
    (hforms : formsRecords s = true) : ∃ r : InRecord, (recordSentence x d t).ex.buffer = s.ex.buffer ++ [{ item := r }] ∧
      r.source = d.source ∧ r.stamp = readingAt x.tick s ∧ r.seq = nextSeq d.source s ∧
      (recordSentence x d t).fld = (heardSource d.source s).fld := by
  obtain ⟨u, rfl⟩ : ∃ u, t = withEvents (heardSource d.source s) u := ⟨_, h.eq⟩
  unfold recordSentence ingest
  rw [if_pos (by exact hforms)]
  exact ⟨_, rfl, rfl, rfl, rfl, rfl⟩

theorem pastLoadMode_iff (m : Mode) : execSerialSourceSilent.pastLoadMode m = true ↔ m ≠ .boot ∧ m ≠ .load ∧ m ≠ .recovery := by
  cases m <;> simp [execSerialSourceSilent.pastLoadMode]

/-- Settles O28: a damaged sentence, an accepted one (R304, R305), a silent source and a port with too many errors (R306). -/
theorem serialSentencesBecomeRecords : Obligations.SerialSentencesBecomeRecords := by
  intro s hruns
  refine ⟨fun x hport hport8 hports hframing hstart hend hlen => ⟨fun hsum => ?_, fun d hsum hsource hsame hdecl hforms => ?_⟩,
    fun n d hdecl hboot hload hrecovery hage => ?_, fun p q hp hq herrors => ?_⟩
  · have hin : x.port - 1 < s.fld.ports.length := by omega
    refine ⟨_, s.fld.ports[x.port - 1], serialSentenceRx_of_badChecksum hruns hport hport8 hframing hstart hend hlen hsum,
      List.getElem?_eq_getElem hin, ?_, ?_⟩
    · simp [modPort, modAt, Nat.ne_of_gt hport, checksumCounted, bump_eight, hin]
    · unfold modPort
      split <;> rfl
  · have hexec := serialSentenceRx_of_accepted hruns hport hport8 hframing hstart hend hlen hsum hsource hdecl
    obtain ⟨r, hbuffer, hsrc, hstamp, hseq, hfld⟩ :=
      recordSentence_of_heard (x := x) (EventsOnly.silenceEvent (heardSource d.source s)) hforms
    refine ⟨_, r, hexec, hbuffer, hsrc, hstamp, hseq, ?_, ?_, ?_, ?_⟩
    · rw [hfld]
      exact lookupNat_insertKey d.source 0 s.fld.serialAge
    · rw [hfld]
      simp [heardSource]
    · rw [hfld]
      rfl
    · rw [hfld]
      rfl
  · have hpast := (pastLoadMode_iff s.um.mode).mpr ⟨hboot, hload, hrecovery⟩
    refine ⟨_, ?_, raised_raiseAt 56 n _⟩
    refine congrArg Host.Outcome.next ?_
    rw [hdecl]
    exact if_pos ⟨hage, hpast⟩
  · refine ⟨_, ?_, raised_raiseAt 57 p s⟩
    refine congrArg Host.Outcome.next ?_
    rw [hq]
    exact if_pos ⟨hp, herrors⟩

end Sys2Proof.Machine
end

section
/-! The PPS edge and the PPS message (R235, R236, R244). -/

namespace Sys2Proof.Machine

/-! ## Whole seconds -/

theorem roundDiv_mul {d : Nat} (hd : 0 < d) (n : Int) : roundDiv (n * d) d = n := by
  have hq : n * (d : Int) / d = n := Int.mul_ediv_cancel n (by omega)
  have hr : n * (d : Int) % d = 0 := Int.mul_emod_left n d
  unfold roundDiv
  rw [hq, hr, if_neg (by omega), if_neg (by omega)]

theorem nearestSecond_of_whole (n : Nat) : nearestSecond ((n * 1000000000 : Nat) : Int) = n * 1000000000 := by
  unfold nearestSecond
  rw [Nat.cast_mul, roundDiv_mul (by decide), Int.toNat_natCast]

/-- An edge is at a whole second. -/
theorem edgeIn_whole {c incr w q : Nat} (h : edgeIn c incr = some (w, q)) : ∃ n, w = n * 1000000000 := by
  have hw (n : Nat) : n * second / 2 ^ 32 = n * 1000000000 := by
    rw [second, ← Nat.mul_assoc]
    exact Nat.mul_div_cancel _ (Nat.two_pow_pos 32)
  unfold edgeIn at h
  obtain ⟨-, hwq⟩ := Option.ite_none_right_eq_some.mp h
  exact ⟨_, (congrArg Prod.fst (Option.some.inj hwq)).symm.trans (hw _)⟩

theorem edgeAhead_whole {s : State} {w q : Nat} (h : edgeAhead s = some (w, q)) : ∃ n, w = n * 1000000000 := by
  unfold edgeAhead at h
  split at h
  · exact edgeIn_whole h
  · cases h

theorem counterWrap_cast (v : Int) : (counterWrap v : Int) = v % 2 ^ 96 := Int.toNat_of_nonneg (Int.emod_nonneg v (by decide))

/-! ## The edge (R235) -/

/-- The edge of second w has been on TIME_OUT. -/
def edgeShown (w q : Nat) (s : State) : State :=
  { s with
    time := { s.time with
      quals := s.time.quals.map countSecond, incrDue := true, edgeAge := 0, edge := some (w, quantError q), pairDue := true }
    pair := { s.pair with beat := none } }

/-- The step announced for a second up to w is applied. -/
def stepTaken (w : Nat) (s : State) : State :=
  match s.time.step with
  | some (at_, ns) => if at_ ≤ w then applyStep ns s else s
  | none => s

theorem ppsEdge_of_edge {w q : Nat} {s : State} (h : edgeNow s = some (w, q)) : exec .ppsEdge s = .next (stepTaken w (edgeShown w q s)) := by
  refine congrArg Host.Outcome.next ?_
  rw [h]
  rfl

theorem stepTaken_of_step {w at_ : Nat} {ns : Int} {s : State} (h : s.time.step = some (at_, ns)) :
    stepTaken w s = if at_ ≤ w then applyStep ns s else s := by
  rw [stepTaken, h]

theorem stepAtEdge_of_step {w at_ : Nat} {ns : Int} {s : State} (h : s.time.step = some (at_, ns)) :
    stepAtEdge w s = if at_ ≤ w then ns else 0 := by
  rw [stepAtEdge, h]

theorem stepAtEdge_of_none {w : Nat} {s : State} (h : s.time.step = none) : stepAtEdge w s = 0 := by
  rw [stepAtEdge, h]

/-! ## The message (R236) -/

/-- The flags of the PPS message of second w. -/
def ppsFlagsAt (w : Nat) (s : State) : Nat :=
  flag s.time.holdover + 2 * flag s.time.slewing + 4 * flag (stepAtEdge w s != 0) + 8 * flag (!s.time.ocxoStable)

theorem ppsFlagsAt_spec (w : Nat) (s : State) :
    ppsFlagsAt w s % 2 = flag s.time.holdover ∧ (ppsFlagsAt w s / 4 % 2 = 1 ↔ stepAtEdge w s ≠ 0) := by
  unfold ppsFlagsAt
  by_cases h : stepAtEdge w s = 0 <;> cases s.time.holdover <;> cases s.time.slewing <;> cases s.time.ocxoStable <;> simp [h, flag]

/-- The message of second w has been sent and is shown. -/
def ppsSent (w q : Nat) (s : State) : State :=
  { s with
    out := sentBy s (.pps s.um.unit (ppsFlagsAt w s) (nearestSecond ((w : Int) + stepAtEdge w s)) (quantError q) (uncertAhead 1000 s) (stepAtEdge w s)) :: s.out
    time := { s.time with
      ppsFlags := ppsFlagsAt w s, ppsEdge := nearestSecond ((w : Int) + stepAtEdge w s), ppsQerr := quantError q
      ppsUncert := uncertAhead 1000 s, ppsStep := stepAtEdge w s } }

theorem ppsMessageSend_of_edge {w q : Nat} {s : State} (h : edgeAhead s = some (w, q)) : exec .ppsMessageSend s = .next (ppsSent w q s) := by
  refine congrArg Host.Outcome.next ?_
  rw [h]
  rfl

theorem ppsBytes_octets (u : UnitId) (flags w q uncert : Nat) (step : Int) :
    (ppsBytes u flags w q uncert step).length = 24 ∧ octets (ppsBytes u flags w q uncert step) 0 1 = 1 ∧
      octets (ppsBytes u flags w q uncert step) 1 1 = unitCode u ∧ octets (ppsBytes u flags w q uncert step) 2 1 = flags % 256 ∧
      octets (ppsBytes u flags w q uncert step) 4 8 = w % 2 ^ 64 ∧ octets (ppsBytes u flags w q uncert step) 12 4 = q % 2 ^ 32 ∧
      octets (ppsBytes u flags w q uncert step) 16 4 = uncert % 2 ^ 32 := by
  unfold ppsBytes
  refine ⟨by simp, ?_, ?_, ?_, ?_, ?_, ?_⟩ <;>
    simp (disch := simp) only [octets_append_left, octets_append_right, List.length_append, length_beBytes, Nat.reduceAdd,
      Nat.sub_self, octets_beBytes, Nat.reducePow, Nat.reduceMod, unitCode_lt]

/-- Settles O29: the edge (R235), the step it applies (R244) and the message ahead of it (R236). -/
theorem ppsEdgeCountsTheSecond : Obligations.PpsEdgeCountsTheSecond := by
  refine ⟨fun w q s => ⟨fun hedge => ⟨fun hstep => ?_, fun at_ ns hstep hdue => ?_⟩, fun hedge => ?_⟩, fun u flags w q uncert step s => ?_⟩
  · have hexec := ppsEdge_of_edge hedge
    rcases hstep with hnone | ⟨at_, ns, hsome, hlater⟩
    · rwa [stepTaken, show (edgeShown w q s).time.step = none from hnone] at hexec
    · rwa [stepTaken_of_step (s := edgeShown w q s) hsome, if_neg (by omega)] at hexec
  · have hexec := ppsEdge_of_edge hedge
    rw [stepTaken_of_step (s := edgeShown w q s) hstep, if_pos hdue] at hexec
    exact ⟨_, hexec, rfl, rfl, rfl, counterWrap_cast _, rfl, rfl, rfl, by simp [applyStep, edgeShown]⟩
  · obtain ⟨hhold, hstepped⟩ := ppsFlagsAt_spec w s
    refine ⟨_, ppsMessageSend_of_edge hedge, rfl, rfl, fun hnone => ⟨?_, stepAtEdge_of_none hnone⟩, fun at_ ns hsome => ⟨stepAtEdge_of_step hsome, ?_⟩,
      hhold, fun hnever => if_pos hnever, rfl⟩
    · obtain ⟨n, rfl⟩ := edgeAhead_whole hedge
      show nearestSecond (((n * 1000000000 : Nat) : Int) + stepAtEdge (n * 1000000000) s) = n * 1000000000
      rw [stepAtEdge_of_none hnone, Int.add_zero, nearestSecond_of_whole]
    · refine hstepped.trans ?_
      rw [stepAtEdge_of_step hsome]
      by_cases hdue : at_ ≤ w <;> simp [hdue]
  · obtain ⟨hlen, h0, h1, h2, h4, h12, h16⟩ := ppsBytes_octets u flags w q uncert step
    exact ⟨_, rfl, hlen, h0, h1, h2, h4, h12, h16, rfl, rfl⟩

end Sys2Proof.Machine
end

section
/-! Time sources: qualification and measurement (R242, R243, R234, R316). -/

namespace Sys2Proof.Machine

/-! ## One source's record -/

theorem sourceIndex_lt (x : TimeSource) : sourceIndex x < 4 := by cases x <;> decide

theorem sourceIndex_inj {x y : TimeSource} (h : sourceIndex x = sourceIndex y) : x = y := by
  revert h
  cases x <;> cases y <;> decide

section
variable {x y : TimeSource} {s : State} (f : SourceQual → SourceQual)

theorem qualOf_modQual_same (hlen : s.time.quals.length = 4) : qualOf x (modQual x f s) = f (qualOf x s) := by
  have hin : sourceIndex x < s.time.quals.length := hlen ▸ sourceIndex_lt x
  simp [qualOf, modQual, modAt, List.getD_eq_getElem?_getD, List.getElem?_eq_getElem hin]

theorem qualOf_modQual_other (h : y ≠ x) : qualOf y (modQual x f s) = qualOf y s := by
  have hne : sourceIndex x ≠ sourceIndex y := fun hsame => h (sourceIndex_inj hsame).symm
  simp [qualOf, modQual, modAt, List.getD_eq_getElem?_getD, hne]

end

theorem qualOf_of_events {s t : State} (h : EventsOnly s t) (x : TimeSource) : qualOf x t = qualOf x s :=
  (congrArg (qualOf x) h.eq).trans rfl

/-! ## Qualification (R243) -/

/-- A source that is disqualified. -/
def unqualified (q : SourceQual) : SourceQual := { q with qualified := false, good := 0, beyond := 0 }

/-- PTP begins its 10 s anew and raises EV_044; the other sources do neither. -/
def sourceLost (x : TimeSource) (s : State) : State := if x = .ptp then raise 44 (restartSlaves s) else s

theorem sourceLost_spec (x : TimeSource) (s : State) :
    EventsOnly { s with time := { s.time with ptp := if x = .ptp then s.time.ptp.map fun p => { p with slaveFor := 0 } else s.time.ptp } }
      (sourceLost x s) ∧ (x = .ptp → eventActive 44 (sourceLost x s) = true) := by
  unfold sourceLost
  by_cases h : x = .ptp
  · rw [if_pos h, if_pos h]
    exact ⟨EventsOnly.raise 44 (restartSlaves s), fun _ => by simp⟩
  · rw [if_neg h, if_neg h]
    exact ⟨EventsOnly.refl s, fun hx => absurd hx h⟩

theorem sourceDisqualified_of {x : TimeSource} {s : State} (hqualified : (qualOf x s).qualified = true) (h : disqualifies x s = true) :
    exec (.sourceDisqualified x) s = .next (sourceLost x (modQual x unqualified s)) := next_of_pos (by simp [hqualified, h]) _ _

/-! ## Measurement (R234, R316) -/

/-- What a measurement leaves of its source. -/
def sourceMeasured (ps : Int) (sigma : Nat) (q : SourceQual) : SourceQual :=
  { q with offset := some ps, sigma, fresh := true, last16 := (ps :: q.last16).take 16 }

theorem measured_eq (x : TimeSource) (ps : Int) (sigma : Nat) (s : State) : measured x ps sigma s = modQual x (sourceMeasured ps sigma) s := rfl

theorem engineOf_modEngine_same (e : Side) (f : Engine → Engine) (s : State) : engineOf e (modEngine e f s) = f (engineOf e s) := by
  cases e <;> rfl

theorem engineOf_modEngine_other (e : Side) (f : Engine → Engine) (s : State) :
    engineOf (otherSide e) (modEngine e f s) = engineOf (otherSide e) s := by
  cases e <;> rfl

theorem modEngine_time (e : Side) (f : Engine → Engine) (s : State) : (modEngine e f s).time = s.time := by
  cases e <;> rfl

theorem qualOf_modEngine (x : TimeSource) (e : Side) (f : Engine → Engine) (s : State) : qualOf x (modEngine e f s) = qualOf x s := by
  rw [qualOf, modEngine_time, qualOf]

/-- What a time measurement leaves of its engine. -/
def engineTimed (ps : Int) (seconds : Nat) (g : Engine) : Engine :=
  { g with tofs := rangeS ps, tofsAge := 0, timed := some seconds, clock := none }

theorem gnssTimeMeasurement_of_clock {e : Side} {s : State} {v : Int} {var : Nat} (hruns : clockRuns s = true)
    (hclock : (engineOf e s).clock = some (v, var)) (htimed : (engineOf e s).timed ≠ some (counterSeconds s)) :
    ∃ sigma, exec (.gnssTimeMeasurement e) s = .next (modEngine e (engineTimed (roundDiv (v - 19 * 10 ^ 15) 1000) (counterSeconds s))
      (modQual (timeSourceOf e) (sourceMeasured (roundDiv (v - 19 * 10 ^ 15) 1000) sigma) s)) := by
  refine ⟨(rootQuot var (10 ^ 12)).toNat, congrArg Host.Outcome.next ?_⟩
  rw [hclock]
  exact if_pos ⟨hruns, htimed⟩

theorem gnssTimeMeasurement_of_none {e : Side} {s : State} (h : (engineOf e s).clock = none) : exec (.gnssTimeMeasurement e) s = .next s := by
  refine congrArg Host.Outcome.next ?_
  rw [h]

/-- The pair source has taken its heartbeat. -/
def pairMeasured (ps : Int) (s : State) : State :=
  modQual .pair (sourceMeasured ps s.mir.tim.uncert) { s with time := { s.time with pairDue := false } }

theorem pairTimeMeasurement_of_beat {s : State} {rx tx : Nat} {round : Int} (hbeat : s.pair.beat = some (rx, tx, round)) (hrole : s.um.role = .standby)
    (hdue : s.time.pairDue = true) :
    exec .pairTimeMeasurement s = .next (pairMeasured (((rx : Int) - tx) * 1000 - roundDiv (round * 10000) 6) s) := by
  refine congrArg Host.Outcome.next ?_
  rw [hbeat]
  exact if_pos ⟨hrole, hdue⟩

theorem pairTimeMeasurement_of_done {s : State} (h : s.time.pairDue = false) : exec .pairTimeMeasurement s = .next s := by
  refine congrArg Host.Outcome.next ?_
  cases s.pair.beat with
  | none => rfl
  | some b => exact if_neg (by simp [h])

/-- Settles O30: qualification and its ends (R242, R243), then the measurements of the engines (R234) and of the pair source (R316). -/
theorem timeSourcesQualifyAndAreMeasured : Obligations.TimeSourcesQualifyAndAreMeasured := by
  refine ⟨fun x s hlen => ⟨fun hruns hgood => ?_, fun hqualified hbad => ?_, fun hbeyond => ?_⟩,
    fun s hruns hlen => ⟨fun e v var hclock htimed => ?_, fun e hnone => gnssTimeMeasurement_of_none hnone, fun rx tx round hbeat hrole hdue => ?_⟩⟩
  · have hqualifies : (clockRuns s && qualifies x s && !disqualifies x s) = true := by
      cases x with
      | gnssA => simpa [qualifies, disqualifies, hruns] using hgood
      | gnssB => simpa [qualifies, disqualifies, hruns] using hgood
      | ptp => simpa [qualifies, disqualifies, hruns] using hgood
      | pair => simpa [qualifies, disqualifies, hruns] using hgood
    exact ⟨_, next_of_pos hqualifies _ _, qualOf_modQual_same _ hlen, fun y hy => qualOf_modQual_other _ hy, rfl⟩
  · have hdisqualifies : disqualifies x s = true := by
      cases x with
      | gnssA => simpa [disqualifies] using hbad
      | gnssB => simpa [disqualifies] using hbad
      | ptp => simpa [disqualifies] using hbad
      | pair => simpa [disqualifies] using hbad
    obtain ⟨honly, h44⟩ := sourceLost_spec x (modQual x unqualified s)
    have hptp := congrArg (fun u : State => u.time.ptp) honly.eq
    have hquals := congrArg (fun u : State => u.time.quals) honly.eq
    refine ⟨_, sourceDisqualified_of hqualified hdisqualifies, ?_, fun y hy => ?_, hptp, h44, ?_⟩
    · exact (qualOf_of_events honly x).trans (qualOf_modQual_same unqualified hlen)
    · exact (qualOf_of_events honly y).trans (qualOf_modQual_other unqualified hy)
    · refine honly.eq.trans ?_
      rw [hptp, hquals]
      rfl
  · have honly := EventsOnly.raise 7 (modQual x unqualified s)
    have hqual := (qualOf_of_events honly x).trans (qualOf_modQual_same unqualified hlen)
    have hquals := congrArg (fun u : State => u.time.quals) honly.eq
    refine ⟨raise 7 (modQual x unqualified s), next_of_pos hbeyond _ _, ?_, ?_, by simp, ?_⟩
    · rw [hqual, unqualified]
    · rw [hqual, unqualified]
    · refine honly.eq.trans ?_
      rw [hquals]
      rfl
  · obtain ⟨sigma, hexec⟩ := gnssTimeMeasurement_of_clock hruns hclock htimed
    have hqual := (qualOf_modEngine (timeSourceOf e) e (engineTimed (roundDiv (v - 19 * 10 ^ 15) 1000) (counterSeconds s)) _).trans
      (qualOf_modQual_same (sourceMeasured (roundDiv (v - 19 * 10 ^ 15) 1000) sigma) hlen)
    have hengine (q : SourceQual → SourceQual) (k : Side) : engineOf k (modQual (timeSourceOf e) q s) = engineOf k s := by
      cases k <;> rfl
    have htaken := (engineOf_modEngine_same e (engineTimed (roundDiv (v - 19 * 10 ^ 15) 1000) (counterSeconds s)) _).trans
      (congrArg _ (hengine (sourceMeasured (roundDiv (v - 19 * 10 ^ 15) 1000) sigma) e))
    refine ⟨_, hexec, ?_, ?_, ?_, htaken, (engineOf_modEngine_other e _ _).trans (hengine _ _), ?_, fun y hy => ?_, gnssTimeMeasurement_of_none ?_⟩
    · rw [hqual, sourceMeasured]
    · rw [hqual, sourceMeasured]
    · rw [hqual, sourceMeasured]
    · rw [modEngine_time]
      rfl
    · rw [qualOf_modEngine, qualOf_modQual_other _ hy]
    · rw [htaken, engineTimed]
  · refine ⟨_, pairTimeMeasurement_of_beat hbeat hrole hdue, rfl, rfl, ?_, pairTimeMeasurement_of_done rfl⟩
    rw [pairMeasured, qualOf_modQual_same (s := { s with time := { s.time with pairDue := false } }) _ hlen, sourceMeasured]

end Sys2Proof.Machine
end

section
/-! PTP on the station ports and on the ring, and the queue of transmit stamps (R250 to R253). -/

namespace Sys2Proof.Machine

/-! ## One port's record -/

theorem portIndex_lt (p : Side) : portIndex p < 2 := by cases p <;> decide

theorem portIndex_other (p : Side) : portIndex p ≠ portIndex (otherSide p) := by cases p <;> decide

theorem otherSide_otherSide (p : Side) : otherSide (otherSide p) = p := by cases p <;> rfl

section
variable (p : Side) (f : PtpPort → PtpPort) (g : RingPtp → RingPtp) (s : State)

theorem ptpPort_modPtp_same (hlen : s.time.ptp.length = 2) : ptpPort p (modPtp p f s) = f (ptpPort p s) := by
  have hin : portIndex p < s.time.ptp.length := hlen ▸ portIndex_lt p
  simp [ptpPort, modPtp, modAt, List.getD_eq_getElem?_getD, List.getElem?_eq_getElem hin]

theorem ptpPort_modPtp_other : ptpPort (otherSide p) (modPtp p f s) = ptpPort (otherSide p) s := by
  simp [ptpPort, modPtp, modAt, List.getD_eq_getElem?_getD, portIndex_other]

/-- The same seen from the other port. -/
theorem ptpPort_modPtp_otherSide : ptpPort p (modPtp (otherSide p) f s) = ptpPort p s := by
  have h := ptpPort_modPtp_other (otherSide p) f s
  rwa [otherSide_otherSide] at h

theorem length_modPtp : (modPtp p f s).time.ptp.length = s.time.ptp.length := by simp [modPtp, modAt]

theorem ringPtp_eq : ringPtp p s = s.time.ringPtp.getD (portIndex p) {} := by cases p <;> rfl

theorem ringPtp_modRingPtp_same (hlen : s.time.ringPtp.length = 2) : ringPtp p (modRingPtp p g s) = g (ringPtp p s) := by
  have hin : portIndex p < s.time.ringPtp.length := hlen ▸ portIndex_lt p
  simp [ringPtp_eq, modRingPtp, modAt, List.getD_eq_getElem?_getD, List.getElem?_eq_getElem hin]

theorem ringPtp_modRingPtp_other : ringPtp (otherSide p) (modRingPtp p g s) = ringPtp (otherSide p) s := by
  simp [ringPtp_eq, modRingPtp, modAt, List.getD_eq_getElem?_getD, portIndex_other]

theorem length_modRingPtp : (modRingPtp p g s).time.ringPtp.length = s.time.ringPtp.length := by simp [modRingPtp, modAt]

end

theorem claimStamp_of_some {ident : Nat} {s : State} {e : Nat × Nat × Nat} (h : s.time.txq.find? (·.1 == ident) = some e) :
    claimStamp ident s = some (e.2.1, { s with time := { s.time with txq := s.time.txq.erase e } }) := by
  rw [claimStamp, h]

theorem claimStamp_of_none {ident : Nat} {s : State} (h : s.time.txq.find? (·.1 == ident) = none) : claimStamp ident s = none := by
  rw [claimStamp, h]

/-! ## The decision of a port's state (R250) -/

/-- The two states differ in the ports' records, the PTP master's UTC offset and the event state at most. -/
structure PortsOnly (s t : State) : Prop where
  eq : t = withEvents { s with time := { s.time with ptp := t.time.ptp, utcPtp := t.time.utcPtp } } t

namespace PortsOnly

theorem modPtp (p : Side) (f : PtpPort → PtpPort) (s : State) : PortsOnly s (modPtp p f s) := ⟨rfl⟩

theorem trans {s t u : State} (hst : PortsOnly s t) (htu : PortsOnly t u) : PortsOnly s u := by
  obtain ⟨ptp, utc, v, rfl⟩ : ∃ ptp utc v, t = withEvents { s with time := { s.time with ptp := ptp, utcPtp := utc } } v := ⟨_, _, _, hst.eq⟩
  exact ⟨htu.eq⟩

end PortsOnly

/-- The master that a port takes. -/
def masterOf (p : Side) (silent : Bool) (s : State) : Option Foreign := if decidedState p silent s = 9 then bestForeign p s else none

/-- What the decision leaves of its port. -/
def decidedPort (p : Side) (silent : Bool) (s : State) : PtpPort → PtpPort :=
  ptpState (decidedState p silent s) ((masterOf p silent s).map (·.sender)) (((masterOf p silent s).map (·.clock.cls)).getD 0)

/-- EV_061 is raised where a master in use loses its class. -/
def classLost (p : Side) (silent : Bool) (s : State) : State :=
  if goodSlave (ptpPort p s) && decidedState p silent s == 9 && !goodClass (ptpPort p (modPtp p (decidedPort p silent s) s)).gmClass then
    raise 61 (modPtp p (decidedPort p silent s) s)
  else modPtp p (decidedPort p silent s) s

/-- The UTC offset of the master taken. -/
def masterUtc (m : Option Foreign) (s : State) : State :=
  match m with
  | some f => { s with time := { s.time with utcPtp := f.utc } }
  | none => s

theorem decidePort_eq (p : Side) (silent : Bool) (s : State) : decidePort p silent s = masterUtc (masterOf p silent s) (classLost p silent s) := rfl

theorem classLost_events (p : Side) (silent : Bool) (s : State) : EventsOnly (modPtp p (decidedPort p silent s) s) (classLost p silent s) := by
  unfold classLost
  split
  · exact EventsOnly.raise 61 _
  · exact EventsOnly.refl _

theorem decidePort_ports (p : Side) (silent : Bool) (s : State) :
    (decidePort p silent s).time.ptp = (modPtp p (decidedPort p silent s) s).time.ptp := by
  have h := congrArg (fun u : State => u.time.ptp) (classLost_events p silent s).eq
  rw [decidePort_eq]
  cases masterOf p silent s with
  | none => exact h
  | some f => exact h

theorem decidePort_only (p : Side) (silent : Bool) (s : State) : PortsOnly s (decidePort p silent s) := by
  obtain ⟨v, hv⟩ : ∃ v, classLost p silent s = withEvents (modPtp p (decidedPort p silent s) s) v := ⟨_, (classLost_events p silent s).eq⟩
  rw [decidePort_eq, hv]
  cases masterOf p silent s with
  | none => exact ⟨rfl⟩
  | some f => exact ⟨rfl⟩

theorem ptpState_heard (state : Nat) (parent : Option Nat) (gm : Nat) (q : PtpPort) : (ptpState state parent gm q).heard = q.heard := by
  unfold ptpState
  split <;> rfl

theorem ptpState_spec (state : Nat) (parent : Option Nat) (gm : Nat) (q : PtpPort) :
    (ptpState state parent gm q).state = state ∧ (ptpState state parent gm q).parent = parent ∧ (ptpState state parent gm q).gmClass = gm := by
  unfold ptpState
  split
  · next h => exact ⟨h.1, h.2, rfl⟩
  · exact ⟨rfl, rfl, rfl⟩

theorem ptpPort_of_ports {s t : State} (h : t.time.ptp = s.time.ptp) (p : Side) : ptpPort p t = ptpPort p s := by rw [ptpPort, h, ptpPort]

section
variable (p : Side) (silent : Bool) (s : State)

theorem decidePort_own (hlen : s.time.ptp.length = 2) : ptpPort p (decidePort p silent s) = decidedPort p silent s (ptpPort p s) :=
  (ptpPort_of_ports (decidePort_ports p silent s) p).trans (ptpPort_modPtp_same p _ s hlen)

/-- The other port's decision leaves this one. -/
theorem decidePort_otherSide : ptpPort p (decidePort (otherSide p) silent s) = ptpPort p s :=
  (ptpPort_of_ports (decidePort_ports (otherSide p) silent s) p).trans (ptpPort_modPtp_otherSide p _ s)

theorem length_decidePort (hlen : s.time.ptp.length = 2) : (decidePort p silent s).time.ptp.length = 2 := by
  rw [decidePort_ports, length_modPtp, hlen]

/-- Both ports have decided: the other one first. -/
theorem decidePorts_own (hlen : s.time.ptp.length = 2) :
    ptpPort p (decidePorts p silent s) = decidedPort p silent (decidePort (otherSide p) false s) (ptpPort p s) := by
  rw [decidePorts, decidePort_own p silent _ (length_decidePort _ _ s hlen), decidePort_otherSide]

theorem decidePorts_only : PortsOnly s (decidePorts p silent s) := (decidePort_only _ _ s).trans (decidePort_only _ _ _)

theorem decidePorts_heard (hlen : s.time.ptp.length = 2) : (ptpPort p (decidePorts p silent s)).heard = (ptpPort p s).heard := by
  rw [decidePorts_own p silent s hlen, decidedPort, ptpState_heard]

end

/-! ## A slave-only port with one master -/

/-- What the decision reads besides the ports stays as it is. -/
theorem PortsOnly.role {s t : State} (h : PortsOnly s t) (p : Side) : ptpRole p t = ptpRole p s := by
  obtain ⟨ptp, utc, v, rfl⟩ : ∃ ptp utc v, t = withEvents { s with time := { s.time with ptp := ptp, utcPtp := utc } } v := ⟨_, _, _, h.eq⟩
  rfl

theorem PortsOnly.image {s t : State} (h : PortsOnly s t) : t.cfg = s.cfg := by
  obtain ⟨ptp, utc, v, rfl⟩ : ∃ ptp utc v, t = withEvents { s with time := { s.time with ptp := ptp, utcPtp := utc } } v := ⟨_, _, _, h.eq⟩
  rfl

section
variable {p : Side} {silent : Bool} {s : State}

theorem bestForeign_of_one {f : Foreign} (hheard : (ptpPort p s).heard = [f]) (h : qualifiedForeign (portIndex p) s f = true) :
    bestForeign p s = some f := by
  simp [bestForeign, hheard, h]

theorem bestForeign_of_none (hheard : (ptpPort p s).heard = []) : bestForeign p s = none := by
  simp [bestForeign, hheard]

theorem slaveChoice_of_disabled (hrole : ptpRole p s = 0) : slaveChoice p s = none := by
  cases h : bestForeign p s with
  | none => simp [slaveChoice, h]
  | some f => simp [slaveChoice, h, hrole]

theorem decidedState_of_slaveOnly {f : Foreign} (hbest : bestForeign p s = some f) (hrole : ptpRole p s = 1) (hother : ptpRole (otherSide p) s = 0) :
    decidedState p silent s = 9 := by
  have hchoice : slaveChoice p s = some f := by simp [slaveChoice, hbest, hrole]
  have hslave : isSlavePort p s = true := by rw [isSlavePort, hchoice, slaveChoice_of_disabled hother]
  rw [decidedState, if_neg (by omega), if_pos hslave]

/-- A port without foreign masters, whose Announces have ceased. -/
theorem decidedState_of_silent (hheard : (ptpPort p s).heard = []) (hrole : ptpRole p s ≠ 0) :
    decidedState p true s = if ptpRole p s = 1 then 4 else 6 := by
  have hnone := bestForeign_of_none hheard
  have hchoice : slaveChoice p s = none := by simp [slaveChoice, hnone]
  have hslave : isSlavePort p s = false := by rw [isSlavePort, hchoice]
  rw [decidedState, if_neg hrole, hslave, hnone]
  simp

/-- The port takes its master, and EV_061 follows the class. -/
theorem decidePort_of_master {f : Foreign} (hlen : s.time.ptp.length = 2) (hstate : decidedState p silent s = 9) (hbest : bestForeign p s = some f) :
    (ptpPort p (decidePort p silent s)).state = 9 ∧ (ptpPort p (decidePort p silent s)).parent = some f.sender ∧
      (ptpPort p (decidePort p silent s)).gmClass = f.clock.cls ∧ (decidePort p silent s).time.utcPtp = f.utc ∧
      (goodSlave (ptpPort p s) = true → goodClass f.clock.cls = false → eventActive 61 (decidePort p silent s) = true) := by
  have hmaster : masterOf p silent s = some f := (if_pos hstate).trans hbest
  have hport : decidedPort p silent s = ptpState 9 (some f.sender) f.clock.cls := by rw [decidedPort, hstate, hmaster]; rfl
  obtain ⟨hst, hparent, hclass⟩ := ptpState_spec 9 (some f.sender) f.clock.cls (ptpPort p s)
  have hown := decidePort_own p silent s hlen
  rw [hport] at hown
  refine ⟨by rw [hown, hst], by rw [hown, hparent], by rw [hown, hclass], ?_, fun hgood hbad => ?_⟩
  · rw [decidePort_eq, hmaster]
    rfl
  · have hraised : classLost p silent s = raise 61 (modPtp p (decidedPort p silent s) s) := by
      refine if_pos ?_
      rw [ptpPort_modPtp_same p _ s hlen, hport, hclass, hgood, hstate, hbad]
      rfl
    rw [decidePort_eq, hmaster, hraised]
    show eventActive 61 (raise 61 _) = true
    simp

end

/-! ## Messages on a station port -/

section
variable {p : Side} {h : PtpHeader} {s : State} (hruns : ptpRuns s = true)
include hruns

theorem ptpMessageRx_station (body : PtpBody) : exec (.ptpMessageRx p false h body) s = .next (stationRx p h body s) :=
  next_of_neg (by simp [hruns]) _ _

theorem ptpMessageRx_ring (body : PtpBody) : exec (.ptpMessageRx p true h body) s = .next (ringRx p h body s) :=
  next_of_neg (by simp [hruns]) _ _

theorem ptpMessageSend_station (kind seq : Nat) : exec (.ptpMessageSend p false kind seq) s = .next (stationSend p kind seq s) :=
  next_of_neg (by simp [hruns]) _ _

theorem ptpMessageSend_ring (kind seq : Nat) : exec (.ptpMessageSend p true kind seq) s = .next (ringSend p kind seq s) :=
  next_of_neg (by simp [hruns]) _ _

end

/-- The path delay is measured with the stamp claimed, or skipped without it. -/
def pathMeasured (p : Side) (delay : Nat → Int) (claimed : Option (Nat × State)) (s : State) : State :=
  match claimed with
  | some (t3, s) => modPtp p (fun q => { q with delayReq := none, delay := delay t3 }) s
  | none => modPtp p (fun q => { q with delayReq := none }) s

/-- The peer delay is measured with the stamp claimed, or skipped without it. -/
def peerMeasured (p : Side) (delay : Nat → Int) (claimed : Option (Nat × State)) (s : State) : State :=
  match claimed with
  | some (t1, s) => modRingPtp p (fun q => { q with peerDelay := delay t1 }) s
  | none => s

section
variable {p : Side} {h : PtpHeader} {s : State} (hrole : ptpRole p s ≠ 0) (hdomain : h.domain = (ptpPort p s).domain) (hversion : h.version = 2)
include hrole hdomain hversion

theorem stationRx_open : ¬ (ptpRole p s = 0 ∨ h.domain ≠ (ptpPort p s).domain ∨ h.version ≠ 2) := by simp [hrole, hdomain, hversion]

theorem stationRx_announce (c : ClockData) (utc : Option Int) :
    stationRx p h (.announce c utc) s = decidePorts p false (modPtp p (noteForeign h c utc) s) :=
  if_neg (stationRx_open hrole hdomain hversion)

variable (hstate : (ptpPort p s).state = 9) (hparent : (ptpPort p s).parent = some h.source)

omit hrole hdomain hversion in
include hstate hparent in
theorem fromMaster_of : fromMaster h (ptpPort p s) = true := by simp [fromMaster, hstate, hparent]

theorem stationRx_delayReq (hmaster : (ptpPort p s).state = 6) (rx : Int) :
    stationRx p h (.delayReq rx) s = send (.ptp p false { stationMessage p 6 h.seq s with
      time := arrivalStamp (stampPort false p) rx s, requester := h.source, correction := h.correction }) s :=
  (if_neg (stationRx_open hrole hdomain hversion)).trans (if_pos hmaster)

include hstate hparent

theorem stationRx_sync (rx : Int) :
    stationRx p h (.sync rx) s = modQual .ptp (fun k => { k with fresh := true })
      (modPtp p (fun q => { q with sync := some (h.seq, arrivalStamp (stampPort false p) rx s, h.correction), syncAge := 0 }) s) :=
  (if_neg (stationRx_open hrole hdomain hversion)).trans (if_pos (fromMaster_of hstate hparent))

theorem stationRx_followUp {origin rx : Nat} {corr : Int} (hsync : (ptpPort p s).sync = some (h.seq, rx, corr)) :
    stationRx p h (.followUp origin) s =
      modQual .ptp (sourceMeasured (roundDiv ((((rx : Int) - origin) * 65536 - (corr + h.correction) - (ptpPort p s).delay) * 1000) 65536) 0)
        (modPtp p (fun q => { q with sync := none, t12 := some (origin, rx, corr + h.correction) }) s) := by
  refine (if_neg (stationRx_open hrole hdomain hversion)).trans ?_
  show takeFollowUp p h origin s = _
  unfold takeFollowUp
  dsimp only
  rw [hsync]
  exact if_pos (by simp [fromMaster_of hstate hparent])

theorem stationRx_delayResp {rxTime t1 t2 : Nat} {c : Int} (hreq : (ptpPort p s).delayReq = some h.seq) (ht12 : (ptpPort p s).t12 = some (t1, t2, c)) :
    stationRx p h (.delayResp rxTime (ownPort false p)) s =
      pathMeasured p (fun t3 => roundDiv (((t2 : Int) - t1 + ((rxTime : Int) - t3)) * 65536 - c - h.correction) 2)
        (claimStamp (stampIdent false p 1 h.seq) s) s := by
  refine (if_neg (stationRx_open hrole hdomain hversion)).trans ?_
  show takeDelayResp p h rxTime (ownPort false p) s = _
  unfold takeDelayResp
  dsimp only
  rw [hreq, ht12]
  refine (if_pos (by simp [fromMaster_of hstate hparent])).trans ?_
  cases claimStamp (stampIdent false p 1 h.seq) s <;> rfl

end

section
variable {p : Side} {h : PtpHeader} {s : State} (hopen : s.rng.relayOpen = true)
include hopen

section
variable (hversion : h.version = 2)
include hversion

theorem ringRx_open : ¬ (!s.rng.relayOpen || h.version != 2) = true := by simp [hopen, hversion]

theorem ringRx_pdelayReq (rx : Int) : ringRx p h (.pdelayReq rx) s =
    sendRing (.ptp p true { kind := 3, seq := h.seq, domain := h.domain, source := ownPort true p
                            time := arrivalStamp (stampPort true p) rx s, requester := h.source })
      (modRingPtp p (fun q => { q with answer := some (h.seq, h.domain, h.source) }) s) :=
  if_neg (ringRx_open hopen hversion)

theorem ringRx_pdelayResp (hreq : (ringPtp p s).req = some h.seq) (rx : Int) (t2 : Nat) : ringRx p h (.pdelayResp rx t2 (ownPort true p)) s =
    modRingPtp p (fun q => { q with resp := some (t2, arrivalStamp (stampPort true p) rx s, h.correction) }) s :=
  (if_neg (ringRx_open hopen hversion)).trans (if_pos ⟨hreq, rfl⟩)

theorem ringRx_pdelayRespFollowUp {t2 t4 : Nat} {c : Int} (hreq : (ringPtp p s).req = some h.seq) (hresp : (ringPtp p s).resp = some (t2, t4, c)) (t3 : Nat) :
    ringRx p h (.pdelayRespFollowUp t3 (ownPort true p)) s =
      peerMeasured p (fun t1 => roundDiv ((((t4 : Int) - t1) - ((t3 : Int) - t2)) * 65536 - c - h.correction) 2)
        (claimStamp (stampIdent true p 2 h.seq) (modRingPtp p (fun q => { q with req := none, resp := none }) s))
        (modRingPtp p (fun q => { q with req := none, resp := none }) s) := by
  refine (if_neg (ringRx_open hopen hversion)).trans ?_
  show takePeerDelay p h t3 (ownPort true p) s = _
  unfold takePeerDelay
  dsimp only
  rw [hreq, hresp]
  refine (if_pos ⟨rfl, rfl⟩).trans ?_
  cases claimStamp (stampIdent true p 2 h.seq) (modRingPtp p (fun q => { q with req := none, resp := none }) s) <;> rfl

end

theorem ringSend_request (hdue : 2000 ≤ (ringPtp p s).reqAge) (n : Nat) : ringSend p 2 n s =
    sendRing (.ptp p true { kind := 2, seq := n, domain := 0, source := ownPort true p })
      (modRingPtp p (fun q => { q with req := some n, resp := none, reqAge := 0 }) s) :=
  (if_neg (by simp [hopen])).trans (if_pos ⟨rfl, hdue⟩)

end

section
variable {p : Side} {s : State}

theorem stationSend_sync (hstate : (ptpPort p s).state = 6) (hdue : logEpochs (s.cfg.image.ptpLogSync.getD (portIndex p) (-3)) ≤ (ptpPort p s).syncSent) (n : Nat) :
    stationSend p 0 n s = send (.ptp p false (stationMessage p 0 n s)) (modPtp p (fun q => { q with syncSent := 0 }) s) :=
  (if_pos hstate).trans (if_pos ⟨rfl, hdue⟩)

theorem stationSend_announce (hstate : (ptpPort p s).state = 6) (hdue : announceEpochs (portIndex p) s.cfg.image ≤ (ptpPort p s).announceSent) (n : Nat) :
    stationSend p 5 n s = send (.ptp p false { stationMessage p 5 n s with clock := some (announcedClock s), utc := utcOffset s })
      (modPtp p (fun q => { q with sentClass := sentClass s, announceSent := 0 }) s) :=
  (if_pos hstate).trans ((if_neg (by simp)).trans (if_pos ⟨rfl, hdue⟩))

theorem stationSend_followUp (hstate : (ptpPort p s).state = 6) {n : Nat} {e : Nat × Nat × Nat}
    (hstamp : s.time.txq.find? (·.1 == stampIdent false p 0 n) = some e) :
    stationSend p 4 n s = send (.ptp p false { stationMessage p 4 n s with time := e.2.1 })
      { s with time := { s.time with txq := s.time.txq.erase e } } := by
  refine (if_pos hstate).trans ((if_neg (by simp)).trans ((if_neg (by simp)).trans ((if_pos rfl).trans ?_)))
  rw [claimStamp_of_some hstamp]

theorem stationSend_delayReq (hstate : (ptpPort p s).state = 9) (n : Nat) :
    stationSend p 1 n s = send (.ptp p false (stationMessage p 1 n s)) (modPtp p (fun q => { q with delayReq := some n }) s) :=
  (if_neg (by omega)).trans (if_pos ⟨hstate, rfl⟩)

end

/-- The port's record and the queue of stamps may change, the other port's record does not. -/
def StationOnly (p : Side) (s t : State) : Prop :=
  ptpPort (otherSide p) t = ptpPort (otherSide p) s ∧
    t = { s with out := t.out, time := { s.time with ptp := t.time.ptp, txq := t.time.txq, quals := t.time.quals } }

/-- The same on the ring. -/
def RingPortOnly (p : Side) (s t : State) : Prop :=
  ringPtp (otherSide p) t = ringPtp (otherSide p) s ∧
    t = { s with out := t.out, rng := { s.rng with hsrSeq := t.rng.hsrSeq }, time := { s.time with ringPtp := t.time.ringPtp, txq := t.time.txq } }

theorem stationOnly_modPtp (p : Side) (f : PtpPort → PtpPort) (s : State) (txq : List (Nat × Nat × Nat)) (quals : List SourceQual) (out : List Sent) :
    StationOnly p s { modPtp p f s with out, time := { (modPtp p f s).time with txq, quals } } :=
  ⟨ptpPort_modPtp_other p f s, rfl⟩

theorem ringPortOnly_modRingPtp (p : Side) (f : RingPtp → RingPtp) (s : State) (txq : List (Nat × Nat × Nat)) (seq : Nat) (out : List Sent) :
    RingPortOnly p s { modRingPtp p f s with
      out, rng := { s.rng with hsrSeq := seq }, time := { (modRingPtp p f s).time with txq } } :=
  ⟨ringPtp_modRingPtp_other p f s, rfl⟩

/-- The announcement of the one clock that a slave-only port has heard. -/
theorem announce_of_slaveOnly {p : Side} {h : PtpHeader} {s : State} {c : ClockData} {utc : Option Int} {f : Foreign}
    (hlen : s.time.ptp.length = 2) (hrole : ptpRole p s = 1) (hother : ptpRole (otherSide p) s = 0) (hheard : (ptpPort p s).heard = [f])
    (hsender : f.sender = h.source) (hage : f.age < 4 * announceEpochs (portIndex p) s.cfg.image) (hsteps : c.steps < 255)
    (hidentity : c.identity ≠ Cfg.clockIdentity) (hsource : h.source / 65536 ≠ Cfg.clockIdentity) :
    let t := decidePorts p false (modPtp p (noteForeign h c utc) s)
    (ptpPort p t).state = 9 ∧ (ptpPort p t).parent = some h.source ∧ (ptpPort p t).gmClass = c.cls ∧ t.time.utcPtp = utc ∧
      (goodSlave (ptpPort p s) = true → goodClass c.cls = false → eventActive 61 t = true) := by
  have hnoted := ptpPort_modPtp_same p (noteForeign h c utc) s hlen
  have honly := (PortsOnly.modPtp p (noteForeign h c utc) s).trans (decidePort_only (otherSide p) false _)
  have hport : ptpPort p (decidePort (otherSide p) false (modPtp p (noteForeign h c utc) s)) = noteForeign h c utc (ptpPort p s) :=
    (decidePort_otherSide p false _).trans hnoted
  have hlen' := length_decidePort (otherSide p) false (modPtp p (noteForeign h c utc) s) ((length_modPtp p _ s).trans hlen)
  show _ ∧ _
  unfold decidePorts
  generalize decidePort (otherSide p) false (modPtp p (noteForeign h c utc) s) = u at honly hport hlen'
  have hheard' : (ptpPort p u).heard = [{ sender := h.source, clock := c, utc, gap := some f.age }] := by
    rw [hport]
    simp [noteForeign, hheard, hsender]
  have hqualified : qualifiedForeign (portIndex p) u { sender := h.source, clock := c, utc, gap := some f.age } = true := by
    simp [qualifiedForeign, honly.image, hage, hsteps, hidentity, hsource]
  have hbest := bestForeign_of_one hheard' hqualified
  have hstate := decidedState_of_slaveOnly (silent := false) hbest ((honly.role p).trans hrole) ((honly.role _).trans hother)
  have hgood : goodSlave (ptpPort p u) = goodSlave (ptpPort p s) := by
    rw [hport]
    rfl
  rw [← hgood]
  exact decidePort_of_master hlen' hstate hbest

/-- Settles O32: the station ports (R250), the ring ports (R251) and the queue of transmit stamps (R253). -/
theorem ptpPortsAndStampsFollowTheirState : Obligations.PtpPortsAndStampsFollowTheirState := by
  refine ⟨fun p h s hruns hrole hptp hquals => ?station, fun p h s hruns hopen hring hversion => ?ring, fun ident tick s => ?queue⟩
  case station =>
    have hsame (f : PtpPort → PtpPort) := ptpPort_modPtp_same p f s hptp
    have hqual (g : SourceQual → SourceQual) (f : PtpPort → PtpPort) : qualOf .ptp (modQual .ptp g (modPtp p f s)) = g (qualOf .ptp s) :=
      qualOf_modQual_same g (s := modPtp p f s) hquals
    refine ⟨fun hwrong body => ?_, fun hdomain hversion => ⟨fun c utc => ?_, fun rx hstate hparent => ?_, fun origin rx corr hstate hparent hsync => ?_,
      fun rxTime t1 t2 c hstate hparent hreq ht12 => ⟨fun e hstamp => ?_, fun hstamp => ?_⟩, fun rx hmaster => ?_⟩,
      fun n hmaster hdue => ?_, fun n hmaster hdue => ?_, fun n e hmaster hstamp => ?_, fun n hslave => ?_, fun hslave hage => ?_, fun hage => ?_⟩
    · exact (ptpMessageRx_station hruns body).trans (congrArg _ (if_pos (.inr hwrong)))
    · have hexec := ptpMessageRx_station (p := p) (h := h) hruns (.announce c utc)
      rw [stationRx_announce hrole hdomain hversion] at hexec
      have hlen := (length_modPtp p (noteForeign h c utc) s).trans hptp
      refine ⟨_, hexec, (decidePorts_heard p false _ hlen).trans (congrArg PtpPort.heard (hsame _)),
        ((PortsOnly.modPtp p _ s).trans (decidePorts_only p false _)).eq, fun f hslave hother hheard hsender hage hsteps hidentity hsource => ?_⟩
      exact announce_of_slaveOnly hptp hslave hother hheard hsender hage hsteps hidentity hsource
    · have hexec := ptpMessageRx_station (p := p) (h := h) hruns (.sync rx)
      rw [stationRx_sync hrole hdomain hversion hstate hparent] at hexec
      refine ⟨_, hexec, hsame _, ?_, stationOnly_modPtp p _ s s.time.txq _ s.out⟩
      rw [hqual]
    · have hexec := ptpMessageRx_station (p := p) (h := h) hruns (.followUp origin)
      rw [stationRx_followUp hrole hdomain hversion hstate hparent hsync] at hexec
      refine ⟨_, hexec, hsame _, ?_, fun y hy => qualOf_modQual_other _ hy, stationOnly_modPtp p _ s s.time.txq _ s.out⟩
      rw [hqual, sourceMeasured]
    · have hexec := ptpMessageRx_station (p := p) (h := h) hruns (.delayResp rxTime (ownPort false p))
      rw [stationRx_delayResp hrole hdomain hversion hstate hparent hreq ht12, claimStamp_of_some hstamp] at hexec
      exact ⟨_, hexec, hsame _, rfl, stationOnly_modPtp p _ s _ s.time.quals s.out⟩
    · have hexec := ptpMessageRx_station (p := p) (h := h) hruns (.delayResp rxTime (ownPort false p))
      rw [stationRx_delayResp hrole hdomain hversion hstate hparent hreq ht12, claimStamp_of_none hstamp] at hexec
      exact ⟨_, hexec, hsame _, stationOnly_modPtp p _ s s.time.txq s.time.quals s.out⟩
    · have hexec := ptpMessageRx_station (p := p) (h := h) hruns (.delayReq rx)
      rwa [stationRx_delayReq hrole hdomain hversion hmaster] at hexec
    · have hexec := ptpMessageSend_station (p := p) hruns 0 n
      rw [stationSend_sync hmaster hdue] at hexec
      exact ⟨_, hexec, rfl, hsame _, stationOnly_modPtp p _ s s.time.txq s.time.quals _⟩
    · have hexec := ptpMessageSend_station (p := p) hruns 5 n
      rw [stationSend_announce hmaster hdue] at hexec
      exact ⟨_, hexec, rfl, hsame _, stationOnly_modPtp p _ s s.time.txq s.time.quals _⟩
    · have hexec := ptpMessageSend_station (p := p) hruns 4 n
      rw [stationSend_followUp hmaster hstamp] at hexec
      exact ⟨_, hexec, rfl, rfl, rfl, rfl, rfl⟩
    · have hexec := ptpMessageSend_station (p := p) hruns 1 n
      rw [stationSend_delayReq hslave] at hexec
      exact ⟨_, hexec, rfl, hsame _, stationOnly_modPtp p _ s s.time.txq s.time.quals _⟩
    · have hlen := (length_modPtp p (fun q => { q with heard := [] }) s).trans hptp
      have honly := (PortsOnly.modPtp p (fun q => { q with heard := [] }) s).trans (decidePort_only (otherSide p) false _)
      have hport : ptpPort p (decidePort (otherSide p) false (modPtp p (fun q => { q with heard := [] }) s)) = { ptpPort p s with heard := [] } :=
        (decidePort_otherSide p false _).trans (hsame _)
      refine ⟨_, next_of_pos ⟨hruns, hrole, hslave, hage⟩ _ _, ?_, (decidePorts_heard p true _ hlen).trans (congrArg PtpPort.heard (hsame _)),
        ((PortsOnly.modPtp p _ s).trans (decidePorts_only p true _)).eq⟩
      rw [decidePorts_own p true _ hlen, decidedPort, (ptpState_spec _ _ _ _).1, decidedState_of_silent (by rw [hport]) (by rwa [honly.role]),
        honly.role]
    · exact next_of_neg (by omega) _ _
  case ring =>
    have hsame (f : RingPtp → RingPtp) := ringPtp_modRingPtp_same p f s hring
    refine ⟨fun rx => ?_, fun rx t2 hreq => ?_, fun t3 t2 t4 c hreq hresp => ⟨fun e hstamp => ?_, fun hstamp => ?_⟩, fun n hdue => ?_⟩
    · have hexec := ptpMessageRx_ring (p := p) (h := h) hruns (.pdelayReq rx)
      rw [ringRx_pdelayReq hopen hversion] at hexec
      exact ⟨_, hexec, rfl, hsame _, ringPortOnly_modRingPtp p _ s s.time.txq _ _⟩
    · have hexec := ptpMessageRx_ring (p := p) (h := h) hruns (.pdelayResp rx t2 (ownPort true p))
      rw [ringRx_pdelayResp hopen hversion hreq] at hexec
      exact ⟨_, hexec, hsame _, ringPortOnly_modRingPtp p _ s s.time.txq s.rng.hsrSeq s.out⟩
    · have hexec := ptpMessageRx_ring (p := p) (h := h) hruns (.pdelayRespFollowUp t3 (ownPort true p))
      rw [ringRx_pdelayRespFollowUp hopen hversion hreq hresp,
        claimStamp_of_some (s := modRingPtp p (fun q => { q with req := none, resp := none }) s) hstamp] at hexec
      have hlen := (length_modRingPtp p (fun q => { q with req := none, resp := none }) s).trans hring
      have hcleared := hsame (fun q => { q with req := none, resp := none })
      refine ⟨_, hexec, (ringPtp_modRingPtp_same p _ _ hlen).trans ?_, rfl,
        (ringPtp_modRingPtp_other p _ _).trans (ringPtp_modRingPtp_other p _ s), rfl⟩
      show ({ ringPtp p (modRingPtp p (fun q => { q with req := none, resp := none }) s) with peerDelay := _ } : RingPtp) = _
      rw [hcleared]
    · have hexec := ptpMessageRx_ring (p := p) (h := h) hruns (.pdelayRespFollowUp t3 (ownPort true p))
      rw [ringRx_pdelayRespFollowUp hopen hversion hreq hresp,
        claimStamp_of_none (s := modRingPtp p (fun q => { q with req := none, resp := none }) s) hstamp] at hexec
      exact ⟨_, hexec, hsame _, ringPortOnly_modRingPtp p _ s s.time.txq s.rng.hsrSeq s.out⟩
    · have hexec := ptpMessageSend_ring (p := p) hruns 2 n
      rw [ringSend_request hopen hdue] at hexec
      exact ⟨_, hexec, rfl, hsame _, ringPortOnly_modRingPtp p _ s s.time.txq _ _⟩
  case queue =>
    refine ⟨fun hruns hroom => ?_, fun hruns hfull => ?_, ⟨_, rfl, rfl, fun e he => by simp [he]⟩⟩
    · exact (next_of_pos hruns _ _).trans (congrArg _ (if_pos hroom))
    · exact ⟨_, (next_of_pos hruns _ _).trans (congrArg _ (if_neg (by omega))), raised_raise 45 _⟩

end Sys2Proof.Machine
end

section
/-! The GNSS engines: solutions, channels, multipath, loss and antenna supplies (R222 to R233). -/

namespace Sys2Proof.Machine

/-! ## One antenna -/

section
variable (e : Side) (f : AntennaPort → AntennaPort) (s : State)

theorem antennaOf_modAntenna_same (a : Nat) : antennaOf e a (modAntenna e a f s) = f (antennaOf e a s) := by
  by_cases h : a = 0 <;> cases e <;> simp [antennaOf, modAntenna, modEngine, engineOf, h]

theorem antennaOf_modAntenna_other {a b : Nat} (h : a = 0 ↔ b ≠ 0) : antennaOf e b (modAntenna e a f s) = antennaOf e b s := by
  by_cases ha : a = 0
  · have hb := h.mp ha
    cases e <;> simp [antennaOf, modAntenna, modEngine, engineOf, ha, hb]
  · have hb : b = 0 := by simpa using (not_congr h).mp ha
    cases e <;> simp [antennaOf, modAntenna, modEngine, engineOf, ha, hb]

theorem engineOf_modAntenna_other (a : Nat) : engineOf (otherSide e) (modAntenna e a f s) = engineOf (otherSide e) s :=
  engineOf_modEngine_other e _ s

theorem modEngine_eq (g : Engine → Engine) :
    modEngine e g s = { s with gnA := (modEngine e g s).gnA, gnB := (modEngine e g s).gnB } := by
  cases e <;> rfl

end

theorem other_antenna {a : Nat} (h : a < 2) : a = 0 ↔ 1 - a ≠ 0 := by omega

/-- The two states differ in their engines and their event state at most. -/
structure EnginesOnly (s t : State) : Prop where
  eq : t = withEvents { s with gnA := t.gnA, gnB := t.gnB } t

namespace EnginesOnly

theorem refl (s : State) : EnginesOnly s s := ⟨rfl⟩

theorem modEngine (e : Side) (g : Engine → Engine) (s : State) : EnginesOnly s (modEngine e g s) := ⟨by cases e <;> rfl⟩

theorem modAntenna (e : Side) (a : Nat) (f : AntennaPort → AntennaPort) (s : State) : EnginesOnly s (modAntenna e a f s) := modEngine e _ s

theorem trans {s t u : State} (hst : EnginesOnly s t) (htu : EnginesOnly t u) : EnginesOnly s u := by
  obtain ⟨a, b, v, rfl⟩ : ∃ a b v, t = withEvents { s with gnA := a, gnB := b } v := ⟨_, _, _, hst.eq⟩
  exact ⟨htu.eq⟩

theorem events {s t u : State} (hst : EnginesOnly s t) (htu : EventsOnly t u) : EnginesOnly s u := by
  obtain ⟨a, b, v, rfl⟩ : ∃ a b v, t = withEvents { s with gnA := a, gnB := b } v := ⟨_, _, _, hst.eq⟩
  obtain ⟨w, rfl⟩ : ∃ w, u = withEvents (withEvents { s with gnA := a, gnB := b } v) w := ⟨_, htu.eq⟩
  exact ⟨rfl⟩

end EnginesOnly

theorem antennaOf_of_events {s t : State} (h : EventsOnly s t) (e : Side) (a : Nat) : antennaOf e a t = antennaOf e a s := by
  obtain ⟨v, rfl⟩ : ∃ v, t = withEvents s v := ⟨_, h.eq⟩
  rfl

theorem engineOf_of_events {s t : State} (h : EventsOnly s t) (e : Side) : engineOf e t = engineOf e s := by
  obtain ⟨v, rfl⟩ : ∃ v, t = withEvents s v := ⟨_, h.eq⟩
  rfl

/-! ## Antenna supplies (R222) -/

theorem antennaBad_of_events {s t : State} (h : EventsOnly s t) : antennaBad t = antennaBad s := by
  obtain ⟨v, rfl⟩ : ∃ v, t = withEvents s v := ⟨_, h.eq⟩
  rfl

/-- EV_072 follows the four inputs. -/
theorem antennaEvent_spec (s : State) : EventsOnly s (antennaEvent s) ∧ eventActive 72 (antennaEvent s) = antennaBad (antennaEvent s) := by
  refine ⟨EventsOnly.condition 72 _ s, ?_⟩
  have hbad : antennaBad (antennaEvent s) = antennaBad s := antennaBad_of_events (EventsOnly.condition 72 _ s)
  rw [hbad, antennaEvent]
  simp

/-- An input that is open or short is a bad one. -/
theorem antennaBad_of_state {e : Side} {a : Nat} {s : State} (h : (antennaOf e a s).state = 1 ∨ (antennaOf e a s).state = 2) : antennaBad s = true := by
  have hmem : antennaOf e a s ∈ [s.gnA.ant0, s.gnA.ant1, s.gnB.ant0, s.gnB.ant1] := by
    by_cases ha : a = 0 <;> cases e <;> simp [antennaOf, engineOf, ha]
  exact List.any_eq_true.mpr ⟨_, hmem, by simpa using h⟩

section
variable {e : Side} {a : Nat} {s : State} (ha : a < 2) (f : AntennaPort → AntennaPort)

/-- An input that takes a new state, with EV_072 after it. -/
theorem antennaSet_spec : antennaOf e a (antennaEvent (modAntenna e a f s)) = f (antennaOf e a s) ∧
    EnginesOnly s (antennaEvent (modAntenna e a f s)) ∧
    eventActive 72 (antennaEvent (modAntenna e a f s)) = antennaBad (antennaEvent (modAntenna e a f s)) := by
  obtain ⟨hevents, hactive⟩ := antennaEvent_spec (modAntenna e a f s)
  exact ⟨(antennaOf_of_events hevents e a).trans (antennaOf_modAntenna_same e f s a), (EnginesOnly.modAntenna e a f s).events hevents, hactive⟩

include ha in
theorem antennaSet_other : antennaOf e (1 - a) (antennaEvent (modAntenna e a f s)) = antennaOf e (1 - a) s :=
  (antennaOf_of_events (antennaEvent_spec _).1 e (1 - a)).trans (antennaOf_modAntenna_other e f s (other_antenna ha))

/-- Where the new state is open or short, EV_072 stands. -/
theorem antennaSet_bad (h : (f (antennaOf e a s)).state = 1 ∨ (f (antennaOf e a s)).state = 2) :
    eventActive 72 (antennaEvent (modAntenna e a f s)) = true := by
  obtain ⟨hown, -, hactive⟩ := antennaSet_spec (e := e) (a := a) (s := s) f
  rw [hactive]
  exact antennaBad_of_state (e := e) (a := a) (hown ▸ h)

end

/-- Settles O35: short, open and retry (R222). -/
theorem antennaFaultsRaiseAndClear : Obligations.AntennaFaultsRaiseAndClear := by
  refine fun e a s ha => ⟨fun hsupplied => ⟨fun ma hma => ?_, fun ma hma => ?_, fun hlow => ?_⟩, fun hstate hcut => ⟨?_, ?_⟩, fun hstate hcut b => ?_⟩
  · obtain ⟨hown, honly, -⟩ := antennaSet_spec (e := e) (a := a) (s := s)
      (fun p => { p with supplied := false, state := 2, cutFor := 0, low := 0, current := min 255 ma })
    exact ⟨_, next_of_pos ⟨hsupplied, hma⟩ _ _, hown, antennaSet_bad _ (.inr rfl), antennaSet_other ha _, honly.eq⟩
  · exact next_of_neg (fun h => absurd h.2 (Nat.not_lt.mpr hma)) _ _
  · obtain ⟨hown, honly, -⟩ := antennaSet_spec (e := e) (a := a) (s := s) (fun p => { p with state := 1 })
    exact ⟨_, next_of_pos ⟨hsupplied, hlow⟩ _ _, hown, antennaSet_bad _ (.inl rfl), antennaSet_other ha _, honly.eq⟩
  · exact ⟨_, (next_of_pos ⟨hstate, hcut⟩ _ _).trans (congrArg _ (if_pos rfl)), antennaOf_modAntenna_same e _ s a,
      antennaOf_modAntenna_other e _ s (other_antenna ha), modEngine_eq e s _⟩
  · obtain ⟨hown, -, hactive⟩ := antennaSet_spec (e := e) (a := a) (s := s) (fun p => { p with supplied := true, state := 0, cutFor := 0 })
    exact ⟨_, (next_of_pos ⟨hstate, hcut⟩ _ _).trans (congrArg _ (if_neg (by simp))), hown, antennaSet_other ha _, hactive⟩
  · exact next_of_neg (fun h => absurd h.2 (Nat.not_le.mpr hcut)) _ _

/-! ## Channels (R223) -/

/-- Channels that a list of satellites takes. -/
def channelSum (l : List Satellite) : Nat := (l.map channelsOf).sum

/-- While satellites take their channels, these are counted and are at most 60. -/
def fillStep (a : List Satellite × Nat) (v : Satellite) : List Satellite × Nat :=
  if a.1.contains v ∨ a.2 + channelsOf v > antennaChannels then a else (a.1 ++ [v], a.2 + channelsOf v)

theorem fillStep_counts {a : List Satellite × Nat} (h : a.2 = channelSum a.1 ∧ a.2 ≤ 60) (v : Satellite) :
    (fillStep a v).2 = channelSum (fillStep a v).1 ∧ (fillStep a v).2 ≤ 60 := by
  unfold fillStep
  split
  · exact h
  · next hfits =>
    obtain ⟨-, hroom⟩ := not_or.mp hfits
    refine ⟨?_, Nat.le_of_not_lt hroom⟩
    simp [channelSum, h.1]

theorem fillChannels_sum (l : List Satellite) : channelSum (fillChannels l) ≤ 60 := by
  have hfold (l : List Satellite) : ∀ a : List Satellite × Nat, a.2 = channelSum a.1 ∧ a.2 ≤ 60 →
      (l.foldl fillStep a).2 = channelSum (l.foldl fillStep a).1 ∧ (l.foldl fillStep a).2 ≤ 60 := by
    induction l with
    | nil => exact fun a h => h
    | cons v l ih => exact fun a h => ih _ (fillStep_counts h v)
  obtain ⟨hsum, hle⟩ := hfold l ([], 0) ⟨rfl, Nat.zero_le _⟩
  exact hsum ▸ hle

theorem length_allocate (old : List Channel) (l : List Satellite) : (l.flatMap (allocate old)).length = channelSum l := by
  simp [List.length_flatMap, allocate, channelSum]

/-- An antenna takes its channels in the order of R223. -/
def antennaFilled (order : List Satellite) (a : AntennaPort) : AntennaPort := { a with channels := (fillChannels order).flatMap (allocate a.channels) }

theorem antennaFilled_le (order : List Satellite) (a : AntennaPort) : (antennaFilled order a).channels.length ≤ 60 := by
  rw [antennaFilled, length_allocate]
  exact fillChannels_sum order

/-- The order of the satellites that an antenna sees. -/
def seenOrder (e : Side) (v : List Satellite) (s : State) : List Satellite :=
  channelOrder s.cfg.image.sbasNamed s.cfg.image.elevation (gnssRef e s).enable v

/-- Both antennas of an engine have taken their channels. -/
def reallocated (e : Side) (v0 v1 : List Satellite) (s : State) : State :=
  modEngine e (fun g => { g with lastAlloc := some (counterSeconds s) })
    (modAntenna e 1 (antennaFilled (seenOrder e v1 s)) (modAntenna e 0 (antennaFilled (seenOrder e v0 s)) s))

theorem counterSeconds_modEngine (e : Side) (g : Engine → Engine) (s : State) : counterSeconds (modEngine e g s) = counterSeconds s := by
  rw [counterSeconds, modEngine_time, counterSeconds]

theorem channelReallocation_of_due {e : Side} {s : State} (hruns : clockRuns s = true) (hdue : (engineOf e s).lastAlloc ≠ some (counterSeconds s))
    (v0 v1 : List Satellite) : exec (.channelReallocation e v0 v1) s = .next (reallocated e v0 v1 s) := by
  have hsame (f g : AntennaPort → AntennaPort) : counterSeconds (modAntenna e 1 f (modAntenna e 0 g s)) = counterSeconds s :=
    (counterSeconds_modEngine e _ _).trans (counterSeconds_modEngine e _ s)
  refine (next_of_pos ⟨hruns, hdue⟩ _ _).trans (congrArg _ ?_)
  exact congrArg (fun n => modEngine e (fun g => { g with lastAlloc := some n })
    (modAntenna e 1 (antennaFilled (seenOrder e v1 s)) (modAntenna e 0 (antennaFilled (seenOrder e v0 s)) s))) (hsame _ _)

theorem reallocated_spec (e : Side) (v0 v1 : List Satellite) (s : State) :
    antennaOf e 0 (reallocated e v0 v1 s) = antennaFilled (seenOrder e v0 s) (antennaOf e 0 s) ∧
      antennaOf e 1 (reallocated e v0 v1 s) = antennaFilled (seenOrder e v1 s) (antennaOf e 1 s) ∧
      (engineOf e (reallocated e v0 v1 s)).lastAlloc = some (counterSeconds s) ∧
      engineOf (otherSide e) (reallocated e v0 v1 s) = engineOf (otherSide e) s ∧
      reallocated e v0 v1 s = { s with gnA := (reallocated e v0 v1 s).gnA, gnB := (reallocated e v0 v1 s).gnB } := by
  unfold reallocated
  generalize antennaFilled (seenOrder e v0 s) = f0
  generalize antennaFilled (seenOrder e v1 s) = f1
  generalize counterSeconds s = n
  cases e <;> exact ⟨rfl, rfl, rfl, rfl, rfl⟩

/-! ## Multipath (R225) -/

/-- What a due fit leaves of its channel. -/
theorem fitChannel_of_due {img : Image} {now : Nat} {c : Channel} (h : c.fitted ≠ some now) :
    let amp := (Cfg.reflection c.system c.band (tapOffsets.map fun o => (tapAt c o).natAbs)).1
    let d := fitChannel img now c
    d = { c with amplitude := amp, delay := d.delay, fitted := some now, flagged := d.flagged, excluded := d.excluded } ∧
      50 ≤ d.delay ∧ d.delay ≤ 1000 ∧ (img.mpFlag < amp → d.flagged = true) ∧ (amp < img.mpFlag → d.flagged = false) ∧
      d.excluded = decide (img.mpExclude < amp) := by
  unfold fitChannel
  rw [if_neg h]
  refine ⟨rfl, le_max_left _ _, max_le (by decide) (min_le_left _ _), fun hover => if_pos hover, fun hunder => ?_, rfl⟩
  exact (if_neg (by omega)).trans (if_pos hunder)

/-- The signals of an antenna, one of them fitted. -/
def antennaFitted (img : Image) (now sig : Nat) (a : AntennaPort) : AntennaPort := { a with channels := modAt a.channels sig (fitChannel img now) }

/-- Some signal is newly excluded. -/
def newlyExcluded (old new : List Channel) : Bool :=
  (List.zipWith (fun b a => !b && a) (old.map (·.excluded)) (new.map (·.excluded))).any (·)

theorem newlyExcluded_of_one {old new : List Channel} {i : Nat} {c d : Channel} (hc : old[i]? = some c) (hd : new[i]? = some d)
    (hwas : c.excluded = false) (his : d.excluded = true) : newlyExcluded old new = true := by
  refine List.any_eq_true.mpr ⟨true, List.mem_of_getElem? (i := i) ?_, rfl⟩
  simp [List.getElem?_zipWith, hc, hd, hwas, his]

/-- EV_074 is raised where a signal is newly excluded in a unit that is not mirrored. -/
def fitEvent (new : Bool) (s : State) : State := if new && !isMirrored s then raise 74 s else s

theorem fitEvent_events (new : Bool) (s : State) : EventsOnly s (fitEvent new s) := by
  unfold fitEvent
  split
  · exact EventsOnly.raise 74 s
  · exact EventsOnly.refl s

section
variable (e : Side) (a sig : Nat) (s : State)

/-- The engine with the signal fitted. -/
def fitted : State := modAntenna e a (antennaFitted s.cfg.image (counterSeconds s) sig) s

theorem multipathFit_eq (hruns : clockRuns s = true) : exec (.multipathFit e a sig) s =
    .next (fitEvent (newlyExcluded (antennaOf e a s).channels (antennaOf e a (fitted e a sig s)).channels) (fitted e a sig s)) :=
  next_of_pos hruns _ _

end

/-! ## Loss (R233) -/

theorem gnssRef_modGnssRef (e : Side) (f : GnssRef → GnssRef) (s : State) :
    gnssRef e (modGnssRef e f s) = f (gnssRef e s) ∧ gnssRef (otherSide e) (modGnssRef e f s) = gnssRef (otherSide e) s := by
  cases e <;> exact ⟨rfl, rfl⟩

theorem gnssRef_of_events {s t : State} (h : EventsOnly s t) (e : Side) : gnssRef e t = gnssRef e s := by
  obtain ⟨v, rfl⟩ : ∃ v, t = withEvents s v := ⟨_, h.eq⟩
  rfl

/-- Settles O34: channels (R223), multipath (R225) and loss (R233). -/
theorem gnssEnginesReallocateFitAndAreLost : Obligations.GnssEnginesReallocateFitAndAreLost := by
  refine fun e s => ⟨fun v0 v1 hruns hdue => ?_, fun a sig c hruns ha hc hdue => ?_, fun hsilent => ?_⟩
  · obtain ⟨h0, h1, hlast, hother, honly⟩ := reallocated_spec e v0 v1 s
    have hseconds : counterSeconds (reallocated e v0 v1 s) = counterSeconds s := by rw [honly]; rfl
    refine ⟨_, channelReallocation_of_due hruns hdue v0 v1, by rw [h0]; rfl, by rw [h1]; rfl, h0 ▸ antennaFilled_le _ _, h1 ▸ antennaFilled_le _ _, hlast,
      hother, honly, next_of_neg ?_ _ _⟩
    rw [hlast, hseconds]
    simp
  · have hown : antennaOf e a (fitted e a sig s) = antennaFitted s.cfg.image (counterSeconds s) sig (antennaOf e a s) :=
      antennaOf_modAntenna_same e _ s a
    have hevents := fitEvent_events (newlyExcluded (antennaOf e a s).channels (antennaOf e a (fitted e a sig s)).channels) (fitted e a sig s)
    have hafter := (antennaOf_of_events hevents e a).trans hown
    have hd : (antennaFitted s.cfg.image (counterSeconds s) sig (antennaOf e a s)).channels[sig]? =
        some (fitChannel s.cfg.image (counterSeconds s) c) := by
      simp [antennaFitted, modAt, hc]
    obtain ⟨hshape, hlow, hhigh, hflag, hclear, hexcluded⟩ := fitChannel_of_due (img := s.cfg.image) hdue
    refine ⟨_, _, multipathFit_eq e a sig s hruns, by rw [hafter, hd], hshape, hlow, hhigh, hflag, hclear, fun hover => ?_, fun hunder => ?_,
      fun hwas his hmirrored => ?_, fun k hk => ?_, ?_, ?_, ?_⟩
    · rw [hexcluded]
      exact decide_eq_true hover
    · rw [hexcluded]
      exact decide_eq_false (Nat.not_lt.mpr hunder)
    · have hnew := newlyExcluded_of_one hc hd hwas his
      have hsame : isMirrored (fitted e a sig s) = isMirrored s := by cases e <;> rfl
      rw [hown, fitEvent, hnew, hsame, hmirrored]
      simp
    · rw [hafter]
      simp [antennaFitted, modAt, hk.symm]
    · exact (antennaOf_of_events hevents e (1 - a)).trans (antennaOf_modAntenna_other e _ s (other_antenna ha))
    · exact (engineOf_of_events hevents (otherSide e)).trans (engineOf_modAntenna_other e _ s a)
    · exact ((EnginesOnly.modAntenna e a _ s).events hevents).eq
  · obtain ⟨hown, hother⟩ := gnssRef_modGnssRef e (fun g => { g with lost := true }) s
    have hevents := EventsOnly.raise (gnssEvent e) (modGnssRef e (fun g => { g with lost := true }) s)
    refine ⟨_, next_of_pos hsilent _ _, ?_, ?_, ?_, ?_, ?_⟩
    · rw [gnssRef_of_events hevents, hown]
    · cases e <;> simp [gnssEvent]
    · rw [gnssRef_of_events hevents, hother]
    · exact (congrArg State.gnA hevents.eq).trans (by cases e <;> rfl)
    · exact (congrArg State.gnB hevents.eq).trans (by cases e <;> rfl)

/-! ## Solutions (R226 to R230) -/

/-- The octets of a position record before its values, its values, and the rest. -/
theorem positionPayload_octets (antenna : Nat) (holdover : Bool) (tov : Nat) (limit : Int) (o : PositionOutcome) (start : AntennaObs) :
    (positionPayload antenna holdover tov limit o start).length = 60 ∧
      octets (positionPayload antenna holdover tov limit o start) 0 1 = antenna % 256 ∧
      (octets (positionPayload antenna holdover tov limit o start) 1 1 ≠ 0 ↔ positionHolds limit o antenna = true) := by
  have hfix (l : List RangeMeas) : fixCode l % 256 ≠ 0 := by
    unfold fixCode
    split
    · split <;> decide
    · decide
  unfold positionPayload offsetField
  refine ⟨by simp, ?_, ?_⟩
  · simp (disch := simp) only [octets_append_left, Nat.reduceAdd, octets_beBytes, Nat.reducePow]
  · simp (disch := simp) only [octets_append_left, octets_append_right, length_beBytes, Nat.reduceAdd, Nat.sub_self, octets_beBytes, Nat.reducePow]
    by_cases hholds : positionHolds limit o antenna = true
    · simp only [hholds, if_true]
      simpa using hfix _
    · simp [hholds]

/-- The engine of a solution after it, its records not yet delivered. -/
def solved (g : GnssSolution) (s : State) : State :=
  modEngine g.engine (engineAfter g (trackChannels g s).cfg.image.pdop (solutionOf g (trackChannels g s))) (trackChannels g s)

/-- The record of one antenna. -/
def deliverPosition (g : GnssSolution) (o : PositionOutcome) (i : Nat) (a : AntennaObs) (s : State) : State :=
  ingest (gnssSource g.engine s) (readingAt g.tick s) g.tov false (positionPayload i (holdoverAt g.tov s) g.tov s.cfg.image.pdop o a) s

/-- The broadcast UTC offset is kept. -/
def utcKept (u : Option Int) (s : State) : State :=
  match u with
  | some u => { s with time := { s.time with utcGps := some u } }
  | none => s

theorem gnssSolution_of_instant {g : GnssSolution} {s : State} (hruns : clockRuns s = true)
    (hinstant : outputInstant g.engine g.tov (readingAt g.tick s) s = true) :
    exec (.gnssSolution g) s = .next (deliverPosition g (solutionOf g (trackChannels g (utcKept g.utcOffset s))) 1 g.ant1
      (deliverPosition g (solutionOf g (trackChannels g (utcKept g.utcOffset s))) 0 g.ant0 (solved g (utcKept g.utcOffset s)))) := by
  refine (next_of_pos ⟨hruns, hinstant⟩ _ _).trans (congrArg _ ?_)
  cases g.utcOffset <;> rfl

/-- A record that is formed, and what forming it leaves. -/
theorem ingest_spec {s : State} (hforms : formsRecords s = true) (source stamp tov : Nat) (tagged : Bool) (payload : List Byte) :
    ∃ r : InRecord, (ingest source stamp tov tagged payload s).ex.buffer = s.ex.buffer ++ [{ item := r }] ∧ r.source = source ∧ r.stamp = stamp ∧
      r.tov = tov ∧ r.seq = nextSeq source s ∧ r.payload = payload ∧ r.origin = s.um.unit ∧
      nextSeq source (ingest source stamp tov tagged payload s) = (r.seq + 1) % 2 ^ 32 ∧
      ingest source stamp tov tagged payload s = { s with
        ex := { s.ex with buffer := (ingest source stamp tov tagged payload s).ex.buffer, seqs := (ingest source stamp tov tagged payload s).ex.seqs } } := by
  rw [show ingest source stamp tov tagged payload s = putRecord source stamp tov tagged (holdoverAt tov s) payload s from if_pos hforms]
  refine ⟨_, rfl, rfl, rfl, rfl, rfl, rfl, rfl, ?_, rfl⟩
  show (lookupNat source (insertKey source _ s.ex.seqs)).getD 0 = _
  rw [lookupNat_insertKey]
  rfl

/-- The state with its engines set aside. -/
def sameButEngines (s t : State) : Prop := t = { s with gnA := t.gnA, gnB := t.gnB }

theorem sameButEngines_modEngine {s t : State} (h : sameButEngines s t) (e : Side) (g : Engine → Engine) : sameButEngines s (modEngine e g t) := by
  obtain ⟨a, b, rfl⟩ : ∃ a b, t = { s with gnA := a, gnB := b } := ⟨_, _, h⟩
  cases e <;> rfl

theorem solved_engines (g : GnssSolution) (s : State) : sameButEngines s (solved g s) :=
  sameButEngines_modEngine (sameButEngines_modEngine (sameButEngines_modEngine (show sameButEngines s s from rfl) _ _) _ _) _ _

theorem solved_other (g : GnssSolution) (s : State) : engineOf (otherSide g.engine) (solved g s) = engineOf (otherSide g.engine) s :=
  (engineOf_modEngine_other _ _ _).trans ((engineOf_modEngine_other _ _ _).trans (engineOf_modEngine_other _ _ _))

theorem trackChannels_time (g : GnssSolution) (s : State) (x : TimeUnit) :
    trackChannels g { s with time := x } = { trackChannels g s with time := x } := by
  unfold trackChannels modAntenna
  cases g.engine <;> rfl

theorem solutionOf_time (g : GnssSolution) (s : State) (x : TimeUnit) : solutionOf g { s with time := x } = solutionOf g s := rfl

/-- The UTC offset has no part in the solution. -/
theorem solutionOf_utcKept (g : GnssSolution) (u : Option Int) (s : State) :
    solutionOf g (trackChannels g (utcKept u s)) = solutionOf g (trackChannels g s) := by
  cases u with
  | none => rfl
  | some u => exact (congrArg (solutionOf g) (trackChannels_time g s _)).trans (solutionOf_time g _ _)

theorem utcKept_eq (u : Option Int) (s : State) : utcKept u s = { s with time := { s.time with utcGps := (utcKept u s).time.utcGps } } := by
  cases u <;> rfl

/-- The state in which the records of a solution are formed. -/
def delivering (w : Option Int) (a b : Engine) (x : Exchange) (s : State) : State :=
  { s with time := { s.time with utcGps := w }, gnA := a, gnB := b, ex := x }

theorem deliverPosition_of (g : GnssSolution) (o : PositionOutcome) (i : Nat) (ant : AntennaObs) (w : Option Int) (a b : Engine) (x : Exchange) (s : State) :
    deliverPosition g o i ant (delivering w a b x s) = ingest (gnssSource g.engine s) (readingAt g.tick s) g.tov false
      (positionPayload i (holdoverAt g.tov s) g.tov s.cfg.image.pdop o ant) (delivering w a b x s) := rfl

/-- Settles O33: two records under one stamp (R229, R230). -/
theorem gnssSolutionsFormTwoRecords : Obligations.GnssSolutionsFormTwoRecords := by
  intro g s hruns hforms hwhole hbefore hafter
  have hinstant : outputInstant g.engine g.tov (readingAt g.tick s) s = true := by simp [outputInstant, hwhole, hbefore, hafter]
  have hexec := gnssSolution_of_instant hruns hinstant
  rw [solutionOf_utcKept] at hexec
  have hother : engineOf (otherSide g.engine) (solved g (utcKept g.utcOffset s)) = engineOf (otherSide g.engine) s :=
    (solved_other g _).trans (by cases g.utcOffset <;> rfl)
  have honly := solved_engines g (utcKept g.utcOffset s)
  have hutc := utcKept_eq g.utcOffset s
  generalize hw : (utcKept g.utcOffset s).time.utcGps = w at hutc
  rw [hutc] at hexec hother honly
  obtain ⟨a, b, hu⟩ : ∃ a b, solved g { s with time := { s.time with utcGps := w } } = delivering w a b s.ex s :=
    ⟨(solved g { s with time := { s.time with utcGps := w } }).gnA, (solved g { s with time := { s.time with utcGps := w } }).gnB, honly⟩
  rw [hu, deliverPosition_of] at hexec
  rw [hu] at hother
  obtain ⟨r0, hbuf0, hsrc0, hstamp0, htov0, hseq0, hpay0, -, hnext0, honly0⟩ := ingest_spec (s := delivering w a b s.ex s) hforms
    (gnssSource g.engine s) (readingAt g.tick s) g.tov false
    (positionPayload 0 (holdoverAt g.tov s) g.tov s.cfg.image.pdop (solutionOf g (trackChannels g s)) g.ant0)
  obtain ⟨x, hx⟩ : ∃ x, ingest (gnssSource g.engine s) (readingAt g.tick s) g.tov false
      (positionPayload 0 (holdoverAt g.tov s) g.tov s.cfg.image.pdop (solutionOf g (trackChannels g s)) g.ant0) (delivering w a b s.ex s) =
    delivering w a b { s.ex with buffer := x.1, seqs := x.2 } s := ⟨(_, _), honly0⟩
  rw [hx, deliverPosition_of] at hexec
  rw [hx] at hbuf0 hnext0
  obtain ⟨r1, hbuf1, hsrc1, hstamp1, htov1, hseq1, hpay1, -, -, honly1⟩ := ingest_spec
    (s := delivering w a b { s.ex with buffer := x.1, seqs := x.2 } s) hforms (gnssSource g.engine s) (readingAt g.tick s) g.tov false
    (positionPayload 1 (holdoverAt g.tov s) g.tov s.cfg.image.pdop (solutionOf g (trackChannels g s)) g.ant1)
  generalize ingest (gnssSource g.engine s) (readingAt g.tick s) g.tov false
    (positionPayload 1 (holdoverAt g.tov s) g.tov s.cfg.image.pdop (solutionOf g (trackChannels g s)) g.ant1)
    (delivering w a b { s.ex with buffer := x.1, seqs := x.2 } s) = t at hexec hbuf1 honly1
  obtain ⟨hlen0, hant0, hfix0⟩ := positionPayload_octets 0 (holdoverAt g.tov s) g.tov s.cfg.image.pdop (solutionOf g (trackChannels g s)) g.ant0
  obtain ⟨hlen1, hant1, hfix1⟩ := positionPayload_octets 1 (holdoverAt g.tov s) g.tov s.cfg.image.pdop (solutionOf g (trackChannels g s)) g.ant1
  have htime : t.time = { s.time with utcGps := w } := congrArg State.time honly1
  refine ⟨t, r0, r1, hexec, ?_, hsrc0, hsrc1, hstamp0, hstamp1.trans hstamp0.symm, htov0, htov1, hseq0, hseq1.trans hnext0, hpay0 ▸ hlen0,
    hpay1 ▸ hlen1, hpay0 ▸ hant0, hpay1 ▸ hant1, hpay0 ▸ hfix0, hpay1 ▸ hfix1, fun u hoffset => ?_, fun hnone => ?_, ?_, ?_⟩
  · rw [hbuf1, hbuf0]
    exact List.append_assoc _ _ _
  · rw [htime, ← hw, hoffset]
    rfl
  · rw [htime, ← hw, hnone]
    rfl
  · refine Eq.trans ?_ hother
    rw [honly1]
    rfl
  · have hgnA : t.gnA = a := congrArg State.gnA honly1
    have hgnB : t.gnB = b := congrArg State.gnB honly1
    rw [htime, hgnA, hgnB]
    exact honly1

end Sys2Proof.Machine
end

section
/-! Sieve: the windows of a chain and its burden (R258 to R263, R460). -/

namespace Sys2Proof.Machine

/-! ## The sample of a window (R261, R262) -/

/-- The chain before its window's sample. -/
def windowTaken (d : ChainDecl) (w : SieveWindow) (now : Nat) (cleared : Option Nat) (c : Chain) : Chain :=
  takeBits d w.bits { c with ends := some now, overloadEnd := if w.overload then some (cleared.getD now) else c.overloadEnd }

/-- An instant less than G after another. -/
def withinDelay (d : ChainDecl) (now : Nat) (t : Option Nat) : Bool :=
  match t with
  | some t => decide (now < t + chainDelay d)
  | none => false

/-- Value of a window's sample, with the state of the cross-fade. -/
def windowValue (d : ChainDecl) (w : SieveWindow) (now : Nat) (c : Chain) : Q × Bool × Nat := sampleValue w.chain d c (withinDelay d now c.restart) w.bits

/-- The sample is invalid. -/
def windowBad (d : ChainDecl) (w : SieveWindow) (now : Nat) (c : Chain) : Bool :=
  withinDelay d now c.start || withinDelay d now c.restart || w.overload || withinDelay d now c.overloadEnd || c.burdenCut ||
    rangeFault d.current (windowValue d w now c).1

/-- The sample itself. -/
def windowSample (d : ChainDecl) (w : SieveWindow) (now stamp : Nat) (c : Chain) : SieveSample :=
  { stamp, tov := (roundDiv ((now : Int) - chainDelay d) (2 ^ 32)).toNat
    value := if windowBad d w now c then none else (windowValue d w now c).1
    valid := !windowBad d w now c, fading := (windowValue d w now c).2.1 }

/-- The chain with its sample. -/
def windowSampled (d : ChainDecl) (w : SieveWindow) (now stamp : Nat) (c : Chain) : Chain :=
  { c with
    samples := c.samples ++ [windowSample d w now stamp c], fadeK := (windowValue d w now c).2.2
    ranged := !withinDelay d now c.start &&
      rangeFault d.current (inputValue w.chain d c (withinDelay d now c.restart) (windowValue d w now c).1) }

/-- A change that has ended leaves the old set (R263). -/
def changeEnded (ended : Bool) (c : Chain) : Chain := if ended then { c with oldSet := none, oldLine := [], restart := none, fadeK := 0 } else c

/-- A set that was selected begins (R263). -/
def selectionTaken (now : Nat) (c : Chain) : Chain :=
  match c.selected with
  | some k => { c with oldSet := some c.set, oldLine := c.line, set := k, line := [], restart := some now, fadeK := 0, selected := none }
  | none => c

theorem changeEnded_samples (ended : Bool) (c : Chain) : (changeEnded ended c).samples = c.samples := by
  cases ended <;> rfl

theorem selectionTaken_samples (now : Nat) (c : Chain) : (selectionTaken now c).samples = c.samples := by
  unfold selectionTaken
  split <;> rfl

theorem runWindow_eq (d : ChainDecl) (w : SieveWindow) (now stamp : Nat) (cleared : Option Nat) (c : Chain) : ∃ ended,
    runWindow d w now stamp cleared c =
      selectionTaken now (changeEnded ended (windowSampled d w now stamp (windowTaken d w now cleared c))) := ⟨_, rfl⟩

theorem runWindow_samples (d : ChainDecl) (w : SieveWindow) (now stamp : Nat) (cleared : Option Nat) (c : Chain) :
    (runWindow d w now stamp cleared c).samples =
      (windowTaken d w now cleared c).samples ++ [windowSample d w now stamp (windowTaken d w now cleared c)] := by
  obtain ⟨ended, heq⟩ := runWindow_eq d w now stamp cleared c
  rw [heq, selectionTaken_samples, changeEnded_samples]
  rfl

theorem windowTaken_kept (d : ChainDecl) (w : SieveWindow) (now : Nat) (cleared : Option Nat) (c : Chain) :
    (windowTaken d w now cleared c).samples = c.samples ∧ (windowTaken d w now cleared c).start = c.start ∧
      (windowTaken d w now cleared c).burdenCut = c.burdenCut := by
  unfold windowTaken takeBits
  split <;> exact ⟨rfl, rfl, rfl⟩

/-- An invalid sample is the one without a value. -/
theorem windowSample_invalid (d : ChainDecl) (w : SieveWindow) (now stamp : Nat) (c : Chain) :
    (windowSample d w now stamp c).valid = false ↔ (windowSample d w now stamp c).value = none := by
  unfold windowSample
  by_cases hbad : windowBad d w now c = true
  · simp [hbad]
  · obtain ⟨-, hranged⟩ := Bool.or_eq_false_iff.mp (Bool.eq_false_iff.mpr hbad)
    have hvalue : (windowValue d w now c).1 ≠ none := fun hnone => by simp [hnone, rangeFault] at hranged
    simp [hbad, hvalue]

theorem windowBad_of_cause {d : ChainDecl} {w : SieveWindow} {now b : Nat} {c : Chain} (hstart : c.start = some b)
    (h : w.overload = true ∨ c.burdenCut = true ∨ now < b + chainDelay d) : windowBad d w now c = true := by
  rcases h with h | h | h <;> simp [windowBad, withinDelay, hstart, h]

/-! ## The chains -/

theorem chainOf_modAt {l : List Chain} {n : Nat} (hn : n < l.length) (f : Chain → Chain) : (modAt l n f).getD n {} = f (l.getD n {}) := by
  simp [modAt, List.getD_eq_getElem?_getD, hn]

theorem modAt_other {α : Type} (l : List α) {n k : Nat} (h : k ≠ n) (f : α → α) : (modAt l n f)[k]? = l[k]? := by
  simp [modAt, h.symm]

theorem modAt_same {α : Type} {l : List α} {n : Nat} {x : α} (h : l[n]? = some x) (f : α → α) : (modAt l n f)[n]? = some (f x) := by
  simp [modAt, h]

/-- A chain that has started keeps its mirror. -/
theorem withChains_started {l : List Chain} {s : State} {k : Nat} (h : (s.siv.chains.getD k {}).start.isSome = true) :
    (withChains l s).mir.siv[k]? = s.mir.siv[k]? := by
  have hstarted : (s.siv.chains.getD k {}).start.isNone = false := by simpa using h
  simp only [withChains, mapAt, List.getElem?_mapIdx]
  cases s.mir.siv[k]? with
  | none => rfl
  | some m => exact congrArg some (if_neg (by rw [hstarted]; exact Bool.false_ne_true))

/-- What the end of a window does to its chain. -/
def windowClosed (w : SieveWindow) (s : State) (c : Chain) : Chain :=
  if ¬ atBoundary (chainDecl w.chain s) w.tick c then c
  else if c.start.isNone then (if c.armed then beginChain (chainCounter w.tick s) c else c)
  else if c.ends.any fun t => decide (t < chainCounter w.tick s) then
    runWindow (chainDecl w.chain s) w (chainCounter w.tick s) (readingAt (w.tick + 1200) s) (w.clearedAt.map fun t => chainCounter t s) c
  else c

section
variable {w : SieveWindow} {s : State} (hruns : clockRuns s = true) (hmode : (chainDecl w.chain s).mode ≠ 0)
  (hbits : w.bits.length = windowBits (chainDecl w.chain s))
include hruns hmode hbits

theorem sieveSample_of_enabled : exec (.sieveSample w) s = .next (withChains (modAt s.siv.chains w.chain (windowClosed w s)) s) :=
  next_of_pos ⟨hruns, hmode, hbits⟩ _ _

end

section
variable {w : SieveWindow} {s : State} {c : Chain} (hboundary : atBoundary (chainDecl w.chain s) w.tick c = true)
include hboundary

theorem windowClosed_of_started {b e : Nat} (hstart : c.start = some b) (hends : c.ends = some e) (hlater : e < chainCounter w.tick s) :
    windowClosed w s c = runWindow (chainDecl w.chain s) w (chainCounter w.tick s) (readingAt (w.tick + 1200) s)
      (w.clearedAt.map fun t => chainCounter t s) c := by
  rw [windowClosed, if_neg (by simp [hboundary]), if_neg (by simp [hstart]), if_pos (by simp [hends, hlater])]

theorem windowClosed_of_armed (hstart : c.start = none) (harmed : c.armed = true) :
    windowClosed w s c = { c with start := some (chainCounter w.tick s), ends := some (chainCounter w.tick s), boundaryIn := 0 } := by
  rw [windowClosed, if_neg (by simp [hboundary]), if_pos (by simp [hstart]), if_pos harmed, beginChain]

end

/-- Settles O36: the window's end (R260 to R262), then the burden (R460). -/
theorem sieveWindowsAddOneSample : Obligations.SieveWindowsAddOneSample := by
  refine ⟨fun w s hlen hchain hruns hmode hbits hboundary => ⟨fun b e hstart hends hlater => ?_, fun hstart harmed => ?_⟩,
    fun n c s hc => ⟨fun hruns hcurrent hmode ua hover => ?_, ?_⟩⟩
  · have hexec := sieveSample_of_enabled hruns hmode hbits
    have hown := chainOf_modAt (hlen ▸ hchain) (windowClosed w s)
    rw [windowClosed_of_started hboundary hstart hends hlater] at hown
    obtain ⟨hsamples, hsame, hcut⟩ := windowTaken_kept (chainDecl w.chain s) w (chainCounter w.tick s) (w.clearedAt.map fun t => chainCounter t s)
      (s.siv.chains.getD w.chain {})
    refine ⟨_, windowSample (chainDecl w.chain s) w (chainCounter w.tick s) (readingAt (w.tick + 1200) s) (windowTaken (chainDecl w.chain s) w
        (chainCounter w.tick s) (w.clearedAt.map fun t => chainCounter t s) (s.siv.chains.getD w.chain {})),
      hexec, ⟨fun k hk => modAt_other _ hk _, fun k hk => withChains_started hk, rfl⟩, ?_, rfl, rfl, windowSample_invalid _ _ _ _ _, fun hcause => ?_⟩
    · refine ((congrArg Chain.samples hown).trans ?_).symm
      rw [runWindow_samples, hsamples]
    · rw [windowSample, windowBad_of_cause (hsame.trans hstart) (hcut ▸ hcause)]
      rfl
  · have hexec := sieveSample_of_enabled hruns hmode hbits
    refine ⟨_, hexec, ⟨fun k hk => modAt_other _ hk _, fun k hk => withChains_started hk, rfl⟩, ?_⟩
    exact (chainOf_modAt (hlen ▸ hchain) (windowClosed w s)).trans (windowClosed_of_armed hboundary hstart harmed)
  · exact ⟨_, next_of_pos ⟨hruns, hcurrent, hmode, hover⟩ _ _, modAt_same hc _, fun k hk => modAt_other _ hk _, rfl⟩
  · exact ⟨_, rfl, modAt_same hc _, fun k hk => modAt_other _ hk _, rfl⟩

end Sys2Proof.Machine
end

section
/-! Trivet: sampling of the safe inputs and their record (R328 to R331). -/

namespace Sys2Proof.Machine

/-! ## Sets of bits -/

theorem testBit_bitSet (l : List Nat) (i : Nat) : (bitSet l).testBit i = decide (i ∈ l) := by
  have hfold (l : List Nat) : ∀ a : Nat, (l.foldl (fun a b => a ||| 2 ^ b) a).testBit i = (a.testBit i || decide (i ∈ l)) := by
    induction l with
    | nil => simp
    | cons b l ih =>
      intro a
      rw [List.foldl_cons, ih]
      simp [Nat.testBit_or, Nat.testBit_two_pow, Bool.or_assoc, eq_comm]
  simpa [bitSet] using hfold l 0

theorem testBit_pairBits (f : Nat → PairLocalInput → Bool) (s : State) {p : Nat} (hp : p < 16) :
    (pairBits f s % 65536).testBit p = f p (s.trv.pairs.getD p {}) := by
  rw [show 65536 = 2 ^ 16 from rfl, Nat.testBit_mod_two_pow, pairBits, testBit_bitSet]
  simp [hp]

/-! ## Sampling (R329) -/

/-- One sample of one pair. -/
def pairSampled (levels : Nat) (s : State) (p : Nat) (x : PairLocalInput) : PairLocalInput :=
  let x := { x with a := filterSample (levels.testBit (2 * p)) x.a, b := filterSample (levels.testBit (2 * p + 1)) x.b }
  { x with
    equalRun := if x.a.level = x.b.level then x.equalRun + 1 else 0
    safeRun := if antiSafe (pairType p s) x then x.safeRun + 1 else 0
    safeSeen := x.safeSeen || readsSafe (pairType p s) x }

theorem sampleInputs_eq (levels : Nat) (s : State) :
    sampleInputs levels s = { s with trv := { s.trv with pairs := mapAt s.trv.pairs (pairSampled levels s) } } := rfl

theorem filterSample_same {lv : Bool} {c : FilterChannel} (hnext : c.next = lv) (hrun : 3 ≤ c.same) : (filterSample lv c).level = lv := by
  have hcond : lv = c.next ∧ c.same ≠ 0 := ⟨hnext.symm, by omega⟩
  rw [filterSample, if_pos hcond]
  exact if_pos (by omega)

theorem filterSample_differs {lv : Bool} {c : FilterChannel} (hnext : c.next ≠ lv) : (filterSample lv c).level = c.level := by
  have hcond : ¬ (lv = c.next ∧ c.same ≠ 0) := fun h => hnext h.1.symm
  rw [filterSample, if_neg hcond]
  show (if 4 ≤ 1 then lv else c.level) = c.level
  exact if_neg (by decide)

/-! ## The record (R331) -/

/-- The octets of a unit's record. -/
def trivetPayload (s : State) : List Byte :=
  beBytes 2 (pairBits (fun p x => readsActive (pairType p s) x) s) ++ beBytes 2 (pairBits (fun _ x => x.safeSeen) s) ++
    beBytes 2 (pairBits (fun _ x => x.a.level == x.b.level) s) ++ beBytes 2 (pairBits (fun _ x => x.fault) s)

theorem trivetPayload_octets (s : State) : (trivetPayload s).length = 8 ∧
    octets (trivetPayload s) 0 2 = pairBits (fun p x => readsActive (pairType p s) x) s % 65536 ∧
    octets (trivetPayload s) 4 2 = pairBits (fun _ x => x.a.level == x.b.level) s % 65536 ∧
    octets (trivetPayload s) 6 2 = pairBits (fun _ x => x.fault) s % 65536 := by
  unfold trivetPayload
  refine ⟨by simp, ?_, ?_, ?_⟩ <;>
    simp (disch := simp) only [octets_append_left, octets_append_right, List.length_append, length_beBytes, Nat.reduceAdd, Nat.sub_self,
      octets_beBytes, Nat.reducePow]

/-- The levels of pair p, as the members of a set: 2p and 2p + 1. -/
def pairLevels (l : List PairLocalInput) (p : Nat) : List Nat :=
  (if (l.getD p {}).a.level then [2 * p] else []) ++ (if (l.getD p {}).b.level then [2 * p + 1] else [])

/-- The levels of the sixteen pairs. -/
def rawLevels (l : List PairLocalInput) : Nat := bitSet (((List.range 16).map (pairLevels l)).flatten)

theorem mem_pairLevels (l : List PairLocalInput) (p i : Nat) :
    i ∈ pairLevels l p ↔ (l.getD p {}).a.level = true ∧ i = 2 * p ∨ (l.getD p {}).b.level = true ∧ i = 2 * p + 1 := by
  unfold pairLevels
  cases (l.getD p {}).a.level <;> cases (l.getD p {}).b.level <;> simp

theorem testBit_rawLevels (l : List PairLocalInput) {p : Nat} (hp : p < 16) :
    (rawLevels l).testBit (2 * p) = (l.getD p {}).a.level ∧ (rawLevels l).testBit (2 * p + 1) = (l.getD p {}).b.level := by
  have hmem (i : Nat) : i ∈ ((List.range 16).map (pairLevels l)).flatten ↔ ∃ q, q < 16 ∧
      ((l.getD q {}).a.level = true ∧ i = 2 * q ∨ (l.getD q {}).b.level = true ∧ i = 2 * q + 1) := by
    simp only [List.mem_flatten, List.mem_map, List.mem_range, exists_exists_and_eq_and, mem_pairLevels]
  refine ⟨?_, ?_⟩
  · rw [rawLevels, testBit_bitSet, Bool.eq_iff_iff, decide_eq_true_eq, hmem]
    refine ⟨fun ⟨q, _, h⟩ => ?_, fun h => ⟨p, hp, .inl ⟨h, rfl⟩⟩⟩
    rcases h with ⟨h, heq⟩ | ⟨-, heq⟩
    · rwa [show p = q by omega]
    · omega
  · rw [rawLevels, testBit_bitSet, Bool.eq_iff_iff, decide_eq_true_eq, hmem]
    refine ⟨fun ⟨q, _, h⟩ => ?_, fun h => ⟨p, hp, .inr ⟨h, rfl⟩⟩⟩
    rcases h with ⟨-, heq⟩ | ⟨h, heq⟩
    · omega
    · rwa [show p = q by omega]

/-- A pair whose record has been closed. -/
def pairClosed (x : PairLocalInput) : PairLocalInput := { x with safeSeen := false }

theorem getD_pairClosed (l : List PairLocalInput) (p : Nat) : (l.map pairClosed).getD p {} = pairClosed (l.getD p {}) := by
  simp only [List.getD_eq_getElem?_getD, List.getElem?_map]
  cases l[p]? <;> rfl

/-- The record is closed on the levels of the epoch's last sample. -/
def recordClosed (s : State) : State := { s with trv := { s.trv with rawNow := rawLevels s.trv.pairs, pairs := s.trv.pairs.map pairClosed } }

theorem trivetRecordClose_of_running {s : State} (hruns : timerRuns s = true) (levels : Nat) :
    exec (.trivetRecordClose levels) s = .next (recordClosed (ingest (trivetSource s.um.unit) (counterAt 375 s) (counterAt 375 s) false
      (trivetPayload (sampleInputs levels s)) (sampleInputs levels s))) := next_of_pos hruns _ _

theorem timerRuns_of_formsRecords {s : State} (h : formsRecords s = true) : timerRuns s = true := by
  simp only [formsRecords, Bool.and_eq_true] at h
  exact h.1.1

/-- The fault of a pair is set or cleared (R330). -/
def faultSet (p : Nat) (fault : Bool) (s : State) : State :=
  { s with trv := { s.trv with pairs := modAt s.trv.pairs p fun x => { x with fault := fault } } }

/-- Settles O37: the samples (R329), the record (R331) and the faults of a pair (R330). -/
theorem trivetSamplesCloseARecord : Obligations.TrivetSamplesCloseARecord := by
  refine fun s => ⟨fun levels hruns => ?_, fun levels hforms => ?_, fun p x hx => ⟨fun htype hrun => ?_, fun hrun => ?_⟩⟩
  · refine ⟨_, next_of_pos hruns _ _, rfl, by simp [sampleInputs_eq, mapAt], fun p x y hx hy => ?_⟩
    have hxy : pairSampled levels s p x = y := by simpa [sampleInputs_eq, mapAt, hx] using hy
    subst hxy
    exact ⟨rfl, filterSample_same, filterSample_differs, filterSample_same, filterSample_differs⟩
  · have hexec := trivetRecordClose_of_running (timerRuns_of_formsRecords hforms) levels
    obtain ⟨r, hbuffer, hsource, hstamp, htov, hseq, hpayload, horigin, -, honly⟩ := ingest_spec (s := sampleInputs levels s) hforms
      (trivetSource s.um.unit) (counterAt 375 s) (counterAt 375 s) false (trivetPayload (sampleInputs levels s))
    obtain ⟨hlen, h0, h4, h6⟩ := trivetPayload_octets (sampleInputs levels s)
    generalize ingest (trivetSource s.um.unit) (counterAt 375 s) (counterAt 375 s) false (trivetPayload (sampleInputs levels s))
      (sampleInputs levels s) = u at hexec hbuffer honly
    obtain ⟨b, q, rfl⟩ : ∃ b q, u = { sampleInputs levels s with ex := { s.ex with buffer := b, seqs := q } } := ⟨_, _, honly⟩
    have hclosed (p : Nat) : (recordClosed { sampleInputs levels s with ex := { s.ex with buffer := b, seqs := q } }).trv.pairs.getD p {} = pairClosed ((sampleInputs levels s).trv.pairs.getD p {}) :=
      getD_pairClosed _ p
    refine ⟨_, r, hexec, hbuffer, hsource, horigin, hstamp, htov.trans hstamp.symm, hseq, hpayload ▸ hlen, fun p hp => ⟨?_, ?_⟩,
      fun p hp => ⟨?_, ?_, ?_⟩, rfl⟩
    · rw [hpayload, h6, testBit_pairBits _ _ hp, hclosed]
      rfl
    · rw [hpayload, h4, testBit_pairBits _ _ hp, hclosed]
      rfl
    · rw [hpayload, h0, testBit_pairBits _ _ hp, hclosed]
      rfl
    · rw [hclosed]
      exact (testBit_rawLevels _ hp).1
    · rw [hclosed]
      exact (testBit_rawLevels _ hp).2
  · refine ⟨faultSet p true s, ?_, modAt_same hx _, fun k hk => modAt_other _ hk _, rfl⟩
    refine congrArg Host.Outcome.next ?_
    rw [hx]
    exact if_pos ⟨hrun, htype⟩
  · refine ⟨faultSet p false s, ?_, modAt_same hx _, fun k hk => modAt_other _ hk _, rfl⟩
    refine congrArg Host.Outcome.next ?_
    rw [hx]
    exact if_pos hrun

end Sys2Proof.Machine
end

section
/-! Trivet: tests of the safe outputs (R335 to R337). -/

namespace Sys2Proof.Machine

/-! ## One channel -/

/-- The two states differ in the unit's own channels and their event state at most. -/
structure ChannelsOnly (s t : State) : Prop where
  eq : t = withEvents { s with trv := { s.trv with channels := t.trv.channels } } t

namespace ChannelsOnly

theorem refl (s : State) : ChannelsOnly s s := ⟨rfl⟩

theorem modChannel (k : Nat) (f : ChannelLocal → ChannelLocal) (s : State) : ChannelsOnly s (modChannel k f s) := ⟨rfl⟩

theorem trans {s t u : State} (hst : ChannelsOnly s t) (htu : ChannelsOnly t u) : ChannelsOnly s u := by
  obtain ⟨l, v, rfl⟩ : ∃ l v, t = withEvents { s with trv := { s.trv with channels := l } } v := ⟨_, _, hst.eq⟩
  exact ⟨htu.eq⟩

theorem events {s t : State} (h : EventsOnly s t) : ChannelsOnly s t := by
  obtain ⟨v, rfl⟩ : ∃ v, t = withEvents s v := ⟨_, h.eq⟩
  exact ⟨rfl⟩

end ChannelsOnly

section
variable {k j : Nat} {s : State} (f : ChannelLocal → ChannelLocal)

theorem channelLocal_modChannel_same (hk : k < s.trv.channels.length) : channelLocal k (modChannel k f s) = f (channelLocal k s) := by
  simp [channelLocal, modChannel, modAt, List.getD_eq_getElem?_getD, hk]

theorem channelLocal_modChannel_other (h : j ≠ k) : channelLocal j (modChannel k f s) = channelLocal j s := by
  simp [channelLocal, modChannel, modAt, List.getD_eq_getElem?_getD, h.symm]

theorem length_modChannel : (modChannel k f s).trv.channels.length = s.trv.channels.length := by simp [modChannel, modAt]

end

theorem channels_of_events {s t : State} (h : EventsOnly s t) : t.trv = s.trv := (congrArg State.trv h.eq).trans rfl

theorem channelLocal_of_events {s t : State} (h : EventsOnly s t) (k : Nat) : channelLocal k t = channelLocal k s := by
  rw [channelLocal, channels_of_events h, channelLocal]

/-! ## A fault (R337) -/

/-- A channel marked failed, both switches off. -/
def channelFailed (code : Nat) (c : ChannelLocal) : ChannelLocal :=
  { c with hs := false, ls := false, pulse := none, failed := true, fault := code, wirechk := false }

theorem failChannel_events (k code : Nat) (s : State) : EventsOnly (modChannel k (channelFailed code) s) (failChannel k code s) := by
  unfold failChannel
  dsimp only
  split
  · exact EventsOnly.refl _
  · exact EventsOnly.raiseWith 116 k code 0 _

theorem failChannel_raises {k code : Nat} {s : State} (h : ((channelLocal k s).failed && (channelLocal k s).fault == code) = false) :
    eventActive 116 (failChannel k code s) = true := by
  rw [failChannel, if_neg (by simp [h])]
  simp

theorem failChannel_only (k code : Nat) (s : State) : ChannelsOnly s (failChannel k code s) :=
  (ChannelsOnly.modChannel k _ s).trans (.events (failChannel_events k code s))

section
variable {k j : Nat} {s : State} (code : Nat)

theorem channelLocal_failChannel_same (hk : k < s.trv.channels.length) :
    channelLocal k (failChannel k code s) = channelFailed code (channelLocal k s) :=
  (channelLocal_of_events (failChannel_events k code s) k).trans (channelLocal_modChannel_same _ hk)

theorem channelLocal_failChannel_other (h : j ≠ k) : channelLocal j (failChannel k code s) = channelLocal j s :=
  (channelLocal_of_events (failChannel_events k code s) j).trans (channelLocal_modChannel_other _ h)

theorem length_failChannel : (failChannel k code s).trv.channels.length = s.trv.channels.length := by
  rw [channels_of_events (failChannel_events k code s), length_modChannel]

end

/-! ## Channels in turn -/

/-- Where every step but that of k leaves the state, all steps together are that of k. -/
theorem foldl_of_one {σ : Type} {f : σ → Nat → σ} {I : σ → Prop} {k : Nat} (hskip : ∀ u j, j ≠ k → I u → f u j = u) (hstep : ∀ u, I u → I (f u k)) :
    ∀ (l : List Nat) (s : σ), I s → l.Nodup → l.foldl f s = if k ∈ l then f s k else s
  | [], s, _, _ => by simp
  | j :: l, s, hs, hnodup => by
    obtain ⟨hj, hl⟩ := List.nodup_cons.mp hnodup
    rw [List.foldl_cons]
    by_cases hjk : j = k
    · subst hjk
      rw [foldl_of_one hskip hstep l _ (hstep s hs) hl, if_neg hj, if_pos List.mem_cons_self]
    · rw [hskip s j hjk hs, foldl_of_one hskip hstep l s hs hl]
      simp [Ne.symm hjk]

/-- What a walk over the channels keeps of channel k, and the state in which it meets it. -/
theorem foldl_channel {f : State → Nat → State} {k : Nat} (hother : ∀ u j, j ≠ k → channelLocal k (f u j) = channelLocal k u)
    (hlen : ∀ u j, (f u j).trv.channels.length = u.trv.channels.length) :
    ∀ (l : List Nat) (s : State), l.Nodup → k ∈ l →
      ∃ u, channelLocal k u = channelLocal k s ∧ u.trv.channels.length = s.trv.channels.length ∧ channelLocal k (l.foldl f s) = channelLocal k (f u k)
  | [], s, _, h => by simp at h
  | j :: l, s, hnodup, h => by
    obtain ⟨hj, hl⟩ := List.nodup_cons.mp hnodup
    rw [List.foldl_cons]
    by_cases hjk : j = k
    · subst hjk
      refine ⟨s, rfl, rfl, ?_⟩
      have hkeep (l : List Nat) : j ∉ l → ∀ u, channelLocal j (l.foldl f u) = channelLocal j u := by
        induction l with
        | nil => exact fun _ _ => rfl
        | cons i l ih =>
          intro hi u
          obtain ⟨hne, hmem⟩ := not_or.mp fun h => hi (List.mem_cons.mpr h)
          rw [List.foldl_cons, ih hmem, hother u i (Ne.symm hne)]
      exact hkeep l hj _
    · obtain ⟨u, hu, hulen, hfold⟩ := foldl_channel hother hlen l (f s j) hl (by simpa [Ne.symm hjk] using h)
      exact ⟨u, hu.trans (hother s j hjk), hulen.trans (hlen s j), hfold⟩

/-! ## Pulses (R335, R336) -/

theorem pulseChannel_of {n offset k : Nat} (h : (n + 2000 - offset) % 2000 = 250 * k) : pulseChannel n offset = some k := by
  rw [pulseChannel, h]
  simp

/-- A native test pulse of a channel held off. -/
theorem outputTestPulse_of_off {k : Nat} {s : State} {sw : Switch} (hruns : timerRuns s = true)
    (hepoch : pulseChannel s.ex.epoch (if sw = .hs then 0 else 125) = some k) (hhs : (channelLocal k s).hs = false)
    (hls : (channelLocal k s).ls = false) (hchanged : (channelLocal k s).changed = false) (hpulse : (channelLocal k s).pulse = none) :
    exec (.outputTestPulse sw) s = .next (modChannel k (fun c => { c with pulse := some (sw, false), hs := sw == .hs, ls := sw == .ls }) s) := by
  refine (next_of_pos hruns _ _).trans (congrArg _ ?_)
  rw [hepoch]
  exact if_pos (by simp [ChannelLocal.off, hhs, hls, hchanged, hpulse])

/-- The epoch of a unit's off-pulse test of HS, in which it counts an even period. -/
def offPulseEven (s : State) : Bool := ((s.ex.epoch + 4000 - (if s.um.unit = .a then 0 else 1000)) / 2000) % 2 == 0

theorem offPulseTest_of_on {k : Nat} {s : State} (hruns : timerRuns s = true)
    (hepoch : pulseChannel s.ex.epoch (if s.um.unit = .a then 0 else 1000) = some k) (hhs : (channelLocal k s).hs = true)
    (hls : (channelLocal k s).ls = true) (hdeclared : s.cfg.image.offPulse.contains k = true) (hchanged : (channelLocal k s).changed = false) :
    exec .offPulseTest s = .next (modChannel k (fun c => { c with
      pulse := some (if offPulseEven s then .hs else .ls, true), hs := !offPulseEven s, ls := offPulseEven s }) s) := by
  refine (next_of_pos hruns _ _).trans (congrArg _ ?_)
  dsimp only
  rw [hepoch]
  exact if_pos ⟨hhs, hls, hdeclared, by simp [hchanged]⟩

/-- One channel at the end of the off-pulse. -/
def offPulseEnded (reached : Bool) (s : State) (k : Nat) : State :=
  match (channelLocal k s).pulse with
  | some (sw, true) => if reached then modChannel k (fun c => { c with pulse := none, hs := true, ls := true }) s else failChannel k (if sw = .hs then 1 else 3) s
  | _ => s

theorem offPulseEnd_eq (reached : Bool) (s : State) : exec (.offPulseEnd reached) s = .next ((List.range 8).foldl (offPulseEnded reached) s) := rfl

/-! ## Sense nodes (R335) -/

/-- One channel judged by its sense nodes. -/
def senseJudged (h l : Nat) (s : State) (k : Nat) : State :=
  match senseFault (channelLocal k s) (h.testBit k) (l.testBit k) with
  | some f => failChannel k f s
  | none => s

/-- The levels read of every channel. -/
def senseRead (h l : Nat) (s : State) : State :=
  { s with trv := { s.trv with channels := mapAt s.trv.channels fun k c => { c with h := h.testBit k, l := l.testBit k } } }

theorem senseNodeCheck_of_running {s : State} (hruns : timerRuns s = true) (h l : Nat) :
    exec (.senseNodeCheck h l) s = .next ((List.range 8).foldl (senseJudged h l) (senseRead h l s)) := next_of_pos hruns _ _

theorem channelLocal_senseRead {k : Nat} {s : State} (hk : k < s.trv.channels.length) (h l : Nat) :
    channelLocal k (senseRead h l s) = { channelLocal k s with h := h.testBit k, l := l.testBit k } := by
  simp [channelLocal, senseRead, mapAt, List.getD_eq_getElem?_getD, hk]

theorem senseJudged_only (h l : Nat) (s : State) (k : Nat) : ChannelsOnly s (senseJudged h l s k) := by
  unfold senseJudged
  split
  · exact failChannel_only k _ s
  · exact ChannelsOnly.refl s

theorem foldl_channelsOnly {f : State → Nat → State} (hf : ∀ u j, ChannelsOnly u (f u j)) (l : List Nat) (s : State) : ChannelsOnly s (l.foldl f s) := by
  induction l generalizing s with
  | nil => exact ChannelsOnly.refl s
  | cons j l ih => exact (hf s j).trans (ih _)

theorem channelLocal_senseJudged_other {k j : Nat} (hne : j ≠ k) (h l : Nat) (s : State) :
    channelLocal k (senseJudged h l s j) = channelLocal k s := by
  unfold senseJudged
  split
  · exact channelLocal_failChannel_other _ hne.symm
  · rfl

theorem length_senseJudged (h l : Nat) (s : State) (j : Nat) : (senseJudged h l s j).trv.channels.length = s.trv.channels.length := by
  unfold senseJudged
  split
  · exact length_failChannel _
  · rfl

/-- A channel judged by the levels read. -/
def channelJudged (h l : Bool) (c : ChannelLocal) : ChannelLocal :=
  match senseFault c h l with
  | some f => channelFailed f c
  | none => c

theorem channelLocal_senseJudged_same {k : Nat} {s : State} (hk : k < s.trv.channels.length) (h l : Nat) :
    channelLocal k (senseJudged h l s k) = channelJudged (h.testBit k) (l.testBit k) (channelLocal k s) := by
  unfold senseJudged channelJudged
  cases senseFault (channelLocal k s) (h.testBit k) (l.testBit k) with
  | none => rfl
  | some f => exact channelLocal_failChannel_same f hk

/-- Every channel is read, and judged once on what it held. -/
theorem senseNodeCheck_channel {k : Nat} (hk : k < 8) {s : State} (hlen : s.trv.channels.length = 8) (h l : Nat) :
    channelLocal k ((List.range 8).foldl (senseJudged h l) (senseRead h l s)) =
      channelJudged (h.testBit k) (l.testBit k) { channelLocal k s with h := h.testBit k, l := l.testBit k } := by
  obtain ⟨u, hu, hulen, hfold⟩ := foldl_channel (f := senseJudged h l) (k := k) (fun u j hj => channelLocal_senseJudged_other hj h l u)
    (length_senseJudged h l) (List.range 8) (senseRead h l s) List.nodup_range (List.mem_range.mpr hk)
  have hin : k < u.trv.channels.length := by
    rw [hulen]
    simpa [senseRead, mapAt, hlen] using hk
  rw [hfold, channelLocal_senseJudged_same hin, hu, channelLocal_senseRead (hlen ▸ hk)]

section
variable {h l : Bool} {c : ChannelLocal}

theorem channelJudged_keeps : (channelJudged h l c).h = c.h ∧ (channelJudged h l c).l = c.l := by
  unfold channelJudged
  split <;> exact ⟨rfl, rfl⟩

theorem channelJudged_failed_or : (channelJudged h l c).failed = true ∨ channelJudged h l c = c := by
  unfold channelJudged
  split
  · exact .inl rfl
  · exact .inr rfl

theorem channelJudged_of_fault {f : Nat} (hf : senseFault c h l = some f) : (channelJudged h l c).failed = true ∧ (channelJudged h l c).fault = f := by
  rw [channelJudged, hf]
  exact ⟨rfl, rfl⟩

end

/-- What `failChannel` leaves of channel k, and of the others. -/
theorem failChannel_spec {k : Nat} {s : State} (hk : k < s.trv.channels.length) (code : Nat) :
    channelLocal k (failChannel k code s) = channelFailed code (channelLocal k s) ∧
      (((channelLocal k s).failed && (channelLocal k s).fault == code) = false → eventActive 116 (failChannel k code s) = true) ∧
      (∀ j, j ≠ k → channelLocal j (failChannel k code s) = channelLocal j s) ∧
      failChannel k code s = withEvents { s with trv := { s.trv with channels := (failChannel k code s).trv.channels } } (failChannel k code s) :=
  ⟨channelLocal_failChannel_same code hk, failChannel_raises, fun _ hj => channelLocal_failChannel_other code hj, (failChannel_only k code s).eq⟩

theorem modChannel_spec {k : Nat} {s : State} (hk : k < s.trv.channels.length) (f : ChannelLocal → ChannelLocal) :
    channelLocal k (modChannel k f s) = f (channelLocal k s) ∧ (∀ j, j ≠ k → channelLocal j (modChannel k f s) = channelLocal j s) ∧
      modChannel k f s = { s with trv := { s.trv with channels := (modChannel k f s).trv.channels } } :=
  ⟨channelLocal_modChannel_same f hk, fun _ hj => channelLocal_modChannel_other f hj, rfl⟩

/-- The other channels under no pulse, the end of an off-pulse is that of channel k. -/
theorem offPulseEnd_of_one {k : Nat} (hk : k < 8) {s : State} (hothers : ∀ j, j ≠ k → (channelLocal j s).pulse = none) (reached : Bool) :
    exec (.offPulseEnd reached) s = .next (offPulseEnded reached s k) := by
  have hskip (u : State) (j : Nat) (hj : j ≠ k) (hu : ∀ j, j ≠ k → (channelLocal j u).pulse = none) : offPulseEnded reached u j = u := by
    rw [offPulseEnded, hu j hj]
  have hstep (u : State) (hu : ∀ j, j ≠ k → (channelLocal j u).pulse = none) : ∀ j, j ≠ k → (channelLocal j (offPulseEnded reached u k)).pulse = none := by
    intro j hj
    rw [← hu j hj]
    unfold offPulseEnded
    split
    · split
      · rw [channelLocal_modChannel_other _ hj]
      · rw [channelLocal_failChannel_other _ hj]
    · rfl
  rw [offPulseEnd_eq, foldl_of_one hskip hstep (List.range 8) s hothers List.nodup_range, if_pos (List.mem_range.mpr hk)]

theorem offPulseEnded_of_pulse {k : Nat} {s : State} {sw : Switch} (h : (channelLocal k s).pulse = some (sw, true)) (reached : Bool) :
    offPulseEnded reached s k =
      if reached then modChannel k (fun c => { c with pulse := none, hs := true, ls := true }) s else failChannel k (if sw = .hs then 1 else 3) s := by
  rw [offPulseEnded, h]

/-- The check of an HS pulse, and of an LS pulse. -/
theorem pulseSense_of_hs {k : Nat} {s : State} (h : (channelLocal k s).pulse = some (.hs, false)) (level : Bool) :
    exec (.pulseSenseCheck k level) s =
      .next (if level then modChannel k (fun c => { c with testAge := 0, overdue := false }) s else failChannel k 2 s) := by
  refine congrArg Host.Outcome.next ?_
  rw [h]

theorem pulseSense_of_ls {k : Nat} {s : State} (h : (channelLocal k s).pulse = some (.ls, false)) (level : Bool) :
    exec (.pulseSenseCheck k level) s =
      .next (if level then failChannel k 4 s else modChannel k (fun c => { c with testAge := 0, overdue := false }) s) := by
  refine congrArg Host.Outcome.next ?_
  rw [h]

/-- The end of the native pulse of one channel. -/
def pulseEnded (c : ChannelLocal) : ChannelLocal :=
  match c.pulse with
  | some (_, false) => { c with pulse := none, hs := false, ls := false }
  | _ => c

theorem testPulseEnd_channel {k : Nat} {s : State} (hk : k < s.trv.channels.length) :
    channelLocal k { s with trv := { s.trv with channels := s.trv.channels.map pulseEnded } } = pulseEnded (channelLocal k s) := by
  simp [channelLocal, List.getD_eq_getElem?_getD, hk]

/-- Settles O39: the native pulses and the off-pulses (R335, R336), the checks of the sense nodes and the overcurrent (R335, R462), the interval. -/
theorem outputTestsFindTheirFaults : Obligations.OutputTestsFindTheirFaults := by
  intro k s hk hlen
  have hin : k < s.trv.channels.length := hlen ▸ hk
  refine ⟨fun hruns hhs hls hchanged hpulse => ⟨fun hepoch => ?_, fun hepoch => ?_⟩, ⟨{ s with trv := { s.trv with channels := s.trv.channels.map pulseEnded } }, rfl, rfl, fun sw hpulse => ?_, fun hpulse => ?_⟩,
    fun hruns hhs hls hchanged hdeclared => ⟨fun hepoch => ?_, fun hepoch => ?_⟩, fun sw hpulse hothers => ⟨?_, ?_⟩,
    fun hpulse => ⟨?_, ?_⟩, fun hpulse => ⟨?_, ?_⟩, fun hruns h l => ?_, ?_, fun hage => ?_⟩
  · obtain ⟨hown, hothers, honly⟩ := modChannel_spec hin (fun c => { c with pulse := some (.hs, false), hs := true, ls := false })
    refine ⟨_, outputTestPulse_of_off hruns (pulseChannel_of (by simp; omega)) hhs hls hchanged hpulse, hown.trans ?_, hothers, honly⟩
    rw [← hls]
  · obtain ⟨hown, hothers, honly⟩ := modChannel_spec hin (fun c => { c with pulse := some (.ls, false), hs := false, ls := true })
    refine ⟨_, outputTestPulse_of_off hruns (pulseChannel_of (by simp; omega)) hhs hls hchanged hpulse, hown.trans ?_, hothers, honly⟩
    rw [← hhs]
  · rw [testPulseEnd_channel hin, pulseEnded, hpulse]
  · rw [testPulseEnd_channel hin, pulseEnded, hpulse]
  · have heven : offPulseEven s = true := by
      unfold offPulseEven
      split at hepoch <;> simp [*] <;> omega
    have hexec := offPulseTest_of_on hruns (pulseChannel_of (by split at hepoch <;> simp [*] <;> omega)) hhs hls hdeclared hchanged
    obtain ⟨hown, hothers, honly⟩ := modChannel_spec hin (fun c => { c with pulse := some (.hs, true), hs := false, ls := true })
    rw [heven] at hexec
    refine ⟨_, hexec, hown.trans ?_, hothers, honly⟩
    rw [← hls]
  · have heven : offPulseEven s = false := by
      unfold offPulseEven
      split at hepoch <;> simp [*] <;> omega
    have hexec := offPulseTest_of_on hruns (pulseChannel_of (by split at hepoch <;> simp [*] <;> omega)) hhs hls hdeclared hchanged
    obtain ⟨hown, hothers, honly⟩ := modChannel_spec hin (fun c => { c with pulse := some (.ls, true), hs := true, ls := false })
    rw [heven] at hexec
    refine ⟨_, hexec, hown.trans ?_, hothers, honly⟩
    rw [← hhs]
  · have hexec := offPulseEnd_of_one hk hothers true
    rw [offPulseEnded_of_pulse hpulse] at hexec
    exact ⟨_, hexec, modChannel_spec hin _⟩
  · have hexec := offPulseEnd_of_one hk hothers false
    rw [offPulseEnded_of_pulse hpulse] at hexec
    cases sw with
    | hs => exact ⟨_, hexec, failChannel_spec hin 1⟩
    | ls => exact ⟨_, hexec, failChannel_spec hin 3⟩
  · exact ⟨_, pulseSense_of_hs hpulse true, modChannel_spec hin _⟩
  · exact ⟨_, pulseSense_of_hs hpulse false, failChannel_spec hin 2⟩
  · exact ⟨_, pulseSense_of_ls hpulse false, modChannel_spec hin _⟩
  · exact ⟨_, pulseSense_of_ls hpulse true, failChannel_spec hin 4⟩
  · have hown := senseNodeCheck_channel hk hlen h l
    have honly := (foldl_channelsOnly (fun u j => senseJudged_only h l u j) (List.range 8) (senseRead h l s)).eq
    have hjudged {f : Nat} (hf : senseFault { channelLocal k s with h := h.testBit k, l := l.testBit k } (h.testBit k) (l.testBit k) = some f) :
        (channelLocal k ((List.range 8).foldl (senseJudged h l) (senseRead h l s))).failed = true ∧
          (channelLocal k ((List.range 8).foldl (senseJudged h l) (senseRead h l s))).fault = f := by
      rw [hown]
      exact channelJudged_of_fault hf
    refine ⟨_, senseNodeCheck_of_running hruns h l, honly, by rw [hown, channelJudged_keeps.1], by rw [hown, channelJudged_keeps.2], ?_,
      fun hpulse hhs hls hh => hjudged ?_, fun hpulse hhs hls hh hl => hjudged ?_, fun hpulse hhs hls hh => hjudged ?_,
      fun hpulse hhs hls hh hl => hjudged ?_⟩
    · rw [hown]
      exact channelJudged_failed_or
    · simp [senseFault, hpulse, hhs, hls, hh]
    · simp [senseFault, hpulse, hhs, hls, hh, hl]
    · simp [senseFault, ChannelLocal.off, hpulse, hhs, hls, hh]
    · simp [senseFault, ChannelLocal.off, hpulse, hhs, hls, hh, hl]
  · exact ⟨_, next_of_pos hk _ _, failChannel_spec hin 5⟩
  · obtain ⟨hown, hothers, honly⟩ := modChannel_spec hin (fun c => { c with overdue := true })
    exact ⟨_, next_of_pos ⟨hk, hage⟩ _ _, hown, hothers, honly⟩

end Sys2Proof.Machine
end

section
/-! The safety trips (R340 to R344). -/

namespace Sys2Proof.Machine

/-! ## Channels and thrust units as decided from mirrored state -/

section
variable {k i : Nat} {s : State}

theorem safeChannel_modSafe_same (hk : k < s.mir.trv.channels.length) (f : SafeChannel → SafeChannel) :
    safeChannel k (modSafe k f s) = f (safeChannel k s) := by
  simp [safeChannel, modSafe, modTrv, modAt, List.getD_eq_getElem?_getD, hk]

theorem safeChannel_modSafe_other (h : i ≠ k) (f : SafeChannel → SafeChannel) : safeChannel i (modSafe k f s) = safeChannel i s := by
  simp [safeChannel, modSafe, modTrv, modAt, List.getD_eq_getElem?_getD, h.symm]

/-- The permits alone follow. -/
theorem safeChannel_updatePermits (i : Nat) (s : State) : ∃ p, safeChannel i (updatePermits s) = { safeChannel i s with permit := p } := by
  simp only [safeChannel, updatePermits, modTrv, mapAt, List.getD_eq_getElem?_getD, List.getElem?_mapIdx]
  cases s.mir.trv.channels[i]? with
  | none => exact ⟨_, rfl⟩
  | some c => exact ⟨_, rfl⟩

/-- A latched channel has no permit. -/
theorem permit_of_latched (hk : k < s.mir.trv.channels.length) (h : (safeChannel k s).latched = true) : (safeChannel k (updatePermits s)).permit = false := by
  have hown : safeChannel k s = s.mir.trv.channels[k] := by simp [safeChannel, List.getD_eq_getElem?_getD, hk]
  rw [hown] at h
  simp [safeChannel, updatePermits, modTrv, mapAt, List.getD_eq_getElem?_getD, hk, permitOf, h]

theorem unitState_modUnit_same (hk : k < s.mir.alc.units.length) (f : UnitState → UnitState) : unitState k (modUnit k f s) = f (unitState k s) := by
  simp [unitState, modUnit, modAt, List.getD_eq_getElem?_getD, hk]

theorem unitState_modUnit_other (h : i ≠ k) (f : UnitState → UnitState) : unitState i (modUnit k f s) = unitState i s := by
  simp [unitState, modUnit, modAt, List.getD_eq_getElem?_getD, h.symm]

end

/-- The two states differ in the safe channels, the thrust units and the event state at most. -/
structure TripOnly (s t : State) : Prop where
  eq : t = withEvents { s with mir := { s.mir with
    trv := { s.mir.trv with channels := t.mir.trv.channels }, alc := { s.mir.alc with units := t.mir.alc.units } } } t

namespace TripOnly

theorem refl (s : State) : TripOnly s s := ⟨rfl⟩

theorem trans {s t u : State} (hst : TripOnly s t) (htu : TripOnly t u) : TripOnly s u := by
  obtain ⟨l, m, v, rfl⟩ : ∃ l m v, t = withEvents { s with mir := { s.mir with
    trv := { s.mir.trv with channels := l }, alc := { s.mir.alc with units := m } } } v := ⟨_, _, _, hst.eq⟩
  exact ⟨htu.eq⟩

theorem events {s t : State} (h : EventsOnly s t) : TripOnly s t := by
  obtain ⟨v, rfl⟩ : ∃ v, t = withEvents s v := ⟨_, h.eq⟩
  exact ⟨rfl⟩

theorem kept {s t : State} (h : TripOnly s t) : t.trv = s.trv ∧ t.ex = s.ex ∧ t.mir.mode = s.mir.mode ∧ t.cfg = s.cfg ∧ t.mir.wsk = s.mir.wsk ∧
    t.mir.trv.slsTripped = s.mir.trv.slsTripped := by
  obtain ⟨l, m, v, rfl⟩ : ∃ l m v, t = withEvents { s with mir := { s.mir with
    trv := { s.mir.trv with channels := l }, alc := { s.mir.alc with units := m } } } v := ⟨_, _, _, h.eq⟩
  exact ⟨rfl, rfl, rfl, rfl, rfl, rfl⟩

theorem channelUnit {s t : State} (h : TripOnly s t) (k : Nat) : channelUnit k t = channelUnit k s := by
  obtain ⟨l, m, v, rfl⟩ : ∃ l m v, t = withEvents { s with mir := { s.mir with
    trv := { s.mir.trv with channels := l }, alc := { s.mir.alc with units := m } } } v := ⟨_, _, _, h.eq⟩
  rfl

end TripOnly

theorem safeChannel_of_events {s t : State} (h : EventsOnly s t) (k : Nat) : safeChannel k t = safeChannel k s := by
  obtain ⟨v, rfl⟩ : ∃ v, t = withEvents s v := ⟨_, h.eq⟩
  rfl

theorem unitState_of_events {s t : State} (h : EventsOnly s t) (k : Nat) : unitState k t = unitState k s := by
  obtain ⟨v, rfl⟩ : ∃ v, t = withEvents s v := ⟨_, h.eq⟩
  rfl

/-! ## Removal of a thrust unit -/

/-- A unit excluded with cause c. -/
def unitRemoved (c : Nat) (u : UnitState) : UnitState := { setCauses (insertNat c u.present) u with excluded := true, clear := 0 }

theorem removeUnit_events (j c : Nat) (s : State) : EventsOnly (modUnit j (unitRemoved c) s) (removeUnit j c s) := by
  unfold removeUnit
  dsimp only
  split
  · exact EventsOnly.refl _
  · exact EventsOnly.raiseWith 102 j c 0 _

theorem unitState_removeUnit_same {j : Nat} {s : State} (hj : j < s.mir.alc.units.length) (c : Nat) :
    unitState j (removeUnit j c s) = unitRemoved c (unitState j s) :=
  (unitState_of_events (removeUnit_events j c s) j).trans (unitState_modUnit_same hj _)

theorem unitState_removeUnit_other {i j : Nat} (h : i ≠ j) (c : Nat) (s : State) : unitState i (removeUnit j c s) = unitState i s :=
  (unitState_of_events (removeUnit_events j c s) i).trans (unitState_modUnit_other h _)

theorem safeChannel_removeUnit (i j c : Nat) (s : State) : safeChannel i (removeUnit j c s) = safeChannel i s :=
  safeChannel_of_events (removeUnit_events j c s) i

theorem TripOnly.removeUnit (j c : Nat) (s : State) : TripOnly s (removeUnit j c s) :=
  trans (t := modUnit j (unitRemoved c) s) ⟨rfl⟩ (.events (removeUnit_events j c s))

theorem feedback_removeUnit (i j c : Nat) (s : State) : (unitState i (removeUnit j c s)).feedback = (unitState i s).feedback := by
  by_cases h : i = j
  · subst h
    rw [unitState_of_events (removeUnit_events i c s) i]
    by_cases hi : i < s.mir.alc.units.length
    · rw [unitState_modUnit_same hi]
      rfl
    · simp [unitState, modUnit, modAt, List.getD_eq_getElem?_getD, hi]
  · rw [unitState_removeUnit_other h]

/-! ## A trip (R344) -/

/-- A trip latched on channel k. -/
def latchTrip (k : Nat) (f : SafeChannel → SafeChannel) (s : State) : State := tripped k (modSafe k f s)

/-- The permits after a channel has changed. -/
def permitsAfter (k : Nat) (f : SafeChannel → SafeChannel) (s : State) : State := updatePermits (modSafe k f s)

section
variable {k : Nat} (f : SafeChannel → SafeChannel) (s : State)

/-- A trip is the permits' update, and the removal of the unit that the channel serves. -/
theorem latchTrip_of_unit {j : Nat} (h : channelUnit k s = some j) : latchTrip k f s = removeUnit j 4 (permitsAfter k f s) := by
  unfold latchTrip tripped
  dsimp only
  rw [show channelUnit k (updatePermits (modSafe k f s)) = some j from h]
  rfl

theorem latchTrip_of_none (h : channelUnit k s = none) : latchTrip k f s = permitsAfter k f s := by
  unfold latchTrip tripped
  dsimp only
  rw [show channelUnit k (updatePermits (modSafe k f s)) = none from h]
  rfl

theorem latchTrip_cases : latchTrip k f s = permitsAfter k f s ∨ ∃ j, latchTrip k f s = removeUnit j 4 (permitsAfter k f s) := by
  cases h : channelUnit k s with
  | none => exact .inl (latchTrip_of_none f s h)
  | some j => exact .inr ⟨j, latchTrip_of_unit f s h⟩

theorem TripOnly.latchTrip : TripOnly s (latchTrip k f s) := by
  have hset : TripOnly s (permitsAfter k f s) := ⟨rfl⟩
  obtain h | ⟨j, h⟩ := latchTrip_cases (k := k) f s
  · rwa [h]
  · rw [h]
    exact hset.trans (.removeUnit j 4 _)

/-- The channels after a trip: those of the permits. -/
theorem safeChannel_latchTrip (i : Nat) : safeChannel i (latchTrip k f s) = safeChannel i (permitsAfter k f s) := by
  obtain h | ⟨j, h⟩ := latchTrip_cases (k := k) f s
  · rw [h]
  · rw [h, safeChannel_removeUnit]

theorem latchTrip_other {i : Nat} (h : i ≠ k) : ∃ p, safeChannel i (latchTrip k f s) = { safeChannel i s with permit := p } := by
  obtain ⟨p, hp⟩ := safeChannel_updatePermits i (modSafe k f s)
  rw [safeChannel_modSafe_other h] at hp
  exact ⟨p, (safeChannel_latchTrip f s i).trans hp⟩

theorem feedback_latchTrip (i : Nat) : (unitState i (latchTrip k f s)).feedback = (unitState i s).feedback := by
  obtain h | ⟨j, h⟩ := latchTrip_cases (k := k) f s
  · rw [h]
    rfl
  · rw [h, feedback_removeUnit]
    rfl

theorem length_latchTrip : (latchTrip k f s).mir.trv.channels.length = s.mir.trv.channels.length := by
  have hset : (permitsAfter k f s).mir.trv.channels.length = s.mir.trv.channels.length := by
    simp [permitsAfter, updatePermits, modSafe, modTrv, mapAt, modAt]
  obtain h | ⟨j, h⟩ := latchTrip_cases (k := k) f s
  · rw [h, hset]
  · rw [h, ← hset, (removeUnit_events j 4 _).eq]
    rfl

variable {f} {s}

theorem latchTrip_own (hk : k < s.mir.trv.channels.length) : ∃ p, safeChannel k (latchTrip k f s) = { f (safeChannel k s) with permit := p } := by
  obtain ⟨p, hp⟩ := safeChannel_updatePermits k (modSafe k f s)
  rw [safeChannel_modSafe_same hk] at hp
  exact ⟨p, (safeChannel_latchTrip f s k).trans hp⟩

theorem latchTrip_permit (hk : k < s.mir.trv.channels.length) (h : (f (safeChannel k s)).latched = true) :
    (safeChannel k (latchTrip k f s)).permit = false := by
  rw [safeChannel_latchTrip]
  refine permit_of_latched ?_ ((congrArg SafeChannel.latched (safeChannel_modSafe_same hk f)).trans h)
  simpa [modSafe, modTrv, modAt] using hk

/-- The unit that the channel serves is excluded with cause 4, and no other one. -/
theorem latchTrip_unit {j : Nat} (hunit : channelUnit k s = some j) (hj : j < s.mir.alc.units.length) :
    (unitState j (latchTrip k f s)).excluded = true ∧ 4 ∈ (unitState j (latchTrip k f s)).present ∧
      ∀ i, i ≠ j → unitState i (latchTrip k f s) = unitState i s := by
  rw [latchTrip_of_unit f s hunit, unitState_removeUnit_same (s := permitsAfter k f s) hj]
  exact ⟨rfl, (mem_insertNat 4 4 _).mpr (.inl rfl), fun i hi => unitState_removeUnit_other hi 4 _⟩

end

/-! ## Speed (R342) -/

/-- One channel where Safely Limited Speed has completed its tolerance. -/
def slsLatched (s : State) (k : Nat) : State :=
  match channelUnit k s with
  | some j => if slsQualifies j s then latchTrip k (fun c => { c with sls := true }) s else s
  | none => s

/-- A trip latches on channel k. -/
def slsDue (k : Nat) (s : State) : Prop := ∃ j, channelUnit k s = some j ∧ slsQualifies j s = true

/-- What the trips of other channels leave for the next one. -/
structure SlsKept (s t : State) : Prop where
  only : TripOnly s t
  feedback : ∀ j, (unitState j t).feedback = (unitState j s).feedback
  length : t.mir.trv.channels.length = s.mir.trv.channels.length
  others : ∀ i, (safeChannel i t).slt = (safeChannel i s).slt ∧ (safeChannel i t).sts = (safeChannel i s).sts

namespace SlsKept

theorem refl (s : State) : SlsKept s s := ⟨.refl s, fun _ => rfl, rfl, fun _ => ⟨rfl, rfl⟩⟩

theorem trans {s t u : State} (hst : SlsKept s t) (htu : SlsKept t u) : SlsKept s u where
  only := hst.only.trans htu.only
  feedback j := (htu.feedback j).trans (hst.feedback j)
  length := htu.length.trans hst.length
  others i := ⟨(htu.others i).1.trans (hst.others i).1, (htu.others i).2.trans (hst.others i).2⟩

theorem due {s t : State} (h : SlsKept s t) (k : Nat) : slsDue k t ↔ slsDue k s := by
  have hqualifies (j : Nat) : slsQualifies j t = slsQualifies j s := by
    have hfeedback := h.feedback j
    obtain ⟨l, m, v, rfl⟩ : ∃ l m v, t = withEvents { s with mir := { s.mir with
      trv := { s.mir.trv with channels := l }, alc := { s.mir.alc with units := m } } } v := ⟨_, _, _, h.only.eq⟩
    unfold slsQualifies safetyActs
    rw [hfeedback]
    rfl
  simp only [slsDue, h.only.channelUnit, hqualifies]

theorem latchTrip {k : Nat} {s : State} (hk : k < s.mir.trv.channels.length) : SlsKept s (latchTrip k (fun c => { c with sls := true }) s) where
  only := .latchTrip _ s
  feedback := feedback_latchTrip _ s
  length := length_latchTrip _ s
  others i := by
    by_cases hi : i = k
    · subst hi
      obtain ⟨p, hp⟩ := latchTrip_own (f := fun c => { c with sls := true }) hk
      rw [hp]
      exact ⟨rfl, rfl⟩
    · obtain ⟨p, hp⟩ := latchTrip_other (f := fun c => { c with sls := true }) (s := s) hi
      rw [hp]
      exact ⟨rfl, rfl⟩

end SlsKept

theorem slsLatched_of_due {k : Nat} {s : State} (h : slsDue k s) : slsLatched s k = latchTrip k (fun c => { c with sls := true }) s := by
  obtain ⟨j, hunit, hqualifies⟩ := h
  rw [slsLatched, hunit]
  exact if_pos hqualifies

theorem slsLatched_of_not {k : Nat} {s : State} (h : ¬ slsDue k s) : slsLatched s k = s := by
  unfold slsLatched
  cases hunit : channelUnit k s with
  | none => rfl
  | some j => exact if_neg fun hqualifies => h ⟨j, hunit, hqualifies⟩

/-- The walk over the channels latches those that are due, and these alone. -/
theorem foldl_slsLatched (l : List Nat) (s : State) (hl : ∀ k ∈ l, k < s.mir.trv.channels.length) :
    SlsKept s (l.foldl slsLatched s) ∧
      ∀ i, (safeChannel i (l.foldl slsLatched s)).sls = true ↔ (safeChannel i s).sls = true ∨ i ∈ l ∧ slsDue i s := by
  induction l generalizing s with
  | nil => exact ⟨.refl s, fun i => by simp⟩
  | cons k l ih =>
    have hk := hl k List.mem_cons_self
    by_cases hdue : slsDue k s
    · rw [List.foldl_cons, slsLatched_of_due hdue]
      have hkept := SlsKept.latchTrip hk
      obtain ⟨hrest, hsls⟩ := ih (latchTrip k (fun c => { c with sls := true }) s) fun i hi => hkept.length ▸ hl i (List.mem_cons_of_mem k hi)
      refine ⟨hkept.trans hrest, fun i => ?_⟩
      rw [hsls, hkept.due]
      by_cases hi : i = k
      · subst hi
        obtain ⟨p, hp⟩ := latchTrip_own (f := fun c => { c with sls := true }) hk
        simp [hp, hdue]
      · obtain ⟨p, hp⟩ := latchTrip_other (f := fun c => { c with sls := true }) (s := s) hi
        simp [hp, hi]
    · rw [List.foldl_cons, slsLatched_of_not hdue]
      obtain ⟨hrest, hsls⟩ := ih s fun i hi => hl i (List.mem_cons_of_mem k hi)
      refine ⟨hrest, fun i => ?_⟩
      rw [hsls]
      by_cases hi : i = k
      · subst hi
        simp [hdue]
      · simp [hi]

/-! ## The statement -/

/-- A latch of one function on channel k, with the event of its thrust unit. -/
theorem tripRaised_spec {k j e : Nat} {f : SafeChannel → SafeChannel} {s : State} (hk : k < s.mir.trv.channels.length)
    (hunit : channelUnit k s = some j) (hj : j < s.mir.alc.units.length) (hlatched : (f (safeChannel k s)).latched = true) :
    let t := raiseAt e j (latchTrip k f s)
    (∃ p, safeChannel k t = { f (safeChannel k s) with permit := p }) ∧ (safeChannel k t).permit = false ∧ (unitState j t).excluded = true ∧
      4 ∈ (unitState j t).present ∧ eventActive e t = true ∧ (∀ i, i ≠ k → ∃ p, safeChannel i t = { safeChannel i s with permit := p }) ∧
      (∀ i, i ≠ j → unitState i t = unitState i s) ∧ t.trv = s.trv ∧ t.ex = s.ex ∧ t.mir.mode = s.mir.mode := by
  have hevents := EventsOnly.raiseAt e j (latchTrip k f s)
  obtain ⟨hexcluded, hpresent, hothers⟩ := latchTrip_unit (f := f) hunit hj
  obtain ⟨htrv, hex, hmode, -, -, -⟩ := ((TripOnly.latchTrip f s).trans (.events hevents)).kept
  refine ⟨?_, ?_, ?_, ?_, by simp, fun i hi => ?_, fun i hi => ?_, htrv, hex, hmode⟩
  · rw [safeChannel_of_events hevents]
    exact latchTrip_own hk
  · rw [safeChannel_of_events hevents, latchTrip_permit hk hlatched]
  · rw [unitState_of_events hevents, hexcluded]
  · rwa [unitState_of_events hevents]
  · rw [safeChannel_of_events hevents]
    exact latchTrip_other f s hi
  · rw [unitState_of_events hevents, hothers i hi]

theorem sltTrip_of_exceeding {k j : Nat} {s : State} (hunit : channelUnit k s = some j) (hrun : sltTolerance k s ≤ (safeChannel k s).sltRun)
    (hexceeds : sltExceeds j s = true) (hfresh : (safeChannel k s).slt = false) :
    exec (.sltTrip k) s = .next (raiseAt 112 j (latchTrip k (fun c => { c with slt := true }) s)) := by
  refine congrArg Host.Outcome.next ?_
  rw [sltTrip, hunit]
  exact if_pos ⟨hrun, hexceeds, by simp [hfresh]⟩

theorem stsTrip_of_exceeding {k j : Nat} {s : State} (hunit : channelUnit k s = some j) (hrun : s.cfg.image.stsTol ≤ (safeChannel k s).stsRun)
    (hexceeds : stsExceeds j s = true) (hfresh : (safeChannel k s).sts = false) :
    exec (.stsTrip k) s = .next (raiseAt 113 j (latchTrip k (fun c => { c with sts := true }) s)) := by
  refine congrArg Host.Outcome.next ?_
  rw [stsTrip, hunit]
  exact if_pos ⟨hrun, hexceeds, by simp [hfresh]⟩

theorem slsTrip_of_exceeding {s : State} (hrun : s.cfg.image.slsTol ≤ s.mir.trv.slsRun) (hexceeds : slsExceeds s = true)
    (hfresh : s.mir.trv.slsTripped = false) :
    exec .slsTrip s = .next (raise 114 ((List.range 8).foldl slsLatched (modTrv (fun t => { t with slsTripped := true }) s))) :=
  congrArg Host.Outcome.next (if_pos ⟨hrun, hexceeds, by simp [hfresh]⟩)

theorem safetyActs_of {j : Nat} {s : State} (hmode : s.mir.mode.pairMode = .active)
    (hremote : ∀ f, (unitState j s).feedback = some f → f.loc = false) : safetyActs j s = true := by
  unfold safetyActs
  rw [hmode]
  cases hf : (unitState j s).feedback with
  | none => rfl
  | some f => simp [hremote f hf]

/-- Settles O40: the trips of thrust (R340), sector (R341) and speed (R342), and the blind event. -/
theorem safetyTripsLatchTheirChannel : Obligations.SafetyTripsLatchTheirChannel := by
  intro s hlen hunits
  refine ⟨fun k j hk hj hunit => ⟨fun lim hrun hfresh hlim hmode hremote hover => ?_, fun hrun hfresh hexceeds => ?_⟩,
    fun b lim u v hrun hfresh hmode hheld hu hv hberth hspeed hover => ?_, fun hrun hfresh => ?_⟩
  · have hexceeds : sltExceeds j s = true := by
      rw [sltExceeds, hlim]
      dsimp only
      rcases hover with hmissing | ⟨f, x, hf, hx, hover⟩
      · simp [safetyActs_of hmode hremote, hmissing]
      · rw [safetyActs_of hmode hremote, hf, Option.bind_some, hx]
        simp only [Bool.true_and, Bool.or_eq_true]
        exact .inr (decide_eq_true hover)
    obtain ⟨⟨p, hp⟩, hpermit, hexcluded, hpresent, hevent, hothers, hrest⟩ :=
      tripRaised_spec (e := 112) (f := fun c => { c with slt := true }) (hlen ▸ hk) hunit (hunits ▸ hj) (by simp [SafeChannel.latched])
    refine ⟨_, sltTrip_of_exceeding hunit hrun hexceeds hfresh, by rw [hp], hpermit, hexcluded, hpresent, hevent, fun i hi => ?_, hrest⟩
    obtain ⟨q, hq⟩ := hothers i hi
    rw [hq]
  · obtain ⟨⟨p, hp⟩, hpermit, hexcluded, hpresent, hevent, hothers, hrest⟩ :=
      tripRaised_spec (e := 113) (f := fun c => { c with sts := true }) (hlen ▸ hk) hunit (hunits ▸ hj) (by simp [SafeChannel.latched])
    refine ⟨_, stsTrip_of_exceeding hunit hrun hexceeds hfresh, by rw [hp], hpermit, hexcluded, hpresent, hevent, fun i hi => ?_, hrest⟩
    obtain ⟨q, hq⟩ := hothers i hi
    rw [hq]
  · have hspeed2 : speed2 s = u * u + v * v := by simp [speed2, hu, hv]
    have hexists : velocityExists s = true := by simp [velocityExists, hheld, hu, hv]
    have hexceeds : slsExceeds s = true := by
      rw [slsExceeds, hexists, hmode, hberth, hspeed2]
      dsimp only [Option.bind_some]
      rw [hspeed]
      exact decide_eq_true hover
    obtain ⟨hkept, hsls⟩ := foldl_slsLatched (List.range 8) (modTrv (fun t => { t with slsTripped := true }) s)
      fun k hk => (List.mem_range.mp hk).trans_eq hlen.symm
    have hevents := EventsOnly.raise 114 ((List.range 8).foldl slsLatched (modTrv (fun t => { t with slsTripped := true }) s))
    obtain ⟨htrv, hex, hmode', -, -, htripped⟩ := (hkept.only.trans (.events hevents)).kept
    refine ⟨_, slsTrip_of_exceeding hrun hexceeds hfresh, by simp, htripped, htrv, hex, hmode', fun k hk => ?_, fun k hk => ?_⟩
    · rw [safeChannel_of_events hevents, hsls]
      exact or_congr Iff.rfl (and_iff_right (List.mem_range.mpr hk))
    · rw [safeChannel_of_events hevents]
      exact hkept.others k
  · exact ⟨_, congrArg Host.Outcome.next (if_pos ⟨hrun, by simp [hfresh]⟩), raised_raise 114 _⟩

end Sys2Proof.Machine
end

section
/-! Conditions of fusion and estimation by their runs (R74, R157, R208 to R215). -/

namespace Sys2Proof.Machine

/-! ## Axes -/

theorem axisOf_modAxis_same (heading : Bool) (f : AxisState → AxisState) (s : State) : axisOf heading (modAxis heading f s) = f (axisOf heading s) := by
  cases heading <;> rfl

theorem axisOf_modAxis_other (heading : Bool) (f : AxisState → AxisState) (s : State) : axisOf (!heading) (modAxis heading f s) = axisOf (!heading) s := by
  cases heading <;> rfl

theorem modAxis_congr {heading : Bool} {f g : AxisState → AxisState} {s : State} (h : f (axisOf heading s) = g (axisOf heading s)) :
    modAxis heading f s = modAxis heading g s := by
  cases heading
  · exact congrArg (fun a => { s with mir := { s.mir with wsk := { s.mir.wsk with pos := a } } }) h
  · exact congrArg (fun a => { s with mir := { s.mir with wsk := { s.mir.wsk with hdg := a } } }) h

theorem axisOf_of_events {s t : State} (h : EventsOnly s t) (heading : Bool) : axisOf heading t = axisOf heading s := by
  obtain ⟨v, rfl⟩ : ∃ v, t = withEvents s v := ⟨_, h.eq⟩
  rfl

theorem disputeOver_of {a : AxisState} (hpair : a.pair.isSome = true)
    (h : 200 ≤ a.agreeRun ∨ a.third = true ∨ 200 ≤ a.absentRunA ∨ 200 ≤ a.absentRunB) : disputeOver a = true := by
  simp only [disputeOver, hpair, Bool.true_and, Bool.or_eq_true, decide_eq_true_eq, or_assoc]
  exact h

/-! ## The time-suspect state (R215) -/

/-- What the exit of source `src` leaves of a reference or a heading source. -/
def sourceExit (src : Nat) (o : Option Nat) (x : SourceState) : SourceState := if o.any (· == src) then x.setTime (leaveSuspect x.time) else x

def auxExit (src : Nat) (o : Option Nat) (x : AuxSource) : AuxSource := if o.any (· == src) then x.setTime (leaveSuspect x.time) else x

theorem sourceExit_of_leaving {src : Nat} {o : Option Nat} {x : SourceState} (h : o = some src ∧ x.suspect = true ∧ 120000 ≤ x.agreeRun) :
    sourceExit src o x = { x with suspect := false, agreeRun := 0, running := false } := by
  obtain ⟨rfl, hsuspect, hrun⟩ := h
  have hleave : leaveSuspect x.time = ⟨false, 0, x.sinceRecord, false⟩ := if_pos ⟨hsuspect, hrun⟩
  rw [sourceExit, hleave, if_pos (by simp)]
  rfl

theorem sourceExit_of_staying {src : Nat} {o : Option Nat} {x : SourceState} (h : ¬ (o = some src ∧ x.suspect = true ∧ 120000 ≤ x.agreeRun)) :
    sourceExit src o x = x := by
  by_cases hsrc : o = some src
  · have hstay : leaveSuspect x.time = x.time := if_neg fun hdue => h ⟨hsrc, hdue.1, hdue.2⟩
    rw [sourceExit, hstay]
    exact ite_self x
  · cases o with
    | none => rfl
    | some y => exact if_neg (by simpa using hsrc)

theorem auxExit_of_leaving {src : Nat} {o : Option Nat} {x : AuxSource} (ho : o = some src) (hsuspect : x.suspect = true) (hrun : 120000 ≤ x.agreeRun) :
    auxExit src o x = { x with suspect := false, agreeRun := 0, running := false } := by
  have hleave : leaveSuspect x.time = ⟨false, 0, x.sinceRecord, false⟩ := if_pos ⟨hsuspect, hrun⟩
  rw [auxExit, hleave, if_pos (by simp [ho])]
  rfl

/-- Whisk after the exit of source `src`. -/
def suspectsLeft (src : Nat) (s : State) : Whisk :=
  { s.mir.wsk with
    refs := mapAt s.mir.wsk.refs fun i x => sourceExit src (refSource i s) x
    hdgs := mapAt s.mir.wsk.hdgs fun h x => sourceExit src (hdgSource h s) x
    mrus := mapAt s.mir.wsk.mrus fun i x => auxExit src s.cfg.image.mrus[i]? x
    winds := mapAt s.mir.wsk.winds fun i x => auxExit src s.cfg.image.winds[i]? x
    drafts := mapAt s.mir.wsk.drafts fun i x => auxExit src s.cfg.image.drafts[i]? x
    feeds := mapAt s.mir.wsk.feeds fun j x => auxExit src ((s.cfg.image.units[j]?).map (·.source)) x }

/-- EV_085 ends with the last suspect source. -/
def suspectEnd (s : State) : State := if anySuspect s.mir.wsk then s else clearEvent 85 s

theorem timeSuspectExit_eq (src : Nat) (s : State) :
    exec (.timeSuspectExit src) s = .next (suspectEnd { s with mir := { s.mir with wsk := suspectsLeft src s } }) := rfl

theorem suspectEnd_spec (s : State) : EventsOnly s (suspectEnd s) ∧ eventActive 85 (suspectEnd s) = (eventActive 85 s && anySuspect s.mir.wsk) := by
  unfold suspectEnd
  split
  · next h => exact ⟨EventsOnly.refl s, by simp [h]⟩
  · next h => exact ⟨EventsOnly.clearEvent 85 s, by simp [h]⟩

/-- Settles O41: grades and disputes (R208, R211, R212), the time-suspect state (R215), the gate (R74) and skipped updates (R157). -/
theorem fusionConditionsFollowTheirRuns : Obligations.FusionConditionsFollowTheirRuns := by
  refine fun s => ⟨fun hrun hgrade => ?_, fun heading hpair hover => ?_, fun heading hpair hlimit hrun => ?_, fun src => ?_,
    fun hstarted hgate hrun hcov => ?_, fun hrun => if_pos hrun |> congrArg Host.Outcome.next⟩
  · refine ⟨_, next_of_pos ⟨hrun, hgrade⟩ _ _, ?_⟩
    rw [show riseGrade s.mir.wsk.pos = _ from if_pos ⟨hrun, hgrade⟩]
    exact cleared_clearEvent 90 _
  · have hevents := EventsOnly.clearEvent (if heading then 79 else 84) (modAxis heading endDispute s)
    have hown := (axisOf_of_events hevents heading).trans (axisOf_modAxis_same heading endDispute s)
    refine ⟨_, next_of_pos (disputeOver_of hpair hover) _ _, by rw [hown]; rfl, by rw [hown]; rfl, by rw [hown]; rfl, by rw [hown]; rfl,
      (axisOf_of_events hevents _).trans (axisOf_modAxis_other heading _ s), ?_⟩
    rw [hown, modAxis_congr (f := fun _ => endDispute (axisOf heading s)) (g := endDispute) rfl]
    exact cleared_clearEvent _ _
  · exact congrArg Host.Outcome.next (modAxis_congr (if_pos ⟨hpair, hlimit, hrun⟩))
  · obtain ⟨hevents, hactive⟩ := suspectEnd_spec { s with mir := { s.mir with wsk := suspectsLeft src s } }
    have hwsk : (suspectEnd { s with mir := { s.mir with wsk := suspectsLeft src s } }).mir.wsk = suspectsLeft src s :=
      (congrArg (fun u : State => u.mir.wsk) hevents.eq).trans rfl
    refine ⟨_, timeSuspectExit_eq src s, ?_, ?_, ?_⟩
    · rw [hwsk]
      exact hactive
    · rw [hwsk]
      exact hevents.eq
    · rw [hwsk]
      refine ⟨⟨fun i x hx => ⟨fun h => ?_, fun h => ?_⟩, fun i x hx => ⟨fun h => ?_, fun h => ?_⟩⟩, fun i x hx hsrc hsuspect hrun => ?_⟩
      · simp [suspectsLeft, mapAt, hx, sourceExit_of_leaving h]
      · simp [suspectsLeft, mapAt, hx, sourceExit_of_staying h]
      · simp [suspectsLeft, mapAt, hx, sourceExit_of_leaving h]
      · simp [suspectsLeft, mapAt, hx, sourceExit_of_staying h]
      · simp [suspectsLeft, mapAt, hx, auxExit_of_leaving hsrc hsuspect hrun]
  · exact ⟨_, congrArg Host.Outcome.next (if_pos ⟨hstarted, by simp [hgate], hrun, hcov⟩), raised_raise 95 _⟩

end Sys2Proof.Machine
end

section
/-! Forced functions and the conditions of allocation (R81, R82, R142, R143, R177 to R180, R213, R291, R292). -/

namespace Sys2Proof.Machine

/-! ## Forced functions (R81, R82, R213) -/

/-- The state in which the forced function f is in effect, but for the events. -/
def functionForced (f : Func) (s : State) : State :=
  modAlc (fun a => { a with push := 0 }) (modMpc (fun m => { m with leg := 0, legEpochs := 0 })
    (modMode (fun m => { m with func := some f, berth := 0, forced := true, funcEpoch := s.ex.epoch }) s))

theorem eventActive_functionForced (k : Nat) (f : Func) (s : State) : eventActive k (functionForced f s) = eventActive k s := rfl

theorem forceFunction_eq {f : Func} (hf : f ≠ .berthPush) (s : State) : forceFunction f s = raise 125 (clearEvent 126 (functionForced f s)) := by
  cases f
  case berthPush => exact absurd rfl hf
  all_goals rfl

theorem forceFunction_events {f : Func} (hf : f ≠ .berthPush) (s : State) : EventsOnly (functionForced f s) (forceFunction f s) := by
  rw [forceFunction_eq hf]
  exact (EventsOnly.clearEvent 126 _).trans (.raise 125 _)

/-- A forced function, whatever events follow it. -/
theorem functionForced_fields {f : Func} {s t : State} (h : EventsOnly (functionForced f s) t) :
    t.mir.mode.func = some f ∧ t.mir.mode.forced = true ∧ t.mir.mode.funcEpoch = s.ex.epoch ∧ t.mir.wsk = s.mir.wsk ∧
      t.mir.mode.pairMode = s.mir.mode.pairMode ∧ t.um = s.um ∧ t.ex = s.ex := by
  obtain ⟨v, rfl⟩ : ∃ v, t = withEvents (functionForced f s) v := ⟨_, h.eq⟩
  exact ⟨rfl, rfl, rfl, rfl, rfl, rfl, rfl⟩

/-- The position is lost. -/
def positionLost (s : State) : State := { s with mir := { s.mir with wsk := { s.mir.wsk with pos := { s.mir.wsk.pos with lost := true } } } }

/-- The heading is lost. -/
def headingGone (s : State) : State := { s with mir := { s.mir with wsk := { s.mir.wsk with hdg := { s.mir.wsk.hdg with lost := true } } } }

theorem limitDeadReckoning_of_forcing {s : State} (hlimit : s.cfg.image.tuning.drLimit < s.mir.wsk.pos.zeroRun)
    (hfunc : s.mir.mode.func = some .autoPosition ∨ s.mir.mode.func = some .autoTrack) :
    limitDeadReckoning s = raise 126 (forceFunction .autoHeading (positionLost s)) := by
  unfold limitDeadReckoning
  exact (if_pos hlimit).trans (if_pos hfunc)

theorem limitDeadReckoning_of_other {s : State} (hlimit : s.cfg.image.tuning.drLimit < s.mir.wsk.pos.zeroRun)
    (hfunc : ¬ (s.mir.mode.func = some .autoPosition ∨ s.mir.mode.func = some .autoTrack)) : limitDeadReckoning s = positionLost s := by
  unfold limitDeadReckoning
  exact (if_pos hlimit).trans (if_neg hfunc)

/-- The loss of the heading, before a function gives way. -/
def headingLostNoted (s : State) : State := raise 91 (headingGone s)

theorem loseHeading_of_run {s : State} (hlimit : s.cfg.image.tuning.hdgLimit ≤ s.mir.wsk.hdg.zeroRun) (hrun : 0 < s.mir.wsk.hdg.zeroRun) :
    loseHeading s =
      if (headingLostNoted s).mir.mode.func = some .autoHeading then forceFunction .joystick (headingLostNoted s) else headingLostNoted s := by
  unfold loseHeading
  exact if_pos ⟨hlimit, hrun⟩

/-- The loss of the heading is noted in the heading and the events alone. -/
theorem headingLostNoted_fields (s : State) : (headingLostNoted s).mir.wsk.hdg.lost = true ∧ eventActive 91 (headingLostNoted s) = true ∧
    (headingLostNoted s).um = s.um ∧ (headingLostNoted s).ex = s.ex ∧ (headingLostNoted s).mir.mode = s.mir.mode := by
  have hevents := EventsOnly.raise 91 (headingGone s)
  have hactive : eventActive 91 (headingLostNoted s) = true := (eventActive_raise 91 91 (headingGone s)).trans rfl
  obtain ⟨v, hv⟩ : ∃ v, headingLostNoted s = withEvents (headingGone s) v := ⟨_, hevents.eq⟩
  refine ⟨?_, hactive, ?_⟩
  · rw [hv]
    rfl
  · rw [hv]
    exact ⟨rfl, rfl, rfl⟩

/-! ## Zero thrust (R143) -/

/-- Unit j at zero thrust, with its azimuth held. -/
def unitZeroed (s : State) (j : Nat) : State :=
  putSetPoint j (markSetPoint j true true false false (zeroSetPoint (unitDecl j s) (unitState j s).prev) s) (modUnit j noForce s)

/-- What a zero set-point holds. -/
def ZeroThrust (az : Int) (p : SetPoint) : Prop := p.thrust = some 0 ∧ p.zero = true ∧ p.azimuth = some az

theorem unitState_unitZeroed_other {i j : Nat} (h : i ≠ j) (s : State) : unitState i (unitZeroed s j) = unitState i s :=
  (unitState_modUnit_other h _).trans (unitState_modUnit_other h _)

theorem length_unitZeroed (s : State) (j : Nat) : (unitZeroed s j).mir.alc.units.length = s.mir.alc.units.length := by
  simp [unitZeroed, putSetPoint, modUnit, modAt]

theorem unitZeroed_same {j : Nat} {s : State} (hj : j < s.mir.alc.units.length) :
    ZeroThrust ((unitState j s).prev.azimuth.getD 0) (unitState j (unitZeroed s j)).prev := by
  have hj' : j < (modUnit j noForce s).mir.alc.units.length := by simpa [modUnit, modAt] using hj
  rw [unitZeroed, putSetPoint, unitState_modUnit_same hj']
  exact ⟨rfl, rfl, rfl⟩

/-- The walk leaves each unit outside its list as it is, and each of its list at zero thrust. -/
theorem foldl_unitZeroed : ∀ (l : List Nat) (s : State), l.Nodup → (∀ j ∈ l, j < s.mir.alc.units.length) →
    (l.foldl unitZeroed s).mir.ldl = s.mir.ldl ∧ (∀ i, i ∉ l → unitState i (l.foldl unitZeroed s) = unitState i s) ∧
      ∀ j ∈ l, ZeroThrust ((unitState j s).prev.azimuth.getD 0) (unitState j (l.foldl unitZeroed s)).prev
  | [], _, _, _ => ⟨rfl, fun _ _ => rfl, by simp⟩
  | k :: l, s, hnodup, hlen => by
    obtain ⟨hk, hl⟩ := List.nodup_cons.mp hnodup
    obtain ⟨hldl, hout, hin⟩ := foldl_unitZeroed l (unitZeroed s k) hl fun j hj => by
      rw [length_unitZeroed]
      exact hlen j (List.mem_cons_of_mem k hj)
    refine ⟨hldl, fun i hi => ?_, fun j hj => ?_⟩
    · obtain ⟨hik, hil⟩ := not_or.mp fun h => hi (List.mem_cons.mpr h)
      exact (hout i hil).trans (unitState_unitZeroed_other hik s)
    · by_cases hjk : j = k
      · subst hjk
        rw [List.foldl_cons, hout j hk]
        exact unitZeroed_same (hlen j List.mem_cons_self)
      · rw [← unitState_unitZeroed_other hjk s]
        exact hin j ((List.mem_cons.mp hj).resolve_left hjk)

/-- The state in which the fallback commands zero thrust. -/
def zeroCommanded (s : State) : State :=
  { s with mir := { s.mir with ldl := { s.mir.ldl with alcHold := min 7 (s.mir.ldl.alcHold + 1), alcZero := true } } }

theorem fallbackAllocation_of_zero {s : State} (mask : Nat) (h : 4 ≤ s.mir.ldl.alcHold ∨ s.mir.alc.everSolved = false) :
    fallbackAllocation mask s = ((unitIds s).filter fun j => mask.testBit j).foldl unitZeroed (zeroCommanded s) := by
  have hzero : (decide (5 ≤ min 7 (s.mir.ldl.alcHold + 1)) || !s.mir.alc.everSolved) = true := by
    rcases h with h | h
    · simp only [Bool.or_eq_true, decide_eq_true_eq]
      omega
    · simp [h]
  unfold fallbackAllocation
  dsimp only
  rw [hzero]
  rfl

/-! ## Thrust units without feedback, or in discrepancy (R179) -/

theorem eventActive_removeUnit {j : Nat} {s : State} (h : (unitState j s).excluded = false) (c : Nat) : eventActive 102 (removeUnit j c s) = true := by
  unfold removeUnit
  dsimp only
  rw [h]
  exact (eventActive_raiseWith 102 102 j c 0 _).trans rfl

/-- A unit removed from the allocation after a change of its own state alone. -/
theorem removeUnit_spec {j c : Nat} {s u : State} (hu : u = { s with mir := { s.mir with alc := { s.mir.alc with units := u.mir.alc.units } } })
    (hother : ∀ i, i ≠ j → unitState i u = unitState i s) (hj : j < u.mir.alc.units.length) :
    (unitState j (removeUnit j c u)).excluded = true ∧ c ∈ (unitState j (removeUnit j c u)).present ∧
      ((unitState j u).excluded = false → eventActive 102 (removeUnit j c u) = true) ∧
      removeUnit j c u = withEvents { s with mir := { s.mir with alc := { s.mir.alc with units := (removeUnit j c u).mir.alc.units } } } (removeUnit j c u) ∧
      ∀ i, i ≠ j → unitState i (removeUnit j c u) = unitState i s := by
  have hown := unitState_removeUnit_same hj c
  have hactive := fun h => eventActive_removeUnit (j := j) (s := u) h c
  have hkept : removeUnit j c u = withEvents { s with mir := { s.mir with alc := { s.mir.alc with units := (removeUnit j c u).mir.alc.units } } } (removeUnit j c u) := by
    obtain ⟨l, rfl⟩ : ∃ l, u = { s with mir := { s.mir with alc := { s.mir.alc with units := l } } } := ⟨_, hu⟩
    obtain ⟨v, hv⟩ : ∃ v, removeUnit j c { s with mir := { s.mir with alc := { s.mir.alc with units := l } } } =
        withEvents (modUnit j (unitRemoved c) { s with mir := { s.mir with alc := { s.mir.alc with units := l } } }) v := ⟨_, (removeUnit_events j c _).eq⟩
    rw [hv]
    rfl
  refine ⟨by rw [hown]; rfl, ?_, hactive, hkept, fun i hi => (unitState_removeUnit_other hi c u).trans (hother i hi)⟩
  rw [hown]
  exact (mem_insertNat c c _).mpr (.inl rfl)

/-! ## Field data (R178, R291, R292) -/

theorem allocationSaturation_of_run {k : Nat} {s : State} (hk : k < 3) (h : 20 ≤ s.mir.alc.satRun.getD k 0) :
    ∃ i, exec .allocationSaturation s = .next (raiseAt 101 i s) := by
  have hfound : ((List.range 3).find? fun k => decide (20 ≤ s.mir.alc.satRun.getD k 0)).isSome = true :=
    List.find?_isSome.mpr ⟨k, List.mem_range.mpr hk, decide_eq_true h⟩
  obtain ⟨i, hi⟩ := Option.isSome_iff_exists.mp hfound
  refine ⟨i, congrArg Host.Outcome.next ?_⟩
  rw [hi]

/-- Panel k no longer valid, and no longer in command. -/
def panelTimedOut (k : Nat) (s : State) : State :=
  modFld (fun f => { f with panels := modAt f.panels k fun p => { p with valid := false }
                            command := if f.command = some k then none else f.command }) s

theorem joystickPanelTimeout_of_old {k : Nat} {p : PanelState} {s : State} (hp : s.mir.fld.panels[k]? = some p) (hage : 40 < p.age) :
    exec (.joystickPanelTimeout k) s = .next (joystickEvent (panelTimedOut k s)) := by
  have hown : s.mir.fld.panels.getD k {} = p := by simp [List.getD_eq_getElem?_getD, hp]
  exact next_of_pos (hown ▸ hage) _ _

/-! ## The statement -/

/-- Settles O42: forced functions, saturation, zero thrust, exclusion and rejoining of thrust units, stale field data. -/
theorem allocationConditionsFollowTheirRuns : Obligations.AllocationConditionsFollowTheirRuns := by
  intro s hunits himage
  have hlt {j : Nat} (hj : declared j s = true) : j < s.mir.alc.units.length :=
    hunits ▸ (of_decide_eq_true hj).trans_le himage
  refine ⟨fun hlimit => ⟨fun hfunc => ?_, fun hposition htrack => ?_⟩, fun hlimit hrun => ?_, fun k hk hrun => ?_, fun hzero hmode hran => ?_,
    fun mask hrun => ?_, fun j hj => ⟨fun hrun => ?_, fun hrun => ?_, fun hexcluded hpresent hclear => ?_⟩, fun k h1 hk hmode hstale => ?_,
    fun hstale => ?_, fun k p hp hage => ?_⟩
  · have hevents : EventsOnly (functionForced .autoHeading (positionLost s)) (raise 126 (forceFunction .autoHeading (positionLost s))) :=
      (forceFunction_events (by decide) _).trans (.raise 126 _)
    obtain ⟨hf, hforced, hepoch, hwsk, hpair, hum, hex⟩ := functionForced_fields hevents
    have h125 : eventActive 125 (raise 126 (forceFunction .autoHeading (positionLost s))) = true := by
      simp [forceFunction_eq (f := .autoHeading) (by decide)]
    have h126 : eventActive 126 (raise 126 (forceFunction .autoHeading (positionLost s))) = true :=
      (eventActive_raise 126 126 (forceFunction .autoHeading (positionLost s))).trans rfl
    have hlost : (raise 126 (forceFunction .autoHeading (positionLost s))).mir.wsk.pos.lost = true := congrArg (·.pos.lost) hwsk
    exact ⟨_, congrArg Host.Outcome.next (limitDeadReckoning_of_forcing hlimit hfunc), hf, hforced, hepoch, hlost, h125, h126, hpair, hum, hex⟩
  · exact congrArg Host.Outcome.next (limitDeadReckoning_of_other hlimit fun h => h.elim hposition htrack)
  · obtain ⟨hlost, hactive, hum, hex, hmode⟩ := headingLostNoted_fields s
    refine ⟨_, congrArg Host.Outcome.next (loseHeading_of_run hlimit hrun), ?_⟩
    rw [hmode]
    by_cases hfunc : s.mir.mode.func = some .autoHeading
    · rw [if_pos hfunc, if_pos hfunc]
      obtain ⟨hf, -, -, hwsk, -, hum', hex'⟩ := functionForced_fields (forceFunction_events (f := .joystick) (by decide) (headingLostNoted s))
      refine ⟨by rw [hwsk, hlost], ?_, hum'.trans hum, hex'.trans hex, hf⟩
      simp [forceFunction_eq (f := .joystick) (by decide), eventActive_functionForced, hactive]
    · rw [if_neg hfunc, if_neg hfunc]
      exact ⟨hlost, hactive, hum, hex, by rw [hmode]⟩
  · obtain ⟨i, hi⟩ := allocationSaturation_of_run hk hrun
    exact ⟨_, hi, raised_raiseAt 101 i s⟩
  · exact ⟨_, next_of_pos ⟨hzero, hmode, hran⟩ _ _, raised_raise 99 s⟩
  · have hmem (j : Nat) (h : j ∈ (unitIds s).filter fun j => mask.testBit j) : j < (zeroCommanded s).mir.alc.units.length :=
      (List.mem_range.mp (List.mem_filter.mp h).1).trans_le ((Nat.min_le_left _ _).trans_eq hunits.symm)
    have hnodup : ((unitIds s).filter fun j => mask.testBit j).Nodup := List.nodup_range.filter _
    obtain ⟨hldl, -, hin⟩ := foldl_unitZeroed _ (zeroCommanded s) hnodup hmem
    rw [fallbackAllocation_of_zero mask hrun]
    refine ⟨by rw [hldl]; rfl, fun j hj hbit => hin j (List.mem_filter.mpr ⟨List.mem_range.mpr ?_, hbit⟩)⟩
    exact lt_min (hunits ▸ hlt hj) (of_decide_eq_true hj)
  · obtain ⟨hexcluded, hpresent, hactive, hkept, hothers⟩ := removeUnit_spec (c := 2) (s := s) (u := s) rfl (fun _ _ => rfl) (hlt hj)
    exact ⟨_, next_of_pos ⟨hj, hrun⟩ _ _, hexcluded, hpresent, hactive, hkept, hothers⟩
  · have hmarked := unitState_modUnit_same (hlt hj) (fun u => { u with discrepancy := true })
    have hj' : j < (modUnit j (fun u => { u with discrepancy := true }) s).mir.alc.units.length := by
      simpa [modUnit, modAt] using hlt hj
    obtain ⟨hexcluded, hpresent, hactive, hkept, hothers⟩ := removeUnit_spec (c := 3) (s := s) (u := modUnit j (fun u => { u with discrepancy := true }) s)
      rfl (fun i hi => unitState_modUnit_other hi _) hj'
    refine ⟨_, next_of_pos ⟨hj, hrun⟩ _ _, hexcluded, hpresent, ?_, fun h => hactive ?_, hkept, hothers⟩
    · rw [unitState_removeUnit_same hj', hmarked]
      rfl
    · rw [hmarked]
      exact h
  · exact ⟨_, next_of_pos ⟨hj, hexcluded, hpresent, hclear⟩ _ _, unitState_modUnit_same (hlt hj) _, rfl, fun i hi => unitState_modUnit_other hi _⟩
  · have hcommits : commits s.um.mode = true := by rcases hmode with h | h | h <;> rw [h] <;> rfl
    have hold : sectionStale (s.mir.alc.sections.getD (k - 1) {}) = true := by
      rw [sectionStale, Bool.or_eq_true, Option.isNone_iff_eq_none, decide_eq_true_eq]
      exact hstale.symm
    exact ⟨_, next_of_pos ⟨h1, hk, hcommits, hold⟩ _ _, raised_raiseAt 110 k s⟩
  · refine next_of_pos (hstale.imp_right fun h => ?_) _ _
    simp [h]
  · refine ⟨_, joystickPanelTimeout_of_old hp hage, ?_⟩
    have hevents : EventsOnly (panelTimedOut k s) (joystickEvent (panelTimedOut k s)) := .condition 53 _ _
    have hactive : eventActive 53 (joystickEvent (panelTimedOut k s)) =
        (usesJoystick s.mir.mode.func && (panelTimedOut k s).mir.fld.command.isNone) := (eventActive_condition 53 53 _ _).trans (if_pos rfl)
    obtain ⟨v, hv⟩ : ∃ v, joystickEvent (panelTimedOut k s) = withEvents (panelTimedOut k s) v := ⟨_, hevents.eq⟩
    rw [hactive, hv]
    refine ⟨?_, fun i hi => ?_, rfl, rfl, rfl⟩
    · change (modAt s.mir.fld.panels k _)[k]? = _
      simp [modAt, hp]
    · change (modAt s.mir.fld.panels k _)[i]? = _
      simp [modAt, hi.symm]

end Sys2Proof.Machine
end

section
/-! The cut-off: what an epoch opens with (R41 to R43). -/

namespace Sys2Proof.Machine

/-! ## The work of an epoch -/

/-- The work of the epoch so far: what a new epoch begins without. -/
structure EpochWork where
  fastDone : Bool
  decided : Bool
  emitted : Bool
  digestSent : Bool
  overrun : Bool
  committed : List InRecord
  commands : List Command
  effected : List Command

def workOf (s : State) : EpochWork :=
  ⟨s.ex.fastDone, s.ex.decided, s.ex.emitted, s.ex.digestSent, s.ex.overrun, s.ex.committed, s.ex.commands, s.ex.effected⟩

theorem workOf_of_events {s t : State} (h : EventsOnly s t) : workOf t = workOf s := by
  obtain ⟨v, rfl⟩ : ∃ v, t = withEvents s v := ⟨_, h.eq⟩
  rfl

theorem changeMode_workOf (dst : Mode) (cause : Nat) (s : State) : workOf (changeMode dst cause s) = workOf s := by
  by_cases h : transition s.um.mode dst = true
  · exact workOf_of_events (s := { s with um := { s.um with mode := dst } }) (changeMode_events h cause)
  · rw [changeMode, if_neg h]

/-! ## Roles and phases -/

theorem setPhase_workOf (p : Phase) (s : State) : workOf (setPhase p s) = workOf s := by
  have hclear (c : Prop) [Decidable c] : workOf (if c then clearEvent 119 s else s) = workOf s := by
    split
    · exact workOf_of_events (.clearEvent 119 s)
    · rfl
  exact hclear _

theorem startJoin_workOf (s : State) : workOf (startJoin s) = workOf s := setPhase_workOf .join s

theorem enterCopy_workOf (s : State) : workOf (enterCopy s) = workOf s := setPhase_workOf .copy s

theorem enterUnmirrored_workOf (s : State) : workOf (enterUnmirrored s) = workOf s := by
  unfold enterUnmirrored
  split
  · rfl
  · exact (workOf_of_events (.raise 119 _)).trans (setPhase_workOf .unmirrored s)

theorem roleChange_workOf (cause : Nat) (active : UnitId) (s : State) : workOf (roleChange cause active s) = workOf s :=
  workOf_of_events (s := noteRole cause active s) (.raise 127 _)

theorem takeActive_workOf (cause : Nat) (s : State) : workOf (takeActive cause s) = workOf s :=
  (roleChange_workOf cause _ _).trans (setPhase_workOf .none s)

theorem takeRoleDue_workOf (s : State) : workOf (takeRoleDue s) = workOf s := by
  unfold takeRoleDue
  split
  · split
    · exact takeActive_workOf _ s
    · rfl
  · rfl

theorem swapRoles_workOf (s : State) : workOf (swapRoles s) = workOf s := by
  unfold swapRoles
  dsimp only
  split
  · split
    · exact roleChange_workOf 5 _ _
    · exact roleChange_workOf 5 _ _
    · rfl
  · rfl

theorem standbyDecision_workOf (s : State) : workOf (standbyDecision s) = workOf s := by
  unfold standbyDecision
  split
  · split
    · exact takeActive_workOf 2 s
    · exact takeActive_workOf 1 s
    · rfl
  · rfl

theorem rejoin_workOf (s : State) : workOf (rejoin s) = workOf s := by
  unfold rejoin
  split
  · exact startJoin_workOf s
  · rfl

theorem standbyCleared_workOf (s : State) : workOf (standbyCleared s) = workOf s := by
  unfold standbyCleared
  split
  · exact enterUnmirrored_workOf s
  · rfl

theorem takeStandby_workOf (h : Heard) (s : State) : workOf (takeStandby h s) = workOf s := by
  have hjoin : workOf (startJoin { s with um := { s.um with role := .standby, roleWait := 0 }, pair := { s.pair with attempts := 0 } }) = workOf s :=
    startJoin_workOf _
  unfold takeStandby
  dsimp only
  split
  · split
    · exact (changeMode_workOf h.mode 0 _).trans hjoin
    · exact hjoin
  · exact hjoin

theorem joinRole_workOf (h : Heard) (s : State) : workOf (joinRole h s) = workOf s := by
  unfold joinRole
  split
  · exact takeStandby_workOf h s
  · rfl

theorem roleTable_workOf (s : State) : workOf (roleTable s) = workOf s := by
  rcases roleTable_cases s with h | ⟨-, h | ⟨x, h⟩⟩ <;> rw [h]
  · rfl
  · exact joinRole_workOf x s

theorem rejoinOrLeave_workOf (s : State) : workOf (rejoinOrLeave s) = workOf s := by
  have hleave (t : State) (ht : workOf t = workOf s) :
      workOf (if t.um.role = .none then changeMode .standby 0 (endFunction t) else t) = workOf s := by
    split
    · exact (changeMode_workOf .standby 0 (endFunction t)).trans ht
    · exact ht
  unfold rejoinOrLeave
  cases report s with
  | none => exact hleave s rfl
  | some h =>
    refine hleave _ ?_
    dsimp only
    split
    · exact joinRole_workOf h s
    · rfl

theorem twoActive_workOf (s : State) : workOf (twoActive s) = workOf s := by
  unfold twoActive
  dsimp only
  split
  · have hnote (t : State) : workOf (noteRole 6 .a (raise 118 t)) = workOf t := (workOf_of_events (.raise 118 t) : workOf (raise 118 t) = workOf t)
    split
    · rw [dropAndRejoin_eq]
      exact (rejoinOrLeave_workOf _).trans (hnote _)
    · exact hnote _
  · rfl

theorem activePhase_workOf (s : State) : workOf (activePhase s) = workOf s := by
  rcases activePhase_cases s with h | ⟨p, h⟩ | h <;> rw [h]
  · exact setPhase_workOf p s
  · exact enterCopy_workOf s

theorem roleDecisions_workOf (s : State) : workOf (roleDecisions s) = workOf s := by
  unfold roleDecisions
  split
  · rfl
  · dsimp only
    rw [roleTable_workOf, activePhase_workOf, twoActive_workOf, standbyCleared_workOf, rejoin_workOf, standbyDecision_workOf, swapRoles_workOf,
      takeRoleDue_workOf]

theorem joinPairMode_workOf (s : State) : workOf (joinPairMode s) = workOf s := by
  unfold joinPairMode
  repeat' split
  all_goals rfl

theorem followPairMode_workOf (s : State) : workOf (followPairMode s) = workOf s := by
  have hback (c : Prop) [Decidable c] : workOf (if c then s else changeMode .standby 0 s) = workOf s := by
    split
    · rfl
    · exact changeMode_workOf .standby 0 s
  unfold followPairMode
  dsimp only
  split
  · exact (changeMode_workOf _ 0 _).trans (hback _)
  · rfl

theorem startResync_workOf (s : State) : workOf (startResync s) = workOf s := by
  unfold startResync
  dsimp only
  split
  · split
    · refine (enterCopy_workOf _).trans ?_
      split
      · exact workOf_of_events (s := { s with ex := { s.ex with resyncDue := false } }) (.raise 46 _)
      · rfl
    · rfl
  · rfl

theorem correctTimer_workOf (s : State) : workOf (correctTimer s) = workOf s := by
  unfold correctTimer joinStep trimEpoch
  repeat' split
  all_goals rfl

/-- EV_042 ends while the partner's ring heartbeats arrive. -/
def ringReturns (s : State) : State := if s.pair.ringAge < 3 then clearEvent 42 s else s

/-- EV_015 of a single unit ends when no other is heard. -/
def singleReturns (s : State) : State := if isSingle s ∧ 3 ≤ s.pair.ringAge ∧ 3 ≤ s.pair.tongsAge then clearEvent 15 s else s

theorem pathReturns_eq (s : State) : pathReturns s = singleReturns (ringReturns s) := rfl

theorem pathReturns_events (s : State) : EventsOnly s (pathReturns s) := by
  have hring : EventsOnly s (ringReturns s) := by
    unfold ringReturns
    split
    · exact .clearEvent 42 s
    · exact .refl s
  have hsingle (t : State) : EventsOnly t (singleReturns t) := by
    unfold singleReturns
    split
    · exact .clearEvent 15 t
    · exact .refl t
  exact hring.trans (hsingle _)

/-- A start of a row changes the panel alone. -/
theorem startRow_eq (s : State) : ∃ p, startRow s = { s with pnl := p } := by
  unfold startRow
  split
  · exact ⟨_, rfl⟩
  · dsimp only
    split
    · split
      · exact ⟨_, rfl⟩
      · split <;> exact ⟨_, rfl⟩
    · split <;> exact ⟨_, rfl⟩

/-- The panel's part of the epoch changes the panel alone. -/
theorem panelEpoch_eq (s : State) : ∃ p, panelEpoch s = { s with pnl := p } := by
  unfold panelEpoch
  split
  · obtain ⟨p, h⟩ := startRow_eq (modPnl (fun p => { p with fullPending := p.fullPending && p.state != 2 }) s)
    exact ⟨p, h⟩
  · exact ⟨_, rfl⟩

/-! ## The offers -/

/-- A record that is formed enters the buffers alone. -/
theorem ingest_eq (source stamp tov : Nat) (tagged : Bool) (payload : List Byte) (s : State) :
    ∃ b q, ingest source stamp tov tagged payload s = { s with ex := { s.ex with buffer := b, seqs := q } } := by
  unfold ingest
  split
  · exact ⟨_, _, rfl⟩
  · exact ⟨_, _, rfl⟩

/-- What a closed chain leaves alone. -/
structure ChainOnly (s t : State) : Prop where
  eq : t = { s with siv := t.siv, ex := { s.ex with buffer := t.ex.buffer, seqs := t.ex.seqs } }

theorem ChainOnly.trans {s t u : State} (hst : ChainOnly s t) (htu : ChainOnly t u) : ChainOnly s u := by
  obtain ⟨v, b, q, rfl⟩ : ∃ v b q, t = { s with siv := v, ex := { s.ex with buffer := b, seqs := q } } := ⟨_, _, _, hst.eq⟩
  exact ⟨htu.eq⟩

theorem ChainOnly.closeChain (cut n : Nat) (s : State) : ChainOnly s (closeChain cut n s) := by
  unfold Machine.closeChain
  dsimp only
  split
  · split
    · exact ⟨rfl⟩
    · obtain ⟨b, q, h⟩ := ingest_eq _ _ _ _ _ _
      rw [h]
      exact ⟨rfl⟩
  · exact ⟨rfl⟩

theorem ChainOnly.closeSieve (cut : Nat) (s : State) : ChainOnly s (closeSieve cut s) := by
  unfold Machine.closeSieve
  generalize List.range 16 = l
  induction l generalizing s with
  | nil => exact ⟨rfl⟩
  | cons n l ih => exact (closeChain cut n s).trans (ih _)

/-- What the offers leave alone. -/
structure OfferOnly (s t : State) : Prop where
  eq : t = { s with out := t.out, ex := { s.ex with buffer := t.ex.buffer, offered := t.ex.offered, seen := t.ex.seen } }

theorem OfferOnly.send (f : OutFrame) {s t : State} (h : OfferOnly s t) : OfferOnly s (send f t) := by
  obtain ⟨o, b, l, q, rfl⟩ : ∃ o b l q, t = { s with out := o, ex := { s.ex with buffer := b, offered := l, seen := q } } := ⟨_, _, _, _, h.eq⟩
  exact ⟨rfl⟩

theorem sendRecords_eq (l : List (List InRecord)) (s : State) : ∃ o, sendRecords l s = { s with out := o } := by
  unfold sendRecords
  generalize mapAt l (fun i f => (i, f)) = m
  generalize l.length = n
  induction m generalizing s with
  | nil => exact ⟨_, rfl⟩
  | cons f m ih => exact ih (Machine.send (.record f.1 n f.2) s)

/-- A unit offers at most 128 records (R43). -/
theorem offerRecords_spec (s : State) : OfferOnly s (offerRecords s) ∧ (offerRecords s).ex.offered.length ≤ 128 := by
  unfold offerRecords
  dsimp only
  split
  · have hlen (cut : Nat) (b : List OwnRecord) : ((chooseOffers cut b).map fun r => recordId r.item).length ≤ 128 := by
      rw [List.length_map, chooseOffers, List.length_take]
      exact Nat.min_le_left _ _
    split
    · obtain ⟨o, h⟩ := sendRecords_eq _ _
      rw [h]
      exact ⟨⟨rfl⟩, hlen _ _⟩
    · exact ⟨⟨rfl⟩, hlen _ _⟩
  · exact ⟨⟨rfl⟩, Nat.zero_le _⟩

/-! ## The epoch opens -/

/-- E+0 µs, before the sieve closes: the epoch is numbered. -/
def epochNumbered (levels : Nat) (s : State) : State :=
  let s := correctTimer (startResync s)
  let s := { s with pair := { s.pair with measuredNow := false, partnerClear := false }
                    fld := { s.fld with releases := epochReleases s }
                    mir := { s.mir with epoch := s.ex.epoch } }
  boundaryEpoch (followSieve (sampleInputs levels s))

theorem cutoffRest_eq (levels : Nat) (s : State) :
    cutoffRest levels s = offerRecords (closeSieve (epochNumbered levels s).ex.cutoff (epochNumbered levels s)) := rfl

/-- What follows the numbering is the records and their offers alone. -/
theorem cutoffRest_spec (levels : Nat) (s : State) : workOf (cutoffRest levels s) = workOf s ∧ (cutoffRest levels s).ex.offered.length ≤ 128 ∧
    (cutoffRest levels s).ex.epoch = (correctTimer (startResync s)).ex.epoch ∧
    (cutoffRest levels s).mir.epoch = (correctTimer (startResync s)).ex.epoch := by
  rw [cutoffRest_eq]
  have hnumbered : workOf (epochNumbered levels s) = workOf s := (correctTimer_workOf _).trans (startResync_workOf s)
  have hepoch : (epochNumbered levels s).ex.epoch = (correctTimer (startResync s)).ex.epoch := rfl
  have hmir : (epochNumbered levels s).mir.epoch = (correctTimer (startResync s)).ex.epoch := rfl
  generalize epochNumbered levels s = t at hnumbered hepoch hmir ⊢
  obtain ⟨hoffer, hlen⟩ := offerRecords_spec (closeSieve t.ex.cutoff t)
  refine ⟨?_, hlen, ?_⟩
  · rw [← hnumbered, hoffer.eq, (ChainOnly.closeSieve t.ex.cutoff t).eq]
    rfl
  · rw [hoffer.eq, (ChainOnly.closeSieve t.ex.cutoff t).eq]
    exact ⟨hepoch, hmir⟩

/-- The state of the unit before the decisions of E+0 µs. -/
def cutoffFirst (s : State) : State := pathReturns (agePair (panelEpoch (beginEpoch (settlePages (closeEpoch s)))))

theorem inputCutoff_first (levels : Nat) (s : State) :
    inputCutoff levels s = cutoffRest levels (standbyMode (roleDecisions (cutoffFirst s))) := by
  unfold cutoffFirst
  exact inputCutoff_eq levels s

theorem cutoffFirst_kept (s : State) : ∃ p v, cutoffFirst s = withEvents (agePair { beginEpoch (settlePages (closeEpoch s)) with pnl := p }) v := by
  obtain ⟨p, hp⟩ := panelEpoch_eq (beginEpoch (settlePages (closeEpoch s)))
  refine ⟨p, cutoffFirst s, ?_⟩
  rw [← hp]
  exact (pathReturns_events _).eq

/-- The work of an epoch that has just begun. -/
def noWork : EpochWork := ⟨false, false, false, false, false, [], [], []⟩

theorem inputCutoff_workOf (levels : Nat) (s : State) : workOf (inputCutoff levels s) = noWork := by
  obtain ⟨p, v, hfirst⟩ := cutoffFirst_kept s
  have hbegin : workOf (cutoffFirst s) = noWork := by
    rw [hfirst]
    rfl
  rw [inputCutoff_first, (cutoffRest_spec levels _).1, standbyMode, followPairMode_workOf, joinPairMode_workOf, roleDecisions_workOf]
  exact hbegin

/-! ## A unit alone keeps its mode, and counts the epochs -/

theorem takeRoleDue_of_not_standby {s : State} (h : s.um.role ≠ .standby) : ∃ d, takeRoleDue s = { s with ex := { s.ex with roleDue := d } } := by
  unfold takeRoleDue
  split
  · rw [if_neg h]
    exact ⟨_, rfl⟩
  · exact ⟨_, rfl⟩

/-- A unit in ACTIVE that has no partner. -/
structure Alone (s : State) : Prop where
  active : s.um.mode = .active
  single : isPair s = false
  role : s.um.role ≠ .standby
  noSwap : s.mir.pair.swapDue = false

theorem Alone.withRoleDue {s : State} (h : Alone s) (d : Option Nat) : Alone { s with ex := { s.ex with roleDue := d } } :=
  ⟨h.active, h.single, h.role, h.noSwap⟩

theorem standbyRows_of_alone {s : State} (h : Alone s) : standbyCleared (rejoin (standbyDecision (swapRoles s))) = s := by
  have hswap : swapRoles s = s := by rw [swapRoles, if_neg (by simp [h.noSwap])]
  have hdecision : standbyDecision s = s := if_neg fun hc => h.role hc.1
  have hrejoin : rejoin s = s := if_neg fun hc => h.role hc.1
  have hcleared : standbyCleared s = s := if_neg fun hc => h.role hc.1
  rw [hswap, hdecision, hrejoin, hcleared]

theorem twoActive_of_alone {s : State} (h : Alone s) : twoActive s = { s with pair := { s.pair with twoSeen := false } } := by
  unfold twoActive
  dsimp only
  rw [h.single, Bool.and_false, Bool.false_and]
  rfl

theorem roleTable_of_alone {s : State} (h : Alone s) : roleTable (activePhase s) = s := by
  have hphase : activePhase s = s := if_neg fun hc => Bool.noConfusion (h.single.symm.trans hc.2)
  rw [hphase]
  exact if_pos (.inl fun hc => nomatch h.active.symm.trans hc)

/-- In ACTIVE the roles of a unit without a partner stay. -/
theorem roleDecisions_of_alone {s : State} (h : Alone s) :
    ∃ d x, roleDecisions s = { s with ex := { s.ex with roleDue := d }, pair := { s.pair with twoSeen := x } } := by
  unfold roleDecisions
  split
  · exact ⟨_, _, rfl⟩
  · obtain ⟨d, hd⟩ := takeRoleDue_of_not_standby h.role
    refine ⟨d, false, ?_⟩
    have hdue := h.withRoleDue d
    have htwo : Alone { s with ex := { s.ex with roleDue := d }, pair := { s.pair with twoSeen := false } } :=
      ⟨h.active, h.single, h.role, h.noSwap⟩
    dsimp only
    rw [hd, standbyRows_of_alone hdue, twoActive_of_alone hdue]
    exact roleTable_of_alone htwo

theorem standbyMode_of_not_standby {s : State} (h : s.um.role ≠ .standby) : standbyMode s = s := by
  have hjoin : joinPairMode s = s := by
    unfold joinPairMode
    split
    · exact if_neg fun hc => h hc.1
    · rfl
  rw [standbyMode, hjoin]
  exact if_neg fun hc => h hc.1

theorem correctTimer_epoch_of_not_standby {s : State} (h : s.um.role ≠ .standby) : (correctTimer (startResync s)).ex.epoch = s.ex.epoch := by
  have hresync : (startResync s).um.role = s.um.role ∧ (startResync s).ex.epoch = s.ex.epoch := by
    refine ⟨by rw [startResync_um], ?_⟩
    have hphase (t : State) : (enterCopy t).ex.epoch = t.ex.epoch := by
      have hclear (c : Prop) [Decidable c] : (if c then clearEvent 119 t else t).ex.epoch = t.ex.epoch := by
        split
        · rw [(EventsOnly.clearEvent 119 t).eq]
          rfl
        · rfl
      exact hclear _
    unfold startResync
    dsimp only
    rw [if_neg h]
    split
    · split
      · exact hphase _
      · rfl
    · rfl
  have htrim (t : State) : (trimEpoch t).ex.epoch = t.ex.epoch := by
    unfold trimEpoch
    split <;> rfl
  rw [← hresync.2]
  unfold correctTimer joinStep
  split
  · rw [if_neg fun hc => h (hresync.1.symm.trans hc.1)]
    exact htrim _
  · exact htrim _

/-- The two states agree in the unit's mode and role, the image, the pair's registers and the exchange. -/
structure PairKept (s t : State) : Prop where
  um : t.um = s.um
  cfg : t.cfg = s.cfg
  pair : t.mir.pair = s.mir.pair
  ex : t.ex = s.ex

namespace PairKept

theorem trans {s t u : State} (hst : PairKept s t) (htu : PairKept t u) : PairKept s u :=
  ⟨htu.um.trans hst.um, htu.cfg.trans hst.cfg, htu.pair.trans hst.pair, htu.ex.trans hst.ex⟩

theorem events {s t : State} (h : EventsOnly s t) : PairKept s t := by
  obtain ⟨v, rfl⟩ : ∃ v, t = withEvents s v := ⟨_, h.eq⟩
  exact ⟨rfl, rfl, rfl, rfl⟩

theorem ageDuplicate (s : State) : PairKept s (ageDuplicate s) := by
  unfold Machine.ageDuplicate
  split
  · split
    · exact trans (t := { s with rng := { s.rng with duplicate := none } }) ⟨rfl, rfl, rfl, rfl⟩ (events (.clearEvent 63 _))
    · exact ⟨rfl, rfl, rfl, rfl⟩
  · exact ⟨rfl, rfl, rfl, rfl⟩

theorem closeEvidence (s : State) : PairKept s (closeEvidence s) := by
  unfold Machine.closeEvidence
  dsimp only
  refine trans ?_ (ageDuplicate _)
  exact ⟨rfl, rfl, rfl, rfl⟩

theorem agePorts (s : State) : PairKept s (agePorts s) := by
  have h := closeEvidence s
  exact ⟨h.um, h.cfg, h.pair, h.ex⟩

theorem countMuted (s : State) : PairKept s (countMuted s) := by
  unfold Machine.countMuted
  split
  · exact ⟨rfl, rfl, rfl, rfl⟩
  · exact ⟨rfl, rfl, rfl, rfl⟩

theorem endMomentary (s : State) : PairKept s (endMomentary s) := by
  unfold Machine.endMomentary
  dsimp only
  refine trans ?_ (events (.updateRelays _))
  exact ⟨rfl, rfl, rfl, rfl⟩

/-- What the end of an epoch leaves alone. -/
theorem closeEpoch (s : State) : PairKept s (closeEpoch s) := by
  have hages (t : State) : PairKept t (ageHap (ageOutputs (advanceOpTime t))) := ⟨rfl, rfl, rfl, rfl⟩
  have hfirst := ((endMomentary s).trans (countMuted _)).trans (hages _)
  have h := hfirst.trans (agePorts _)
  exact ⟨h.um, h.cfg, h.pair, h.ex⟩

end PairKept

theorem settlePages_of_not_standby {s : State} (h : s.um.role ≠ .standby) : settlePages s = s := if_neg fun hc => h hc.1

/-- Before the decisions a unit alone is one epoch further. -/
theorem cutoffFirst_of_alone {s : State} (h : Alone s) : Alone (cutoffFirst s) ∧ (cutoffFirst s).ex.epoch = epochWrap (s.ex.epoch + 1) := by
  obtain ⟨hum, hcfg, hpair, hex⟩ := PairKept.closeEpoch s
  obtain ⟨p, v, hfirst⟩ := cutoffFirst_kept s
  rw [settlePages_of_not_standby (by rw [hum]; exact h.role)] at hfirst
  rw [hfirst]
  refine ⟨⟨?_, ?_, ?_, ?_⟩, ?_⟩
  · exact (congrArg UnitMode.mode hum).trans h.active
  · exact (congrArg (fun c : Config => c.valid && !c.image.single) hcfg).trans h.single
  · exact fun hc => h.role ((congrArg UnitMode.role hum).symm.trans hc)
  · exact (congrArg PairMirror.swapDue hpair).trans h.noSwap
  · exact congrArg (fun x : Exchange => epochWrap (x.epoch + 1)) hex

/-- A unit alone in ACTIVE goes on in ACTIVE, one epoch further. -/
theorem inputCutoff_of_alone {s : State} (levels : Nat) (h : Alone s) :
    (inputCutoff levels s).ex.epoch = epochWrap (s.ex.epoch + 1) ∧ (inputCutoff levels s).um.mode = .active := by
  obtain ⟨hfirst, hepoch⟩ := cutoffFirst_of_alone h
  obtain ⟨d, x, hroles⟩ := roleDecisions_of_alone hfirst
  have hrole : (roleDecisions (cutoffFirst s)).um.role ≠ .standby := by
    rw [hroles]
    exact hfirst.role
  rw [inputCutoff_first, standbyMode_of_not_standby hrole]
  obtain ⟨-, -, hcount, -⟩ := cutoffRest_spec levels (roleDecisions (cutoffFirst s))
  refine ⟨?_, ?_⟩
  · rw [hcount, correctTimer_epoch_of_not_standby hrole, hroles]
    exact hepoch
  · rw [cutoffRest_um, hroles]
    exact hfirst.active

end Sys2Proof.Machine
end

section
/-! Commitment at E+80 µs, the entry to HOLD and the snapshot (R44, R45, R48, R53 to R55, R66, R248). -/

namespace Sys2Proof.Machine

/-! ## What the commit of slow results leaves alone -/

/-- The two states agree but for slow work, its registers, the events other than those of a missed acknowledgement (36) and a late
result (105), and a fault found. -/
structure SlowKept (s t : State) : Prop where
  ex : t.ex = { s.ex with holdDue := t.ex.holdDue }
  hold : ∀ c, s.ex.holdDue = some c → t.ex.holdDue = some c
  um : t.um = s.um
  cfg : t.cfg = s.cfg
  log : t.log = s.log
  hap : t.hap = s.hap
  tim : t.mir.tim = s.mir.tim
  events : ∀ e, e = 36 ∨ e = 105 → eventActive e s = true → eventActive e t = true

namespace SlowKept

theorem refl (s : State) : SlowKept s s := ⟨rfl, fun _ h => h, rfl, rfl, rfl, rfl, rfl, fun _ _ h => h⟩

theorem trans {s t u : State} (hst : SlowKept s t) (htu : SlowKept t u) : SlowKept s u where
  ex := by
    rw [htu.ex, hst.ex]
  hold c h := htu.hold c (hst.hold c h)
  um := htu.um.trans hst.um
  cfg := htu.cfg.trans hst.cfg
  log := htu.log.trans hst.log
  hap := htu.hap.trans hst.hap
  tim := htu.tim.trans hst.tim
  events e he h := htu.events e he (hst.events e he h)

theorem ofState (s : State) (m : Mirrored) (w : SlowLocal) (f : Fabric) (htim : m.tim = s.mir.tim) (hevt : m.evt = s.mir.evt) :
    SlowKept s { s with mir := m, slow := w, fab := f } where
  ex := rfl
  hold _ h := h
  um := rfl
  cfg := rfl
  log := rfl
  hap := rfl
  tim := htim
  events e _ h := by
    unfold eventActive at h ⊢
    dsimp only
    rwa [hevt]

theorem ofEvents {s t : State} (h : EventsOnly s t) (hactive : ∀ e, e = 36 ∨ e = 105 → eventActive e s = true → eventActive e t = true) : SlowKept s t := by
  obtain ⟨v, rfl⟩ : ∃ v, t = withEvents s v := ⟨_, h.eq⟩
  exact ⟨rfl, fun _ h => h, rfl, rfl, rfl, rfl, rfl, hactive⟩

theorem raiseWith (e w0 w1 : Nat) (v : Int) (s : State) : SlowKept s (raiseWith e w0 w1 v s) :=
  ofEvents (.raiseWith e w0 w1 v s) fun k _ h => by simp [h]

theorem raise (e : Nat) (s : State) : SlowKept s (raise e s) := raiseWith e _ _ _ s

theorem raiseAt (e i : Nat) (s : State) : SlowKept s (raiseAt e i s) := raiseWith e _ _ _ s

theorem clearEvent {e : Nat} (h36 : e ≠ 36) (h105 : e ≠ 105) (s : State) : SlowKept s (clearEvent e s) :=
  ofEvents (.clearEvent e s) fun k hk h => by
    rcases hk with rfl | rfl
    · simp [h, h36.symm]
    · simp [h, h105.symm]

theorem condition {e : Nat} (h36 : e ≠ 36) (h105 : e ≠ 105) (on : Bool) (s : State) : SlowKept s (condition e on s) := by
  cases on
  · exact clearEvent h36 h105 s
  · exact raise e s

theorem ite {s t u : State} (c : Prop) [Decidable c] (ht : SlowKept s t) (hu : SlowKept s u) : SlowKept s (if c then t else u) := by
  split
  · exact ht
  · exact hu

theorem foldl {α : Type} {f : State → α → State} (hf : ∀ s x, SlowKept s (f s x)) (l : List α) (s : State) : SlowKept s (l.foldl f s) := by
  induction l generalizing s with
  | nil => exact refl s
  | cons x l ih => exact (hf s x).trans (ih _)

/-! ## The parts of a commit -/

theorem modLdl (f : Ladle → Ladle) (s : State) : SlowKept s (modLdl f s) := ofState s _ s.slow s.fab rfl rfl

theorem modMpc (f : PlanState → PlanState) (s : State) : SlowKept s (modMpc f s) := ofState s _ s.slow s.fab rfl rfl

theorem modCqa (f : Consequence → Consequence) (s : State) : SlowKept s (modCqa f s) := ofState s _ s.slow s.fab rfl rfl

theorem modCase (c : Nat) (f : CaseState → CaseState) (s : State) : SlowKept s (modCase c f s) := modCqa _ s

theorem modBa (f : Bundle → Bundle) (s : State) : SlowKept s (modBa f s) := ofState s _ s.slow s.fab rfl rfl

theorem modSlow (f : SlowLocal → SlowLocal) (s : State) : SlowKept s (modSlow f s) := ofState s s.mir _ s.fab rfl rfl

theorem noteSolved (cls case : Nat) (retry : Bool) (basis : Nat) (r : Solved) (s : State) : SlowKept s (noteSolved cls case retry basis r s) := by
  unfold Machine.noteSolved
  split
  · unfold noteFailure
    dsimp only
    refine trans ?_ (raiseWith _ _ _ _ _)
    exact ofState s _ s.slow s.fab rfl rfl
  · exact refl s

theorem noteCold (cls case : Nat) (w : WarmReg) (s : State) : SlowKept s (noteCold cls case w s) := by
  unfold Machine.noteCold
  split
  · dsimp only
    refine trans ?_ (raiseAt _ _ _)
    exact ofState s _ s.slow s.fab rfl rfl
  · exact refl s

theorem dropLostSource (cls case : Nat) (s : State) : SlowKept s (dropLostSource cls case s) := by
  unfold Machine.dropLostSource
  split
  · exact ofState s _ s.slow _ rfl rfl
  · exact refl s

/-- The report of a slow result: failure, cold start, lost source. -/
theorem noted (cls case basis : Nat) (r : Solved) (s : State) :
    SlowKept s (Machine.dropLostSource cls case (Machine.noteCold cls case r.warm (Machine.noteSolved cls case false basis r s))) :=
  ((noteSolved cls case false basis r s).trans (noteCold cls case r.warm _)).trans (dropLostSource cls case _)

theorem commitPlan (p : SlowRun) (r : Solved) (s : State) : SlowKept s (commitPlan p r s) := by
  have hdone : SlowKept s (Machine.modLdl (fun l => { l with mpcWarm := r.warm }) (Machine.modSlow (fun w => { w with plan := none })
      (Machine.dropLostSource 4 0 (Machine.noteCold 4 0 r.warm (Machine.noteSolved 4 0 false p.basis r s))))) :=
    ((noted 4 0 p.basis r s).trans (modSlow _ _)).trans (modLdl _ _)
  unfold Machine.commitPlan
  dsimp only
  split
  · exact ((hdone.trans (modLdl _ _)).trans (ite _ (raise 111 _) (refl _))).trans (modMpc _ _)
  · exact (hdone.trans (modLdl _ _)).trans (modMpc _ _)

theorem commitSlot (k : Nat) (p : SlowRun) (r : BaSlotResult) (s : State) : SlowKept s (commitSlot k p r s) := by
  unfold Machine.commitSlot
  dsimp only
  repeat' split
  · exact refl s
  · exact modBa _ s
  · exact (modBa _ s).trans (raiseAt _ _ _)
  · exact (modBa _ s).trans (raiseAt _ _ _)
  · exact modBa _ s
  · exact (modBa _ s).trans (raiseAt _ _ _)
  · exact (modBa _ s).trans (raiseAt _ _ _)

theorem commitBa (p : SlowRun) (r : Solved) (s : State) : SlowKept s (commitBa p r s) := by
  unfold Machine.commitBa
  dsimp only
  have hslots (u : State) : SlowKept u ((List.range 11).foldl (fun s k => Machine.commitSlot k p (slotResult k r s) s) u) :=
    foldl (fun s k => commitSlot k p (slotResult k r s) s) _ u
  have hnoted := noted 1 0 p.basis r s
  generalize Machine.dropLostSource 1 0 (Machine.noteCold 1 0 r.warm (Machine.noteSolved 1 0 false p.basis r s)) = n at hnoted ⊢
  split
  · refine hnoted.trans (trans ?_ ((hslots _).trans (modBa _ _)))
    exact ofState n _ _ n.fab rfl rfl
  · refine hnoted.trans (trans ?_ (hslots _))
    exact ofState n _ _ n.fab rfl rfl

theorem updateClass (s : State) : SlowKept s (updateClass s) := by
  have hstands : SlowKept s (Machine.condition 106 (classOf s == 3) (Machine.modCqa (fun q => { q with cls := classOf s }) s)) :=
    (modCqa _ s).trans (condition (by decide) (by decide) _ _)
  unfold Machine.updateClass
  dsimp only
  split
  · exact hstands.trans (raise 107 _)
  · split
    · exact hstands.trans (clearEvent (by decide) (by decide) _)
    · exact hstands

theorem updateSweep (s : State) : SlowKept s (updateSweep s) := by
  unfold Machine.updateSweep
  dsimp only
  split
  · exact modCqa _ s
  · exact refl s

theorem commitCase (c : Nat) (p : SlowRun) (r : Solved) (s : State) : SlowKept s (commitCase c p r s) := by
  have hnoted := noted 5 c p.basis r s
  unfold Machine.commitCase
  dsimp only
  refine trans ?_ ((updateSweep _).trans (updateClass _))
  generalize Machine.dropLostSource 5 c (Machine.noteCold 5 c r.warm (Machine.noteSolved 5 c false p.basis r s)) = n at hnoted ⊢
  have hdone (f : Ladle → Ladle) : SlowKept s (Machine.modLdl f (setRun c none n)) := (hnoted.trans (modSlow _ n)).trans (modLdl f _)
  split
  · exact (hdone _).trans (modCase c _ _)
  · exact ((hdone _).trans (modCase c _ _)).trans (raiseAt 103 c _)

theorem lateResult (s : State) : SlowKept s (lateResult s) := by
  have hraised := raise 105 s
  refine hraised.trans ⟨rfl, fun c h => ?_, rfl, rfl, rfl, rfl, rfl, fun _ _ h => h⟩
  change some ((Machine.raise 105 s).ex.holdDue.getD 5) = some c
  rw [h]
  rfl

theorem commitJob {commit : SlowRun → Solved → State → State} (hcommit : ∀ p r s, SlowKept s (commit p r s)) (cls case span : Nat) (late : Bool)
    (p : Option SlowRun) (s : State) : SlowKept s (commitJob cls case span late p commit s) := by
  unfold Machine.commitJob
  repeat' split
  · exact refl s
  · exact lateResult s
  · exact hcommit _ _ s
  · exact lateResult s
  · exact refl s

/-- The commits that follow the plan's. -/
theorem afterPlan (late : List SlowJob) (s : State) :
    SlowKept (Machine.commitJob 4 0 100 (late.contains .plan) s.slow.plan Machine.commitPlan s) (commitSlow late s) :=
  (commitJob commitBa _ _ _ _ _ _).trans (foldl (fun s c => commitJob (commitCase c) _ _ _ _ _ s) _ _)

theorem commitSlow (late : List SlowJob) (s : State) : SlowKept s (commitSlow late s) :=
  (commitJob commitPlan _ _ _ _ _ s).trans (afterPlan late s)

theorem commitSlowWork (late : List SlowJob) (s : State) : SlowKept s (commitSlowWork late s) := ite _ (commitSlow late s) (refl s)

end SlowKept

/-! ## The set is committed (R44, R45) -/

/-- A missed acknowledgement is EV_036. -/
def ackMissed (s : State) : State := if isMirrored s && s.ex.ackRx.isNone then raise 36 s else s

/-- The records that are not in the set. -/
def leftRecords (s : State) : List OwnRecord :=
  keptTime s (s.ex.buffer.filter fun r => !((inputSet s).map recordId).contains (recordId r.item))

/-- The set committed, and the records kept for the next epoch. -/
def setCommitted (s : State) : State :=
  { s with
    ex := { s.ex with
      committed := inputSet s, buffer := (leftRecords s).filter (fun r => decide (r.offers < 4))
      seen := noteSeen (((inputSet s).filter fun r => r.origin != s.um.unit).map recordId) s.ex.seen }
    dmp := { s.dmp with history := (s.dmp.history ++ [(s.ex.epoch, inputSet s)]).drop (s.dmp.history.length + 1 - 64) } }

theorem commitRecords_eq (s : State) :
    commitRecords s = ((leftRecords (ackMissed s)).filter fun r => decide (4 ≤ r.offers)).foldl dropRecord (setCommitted (ackMissed s)) := rfl

theorem ackMissed_events (s : State) : EventsOnly s (ackMissed s) := by
  unfold ackMissed
  split
  · exact .raise 36 s
  · exact .refl s

/-- A dropped record is an event and an answer. -/
structure DropOnly (s t : State) : Prop where
  eq : t = withEvents { s with hap := { s.hap with sessions := t.hap.sessions, awaiting := t.hap.awaiting }, out := t.out } t
  event36 : eventActive 36 t = eventActive 36 s

theorem DropOnly.refl (s : State) : DropOnly s s := ⟨rfl, rfl⟩

theorem DropOnly.trans {s t u : State} (hst : DropOnly s t) (htu : DropOnly t u) : DropOnly s u where
  eq := by
    obtain ⟨l, a, o, v, rfl⟩ : ∃ l a o v, t = withEvents { s with hap := { s.hap with sessions := l, awaiting := a }, out := o } v :=
      ⟨_, _, _, _, hst.eq⟩
    exact htu.eq
  event36 := htu.event36.trans hst.event36

theorem answerCommand_eq (id : RecordId) (status detail epoch : Nat) (words : List Word) (s : State) :
    ∃ l a o, answerCommand id status detail epoch words s = { s with hap := { s.hap with sessions := l, awaiting := a }, out := o } := by
  unfold answerCommand
  split
  · dsimp only
    split
    · exact ⟨_, _, _, rfl⟩
    · exact ⟨_, _, _, rfl⟩
  · exact ⟨_, _, _, rfl⟩

theorem DropOnly.events {s t : State} (h : EventsOnly s t) (h36 : eventActive 36 t = eventActive 36 s) : DropOnly s t := by
  obtain ⟨v, rfl⟩ : ∃ v, t = withEvents s v := ⟨_, h.eq⟩
  exact ⟨rfl, h36⟩

theorem DropOnly.dropRecord (s : State) (r : OwnRecord) : DropOnly s (dropRecord s r) := by
  have hraise : DropOnly s (raise 37 s) := .events (.raise 37 s) (by simp)
  unfold Machine.dropRecord
  dsimp only
  split
  · obtain ⟨l, a, o, h⟩ := answerCommand_eq (recordId r.item) 0x0E 0 (raise 37 s).ex.epoch [] (raise 37 s)
    rw [h]
    exact hraise.trans ⟨rfl, rfl⟩
  · exact hraise

theorem DropOnly.foldl (l : List OwnRecord) (s : State) : DropOnly s (l.foldl Machine.dropRecord s) := by
  induction l generalizing s with
  | nil => exact refl s
  | cons r l ih => exact (dropRecord s r).trans (ih _)

/-! ## The time state of the epoch (R248) -/

theorem commitTime_eq (s : State) : ∃ m v, commitTime s = withEvents { s with mir := { s.mir with tim := m } } v := by
  unfold commitTime
  dsimp only
  split
  · rename_i r _
    split
    · rename_i d _
      exact ⟨_, _, ((EventsOnly.raiseWith 6 0xFFFFFFFF 0 d { s with mir := { s.mir with tim := timeOfPayload r.payload } }).trans (.condition 5 _ _)).eq⟩
    · exact ⟨_, _, (EventsOnly.condition 5 _ { s with mir := { s.mir with tim := timeOfPayload r.payload } }).eq⟩
  · exact ⟨_, _, (EventsOnly.condition 5 _ { s with mir := { s.mir with tim := { s.mir.tim with cutoff := s.mir.tim.cutoff + 500000, extrap := true } } }).eq⟩

theorem holdoverEvent_active36 (s : State) : eventActive 36 (holdoverEvent s) = eventActive 36 s :=
  (eventActive_condition 36 5 _ s).trans (if_neg (by decide))

theorem commitTime_active36 (s : State) : eventActive 36 (commitTime s) = eventActive 36 s := by
  unfold commitTime
  dsimp only
  rw [holdoverEvent_active36]
  split
  · split
    · rw [eventActive_raiseWith]
      rfl
    · rfl
  · rfl

/-- Without an epoch-time record the time state is extrapolated. -/
theorem commitTime_of_none {s : State} (h : epochTimeRecord s = none) :
    (commitTime s).mir.tim.cutoff = s.mir.tim.cutoff + 500000 ∧ (commitTime s).mir.tim.extrap = true := by
  have hextrap : EventsOnly { s with mir := { s.mir with tim := { s.mir.tim with cutoff := s.mir.tim.cutoff + 500000, extrap := true } } } (commitTime s) := by
    unfold commitTime
    dsimp only
    rw [h]
    exact .condition 5 _ _
  rw [hextrap.eq]
  exact ⟨rfl, rfl⟩

/-! ## E+80 µs -/

/-- The state of the unit at E+80 µs before commands and slow results take effect. -/
def commitBase (s : State) : State := commitTime (clearFlags (commitRecords s))

/-- What the commitment of the records changes. -/
structure BaseSpec (s t : State) : Prop where
  committed : t.ex.committed = inputSet s
  buffer : t.ex.buffer = (leftRecords s).filter fun r => decide (r.offers < 4)
  epoch : t.ex.epoch = s.ex.epoch
  due : t.ex.due = s.ex.due
  holdDue : t.ex.holdDue = s.ex.holdDue
  um : t.um = s.um
  cfg : t.cfg = s.cfg
  log : t.log = s.log
  localDue : t.hap.localDue = s.hap.localDue
  plan : t.slow.plan = s.slow.plan
  runs : runsSlowWork t = runsSlowWork s
  missed : isMirrored s = true → s.ex.ackRx = none → eventActive 36 t = true
  extrapolated : epochTimeRecord t = none → t.mir.tim.cutoff = s.mir.tim.cutoff + 500000 ∧ t.mir.tim.extrap = true

theorem commitRecords_keeps (s : State) : ∃ l a o v w,
    commitRecords s = withEvents { setCommitted (withEvents s w) with hap := { s.hap with sessions := l, awaiting := a }, out := o } v := by
  obtain ⟨w, hw⟩ : ∃ w, ackMissed s = withEvents s w := ⟨_, (ackMissed_events s).eq⟩
  rw [commitRecords_eq, (DropOnly.foldl _ _).eq, hw]
  exact ⟨_, _, _, _, _, rfl⟩

theorem commitBase_spec (s : State) : BaseSpec s (commitBase s) := by
  have hactive : isMirrored s = true → s.ex.ackRx = none → eventActive 36 (commitBase s) = true := fun hmirrored hnone => by
    have hmissed : eventActive 36 (ackMissed s) = true := by
      rw [ackMissed, if_pos (by rw [hmirrored, hnone]; rfl)]
      simp
    have hrecords : eventActive 36 (commitRecords s) = true := (DropOnly.foldl _ _).event36.trans hmissed
    exact (commitTime_active36 _).trans hrecords
  obtain ⟨l, a, o, v, w, hrecords⟩ := commitRecords_keeps s
  obtain ⟨m, x, htime⟩ := commitTime_eq (clearFlags (commitRecords s))
  have hextrapolated := commitTime_of_none (s := clearFlags (commitRecords s))
  change commitBase s = _ at htime
  change _ → (commitBase s).mir.tim.cutoff = _ ∧ _ at hextrapolated
  refine ⟨?_, ?_, ?_, ?_, ?_, ?_, ?_, ?_, ?_, ?_, ?_, hactive, fun hnone => ?_⟩
  case refine_12 =>
    have hsame : epochTimeRecord (clearFlags (commitRecords s)) = epochTimeRecord (commitBase s) := by
      rw [htime]
      rfl
    obtain ⟨hcutoff, hextrap⟩ := hextrapolated (hsame.trans hnone)
    refine ⟨hcutoff.trans ?_, hextrap⟩
    rw [hrecords]
    rfl
  all_goals
    rw [htime, hrecords]
    rfl

end Sys2Proof.Machine
end

section
/-! The epoch opens, commits, ends in HOLD where a fault was found, and publishes its snapshot: the statement on the epoch (R41 to R55, R66). -/

namespace Sys2Proof.Machine

/-! ## Commitment -/

/-- No command is due any more. -/
def noneDue (s : State) : State := { s with ex := { s.ex with due := [] } }

/-- The state in which the slow results of the epoch commit, where no command is due. -/
def slowDue (s : State) : State := noneDue (commitBase s)

theorem BaseSpec.noneDue {s t : State} (h : BaseSpec s t) (hdue : s.ex.due = []) : BaseSpec s (noneDue t) :=
  { h with due := hdue.symm }

theorem slowDue_spec {s : State} (hdue : s.ex.due = []) : BaseSpec s (slowDue s) := (commitBase_spec s).noneDue hdue

/-- The commands of the epoch taken, where no unit-local write is due. -/
def commandsTaken (s : State) : State := modHap (fun h => { h with localDue := [] }) (takeCommands s)

theorem applyLocalDue_of_nil {s : State} (h : s.hap.localDue = []) : applyLocalDue s = modHap (fun h => { h with localDue := [] }) s := by
  unfold applyLocalDue modHap
  dsimp only
  rw [h]
  rfl

theorem applyDue_of_nil {s : State} (h : s.ex.due = []) : applyDue s = noneDue s := by
  unfold applyDue noneDue
  dsimp only
  rw [h]
  rfl

/-- The mirrored state saved for a re-run. -/
def mirrorSaved (s : State) : State := { s with saved := some s.mir }

theorem inputCommit_stages (late : List SlowJob) (s : State) :
    inputCommit late s = mirrorSaved (applyLocalDue (takeCommands (commitSlowWork late (applyDue (commitBase s))))) := rfl

theorem inputCommit_eq {s : State} (late : List SlowJob) (hdue : s.ex.due = []) (hlocal : s.hap.localDue = []) :
    inputCommit late s = mirrorSaved (commandsTaken (commitSlowWork late (slowDue s))) := by
  have heffect : applyDue (commitBase s) = slowDue s := applyDue_of_nil ((commitBase_spec s).due.trans hdue)
  have hwrites : (takeCommands (commitSlowWork late (slowDue s))).hap.localDue = [] :=
    (congrArg Hap.localDue (SlowKept.commitSlowWork late _).hap).trans ((slowDue_spec hdue).localDue.trans hlocal)
  rw [inputCommit_stages, heffect, applyLocalDue_of_nil hwrites]
  rfl

/-- A late result, or one that is missing, at its commit epoch. -/
theorem commitJob_of_late {cls case span : Nat} {late : Bool} {p : SlowRun} {commit : SlowRun → Solved → State → State} {s : State}
    (hepoch : epochWrap (p.basis + span) = s.ex.epoch) (hlate : late = true ∨ p.result = none) :
    commitJob cls case span late (some p) commit s = lateResult s := by
  unfold commitJob
  dsimp only
  rw [if_neg (not_not.mpr hepoch)]
  cases hr : p.result with
  | none => rfl
  | some r => exact if_pos (hlate.resolve_right (by rw [hr]; exact Option.some_ne_none r))

/-- A plan that is not complete in time is a fault, and EV_105. -/
theorem commitSlowWork_of_latePlan {late : List SlowJob} {p : SlowRun} {s : State} (hruns : runsSlowWork s = true) (hplan : s.slow.plan = some p)
    (hepoch : epochWrap (p.basis + 100) = s.ex.epoch) (hlate : .plan ∈ late ∨ p.result = none) :
    (commitSlowWork late s).ex.holdDue = some (s.ex.holdDue.getD 5) ∧ eventActive 105 (commitSlowWork late s) = true := by
  have hjob : commitJob 4 0 100 (late.contains .plan) s.slow.plan commitPlan s = lateResult s := by
    rw [hplan]
    exact commitJob_of_late hepoch (hlate.imp_left fun h => List.contains_iff_mem.mpr h)
  have hafter := SlowKept.afterPlan late s
  rw [hjob] at hafter
  have hraise := (EventsOnly.raise 105 s).eq
  have hfault : (lateResult s).ex.holdDue = some (s.ex.holdDue.getD 5) := by
    rw [lateResult, hraise]
    rfl
  have hactive : eventActive 105 (lateResult s) = true := (eventActive_raise 105 105 s).trans rfl
  rw [commitSlowWork, if_pos hruns]
  exact ⟨hafter.hold _ hfault, hafter.events 105 (.inr rfl) hactive⟩

theorem epochTimeRecord_congr {s t : State} (hcommitted : t.ex.committed = s.ex.committed) (hepoch : t.ex.epoch = s.ex.epoch) :
    epochTimeRecord t = epochTimeRecord s := by
  unfold epochTimeRecord committedOf
  rw [hcommitted, hepoch]

/-! ## The snapshot -/

theorem formTimeRecord_of_not {s : State} (h : formsRecords s = false ∨ followsPair s = true) : formTimeRecord s = s := by
  unfold formTimeRecord
  refine if_neg ?_
  rcases h with h | h
  · simp [h]
  · simp [h]

/-- The epoch-time record enters the buffers alone. -/
theorem formTimeRecord_eq (s : State) : ∃ b q n, formTimeRecord s = { s with ex := { s.ex with buffer := b, seqs := q }, time := { s.time with stepNews := n } } := by
  unfold formTimeRecord
  split
  · obtain ⟨b, q, h⟩ := ingest_eq 0xFFFF (counterAt 400 s) (counterAt 400 s) false
      (timePayload (cutoffNext (-s.pair.trim) s) s ++ beBytes 6 (epochWrap (s.ex.epoch + 1))) s
    refine ⟨b, q, none, ?_⟩
    dsimp only
    rw [h]
  · exact ⟨_, _, _, rfl⟩

theorem publishedSnapshot_epoch (s : State) : (publishedSnapshot s).epoch = s.ex.epoch := by
  unfold publishedSnapshot
  split
  · rfl
  · rfl

theorem takeProgress_eq (s : State) : ∃ n f, takeProgress s = { s with free := f, upd := { s.upd with progress := n } } := by
  unfold takeProgress
  split
  · exact ⟨_, _, rfl⟩
  · exact ⟨_, _, rfl⟩

/-- The readings shown, but for those of the antennas. -/
def readingsShown (r : Readings) (s : State) : State :=
  { s with
    sup := { s.sup with
      pwrA := r.pwrA, pwrB := r.pwrB, bus := r.bus, power := r.power, base := r.tempBase, asic := r.tempAsic
      aLow := countRun (decide (r.pwrA ≤ busWarnMax)) s.sup.aLow, bLow := countRun (decide (r.pwrB ≤ busWarnMax)) s.sup.bLow
      aHigh := countRun (decide (overvoltMin ≤ r.pwrA)) s.sup.aHigh, bHigh := countRun (decide (overvoltMin ≤ r.pwrB)) s.sup.bHigh }
    trv := { s.trv with volts := r.pwrOut }
    siv := { s.siv with
      rangeFault := bitSet ((List.range 16).filter fun n => (s.siv.chains.getD n {}).ranged || (s.siv.chains.getD n {}).burdenCut)
      overload := r.overloads % 65536 }
    hap := { s.hap with queue := s.hap.queue - r.served }
    fab := { s.fab with peak := r.peak, stalls := r.stalls } }

/-- An antenna input after its current has been read. -/
def antennaRead (ma : List Nat) (i : Nat) (a : AntennaPort) : AntennaPort :=
  { a with current := min 255 (ma.getD i 0), state := if a.state = 1 ∧ 5 ≤ ma.getD i 0 then 0 else a.state
           low := if a.supplied && decide (ma.getD i 0 < 5) then a.low + 1 else 0
           cutFor := if a.state = 2 then a.cutFor + 1 else 0 }

def antennasRead (ma : List Nat) (s : State) : State :=
  { s with
    gnA := { s.gnA with ant0 := antennaRead ma 0 s.gnA.ant0, ant1 := antennaRead ma 1 s.gnA.ant1 }
    gnB := { s.gnB with ant0 := antennaRead ma 2 s.gnB.ant0, ant1 := antennaRead ma 3 s.gnB.ant1 } }

theorem takeReadings_events (r : Readings) (s : State) :
    EventsOnly (antennasRead r.antennaMa (readingsShown r (takeProgress s))) (takeReadings r s) := .condition 72 _ _

/-- The snapshot published with the readings. -/
def snapshotTaken (r : Readings) (s : State) : State :=
  modHap (fun h => { h with snap := some (publishedSnapshot (takeReadings r s)) }) (takeReadings r s)

theorem snapshotPublish_of_runs {s : State} (h : timerRuns s = true) (r : Readings) :
    exec (.snapshotPublish r) s = .next (formTimeRecord (snapshotTaken r s)) := next_of_pos h _ _

/-- What the publication shows. -/
structure Published (r : Readings) (s t : State) : Prop where
  snap : ∃ x, t.hap.snap = some x ∧ x.epoch = s.ex.epoch
  queue : t.hap.queue = s.hap.queue - r.served
  supply : t.sup.pwrA = r.pwrA ∧ t.sup.pwrB = r.pwrB ∧ t.sup.bus = r.bus ∧ t.sup.power = r.power ∧ t.sup.base = r.tempBase ∧ t.sup.asic = r.tempAsic
  volts : t.trv.volts = r.pwrOut
  sieve : t.siv.overload = r.overloads % 65536 ∧
    t.siv.rangeFault = bitSet ((List.range 16).filter fun n => (s.siv.chains.getD n {}).ranged || (s.siv.chains.getD n {}).burdenCut)
  antennas : t.gnA.ant0.current = min 255 (r.antennaMa.getD 0 0) ∧ t.gnB.ant1.current = min 255 (r.antennaMa.getD 3 0)
  fabric : t.fab.peak = r.peak ∧ t.fab.stalls = r.stalls
  kept : t.um = s.um ∧ t.log = s.log ∧ t.cfg = s.cfg

theorem snapshotTaken_spec (r : Readings) (s : State) : Published r s (snapshotTaken r s) ∧ (snapshotTaken r s).ex = s.ex ∧
    (snapshotTaken r s).pair = s.pair := by
  obtain ⟨n, f, hprogress⟩ := takeProgress_eq s
  obtain ⟨v, htaken⟩ : ∃ v, takeReadings r s = withEvents (antennasRead r.antennaMa (readingsShown r (takeProgress s))) v := ⟨_, (takeReadings_events r s).eq⟩
  rw [hprogress] at htaken
  refine ⟨⟨⟨_, rfl, ?_⟩, ?_, ?_, ?_, ?_, ?_, ?_, ?_⟩, ?_, ?_⟩
  · rw [publishedSnapshot_epoch, htaken]
    rfl
  all_goals
    rw [snapshotTaken, htaken]
  · rfl
  · exact ⟨rfl, rfl, rfl, rfl, rfl, rfl⟩
  · rfl
  · exact ⟨rfl, rfl⟩
  · exact ⟨rfl, rfl⟩
  · exact ⟨rfl, rfl⟩
  · exact ⟨rfl, rfl, rfl⟩
  · rfl
  · rfl

/-- The epoch-time record changes nothing that is shown. -/
theorem Published.formTimeRecord {r : Readings} {s t : State} (h : Published r s t) : Published r s (formTimeRecord t) := by
  obtain ⟨b, q, n, ht⟩ := formTimeRecord_eq t
  rw [ht]
  exact ⟨h.snap, h.queue, h.supply, h.volts, h.sieve, h.antennas, h.fabric, h.kept⟩

/-- A unit keeps its exchange where it forms no epoch-time record. -/
theorem formsRecords_congr {s t : State} (hum : t.um = s.um) (hpair : t.pair = s.pair) (hcfg : t.cfg = s.cfg) :
    formsRecords t = formsRecords s ∧ followsPair t = followsPair s := by
  unfold formsRecords followsPair isMirrored isPair timerRuns
  rw [hum, hpair, hcfg]
  exact ⟨rfl, rfl⟩

/-! ## The entry to HOLD -/

theorem openOutputs_off (s : State) : ∀ x ∈ (openOutputs s).trv.channels, x.hs = false ∧ x.ls = false := by
  intro x hx
  obtain ⟨c, -, rfl⟩ := List.mem_map.mp hx
  exact ⟨rfl, rfl⟩

/-- What a unit that enters HOLD holds. -/
theorem enterHold_empties {s : State} (h : transition s.um.mode .hold = true) (cause : Nat) :
    (enterHold cause s).mir.mode.func = none ∧ (enterHold cause s).ex.holdDue = none ∧ (enterHold cause s).ex.emit = false ∧
      (enterHold cause s).ex.buffer = [] ∧ (enterHold cause s).ex.committed = [] ∧ (enterHold cause s).ex.due = [] ∧
      (enterHold cause s).ktl.manual = none ∧ (∀ x ∈ (enterHold cause s).trv.channels, x.hs = false ∧ x.ls = false) ∧
      (enterHold cause s).hap.frozen = s.hap.snap ∧ (enterHold cause s).mir.alc = s.mir.alc := by
  unfold enterHold
  rw [if_pos h, (changeMode_events h cause).eq]
  exact ⟨rfl, rfl, rfl, rfl, rfl, rfl, rfl, openOutputs_off _, rfl, rfl⟩

/-- A fault found takes the unit to HOLD, with EV_011 after a fatal error. -/
theorem holdEntry_of_due {c : Nat} {s : State} (hdue : s.ex.holdDue = some c) :
    exec .holdEntry s = .next (
      if transition s.um.mode .hold && s.ex.fatalDue then raise 11 (enterHold c { s with ex := { s.ex with fatalDue := false } })
      else enterHold c { s with ex := { s.ex with fatalDue := false } }) := by
  refine congrArg Host.Outcome.next ?_
  rw [hdue]

/-! ## The statement -/

theorem cfg_of_kept {s t : State} (h : (kept t).cfg = (kept s).cfg) : t.cfg = s.cfg := h

theorem records_of_kept {s t : State} (h : (kept t).records = (kept s).records) : t.log.records = s.log.records := h

/-- What a unit holds after the cut-off. -/
theorem inputCutoff_opens (lv : Nat) (s : State) : ∃ t, inputCutoff lv s = t ∧ workOf t = noWork ∧ t.ex.offered.length ≤ 128 ∧ t.mir.epoch = t.ex.epoch ∧
    t.cfg = s.cfg ∧ t.log.records = s.log.records ∧ (Alone s → t.ex.epoch = (s.ex.epoch + 1) % 2 ^ 48 ∧ t.um.mode = .active) := by
  obtain ⟨-, hoffered, hepoch, hmir⟩ := cutoffRest_spec lv (standbyMode (roleDecisions (cutoffFirst s)))
  rw [← inputCutoff_first] at hoffered hepoch hmir
  exact ⟨_, rfl, inputCutoff_workOf lv s, hoffered, hmir.trans hepoch.symm, cfg_of_kept (inputCutoff_kept_cfg lv s),
    records_of_kept (inputCutoff_kept_records lv s), inputCutoff_of_alone lv⟩

/-- What a unit holds after the commitment, where no command is due. -/
theorem inputCommit_commits {s : State} (late : List SlowJob) (hdue : s.ex.due = []) (hlocal : s.hap.localDue = []) :
    ∃ t, inputCommit late s = t ∧ t.ex.committed = inputSet s ∧ t.ex.buffer = (leftRecords s).filter (fun r => decide (r.offers < 4)) ∧
      t.ex.epoch = s.ex.epoch ∧ t.cfg = s.cfg ∧ t.log = s.log ∧ t.um = s.um ∧ t.saved = some t.mir ∧
      (epochTimeRecord t = none → t.mir.tim.cutoff = s.mir.tim.cutoff + 500000 ∧ t.mir.tim.extrap = true) ∧
      (isMirrored s = true → s.ex.ackRx = none → eventActive 36 t = true) ∧
      (∀ p, runsSlowWork s = true → s.slow.plan = some p → epochWrap (p.basis + 100) = s.ex.epoch → (.plan ∈ late ∨ p.result = none) →
        t.ex.holdDue = some (s.ex.holdDue.getD 5) ∧ eventActive 105 t = true) := by
  have hbase := slowDue_spec hdue
  have hslow := SlowKept.commitSlowWork late (slowDue s)
  have hlate (p : SlowRun) (hruns : runsSlowWork s = true) (hplan : s.slow.plan = some p) :=
    commitSlowWork_of_latePlan (late := late) (s := slowDue s) (hbase.runs.trans hruns) (hbase.plan.trans hplan)
  refine ⟨_, inputCommit_eq late hdue hlocal, ?_⟩
  generalize commitSlowWork late (slowDue s) = w at hslow hlate ⊢
  generalize slowDue s = u at hbase hslow hlate
  have hcommitted : w.ex.committed = inputSet s := by
    rw [hslow.ex]
    exact hbase.committed
  have hbuffer : w.ex.buffer = (leftRecords s).filter fun r => decide (r.offers < 4) := by
    rw [hslow.ex]
    exact hbase.buffer
  have hepoch : w.ex.epoch = s.ex.epoch := by
    rw [hslow.ex]
    exact hbase.epoch
  refine ⟨hcommitted, hbuffer, hepoch, hslow.cfg.trans hbase.cfg, hslow.log.trans hbase.log, hslow.um.trans hbase.um, rfl, fun htime => ?_,
    fun hmirrored hack => ?_, fun p hruns hplan hbasis hnot => ?_⟩
  · have hsame : epochTimeRecord u = none :=
      (epochTimeRecord_congr (hbase.committed.trans hcommitted.symm) (hbase.epoch.trans hepoch.symm)).trans htime
    obtain ⟨hcutoff, hextrap⟩ := hbase.extrapolated hsame
    exact ⟨(congrArg TimeMirror.cutoff hslow.tim).trans hcutoff, (congrArg TimeMirror.extrap hslow.tim).trans hextrap⟩
  · exact hslow.events 36 (.inl rfl) (hbase.missed hmirrored hack)
  · obtain ⟨hfault, hactive⟩ := hlate p hruns hplan (hbasis.trans hbase.epoch.symm) hnot
    exact ⟨hfault.trans (congrArg (fun d : Option Nat => some (d.getD 5)) hbase.holdDue), hactive⟩

/-- A fault that was found, and a mode that leads to HOLD. -/
theorem holdEntry_holds {c : Nat} {s : State} (hdue : s.ex.holdDue = some c) (hmode : transition s.um.mode .hold = true) :
    ∃ t, exec .holdEntry s = .next t ∧ t.um.mode = .hold ∧ t.um.holdCause = c ∧ t.um.role = .none ∧
      t.mir.mode.func = none ∧ t.ex.holdDue = none ∧ t.ex.emit = false ∧ t.ex.buffer = [] ∧ t.ex.committed = [] ∧ t.ex.due = [] ∧ t.ktl.manual = none ∧
      (∀ x ∈ t.trv.channels, x.hs = false ∧ x.ls = false) ∧ t.hap.frozen = s.hap.snap ∧ (s.ex.fatalDue = true → eventActive 11 t = true) ∧
      t.log = s.log ∧ t.cfg = s.cfg ∧ t.mir.alc = s.mir.alc := by
  obtain ⟨hm, hcause, -, hrole, hcfg, -, hlog, -⟩ := enterHold_spec (s := { s with ex := { s.ex with fatalDue := false } }) hmode c
  obtain ⟨hfunc, hhold, hemit, hbuffer, hcommitted, hnone, hmanual, hoff, hfrozen, halc⟩ :=
    enterHold_empties (s := { s with ex := { s.ex with fatalDue := false } }) hmode c
  have hexec := holdEntry_of_due hdue
  rw [hmode, Bool.true_and] at hexec
  generalize enterHold c { s with ex := { s.ex with fatalDue := false } } = u at *
  cases hfatal : s.ex.fatalDue with
  | false =>
    rw [hfatal] at hexec
    exact ⟨u, hexec, hm, hcause, hrole, hfunc, hhold, hemit, hbuffer, hcommitted, hnone, hmanual, hoff, hfrozen, fun h => (nomatch h), hlog, hcfg, halc⟩
  | true =>
    rw [hfatal] at hexec
    have hactive : eventActive 11 (raise 11 u) = true := (eventActive_raise 11 11 u).trans rfl
    have hraise : ∃ v, raise 11 u = withEvents u v := ⟨_, (EventsOnly.raise 11 u).eq⟩
    obtain ⟨v, hv⟩ := hraise
    rw [if_pos rfl] at hexec
    refine ⟨_, hexec, ?_⟩
    rw [hv] at hactive ⊢
    exact ⟨hm, hcause, hrole, hfunc, hhold, hemit, hbuffer, hcommitted, hnone, hmanual, hoff, hfrozen, fun _ => hactive, hlog, hcfg, halc⟩

/-- Settles O43: the cut-off, the commitment, the entry to HOLD and the snapshot. -/
theorem epochOpensAndCommits : Obligations.EpochOpensAndCommits := by
  intro s hruns
  refine ⟨fun lv => ?_, fun late hforms hdue hlocal => ?_, fun c hc => ⟨holdEntry_holds hc, fun hmode => ?_⟩, fun hnone => ?_, fun r => ?_, ?_⟩
  · obtain ⟨t, ht, hwork, hoffered, hmir, hcfg, hrecords, halone⟩ := inputCutoff_opens lv s
    simp only [workOf, noWork, EpochWork.mk.injEq] at hwork
    obtain ⟨hfast, hdecided, hemitted, hsent, hoverrun, hcommitted, hcommands, heffected⟩ := hwork
    have hexec : exec (.inputCutoff lv) s = .next (inputCutoff lv s) := next_of_pos hruns _ _
    rw [ht] at hexec
    exact ⟨t, hexec, hfast, hdecided, hemitted, hsent, hoverrun, hcommitted, hcommands, heffected, hoffered, hmir, hcfg, hrecords,
      fun hmode hpair hrole hswap => halone ⟨hmode, hpair, hrole, hswap⟩⟩
  · have hexec : exec (.inputCommit late) s = .next (inputCommit late { s with fab := { s.fab with moving := none } }) :=
      congrArg Host.Outcome.next (if_pos hforms)
    obtain ⟨t, ht, hcommitted, hbuffer, hepoch, hcfg, hlog, hum, hsaved, htime, hmissed, hlate⟩ :=
      inputCommit_commits (s := { s with fab := { s.fab with moving := none } }) late hdue hlocal
    rw [ht] at hexec
    refine ⟨t, hexec, hcommitted, hbuffer, fun hrole r hr hsource => ?_, hepoch, hcfg, hlog, hum, fun hmirrored => ?_, htime, hmissed, hsaved, hlate⟩
    · have hleft : r ∈ leftRecords { s with fab := { s.fab with moving := none } } := (List.mem_filter.mp (hbuffer ▸ hr)).1
      rw [leftRecords, keptTime, if_pos hrole, List.mem_filter, hsource] at hleft
      simpa using hleft.2
    · rw [inputSet, if_neg (by simp [hmirrored])]
  · have hexec := holdEntry_of_due hc
    rw [hmode] at hexec
    have hnot : enterHold c { s with ex := { s.ex with fatalDue := false } } = { s with ex := { s.ex with holdDue := none, fatalDue := false } } := by
      rw [enterHold, if_neg (by rw [hmode]; decide)]
    rw [hnot] at hexec
    exact hexec
  · refine congrArg Host.Outcome.next ?_
    rw [hnone]
  · obtain ⟨hpublished, hex, hpair⟩ := snapshotTaken_spec r s
    obtain ⟨hforms, hfollows⟩ := formsRecords_congr hpublished.kept.1 hpair hpublished.kept.2.2
    have hexec := snapshotPublish_of_runs hruns r
    have hshown := hpublished.formTimeRecord
    have hkept (h : formsRecords s = false ∨ followsPair s = true) : (formTimeRecord (snapshotTaken r s)).ex = s.ex := by
      rw [formTimeRecord_of_not (h.imp hforms.trans hfollows.trans), hex]
    generalize formTimeRecord (snapshotTaken r s) = t at hexec hshown hkept
    obtain ⟨⟨x, hx, hepoch⟩, hqueue, ⟨hA, hB, hbus, hpower, hbase, hasic⟩, hvolts, ⟨hoverload, hrange⟩, ⟨hant0, hant1⟩, ⟨hpeak, hstalls⟩, hum, hlog, hcfg⟩ := hshown
    refine ⟨t, x, hexec, hx, hepoch, hqueue, hA, hB, hbus, hpower, hbase, hasic, hvolts, fun n hn => ⟨?_, ?_⟩, hant0, hant1, hpeak, hstalls, hum, hlog,
      hcfg, hkept⟩
    · rw [hoverload, show (65536 : Nat) = 2 ^ 16 from rfl, Nat.testBit_mod_two_pow, decide_eq_true hn, Bool.true_and]
    · rw [hrange, testBit_bitSet]
      simp [hn]
  · exact next_of_pos hruns _ _

end Sys2Proof.Machine
end

section
/-! The recorder takes what is due; the fabric variant changes (R145, R360, R361, R429). -/

namespace Sys2Proof.Machine

/-! ## The recorder -/

/-- The log L written, and nothing due any more. -/
def logWritten (L : Recorder) (s : State) : State := { s with log := L, evt := { s.evt with due := [] } }

/-- With one record due and no session, what is written is the log alone. -/
theorem recorderWrite_of_log {d : DueRecord} {L : Recorder} {s : State} (hdue : s.evt.due = [d]) (hwritten : s.evt.written = [])
    (hsessions : s.hap.sessions = []) (hwrite : writeRecord d s = { s with log := L }) : exec .recorderWrite s = .next (logWritten L s) := by
  have hs : ({ s with evt := { s.evt with written := [] } } : State) = s := by rw [← hwritten]
  have hdone : writeDue s = logWritten L s := by
    rw [writeDue_of_one hdue, hwrite]
    rfl
  have hsessions' : (logWritten L s).hap.sessions = [] := hsessions
  refine congrArg Host.Outcome.next ?_
  dsimp only
  rw [notifyAll_of_no_session _ hsessions, notifyAll_of_no_session _ hsessions, hs, hdone, notifyAll_of_no_session _ hsessions']
  unfold logWritten
  dsimp only
  rw [hwritten]

/-- A record that folds rewrites the last one of its scope. -/
theorem writeRecord_of_fold {d : DueRecord} {i : Nat} {r : EvRecord} {s : State} (hfull : s.log.full = false)
    (hlast : lastOfScope (attrOf d.event).scopeL s.log.records = some i) (hr : s.log.records[i]? = some r) (hfold : folds d s.ex.epoch r = true) :
    writeRecord d s = { s with log := { s.log with records := modAt s.log.records i (foldInto d s.ex.epoch) } } := by
  have htarget : ((lastOfScope (attrOf d.event).scopeL s.log.records).bind fun i =>
      (s.log.records[i]?).bind fun r => if folds d s.ex.epoch r then some i else none) = some i := by
    rw [hlast, Option.bind_some, hr, Option.bind_some, if_pos hfold]
  unfold writeRecord
  dsimp only
  rw [hfull, if_neg (by decide), htarget]

/-! ## The variant -/

/-- The variant v in force. -/
def variantConfigured (v : Option Nat) (s : State) : State :=
  { s with fab := if v = s.fab.variant then { s.fab with variantDue := none } else { s.fab with
    variant := v, variantDue := none, moving := some s.fab.variant, switches := min (s.fab.switches + 1) (2 ^ 32 - 1)
    reloc := min (movedOctets v s) 1048576
    tiles := relocated v s, test := v.filter fun k => !s.fab.marked.contains k } }

theorem variantChange_of_due {v : Option Nat} {s : State} (h : s.fab.variantDue = some v) :
    exec .variantChange s = .next (beginManual (variantConfigured v s)) := by
  refine congrArg Host.Outcome.next ?_
  rw [h]
  unfold variantConfigured
  by_cases hv : v = s.fab.variant
  · simp only [if_pos hv]
  · simp only [if_neg hv]
    rfl

theorem beginManual_of_not_held {s : State} (h : s.ktl.manualHeld = false) : beginManual s = s := by
  unfold beginManual
  split
  · exact if_neg (by simp [h])
  · rfl

theorem variantConfigured_fab (v : Option Nat) (s : State) :
    (variantConfigured v s).fab.variantDue = none ∧ (variantConfigured v s).fab.marked = s.fab.marked := by
  unfold variantConfigured
  dsimp only
  split
  · exact ⟨rfl, rfl⟩
  · exact ⟨rfl, rfl⟩

/-- A manual Skillet test that waited takes its Skillet out. -/
theorem beginManual_of_waiting {k : Nat} {s : State} (hheld : s.ktl.manualHeld = true) (hmanual : s.ktl.manual = some (1, k))
    (hrunning : s.ktl.running = none) (hmarked : s.fab.marked = []) (htest : s.fab.test = none) (hdue : s.fab.variantDue = none) :
    beginManual s = { s with ktl := { s.ktl with manualHeld := false }, fab := { s.fab with variantDue := some (some k) } } := by
  unfold beginManual
  rw [hmanual]
  dsimp only
  have hbegins : s.ktl.manualHeld ∧ s.ktl.running.isNone ∧ s.fab.test.isNone ∧ s.fab.variantDue.isNone := by
    rw [hrunning, htest, hdue]
    exact ⟨hheld, rfl, rfl, rfl⟩
  rw [if_pos hbegins]
  exact if_pos ⟨rfl, List.isEmpty_iff.mpr hmarked⟩

/-! ## The statement -/

/-- Settles O44. -/
theorem recorderAndVariantTakeWhatIsDue : Obligations.RecorderAndVariantTakeWhatIsDue := by
  intro s
  refine ⟨fun d hdue hwritten hsessions => ⟨fun hfull hlen hfold => ?_, fun i r hfull hlast hr hfold => ?_, fun hfull => ?_, fun hfull hlen hfold => ?_⟩,
    fun v hv => ⟨fun hheld => ?_, fun k hheld hmanual hrunning hmarked htest => ?_⟩⟩
  · exact ⟨_, newRecord d s, recorderWrite_of_log hdue hwritten hsessions (writeRecord_append hfull hfold (Nat.ne_of_lt hlen)),
      rfl, rfl, rfl, rfl, rfl, rfl, rfl, rfl, rfl, rfl⟩
  · refine ⟨_, recorderWrite_of_log hdue hwritten hsessions (writeRecord_of_fold hfull hlast hr hfold), ?_, fun k hk => ?_, rfl⟩
    · change (modAt s.log.records i _).length = _
      simp [modAt]
    · change (modAt s.log.records i _)[k]? = _
      simp [modAt, hk.symm]
  · exact recorderWrite_of_log hdue hwritten hsessions (writeRecord_of_full d hfull)
  · obtain ⟨t, ht, hlog, hactive⟩ := recorderWrite_of_one_due hdue hwritten hsessions
    rw [writeRecord_last_log hfull hfold hlen] at hlog
    rw [writeRecord_last_active hfull hfold hlen] at hactive
    refine ⟨t, ht, congrArg Recorder.full hlog, ?_, hactive⟩
    rw [hlog]
    simp [hlen]
  · exact (variantChange_of_due hv).trans (congrArg Host.Outcome.next (beginManual_of_not_held hheld))
  · obtain ⟨hdone, hkept⟩ := variantConfigured_fab v s
    exact (variantChange_of_due hv).trans (congrArg Host.Outcome.next
      (beginManual_of_waiting (s := variantConfigured v s) hheld hmanual hrunning (hkept.trans hmarked) htest hdone))

end Sys2Proof.Machine
end

section
/-! Fast work leaves the exchange alone (R151): one rule for each of its steps. -/

namespace Sys2Proof.Machine

theorem ex_foldl {α : Type} (g : State → α → State) (h : ∀ s x, (g s x).ex = s.ex) (l : List α) (s : State) : (l.foldl g s).ex = s.ex := by
  induction l generalizing s with
  | nil => rfl
  | cons x r ih => rw [List.foldl_cons, ih, h]

@[simp] theorem noteIndex_ex (e : Nat) (i : Nat) (s : State) : (noteIndex e i s).ex = s.ex := by
  unfold noteIndex
  split <;> simp

@[simp] theorem meetGate_ex (s : State) : (meetGate s).ex = s.ex := by
  unfold meetGate
  dsimp only
  split <;> simp

@[simp] theorem estimatorStatus_ex (s : State) : (estimatorStatus s).ex = s.ex := by
  unfold estimatorStatus
  simp

@[simp] theorem keepRun_ex (i : Instance) (from' : Nat) (r : Running) (s : State) : (keepRun i from' r s).ex = s.ex := rfl

@[simp] theorem runInstance_ex (i : Instance) (s : State) : (runInstance i s).2.ex = s.ex := rfl

@[simp] theorem takeUpdate_ex (r : Solved) (s : State) : (takeUpdate r s).ex = s.ex := rfl

@[simp] theorem setStatus_ex (b : Nat) (s : State) : (setStatus b s).ex = s.ex := rfl

@[simp] theorem noteFailure_ex (cls : Nat) (case : Nat) (retry : Bool) (basis : Nat) (o : Origin) (s : State) : (noteFailure cls case retry basis o s).ex = s.ex := by
  unfold noteFailure
  simp

@[simp] theorem noteSolved_ex (cls : Nat) (case : Nat) (retry : Bool) (basis : Nat) (r : Solved) (s : State) : (noteSolved cls case retry basis r s).ex = s.ex := by
  unfold noteSolved
  split <;> simp

@[simp] theorem limitSkips_ex (s : State) : (limitSkips s).ex = s.ex := by
  unfold limitSkips
  split <;> simp

@[simp] theorem inflate_ex (s : State) : (inflate s).ex = s.ex := rfl

@[simp] theorem skipUpdate_ex (s : State) : (skipUpdate s).ex = s.ex := by
  unfold skipUpdate
  simp

@[simp] theorem startState_ex (restart : Bool) (s : State) : (startState restart s).ex = s.ex := rfl

@[simp] theorem firstStart_ex (s : State) : (firstStart s).ex = s.ex := by
  unfold firstStart
  split <;> simp

@[simp] theorem startOrRestart_ex (s : State) : (startOrRestart s).ex = s.ex := by
  unfold startOrRestart
  dsimp only
  repeat' split
  all_goals simp

@[simp] theorem estimatorUpdate_ex (s : State) : (estimatorUpdate s).ex = s.ex := by
  unfold estimatorUpdate
  dsimp only
  repeat' split
  all_goals simp

@[simp] theorem propagateEstimate_ex (s : State) : (propagateEstimate s).ex = s.ex := by
  unfold propagateEstimate
  split <;> simp

@[simp] theorem contactJoint_ex (engaged : Bool) (s : State) : (contactJoint engaged s).ex = s.ex := rfl

@[simp] theorem feedbackAngles_ex (s : State) : (feedbackAngles s).ex = s.ex := rfl

@[simp] theorem advanceModel_ex (s : State) : (advanceModel s).ex = s.ex := rfl

@[simp] theorem contactForces_ex (engaged : Bool) (r : Solved) (s : State) : (contactForces engaged r s).ex = s.ex := by
  unfold contactForces
  split <;> simp

@[simp] theorem modelStep_ex (s : State) : (modelStep s).ex = s.ex := by
  unfold modelStep
  dsimp only
  repeat' split
  all_goals simp

@[simp] theorem estimationStep_ex (s : State) : (estimationStep s).ex = s.ex := by
  unfold estimationStep
  simp

@[simp] theorem captureFused_ex (s : State) : (captureFused s).ex = s.ex := by
  unfold captureFused
  split <;> simp

@[simp] theorem joystickEvent_ex (s : State) : (joystickEvent s).ex = s.ex := by
  unfold joystickEvent
  simp

@[simp] theorem captureEstimate_ex (s : State) : (captureEstimate s).ex = s.ex := rfl

@[simp] theorem berthContact_ex (s : State) : (berthContact s).ex = s.ex := by
  unfold berthContact
  dsimp only
  repeat' split
  all_goals simp

@[simp] theorem egoMotion_ex (s : State) : (egoMotion s).ex = s.ex := rfl

@[simp] theorem disputeEvents_ex (heading : Bool) (started : Bool) (after : AxisState) (s : State) : (disputeEvents heading started after s).ex = s.ex := by
  unfold disputeEvents
  split <;> simp

@[simp] theorem outEvents_ex (l : List (Nat × SourceState × Nat)) (s : State) : (outEvents l s).ex = s.ex := by
  unfold outEvents
  refine ex_foldl _ (fun s j => ?_) l s
  split <;> simp

@[simp] theorem headingFusion_ex (s : State) : (headingFusion s).ex = s.ex := by
  unfold headingFusion
  dsimp only
  split <;> simp

@[simp] theorem sensorEvents_ex (s : State) : (sensorEvents s).ex = s.ex := by
  unfold sensorEvents
  simp

@[simp] theorem motionFusion_ex (s : State) : (motionFusion s).ex = s.ex := by
  unfold motionFusion
  simp

@[simp] theorem positionFusion_ex (s : State) : (positionFusion s).ex = s.ex := by
  unfold positionFusion
  dsimp only
  repeat' split
  all_goals simp [ex_foldl]

@[simp] theorem leaveSuspects_ex (which : Nat → Bool) (s : State) : (leaveSuspects which s).ex = s.ex := by
  unfold leaveSuspects
  dsimp only
  split <;> simp

@[simp] theorem tautWires_ex (s : State) : (tautWires s).ex = s.ex := by
  unfold tautWires
  simp [ex_foldl]

@[simp] theorem windAndDraft_ex (s : State) : (windAndDraft s).ex = s.ex := by
  unfold windAndDraft
  simp

@[simp] theorem suspectEvent_ex (source : Nat) (before : Bool) (after : Bool) (s : State) : (suspectEvent source before after s).ex = s.ex := by
  unfold suspectEvent
  split <;> simp

@[simp] theorem acceptList_ex (srcs : List (Option Nat × TimeState)) (s : State) : (acceptList srcs s).2.ex = s.ex := by
  unfold acceptList
  simp [ex_foldl]

@[simp] theorem timeAcceptance_ex (s : State) : (timeAcceptance s).ex = s.ex := by
  unfold timeAcceptance
  simp

@[simp] theorem whisk_ex (s : State) : (whisk s).ex = s.ex := by
  unfold whisk
  simp

@[simp] theorem headingReturn_ex (s : State) : (headingReturn s).ex = s.ex := by
  unfold headingReturn
  split <;> simp

@[simp] theorem setFunction_ex (f : Option Func) (berth : Nat) (forced : Bool) (s : State) : (setFunction f berth forced s).ex = s.ex := by
  unfold setFunction
  split <;> simp

@[simp] theorem forceFunction_ex (f : Func) (s : State) : (forceFunction f s).ex = s.ex := by
  unfold forceFunction
  simp

@[simp] theorem modUnit_ex (j : Nat) (f : UnitState → UnitState) (s : State) : (modUnit j f s).ex = s.ex := rfl

@[simp] theorem putSetPoint_ex (j : Nat) (p : SetPoint) (s : State) : (putSetPoint j p s).ex = s.ex := rfl

@[simp] theorem thrusterTest_ex (s : State) : (thrusterTest s).ex = s.ex := by
  unfold thrusterTest
  dsimp only
  rw [ex_foldl _ (fun _ _ => by rfl)]
  simp

@[simp] theorem forceJoystick_ex (s : State) : (forceJoystick s).ex = s.ex := by
  unfold forceJoystick
  split
  · rfl
  · split
    · simp
    · split <;> simp

@[simp] theorem loseHeading_ex (s : State) : (loseHeading s).ex = s.ex := by
  unfold loseHeading
  dsimp only
  repeat' split
  all_goals simp

@[simp] theorem limitDeadReckoning_ex (s : State) : (limitDeadReckoning s).ex = s.ex := by
  unfold limitDeadReckoning
  dsimp only
  repeat' split
  all_goals simp

@[simp] theorem forcedChanges_ex (s : State) : (forcedChanges s).ex = s.ex := by
  unfold forcedChanges
  simp

@[simp] theorem fusionStep_ex (s : State) : (fusionStep s).ex = s.ex := by
  unfold fusionStep
  simp

@[simp] theorem sampleWindow_ex (s : State) : (sampleWindow s).ex = s.ex := by
  unfold sampleWindow
  simp

@[simp] theorem removeUnit_ex (j : Nat) (c : Nat) (s : State) : (removeUnit j c s).ex = s.ex := by
  unfold removeUnit
  dsimp only
  split <;> simp

@[simp] theorem removalCauses_ex (s : State) : (removalCauses s).ex = s.ex := by
  unfold removalCauses
  refine ex_foldl _ (fun s j => ?_) _ s
  dsimp only
  split
  · simp
  · split <;> simp

@[simp] theorem modSafe_ex (k : Nat) (f : SafeChannel → SafeChannel) (s : State) : (modSafe k f s).ex = s.ex := rfl

@[simp] theorem updatePermits_ex (s : State) : (updatePermits s).ex = s.ex := rfl

@[simp] theorem tripped_ex (k : Nat) (s : State) : (tripped k s).ex = s.ex := by
  unfold tripped
  dsimp only
  split <;> simp

@[simp] theorem stsTrip_ex (k : Nat) (s : State) : (stsTrip k s).ex = s.ex := by
  unfold stsTrip
  split
  · split <;> simp
  · rfl

@[simp] theorem slsBlind_ex (s : State) : (slsBlind s).ex = s.ex := by
  unfold slsBlind
  split <;> simp

@[simp] theorem sltTrip_ex (k : Nat) (s : State) : (sltTrip k s).ex = s.ex := by
  unfold sltTrip
  split
  · split <;> simp
  · rfl

@[simp] theorem slsTrip_ex (s : State) : (slsTrip s).ex = s.ex := by
  unfold slsTrip
  split
  · refine (raise_fields 114 _).2.1.trans ((ex_foldl _ (fun s k => ?_) _ _).trans rfl)
    split
    · split <;> simp
    · rfl
  · rfl

@[simp] theorem safetyTrips_ex (s : State) : (safetyTrips s).ex = s.ex := by
  unfold safetyTrips
  simp [ex_foldl]

@[simp] theorem advanceTrack_ex (s : State) : (advanceTrack s).ex = s.ex := by
  unfold advanceTrack
  dsimp only
  repeat' split
  all_goals simp

@[simp] theorem rampPush_ex (s : State) : (rampPush s).ex = s.ex := by
  unfold rampPush
  dsimp only
  split <;> simp

@[simp] theorem zeroEvent_ex (s : State) : (zeroEvent s).ex = s.ex := by
  unfold zeroEvent
  split <;> simp

@[simp] theorem noteAllocation_ex (r : Solved) (s : State) : (noteAllocation r s).ex = s.ex := rfl

@[simp] theorem noteCold_ex (cls : Nat) (case : Nat) (w : WarmReg) (s : State) : (noteCold cls case w s).ex = s.ex := by
  unfold noteCold
  split <;> simp

@[simp] theorem attempt_ex (i : Instance) (s : State) : (attempt i s).2.ex = s.ex := by
  unfold attempt
  simp

@[simp] theorem dropLostSource_ex (cls : Nat) (case : Nat) (s : State) : (dropLostSource cls case s).ex = s.ex := by
  unfold dropLostSource
  split <;> simp

@[simp] theorem runAllocation_ex (mask : Nat) (s : State) : (runAllocation mask s).2.ex = s.ex := by
  unfold runAllocation
  dsimp only
  split <;> simp

@[simp] theorem takeUnit_ex (r : Solved) (s : State) (j : Nat) : (takeUnit r s j).ex = s.ex := rfl

@[simp] theorem takeAllocation_ex (mask : Nat) (r : Solved) (s : State) : (takeAllocation mask r s).ex = s.ex := by
  unfold takeAllocation
  dsimp only
  rw [ex_foldl _ (fun s j => takeUnit_ex r s j)]
  simp

@[simp] theorem unitPowers_ex (mask : Nat) (s : State) : (unitPowers mask s).ex = s.ex := by
  unfold unitPowers
  dsimp only
  exact ex_foldl _ (fun _ _ => by rfl) _ s

@[simp] theorem allocationStatus_ex (mask : Nat) (s : State) : (allocationStatus mask s).ex = s.ex := by
  unfold allocationStatus
  dsimp only
  repeat' split
  all_goals simp

@[simp] theorem sectionLimits_ex (s : State) : (sectionLimits s).ex = s.ex := rfl

@[simp] theorem zeroThrust_ex (mask : Nat) (s : State) : (zeroThrust mask s).ex = s.ex := by
  unfold zeroThrust
  exact ex_foldl _ (fun _ _ => by rfl) _ s

@[simp] theorem fallbackAllocation_ex (mask : Nat) (s : State) : (fallbackAllocation mask s).ex = s.ex := by
  unfold fallbackAllocation
  dsimp only
  split
  · exact zeroThrust_ex mask _
  · exact ex_foldl _ (fun _ _ => by rfl) _ _

@[simp] theorem excludedUnits_ex (mask : Nat) (s : State) : (excludedUnits mask s).ex = s.ex := by
  unfold excludedUnits
  exact ex_foldl _ (fun _ _ => by rfl) _ s

@[simp] theorem followFeedback_ex (s : State) : (followFeedback s).ex = s.ex := by
  unfold followFeedback
  split
  · rfl
  · exact ex_foldl _ (fun _ _ => by rfl) _ s

@[simp] theorem allocationStep_ex (s : State) : (allocationStep s).ex = s.ex := by
  unfold allocationStep
  dsimp only
  repeat' split
  all_goals simp

@[simp] theorem zeroThrusters_ex (before : List UnitState) (s : State) : (zeroThrusters before s).ex = s.ex := by
  unfold zeroThrusters
  exact ex_foldl _ (fun _ _ => by rfl) _ s

@[simp] theorem endTest_ex (before : List UnitState) (s : State) : (endTest before s).ex = s.ex := by
  unfold endTest
  dsimp only
  repeat' split
  all_goals simp

@[simp] theorem safetyFunctions_ex (s : State) : (safetyFunctions s).ex = s.ex := rfl

@[simp] theorem commandStep_ex (s : State) : (commandStep s).ex = s.ex := by
  unfold commandStep
  dsimp only
  split <;> simp

@[simp] theorem conditionAt_ex (e : Nat) (i : Nat) (on : Bool) (s : State) : (conditionAt e i on s).ex = s.ex := by
  unfold conditionAt
  split <;> simp

@[simp] theorem combineInputs_ex (s : State) : (combineInputs s).ex = s.ex := by
  unfold combineInputs
  simp

@[simp] theorem takeSections_ex (s : State) : (takeSections s).ex = s.ex := by
  unfold takeSections
  dsimp only
  split <;> simp

@[simp] theorem takeFeedback_ex (s : State) (j : Nat) : (takeFeedback s j).ex = s.ex := by
  unfold takeFeedback
  split <;> simp

@[simp] theorem takePanels_ex (s : State) : (takePanels s).ex = s.ex := rfl

@[simp] theorem takePlant_ex (s : State) : (takePlant s).ex = s.ex := by
  unfold takePlant
  split <;> simp

@[simp] theorem fieldIntake_ex (s : State) : (fieldIntake s).ex = s.ex := by
  unfold fieldIntake
  simp [ex_foldl]

@[simp] theorem modGnssRef_ex (e : Side) (f : GnssRef → GnssRef) (s : State) : (modGnssRef e f s).ex = s.ex := by
  unfold modGnssRef
  split <;> simp

@[simp] theorem gnssIntakeOf_ex (e : Side) (s : State) : (gnssIntakeOf e s).ex = s.ex := by
  unfold gnssIntakeOf
  dsimp only
  repeat' split
  all_goals simp [ex_foldl]

@[simp] theorem gnssIntake_ex (s : State) : (gnssIntake s).ex = s.ex := by
  unfold gnssIntake
  simp

@[simp] theorem sieveIntakeOf_ex (n : Nat) (s : State) : (sieveIntakeOf n s).ex = s.ex := by
  unfold sieveIntakeOf
  dsimp only
  repeat' split
  all_goals simp

@[simp] theorem sieveIntake_ex (s : State) : (sieveIntake s).ex = s.ex := by
  unfold sieveIntake
  simp [ex_foldl]

@[simp] theorem advanceEstimate_ex (s : State) : (advanceEstimate s).ex = s.ex := by
  unfold advanceEstimate
  split <;> simp

@[simp] theorem intake_ex (s : State) : (intake s).ex = s.ex := by
  unfold intake
  simp

end Sys2Proof.Machine
end

section
/-! Fast work, its overrun and the digest frame (R49, R50, R58, R111, R151). -/

namespace Sys2Proof.Machine

/-! ## The commands of the epoch -/

theorem validateAll_ids (s : State) (selection : Bool) (l : List Command) (claimed : List Nat) :
    (validateAll s selection claimed l).map (·.id) = l.map (·.id) := by
  induction l generalizing claimed with
  | nil => rfl
  | cons c r ih =>
    rw [validateAll]
    dsimp only
    split
    · rw [List.map_cons, List.map_cons, ih]
    · rw [List.map_cons, List.map_cons, ih]

/-- Every command validated has a verdict. -/
theorem validateAll_verdicts (s : State) (selection : Bool) (l : List Command) (claimed : List Nat) :
    ∀ c ∈ validateAll s selection claimed l, c.verdict ≠ none := by
  induction l generalizing claimed with
  | nil => simp [validateAll]
  | cons c r ih =>
    rw [validateAll]
    dsimp only
    split
    · rw [List.forall_mem_cons]
      exact ⟨Option.some_ne_none _, ih claimed⟩
    · rw [List.forall_mem_cons]
      exact ⟨Option.some_ne_none _, ih _⟩

/-- A decision on a command is an answer, an event and a command due. -/
structure DecisionOnly (s t : State) : Prop where
  eq : t = withEvents { s with ex := { s.ex with due := t.ex.due }, hap := { s.hap with sessions := t.hap.sessions, awaiting := t.hap.awaiting }
                               out := t.out } t

namespace DecisionOnly

theorem refl (s : State) : DecisionOnly s s := ⟨rfl⟩

theorem trans {s t u : State} (hst : DecisionOnly s t) (htu : DecisionOnly t u) : DecisionOnly s u := by
  obtain ⟨d, l, a, o, v, rfl⟩ : ∃ d l a o v, t = withEvents { s with ex := { s.ex with due := d }, hap := { s.hap with sessions := l, awaiting := a }
                                                                     out := o } v := ⟨_, _, _, _, _, hst.eq⟩
  exact ⟨htu.eq⟩

theorem events {s t : State} (h : EventsOnly s t) : DecisionOnly s t := by
  obtain ⟨v, rfl⟩ : ∃ v, t = withEvents s v := ⟨_, h.eq⟩
  exact ⟨rfl⟩

theorem answer (id : RecordId) (status detail epoch : Nat) (words : List Word) (s : State) :
    DecisionOnly s (answerCommand id status detail epoch words s) := by
  obtain ⟨l, a, o, h⟩ := answerCommand_eq id status detail epoch words s
  rw [h]
  exact ⟨rfl⟩

theorem decideCommand (status detail : Nat) (c : Command) (s : State) : DecisionOnly s (decideCommand status detail c s) := by
  unfold Machine.decideCommand
  dsimp only
  split
  · exact trans (t := { s with ex := { s.ex with due := s.ex.due ++ [c] } }) ⟨rfl⟩ (answer _ _ _ _ _ _)
  · exact (events (.raise 123 s)).trans (answer _ _ _ _ _ _)

theorem foldl {f : State → Command → State} (hf : ∀ s c, DecisionOnly s (f s c)) (l : List Command) (s : State) : DecisionOnly s (l.foldl f s) := by
  induction l generalizing s with
  | nil => exact refl s
  | cons c l ih => exact (hf s c).trans (ih _)

theorem decideAlone (s : State) : DecisionOnly s (decideAlone s) := by
  unfold Machine.decideAlone
  split
  · exact refl s
  · exact foldl (fun s c => decideCommand _ _ c s) _ s

/-- What a decision leaves of the exchange. -/
theorem exchange {s t : State} (h : DecisionOnly s t) : t.ex.committed = s.ex.committed ∧ t.ex.epoch = s.ex.epoch ∧ t.ex.commands = s.ex.commands := by
  obtain ⟨d, l, a, o, v, rfl⟩ : ∃ d l a o v, t = withEvents { s with ex := { s.ex with due := d }, hap := { s.hap with sessions := l, awaiting := a }
                                                                     out := o } v := ⟨_, _, _, _, _, h.eq⟩
  exact ⟨rfl, rfl, rfl⟩

end DecisionOnly

/-! ## Fast work -/

/-- The steps of fast work before the commands are validated. -/
def stepsDone (s : State) : State := sampleWindow (commandStep (estimationStep (fusionStep (intake s))))

theorem stepsDone_ex (s : State) : (stepsDone s).ex = s.ex := by
  simp only [stepsDone, sampleWindow_ex, commandStep_ex, estimationStep_ex, fusionStep_ex, intake_ex]

/-- The fast work is done. -/
def workDone (s : State) : State := { s with ex := { s.ex with fastDone := true } }

theorem fastWork_eq (s : State) : fastWork s = workDone (decideAlone (validateCommands (stepsDone s))) := by
  unfold fastWork stepsDone
  rfl

/-- What fast work leaves in the exchange. -/
theorem fastWork_exchange (s : State) : (fastWork s).ex.fastDone = true ∧ (fastWork s).ex.committed = s.ex.committed ∧
    (fastWork s).ex.epoch = s.ex.epoch ∧ (fastWork s).ex.commands.map (·.id) = s.ex.commands.map (·.id) ∧
    (∀ c ∈ (fastWork s).ex.commands, c.verdict ≠ none) := by
  obtain ⟨hcommitted, hepoch, hcommands⟩ := (DecisionOnly.decideAlone (validateCommands (stepsDone s))).exchange
  have hex := stepsDone_ex s
  rw [fastWork_eq]
  generalize decideAlone (validateCommands (stepsDone s)) = t at hcommitted hepoch hcommands ⊢
  generalize stepsDone s = u at *
  have hvalidated : t.ex.commands = validateAll u (u.ex.commands.any selectsTarget) [] u.ex.commands := hcommands
  have hids : t.ex.commands.map (·.id) = u.ex.commands.map (·.id) := by rw [hvalidated, validateAll_ids]
  have hverdicts : ∀ c ∈ t.ex.commands, c.verdict ≠ none := by
    rw [hvalidated]
    exact validateAll_verdicts _ _ _ _
  rw [← hex]
  exact ⟨rfl, hcommitted, hepoch, hids, hverdicts⟩

theorem mode_cfg_fastWork (s : State) : (fastWork s).cfg = s.cfg ∧ (fastWork s).um.mode = s.um.mode :=
  ⟨cfg_of_kept (congrArg Kept.cfg (fastWork_kept s)), mode_of_kept (fastWork_kept s)⟩

/-! ## The digest frame -/

/-- The basis records are slow work and the sweep of the cases. -/
theorem takeBasis_eq (s : State) : ∃ w q, takeBasis s = { s with slow := w, mir := { s.mir with cqa := q } } := by
  have hba (t : State) : ∃ w, baTakeBasis t = { t with slow := w } := by
    unfold baTakeBasis
    split
    · exact ⟨_, rfl⟩
    · exact ⟨_, rfl⟩
  have hplan (t : State) : ∃ w, planTakeBasis t = { t with slow := w } := by
    unfold planTakeBasis
    split
    · exact ⟨_, rfl⟩
    · exact ⟨_, rfl⟩
  have hcase (t : State) : ∃ w q, caseTakeBasis t = { t with slow := w, mir := { t.mir with cqa := q } } := by
    unfold caseTakeBasis
    split
    · dsimp only
      split
      · exact ⟨_, _, rfl⟩
      · exact ⟨_, _, rfl⟩
    · exact ⟨_, _, rfl⟩
  unfold takeBasis
  split
  · obtain ⟨w, hw⟩ := hplan s
    obtain ⟨x, q, hx⟩ := hcase { s with slow := w }
    obtain ⟨y, hy⟩ := hba { s with slow := x, mir := { s.mir with cqa := q } }
    refine ⟨y, q, ?_⟩
    rw [takeBasisRecords, hw, hx, hy]
  · obtain ⟨w, hw⟩ := hba s
    exact ⟨w, _, hw⟩

/-- The digests formed, where fast work is complete. -/
def digestsFormed (s : State) : State :=
  if runsFastWork s && s.ex.fastDone then
    takeBasis { s with ex := { s.ex with cmdDigest := commandDigestOf s, commitDigest := commitDigestOf s } }
  else s

/-- What the digests change. -/
theorem digestsFormed_eq (s : State) : ∃ w q c k, digestsFormed s =
    { s with slow := w, mir := { s.mir with cqa := q }, ex := { s.ex with cmdDigest := c, commitDigest := k } } ∧
    (runsFastWork s = true → s.ex.fastDone = true → c = commandDigestOf s ∧ k = commitDigestOf s) := by
  unfold digestsFormed
  split
  · obtain ⟨w, q, h⟩ := takeBasis_eq { s with ex := { s.ex with cmdDigest := commandDigestOf s, commitDigest := commitDigestOf s } }
    exact ⟨w, q, _, _, h, fun _ _ => ⟨rfl, rfl⟩⟩
  · rename_i hnot
    exact ⟨_, _, _, _, rfl, fun hruns hdone => absurd (by rw [hruns, hdone]; rfl) hnot⟩

/-- The digest frame sent, where the unit has a partner and a role. -/
def digestSent (s : State) : State :=
  if isPair s && s.um.role != .none then send (.digest (digestBody s)) s else s

theorem digestSend_of_due {s : State} (hruns : timerRuns s = true) (hcommits : commits s.um.mode = true) (hsent : s.ex.digestSent = false)
    (hstopped : s.ex.stopped = false) :
    exec .digestSend s = .next (digestSent { digestsFormed s with ex := { (digestsFormed s).ex with digestSent := true } }) :=
  next_of_pos ⟨hruns, hcommits, by simp [hsent], by simp [hstopped]⟩ _ _

/-- What is sent is the digest body of the state that remains. -/
theorem digestSent_spec (s : State) : ∃ o, digestSent s = { s with out := o } ∧
    o = if isPair s && s.um.role != .none then sentBy s (.digest (digestBody s)) :: s.out else s.out := by
  unfold digestSent
  split
  · exact ⟨_, rfl, rfl⟩
  · exact ⟨_, rfl, rfl⟩

theorem digestSend_of_not {s : State} (h : ¬ (timerRuns s ∧ commits s.um.mode ∧ ¬ s.ex.digestSent ∧ ¬ s.ex.stopped)) : exec .digestSend s = .next s :=
  next_of_neg h _ _

/-- A unit whose fast work is not complete sends the marker of an overrun. -/
theorem digestBody_overrun {s : State} (hjoining : joining s = false) (hdone : s.ex.fastDone = false) : (digestBody s).overrun = true := by
  rw [digestBody, if_neg (by simp [hjoining]), if_pos (by simp [hdone])]

/-! ## The statement -/

/-- Settles O46. -/
theorem fastWorkIsDoneOrOverruns : Obligations.FastWorkIsDoneOrOverruns := by
  intro s
  refine ⟨fun hruns hfresh => ⟨?_, fun hoverrun => ?_⟩, fun hstopped => ?_, fun hruns hcommits hsent hstopped => ?_⟩
  · obtain ⟨hdone, hcommitted, hepoch, hids, hverdicts⟩ := fastWork_exchange s
    obtain ⟨hcfg, hmode⟩ := mode_cfg_fastWork s
    have hexec : exec .fastWork s = .next (fastWork s) := next_of_pos ⟨hruns, by simp [hfresh]⟩ _ _
    generalize fastWork s = t at *
    exact ⟨t, hexec, hdone, hcommitted, hepoch, hids, hverdicts, hcfg, hmode, next_of_neg (fun h => h.2 hdone) _ _⟩
  · have hraised := raised_raise 104 { s with ex := { s.ex with overrun := true, emit := false } }
    have hexec : exec .fastWorkOverrun s = .next (findFault 4 (raise 104 { s with ex := { s.ex with overrun := true, emit := false } })) :=
      next_of_pos ⟨hruns, by simp [hfresh], by simp [hoverrun]⟩ _ _
    refine ⟨raise 104 { s with ex := { s.ex with overrun := true, emit := false } }, hexec.trans ?_, hraised⟩
    rw [findFault, show (raise 104 { s with ex := { s.ex with overrun := true, emit := false } }).ex.holdDue = s.ex.holdDue by rw [hraised.eq]; rfl]
  · exact digestSend_of_not fun h => h.2.2.2 hstopped
  · obtain ⟨w, q, c, k, hformed, hdigests⟩ := digestsFormed_eq s
    have hexec := digestSend_of_due hruns hcommits hsent hstopped
    rw [hformed] at hexec
    obtain ⟨o, ho, hout⟩ := digestSent_spec { s with
      slow := w, mir := { s.mir with cqa := q }, ex := { s.ex with cmdDigest := c, commitDigest := k, digestSent := true } }
    rw [ho] at hexec
    refine ⟨_, hexec, rfl, digestSend_of_not fun h => h.2.2.1 rfl, hdigests, hout, fun hjoining hfresh => ?_, rfl, rfl, rfl, rfl, rfl⟩
    exact digestBody_overrun hjoining hfresh

end Sys2Proof.Machine
end

section
/-! The decision at E+340 µs, the arbitration, and the slow work of the epoch with its pages (R50, R51, R134, R311, R322). -/

namespace Sys2Proof.Machine

/-! ## The commands decided with the partner (R58, R384) -/

theorem DecisionOnly.decideTogether (s : State) : DecisionOnly s (decideTogether s) := by
  unfold Machine.decideTogether
  split
  · exact foldl (fun s c => decideCommand _ _ c s) _ s
  · exact refl s

theorem decideTogether_of_no_commands {s : State} (h : s.ex.commands = []) : decideTogether s = s := by
  unfold decideTogether
  rw [h]
  exact ite_self s

/-- No decision ends another event than a refusal. -/
theorem eventActive_decideCommand {e : Nat} {s : State} (h : eventActive e s = true) (status detail : Nat) (c : Command) :
    eventActive e (decideCommand status detail c s) = true := by
  have hanswer (id : RecordId) (a b n : Nat) (words : List Word) (t : State) : eventActive e (answerCommand id a b n words t) = eventActive e t := by
    obtain ⟨l, m, o, hanswer⟩ := answerCommand_eq id a b n words t
    rw [hanswer]
    rfl
  unfold decideCommand
  dsimp only
  split
  · rw [hanswer]
    exact h
  · rw [hanswer]
    simp [h]

theorem eventActive_decideTogether {e : Nat} {s : State} (h : eventActive e s = true) : eventActive e (decideTogether s) = true := by
  unfold decideTogether
  split
  · rename_i hvotes
    clear hvotes
    generalize s.ex.commands = l
    induction l generalizing s with
    | nil => exact h
    | cons c l ih => exact ih (eventActive_decideCommand h _ _ c)
  · exact h

/-- What the decision of the commands leaves alone. -/
theorem DecisionOnly.decided {s t : State} (h : DecisionOnly s t) : t.ex.emit = s.ex.emit ∧ t.ex.decided = s.ex.decided ∧
    t.ex.arbitration = s.ex.arbitration ∧ t.ex.resyncDue = s.ex.resyncDue ∧ t.ex.roleDue = s.ex.roleDue ∧ t.um = s.um ∧ t.pair = s.pair ∧
    t.mir.pair = s.mir.pair := by
  obtain ⟨d, l, a, o, v, rfl⟩ : ∃ d l a o v, t = withEvents { s with ex := { s.ex with due := d }, hap := { s.hap with sessions := l, awaiting := a }
                                                                     out := o } v := ⟨_, _, _, _, _, h.eq⟩
  exact ⟨rfl, rfl, rfl, rfl, rfl, rfl, rfl, rfl⟩

/-! ## The decision at E+340 µs -/

/-- The decision of the unit's own emission. -/
def ownDecision (s : State) : State := { s with ex := { s.ex with emit := mayEmit s, decided := true } }

section
variable {s : State} (hruns : timerRuns s = true) (hcommits : commits s.um.mode = true) (hfresh : s.ex.decided = false)
include hruns hcommits hfresh

theorem emissionDecision_alone (htakes : takesDigests s = false) : exec .emissionDecision s = .next (decideTogether (ownDecision s)) := by
  refine (next_of_pos ⟨hruns, hcommits, by simp [hfresh]⟩ _ _).trans (congrArg Host.Outcome.next ?_)
  exact congrArg decideTogether (if_neg (fun h => Bool.noConfusion (htakes.symm.trans h)))

theorem emissionDecision_judged (htakes : takesDigests s = true) :
    exec .emissionDecision s = .next (decideTogether (judgePartner (ownDecision s))) := by
  refine (next_of_pos ⟨hruns, hcommits, by simp [hfresh]⟩ _ _).trans (congrArg Host.Outcome.next ?_)
  exact congrArg decideTogether (if_pos htakes)

end

theorem not_pairVotes_of_not_takes {s : State} (hruns : timerRuns s = true) (hcommits : commits s.um.mode = true) (h : takesDigests s = false) :
    pairVotes s = false := by
  by_contra hvotes
  rw [Bool.not_eq_false] at hvotes
  obtain ⟨hmirrored, hphase⟩ := Bool.and_eq_true_iff.mp hvotes
  simp only [isMirrored, Bool.and_eq_true, bne_iff_ne, ne_eq] at hmirrored
  obtain ⟨⟨hpair, hrole⟩, -⟩ := hmirrored
  simp only [Bool.or_eq_true, beq_iff_eq] at hphase
  rcases hphase with hphase | hphase <;> simp [takesDigests, runsFastWork, joining, hpair, hrole, hphase, hruns, hcommits] at h

/-- A pair that votes takes digests. -/
theorem takesDigests_of_votes {s : State} (hruns : timerRuns s = true) (hcommits : commits s.um.mode = true) (h : pairVotes s = true) :
    takesDigests s = true := by
  by_contra hnot
  rw [not_pairVotes_of_not_takes hruns hcommits (Bool.not_eq_true _ ▸ hnot)] at h
  cases h

theorem not_joining_of_votes {s : State} (h : pairVotes s = true) : joining s = false := by
  obtain ⟨-, hphase⟩ := Bool.and_eq_true_iff.mp h
  simp only [Bool.or_eq_true, beq_iff_eq] at hphase
  rcases hphase with hphase | hphase <;> simp [joining, hphase]

/-- A frame of a partner that is past SETTLE is held. -/
theorem heldDigest_of_phase {d : DigestBody} {s : State} (hd : s.ex.partnerDigest = some d) (hphase : d.phase = .audit ∨ d.phase = .mirrored) :
    heldDigest s = some d := by
  rw [heldDigest, hd]
  rcases hphase with hphase | hphase <;> simp [Option.filter, hphase]

/-- Without a frame, outside JOIN, EV_038. -/
theorem judgePartner_of_none {s : State} (hnone : s.ex.partnerDigest = none) (hjoin : ¬ (s.um.role = .standby ∧ s.pair.phase = .join)) :
    judgePartner s = raise 38 s := by
  unfold judgePartner
  rw [hnone]
  refine if_neg fun h => hjoin ?_
  simp only [joining, Bool.and_eq_true, beq_iff_eq] at h
  exact ⟨h.1.1, h.2⟩

theorem judgePartner_of_join {s : State} (hnone : s.ex.partnerDigest = none) (hrole : s.um.role = .standby) (hphase : s.pair.phase = .join) :
    judgePartner s = s := by
  unfold judgePartner
  rw [hnone]
  exact if_pos (by simp [joining, hrole, hphase])

/-- The overrun marker of the active unit makes a standby unit take the role. -/
theorem judgePartner_of_overrun {d : DigestBody} {s : State} (hd : s.ex.partnerDigest = some d) (hoverrun : d.overrun = true) :
    judgePartner s = { s with ex := { s.ex with roleDue := if s.um.role = .standby then some 4 else s.ex.roleDue } } := by
  unfold judgePartner
  rw [hd]
  dsimp only
  by_cases hrole : s.um.role = .standby
  · have hheld : heldDigest s = some d := by simp [heldDigest, hd, Option.filter, hrole]
    rw [hheld]
    dsimp only
    rw [if_pos hoverrun, takeOverrun, if_pos hrole, if_pos hrole]
  · have hsame : ({ s with ex := { s.ex with roleDue := if s.um.role = .standby then some 4 else s.ex.roleDue } } : State) = s := by rw [if_neg hrole]
    rw [hsame]
    cases hheld : heldDigest s with
    | none => rfl
    | some e =>
      have he : e = d := by
        rw [heldDigest, hd] at hheld
        exact (Option.some.inj (Option.filter_eq_some_iff.mp hheld).1).symm
      dsimp only
      rw [he, if_pos hoverrun, takeOverrun, if_neg hrole]

/-- Digests are compared by a unit that has its own. -/
theorem judgePartner_of_digests {d : DigestBody} {s : State} (hd : s.ex.partnerDigest = some d) (hphase : d.phase = .audit ∨ d.phase = .mirrored)
    (hmarker : d.overrun = false) (hjoining : joining s = false) (hoverrun : s.ex.overrun = false) (hdone : s.ex.fastDone = true) :
    judgePartner s = auditFails d (compareDigests d s) := by
  unfold judgePartner
  rw [hd]
  dsimp only
  rw [heldDigest_of_phase hd hphase]
  dsimp only
  rw [if_neg (by simp [hmarker]), if_neg (by simp [hjoining, hoverrun, hdone])]

/-! ## The comparison -/

/-- A difference of the digests is counted. -/
def differenceCounted (same : Bool) (s : State) : State := if same then s else countDivergence s

/-- A difference of the commit digests is EV_121. -/
def commitCompared (same : Bool) (s : State) : State := if same then s else raise 121 s

/-- What follows from the comparison. -/
def comparisonActs (command commit : Bool) (s : State) : State :=
  if command then (if commit then s else { s with ex := { s.ex with resyncDue := true } })
  else { raise 120 s with ex := { (raise 120 s).ex with arbitration := true, emit := (raise 120 s).ex.emit && (raise 120 s).um.role == .active } }

theorem compareDigests_eq (d : DigestBody) (s : State) :
    compareDigests d s = comparisonActs (d.command == s.ex.cmdDigest) (d.commit == s.ex.commitDigest)
      (commitCompared (d.commit == s.ex.commitDigest)
        (differenceCounted ((d.command == s.ex.cmdDigest) && (d.commit == s.ex.commitDigest)) s)) := rfl

theorem compareDigests_of_equal {d : DigestBody} {s : State} (hcommand : d.command = s.ex.cmdDigest) (hcommit : d.commit = s.ex.commitDigest) :
    compareDigests d s = s := by
  simp [compareDigests, hcommand, hcommit]

theorem commitCompared_events (same : Bool) (s : State) : EventsOnly s (commitCompared same s) := by
  cases same
  · exact .raise 121 s
  · exact .refl s

/-- A difference is noted of a standby unit in AUDIT, and nothing else. -/
theorem auditFails_eq (d : DigestBody) (s : State) : ∃ x, auditFails d s = { s with pair := { s.pair with auditDiff := x } } ∧
    (s.um.role = .standby → s.pair.phase = .audit → (d.command ≠ s.ex.cmdDigest ∨ d.commit ≠ s.ex.commitDigest) → x = true) := by
  unfold auditFails
  split
  · exact ⟨_, rfl, fun _ _ _ => rfl⟩
  · rename_i hnot
    exact ⟨_, rfl, fun hrole hphase hdiffer => absurd ⟨hrole, hphase, hdiffer⟩ hnot⟩

theorem auditFails_of_equal {d : DigestBody} {s : State} (hcommand : d.command = s.ex.cmdDigest) (hcommit : d.commit = s.ex.commitDigest) :
    auditFails d s = s := if_neg fun h => h.2.2.elim (fun hc => hc hcommand) (fun hc => hc hcommit)

/-! ## What the judgement gives -/

/-- An arbitration begins. -/
def arbitrationBegun (s : State) : State :=
  { countDivergence s with ex := { s.ex with arbitration := true, emit := s.ex.emit && s.um.role == .active } }

/-- Resynchronisation is due. -/
def resyncBegun (s : State) : State := { countDivergence s with ex := { s.ex with resyncDue := true } }

/-- Command digests that differ start an arbitration. -/
theorem compareDigests_of_command {d : DigestBody} {s : State} (hcommand : d.command ≠ s.ex.cmdDigest) :
    EventsOnly (arbitrationBegun s) (compareDigests d s) ∧ eventActive 120 (compareDigests d s) = true ∧
      (d.commit ≠ s.ex.commitDigest → eventActive 121 (compareDigests d s) = true) := by
  have hcmd : (d.command == s.ex.cmdDigest) = false := by simpa using hcommand
  have hevents := (commitCompared_events (d.commit == s.ex.commitDigest) (countDivergence s)).trans (.raise 120 _)
  have h121 (h : d.commit ≠ s.ex.commitDigest) : eventActive 121 (raise 120 (commitCompared (d.commit == s.ex.commitDigest) (countDivergence s))) = true := by
    have hcom : (d.commit == s.ex.commitDigest) = false := by simpa using h
    rw [hcom, commitCompared, if_neg (by decide)]
    simp
  have h120 : eventActive 120 (raise 120 (commitCompared (d.commit == s.ex.commitDigest) (countDivergence s))) = true := by simp
  rw [compareDigests_eq, hcmd]
  generalize (d.commit == s.ex.commitDigest) = same at *
  obtain ⟨v, hv⟩ : ∃ v, raise 120 (commitCompared same (countDivergence s)) = withEvents (countDivergence s) v := ⟨_, hevents.eq⟩
  have hacts : comparisonActs false same (commitCompared same (differenceCounted (false && same) s)) = withEvents (arbitrationBegun s) v := by
    change { raise 120 (commitCompared same (countDivergence s)) with
      ex := { (raise 120 (commitCompared same (countDivergence s))).ex with
        arbitration := true
        emit := (raise 120 (commitCompared same (countDivergence s))).ex.emit && ((raise 120 (commitCompared same (countDivergence s))).um.role == Role.active) } } = _
    rw [hv]
    rfl
  rw [hv] at h120 h121
  rw [hacts]
  exact ⟨⟨rfl⟩, h120, h121⟩

/-- Commit digests alone that differ make resynchronisation due. -/
theorem compareDigests_of_commit {d : DigestBody} {s : State} (hcommand : d.command = s.ex.cmdDigest) (hcommit : d.commit ≠ s.ex.commitDigest) :
    EventsOnly (resyncBegun s) (compareDigests d s) ∧ eventActive 121 (compareDigests d s) = true := by
  have hcmd : (d.command == s.ex.cmdDigest) = true := by simpa using hcommand
  have hcom : (d.commit == s.ex.commitDigest) = false := by simpa using hcommit
  have hraise := EventsOnly.raise 121 (countDivergence s)
  have hactive : eventActive 121 (raise 121 (countDivergence s)) = true := by simp
  obtain ⟨v, hv⟩ : ∃ v, raise 121 (countDivergence s) = withEvents (countDivergence s) v := ⟨_, hraise.eq⟩
  have hacts : compareDigests d s = withEvents (resyncBegun s) v := by
    rw [compareDigests_eq, hcmd, hcom]
    change { raise 121 (countDivergence s) with ex := { (raise 121 (countDivergence s)).ex with resyncDue := true } } = _
    rw [hv]
    rfl
  rw [hv] at hactive
  rw [hacts]
  exact ⟨⟨rfl⟩, hactive⟩

/-- What the unit holds after a comparison that differs, with the difference noted of an audit. -/
theorem auditFails_spec {d : DigestBody} {s u c : State} (hu : u.ex.cmdDigest = s.ex.cmdDigest ∧ u.ex.commitDigest = s.ex.commitDigest ∧ u.um = s.um ∧
    u.pair = s.pair) (hevents : EventsOnly u c) (hdiffer : d.command ≠ s.ex.cmdDigest ∨ d.commit ≠ s.ex.commitDigest) :
    ∃ t, auditFails d c = t ∧ t.ex = u.ex ∧ t.um = s.um ∧ t.mir.pair = u.mir.pair ∧ (∀ e, eventActive e t = eventActive e c) ∧
      (s.um.role = .standby → s.pair.phase = .audit → t.pair.auditDiff = true) := by
  obtain ⟨x, hx, haudit⟩ := auditFails_eq d c
  obtain ⟨v, rfl⟩ : ∃ v, c = withEvents u v := ⟨_, hevents.eq⟩
  obtain ⟨hcmd, hcom, hum, hpair⟩ := hu
  refine ⟨_, hx, rfl, hum, rfl, fun _ => rfl, fun hrole hphase => haudit ?_ ?_ ?_⟩
  · exact (congrArg UnitMode.role hum).trans hrole
  · exact (congrArg PairLocal.phase hpair).trans hphase
  · exact hdiffer.imp (fun h hc => h (hc.trans hcmd)) (fun h hc => h (hc.trans hcom))

/-! ## The arbitration (R51) -/

/-- The arbitration is over. -/
def arbitrationOver (s : State) : State := { s with ex := { s.ex with arbitration := false } }

/-- What the two outcomes decide. -/
def outcomesDecided (own other : Option Bool) (s : State) : State :=
  match own, other with
  | some own, some other => if s.um.role = .active then arbitrate own other s else arbitrate other own s
  | _, _ => { s with ex := { s.ex with resyncDue := true } }

theorem arbitrationDecision_eq {s : State} (h : s.ex.arbitration = true) :
    exec .arbitrationDecision s = .next (outcomesDecided s.ex.rerun s.ex.partnerRerun (arbitrationOver s)) := by
  refine congrArg Host.Outcome.next ((if_pos h).trans ?_)
  unfold arbitrationOver
  dsimp only
  cases s.ex.rerun <;> cases s.ex.partnerRerun <;> rfl

theorem arbitrationDecision_of {own other : Bool} {s : State} (h : s.ex.arbitration = true) (hown : s.ex.rerun = some own)
    (hother : s.ex.partnerRerun = some other) :
    exec .arbitrationDecision s =
      .next (if s.um.role = .active then arbitrate own other (arbitrationOver s) else arbitrate other own (arbitrationOver s)) := by
  rw [arbitrationDecision_eq h, hown, hother]
  rfl

theorem arbitrationDecision_of_missing {s : State} (h : s.ex.arbitration = true) (hmissing : s.ex.rerun = none ∨ s.ex.partnerRerun = none) :
    exec .arbitrationDecision s = .next { s with ex := { s.ex with arbitration := false, resyncDue := true } } := by
  have hnone (own other : Option Bool) (h : own = none ∨ other = none) (t : State) :
      outcomesDecided own other t = { t with ex := { t.ex with resyncDue := true } } := by
    rcases h with rfl | rfl
    · rfl
    · cases own <;> rfl
  rw [arbitrationDecision_eq h, hnone _ _ hmissing]
  rfl

/-- The active unit whose re-run differed is at fault. -/
theorem arbitrate_active_fault {s : State} (hrole : s.um.role = .active) : arbitrate false true s = findFault 6 (raise 122 s) :=
  if_pos (by simp [hrole])

/-- The standby unit takes the role of an active unit at fault. -/
theorem arbitrate_standby_takes {s : State} (hrole : s.um.role = .standby) :
    arbitrate false true s = { raise 122 s with ex := { (raise 122 s).ex with roleDue := some 3 } } :=
  if_neg (by simp [hrole])

theorem arbitrate_active_goes_on {s : State} (hrole : s.um.role = .active) (act : Bool) : arbitrate act false s = s := by
  cases act
  · exact if_pos (by simp [hrole])
  · exact if_pos (by simp [hrole])

theorem arbitrate_standby_fault {s : State} (hrole : s.um.role = .standby) (act : Bool) : arbitrate act false s = findFault 6 s := by
  cases act
  · exact if_neg (by simp [hrole])
  · exact if_neg (by simp [hrole])

/-! ## Pages and audit digests (R311, R322) -/

/-- The pages of the epoch, in the order in which they are due. -/
def pagesDue (s : State) : List Nat :=
  let dig := allPages.map fun p => (p, auditDigest p s)
  let written := allPages.filter fun p => lookupNat p s.pair.pageDigests != none && lookupNat p s.pair.pageDigests != lookupNat p dig
  written ++ s.pair.unsent.filter fun p => !written.contains p

theorem mem_pagesDue {n : Nat} {s : State} (h : n ∈ pagesDue s) : n < 512 ∨ n ∈ s.pair.unsent := by
  rcases List.mem_append.mp h with h | h
  · exact .inl (List.mem_range.mp (List.mem_filter.mp h).1)
  · exact .inr (List.mem_filter.mp h).1

/-- One page frame sent. -/
def pageSent (k : Nat) (s : State) (p : Nat × Nat) : State := send (.page p.1 k p.2 (Cfg.mirrorPage s.mir p.2)) s

theorem foldl_pageSent (k : Nat) (l : List (Nat × Nat)) (s : State) :
    l.foldl (pageSent k) s = { s with out := (l.map fun p => sentBy s (.page p.1 k p.2 (Cfg.mirrorPage s.mir p.2))).reverse ++ s.out } := by
  induction l generalizing s with
  | nil => rfl
  | cons p l ih =>
    rw [List.foldl_cons, ih, List.map_cons, List.reverse_cons, List.append_assoc]
    rfl

/-- The page frames of the active unit in COPY and SETTLE, newest first. -/
def pageFrames (s : State) : List Sent :=
  ((mapAt ((pagesDue s).take 8) fun i p => (i, p)).map fun p =>
    sentBy s (.page p.1 ((pagesDue s).take 8).length p.2 (Cfg.mirrorPage s.mir p.2))).reverse

theorem length_pageFrames (s : State) : (pageFrames s).length = ((pagesDue s).take 8).length := by
  simp [pageFrames, mapAt]

theorem mem_pageFrames {f : Sent} {s : State} (h : f ∈ pageFrames s) : ∃ i n, f = sentBy s (.page i (pageFrames s).length n (Cfg.mirrorPage s.mir n)) ∧
    i < (pageFrames s).length ∧ (n < 512 ∨ n ∈ s.pair.unsent) := by
  rw [length_pageFrames]
  obtain ⟨p, hp, rfl⟩ := List.mem_map.mp (List.mem_reverse.mp h)
  obtain ⟨i, hi, rfl⟩ := List.mem_mapIdx.mp hp
  exact ⟨i, _, rfl, hi, mem_pagesDue (List.mem_of_mem_take (List.getElem_mem hi))⟩

/-- The pages noted as sent. -/
def pagesNoted (s t : State) : State :=
  { t with pair := { t.pair with unsent := (pagesDue s).drop 8, pageDigests := allPages.map (fun p => (p, auditDigest p s)),
                                 remaining := (pagesDue s).length } }

theorem sendPages_of_active {s : State} (h : s.um.role = .active ∧ (s.pair.phase = .copy ∨ s.pair.phase = .settle)) :
    sendPages s = pagesNoted s ((mapAt ((pagesDue s).take 8) fun i p => (i, p)).foldl (pageSent ((pagesDue s).take 8).length) s) := by
  unfold sendPages
  rw [if_pos h]
  unfold pagesNoted pagesDue
  generalize allPages = l
  rfl

/-- Pages are sent by the active unit in COPY and SETTLE alone. -/
theorem sendPages_eq (s : State) : ∃ p, p.mirrorSent = s.pair.mirrorSent ∧ p.phase = s.pair.phase ∧ sendPages s =
    { s with pair := p, out := if s.um.role = .active ∧ (s.pair.phase = .copy ∨ s.pair.phase = .settle) then pageFrames s ++ s.out else s.out } := by
  by_cases h : s.um.role = .active ∧ (s.pair.phase = .copy ∨ s.pair.phase = .settle)
  · refine ⟨{ s.pair with unsent := (pagesDue s).drop 8, pageDigests := allPages.map (fun p => (p, auditDigest p s)), remaining := (pagesDue s).length },
      rfl, rfl, ?_⟩
    rw [if_pos h, sendPages_of_active h, foldl_pageSent]
    rfl
  · refine ⟨{ s.pair with remaining := s.pair.unsent.length }, rfl, rfl, ?_⟩
    rw [if_neg h]
    exact if_neg h

end Sys2Proof.Machine
end

section
/-! The statement on emission and arbitration, with the slow work of the epoch (R50, R51, R134). -/

namespace Sys2Proof.Machine

/-! ## Slow work -/

/-- The slices of slow work change the slow instances and the tile stores alone. -/
structure SliceOnly (s t : State) : Prop where
  eq : t = { s with slow := t.slow, fab := t.fab }

theorem SliceOnly.refl (s : State) : SliceOnly s s := ⟨rfl⟩

theorem SliceOnly.trans {s t u : State} (hst : SliceOnly s t) (htu : SliceOnly t u) : SliceOnly s u := by
  obtain ⟨w, f, rfl⟩ : ∃ w f, t = { s with slow := w, fab := f } := ⟨_, _, hst.eq⟩
  exact ⟨htu.eq⟩

theorem SliceOnly.runSlow (cls case : Nat) (p : SlowRun) (s : State) : SliceOnly s (runSlow cls case p s).2 := by
  unfold Machine.runSlow
  split
  · exact refl s
  · exact ⟨rfl⟩

theorem SliceOnly.runJob {put : SlowRun → State → State} (hput : ∀ p s, SliceOnly s (put p s)) (cls case : Nat) (p : Option SlowRun) (s : State) :
    SliceOnly s (runJob cls case p put s) := by
  cases p with
  | none => exact refl s
  | some p => exact (runSlow cls case p s).trans (hput _ _)

theorem SliceOnly.runSlices (s : State) : SliceOnly s (runSlices s) := by
  have hcases (l : List Nat) (t : State) :
      SliceOnly t (l.foldl (fun s c => Machine.runJob 5 c (s.slow.cases.getD c none) (fun p => setRun c (some p)) s) t) := by
    induction l generalizing t with
    | nil => exact refl t
    | cons c l ih => exact (runJob (fun _ _ => ⟨rfl⟩) 5 c _ t).trans (ih _)
  have hplan (p : SlowRun) (t : State) : SliceOnly t (modSlow (fun w => { w with plan := some p }) t) := ⟨rfl⟩
  have hba (p : SlowRun) (t : State) : SliceOnly t (modSlow (fun w => { w with ba := some p }) t) := ⟨rfl⟩
  exact ((runJob hplan 4 0 _ s).trans (runJob hba 1 0 _ _)).trans (hcases _ _)

/-- The frames of the epoch's slow window, newest first: pages in COPY and SETTLE, the audit digests in AUDIT and MIRRORED. -/
def mirrorFrames (s : State) : List Sent :=
  if s.um.role = .active ∧ (s.pair.phase = .copy ∨ s.pair.phase = .settle) then pageFrames s
  else if s.um.role = .active ∧ (s.pair.phase = .audit ∨ s.pair.phase = .mirrored) then
    [sentBy s (.audit (64 * (s.ex.epoch % 8)) ((List.range 64).map fun i => auditDigest (64 * (s.ex.epoch % 8) + i) s))]
  else []

theorem sendAudit_of_active {s : State} (h : s.um.role = .active ∧ (s.pair.phase = .audit ∨ s.pair.phase = .mirrored)) :
    sendAudit s = send (.audit (64 * (s.ex.epoch % 8)) ((List.range 64).map fun i => auditDigest (64 * (s.ex.epoch % 8) + i) s)) s := if_pos h

theorem sendAudit_of_not {s : State} (h : ¬ (s.um.role = .active ∧ (s.pair.phase = .audit ∨ s.pair.phase = .mirrored))) : sendAudit s = s := if_neg h

theorem auditDigest_congr {s t : State} (h : t.mir = s.mir) (p : Nat) : auditDigest p t = auditDigest p s := by
  rw [auditDigest, auditDigest, h]

/-- Pages and audit digests go out once. -/
theorem sendMirror_of_due {s : State} (hpair : isPair s = true) (hruns : timerRuns s = true) (hfresh : s.pair.mirrorSent = false) :
    ∃ p, p.mirrorSent = true ∧ p.phase = s.pair.phase ∧ sendMirror s = { s with pair := p, out := mirrorFrames s ++ s.out } := by
  obtain ⟨p, -, hphase, hpages⟩ := sendPages_eq s
  have hdue : (isPair s && timerRuns s && !s.pair.mirrorSent) = true := by rw [hpair, hruns, hfresh]; rfl
  refine ⟨{ p with mirrorSent := true }, rfl, hphase, ?_⟩
  unfold sendMirror
  rw [if_pos hdue, hpages]
  dsimp only
  by_cases hcopy : s.um.role = .active ∧ (s.pair.phase = .copy ∨ s.pair.phase = .settle)
  · have hnot : ¬ (s.um.role = .active ∧ (p.phase = .audit ∨ p.phase = .mirrored)) := by
      rw [hphase]
      rintro ⟨-, h⟩
      rcases hcopy.2 with hc | hc <;> rw [hc] at h <;> simp at h
    rw [if_pos hcopy, mirrorFrames, if_pos hcopy, sendAudit_of_not hnot]
  · rw [if_neg hcopy, mirrorFrames, if_neg hcopy]
    by_cases haudit : s.um.role = .active ∧ (s.pair.phase = .audit ∨ s.pair.phase = .mirrored)
    · have haudit' : s.um.role = .active ∧ (p.phase = .audit ∨ p.phase = .mirrored) := hphase ▸ haudit
      rw [if_pos haudit, sendAudit_of_active haudit']
      rfl
    · have hnot : ¬ (s.um.role = .active ∧ (p.phase = .audit ∨ p.phase = .mirrored)) := hphase ▸ haudit
      rw [if_neg haudit, sendAudit_of_not hnot]
      rfl

theorem sendMirror_of_not {s : State} (h : ¬ (isPair s = true ∧ timerRuns s = true ∧ s.pair.mirrorSent = false)) : sendMirror s = s := by
  refine if_neg fun hdue => h ?_
  simpa [Bool.and_eq_true, and_assoc] using hdue

theorem runsSlowWork_of_phase {s : State} {p : PairLocal} {o : List Sent} (h : p.phase = s.pair.phase) :
    runsSlowWork { s with pair := p, out := o } = runsSlowWork s := by
  simp only [runsSlowWork, runsFastWork, joining, timerRuns, h]

/-- The slices of the epoch run, where slow work does. -/
def slicesRun (s : State) : State := if runsSlowWork s then runSlices s else s

theorem slowWorkSlice_eq (s : State) : exec .slowWorkSlice s = .next (slicesRun (sendMirror s)) := rfl

theorem slicesRun_eq (s : State) : SliceOnly s (slicesRun s) ∧ (runsSlowWork s = false → slicesRun s = s) := by
  unfold slicesRun
  split
  · rename_i hruns
    exact ⟨.runSlices s, fun h => by rw [hruns] at h; cases h⟩
  · exact ⟨.refl s, fun _ => rfl⟩

/-- What the slow window of an epoch does. -/
theorem slowWorkSlice_spec (s : State) : ∃ t, exec .slowWorkSlice s = .next t ∧ t = { s with slow := t.slow, fab := t.fab, pair := t.pair, out := t.out } ∧
    (runsSlowWork s = false → t.slow = s.slow ∧ t.fab = s.fab) ∧
    (isPair s = true → timerRuns s = true → s.pair.mirrorSent = false → t.pair.mirrorSent = true ∧ t.out = mirrorFrames s ++ s.out) ∧
    (isPair s = true → timerRuns s = true → s.pair.mirrorSent = true → t.out = s.out ∧ t.pair = s.pair) := by
  by_cases hdue : isPair s = true ∧ timerRuns s = true ∧ s.pair.mirrorSent = false
  · obtain ⟨hpair, hruns, hfresh⟩ := hdue
    obtain ⟨p, hsent, hphase, hmirror⟩ := sendMirror_of_due hpair hruns hfresh
    obtain ⟨hslices, hnone⟩ := slicesRun_eq (sendMirror s)
    have hexec := slowWorkSlice_eq s
    rw [hmirror] at hexec hslices hnone
    have hwork := runsSlowWork_of_phase (o := mirrorFrames s ++ s.out) hphase
    generalize slicesRun _ = t at hexec hslices hnone
    obtain ⟨w, f, rfl⟩ : ∃ w f, t = { s with slow := w, fab := f, pair := p, out := mirrorFrames s ++ s.out } := ⟨_, _, hslices.eq⟩
    refine ⟨_, hexec, rfl, fun h => ?_, fun _ _ _ => ⟨hsent, rfl⟩, fun _ _ h => by rw [hfresh] at h; cases h⟩
    have hsame := hnone (hwork.trans h)
    have hslow := congrArg State.slow hsame
    have hfab := congrArg State.fab hsame
    exact ⟨hslow, hfab⟩
  · obtain ⟨hslices, hnone⟩ := slicesRun_eq s
    have hexec := slowWorkSlice_eq s
    rw [sendMirror_of_not hdue] at hexec
    generalize slicesRun s = t at hexec hslices hnone
    obtain ⟨w, f, rfl⟩ : ∃ w f, t = { s with slow := w, fab := f } := ⟨_, _, hslices.eq⟩
    refine ⟨_, hexec, rfl, fun h => ?_, fun hpair hruns hfresh => absurd ⟨hpair, hruns, hfresh⟩ hdue, fun _ _ _ => ⟨rfl, rfl⟩⟩
    have hsame := hnone h
    exact ⟨congrArg State.slow hsame, congrArg State.fab hsame⟩

/-! ## The statement -/

/-- The decision of a unit that judges no difference. -/
theorem emissionDecision_kept {u t : State} (hdecision : DecisionOnly u t) (s : State) (hu : u.ex = { s.ex with emit := mayEmit s, decided := true, roleDue := u.ex.roleDue })
    (hum : u.um = s.um) (hpair : u.pair = s.pair) :
    t.ex.emit = mayEmit s ∧ t.ex.decided = true ∧ t.ex.arbitration = s.ex.arbitration ∧ t.ex.roleDue = u.ex.roleDue ∧ t.pair = s.pair ∧ t.um = s.um := by
  obtain ⟨hemit, hdecided, harbitration, -, hrole, hum', hpair', -⟩ := hdecision.decided
  rw [hemit, hdecided, harbitration, hrole, hum', hpair', hu]
  exact ⟨rfl, rfl, rfl, rfl, hpair, hum⟩

/-- Settles O47. -/
theorem emissionAndArbitrationAreDecided : Obligations.EmissionAndArbitrationAreDecided := by
  intro s
  refine ⟨fun hruns hcommits hfresh => ⟨fun htakes => ?_, fun htakes hnone hrole hphase => ?_, fun d htakes hd hoverrun => ?_,
    fun htakes hnone hjoin => ?_, fun d hvotes hd hphase hmarker hoverrun hdone => ?_⟩, fun upset h => next_of_pos h _ _,
    fun h => ⟨fun hown hother => ?_, fun hmissing => arbitrationDecision_of_missing h hmissing, fun hrole hown hother => ?_, fun hrole hown hother => ?_,
      fun x hrole hown hother => ?_, fun x hrole hown hother => ?_⟩, ?_⟩
  · have hexec := emissionDecision_alone hruns hcommits hfresh htakes
    have hnot : decideTogether (ownDecision s) = ownDecision s :=
      if_neg fun hc => Bool.noConfusion ((not_pairVotes_of_not_takes hruns hcommits htakes).symm.trans hc)
    rw [hnot] at hexec
    exact hexec
  · have hexec := emissionDecision_judged hruns hcommits hfresh htakes
    have hnot : decideTogether (ownDecision s) = ownDecision s := if_neg fun hc => by
      have hvotes : pairVotes s = true := hc
      simp [pairVotes, hphase] at hvotes
    rw [judgePartner_of_join (s := ownDecision s) hnone hrole hphase, hnot] at hexec
    exact hexec
  · have hexec := emissionDecision_judged hruns hcommits hfresh htakes
    rw [judgePartner_of_overrun (s := ownDecision s) hd hoverrun] at hexec
    have hdecision := DecisionOnly.decideTogether { ownDecision s with
      ex := { (ownDecision s).ex with roleDue := if (ownDecision s).um.role = .standby then some 4 else (ownDecision s).ex.roleDue } }
    generalize decideTogether _ = t at hexec hdecision
    obtain ⟨hemit, -, -, hdue, -, hum⟩ := emissionDecision_kept hdecision s rfl rfl rfl
    exact ⟨t, hexec, hemit, hum, hdue⟩
  · have hexec := emissionDecision_judged hruns hcommits hfresh htakes
    rw [judgePartner_of_none (s := ownDecision s) hnone fun hc => hjoin hc.1 hc.2] at hexec
    have hraised := raised_raise 38 (ownDecision s)
    have hdecision := DecisionOnly.decideTogether (raise 38 (ownDecision s))
    have hactive := eventActive_decideTogether (e := 38) (s := raise 38 (ownDecision s)) hraised.active
    have hnone (hempty : s.ex.commands = []) : decideTogether (raise 38 (ownDecision s)) = raise 38 (ownDecision s) := by
      refine decideTogether_of_no_commands ?_
      rw [hraised.eq]
      exact hempty
    obtain ⟨v, hv⟩ : ∃ v, raise 38 (ownDecision s) = withEvents (ownDecision s) v := ⟨_, hraised.eq⟩
    generalize decideTogether (raise 38 (ownDecision s)) = t at *
    rw [hv] at hdecision
    obtain ⟨hemit, hdecided, -, -, hpair, hum⟩ := emissionDecision_kept hdecision s rfl rfl rfl
    refine ⟨t, hexec, hactive, hemit, hdecided, hum, hpair, fun hempty => ?_⟩
    rw [hnone hempty]
    exact hraised
  · have htakes := takesDigests_of_votes hruns hcommits hvotes
    have hexec := emissionDecision_judged hruns hcommits hfresh htakes
    rw [judgePartner_of_digests (s := ownDecision s) hd hphase hmarker (not_joining_of_votes hvotes) hoverrun hdone] at hexec
    refine ⟨fun hcommand hcommit => ?_, fun hcommand => ?_, fun hcommand hcommit => ?_⟩
    · rw [compareDigests_of_equal (s := ownDecision s) hcommand hcommit, auditFails_of_equal (s := ownDecision s) hcommand hcommit] at hexec
      have hdecision := DecisionOnly.decideTogether (ownDecision s)
      have hnone (hempty : s.ex.commands = []) : decideTogether (ownDecision s) = ownDecision s := decideTogether_of_no_commands hempty
      generalize decideTogether (ownDecision s) = t at hexec hdecision hnone
      obtain ⟨hemit, hdecided, harbitration, -, hpair, hum⟩ := emissionDecision_kept hdecision s rfl rfl rfl
      exact ⟨t, hexec, hemit, hdecided, harbitration, hpair, hum, hnone⟩
    · obtain ⟨hevents, h120, h121⟩ := compareDigests_of_command (s := ownDecision s) hcommand
      obtain ⟨c, hc, hex, hum, hmir, hactive, haudit⟩ := auditFails_spec (s := ownDecision s) (u := arbitrationBegun (ownDecision s)) ⟨rfl, rfl, rfl, rfl⟩ hevents (.inl hcommand)
      rw [hc] at hexec
      have hdecision := (DecisionOnly.decideTogether c).decided
      have hkept {e : Nat} (he : eventActive e (compareDigests d (ownDecision s)) = true) : eventActive e (decideTogether c) = true :=
        eventActive_decideTogether ((hactive e).trans he)
      generalize decideTogether c = t at hexec hdecision hkept
      obtain ⟨hemit, -, harbitration, hresync, -, hum', hpair, hmir'⟩ := hdecision
      rw [hex] at hemit harbitration hresync
      refine ⟨t, hexec, harbitration, hkept h120, hemit, hresync, fun hdiffer => hkept (h121 hdiffer), fun hrole hphase => ?_, ?_, hum'.trans hum⟩
      · rw [hpair]
        exact haudit hrole hphase
      · rw [hmir', hmir]
        rfl
    · obtain ⟨hevents, h121⟩ := compareDigests_of_commit (s := ownDecision s) hcommand hcommit
      obtain ⟨c, hc, hex, hum, -, hactive, haudit⟩ := auditFails_spec (s := ownDecision s) (u := resyncBegun (ownDecision s)) ⟨rfl, rfl, rfl, rfl⟩ hevents (.inr hcommit)
      rw [hc] at hexec
      have hdecision := (DecisionOnly.decideTogether c).decided
      have hkept : eventActive 121 (decideTogether c) = true := eventActive_decideTogether ((hactive 121).trans h121)
      generalize decideTogether c = t at hexec hdecision hkept
      obtain ⟨hemit, -, harbitration, hresync, -, hum', hpair, -⟩ := hdecision
      rw [hex] at hemit harbitration hresync
      refine ⟨t, hexec, hresync, hemit, harbitration, hkept, fun hrole hphase => ?_, hum'.trans hum⟩
      rw [hpair]
      exact haudit hrole hphase
  · rw [arbitrationDecision_of h hown hother, ite_self]
    rfl
  · have hexec := arbitrationDecision_of h hown hother
    rw [if_pos hrole, arbitrate_active_fault (s := arbitrationOver s) hrole] at hexec
    have hraised := raised_raise 122 (arbitrationOver s)
    obtain ⟨v, hv⟩ : ∃ v, raise 122 (arbitrationOver s) = withEvents (arbitrationOver s) v := ⟨_, hraised.eq⟩
    have hactive := hraised.active
    rw [hv] at hexec hactive
    exact ⟨_, hexec, rfl, rfl, hactive, rfl⟩
  · have hexec := arbitrationDecision_of h hown hother
    rw [if_neg (by rw [hrole]; decide), arbitrate_standby_takes (s := arbitrationOver s) hrole] at hexec
    have hraised := raised_raise 122 (arbitrationOver s)
    obtain ⟨v, hv⟩ : ∃ v, raise 122 (arbitrationOver s) = withEvents (arbitrationOver s) v := ⟨_, hraised.eq⟩
    have hactive := hraised.active
    rw [hv] at hexec hactive
    exact ⟨_, hexec, rfl, rfl, rfl, hactive, rfl⟩
  · have hexec := arbitrationDecision_of h hown hother
    rw [if_pos hrole, arbitrate_active_goes_on (s := arbitrationOver s) hrole] at hexec
    exact hexec
  · have hexec := arbitrationDecision_of h hown hother
    rw [if_neg (by rw [hrole]; decide), arbitrate_standby_fault (s := arbitrationOver s) hrole] at hexec
    exact ⟨_, hexec, rfl, rfl, rfl⟩
  · obtain ⟨t, hexec, hkept, hidle, hfirst, hsecond⟩ := slowWorkSlice_spec s
    refine ⟨t, hexec, hkept, hidle, fun hpair hruns => ?_, hsecond, fun hpair hruns hfresh hrole hphase => ?_, fun hpair hruns hfresh hrole hphase => ?_⟩
    · cases hsent : s.pair.mirrorSent with
      | false => exact (hfirst hpair hruns hsent).1
      | true =>
        rw [(hsecond hpair hruns hsent).2]
        exact hsent
    · obtain ⟨-, hout⟩ := hfirst hpair hruns hfresh
      have hnot : ¬ (s.um.role = .active ∧ (s.pair.phase = .copy ∨ s.pair.phase = .settle)) := by
        rintro ⟨-, hc⟩
        rcases hphase with hp | hp <;> rw [hp] at hc <;> simp at hc
      rw [hout, mirrorFrames, if_neg hnot, if_pos ⟨hrole, hphase⟩]
      rfl
    · obtain ⟨-, hout⟩ := hfirst hpair hruns hfresh
      rw [mirrorFrames, if_pos ⟨hrole, hphase⟩] at hout
      refine ⟨pageFrames s, ?_, hout, fun f hf => mem_pageFrames hf⟩
      rw [length_pageFrames]
      exact List.length_take_le 8 _

end Sys2Proof.Machine
end

section
/-! Sessions over HAP: OPEN, the tests of a request, KEEPALIVE, CLOSE, holds, acknowledgements, and what time ends (R370 to R381, R386, R387). -/

namespace Sys2Proof.Machine

/-! ## Sessions -/

theorem sessionOf_modSession {i : Nat} {x : Session} {s : State} {f : Session → Session} (hf : ∀ z, (f z).ident = z.ident) (h : sessionOf i s = some x) :
    sessionOf i (modSession i f s) = some (f x) := by
  have hmap (l : List Session) (hl : l.find? (·.ident == i) = some x) : (l.map fun z => if z.ident = i then f z else z).find? (·.ident == i) = some (f x) := by
    induction l with
    | nil => simp at hl
    | cons z l ih =>
      by_cases hz : z.ident = i
      · rw [List.find?_cons_of_pos (by simpa using hz)] at hl
        rw [List.map_cons, if_pos hz, List.find?_cons_of_pos (by simpa [hf] using hz), Option.some.inj hl]
      · rw [List.find?_cons_of_neg (by simpa using hz)] at hl
        rw [List.map_cons, if_neg hz, List.find?_cons_of_neg (by simpa using hz)]
        exact ih hl
  exact hmap s.hap.sessions h

theorem ident_of_sessionOf {i : Nat} {x : Session} {s : State} (h : sessionOf i s = some x) : x.ident = i := by
  simpa using List.find?_some h

/-- A change of one session leaves the others. -/
theorem filter_modSession (i : Nat) (f : Session → Session) (hf : ∀ z, (f z).ident = z.ident) (l : List Session) :
    (l.map fun z => if z.ident = i then f z else z).filter (·.ident != i) = l.filter (·.ident != i) := by
  induction l with
  | nil => rfl
  | cons z l ih =>
    by_cases hz : z.ident = i
    · simp [hz, hf, ih]
    · simp [hz, ih]

/-- Where only the host access state changed. -/
structure HapOnly (s t : State) : Prop where
  eq : t = { s with hap := t.hap }

/-- An answer sent from the state that the request left. -/
def answeredAt (op addr count : Nat) (x : Session) (r : HapReq) (a : Answer) (u : State) : State :=
  sendAnswer (some x) true (responseOf op addr count r a u) u

section
variable {op addr count : Nat} {x : Session} {r : HapReq} {a : Answer} {s u : State}

theorem runRequest_of_acts {act : Option Session → State → Option Answer × State} (h : act (some x) s = (some a, u)) :
    runRequest op addr count r act (some x) s = answeredAt op addr count x r a u := by
  unfold runRequest
  rw [h]
  rfl

theorem answeredAt_out (h : HapOnly s u) :
    (answeredAt op addr count x r a u).out = sentBy s (.response (authenticate (some x.key) (responseOf op addr count r a s))) :: s.out := by
  obtain ⟨p, rfl⟩ : ∃ p, u = { s with hap := p } := ⟨_, h.eq⟩
  rfl

theorem answeredAt_answers (h : HapOnly s u) (hqueue : u.hap.queue = s.hap.queue - r.served + 1) :
    answers op addr a.status (if a.status = 0 then a.data else []) r s (answeredAt op addr count x r a u) :=
  ⟨hqueue, _, answeredAt_out h, rfl, rfl, rfl, rfl, rfl, rfl, rfl, rfl⟩

theorem answeredAt_session {y : Session} (h : sessionOf x.ident u = some y) :
    sessionOf x.ident (answeredAt op addr count x r a u) =
      some { y with stored := some (authenticate (some x.key) (responseOf op addr count r a u)) } := by
  refine sessionOf_modSession (s := send _ u) ?_ h
  intro z
  rfl

/-- An answer changes the frames, and the session alone. -/
theorem answeredAt_frame (h : HapOnly s u) : answeredAt op addr count x r a u =
    { s with out := (answeredAt op addr count x r a u).out, hap := { u.hap with sessions := (answeredAt op addr count x r a u).hap.sessions } } := by
  obtain ⟨p, rfl⟩ : ∃ p, u = { s with hap := p } := ⟨_, h.eq⟩
  rfl

end

theorem admitted_hapOnly (x : Session) (r : HapReq) (s : State) : HapOnly s (admitted x r s) := ⟨rfl⟩

theorem sessionOf_admitted {x : Session} {r : HapReq} {s : State} (h : sessionOf x.ident s = some x) :
    sessionOf x.ident (admitted x r s) = some { x with idle := 0, lastSeq := r.reqSeq } := by
  refine sessionOf_modSession (s := enqueue r s) ?_ h
  intro z
  rfl

/-- The session of an admitted request. -/
theorem session_of_admits {op addr count : Nat} {body : List Byte} {x : Session} {r : HapReq} {s : State} (h : admits op addr count body x r s) :
    sessionOf x.ident s = some x := by
  obtain ⟨-, -, -, -, -, -, -, hfind, -⟩ := h
  exact hfind

theorem bareForm_of {r : HapReq} (h : r.count = 0 ∧ r.repeated = false) : bareForm r = true := by
  simp [bareForm, h.1, h.2]

theorem bareForm_of_not {r : HapReq} (h : ¬ (r.count = 0 ∧ r.repeated = false)) : bareForm r = false := by
  rw [Bool.eq_false_iff]
  intro hform
  rw [bareForm, Bool.and_eq_true, beq_iff_eq, Bool.not_eq_true'] at hform
  exact h hform

/-! ## OPEN (R376) -/

theorem freshIdent_ne_zero (given : Nat) (s : State) : freshIdent given s ≠ 0 := by
  unfold freshIdent
  dsimp only
  split
  · rename_i hfree
    intro h
    simp [h] at hfree
  · cases hfound : (List.range 16).find? fun i => !(i == 0 || s.hap.sessions.any (·.ident == i)) with
    | none => exact Nat.one_ne_zero
    | some i =>
      have hi := List.find?_some hfound
      intro h
      rw [Option.getD_some] at h
      simp [h] at hi

/-- An answer to OPEN. -/
def openAnswered (r : HapReq) (p : Answer) (key : Option (List Byte)) (id : Nat) (s : State) : State :=
  send (.response (authenticate key { responseOf opOpen r.addr r.count r p s with session := id })) s

/-- The response to OPEN. -/
theorem openAnswered_out {s u : State} (h : HapOnly s u) (r : HapReq) (p : Answer) (key : Option (List Byte)) (id : Nat) :
    (openAnswered r p key id u).out = sentBy s (.response (authenticate key { responseOf opOpen r.addr r.count r p s with session := id })) :: s.out := by
  obtain ⟨q, rfl⟩ : ∃ q, u = { s with hap := q } := ⟨_, h.eq⟩
  rfl

theorem openAnswered_frame {s u : State} (h : HapOnly s u) (r : HapReq) (p : Answer) (key : Option (List Byte)) (id : Nat) :
    openAnswered r p key id u = { s with out := (openAnswered r p key id u).out, hap := u.hap } := by
  obtain ⟨q, rfl⟩ : ∃ q, u = { s with hap := q } := ⟨_, h.eq⟩
  rfl

theorem authenticate_fields (key : Option (List Byte)) (p : Response) : (authenticate key p).op = p.op ∧ (authenticate key p).status = p.status ∧
    (authenticate key p).addr = p.addr ∧ (authenticate key p).reqSeq = p.reqSeq ∧ (authenticate key p).port = p.port ∧ (authenticate key p).dest = p.dest ∧
    (authenticate key p).session = p.session ∧ (authenticate key p).data = p.data := by
  cases key
  · exact ⟨rfl, rfl, rfl, rfl, rfl, rfl, rfl, rfl⟩
  · exact ⟨rfl, rfl, rfl, rfl, rfl, rfl, rfl, rfl⟩

/-- The older session of a slot ends. -/
def slotCleared (slot : Nat) (s : State) : State :=
  match s.hap.sessions.find? (·.slot == slot) with
  | some old => endSession old.ident s
  | none => s

theorem slotCleared_hap (slot : Nat) (s : State) : ∃ l m, slotCleared slot s = { s with hap := { s.hap with sessions := l, holds := m } } ∧
    (s.hap.sessions.find? (·.slot == slot) = none → l = s.hap.sessions) ∧
    (∀ o, s.hap.sessions.find? (·.slot == slot) = some o → l = s.hap.sessions.filter (·.ident != o.ident)) := by
  unfold slotCleared
  cases h : s.hap.sessions.find? (·.slot == slot) with
  | none =>
    refine ⟨s.hap.sessions, s.hap.holds, rfl, fun _ => rfl, fun o ho => ?_⟩
    cases ho
  | some old =>
    refine ⟨s.hap.sessions.filter (·.ident != old.ident), _, rfl, fun h => ?_, fun o ho => ?_⟩
    · cases h
    · cases ho
      rfl

/-- The session that OPEN opens. -/
def openedSession (r : HapReq) (slot : Nat) (notify : Bool) (cn sn w : List Byte) (id : Nat) : Session :=
  { ident := id, slot, notify, port := r.port, peer := r.source, key := sessionKey w cn sn id }

/-- The session added. -/
def sessionAdded (x : Session) (s : State) : State := modHap (fun h => { h with sessions := h.sessions ++ [x] }) s

section
variable {r : HapReq} {s : State} {slot : Nat} {nt : Bool} {cn sn w : List Byte} {id : Nat}

theorem hapOpen_of_unreached (h : reaches r s = false) : exec (.hapOpen r slot nt cn sn id) s = .next s :=
  congrArg Host.Outcome.next (if_pos (by rw [h]; rfl))

variable (hreach : reaches r s = true) (hslot : slot < 8) (hkey : s.hap.keys.getD slot none = some w)
include hreach

/-- OPEN without a key for its slot: status 4, and no MAC. -/
theorem hapOpen_of_no_key (hnone : 8 ≤ slot ∨ s.hap.keys.getD slot none = none) (hroom : waiting r s < 32)
    (hform : (formGood opOpen (openBody slot nt cn) r && bareForm r) = true) :
    exec (.hapOpen r slot nt cn sn id) s = .next (openAnswered r (plain 4 (enqueue r s)) none r.session (enqueue r s)) := by
  have hk : (if slot < 8 then s.hap.keys.getD slot none else none) = none := by
    rcases hnone with h | h
    · exact if_neg (Nat.not_lt.mpr h)
    · rw [h, ite_self]
  refine congrArg Host.Outcome.next ?_
  dsimp only
  rw [hk, hreach, hform, if_neg (by decide), if_neg (by simp), if_neg (Nat.not_le.mpr hroom), if_neg (by decide)]
  rfl

include hslot hkey

theorem hapOpen_of_bad_mac (hmac : r.mac ≠ requestMac w opOpen r.addr r.count (openBody slot nt cn) r) :
    exec (.hapOpen r slot nt cn sn id) s = .next (macFailed s) := by
  refine congrArg Host.Outcome.next ?_
  dsimp only
  rw [if_pos hslot, hkey, hreach, if_neg (by decide), if_pos (by simpa using hmac)]

variable (hmac : r.mac = requestMac w opOpen r.addr r.count (openBody slot nt cn) r)
include hmac

theorem hapOpen_of_full (hfull : 32 ≤ waiting r s) : exec (.hapOpen r slot nt cn sn id) s =
    .next (openAnswered r (plain 0x0C (modHap (fun h => { h with busy := bump 8 h.busy, queue := waiting r s }) s)) (some w) r.session
      (modHap (fun h => { h with busy := bump 8 h.busy, queue := waiting r s }) s)) := by
  refine congrArg Host.Outcome.next ?_
  dsimp only
  rw [if_pos hslot, hkey, hreach, if_neg (by decide), if_neg (by simpa using hmac), if_pos hfull]
  rfl

theorem hapOpen_of_bad_form (hroom : waiting r s < 32) (hform : (formGood opOpen (openBody slot nt cn) r && bareForm r) = false) :
    exec (.hapOpen r slot nt cn sn id) s = .next (openAnswered r (plain 1 (enqueue r s)) (some w) r.session (enqueue r s)) := by
  refine congrArg Host.Outcome.next ?_
  dsimp only
  rw [if_pos hslot, hkey, hreach, hform, if_neg (by decide), if_neg (by simpa using hmac), if_neg (Nat.not_le.mpr hroom), if_pos (by decide)]
  rfl

/-- OPEN opens the slot's session. -/
theorem hapOpen_of_good (hroom : waiting r s < 32) (hform : (formGood opOpen (openBody slot nt cn) r && bareForm r) = true) :
    ∃ x u, exec (.hapOpen r slot nt cn sn id) s = .next (openAnswered r { epoch := snapEpoch u, data := bytesWords sn } (some w) x.ident u) ∧
      x = openedSession r slot nt cn sn w (freshIdent id (slotCleared slot (enqueue r s))) ∧ u = sessionAdded x (slotCleared slot (enqueue r s)) := by
  refine ⟨_, _, congrArg Host.Outcome.next ?_, rfl, rfl⟩
  dsimp only
  rw [if_pos hslot, hkey, hreach, hform, if_neg (by decide), if_neg (by simpa using hmac), if_neg (Nat.not_le.mpr hroom), if_neg (by decide)]
  unfold slotCleared
  cases (enqueue r s).hap.sessions.find? (·.slot == slot) <;> rfl

end

end Sys2Proof.Machine
end

section
/-! Sessions over HAP, continued: what a request does once its session is known, holds, notifications and time (R371, R377, R378, R381, R386, R387). -/

namespace Sys2Proof.Machine

/-! ## The tests of a request of a session (R371, R377, R378) -/

section
variable {op addr count : Nat} {body : List Byte} {form needs : Bool} {r : HapReq} {act : Option Session → State → Option Answer × State} {x : Session} {s : State}

/-- Refused with a status alone, once it has joined the queue. -/
def refusedWith (op addr count st : Nat) (x : Session) (r : HapReq) (s : State) : State :=
  answeredAt op addr count x r { status := st, epoch := snapEpoch s } (enqueue r s)

theorem refusedWith_answers {st : Nat} (h : st ≠ 0) : answers op addr st [] r s (refusedWith op addr count st x r s) := by
  have hans := answeredAt_answers (op := op) (addr := addr) (count := count) (x := x) (r := r) (a := { status := st, epoch := snapEpoch s }) (s := s)
    (u := enqueue r s) ⟨rfl⟩ rfl
  rw [if_neg h] at hans
  exact hans

theorem admitRequest_of_bad_mac (hreach : reaches r s = true) (hne : r.session ≠ 0) (hfind : sessionOf r.session s = some x)
    (hmac : r.mac ≠ requestMac x.key op addr count body r) : admitRequest op addr count body form needs r act s = macFailed s := by
  unfold admitRequest
  rw [hreach, if_neg (by decide), if_neg hne, hfind]
  exact if_pos hmac

theorem admitRequest_of_session (hreach : reaches r s = true) (hne : r.session ≠ 0) (hfind : sessionOf r.session s = some x)
    (hmac : r.mac = requestMac x.key op addr count body r) :
    admitRequest op addr count body form needs r act s = admitSession op addr count body form r act x s := by
  unfold admitRequest
  rw [hreach, if_neg (by decide), if_neg hne, hfind]
  exact if_neg (by rw [ne_eq, not_not]; exact hmac)

/-- A request still in progress is discarded. -/
theorem admitSession_of_awaited (h : ∃ p ∈ s.hap.awaiting, p.session = x.ident ∧ p.reqSeq = r.reqSeq) :
    admitSession op addr count body form r act x s = s := by
  refine if_pos ?_
  obtain ⟨p, hp, hsession, hseq⟩ := h
  exact List.any_eq_true.mpr ⟨p, hp, by simp [hsession, hseq]⟩

theorem awaiting_any_of_not (h : ∀ p ∈ s.hap.awaiting, p.session ≠ x.ident ∨ p.reqSeq ≠ r.reqSeq) :
    s.hap.awaiting.any (fun p => p.session == x.ident && p.reqSeq == r.reqSeq) = false := by
  simpa [← not_and_or] using h

theorem stored_filter_of_not (h : ∀ p, x.stored = some p → p.reqSeq ≠ r.reqSeq) : x.stored.filter (·.reqSeq == r.reqSeq) = none := by
  simpa [Option.filter_eq_none_iff] using h

/-- The request answered last gets its response again. -/
theorem admitSession_of_stored {p : Response} (hawait : ∀ p ∈ s.hap.awaiting, p.session ≠ x.ident ∨ p.reqSeq ≠ r.reqSeq)
    (hstored : x.stored = some p) (hseq : p.reqSeq = r.reqSeq) : admitSession op addr count body form r act x s =
      send (.response { p with port := r.port, dest := r.source }) (modSession x.ident (fun z => { z with idle := 0 }) s) := by
  unfold admitSession
  rw [awaiting_any_of_not hawait, if_neg (by decide), hstored, Option.filter_some, if_pos (by simpa using hseq)]

variable (hawait : ∀ p ∈ s.hap.awaiting, p.session ≠ x.ident ∨ p.reqSeq ≠ r.reqSeq) (hstored : ∀ p, x.stored = some p → p.reqSeq ≠ r.reqSeq)
  (hopen : x.closing = false) (hroom : waiting r s < 32)
include hawait hstored hopen hroom

theorem admitSession_of_bad_form (hform : (formGood op body r && form) = false) :
    admitSession op addr count body form r act x s = refusedWith op addr count 1 x r s := by
  unfold admitSession
  rw [awaiting_any_of_not hawait, if_neg (by decide), stored_filter_of_not hstored, hopen, hform]
  exact (if_neg (by decide)).trans ((if_neg (Nat.not_le.mpr hroom)).trans (if_pos (by decide)))

theorem admitSession_of_low (hform : (formGood op body r && form) = true) (hlow : r.reqSeq ≤ x.lastSeq) :
    admitSession op addr count body form r act x s = refusedWith op addr count 6 x r s := by
  unfold admitSession
  rw [awaiting_any_of_not hawait, if_neg (by decide), stored_filter_of_not hstored, hopen, hform]
  exact (if_neg (by decide)).trans ((if_neg (Nat.not_le.mpr hroom)).trans ((if_neg (by decide)).trans (if_pos hlow)))

end

/-- The tests of a KEEPALIVE, the form of others being tested alike. -/
theorem keepalive_tests {x : Session} {r : HapReq} {s : State} (hreach : reaches r s = true) (hne : r.session ≠ 0)
    (hfind : sessionOf r.session s = some x) (hident : x.ident = r.session) :
    (r.mac ≠ requestMac x.key opKeepalive r.addr r.count [] r → ∃ t, exec (.keepalive r) s = .next t ∧
      Raised 58 { s with hap := { s.hap with auth := min (s.hap.auth + 1) 65535 } } t) ∧
    (r.mac = requestMac x.key opKeepalive r.addr r.count [] r →
      ((∃ p ∈ s.hap.awaiting, p.session = x.ident ∧ p.reqSeq = r.reqSeq) → exec (.keepalive r) s = .next s) ∧
      ((∀ p ∈ s.hap.awaiting, p.session ≠ x.ident ∨ p.reqSeq ≠ r.reqSeq) →
        (∀ p, x.stored = some p → p.reqSeq = r.reqSeq → ∃ t, exec (.keepalive r) s = .next t ∧
          t.out = sentBy s (.response { p with port := r.port, dest := r.source }) :: s.out ∧
          t = { s with out := t.out, hap := { s.hap with sessions := t.hap.sessions } } ∧
          ∃ y, sessionOf x.ident t = some y ∧ y = { x with idle := 0 }) ∧
        ((∀ p, x.stored = some p → p.reqSeq ≠ r.reqSeq) → x.closing = false → waiting r s < 32 → formGood opKeepalive [] r = true →
          (r.count = 0 ∧ r.repeated = false) → r.reqSeq ≤ x.lastSeq → ∃ t, exec (.keepalive r) s = .next t ∧ answers 7 r.addr 6 [] r s t))) := by
  refine ⟨fun hmac => ⟨_, congrArg Host.Outcome.next (admitRequest_of_bad_mac hreach hne hfind hmac), raised_raise _ _⟩, fun hmac => ?_⟩
  have hsess : exec (.keepalive r) s =
      .next (admitSession opKeepalive r.addr r.count [] (bareForm r) r (fun _ s => (some (plain 0 s), s)) x s) :=
    congrArg Host.Outcome.next (admitRequest_of_session hreach hne hfind hmac)
  rw [hsess]
  refine ⟨fun hawaited => congrArg Host.Outcome.next (admitSession_of_awaited hawaited), fun hawait => ⟨?_, ?_⟩⟩
  · intro p hstored hseq
    refine ⟨_, congrArg Host.Outcome.next (admitSession_of_stored hawait hstored hseq), rfl, rfl, _, ?_, rfl⟩
    refine sessionOf_modSession ?_ (hident ▸ hfind)
    intro z
    rfl
  · intro hstored hopen hroom hgood hbare hlow
    have hform : (formGood opKeepalive [] r && bareForm r) = true := by rw [hgood, bareForm_of hbare]; rfl
    exact ⟨_, congrArg Host.Outcome.next (admitSession_of_low hawait hstored hopen hroom hform hlow), refusedWith_answers (by decide)⟩

/-! ## KEEPALIVE and CLOSE (R373, R377) -/

section
variable {x : Session} {r : HapReq} {s : State}

theorem keepalive_of_admits (hbare : r.count = 0 ∧ r.repeated = false) (h : admits opKeepalive r.addr r.count [] x r s) :
    ∃ t, exec (.keepalive r) s = .next t ∧ answers 7 r.addr 0 [] r s t ∧
      (∃ y, sessionOf x.ident t = some y ∧ y.idle = 0 ∧ y.lastSeq = r.reqSeq ∧ y.stored.isSome = true ∧ y.holds = x.holds ∧ y.notes = x.notes) ∧
      t = { s with out := t.out, hap := { s.hap with queue := t.hap.queue, sessions := t.hap.sessions } } := by
  have hexec : exec (.keepalive r) s = .next (answeredAt opKeepalive r.addr r.count x r (plain 0 s) (admitted x r s)) :=
    congrArg Host.Outcome.next ((admitRequest_of_admits h (bareForm_of hbare) true _).trans (runRequest_of_acts rfl))
  have hsess := answeredAt_session (op := opKeepalive) (addr := r.addr) (count := r.count) (r := r) (a := plain 0 s)
    (sessionOf_admitted (r := r) (session_of_admits h))
  exact ⟨_, hexec, answeredAt_answers (admitted_hapOnly x r s) rfl, ⟨_, hsess, rfl, rfl, rfl, rfl, rfl⟩, answeredAt_frame (admitted_hapOnly x r s)⟩

theorem keepalive_of_bad_form (hbare : ¬ (r.count = 0 ∧ r.repeated = false)) (h : admits opKeepalive r.addr r.count [] x r s) :
    ∃ t, exec (.keepalive r) s = .next t ∧ answers 7 r.addr 1 [] r s t := by
  obtain ⟨hreach, hroom, -, hopen, hmac, hsession, hident, hfind, -, hawait, hstored⟩ := h
  have hform : (formGood opKeepalive [] r && bareForm r) = false := by rw [bareForm_of_not hbare, Bool.and_false]
  exact ⟨_, congrArg Host.Outcome.next ((admitRequest_of_session hreach hsession (hident ▸ hfind) hmac).trans
    (admitSession_of_bad_form hawait hstored hopen hroom hform)), refusedWith_answers (by decide)⟩

/-- The session closed: its last response sent, and itself and its holds gone. -/
def sessionClosed (x : Session) (r : HapReq) (s : State) : State :=
  endSession x.ident (sendAnswer (some x) false (responseOf opClose r.addr r.count r (plain 0 s) s) (admitted x r s))

theorem close_of_admits (hbare : r.count = 0 ∧ r.repeated = false) (h : admits opClose r.addr r.count [] x r s) :
    ∃ t, exec (.hapClose r) s = .next t ∧ answers 4 r.addr 0 [] r s t ∧ t.hap.sessions = s.hap.sessions.filter (·.ident != x.ident) ∧
      t = { s with out := t.out, hap := { s.hap with queue := t.hap.queue, sessions := t.hap.sessions, holds := t.hap.holds } } := by
  have hexec : exec (.hapClose r) s = .next (sessionClosed x r s) :=
    congrArg Host.Outcome.next (admitRequest_of_admits h (bareForm_of hbare) true _)
  have hframe : ∃ o q l, sendAnswer (some x) false (responseOf opClose r.addr r.count r (plain 0 s) s) (admitted x r s) =
      { s with out := o, hap := { s.hap with queue := q, sessions := l } } := ⟨_, _, _, rfl⟩
  refine ⟨_, hexec, ⟨rfl, _, rfl, rfl, rfl, rfl, rfl, rfl, rfl, rfl, rfl⟩, ?_, ?_⟩
  case refine_2 =>
    obtain ⟨o, q, l, hsent⟩ := hframe
    rw [sessionClosed, hsent]
    rfl
  refine filter_modSession x.ident (fun z => { z with idle := 0, lastSeq := r.reqSeq }) ?_ s.hap.sessions
  intro z
  rfl

/-! ## Holds (R381) -/

/-- A session takes a hold. -/
def holdTaken (x : Session) (i : Nat) (s : State) : State := modSession x.ident (fun z => { z with holds := insertNat i z.holds }) s

theorem sessionOf_holdTaken {i : Nat} {y : Session} (h : sessionOf x.ident s = some y) :
    sessionOf x.ident (holdTaken x i s) = some { y with holds := insertNat i y.holds } := by
  refine sessionOf_modSession ?_ h
  intro z
  rfl

/-- A hold added. -/
def holdAdded (h : Hold) (s : State) : State := modHap (fun p => { p with holds := p.holds ++ [h] }) s

variable {sn : Snapshot} (hbare : r.count = 0 ∧ r.repeated = false) (h : admits opHold r.addr r.count [] x r s) (hsnap : s.hap.snap = some sn)
include hbare h hsnap

/-- A hold on an epoch that has none. -/
theorem snapHold_of_free {i : Nat} (hnone : s.hap.holds.find? (·.snap.epoch == sn.epoch) = none) (hfree : freeHold s = some i) :
    ∃ t, exec (.snapHold r) s = .next t ∧ answers 5 r.addr 0 [] r s t ∧
      t.hap.holds = s.hap.holds ++ [{ ident := i, snap := sn, age := s.ex.epoch - sn.epoch }] ∧ (∃ y, sessionOf x.ident t = some y ∧ i ∈ y.holds) ∧
      t = { s with out := t.out, hap := { s.hap with queue := t.hap.queue, sessions := t.hap.sessions, holds := t.hap.holds } } := by
  have hexec : exec (.snapHold r) s = .next (answeredAt opHold r.addr r.count x r { detail := i, epoch := sn.epoch }
      (holdTaken x i (holdAdded { ident := i, snap := sn, age := s.ex.epoch - sn.epoch } (admitted x r s)))) := by
    refine congrArg Host.Outcome.next ((admitRequest_of_admits h (bareForm_of hbare) true _).trans (runRequest_of_acts ?_))
    dsimp only
    rw [show (admitted x r s).hap.snap = some sn from hsnap]
    dsimp only
    rw [show (admitted x r s).hap.holds.find? (·.snap.epoch == sn.epoch) = none from hnone, show freeHold (admitted x r s) = some i from hfree]
    rfl
  have hadmitted : sessionOf x.ident (holdAdded { ident := i, snap := sn, age := s.ex.epoch - sn.epoch } (admitted x r s)) =
      some { x with idle := 0, lastSeq := r.reqSeq } := sessionOf_admitted (session_of_admits h)
  exact ⟨_, hexec, answeredAt_answers ⟨rfl⟩ rfl, rfl, ⟨_, answeredAt_session (sessionOf_holdTaken hadmitted), (mem_insertNat _ _ _).mpr (Or.inl rfl)⟩,
    answeredAt_frame ⟨rfl⟩⟩

/-- A hold on an epoch that has one is shared. -/
theorem snapHold_of_shared {o : Hold} (hfind : s.hap.holds.find? (·.snap.epoch == sn.epoch) = some o) :
    ∃ t, exec (.snapHold r) s = .next t ∧ answers 5 r.addr 0 [] r s t ∧ t.hap.holds = s.hap.holds ∧
      (∃ y, sessionOf x.ident t = some y ∧ o.ident ∈ y.holds) := by
  have hexec : exec (.snapHold r) s = .next (answeredAt opHold r.addr r.count x r { detail := o.ident, epoch := sn.epoch }
      (holdTaken x o.ident (admitted x r s))) := by
    refine congrArg Host.Outcome.next ((admitRequest_of_admits h (bareForm_of hbare) true _).trans (runRequest_of_acts ?_))
    dsimp only
    rw [show (admitted x r s).hap.snap = some sn from hsnap]
    dsimp only
    rw [show (admitted x r s).hap.holds.find? (·.snap.epoch == sn.epoch) = some o from hfind]
    rfl
  exact ⟨_, hexec, answeredAt_answers ⟨rfl⟩ rfl, rfl, _,
    answeredAt_session (sessionOf_holdTaken (sessionOf_admitted (session_of_admits h))), (mem_insertNat _ _ _).mpr (Or.inl rfl)⟩

/-- With four holds on other epochs none is given. -/
theorem snapHold_of_full (hnone : s.hap.holds.find? (·.snap.epoch == sn.epoch) = none) (hfull : freeHold s = none) :
    ∃ t, exec (.snapHold r) s = .next t ∧ answers 5 r.addr 0xB [] r s t ∧ t.hap.holds = s.hap.holds := by
  have hexec : exec (.snapHold r) s = .next (answeredAt opHold r.addr r.count x r (plain 0x0B s) (admitted x r s)) := by
    refine congrArg Host.Outcome.next ((admitRequest_of_admits h (bareForm_of hbare) true _).trans (runRequest_of_acts ?_))
    dsimp only
    rw [show (admitted x r s).hap.snap = some sn from hsnap]
    dsimp only
    rw [show (admitted x r s).hap.holds.find? (·.snap.epoch == sn.epoch) = none from hnone, show freeHold (admitted x r s) = none from hfull]
    rfl
  exact ⟨_, hexec, answeredAt_answers ⟨rfl⟩ rfl, rfl⟩

end

section
variable {x : Session} {r : HapReq} {s : State} (hbare : r.count = 0 ∧ r.repeated = false) (h : admits opRelease r.addr r.count [] x r s)
include hbare h

/-- The hold released. -/
def holdReleased (x : Session) (r : HapReq) (s : State) : State :=
  modSession x.ident (fun z => { z with holds := z.holds.filter (· != r.holdId) }) s

theorem snapRelease_of_held (hheld : r.holdId ∈ x.holds) : ∃ t, exec (.snapRelease r) s = .next t ∧ answers 6 r.addr 0 [] r s t ∧
    (∃ y, sessionOf x.ident t = some y ∧ y.holds = x.holds.filter (· != r.holdId)) ∧
    t = { s with out := t.out, hap := { s.hap with queue := t.hap.queue, sessions := t.hap.sessions, holds := t.hap.holds } } := by
  have hexec : exec (.snapRelease r) s =
      .next (answeredAt opRelease r.addr r.count x r (plain 0 s) (dropHolds (holdReleased x r (admitted x r s)))) := by
    refine congrArg Host.Outcome.next ((admitRequest_of_admits h (bareForm_of hbare) true _).trans (runRequest_of_acts ?_))
    exact if_pos (List.contains_iff_mem.mpr hheld)
  refine ⟨_, hexec, answeredAt_answers ⟨rfl⟩ rfl, ⟨_, answeredAt_session (sessionOf_modSession (s := admitted x r s) ?_ (sessionOf_admitted (session_of_admits h))), rfl⟩,
    answeredAt_frame ⟨rfl⟩⟩
  intro z
  rfl

theorem snapRelease_of_not_held (hheld : r.holdId ∉ x.holds) :
    ∃ t, exec (.snapRelease r) s = .next t ∧ answers 6 r.addr 0xB [] r s t ∧ t.hap.holds = s.hap.holds := by
  have hexec : exec (.snapRelease r) s = .next (answeredAt opRelease r.addr r.count x r (plain 0x0B s) (admitted x r s)) := by
    refine congrArg Host.Outcome.next ((admitRequest_of_admits h (bareForm_of hbare) true _).trans (runRequest_of_acts ?_))
    exact if_neg (by simpa using hheld)
  exact ⟨_, hexec, answeredAt_answers ⟨rfl⟩ rfl, rfl⟩

end

/-- A hold ends at its age of 200 epochs. -/
theorem snapshotHoldExpiry_spec (s : State) : ∃ t, exec .snapshotHoldExpiry s = .next t ∧ (∀ h ∈ t.hap.holds, h ∈ s.hap.holds ∧ h.age < 200) ∧
    ((∀ h ∈ s.hap.holds, h.age < 200) → t = s) ∧ t = { s with hap := { s.hap with sessions := t.hap.sessions, holds := t.hap.holds } } := by
  refine ⟨_, rfl, ?_, ?_, rfl⟩
  · intro h hmem
    obtain ⟨hmem, hkept⟩ := List.mem_filter.mp hmem
    refine ⟨hmem, Nat.lt_of_not_le fun hold => ?_⟩
    have hgone : h.ident ∈ (s.hap.holds.filter fun h => decide (200 ≤ h.age)).map (·.ident) :=
      List.mem_map.mpr ⟨h, List.mem_filter.mpr ⟨hmem, decide_eq_true hold⟩, rfl⟩
    rw [List.contains_iff_mem.mpr hgone] at hkept
    cases hkept
  · intro hyoung
    have hgone : (s.hap.holds.filter fun h => decide (200 ≤ h.age)) = [] := by
      refine List.filter_eq_nil_iff.mpr fun h hmem => ?_
      have := hyoung h hmem
      simp only [decide_eq_true_eq]
      omega
    simp [modHap, hgone]

/-! ## Notifications (R386, R387) -/

theorem notifyAck_of_admits {x : Session} {r : HapReq} {s : State} {n : Nat} (hbare : r.count = 0 ∧ r.repeated = false)
    (h : admits opAck n r.count [] x r s) : ∃ t y, exec (.notifyAck r n) s = .next t ∧ answers 8 n 0 [] r s t ∧ sessionOf x.ident t = some y ∧
      y.notes = x.notes.filter (fun m => decide (n < m.nseq)) ∧
      t = { s with out := t.out, hap := { s.hap with queue := t.hap.queue, sessions := t.hap.sessions } } := by
  have hexec : exec (.notifyAck r n) s = .next (answeredAt opAck n r.count x r (plain 0 s)
      (modSession x.ident (fun z => { z with notes := z.notes.filter fun m => decide (n < m.nseq) }) (admitted x r s))) :=
    congrArg Host.Outcome.next ((admitRequest_of_admits h (bareForm_of hbare) true _).trans (runRequest_of_acts rfl))
  refine ⟨_, _, hexec, answeredAt_answers ⟨rfl⟩ rfl,
    answeredAt_session (sessionOf_modSession ?_ (sessionOf_admitted (session_of_admits h))), rfl, answeredAt_frame ⟨rfl⟩⟩
  intro z
  rfl

section
variable {slot : Nat} {x : Session} {n : Notification} {s : State} (hslot : s.hap.sessions.find? (·.slot == slot) = some x) (hnotes : x.notes = [n])
  (hfind : sessionOf x.ident s = some x) (hopen : x.closing = false) (hage : 200 ≤ n.age)
include hslot hnotes hfind hopen hage

theorem notificationResend_of_few (hfew : n.sends < 6) : ∃ (t : State) (y : Session) (p : Response), exec (.notificationResend slot) s = .next t ∧
    t.out = sentBy s (.response p) :: s.out ∧ p.op = 0x10 ∧ p.session = x.ident ∧ p.reqSeq = n.nseq ∧ p.snapEpoch = n.epoch ∧
    p.data = n.words ∧ p.port = x.port ∧ p.dest = x.peer ∧ sessionOf x.ident t = some y ∧ y.notes = [{ n with sends := n.sends + 1, age := 0 }] ∧
    t = { s with out := t.out, hap := { s.hap with sessions := t.hap.sessions } } := by
  have hexec : exec (.notificationResend slot) s = .next (sendNotice x n (modSession x.ident (fun z => { z with notes := z.notes.map fun m =>
        if m.nseq = n.nseq then { m with sends := m.sends + 1, age := 0 } else m }) s)) := by
    refine congrArg Host.Outcome.next ?_
    rw [hslot]
    dsimp only
    rw [hnotes, List.foldl_cons, List.foldl_nil]
    unfold resendNotice
    rw [hfind]
    exact (if_neg (by simp [hopen, hage])).trans (if_pos hfew)
  refine ⟨_, _, _, hexec, rfl, rfl, rfl, rfl, rfl, rfl, rfl, rfl, sessionOf_modSession ?_ hfind, ?_, rfl⟩
  · intro z
    rfl
  · simp [hnotes]

theorem notificationResend_of_last (hlast : 6 ≤ n.sends) : ∃ t y, exec (.notificationResend slot) s = .next t ∧ sessionOf x.ident t = some y ∧
    y.notes = [] ∧ t.hap.notifyLost = min (s.hap.notifyLost + 1) 255 ∧ eventActive 59 t = true ∧ t.out = s.out := by
  have hexec : exec (.notificationResend slot) s =
      .next (loseNotice (modSession x.ident (fun z => { z with notes := z.notes.filter (·.nseq != n.nseq) }) s)) := by
    refine congrArg Host.Outcome.next ?_
    rw [hslot]
    dsimp only
    rw [hnotes, List.foldl_cons, List.foldl_nil]
    unfold resendNotice
    rw [hfind]
    exact (if_neg (by simp [hopen, hage])).trans (if_neg (Nat.not_lt.mpr hlast))
  have hraised : Raised 59 (modHap (fun h => { h with notifyLost := bump 8 h.notifyLost })
      (modSession x.ident (fun z => { z with notes := z.notes.filter (·.nseq != n.nseq) }) s))
      (loseNotice (modSession x.ident (fun z => { z with notes := z.notes.filter (·.nseq != n.nseq) }) s)) := raised_raise _ _
  generalize loseNotice _ = t at hexec hraised
  have hsess : sessionOf x.ident (modSession x.ident (fun z => { z with notes := z.notes.filter (·.nseq != n.nseq) }) s) =
      some { x with notes := x.notes.filter (·.nseq != n.nseq) } := by
    refine sessionOf_modSession ?_ hfind
    intro z
    rfl
  refine ⟨t, { x with notes := x.notes.filter (·.nseq != n.nseq) }, hexec, ?_, ?_, ?_, hraised.active, ?_⟩
  · rw [hraised.eq]
    exact hsess
  · simp [hnotes]
  · rw [hraised.eq]
    exact bump_eight _
  · rw [hraised.eq]
    rfl

end

/-! ## The statement -/

/-- The response to OPEN, as the statement reads it. -/
theorem openAnswered_replies {s u : State} (h : HapOnly s u) (r : HapReq) (p : Answer) (key : Option (List Byte)) (id : Nat) :
    ∃ q : Response, (openAnswered r p key id u).out = sentBy s (.response q) :: s.out ∧ q.op = 0x83 ∧ q.status = p.status ∧ q.addr = r.addr ∧
      q.reqSeq = r.reqSeq ∧ q.port = r.port ∧ q.dest = r.source ∧ q.session = id ∧ q.data = (if p.status = 0 then p.data else []) ∧
      (key = none → q.mac = []) := by
  refine ⟨_, openAnswered_out h r p key id, ?_⟩
  obtain ⟨hop, hstatus, haddr, hseq, hport, hdest, hsession, hdata⟩ := authenticate_fields key { responseOf opOpen r.addr r.count r p s with session := id }
  refine ⟨hop, hstatus, haddr, hseq, hport, hdest, hsession, hdata, fun hkey => ?_⟩
  rw [hkey]
  rfl

section
variable {r : HapReq} {s : State} {slot : Nat} {nt : Bool} {cn sn w : List Byte} {id : Nat} (hreach : reaches r s = true) (hslot : slot < 8)
  (hkey : s.hap.keys.getD slot none = some w) (hmac : r.mac = requestMac w opOpen r.addr r.count (openBody slot nt cn) r)
include hreach hslot hkey hmac

theorem hapOpen_opens (hroom : waiting r s < 32) (hgood : formGood opOpen (openBody slot nt cn) r = true) (hbare : r.count = 0 ∧ r.repeated = false) :
    ∃ (t : State) (x : Session) (p : Response), exec (.hapOpen r slot nt cn sn id) s = .next t ∧ x.slot = slot ∧ x.notify = nt ∧
      x.ident ≠ 0 ∧ x.key = sessionKey w cn sn x.ident ∧ x.lastSeq = 0 ∧ x.notes = [] ∧ x.holds = [] ∧ x.peer = r.source ∧
      (s.hap.sessions.find? (·.slot == slot) = none → t.hap.sessions = s.hap.sessions ++ [x]) ∧
      (∀ o, s.hap.sessions.find? (·.slot == slot) = some o → t.hap.sessions = s.hap.sessions.filter (·.ident != o.ident) ++ [x]) ∧
      (t.out = sentBy s (.response p) :: s.out ∧ p.op = 0x83 ∧ p.status = 0 ∧ p.addr = r.addr ∧ p.reqSeq = r.reqSeq ∧ p.port = r.port ∧
        p.dest = r.source) ∧ p.session = x.ident ∧ p.data = bytesWords sn ∧ t.hap.queue = s.hap.queue - r.served + 1 ∧
      t = { s with out := t.out, hap := { s.hap with queue := t.hap.queue, sessions := t.hap.sessions, holds := t.hap.holds } } := by
  obtain ⟨x, u, hexec, hx, hu⟩ := hapOpen_of_good (sn := sn) (id := id) hreach hslot hkey hmac hroom (by rw [hgood, bareForm_of hbare]; rfl)
  obtain ⟨l, m, hclear, hnone, hsome⟩ := slotCleared_hap slot (enqueue r s)
  have hident : x.ident ≠ 0 := hx ▸ freshIdent_ne_zero _ _
  have hu' : u = { s with hap := { s.hap with queue := s.hap.queue - r.served + 1, sessions := l ++ [x], holds := m } } := by
    rw [hu, hclear]
    rfl
  have honly : HapOnly s u := ⟨by rw [hu']⟩
  obtain ⟨q, hout, hop, hstatus, haddr, hseq, hport, hdest, hsession, hdata, -⟩ :=
    openAnswered_replies honly r { epoch := snapEpoch u, data := bytesWords sn } (some w) x.ident
  have hframe := openAnswered_frame honly r { epoch := snapEpoch u, data := bytesWords sn } (some w) x.ident
  have hhap : (openAnswered r { epoch := snapEpoch u, data := bytesWords sn } (some w) x.ident u).hap =
      { s.hap with queue := s.hap.queue - r.served + 1, sessions := l ++ [x], holds := m } := by
    rw [hframe, hu']
  generalize openAnswered r { epoch := snapEpoch u, data := bytesWords sn } (some w) x.ident u = t at *
  have hkeyOf : x.key = sessionKey w cn sn x.ident := by rw [hx]; rfl
  obtain ⟨hxslot, hnotify, hlast, hnotes, hholds, hpeer⟩ : x.slot = slot ∧ x.notify = nt ∧ x.lastSeq = 0 ∧ x.notes = [] ∧ x.holds = [] ∧
      x.peer = r.source := by
    rw [hx]
    exact ⟨rfl, rfl, rfl, rfl, rfl, rfl⟩
  refine ⟨t, x, q, hexec, hxslot, hnotify, hident, hkeyOf, hlast, hnotes, hholds, hpeer, ?_, ?_, ⟨hout, hop, hstatus, haddr, hseq, hport, hdest⟩,
    hsession, hdata, by rw [hhap], ?_⟩
  · intro h
    rw [hhap, ← show l = s.hap.sessions from hnone h]
  · intro o h
    rw [hhap, ← show l = s.hap.sessions.filter (·.ident != o.ident) from hsome o h]
  · rw [hhap]
    rw [hframe, hu']

theorem hapOpen_full (hfull : 32 ≤ waiting r s) : ∃ t p, exec (.hapOpen r slot nt cn sn id) s = .next t ∧
    (t.out = sentBy s (.response p) :: s.out ∧ p.op = 0x83 ∧ p.status = 0xC ∧ p.addr = r.addr ∧ p.reqSeq = r.reqSeq ∧ p.port = r.port ∧
      p.dest = r.source) ∧
    t = { s with out := t.out, hap := { s.hap with queue := s.hap.queue - r.served, busy := min (s.hap.busy + 1) 255 } } := by
  have honly : HapOnly s (modHap (fun h => { h with busy := bump 8 h.busy, queue := waiting r s }) s) := ⟨rfl⟩
  obtain ⟨q, hout, hop, hstatus, haddr, hseq, hport, hdest, -⟩ := openAnswered_replies honly r
    (plain 0x0C (modHap (fun h => { h with busy := bump 8 h.busy, queue := waiting r s }) s)) (some w) r.session
  exact ⟨_, q, hapOpen_of_full hreach hslot hkey hmac hfull, ⟨hout, hop, hstatus, haddr, hseq, hport, hdest⟩, openAnswered_frame honly ..⟩

theorem hapOpen_bad_form (hroom : waiting r s < 32)
    (hbad : formGood opOpen (openBody slot nt cn) r = false ∨ ¬ (r.count = 0 ∧ r.repeated = false)) : ∃ t p, exec (.hapOpen r slot nt cn sn id) s = .next t ∧
    (t.out = sentBy s (.response p) :: s.out ∧ p.op = 0x83 ∧ p.status = 1 ∧ p.addr = r.addr ∧ p.reqSeq = r.reqSeq ∧ p.port = r.port ∧
      p.dest = r.source) ∧ t = { s with out := t.out, hap := { s.hap with queue := s.hap.queue - r.served + 1 } } := by
  have hform : (formGood opOpen (openBody slot nt cn) r && bareForm r) = false := by
    rcases hbad with hgood | hbare
    · rw [hgood, Bool.false_and]
    · rw [bareForm_of_not hbare, Bool.and_false]
  have honly : HapOnly s (enqueue r s) := ⟨rfl⟩
  obtain ⟨q, hout, hop, hstatus, haddr, hseq, hport, hdest, -⟩ := openAnswered_replies honly r (plain 1 (enqueue r s)) (some w) r.session
  exact ⟨_, q, hapOpen_of_bad_form hreach hslot hkey hmac hroom hform, ⟨hout, hop, hstatus, haddr, hseq, hport, hdest⟩, openAnswered_frame honly ..⟩

end

theorem hapOpen_no_key {r : HapReq} {s : State} {slot : Nat} {nt : Bool} {cn sn : List Byte} {id : Nat} (hreach : reaches r s = true)
    (hroom : waiting r s < 32) (hgood : formGood opOpen (openBody slot nt cn) r = true) (hbare : r.count = 0 ∧ r.repeated = false)
    (hnone : 8 ≤ slot ∨ s.hap.keys.getD slot none = none) : ∃ (t : State) (p : Response), exec (.hapOpen r slot nt cn sn id) s = .next t ∧
      t.out = sentBy s (.response p) :: s.out ∧ p.op = 0x83 ∧ p.status = 4 ∧ p.data = [] ∧ p.mac = [] ∧
      t = { s with out := t.out, hap := { s.hap with queue := s.hap.queue - r.served + 1 } } := by
  have honly : HapOnly s (enqueue r s) := ⟨rfl⟩
  obtain ⟨q, hout, hop, hstatus, -, -, -, -, -, hdata, hmac⟩ := openAnswered_replies honly r (plain 4 (enqueue r s)) none r.session
  exact ⟨_, q, hapOpen_of_no_key hreach hnone hroom (by rw [hgood, bareForm_of hbare]; rfl), hout, hop, hstatus, hdata, hmac rfl,
    openAnswered_frame honly ..⟩

/-- Settles O48: OPEN by its key, MAC, queue and form; the tests of a request by those of KEEPALIVE; and each operation once admitted. -/
theorem sessionsOpenActAndEnd : Obligations.SessionsOpenActAndEnd := by
  intro r s bare
  refine ⟨?_, ?_, ?_, ?_, ?_, ?_, ?_, snapshotHoldExpiry_spec s⟩
  · intro slot nt cn sn w id hreach hslot hkey mac reply
    exact ⟨fun hmac => hapOpen_opens hreach hslot hkey hmac, fun hmac => hapOpen_full hreach hslot hkey hmac,
      fun hmac => hapOpen_bad_form hreach hslot hkey hmac, fun hmac => ⟨_, hapOpen_of_bad_mac hreach hslot hkey hmac, raised_raise _ _⟩⟩
  · intro slot nt cn sn id hreach hroom hgood hbare hnone
    exact hapOpen_no_key hreach hroom hgood hbare hnone
  · intro hunreached
    exact ⟨congrArg Host.Outcome.next (if_pos (by rw [hunreached]; rfl)), fun slot nt cn sn id => hapOpen_of_unreached hunreached⟩
  · intro x hreach hne hfind hident
    exact keepalive_tests hreach hne hfind hident
  · intro x
    exact ⟨keepalive_of_admits, close_of_admits,
      fun sn hbare h hsnap => ⟨fun i => snapHold_of_free hbare h hsnap, fun o => snapHold_of_shared hbare h hsnap, snapHold_of_full hbare h hsnap⟩,
      snapRelease_of_held, snapRelease_of_not_held, fun n => notifyAck_of_admits⟩
  · intro x hbare h
    exact keepalive_of_bad_form hbare h
  · intro slot x hslot
    refine ⟨fun hidle => ⟨endSession x.ident s, ?_, rfl, rfl⟩, fun n hnotes hfind hopen hage =>
      ⟨notificationResend_of_few hslot hnotes hfind hopen hage, notificationResend_of_last hslot hnotes hfind hopen hage⟩⟩
    refine congrArg Host.Outcome.next ?_
    rw [hslot]
    exact if_pos hidle

end Sys2Proof.Machine
end

section
/-! Reads and writes over HAP: registers, the bulk window, operator commands and unit-local writes (R373, R379, R382, R383, R385, R388 to R390). -/

namespace Sys2Proof.Machine

/-! ## What an admitted request sees -/

section
variable {op addr count : Nat} {x : Session} {r : HapReq} {a : Answer} {s u : State}

theorem rangeOk_admitted (x : Session) (r : HapReq) (a n : Nat) (s : State) : rangeOk a n (admitted x r s) = rangeOk a n s := by
  rw [admitted, modSession, enqueue, rangeOk_modHap, rangeOk_modHap]

theorem localVerdict_admitted (x : Session) (r : HapReq) (a : Nat) (ws : List Word) (s : State) :
    localVerdict a ws (admitted x r s) = localVerdict a ws s := rfl

theorem ingressRefusal_admitted (x : Session) (r : HapReq) (rs : List (Nat × Word)) (s : State) :
    ingressRefusal rs (admitted x r s) = ingressRefusal rs s := rfl

/-- A request that awaits its answer gets none now. -/
theorem runRequest_of_silent {act : Option Session → State → Option Answer × State} (h : act (some x) s = (none, u)) :
    runRequest op addr count r act (some x) s = u := by
  unfold runRequest
  rw [h]

/-- Where only the host access state, the dump's read marks and the staging area changed. -/
structure WindowOnly (s t : State) : Prop where
  eq : t = { s with hap := t.hap, dmp := t.dmp, upd := t.upd }

theorem answeredAt_replies (h : WindowOnly s u) (hqueue : u.hap.queue = s.hap.queue - r.served + 1) :
    answers op addr a.status (if a.status = 0 then a.data else []) r s (answeredAt op addr count x r a u) := by
  obtain ⟨p, d, w, rfl⟩ : ∃ p d w, u = { s with hap := p, dmp := d, upd := w } := ⟨_, _, _, h.eq⟩
  exact ⟨hqueue, _, rfl, rfl, rfl, rfl, rfl, rfl, rfl, rfl, rfl⟩

/-- An answer changes the frames, and the session alone. -/
theorem answeredAt_window (h : WindowOnly s u) : answeredAt op addr count x r a u =
    { s with out := (answeredAt op addr count x r a u).out, dmp := u.dmp, upd := u.upd
             hap := { u.hap with sessions := (answeredAt op addr count x r a u).hap.sessions } } := by
  obtain ⟨p, d, w, rfl⟩ : ∃ p d w, u = { s with hap := p, dmp := d, upd := w } := ⟨_, _, _, h.eq⟩
  rfl

theorem answeredAt_fields (h : WindowOnly s u) : (answeredAt op addr count x r a u).upd = u.upd ∧ (answeredAt op addr count x r a u).dmp = u.dmp ∧
    (answeredAt op addr count x r a u).log = s.log ∧ (answeredAt op addr count x r a u).pnl = s.pnl := by
  obtain ⟨p, d, w, rfl⟩ : ∃ p d w, u = { s with hap := p, dmp := d, upd := w } := ⟨_, _, _, h.eq⟩
  exact ⟨rfl, rfl, rfl, rfl⟩

/-- The words of an answer of status 0. -/
theorem answeredAt_words {ws : List Word} (h : HapOnly s u) (hqueue : u.hap.queue = s.hap.queue - r.served + 1) (hstatus : a.status = 0) (hdata : a.data = ws) :
    answers op addr 0 ws r s (answeredAt op addr count x r a u) := by
  have hans := answeredAt_answers (op := op) (addr := addr) (count := count) (x := x) (a := a) h hqueue
  rw [hstatus, if_pos rfl, hdata] at hans
  exact hans

end

/-! ## READ (R379) -/

section
variable {x : Session} {r : HapReq} {addr n : Nat} {s : State} (h : admits opRead addr n [] x r s) (hpos : 1 ≤ n) (hmax : n ≤ 256)
  (honce : r.repeated = false)
include h hpos hmax honce

/-- A READ of registers is served whole from one snapshot. -/
theorem readRequest_of_registers (hheld : r.held = false) (hrange : rangeOk addr n s = true) (hbulk : bulkAddr addr = false) :
    readRequest r addr n s = answered opRead addr n x r
      { epoch := (servedSnapshot addr s).epoch, data := snapWords (servedSnapshot addr s) addr n } s := by
  have hform : (decide (1 ≤ n) && decide (n ≤ 256) && (!r.repeated || addr == 0xF00008)) = true := by simp [hpos, hmax, honce]
  unfold readRequest
  rw [admitRequest_of_admits h hform]
  apply runRequest_of_answer
  simp only [honce, rangeOk_admitted, hrange, hbulk, hheld, Bool.false_eq_true, if_false, Bool.not_true]
  rfl

/-- A range that is not whole is refused. -/
theorem readRequest_of_no_range (hrange : rangeOk addr n s = false) : readRequest r addr n s = answered opRead addr n x r (plain 2 s) s := by
  have hform : (decide (1 ≤ n) && decide (n ≤ 256) && (!r.repeated || addr == 0xF00008)) = true := by simp [hpos, hmax, honce]
  unfold readRequest
  rw [admitRequest_of_admits h hform]
  apply runRequest_of_answer
  simp only [honce, rangeOk_admitted, hrange, Bool.false_eq_true, if_false, Bool.not_false, if_true]
  rfl

end

/-! ## The bulk window read (R389, R390) -/

/-- One register of a READ of the bulk window. -/
def windowStep (sel at' : Nat) (f : Nat → Word) (s : State) (acc : List Word × Nat) (a : Nat) : List Word × Nat :=
  if a = 0xF00008 then (objectWord sel (at' + acc.2) s :: acc.1, acc.2 + 1) else (f a :: acc.1, acc.2)

/-- Each BLK_DATA takes the next word of the object. -/
theorem foldl_windowStep (sel at' : Nat) (f : Nat → Word) (s : State) (n : Nat) : ∀ acc : List Word × Nat,
    ((List.replicate n 0xF00008).foldl (windowStep sel at' f s) acc).1.reverse =
      acc.1.reverse ++ (List.range n).map fun i => objectWord sel (at' + acc.2 + i) s := by
  induction n with
  | zero => intro acc; simp
  | succ n ih =>
    intro acc
    rw [List.replicate_succ, List.foldl_cons, ih, List.range_succ_eq_map]
    simp only [windowStep, if_true, List.reverse_cons, List.append_assoc, List.map_cons, List.map_map, List.singleton_append, Nat.add_zero]
    refine congrArg (acc.1.reverse ++ ·) (congrArg (_ :: ·) (List.map_congr_left fun i _ => ?_))
    simp only [Function.comp, Nat.succ_eq_add_one]
    congr 1
    omega

/-- The words read of an object, with the dump's marks and the session's address moved on. -/
def wordsRead (x : Session) (n : Nat) (s : State) : State :=
  modSession x.ident (fun z => { z with blkAddr := x.blkAddr + n }) (noteDumpRead x.blkSel x.blkAddr n s)

/-- A repeated READ of BLK_DATA inside the object. -/
theorem readBulk_of_repeat {r : HapReq} {x : Session} {snap : Snapshot} {n : Nat} {s : State} (hrepeat : r.repeated = true) (hpos : 1 ≤ n)
    (hsize : x.blkAddr + n ≤ objectSize x.blkSel s) : readBulk r (some x) snap 0xF00008 n s =
      ({ epoch := snap.epoch, data := (List.range n).map fun i => objectWord x.blkSel (x.blkAddr + i) s }, wordsRead x n s) := by
  have haddrs : ((List.range n).map fun i => if r.repeated then 0xF00008 else 0xF00008 + 4 * i) = List.replicate n 0xF00008 := by
    simp [hrepeat]
  have hcount : ((List.replicate n 0xF00008).filter (· == 0xF00008)).length = n := by simp
  have hwords := foldl_windowStep x.blkSel x.blkAddr (bulkReg (some x) (sizeIn snap)) s n ([], 0)
  rw [List.reverse_nil, List.nil_append] at hwords
  unfold readBulk
  simp only [haddrs, hcount]
  refine (if_neg (not_and_of_not_right _ (Nat.not_lt.mpr hsize))).trans (Prod.ext ?_ ?_)
  · exact congrArg (Answer.mk 0 0 snap.epoch) hwords
  · dsimp only
    rw [if_neg (Nat.ne_of_gt hpos), if_neg (Nat.ne_of_gt hpos)]
    rfl

section
variable {x : Session} {r : HapReq} {n : Nat} {s : State}

theorem blkDataRead_of_admits (h : admits opRead 0xF00008 n [] x r s) (hpos : 1 ≤ n) (hmax : n ≤ 256) (hrepeat : r.repeated = true)
    (hheld : r.held = false) (hsize : x.blkAddr + n ≤ objectSize x.blkSel s) : ∃ t y, exec (.blkDataRead r n) s = .next t ∧
      answers 1 0xF00008 0 ((List.range n).map fun i => objectWord x.blkSel (x.blkAddr + i) s) r s t ∧ sessionOf x.ident t = some y ∧
      y.blkAddr = x.blkAddr + n ∧ y.blkSel = x.blkSel ∧ t.upd = s.upd ∧ t.log = s.log ∧ t.dmp.mem = s.dmp.mem ∧ t.pnl = s.pnl ∧
      (x.blkSel ≠ 2 → t.dmp = s.dmp) := by
  have hform : (decide (1 ≤ n) && decide (n ≤ 256) && (!r.repeated || 0xF00008 == 0xF00008)) = true := by simp [hpos, hmax]
  have hexec : exec (.blkDataRead r n) s = .next (answeredAt opRead 0xF00008 n x r
      { epoch := (bulkSnapshot none (admitted x r s)).epoch, data := (List.range n).map fun i => objectWord x.blkSel (x.blkAddr + i) s }
      (wordsRead x n (admitted x r s))) := by
    refine congrArg Host.Outcome.next ((admitRequest_of_admits h hform false _).trans (runRequest_of_acts ?_))
    dsimp only
    rw [if_pos hrepeat, hheld, readBulk_of_repeat hrepeat hpos (s := admitted x r s) hsize]
    rfl
  generalize (bulkSnapshot none (admitted x r s)).epoch = e at hexec
  obtain ⟨u, hu, hwindow, hqueue, hsess, hupd, hmem, hdmp⟩ : ∃ u, u = wordsRead x n (admitted x r s) ∧ WindowOnly s u ∧
      u.hap.queue = s.hap.queue - r.served + 1 ∧ sessionOf x.ident u = some { x with idle := 0, lastSeq := r.reqSeq, blkAddr := x.blkAddr + n } ∧
      u.upd = s.upd ∧ u.dmp.mem = s.dmp.mem ∧ (x.blkSel ≠ 2 → u.dmp = s.dmp) := by
    refine ⟨_, rfl, ?_⟩
    have hsess : ∀ v, v.hap = (admitted x r s).hap → sessionOf x.ident (modSession x.ident (fun z => { z with blkAddr := x.blkAddr + n }) v) =
        some { x with idle := 0, lastSeq := r.reqSeq, blkAddr := x.blkAddr + n } := by
      intro v hv
      refine sessionOf_modSession (x := { x with idle := 0, lastSeq := r.reqSeq }) ?_ ?_
      · intro z
        rfl
      · rw [sessionOf, hv]
        exact sessionOf_admitted (session_of_admits h)
    unfold wordsRead noteDumpRead
    split
    · rename_i hsel
      exact ⟨⟨rfl⟩, rfl, hsess _ rfl, rfl, rfl, fun h => absurd hsel h⟩
    · exact ⟨⟨rfl⟩, rfl, hsess _ rfl, rfl, rfl, fun _ => rfl⟩
  rw [← hu] at hexec
  have hans := answeredAt_replies (op := opRead) (addr := 0xF00008) (count := n) (x := x) (r := r)
    (a := { epoch := e, data := (List.range n).map fun i => objectWord x.blkSel (x.blkAddr + i) s }) hwindow hqueue
  obtain ⟨hupd', hdmp', hlog, hpnl⟩ := answeredAt_fields (op := opRead) (addr := 0xF00008) (count := n) (x := x) (r := r)
    (a := { epoch := e, data := (List.range n).map fun i => objectWord x.blkSel (x.blkAddr + i) s }) hwindow
  exact ⟨_, _, hexec, hans, answeredAt_session hsess, rfl, rfl, hupd'.trans hupd, hlog, hdmp' ▸ hmem, hpnl, fun hsel => hdmp'.trans (hdmp hsel)⟩

end

/-! ## The bulk window written (R388, R389) -/

theorem bulkStep_data {b : BulkWrite} (h : b.status = 0) (w : Word) : bulkStep b (0xF00008, w) =
    { b with start := if b.words.isEmpty then b.addr else b.start, words := b.words ++ [w], addr := b.addr + 1 } := by
  unfold bulkStep
  rw [h]
  rfl

theorem foldl_bulkStep_of_begun (ws : List Word) : ∀ b : BulkWrite, b.status = 0 → b.words ≠ [] →
    (ws.map fun w => (0xF00008, w)).foldl bulkStep b = { b with words := b.words ++ ws, addr := b.addr + ws.length } := by
  induction ws with
  | nil => intro b _ _; simp
  | cons w ws ih =>
    intro b hstatus hne
    have hempty : b.words.isEmpty = false := by simpa using hne
    have hne' : b.words ++ [w] ≠ [] := by simp
    rw [List.map_cons, List.foldl_cons, bulkStep_data hstatus, hempty]
    refine (ih { b with start := b.start, words := b.words ++ [w], addr := b.addr + 1 } hstatus hne').trans ?_
    simp [Nat.add_assoc, Nat.add_comm 1]

/-- What a repeated write of BLK_DATA comes to. -/
theorem foldl_bulkStep {ws : List Word} (hne : ws ≠ []) (sel addr : Nat) :
    (ws.map fun w => (0xF00008, w)).foldl bulkStep { sel, addr } = { sel, addr := addr + ws.length, start := addr, words := ws } := by
  cases ws with
  | nil => exact absurd rfl hne
  | cons w ws =>
    rw [List.map_cons, List.foldl_cons, bulkStep_data rfl]
    refine (foldl_bulkStep_of_begun ws _ rfl (by simp)).trans ?_
    simp [Nat.add_assoc, Nat.add_comm 1]

/-- The session's selection after a write of the bulk window. -/
def windowMoved (x : Session) (sel addr : Nat) (s : State) : State := modSession x.ident (fun z => { z with blkSel := sel, blkAddr := addr }) s

/-- The words written to staging. -/
def stagingWritten (a : Nat) (ws : List Word) (s : State) : State :=
  { s with upd := { s.upd with staging := memWrites 0xFF (4 * a) (ws.map wordBytes).flatten s.upd.staging } }

theorem writeBulk_of_data {r : HapReq} {x : Session} {ws : List Word} {s : State} (hrepeat : r.repeated = true) (hne : ws ≠ [])
    (hsel : x.blkSel = 4) (hwritable : stagingWritable x s = true) (hsize : x.blkAddr + ws.length ≤ objectSize 4 s) :
    writeBulk r x 0xF00008 ws s = (plain 0 s, stagingWritten x.blkAddr ws (windowMoved x 4 (x.blkAddr + ws.length) s)) := by
  have hempty : ws.isEmpty = false := by simpa using hne
  unfold writeBulk
  dsimp only
  rw [if_pos hrepeat, hsel, foldl_bulkStep hne]
  dsimp only
  rw [hwritable, hempty, decide_eq_true hsize, if_neg (by decide), if_neg (by decide), if_neg (by decide)]
  rfl

/-- One of the window's own registers written. -/
theorem writeBulk_of_window {r : HapReq} {x : Session} {addr : Nat} {v : Word} {sel a : Nat} {s : State} (honce : r.repeated = false)
    (hstep : bulkStep { sel := x.blkSel, addr := x.blkAddr } (addr, v) = { sel, addr := a }) :
    writeBulk r x addr [v] s = (plain 0 s, windowMoved x sel a s) := by
  have hregs : regsOf addr [v] = [(addr, v)] := rfl
  unfold writeBulk
  dsimp only
  simp only [honce, Bool.false_eq_true, if_false, hregs, List.foldl_cons, List.foldl_nil, hstep]
  rfl

/-! ## WRITE (R373, R382, R385, R388) -/

/-- What a WRITE does once admitted. -/
def writeAct (r : HapReq) (addr : Nat) (words : List Word) (x : Session) (s : State) : Option Answer × State :=
  let n := words.length
  let rs := if r.repeated then [(addr, (0 : Word))] else regsOf addr words
  if !(r.repeated || rangeOk addr n s) then (some (plain 2 s), s)
  else if !rs.all (fun w => writable w.1) then (some (plain 3 s), s)
  else if s.um.mode = .selftest then (some (plain 7 s), s)
  else if isWo addr then (let a := writeBulk r x addr words s; (some { a.1 with data := if a.1.status = 0 then words else [] }, a.2))
  else if 22 < n then (some (plain 1 s), s)
  else if isLocal addr then (let a := ingestLocal x addr words s; (some a.1, a.2))
  else match ingressRefusal rs s with
    | some v => (some { status := v.1, detail := v.2, epoch := snapEpoch s }, s)
    | none => (none, ingestCommand r x addr words s)

section
variable {x : Session} {r : HapReq} {addr : Nat} {ws : List Word} {s u : State} (h : admits opWrite addr ws.length (ws.map wordBytes).flatten x r s)
  (hne : ws ≠ []) (hmax : ws.length ≤ 256) (hheld : r.held = false) (hflag : r.repeated = false ∨ addr = 0xF00008)
include h hne hmax hheld hflag

theorem writeRequest_of_admits {act : Option Session → State → Option Answer × State} (hact : act (some x) (admitted x r s) = writeAct r addr ws x (admitted x r s))
    (hrequest : writeRequest r addr ws s = admitRequest opWrite addr ws.length (ws.map wordBytes).flatten
      (decide (1 ≤ ws.length) && decide (ws.length ≤ 256) && !r.held && (!r.repeated || addr == 0xF00008)) true r act s) :
    (∀ a, writeAct r addr ws x (admitted x r s) = (some a, u) → writeRequest r addr ws s = answeredAt opWrite addr ws.length x r a u) ∧
    (writeAct r addr ws x (admitted x r s) = (none, u) → writeRequest r addr ws s = u) := by
  have hpos : 1 ≤ ws.length := List.length_pos_iff.mpr hne
  have hform : (decide (1 ≤ ws.length) && decide (ws.length ≤ 256) && !r.held && (!r.repeated || addr == 0xF00008)) = true := by
    rcases hflag with honce | haddr
    · simp [hpos, hmax, hheld, honce]
    · simp [hpos, hmax, hheld, haddr]
  rw [hrequest, admitRequest_of_admits h hform]
  exact ⟨fun a ha => runRequest_of_acts (hact.trans ha), fun ha => runRequest_of_silent (hact.trans ha)⟩

/-- An admitted WRITE that is answered at once. -/
theorem writeRequest_of_answer {a : Answer} (hact : writeAct r addr ws x (admitted x r s) = (some a, u)) :
    writeRequest r addr ws s = answeredAt opWrite addr ws.length x r a u :=
  (writeRequest_of_admits h hne hmax hheld hflag rfl rfl).1 a hact

/-- An admitted WRITE whose answer its decision gives. -/
theorem writeRequest_of_silent (hact : writeAct r addr ws x (admitted x r s) = (none, u)) : writeRequest r addr ws s = u :=
  (writeRequest_of_admits h hne hmax hheld hflag rfl rfl).2 hact

end

section
variable {x : Session} {r : HapReq} {addr : Nat} {ws : List Word} {s : State} (honce : r.repeated = false)
  (hrange : rangeOk addr ws.length s = true) (hregs : (regsOf addr ws).all (fun w => writable w.1) = true) (hmode : s.um.mode ≠ .selftest)
include honce hrange hregs hmode

theorem writeAct_of_window {a : Answer} {u : State} (hwo : isWo addr = true) (hbulk : writeBulk r x addr ws (admitted x r s) = (a, u)) :
    writeAct r addr ws x (admitted x r s) = (some { a with data := if a.status = 0 then ws else [] }, u) := by
  unfold writeAct
  dsimp only
  simp only [rangeOk_admitted, honce, hrange, hregs, hwo, hbulk, Bool.or_true, Bool.not_true, Bool.false_eq_true, if_false, if_true]
  exact if_neg hmode

variable (hwo : isWo addr = false) (hfew : ws.length ≤ 22)
include hwo hfew

/-- A unit-local write falls due. -/
theorem writeAct_of_local (hlocal : isLocal addr = true) (hverdict : localVerdict addr ws s = (0, 0)) :
    writeAct r addr ws x (admitted x r s) = (some { epoch := s.ex.epoch + 1, data := ws }, closeAfter x addr
      (modHap (fun p => { p with localDue := p.localDue ++ [(addr, ws, s.ex.epoch, x.slot)] }) (admitted x r s))) := by
  unfold writeAct
  dsimp only
  simp only [rangeOk_admitted, honce, hrange, hregs, hwo, hlocal, Nat.not_lt.mpr hfew, Bool.or_true, Bool.not_true, Bool.false_eq_true, if_false, if_true]
  unfold ingestLocal
  rw [localVerdict_admitted, hverdict]
  exact if_neg hmode

/-- An operator command enters the ingress buffers. -/
theorem writeAct_of_command (hlocal : isLocal addr = false) (hrefusal : ingressRefusal (regsOf addr ws) s = none) :
    writeAct r addr ws x (admitted x r s) = (none, ingestCommand r x addr ws (admitted x r s)) := by
  unfold writeAct
  dsimp only
  simp only [rangeOk_admitted, honce, hrange, hregs, hwo, hlocal, Nat.not_lt.mpr hfew, ingressRefusal_admitted, hrefusal, Bool.or_true, Bool.not_true,
    Bool.false_eq_true, if_false]
  exact if_neg hmode

end

end Sys2Proof.Machine
end

section
/-! Reads and writes over HAP, continued: what each leaves, and which WRITE the request of each command is (R379 to R391). -/

namespace Sys2Proof.Machine

section
variable {x : Session} {r : HapReq} {s : State}

/-! ## Reads -/

theorem hapRead_of_snapshot {a : Word} {n : Nat} {sn : Snapshot} (h : admits opRead a.toNat n [] x r s) (hpos : 1 ≤ n) (hmax : n ≤ 256)
    (honce : r.repeated = false) (hheld : r.held = false) (hrange : rangeOk a.toNat n s = true) (hbulk : bulkAddr a.toNat = false)
    (hserved : servedSnapshot a.toNat s = sn) : exec (.hapRead r a n) s =
      .next (answered opRead a.toNat n x r { epoch := sn.epoch, data := snapWords sn a.toNat n } s) := by
  rw [← hserved]
  exact congrArg Host.Outcome.next (readRequest_of_registers h hpos hmax honce hheld hrange hbulk)

theorem servedSnapshot_of_not_hold {addr : Nat} {sn : Snapshot} (hmode : s.um.mode ≠ .hold) (hsnap : s.hap.snap = some sn) :
    servedSnapshot addr s = sn := by
  unfold servedSnapshot
  rw [if_neg (fun h => hmode h.1), hsnap]
  rfl

/-- In HOLD the last snapshot before it serves the registers outside the unit-local page. -/
theorem servedSnapshot_of_hold {addr : Nat} {sn : Snapshot} (hmode : s.um.mode = .hold) (hlocal : isLocal addr = false)
    (hfrozen : s.hap.frozen = some sn) : (servedSnapshot addr s).epoch = sn.epoch ∧ (s.um.holdFromLoad = false → servedSnapshot addr s = sn) := by
  unfold servedSnapshot
  rw [if_pos ⟨hmode, by rw [hlocal]; decide⟩, hfrozen]
  cases s.um.holdFromLoad
  · rw [if_neg (by decide)]
    exact ⟨rfl, fun _ => rfl⟩
  · rw [if_pos rfl]
    exact ⟨rfl, fun h => by cases h⟩

/-! ## Register writes -/

section
variable {a : Word} {ws : List Word} (h : admits opWrite a.toNat ws.length (ws.map wordBytes).flatten x r s) (hne : ws ≠ []) (hfew : ws.length ≤ 22)
  (honce : r.repeated = false) (hheld : r.held = false) (hrange : rangeOk a.toNat ws.length s = true)
  (hregs : (regsOf a.toNat ws).all (fun w => writable w.1) = true) (hwo : isWo a.toNat = false) (hmode : s.um.mode ≠ .selftest)
include h hne hfew honce hheld hrange hregs hwo hmode

/-- A unit-local write is answered at once and falls due. -/
theorem registerWrite_of_local (hlocal : isLocal a.toNat = true) (hverdict : localVerdict a.toNat ws s = (0, 0)) :
    ∃ t, exec (.registerWrite r a ws) s = .next t ∧ answers 2 a.toNat 0 ws r s t ∧
      t.hap.localDue = s.hap.localDue ++ [(a.toNat, ws, s.ex.epoch, x.slot)] ∧
      t = { s with out := t.out, hap := { s.hap with queue := t.hap.queue, sessions := t.hap.sessions, localDue := t.hap.localDue } } := by
  have hexec : exec (.registerWrite r a ws) s = .next _ := congrArg Host.Outcome.next (writeRequest_of_answer h hne (Nat.le_trans hfew (by decide)) hheld
    (Or.inl honce) (writeAct_of_local honce hrange hregs hmode hwo hfew hlocal hverdict))
  obtain ⟨u, l, hu, honly, hhap⟩ : ∃ u l, u = closeAfter x a.toNat
      (modHap (fun p => { p with localDue := p.localDue ++ [(a.toNat, ws, s.ex.epoch, x.slot)] }) (admitted x r s)) ∧ HapOnly s u ∧
      u.hap = { s.hap with queue := s.hap.queue - r.served + 1, sessions := l, localDue := s.hap.localDue ++ [(a.toNat, ws, s.ex.epoch, x.slot)] } := by
    unfold closeAfter
    split
    · exact ⟨_, _, rfl, ⟨rfl⟩, rfl⟩
    · exact ⟨_, _, rfl, ⟨rfl⟩, rfl⟩
  rw [← hu] at hexec
  have hans := answeredAt_words (op := opWrite) (addr := a.toNat) (count := ws.length) (x := x) (r := r)
    (a := { epoch := s.ex.epoch + 1, data := ws }) honly (by rw [hhap]) rfl rfl
  obtain ⟨o, m, hframe⟩ : ∃ o m, answeredAt opWrite a.toNat ws.length x r { epoch := s.ex.epoch + 1, data := ws } u =
      { s with out := o, hap := { u.hap with sessions := m } } := ⟨_, _, answeredAt_frame honly⟩
  rw [hhap] at hframe
  rw [hframe] at hexec hans
  exact ⟨_, hexec, hans, rfl, rfl⟩

/-- An operator command enters the ingress buffers, and awaits its answer. -/
theorem registerWrite_of_command (hlocal : isLocal a.toNat = false) (hrefusal : ingressRefusal (regsOf a.toNat ws) s = none) :
    ∃ (t : State) (q : InRecord), exec (.registerWrite r a ws) s = .next t ∧ t.ex.buffer = s.ex.buffer ++ [{ item := q }] ∧
      q.source = portSource r.port ∧ q.stamp = arrivalStamp (hapPortNumber r.port) r.tick s ∧ q.tov = q.stamp ∧
      q.payload = commandPayload a.toNat x.slot ws ∧
      t.hap.awaiting = s.hap.awaiting ++ [⟨recordId q, x.ident, r.reqSeq, a.toNat, ws.length, r.port, r.source⟩] ∧
      t = { s with ex := { s.ex with buffer := t.ex.buffer, seqs := t.ex.seqs }
                   hap := { s.hap with queue := t.hap.queue, sessions := t.hap.sessions, awaiting := t.hap.awaiting } } := by
  have hexec : exec (.registerWrite r a ws) s = .next _ := congrArg Host.Outcome.next (writeRequest_of_silent h hne (Nat.le_trans hfew (by decide)) hheld
    (Or.inl honce) (writeAct_of_command honce hrange hregs hmode hwo hfew hlocal hrefusal))
  exact ⟨_, _, hexec, rfl, rfl, rfl, rfl, rfl, rfl, rfl⟩

end

/-! ## The bulk window -/

/-- A write of one of the window's own registers. -/
theorem windowWrite_of_admits {addr sel b : Nat} {v : Word} (h : admits opWrite addr 1 (wordBytes v) x r s) (honce : r.repeated = false)
    (hheld : r.held = false) (hmode : s.um.mode ≠ .selftest) (hrange : rangeOk addr 1 s = true) (hwo : isWo addr = true)
    (hstep : bulkStep { sel := x.blkSel, addr := x.blkAddr } (addr, v) = { sel, addr := b }) :
    ∃ t y, writeRequest r addr [v] s = t ∧ answers 2 addr 0 [v] r s t ∧ sessionOf x.ident t = some y ∧ y.blkSel = sel ∧ y.blkAddr = b ∧
      t = { s with out := t.out, hap := { s.hap with queue := t.hap.queue, sessions := t.hap.sessions } } := by
  have hbody : admits opWrite addr [v].length ([v].map wordBytes).flatten x r s := by
    rw [List.map_cons, List.map_nil, List.flatten_cons, List.flatten_nil, List.append_nil]
    exact h
  have hregs : (regsOf addr [v]).all (fun w => writable w.1) = true := by
    rw [show regsOf addr [v] = [(addr, v)] from rfl]
    simp [writable, hwo]
  have hbulk : writeBulk r x addr [v] (admitted x r s) = (plain 0 (admitted x r s), windowMoved x sel b (admitted x r s)) :=
    writeBulk_of_window honce hstep
  have hact : writeAct r addr [v] x (admitted x r s) = (some { plain 0 (admitted x r s) with data := [v] }, windowMoved x sel b (admitted x r s)) :=
    writeAct_of_window (ws := [v]) honce hrange hregs hmode hwo hbulk
  have hwrite : writeRequest r addr [v] s = answeredAt opWrite addr 1 x r { plain 0 (admitted x r s) with data := [v] }
      (windowMoved x sel b (admitted x r s)) := writeRequest_of_answer hbody (List.cons_ne_nil v []) (by simp) hheld (Or.inl honce) hact
  have honly : HapOnly s (windowMoved x sel b (admitted x r s)) := ⟨rfl⟩
  have hsess : sessionOf x.ident (windowMoved x sel b (admitted x r s)) = some { x with idle := 0, lastSeq := r.reqSeq, blkSel := sel, blkAddr := b } := by
    refine sessionOf_modSession (x := { x with idle := 0, lastSeq := r.reqSeq }) ?_ (sessionOf_admitted (session_of_admits h))
    intro z
    rfl
  have hans := answeredAt_words (op := opWrite) (addr := addr) (count := 1) (x := x) (r := r)
    (a := { plain 0 (admitted x r s) with data := [v] }) (ws := [v]) honly rfl rfl rfl
  have hframe := answeredAt_frame (op := opWrite) (addr := addr) (count := 1) (x := x) (r := r)
    (a := { plain 0 (admitted x r s) with data := [v] }) honly
  obtain ⟨o, m, hat⟩ : ∃ o m, answeredAt opWrite addr 1 x r { plain 0 (admitted x r s) with data := [v] } (windowMoved x sel b (admitted x r s)) =
      { s with out := o, hap := { s.hap with queue := s.hap.queue - r.served + 1, sessions := m } } := ⟨_, _, hframe⟩
  refine ⟨_, _, hwrite, hans, answeredAt_session hsess, rfl, rfl, ?_⟩
  rw [hat]

theorem rangeOk_of_bulk {addr : Nat} (hbulk : bulkAddr addr = true) (halign : addr % 4 = 0) (s : State) : rangeOk addr 1 s = true := by
  simp [rangeOk, assigned, hbulk, halign]

/-- A word without a bit of the mask. -/
theorem anyBit_of_lt {v : Word} {n mask : Nat} (h : v.toNat < 2 ^ n) (hmask : mask &&& (2 ^ n - 1) = 0) : anyBit v mask = false := by
  have hand : v &&& BitVec.ofNat 32 mask = 0 := by
    apply BitVec.eq_of_toNat_eq
    apply Nat.eq_of_testBit_eq
    intro i
    rw [BitVec.toNat_and, BitVec.toNat_ofNat, Nat.testBit_and, Nat.testBit_mod_two_pow]
    by_cases hi : i < n
    · have hm : (mask &&& (2 ^ n - 1)).testBit i = false := by rw [hmask]; exact Nat.zero_testBit i
      rw [Nat.testBit_and, Nat.testBit_two_pow_sub_one, decide_eq_true hi, Bool.and_true] at hm
      simp [hm]
    · have hv : v.toNat.testBit i = false :=
        Nat.testBit_eq_false_of_lt (Nat.lt_of_lt_of_le h (Nat.pow_le_pow_right (by decide) (Nat.le_of_not_lt hi)))
      simp [hv]
  simp [anyBit, hand]

theorem blkSel_of_admits {v : Word} (h : admits opWrite 0xF00000 1 (wordBytes v) x r s) (honce : r.repeated = false) (hheld : r.held = false)
    (hmode : s.um.mode ≠ .selftest) (hv : v.toNat ≤ 4) : ∃ t y, exec (.blkSel r v) s = .next t ∧ answers 2 0xF00000 0 [v] r s t ∧
      sessionOf x.ident t = some y ∧ y.blkSel = v.toNat ∧ y.blkAddr = 0 ∧
      t = { s with out := t.out, hap := { s.hap with queue := t.hap.queue, sessions := t.hap.sessions } } := by
  have hstep : bulkStep { sel := x.blkSel, addr := x.blkAddr } (0xF00000, v) = { sel := v.toNat, addr := 0 } := by
    simp [bulkStep, anyBit_of_lt (show v.toNat < 2 ^ 8 by omega) (mask := 0xFFFFFF00) (by decide), Nat.not_lt.mpr hv]
  obtain ⟨t, y, hwrite, hrest⟩ := windowWrite_of_admits h honce hheld hmode (rangeOk_of_bulk (by decide) (by decide) s) (by decide) hstep
  exact ⟨t, y, congrArg Host.Outcome.next hwrite, hrest⟩

theorem blkAddr_of_admits {v : Word} (h : admits opWrite 0xF00004 1 (wordBytes v) x r s) (honce : r.repeated = false) (hheld : r.held = false)
    (hmode : s.um.mode ≠ .selftest) (hv : v.toNat < 2 ^ 24) : ∃ t y, exec (.blkAddr r v) s = .next t ∧ answers 2 0xF00004 0 [v] r s t ∧
      sessionOf x.ident t = some y ∧ y.blkSel = x.blkSel ∧ y.blkAddr = v.toNat ∧
      t = { s with out := t.out, hap := { s.hap with queue := t.hap.queue, sessions := t.hap.sessions } } := by
  have hstep : bulkStep { sel := x.blkSel, addr := x.blkAddr } (0xF00004, v) = { sel := x.blkSel, addr := v.toNat } := by
    simp [bulkStep, anyBit_of_lt hv (mask := 0xFF000000) (by decide)]
  obtain ⟨t, y, hwrite, hrest⟩ := windowWrite_of_admits h honce hheld hmode (rangeOk_of_bulk (by decide) (by decide) s) (by decide) hstep
  exact ⟨t, y, congrArg Host.Outcome.next hwrite, hrest⟩

/-! ## Staging -/

theorem length_wordBytes_flatten (ws : List Word) : (ws.map wordBytes).flatten.length = 4 * ws.length := by
  induction ws with
  | nil => rfl
  | cons w ws ih =>
    rw [List.map_cons, List.flatten_cons, List.length_append, ih, wordBytes, length_beBytes, List.length_cons]
    omega

/-- The octets of one word among those of many. -/
theorem wordBytes_flatten_getElem? {ws : List Word} {w : Word} {i k : Nat} (h : ws[i]? = some w) (hk : k < 4) :
    (ws.map wordBytes).flatten[4 * i + k]? = (wordBytes w)[k]? := by
  induction ws generalizing i with
  | nil => simp at h
  | cons v ws ih =>
    have hlen : (wordBytes v).length = 4 := length_beBytes 4 _
    cases i with
    | zero =>
      obtain rfl : v = w := Option.some.inj h
      rw [List.map_cons, List.flatten_cons, List.getElem?_append_left (by omega)]
      simp
    | succ i =>
      rw [List.map_cons, List.flatten_cons, List.getElem?_append_right (by omega), hlen, ← ih h]
      congr 1
      omega

/-- The words written to staging are read back, and no other octet changes. -/
theorem stagingWritten_spec (a : Nat) (ws : List Word) {s : State} (hwf : Memory.wf 0xFF s.upd.staging = true) :
    (∀ i w, ws[i]? = some w → memReads 0xFF (stagingWritten a ws s).upd.staging (4 * (a + i)) 4 = wordBytes w) ∧
    (∀ b, (b < 4 * a ∨ 4 * (a + ws.length) ≤ b) → memRead 0xFF (stagingWritten a ws s).upd.staging b = memRead 0xFF s.upd.staging b) := by
  constructor
  · intro i w hw
    have hi : i < ws.length := (List.getElem?_eq_some_iff.mp hw).1
    apply List.ext_getElem?
    intro k
    by_cases hk : k < 4
    · have hread := memRead_writes_same 0xFF (ws.map wordBytes).flatten (4 * a) (4 * i + k) s.upd.staging hwf
        (by rw [length_wordBytes_flatten]; omega)
      rw [wordBytes_flatten_getElem? hw hk] at hread
      rw [← hread, memReads, List.getElem?_map, List.getElem?_range hk]
      simp only [Option.map_some, stagingWritten, Option.some.injEq]
      congr 1
      omega
    · rw [List.getElem?_eq_none (by simp [memReads]; omega), List.getElem?_eq_none (by rw [wordBytes, length_beBytes]; omega)]
  · intro b hb
    refine memRead_writes_other 0xFF _ _ b s.upd.staging ?_
    rw [length_wordBytes_flatten]
    omega

theorem blkDataWrite_of_admits {ws : List Word} (h : admits opWrite 0xF00008 ws.length (ws.map wordBytes).flatten x r s) (hne : ws ≠ [])
    (hmax : ws.length ≤ 256) (hrepeat : r.repeated = true) (hheld : r.held = false) (hmode : s.um.mode ≠ .selftest) (hsel : x.blkSel = 4)
    (hwritable : stagingWritable x s = true) (hwf : Memory.wf 0xFF s.upd.staging = true) (hsize : x.blkAddr + ws.length ≤ objectSize 4 s) :
    ∃ t, exec (.blkDataWrite r ws) s = .next t ∧ answers 2 0xF00008 0 ws r s t ∧
      (∀ i w, ws[i]? = some w → memReads 0xFF t.upd.staging (4 * (x.blkAddr + i)) 4 = wordBytes w) ∧
      (∀ b, (b < 4 * x.blkAddr ∨ 4 * (x.blkAddr + ws.length) ≤ b) → memRead 0xFF t.upd.staging b = memRead 0xFF s.upd.staging b) ∧
      t = { s with out := t.out, hap := { s.hap with queue := t.hap.queue, sessions := t.hap.sessions }, upd := { s.upd with staging := t.upd.staging } } := by
  have hact : writeAct r 0xF00008 ws x (admitted x r s) = (some { plain 0 (admitted x r s) with data := ws },
      stagingWritten x.blkAddr ws (windowMoved x 4 (x.blkAddr + ws.length) (admitted x r s))) := by
    unfold writeAct
    dsimp only
    simp only [hrepeat, Bool.true_or, Bool.not_true, Bool.false_eq_true, if_false, if_true]
    rw [if_neg (by decide), if_neg (by exact hmode), if_pos (by decide), writeBulk_of_data hrepeat hne hsel (s := admitted x r s) hwritable hsize]
    rfl
  have hwrite := writeRequest_of_answer h hne hmax hheld (Or.inr rfl) hact
  obtain ⟨hsame, hother⟩ := stagingWritten_spec x.blkAddr ws (s := windowMoved x 4 (x.blkAddr + ws.length) (admitted x r s)) hwf
  have hwindow : WindowOnly s (stagingWritten x.blkAddr ws (windowMoved x 4 (x.blkAddr + ws.length) (admitted x r s))) := ⟨rfl⟩
  have hhap : ∃ l m, stagingWritten x.blkAddr ws (windowMoved x 4 (x.blkAddr + ws.length) (admitted x r s)) =
      { s with hap := { s.hap with queue := s.hap.queue - r.served + 1, sessions := l }, upd := { s.upd with staging := m } } := ⟨_, _, rfl⟩
  obtain ⟨l, m, hu⟩ := hhap
  rw [hu] at hwrite hsame hother hwindow
  have hans := answeredAt_replies (op := opWrite) (addr := 0xF00008) (count := ws.length) (x := x) (r := r)
    (a := { plain 0 (admitted x r s) with data := ws }) hwindow rfl
  have hframe := answeredAt_window (op := opWrite) (addr := 0xF00008) (count := ws.length) (x := x) (r := r)
    (a := { plain 0 (admitted x r s) with data := ws }) hwindow
  obtain ⟨hupd, -⟩ := answeredAt_fields (op := opWrite) (addr := 0xF00008) (count := ws.length) (x := x) (r := r)
    (a := { plain 0 (admitted x r s) with data := ws }) hwindow
  generalize answeredAt opWrite 0xF00008 ws.length x r { plain 0 (admitted x r s) with data := ws } _ = t at *
  refine ⟨t, congrArg Host.Outcome.next hwrite, hans, ?_, ?_, ?_⟩
  · rw [hupd]
    exact hsame
  · rw [hupd]
    exact hother
  · rw [hframe]

end

/-! ## The requests of commands -/

theorem registerWrite_ofNat (r : HapReq) {a : Nat} (ha : a < 2 ^ 32) (ws : List Word) (s : State) :
    exec (.registerWrite r (BitVec.ofNat 32 a) ws) s = .next (writeRequest r a ws s) := by
  have htoNat : (BitVec.ofNat 32 a).toNat = a := by rw [BitVec.toNat_ofNat, Nat.mod_eq_of_lt ha]
  exact congrArg (fun k => Host.Outcome.next (writeRequest r k ws s)) htoNat

/-- Settles O50: reads by the snapshot served, writes by where they go, the bulk window by its words, and each command's request by its WRITE. -/
theorem readsAndWritesReachTheirPlace : Obligations.ReadsAndWritesReachTheirPlace := by
  refine ⟨?_, ?_⟩
  · intro x r s
    refine ⟨?_, ?_, ?_, ?_, ?_, ?_, ?_⟩
    · intro a n sn h hpos hmax honce hheld hrange hbulk hmode hsnap
      exact ⟨_, hapRead_of_snapshot h hpos hmax honce hheld hrange hbulk (servedSnapshot_of_not_hold hmode hsnap), answered_answers .., answered_frame ..⟩
    · intro a n sn h hpos hmax honce hheld hrange hbulk hlocal hmode hfrozen
      obtain ⟨hepoch, hserved⟩ := servedSnapshot_of_hold hmode hlocal hfrozen
      exact ⟨_, _, hapRead_of_snapshot h hpos hmax honce hheld hrange hbulk rfl, answered_out .., rfl, hepoch,
        fun hload => congrArg (snapWords · a.toNat n) (hserved hload)⟩
    · intro a n h hpos hmax honce hrange
      exact ⟨_, congrArg Host.Outcome.next (readRequest_of_no_range h hpos hmax honce hrange), answered_answers ..⟩
    · intro a ws h hne hfew honce hheld hrange hregs hwo hmode
      exact ⟨registerWrite_of_local h hne hfew honce hheld hrange hregs hwo hmode, registerWrite_of_command h hne hfew honce hheld hrange hregs hwo hmode⟩
    · intro honce hheld hmode
      exact ⟨fun v h hv => blkSel_of_admits h honce hheld hmode hv, fun v h hv => blkAddr_of_admits h honce hheld hmode hv⟩
    · intro n h hpos hmax hrepeat hheld hsize
      exact blkDataRead_of_admits h hpos hmax hrepeat hheld hsize
    · intro ws h hne hmax hrepeat hheld hmode hsel hwritable hwf hsize
      exact blkDataWrite_of_admits h hne hmax hrepeat hheld hmode hsel hwritable hwf hsize
  · intro r s w
    have hw (a : Nat) (ha : a < 2 ^ 32) (ws : List Word) : w a ws = .next (writeRequest r a ws s) := registerWrite_ofNat r ha ws s
    clear_value w
    have hnum (a : Nat) (ws : List Word) (ha : a < 2 ^ 24) : Host.Outcome.next (writeRequest r a ws s) = w a ws := (hw a (by omega) ws).symm
    refine ⟨hnum _ _ (by decide), hnum _ _ (by decide), hnum _ _ (by decide), hnum _ _ (by decide), hnum _ _ (by decide), hnum _ _ (by decide),
      hnum _ _ (by decide), hnum _ _ (by decide), hnum _ _ (by decide), hnum _ _ (by decide), hnum _ _ (by decide), hnum _ _ (by decide),
      hnum _ _ (by decide), hnum _ _ (by decide), hnum _ _ (by decide), fun v => ?_, fun f b => ?_, fun e => ?_, fun u tok => ?_, fun k q => ?_,
      fun hi lo => ?_, fun b m hb => ?_, fun n vs hn => ?_, fun n vs hn => ?_, fun n v hn => ?_, fun b v h1 h8 => ?_, fun k => ?_⟩
    · exact ⟨hnum _ _ (by decide), hnum _ _ (by decide), hnum _ _ (by decide), hnum _ _ (by decide), hnum _ _ (by decide), hnum _ _ (by decide),
        hnum _ _ (by decide), hnum _ _ (by decide), hnum _ _ (by decide), hnum _ _ (by decide), hnum _ _ (by decide), hnum _ _ (by decide),
        hnum _ _ (by decide)⟩
    · exact ⟨hnum _ _ (by decide), hnum _ _ (by decide)⟩
    · exact hnum _ _ (by decide)
    · exact ⟨hnum _ _ (by decide), hnum _ _ (by decide)⟩
    · exact ⟨hnum _ _ (by decide), hnum _ _ (by decide)⟩
    · exact hnum _ _ (by decide)
    · exact hnum _ _ (by omega)
    · exact hnum _ _ (by omega)
    · exact hnum _ _ (by omega)
    · exact hnum _ _ (by omega)
    · exact hnum _ _ (by omega)
    · exact ⟨hnum _ _ (by decide), hnum _ _ (by decide), hnum _ _ (by decide), hnum _ _ (by decide), hnum _ _ (by decide), hnum _ _ (by decide),
        hnum _ _ (by decide), hnum _ _ (by decide)⟩

end Sys2Proof.Machine
end

section
/-! Commands at their effect (R58): an accepted command's words in turn, and those of mode, function, alarms and service (R353, R354, R363, R401, R432, R439). -/

namespace Sys2Proof.Machine

/-! ## Taking effect -/

/-- A state once a command has entered the epoch's digest. -/
def landed (c : Command) (s : State) : State := { s with ex := { s.ex with effected := s.ex.effected ++ [c] } }

/-- The words of a command taking effect in turn. -/
def wordsApplied (c : Command) (addr : Nat) (ws : List Word) (s : State) : State :=
  (regsOf addr ws).foldl (fun s r => applyWord c.slot (regsOf addr ws) r.1 r.2 s) (noneDue s)

section
variable {addr : Nat} {ws : List Word} {w : Word} {c : Command} {s : State}

/-- The one due command takes effect as a whole. -/
theorem exactCommand_of_dueIs (h : dueIs addr ws c s) (haddr : isLocal addr = false) :
    exactCommand .effect addr ws s = landed c (wordsApplied c addr ws s) := by
  rw [exactCommand_effect haddr, effectMirrored_of_dueIs (hit := (· == ws)) h (beq_self_eq_true _)]
  obtain ⟨-, rfl, rfl, -⟩ := h
  rfl

/-- A command of one word. -/
theorem exactCommand_of_word (h : dueIs addr [w] c s) (haddr : isLocal addr = false) :
    exactCommand .effect addr [w] s = landed c (applyWord c.slot [(addr, w)] addr w (noneDue s)) :=
  exactCommand_of_dueIs h haddr

/-- A command that any word gives. -/
theorem anyWrite_of_word (h : dueIs addr [w] c s) (haddr : isLocal addr = false) :
    anyWrite .effect addr s = landed c (applyWord c.slot [(addr, w)] addr w (noneDue s)) := by
  have heffect : anyWrite .effect addr s = effectMirrored addr (fun l => l.length == 1) s := by
    unfold anyWrite commandPoint
    simp only [haddr, Bool.false_eq_true, if_false]
  rw [heffect, effectMirrored_of_dueIs h rfl]
  obtain ⟨-, rfl, hwords, -⟩ := h
  simp only [takeEffect, applyCommand, hwords]
  rfl

end

/-- Where a command changed the mirrored state alone. -/
theorem landed_mirrored (c : Command) (m : Mirrored) (s : State) : landed c { noneDue s with mir := m } = takenMir c m s := rfl

theorem landed_noneDue (c : Command) (s : State) : landed c (noneDue s) = taken c s := rfl

/-! ## Fields of a word -/

/-- A word of one field at bit 0. -/
theorem pack_one {e n : Nat} (h : e < 2 ^ n) (hn : n ≤ 32) : (pack [(e, n, 0)]).toNat = e := by
  have hlt : e < 2 ^ 32 := Nat.lt_of_lt_of_le h (Nat.pow_le_pow_right (by decide) hn)
  rw [pack, List.foldl_cons, List.foldl_nil, BitVec.toNat_ofNat, Nat.mod_eq_of_lt h, Nat.pow_zero, Nat.mul_one, Nat.zero_add, Nat.mod_eq_of_lt hlt]

theorem activeWord_fields {func berth : Nat} (hf : func < 8) (hb : berth < 8) :
    cmdMode (activeWord func berth) = 4 ∧ cmdFunc (activeWord func berth) = func ∧ cmdBerth (activeWord func berth) = berth := by
  have hword : (activeWord func berth).toNat = 4 + func * 256 + berth * 65536 := by
    simp only [activeWord, pack, List.foldl_cons, List.foldl_nil, BitVec.toNat_ofNat]
    omega
  simp only [cmdMode, cmdFunc, cmdBerth, fieldOf, hword]
  omega

/-! ## What the changes of mode and function leave -/

/-- What a change of mode or function is said to set and to leave. -/
structure CommandView where
  um : UnitMode
  mode : ModeState
  pair : PairMirror
  ex : Exchange
  cfg : Config
  log : Recorder

def commandView (s : State) : CommandView :=
  { um := s.um, mode := s.mir.mode, pair := s.mir.pair, ex := s.ex, cfg := s.cfg, log := s.log }

theorem EventsOnly.commandView {s t : State} (h : EventsOnly s t) : commandView t = commandView s := (congrArg Machine.commandView h.eq).trans rfl

/-- A function in effect, and since when. -/
def functionSet (f : Option Func) (berth : Nat) (forced : Bool) (s : State) : CommandView :=
  { commandView s with mode := { s.mir.mode with func := f, berth := if f = some .berthPush then berth else 0, forced, funcEpoch := s.ex.epoch } }

theorem setFunction_view (f : Option Func) (berth : Nat) (forced : Bool) (s : State) :
    commandView (setFunction f berth forced s) = functionSet f berth forced s := by
  refine (EventsOnly.clearEvent 126 _).commandView.trans ?_
  by_cases hf : f = some .berthPush
  · rw [functionSet, if_pos hf, if_pos hf]
    rfl
  · rw [functionSet, if_neg hf, if_neg hf]
    rfl

theorem selectFunction_view (f : Func) (berth : Nat) (s : State) : commandView (selectFunction f berth s) = functionSet (some f) berth false s := by
  rw [← setFunction_view]
  cases f
  case autoHeading =>
    unfold selectFunction
    dsimp only
    split
    · rfl
    · rfl
  all_goals rfl

/-- The state before the transition of the unit: the function ended on leaving ACTIVE, and the pair's mode set. -/
def pairModeSet (dst : Mode) (s : State) : State :=
  let leaving := s.mir.mode.pairMode == .active && dst != .active
  let s := if leaving then clearEvent 99 (setFunction none 0 false s) else s
  modMode (fun m => { m with pairMode := dst, modeEpoch := s.ex.epoch, maintFromStandby := dst == .maintenance }) s

theorem pairModeSet_view (dst : Mode) (s : State) : (pairModeSet dst s).um = s.um ∧ (pairModeSet dst s).mir.mode.pairMode = dst ∧
    (pairModeSet dst s).mir.mode.modeEpoch = s.ex.epoch ∧ (pairModeSet dst s).mir.pair = s.mir.pair ∧ (pairModeSet dst s).ex = s.ex ∧
    (pairModeSet dst s).cfg = s.cfg ∧ (pairModeSet dst s).log = s.log := by
  have hended : ∃ u, (if s.mir.mode.pairMode == .active && dst != .active then clearEvent 99 (setFunction none 0 false s) else s) = u ∧
      u.um = s.um ∧ u.mir.pair = s.mir.pair ∧ u.ex = s.ex ∧ u.cfg = s.cfg ∧ u.log = s.log := by
    refine ⟨_, rfl, ?_⟩
    split
    · have hview := (EventsOnly.clearEvent 99 (setFunction none 0 false s)).commandView.trans (setFunction_view none 0 false s)
      exact ⟨congrArg CommandView.um hview, congrArg CommandView.pair hview, congrArg CommandView.ex hview, congrArg CommandView.cfg hview,
        congrArg CommandView.log hview⟩
    · exact ⟨rfl, rfl, rfl, rfl, rfl⟩
  obtain ⟨u, hu, hum, hpair, hex, hcfg, hlog⟩ := hended
  unfold pairModeSet
  dsimp only
  rw [hu]
  exact ⟨hum, rfl, congrArg (·.epoch) hex, hpair, hex, hcfg, hlog⟩

/-- A change of the pair's mode by a transition that the unit's mode has. -/
structure ModeChanged (dst : Mode) (s t : State) : Prop where
  mode : t.um.mode = dst
  fromStandby : t.um.maintFromStandby = (dst == .maintenance)
  pairMode : t.mir.mode.pairMode = dst
  modeEpoch : t.mir.mode.modeEpoch = s.ex.epoch
  pair : t.mir.pair = s.mir.pair
  ex : t.ex = s.ex
  cfg : t.cfg = s.cfg
  log : t.log = s.log
  plan : dst = .maintenance → t.slow.plan = none

theorem changePairMode_changed {dst : Mode} {s : State} (h : transition s.um.mode dst = true) : ModeChanged dst s (changePairMode dst s) := by
  obtain ⟨hum, hpairMode, hepoch, hpair, hex, hcfg, hlog⟩ := pairModeSet_view dst s
  have hevents := changeMode_events (dst := dst) (s := pairModeSet dst s) (by rw [hum]; exact h) 0
  have hchange : changePairMode dst s = stopSlow dst (let u : State :=
      { changeMode dst 0 (pairModeSet dst s) with um := { (changeMode dst 0 (pairModeSet dst s)).um with maintFromStandby := dst == .maintenance } }
    if dst = .standby then modAlc (fun a => { a with units := a.units.map fun u => { u with fbSince := false } }) u else u) := rfl
  rw [hchange]
  generalize changeMode dst 0 (pairModeSet dst s) = v at hevents
  obtain ⟨e, rfl⟩ : ∃ e, v = withEvents { pairModeSet dst s with um := { (pairModeSet dst s).um with mode := dst } } e := ⟨_, hevents.eq⟩
  generalize pairModeSet dst s = u at *
  refine ⟨?_, ?_, ?_, ?_, ?_, ?_, ?_, ?_, fun h => ?_⟩
  · cases dst <;> rfl
  · cases dst <;> rfl
  · cases dst <;> exact hpairMode
  · cases dst <;> exact hepoch
  · cases dst <;> exact hpair
  · cases dst <;> exact hex
  · cases dst <;> exact hcfg
  · cases dst <;> exact hlog
  · subst h
    rfl

/-! ## Acknowledgement (R353) -/

theorem eventUnack_updateRelays (k : Nat) (s : State) : eventUnack k (updateRelays s) = eventUnack k s := by
  obtain ⟨a, b, h⟩ := updateRelays_eq s
  rw [h]
  rfl

theorem eventActive_updateRelays (k : Nat) (s : State) : eventActive k (updateRelays s) = eventActive k s := by
  obtain ⟨a, b, h⟩ := updateRelays_eq s
  rw [h]
  rfl

/-- UNACK of one source cleared. -/
def unackCleared (e : Nat) (s : State) : State :=
  if (attrOf e).scopeL then { s with evt := { s.evt with unack := s.evt.unack.filter (· != e) } }
  else { s with mir := { s.mir with evt := { s.mir.evt with unack := s.mir.evt.unack.filter (· != e) } } }

theorem unackCleared_spec (e : Nat) (s : State) : EventsOnly s (unackCleared e s) ∧ (unackCleared e s).evt.due = s.evt.due ∧
    (∀ k, eventActive k (unackCleared e s) = eventActive k s) ∧ eventUnack e (unackCleared e s) = false ∧
    (∀ k, k ≠ e → eventUnack k (unackCleared e s) = eventUnack k s) := by
  have hsame (l : List Nat) : (l.filter (· != e)).contains e = false := by rw [contains_filter_ne]; simp
  have hother (l : List Nat) {k : Nat} (hk : k ≠ e) : (l.filter (· != e)).contains k = l.contains k := by rw [contains_filter_ne]; simp [hk]
  unfold unackCleared
  split
  · rename_i hscope
    refine ⟨⟨rfl⟩, rfl, fun k => rfl, ?_, fun k hk => ?_⟩
    · rw [eventUnack, if_pos hscope]
      exact hsame _
    · simp only [eventUnack, hother _ hk]
  · rename_i hscope
    refine ⟨⟨rfl⟩, rfl, fun k => rfl, ?_, fun k hk => ?_⟩
    · rw [eventUnack, if_neg hscope]
      exact hsame _
    · simp only [eventUnack, hother _ hk]

/-- An acknowledgement clears UNACK of its source, and is recorded where it stood. -/
theorem ackEvent_spec (station e : Nat) (s : State) : EventsOnly s (ackEvent station e s) ∧ eventUnack e (ackEvent station e s) = false ∧
    (∀ k, eventActive k (ackEvent station e s) = eventActive k s) ∧ (∀ k, k ≠ e → eventUnack k (ackEvent station e s) = eventUnack k s) ∧
    (eventUnack e s = true → (ackEvent station e s).evt.due = s.evt.due ++ [{ event := e, kind := 3, w0 := station }]) := by
  have hack : ackEvent station e s =
      if eventUnack e s then updateRelays (addDue { event := e, kind := 3, w0 := station } (unackCleared e s)) else s := rfl
  rw [hack]
  split
  · obtain ⟨honly, hdue, hactive, hunack, hothers⟩ := unackCleared_spec e s
    refine ⟨honly.trans ((EventsOnly.addDue _ _).trans (.updateRelays _)), ?_, fun k => ?_, fun k hk => ?_, fun _ => ?_⟩
    · rw [eventUnack_updateRelays]
      exact hunack
    · rw [eventActive_updateRelays]
      exact hactive k
    · rw [eventUnack_updateRelays]
      exact hothers k hk
    · obtain ⟨a, b, h⟩ := updateRelays_eq (addDue { event := e, kind := 3, w0 := station } (unackCleared e s))
      rw [h, ← hdue]
      rfl
  · rename_i hclear
    exact ⟨.refl s, by simpa using hclear, fun k => rfl, fun k _ => rfl, fun h => absurd h hclear⟩

/-- Every source of a list acknowledged. -/
theorem foldl_ackEvent_spec (station : Nat) (l : List Nat) : ∀ s : State, EventsOnly s (l.foldl (fun s e => ackEvent station e s) s) ∧
    (∀ e, e ∈ l ∨ eventUnack e s = false → eventUnack e (l.foldl (fun s e => ackEvent station e s) s) = false) ∧
    (∀ k, eventActive k (l.foldl (fun s e => ackEvent station e s) s) = eventActive k s) := by
  induction l with
  | nil => exact fun s => ⟨.refl s, fun e h => h.elim (fun hmem => by cases hmem) id, fun k => rfl⟩
  | cons a l ih =>
    intro s
    obtain ⟨honly, hunack, hactive, hothers, -⟩ := ackEvent_spec station a s
    obtain ⟨hionly, hiunack, hiactive⟩ := ih (ackEvent station a s)
    refine ⟨honly.trans hionly, fun e h => hiunack e ?_, fun k => (hiactive k).trans (hactive k)⟩
    by_cases hea : e = a
    · exact Or.inr (hea ▸ hunack)
    · rw [hothers e hea]
      exact h.imp_left fun hmem => (List.mem_cons.mp hmem).resolve_left hea

end Sys2Proof.Machine
end

section
/-! Commands at their effect, continued: mode and service (R353, R354, R363, R401, R412, R432, R439). -/

namespace Sys2Proof.Machine

/-- What an accepted command leaves of the exchange, once what it changes leaves it as it was. -/
theorem landed_ex {c : Command} {s t : State} (h : t.ex = (noneDue s).ex) : (landed c t).ex = (taken c s).ex :=
  congrArg (fun x : Exchange => { x with effected := x.effected ++ [c] }) h

/-! ## MOD_CMD (R401) -/

section
variable {c : Command} {s : State}

theorem applyWord_modCmd (slot : Nat) (rs : List (Nat × Word)) (w : Word) (s : State) : applyWord slot rs 0x1000C w s = applyModCmd w s := rfl

/-- A function selected, by its code. -/
theorem applyModCmd_active {func berth : Nat} {f : Func} (hfunc : func < 8) (hberth : berth < 8) (hf : funcOf func = some f) (s : State) :
    applyModCmd (activeWord func berth) s = if s.mir.mode.pairMode = .standby then enterActive f berth s else selectInActive f berth s := by
  obtain ⟨hmode, hcode, hb⟩ := activeWord_fields hfunc hberth
  have hne : func ≠ 0 := fun h => by rw [h] at hf; cases hf
  unfold applyModCmd
  rw [hmode, hcode, hb, if_neg (fun h => hne h.2), hf]
  rfl

theorem cmdToActive_takesEffect {func berth : Nat} {f : Func} (hfunc : func < 8) (hberth : berth < 8) (hf : funcOf func = some f)
    (hdue : dueIs 0x1000C [activeWord func berth] c s) (hpair : s.mir.mode.pairMode = .standby) (hmode : s.um.mode = .standby) :
    ∃ t, exec (.cmdToActive .effect func berth) s = .next t ∧ t.um.mode = .active ∧ t.mir.mode.pairMode = .active ∧ t.mir.mode.func = some f ∧
      t.mir.mode.modeEpoch = s.ex.epoch ∧ t.mir.pair.seq = (s.mir.pair.seq + 1) % 65536 ∧ t.ex = (taken c s).ex ∧ t.cfg = s.cfg ∧ t.log = s.log := by
  have hexec : exec (.cmdToActive .effect func berth) s = .next (landed c (enterActive f berth (noneDue s))) := by
    refine congrArg Host.Outcome.next ((if_neg fun h => h.2 hpair).trans ?_)
    rw [exactCommand_of_word hdue (by decide), applyWord_modCmd, applyModCmd_active hfunc hberth hf]
    exact congrArg (landed c) (if_pos hpair)
  have hchanged : ModeChanged .active (noneDue s) (changePairMode .active (noneDue s)) := by
    refine changePairMode_changed ?_
    rw [show (noneDue s).um.mode = .standby from hmode]
    rfl
  have henter : enterActive f berth (noneDue s) = selectFunction f berth (modAlc (fun a => { a with everSolved := false })
      (let u := changePairMode .active (noneDue s); { u with mir := { u.mir with pair := { u.mir.pair with seq := (u.mir.pair.seq + 1) % 65536 } } })) := rfl
  rw [henter] at hexec
  obtain ⟨hum, -, hpm, hepoch, hp, hex, hcfg, hlog, -⟩ := hchanged
  generalize changePairMode .active (noneDue s) = u at *
  have hview := selectFunction_view f berth (modAlc (fun a => { a with everSolved := false })
    { u with mir := { u.mir with pair := { u.mir.pair with seq := (u.mir.pair.seq + 1) % 65536 } } })
  generalize selectFunction f berth _ = t at hexec hview
  have hseq : t.mir.pair.seq = (u.mir.pair.seq + 1) % 65536 := congrArg (fun v : CommandView => v.pair.seq) hview
  exact ⟨_, hexec, (congrArg (fun v : CommandView => v.um.mode) hview).trans hum, (congrArg (fun v : CommandView => v.mode.pairMode) hview).trans hpm,
    congrArg (fun v : CommandView => v.mode.func) hview, (congrArg (fun v : CommandView => v.mode.modeEpoch) hview).trans hepoch,
    hseq.trans (by rw [hp]; rfl), landed_ex ((congrArg CommandView.ex hview).trans hex), (congrArg CommandView.cfg hview).trans hcfg,
    (congrArg CommandView.log hview).trans hlog⟩

theorem cmdSelectFunction_takesEffect {func berth : Nat} {f : Func} (hfunc : func < 8) (hberth : berth < 8) (hf : funcOf func = some f)
    (hdue : dueIs 0x1000C [activeWord func berth] c s) (hpair : s.mir.mode.pairMode = .active) :
    ∃ t, exec (.cmdSelectFunction .effect func berth) s = .next t ∧ t.um = s.um ∧ t.mir.mode.pairMode = .active ∧ t.mir.mode.func = some f ∧
      t.mir.mode.funcEpoch = s.ex.epoch ∧ t.mir.pair = s.mir.pair ∧ t.ex = (taken c s).ex ∧ t.cfg = s.cfg ∧ t.log = s.log := by
  have hexec : exec (.cmdSelectFunction .effect func berth) s = .next (landed c (selectFunction f berth (noneDue s))) := by
    refine congrArg Host.Outcome.next ((if_neg fun h => h.2 hpair).trans ?_)
    rw [exactCommand_of_word hdue (by decide), applyWord_modCmd, applyModCmd_active hfunc hberth hf]
    exact congrArg (landed c) (if_neg (by rw [show (noneDue s).mir.mode.pairMode = .active from hpair]; decide))
  have hview := selectFunction_view f berth (noneDue s)
  generalize selectFunction f berth (noneDue s) = t at hexec hview
  exact ⟨_, hexec, congrArg CommandView.um hview, (congrArg (fun v : CommandView => v.mode.pairMode) hview).trans hpair,
    congrArg (fun v : CommandView => v.mode.func) hview, congrArg (fun v : CommandView => v.mode.funcEpoch) hview, congrArg CommandView.pair hview,
    landed_ex (congrArg CommandView.ex hview), congrArg CommandView.cfg hview, congrArg CommandView.log hview⟩

theorem cmdToStandby_takesEffect (hdue : dueIs 0x1000C [3] c s) (hmode : s.um.mode = .active ∨ s.um.mode = .maintenance) :
    ∃ t, exec (.cmdToStandby .effect) s = .next t ∧ t.um.mode = .standby ∧ t.mir.mode.pairMode = .standby ∧ t.mir.mode.modeEpoch = s.ex.epoch ∧
      t.ex = (taken c s).ex ∧ t.cfg = s.cfg ∧ t.log = s.log := by
  have hexec : exec (.cmdToStandby .effect) s = .next (landed c (changePairMode .standby (noneDue s))) :=
    congrArg Host.Outcome.next (exactCommand_of_word hdue (by decide))
  have hchanged : ModeChanged .standby (noneDue s) (changePairMode .standby (noneDue s)) := by
    refine changePairMode_changed ?_
    rcases hmode with h | h
    · rw [show (noneDue s).um.mode = .active from h]
      rfl
    · rw [show (noneDue s).um.mode = .maintenance from h]
      rfl
  generalize changePairMode .standby (noneDue s) = t at hexec hchanged
  exact ⟨_, hexec, hchanged.mode, hchanged.pairMode, hchanged.modeEpoch, landed_ex hchanged.ex, hchanged.cfg, hchanged.log⟩

theorem cmdToMaintenance_takesEffect (hdue : dueIs 0x1000C [6] c s) (hmode : s.um.mode = .standby) :
    ∃ t, exec (.cmdToMaintenance .effect) s = .next t ∧ t.um.mode = .maintenance ∧ t.um.maintFromStandby = true ∧
      t.mir.mode.pairMode = .maintenance ∧ t.slow.plan = none ∧ t.ex = (taken c s).ex ∧ t.cfg = s.cfg ∧ t.log = s.log := by
  have hexec : exec (.cmdToMaintenance .effect) s = .next (landed c (changePairMode .maintenance (noneDue s))) :=
    congrArg Host.Outcome.next (exactCommand_of_word hdue (by decide))
  have hchanged : ModeChanged .maintenance (noneDue s) (changePairMode .maintenance (noneDue s)) := by
    refine changePairMode_changed ?_
    rw [show (noneDue s).um.mode = .standby from hmode]
    rfl
  generalize changePairMode .maintenance (noneDue s) = t at hexec hchanged
  exact ⟨_, hexec, hchanged.mode, hchanged.fromStandby, hchanged.pairMode, hchanged.plan rfl, landed_ex hchanged.ex, hchanged.cfg, hchanged.log⟩

/-! ## Alarms (R353, R354) -/

/-- What events alone changed of a command's state. -/
theorem EventsOnly.landed {t : State} (h : EventsOnly (noneDue s) t) (c : Command) :
    (landed c t).ex = (taken c s).ex ∧ (Machine.landed c t).um = s.um ∧ (Machine.landed c t).log = s.log := by
  obtain ⟨v, rfl⟩ : ∃ v, t = withEvents (noneDue s) v := ⟨_, h.eq⟩
  exact ⟨rfl, rfl, rfl⟩

theorem evtAckAll_takesEffect (hdue : dueIs 0x20030 [0x80000000] c s) : ∃ t, exec (.evtAckAll .effect) s = .next t ∧
    (∀ e, e < 128 → eventUnack e t = false ∧ eventActive e t = eventActive e s) ∧ t.ex = (taken c s).ex ∧ t.um = s.um ∧ t.log = s.log := by
  have hexec : exec (.evtAckAll .effect) s = .next (landed c (ackAll (stationIndex c.slot (noneDue s)) (noneDue s))) :=
    congrArg Host.Outcome.next (exactCommand_of_word hdue (by decide))
  obtain ⟨honly, hunack, hactive⟩ := foldl_ackEvent_spec (stationIndex c.slot (noneDue s)) (List.range 128) (noneDue s)
  rw [ackAll] at hexec
  generalize (List.range 128).foldl _ (noneDue s) = t at *
  exact ⟨_, hexec, fun e he => ⟨hunack e (Or.inl (List.mem_range.mpr he)), hactive e⟩, honly.landed c⟩

theorem applyWord_ack {e : Nat} (he : e < 128) (slot : Nat) (rs : List (Nat × Word)) (s : State) :
    applyWord slot rs 0x20030 (pack [(e, 7, 0)]) s = ackEvent (stationIndex slot s) e s := by
  have hword : (pack [(e, 7, 0)]).toNat = e := pack_one he (by decide)
  have hbit : bitOf (pack [(e, 7, 0)]) 31 = false := by
    simp only [bitOf, fieldOf, hword, decide_eq_false_iff_not]
    omega
  have hfield : fieldOf (pack [(e, 7, 0)]) 6 0 = e := by
    simp only [fieldOf, hword]
    omega
  have happly : applyWord slot rs 0x20030 (pack [(e, 7, 0)]) s = if bitOf (pack [(e, 7, 0)]) 31 then ackAll (stationIndex slot s) s
      else ackEvent (stationIndex slot s) (fieldOf (pack [(e, 7, 0)]) 6 0) s := rfl
  rw [happly, hbit, hfield]
  rfl

theorem evtAckEvent_takesEffect {e : Nat} (he : e < 128) (hdue : dueIs 0x20030 [pack [(e, 7, 0)]] c s) :
    ∃ t, exec (.evtAckEvent .effect e) s = .next t ∧ eventUnack e t = false ∧ (∀ k, eventActive k t = eventActive k s) ∧
      (∀ k, k ≠ e → eventUnack k t = eventUnack k s) ∧
      (eventUnack e s = true → t.evt.due = s.evt.due ++ [{ event := e, kind := 3, w0 := stationIndex c.slot s }]) ∧
      t.ex = (taken c s).ex ∧ t.um = s.um ∧ t.log = s.log := by
  have hexec : exec (.evtAckEvent .effect e) s = .next (landed c (ackEvent (stationIndex c.slot s) e (noneDue s))) := by
    refine congrArg Host.Outcome.next ((exactCommand_of_word hdue (by decide)).trans ?_)
    rw [applyWord_ack he]
    rfl
  obtain ⟨honly, hunack, hactive, hothers, hrecord⟩ := ackEvent_spec (stationIndex c.slot s) e (noneDue s)
  generalize ackEvent (stationIndex c.slot s) e (noneDue s) = t at *
  exact ⟨_, hexec, hunack, hactive, hothers, hrecord, honly.landed c⟩

theorem applyWord_mask {b : Nat} (hb : b < 4) (slot : Nat) (rs : List (Nat × Word)) (w : Word) (s : State) :
    applyWord slot rs (0x20020 + 4 * b) w s = applyMask b w s := by
  have hwithin : within 0x20020 4 4 (0x20020 + 4 * b) = true := by
    simp only [within, Bool.and_eq_true, decide_eq_true_eq, beq_iff_eq]
    omega
  have hindex : (0x20020 + 4 * b - 0x20020) / 4 = b := by omega
  unfold applyWord
  rw [if_neg (by omega), if_pos hwithin, hindex]

theorem evtMask_takesEffect {b : Nat} {m : Word} (hb : b < 4) (hlen : s.mir.evt.masks.length = 4) (hdue : dueIs (0x20020 + 4 * b) [m] c s) :
    ∃ t, exec (.evtMask .effect b m) s = .next t ∧ t.mir.evt.masks[b]? = some m ∧ (∀ k, k ≠ b → t.mir.evt.masks[k]? = s.mir.evt.masks[k]?) ∧
      t = { taken c s with mir := { s.mir with evt := { s.mir.evt with masks := t.mir.evt.masks } }
                           evt := { s.evt with dpRelay := t.evt.dpRelay, ufRelay := t.evt.ufRelay } } := by
  have hlocal : isLocal (0x20020 + 4 * b) = false := by
    simp only [isLocal, Bool.and_eq_false_iff, decide_eq_false_iff_not]
    omega
  have hexec : exec (.evtMask .effect b m) s = .next (landed c (applyMask b m (noneDue s))) := by
    refine congrArg Host.Outcome.next ((exactCommand_of_word hdue hlocal).trans ?_)
    rw [applyWord_mask hb]
  obtain ⟨x, y, hrelays⟩ := updateRelays_eq { noneDue s with mir := { s.mir with evt := { s.mir.evt with
    masks := modAt s.mir.evt.masks b (fun _ => m) } } }
  rw [show applyMask b m (noneDue s) = _ from hrelays] at hexec
  refine ⟨_, hexec, ?_, fun k hk => ?_, rfl⟩
  · exact (List.getElem?_modify_eq _ _ _).trans (by rw [List.getElem?_eq_getElem (by omega)]; rfl)
  · exact List.getElem?_modify_ne _ _ (Ne.symm hk)

/-! ## Recorder, life cycle and update (R363, R432, R439) -/

/-- A recorder clear leaves EV_019 alone, and nothing else than events. -/
theorem clearRecorder_spec (slot : Nat) (s : State) : ∃ r, (clearRecorder slot s).log.records = [r] ∧ r.event = 19 ∧ r.kind = 1 ∧
    r.value = s.log.records.length ∧ (clearRecorder slot s).log.full = false ∧ (clearRecorder slot s).log.clears = (s.log.clears + 1) % 2 ^ 32 ∧
    eventActive 18 (clearRecorder slot s) = false ∧ (clearRecorder slot s).um = s.um ∧ (clearRecorder slot s).mir.alc = s.mir.alc := by
  obtain ⟨-, -, hactive⟩ := clearRecorder_recorder slot s
  have hevents : EventsOnly { s with log := { s.log with records := [], full := false, clears := (s.log.clears + 1) % 2 ^ 32 } }
      (clearEvent 18 (setRaised 19 { s with log := { s.log with records := [], full := false, clears := (s.log.clears + 1) % 2 ^ 32 } })) :=
    (EventsOnly.setRaised 19 _).trans (.clearEvent 18 _)
  have hclear : clearRecorder slot s = (let u := clearEvent 18 (setRaised 19 { s with log := { s.log with
        records := [], full := false, clears := (s.log.clears + 1) % 2 ^ 32 } })
      let d : DueRecord := { event := 19, kind := 1, w0 := stationIndex slot s, value := s.log.records.length }
      { u with log := { u.log with records := [newRecord d u] }, evt := { u.evt with written := u.evt.written ++ [d] } }) := rfl
  rw [hclear] at hactive ⊢
  generalize clearEvent 18 _ = u at *
  obtain ⟨v, rfl⟩ : ∃ v, u = withEvents { s with log := { s.log with records := [], full := false, clears := (s.log.clears + 1) % 2 ^ 32 } } v :=
    ⟨_, hevents.eq⟩
  exact ⟨_, rfl, rfl, rfl, rfl, rfl, rfl, hactive, rfl, rfl⟩

/-- The words of a token do nothing of their own. -/
theorem wordsApplied_logClear {u : Word} {tok : List Word} (htok : tok.length = 4) :
    wordsApplied c 0xB00000 (u :: tok) s = if namesUnit u s then clearRecorder c.slot (noneDue s) else noneDue s := by
  obtain ⟨w1, w2, w3, w4, rfl⟩ : ∃ w1 w2 w3 w4, tok = [w1, w2, w3, w4] := List.length_eq_four.mp htok
  rfl

theorem wordsApplied_lifeCycle {u : Word} {tok : List Word} (htok : tok.length = 4) :
    wordsApplied c 0xD00000 (u :: tok) s = applyLife u (noneDue s) := by
  obtain ⟨w1, w2, w3, w4, rfl⟩ : ∃ w1 w2 w3 w4, tok = [w1, w2, w3, w4] := List.length_eq_four.mp htok
  rfl

theorem logClear_takesEffect {u : Word} {tok : List Word} (htok : tok.length = 4) (hdue : dueIs 0xB00000 (u :: tok) c s) :
    (namesUnit u s = true → ∃ t r, exec (.logClear .effect u tok) s = .next t ∧ t.log.records = [r] ∧ r.event = 19 ∧ r.kind = 1 ∧
      r.value = s.log.records.length ∧ t.log.full = false ∧ t.log.clears = (s.log.clears + 1) % 2 ^ 32 ∧ eventActive 18 t = false ∧
      t.um = s.um ∧ t.mir.alc = s.mir.alc) ∧
    (namesUnit u s = false → exec (.logClear .effect u tok) s = .next (taken c s)) := by
  have hexec : exec (.logClear .effect u tok) s = .next (landed c (if namesUnit u s then clearRecorder c.slot (noneDue s) else noneDue s)) := by
    refine congrArg Host.Outcome.next ((exactCommand_of_dueIs hdue (by decide)).trans ?_)
    rw [wordsApplied_logClear htok]
  constructor
  · intro hunit
    rw [if_pos hunit] at hexec
    obtain ⟨r, hrecords, hspec⟩ := clearRecorder_spec c.slot (noneDue s)
    exact ⟨_, r, hexec, hrecords, hspec⟩
  · intro hunit
    rw [hexec, hunit]
    rfl

/-- The named unit's life cycle changed, but for the event. -/
def lifeChanged (w : Word) (s : State) : State :=
  { s with life := { state := lifeOf (fieldOf w 9 8), count := bump 8 s.life.count }, um := { s.um with mustRestart := true } }

theorem lifeCycle_takesEffect {u : Word} {tok : List Word} (htok : tok.length = 4) (hdue : dueIs 0xD00000 (u :: tok) c s) :
    (namesUnit u s = true → ∃ t, exec (.lifeCycleTransition .effect u tok) s = .next t ∧ t.life.state = lifeOf (fieldOf u 9 8) ∧
      t.life.count = min (s.life.count + 1) 255 ∧ t.um = { s.um with mustRestart := true } ∧ eventActive 25 t = true ∧ t.ex = (taken c s).ex) ∧
    (namesUnit u s = false → exec (.lifeCycleTransition .effect u tok) s = .next (taken c s)) := by
  have hexec : exec (.lifeCycleTransition .effect u tok) s = .next (landed c (applyLife u (noneDue s))) := by
    refine congrArg Host.Outcome.next ((exactCommand_of_dueIs hdue (by decide)).trans ?_)
    rw [wordsApplied_lifeCycle htok]
  constructor
  · intro hunit
    have hraised := raised_raise 25 (lifeChanged u (noneDue s))
    rw [show applyLife u (noneDue s) = raise 25 (lifeChanged u (noneDue s)) from if_pos hunit] at hexec
    generalize raise 25 (lifeChanged u (noneDue s)) = t at hexec hraised
    have hactive := hraised.active
    obtain ⟨v, rfl⟩ : ∃ v, t = withEvents (lifeChanged u (noneDue s)) v := ⟨_, hraised.eq⟩
    exact ⟨_, hexec, rfl, bump_eight s.life.count, rfl, hactive, rfl⟩
  · intro hunit
    rw [hexec, applyLife, show namesUnit u (noneDue s) = false from hunit]
    rfl

/-- The commit record written, but for the event. -/
def commitRecorded (d : Nat) (s : State) : State :=
  { s with upd := { s.upd with commit := some d, state := 6, staged := d }, um := { s.um with mustRestart := true } }

theorem updCommit_takesEffect {hi lo : Word} (hdue : dueIs 0xE00000 [hi, lo] c s) : ∃ t, exec (.updCommit .effect hi lo) s = .next t ∧
    t.upd = { s.upd with commit := some (hi.toNat * 2 ^ 32 + lo.toNat), state := 6, staged := hi.toNat * 2 ^ 32 + lo.toNat } ∧
    t.um = { s.um with mustRestart := true } ∧ eventActive 22 t = true ∧ t.ex = (taken c s).ex := by
  have hexec : exec (.updCommit .effect hi lo) s = .next (landed c (raise 22 (commitRecorded (hi.toNat * 2 ^ 32 + lo.toNat) (noneDue s)))) :=
    congrArg Host.Outcome.next (exactCommand_of_dueIs hdue (by decide))
  have hraised := raised_raise 22 (commitRecorded (hi.toNat * 2 ^ 32 + lo.toNat) (noneDue s))
  generalize raise 22 (commitRecorded (hi.toNat * 2 ^ 32 + lo.toNat) (noneDue s)) = t at hexec hraised
  have hactive := hraised.active
  obtain ⟨v, rfl⟩ : ∃ v, t = withEvents (commitRecorded (hi.toNat * 2 ^ 32 + lo.toNat) (noneDue s)) v := ⟨_, hraised.eq⟩
  exact ⟨_, hexec, rfl, rfl, hactive, rfl⟩

end

/-- Settles O51: the one due command, by the register that it writes. -/
theorem modeAndServiceCommandsTakeEffect : Obligations.ModeAndServiceCommandsTakeEffect := by
  intro c s
  refine ⟨fun func berth f hfunc hberth hf hdue => ⟨cmdToActive_takesEffect hfunc hberth hf hdue, fun hpair _ =>
      cmdSelectFunction_takesEffect hfunc hberth hf hdue hpair⟩, cmdToStandby_takesEffect, cmdToMaintenance_takesEffect, evtAckAll_takesEffect,
    fun e he => evtAckEvent_takesEffect he, fun b m hb hlen => evtMask_takesEffect hb hlen, fun u tok htok => logClear_takesEffect htok,
    fun u tok htok => lifeCycle_takesEffect htok, fun hi lo => updCommit_takesEffect, fun w hdue => ?_, fun w hdue => ?_⟩
  · exact congrArg Host.Outcome.next (anyWrite_of_word hdue (by decide))
  · exact congrArg Host.Outcome.next (anyWrite_of_word hdue (by decide))

end Sys2Proof.Machine
end

section
/-! Commands at their effect: solver, estimation, allocation and prediction (R128, R149, R158, R163, R180, R185, R186, R188, R189). -/

namespace Sys2Proof.Machine

/-! ## Registers in a row -/

theorem regsOf_cons (addr : Nat) (w : Word) (ws : List Word) : regsOf addr (w :: ws) = (addr, w) :: regsOf (addr + 4) ws := by
  unfold regsOf mapAt
  rw [List.mapIdx_cons]
  refine congrArg ((addr, w) :: ·) (List.mapIdx_eq_mapIdx_iff.mpr fun i _ => ?_)
  rw [Prod.mk.injEq]
  exact ⟨by omega, rfl⟩

theorem isLocal_of_lt {a : Nat} (h : a < 0xFF0000) : isLocal a = false := by
  rw [isLocal, decide_eq_false (Nat.not_le.mpr h), Bool.false_and]

/-- What register i holds once words have been written from register `first` on. -/
def regAfter (first : Nat) (vs : List Word) (i : Nat) (old : Word) : Word := if first ≤ i then vs.getD (i - first) old else old

theorem regAfter_cons (first : Nat) (w : Word) (vs : List Word) (i : Nat) (old : Word) :
    regAfter first (w :: vs) i old = regAfter (first + 1) vs i (if i = first then w else old) := by
  unfold regAfter
  rcases Nat.lt_trichotomy i first with h | h | h
  · rw [if_neg (by omega), if_neg (by omega), if_neg (by omega)]
  · rw [if_pos (by omega), if_neg (by omega), if_pos h, h, Nat.sub_self]
    rfl
  · obtain ⟨d, rfl⟩ := Nat.exists_eq_add_of_lt h
    rw [if_pos (by omega), if_pos (by omega), if_neg (by omega), show first + d + 1 - first = d + 1 by omega,
      show first + d + 1 - (first + 1) = d by omega]
    rfl

/-! ## Bundle adjustment (R163) -/

/-- The word of EST_BA_ACCEPT. -/
theorem acceptWord_fields {k : Nat} (hk : k < 11) (q : Nat) :
    fieldOf (pack [(k, 4, 0), (q, 8, 16)]) 3 0 = k ∧ bitOf (pack [(k, 4, 0), (q, 8, 16)]) 31 = false ∧
    fieldOf (pack [(k, 4, 0), (q, 8, 16), (1, 1, 31)]) 3 0 = k ∧ bitOf (pack [(k, 4, 0), (q, 8, 16), (1, 1, 31)]) 31 = true := by
  have hlt : q % 2 ^ 8 < 256 := Nat.mod_lt _ (by decide)
  generalize hr : q % 2 ^ 8 = r at hlt
  have haccept : (pack [(k, 4, 0), (q, 8, 16)]).toNat = k + r * 65536 := by
    rw [pack, List.foldl_cons, List.foldl_cons, List.foldl_nil, BitVec.toNat_ofNat, hr]
    norm_num
    omega
  have hreject : (pack [(k, 4, 0), (q, 8, 16), (1, 1, 31)]).toNat = k + r * 65536 + 2147483648 := by
    rw [pack, List.foldl_cons, List.foldl_cons, List.foldl_cons, List.foldl_nil, BitVec.toNat_ofNat, hr]
    norm_num
    omega
  rw [bitOf, bitOf, fieldOf, fieldOf, fieldOf, fieldOf, haccept, hreject]
  norm_num
  omega

section
variable {c : Command} {s : State} {k q : Nat} {x : BaSlot} (hk : k < 11) (hx : s.mir.ba.slots[k]? = some x)
include hk hx

theorem estBaAccept_takesEffect (hdue : dueIs 0x200084 [pack [(k, 4, 0), (q, 8, 16)]] c s) : ∃ t v, exec (.estBaAccept .effect k q) s = .next t ∧
    t.mir.ba.slots[k]? = some { x with state := 1, accepted := true, inForce := v, baseline := v, pending := noPending } ∧
    v.dx = (if x.pending.dx.isSome then x.pending.dx else x.inForce.dx) ∧ v.dy = (if x.pending.dy.isSome then x.pending.dy else x.inForce.dy) ∧
    v.dz = (if x.pending.dz.isSome then x.pending.dz else x.inForce.dz) ∧
    v.dpsi = (if x.pending.dpsi.isSome then x.pending.dpsi else x.inForce.dpsi) ∧ (∀ i, i ≠ k → t.mir.ba.slots[i]? = s.mir.ba.slots[i]?) ∧
    t = takenMir c { s.mir with ba := { s.mir.ba with slots := t.mir.ba.slots } } s := by
  obtain ⟨hslot, hbit, -⟩ := acceptWord_fields hk q
  have hexec : exec (.estBaAccept .effect k q) s = .next (landed c (acceptSlot k (noneDue s))) := by
    refine congrArg Host.Outcome.next ((exactCommand_of_word hdue (by decide)).trans ?_)
    have happly (rs : List (Nat × Word)) (w : Word) (u : State) : applyWord c.slot rs 0x200084 w u =
      if bitOf w 31 then rejectSlot (fieldOf w 3 0) u else acceptSlot (fieldOf w 3 0) u := rfl
    rw [happly, hslot, hbit]
    rfl
  refine ⟨_, _, hexec, (List.getElem?_modify_eq _ _ _).trans (congrArg _ hx), rfl, rfl, rfl, rfl, fun i hi => ?_, rfl⟩
  exact List.getElem?_modify_ne _ _ (Ne.symm hi)

theorem estBaReject_takesEffect (hdue : dueIs 0x200084 [pack [(k, 4, 0), (q, 8, 16), (1, 1, 31)]] c s) :
    ∃ t, exec (.estBaReject .effect k q) s = .next t ∧ t.mir.ba.slots[k]? = some { x with state := 1, pending := noPending } ∧
      (∀ i, i ≠ k → t.mir.ba.slots[i]? = s.mir.ba.slots[i]?) ∧ t = takenMir c { s.mir with ba := { s.mir.ba with slots := t.mir.ba.slots } } s := by
  obtain ⟨-, -, hslot, hbit⟩ := acceptWord_fields hk q
  have hexec : exec (.estBaReject .effect k q) s = .next (landed c (rejectSlot k (noneDue s))) := by
    refine congrArg Host.Outcome.next ((exactCommand_of_word hdue (by decide)).trans ?_)
    have happly (rs : List (Nat × Word)) (w : Word) (u : State) : applyWord c.slot rs 0x200084 w u =
      if bitOf w 31 then rejectSlot (fieldOf w 3 0) u else acceptSlot (fieldOf w 3 0) u := rfl
    rw [happly, hslot, hbit]
    rfl
  refine ⟨_, hexec, (List.getElem?_modify_eq _ _ _).trans (congrArg _ hx), fun i hi => ?_, rfl⟩
  exact List.getElem?_modify_ne _ _ (Ne.symm hi)

end

/-! ## ALC_UNIT_ENABLE (R180) -/

/-- A thrust unit's discrepancy cleared. -/
def discrepancyCleared (u : UnitState) : UnitState := { u with discrepancy := false, discRun := 0 }

theorem foldl_modUnit_cleared (l : List Nat) : ∀ s : State, s.mir.alc.units.length = 16 →
    (∀ j, j < 16 → unitState j (l.foldl (fun s j => modUnit j discrepancyCleared s) s) =
      if j ∈ l then discrepancyCleared (unitState j s) else unitState j s) ∧
    (∃ us, l.foldl (fun s j => modUnit j discrepancyCleared s) s = { s with mir := { s.mir with alc := { s.mir.alc with units := us } } }) := by
  induction l with
  | nil => exact fun s _ => ⟨fun j _ => by simp, _, rfl⟩
  | cons a l ih =>
    intro s hlen
    obtain ⟨hstate, us, hrest⟩ := ih (modUnit a discrepancyCleared s) ((List.length_modify _ _ _).trans hlen)
    refine ⟨fun j hj => (hstate j hj).trans ?_, us, hrest⟩
    by_cases hja : j = a
    · rw [if_pos (List.mem_cons.mpr (Or.inl hja)), hja, unitState_modUnit_same (by omega)]
      exact ite_self _
    · rw [unitState_modUnit_other hja]
      simp [hja]

theorem alcUnitEnable_takesEffect {c : Command} {s : State} {m : Word} (hlen : s.mir.alc.units.length = 16) (hdue : dueIs 0x20101C [m] c s) :
    ∃ t, exec (.alcUnitEnable .effect m) s = .next t ∧
      (∀ j, j < 16 → unitState j t = if m.toNat.testBit j then { unitState j s with discrepancy := false, discRun := 0 } else unitState j s) ∧
      t = takenMir c { s.mir with alc := { s.mir.alc with units := t.mir.alc.units } } s := by
  have hexec : exec (.alcUnitEnable .effect m) s =
      .next (landed c ((bitsOf 16 m.toNat).foldl (fun s j => modUnit j discrepancyCleared s) (noneDue s))) :=
    congrArg Host.Outcome.next (exactCommand_of_word hdue (by decide))
  obtain ⟨hstate, us, hrest⟩ := foldl_modUnit_cleared (bitsOf 16 m.toNat) (noneDue s) hlen
  rw [hrest] at hexec hstate
  refine ⟨_, hexec, fun j hj => (hstate j hj).trans ?_, rfl⟩
  have hmem : j ∈ bitsOf 16 m.toNat ↔ m.toNat.testBit j = true := by
    rw [bitsOf, List.mem_filter, List.mem_range]
    exact and_iff_right hj
  simp only [hmem]
  rfl

/-! ## Targets (R185) -/

/-- The target registers written from the first one on. -/
theorem mpcTargetWrite_takesEffect {c : Command} {s : State} {first : Nat} {vs : List Word}
    (hlen : first + vs.length ≤ 3) (hdue : dueIs (0x202008 + 4 * first) vs c s) : exec (.mpcTargetWrite .effect first vs) s =
      .next (takenMir c { s.mir with mpc := { s.mir.mpc with
        targetN := regAfter first vs 0 s.mir.mpc.targetN, targetE := regAfter first vs 1 s.mir.mpc.targetE, targetHdg := regAfter first vs 2 s.mir.mpc.targetHdg } } s) := by
  refine congrArg Host.Outcome.next ((exactCommand_of_dueIs hdue (isLocal_of_lt (by omega))).trans ?_)
  clear hdue
  match first, vs, hlen with
  | 0, [], _ | 1, [], _ | 2, [], _ | 3, [], _ => rfl
  | 0, [_], _ | 1, [_], _ | 2, [_], _ => rfl
  | 0, [_, _], _ | 1, [_, _], _ => rfl
  | 0, [_, _, _], _ => rfl
  | 0, _ :: _ :: _ :: _ :: _, h => simp at h; omega
  | 1, _ :: _ :: _ :: _, h => simp at h; omega
  | 2, _ :: _ :: _, h => simp at h; omega
  | 3, _ :: _, h => simp at h
  | n + 4, vs, h => omega

/-! ## Waypoints (R186) -/

/-- One of a waypoint's four values written. -/
def waypointSet (field : Nat) (w : Word) (x : Waypoint) : Waypoint :=
  match field with
  | 0 => { x with north := w }
  | 1 => { x with east := w }
  | 2 => { x with hdg := w }
  | _ => { x with spd := w }

/-- Waypoint k once words have been written from register `first` on. -/
def waypointAfter (first : Nat) (vs : List Word) (k : Nat) (x : Waypoint) : Waypoint :=
  Waypoint.mk (regAfter first vs (4 * k) x.north) (regAfter first vs (4 * k + 1) x.east) (regAfter first vs (4 * k + 2) x.hdg)
    (regAfter first vs (4 * k + 3) x.spd)

theorem waypointAfter_cons (first : Nat) (w : Word) (vs : List Word) (k : Nat) (x : Waypoint) : waypointAfter first (w :: vs) k x =
    waypointAfter (first + 1) vs k (if k = first / 4 then waypointSet (first % 4) w x else x) := by
  unfold waypointAfter
  simp only [regAfter_cons]
  by_cases hk : k = first / 4
  · rw [if_pos hk]
    have hfirst : first = 4 * k + first % 4 := by omega
    have hlt : first % 4 < 4 := Nat.mod_lt _ (by decide)
    generalize first % 4 = f at *
    subst hfirst
    match f, hlt with
    | 0, _ => simp [waypointSet]
    | 1, _ => simp [waypointSet]
    | 2, _ => simp [waypointSet]
    | 3, _ => simp [waypointSet]
  · rw [if_neg hk, if_neg (by omega), if_neg (by omega), if_neg (by omega), if_neg (by omega)]

/-- The plan once a waypoint register has been written. -/
def waypointWritten (n : Nat) (w : Word) (s : State) : State :=
  modMpc (fun m => { m with accepted := false, waypoints := modAt m.waypoints (n / 4) (waypointSet (n % 4) w) }) s

theorem applyWord_waypoint {n : Nat} (hn : n < 128) (slot : Nat) (rs : List (Nat × Word)) (w : Word) (s : State) :
    applyWord slot rs (0x202100 + 4 * n) w s = waypointWritten n w s := by
  have hbase : 0x202100 ≤ 0x202100 + 4 * n := Nat.le_add_right _ _
  have hlt : 0x202100 + 4 * n < 0x202100 + 4 * 128 := by omega
  have hsub : 0x202100 + 4 * n - 0x202100 = 4 * n := Nat.add_sub_cancel_left ..
  have hmask : within 0x20020 4 4 (0x202100 + 4 * n) = false := by
    rw [within, decide_eq_false (p := 0x202100 + 4 * n < 0x20020 + 4 * 4) (by omega), Bool.and_false, Bool.false_and]
  have hwithin : within 0x202100 4 128 (0x202100 + 4 * n) = true := by
    rw [within, decide_eq_true hbase, decide_eq_true hlt, hsub, Nat.mul_mod_right]
    rfl
  have hpoint : waypointOf (0x202100 + 4 * n) = (n / 4, n % 4) := by
    rw [waypointOf, hsub, Prod.mk.injEq]
    omega
  generalize 0x202100 + 4 * n = a at *
  unfold applyWord
  rw [if_neg (by omega), hmask, if_neg Bool.false_ne_true]
  iterate 14 rw [if_neg (by omega)]
  rw [if_pos hwithin, applyWaypoint, hpoint]
  rfl

/-- The waypoint registers written in turn. -/
theorem foldl_waypoints (slot : Nat) (rs : List (Nat × Word)) (vs : List Word) : ∀ (first : Nat) (s : State), first + vs.length ≤ 128 →
    ∃ l, (regsOf (0x202100 + 4 * first) vs).foldl (fun s r => applyWord slot rs r.1 r.2 s) s =
      { s with mir := { s.mir with mpc := { s.mir.mpc with accepted := s.mir.mpc.accepted && vs.isEmpty, waypoints := l } } } ∧
      ∀ k x, s.mir.mpc.waypoints[k]? = some x → l[k]? = some (waypointAfter first vs k x) := by
  induction vs with
  | nil =>
    intro first s _
    refine ⟨s.mir.mpc.waypoints, ?_, fun k x hx => ?_⟩
    · rw [List.isEmpty_nil, Bool.and_true]
      rfl
    · rw [hx]
      simp [waypointAfter, regAfter]
  | cons w vs ih =>
    intro first s hlen
    rw [List.length_cons] at hlen
    obtain ⟨l, hfold, hpoint⟩ := ih (first + 1) (waypointWritten first w s) (by omega)
    refine ⟨l, ?_, fun k x hx => ?_⟩
    · rw [regsOf_cons, List.foldl_cons, applyWord_waypoint (by omega), show 0x202100 + 4 * first + 4 = 0x202100 + 4 * (first + 1) by omega, hfold]
      simp [waypointWritten, modMpc]
    · rw [waypointAfter_cons]
      refine hpoint k _ ?_
      rw [show (waypointWritten first w s).mir.mpc.waypoints = s.mir.mpc.waypoints.modify (first / 4) (waypointSet (first % 4) w) from rfl,
        List.getElem?_modify, hx]
      by_cases hk : k = first / 4
      · simp [hk]
      · simp [hk, Ne.symm hk]

theorem mpcTrkWaypointWrite_takesEffect {c : Command} {s : State} {first : Nat} {vs : List Word} (hlen : first + vs.length ≤ 128) (hne : vs ≠ [])
    (hdue : dueIs (0x202100 + 4 * first) vs c s) : ∃ t, exec (.mpcTrkWaypointWrite .effect first vs) s = .next t ∧ t.mir.mpc.accepted = false ∧
      (∀ k x, s.mir.mpc.waypoints[k]? = some x → t.mir.mpc.waypoints[k]? = some (waypointAfter first vs k x)) ∧
      t = takenMir c { s.mir with mpc := { s.mir.mpc with accepted := false, waypoints := t.mir.mpc.waypoints } } s := by
  have hexec : exec (.mpcTrkWaypointWrite .effect first vs) s = .next (landed c (wordsApplied c (0x202100 + 4 * first) vs s)) :=
    congrArg Host.Outcome.next (exactCommand_of_dueIs hdue (isLocal_of_lt (by omega)))
  obtain ⟨l, hfold, hpoint⟩ := foldl_waypoints c.slot (regsOf (0x202100 + 4 * first) vs) vs first (noneDue s) hlen
  have hempty : vs.isEmpty = false := by simpa using hne
  rw [hempty, Bool.and_false] at hfold
  rw [wordsApplied, hfold] at hexec
  exact ⟨_, hexec, rfl, hpoint, rfl⟩

/-- Settles O52: the one due command, by the register that it writes. -/
theorem controlCommandsTakeEffect : Obligations.ControlCommandsTakeEffect := by
  intro c s hunits _
  refine ⟨fun w hdue => ?_, fun w hdue => ?_, fun w hdue => ?_,
    fun k q x hk hx => ⟨estBaAccept_takesEffect hk hx, estBaReject_takesEffect hk hx⟩, fun m => alcUnitEnable_takesEffect hunits,
    fun v hdue => ?_, fun v hdue => ?_, fun v hdue => ?_, fun v hdue => ?_, fun first vs hlen hdue => mpcTargetWrite_takesEffect hlen hdue,
    fun n hdue => ?_, fun first vs hlen hne hdue => mpcTrkWaypointWrite_takesEffect hlen hne hdue⟩
  · exact congrArg Host.Outcome.next (anyWrite_of_word hdue (by decide))
  · exact congrArg Host.Outcome.next (anyWrite_of_word hdue (by decide))
  · exact congrArg Host.Outcome.next (anyWrite_of_word hdue (by decide))
  · exact congrArg Host.Outcome.next (exactCommand_of_word hdue (by decide))
  · exact congrArg Host.Outcome.next (exactCommand_of_word hdue (by decide))
  · exact congrArg Host.Outcome.next (exactCommand_of_word hdue (by decide))
  · exact congrArg Host.Outcome.next (exactCommand_of_word hdue (by decide))
  · exact congrArg Host.Outcome.next (exactCommand_of_word hdue (by decide))

end Sys2Proof.Machine
end

section
/-! Commands at their effect: sensors, field buses and safe I/O (R205, R210, R239, R263, R302, R307, R338, R345). -/

namespace Sys2Proof.Machine

/-! ## SIV_n_CTRL (R263) -/

theorem applyWord_sieve {n : Nat} (hn : n < 16) (slot : Nat) (rs : List (Nat × Word)) (w : Word) (s : State) :
    applyWord slot rs (0x600100 + 0x20 * n) w s = applySieve n w s := by
  have hbase : 0x600100 ≤ 0x600100 + 0x20 * n := Nat.le_add_right _ _
  have hlt : 0x600100 + 0x20 * n < 0x600100 + 0x20 * 16 := by omega
  have hsub : 0x600100 + 0x20 * n - 0x600100 = 0x20 * n := Nat.add_sub_cancel_left ..
  have hmask : within 0x20020 4 4 (0x600100 + 0x20 * n) = false := by
    rw [within, decide_eq_false (p := 0x600100 + 0x20 * n < 0x20020 + 4 * 4) (by omega), Bool.and_false, Bool.false_and]
  have hway : within 0x202100 4 128 (0x600100 + 0x20 * n) = false := by
    rw [within, decide_eq_false (p := 0x600100 + 0x20 * n < 0x202100 + 4 * 128) (by omega), Bool.and_false, Bool.false_and]
  have hwithin : within 0x600100 0x20 16 (0x600100 + 0x20 * n) = true := by
    rw [within, decide_eq_true hbase, decide_eq_true hlt, hsub, Nat.mul_mod_right]
    rfl
  have hindex : (0x600100 + 0x20 * n - 0x600100) / 0x20 = n := by omega
  generalize 0x600100 + 0x20 * n = a at *
  unfold applyWord
  rw [if_neg (by omega), hmask, if_neg Bool.false_ne_true]
  iterate 14 rw [if_neg (by omega)]
  rw [hway, if_neg Bool.false_ne_true]
  iterate 4 rw [if_neg (by omega)]
  rw [if_pos hwithin, hindex]

theorem sivSetSelect_takesEffect {c : Command} {s : State} {n : Nat} {v : Word} {x : ChainMirror} {y : Chain} (hn : n < 16)
    (hx : s.mir.siv[n]? = some x) (hy : s.siv.chains[n]? = some y) (hdue : dueIs (0x600100 + 0x20 * n) [v] c s) :
    ∃ t, exec (.sivSetSelect .effect n v) s = .next t ∧ t.siv.chains[n]? = some { y with selected := some (fieldOf v 1 0) } ∧
      (∃ z, t.mir.siv[n]? = some z ∧ z.ctrl = v ∧ z.phase = 3 ∧ z.fade = (chainDecl n s).fade ∧ z.boundary = none) ∧
      (∀ k, k ≠ n → t.mir.siv[k]? = s.mir.siv[k]? ∧ t.siv.chains[k]? = s.siv.chains[k]?) ∧
      t = { takenMir c { s.mir with siv := t.mir.siv } s with siv := { s.siv with chains := t.siv.chains } } := by
  have hexec : exec (.sivSetSelect .effect n v) s = .next (landed c (applySieve n v (noneDue s))) := by
    refine congrArg Host.Outcome.next ((exactCommand_of_word hdue (isLocal_of_lt (by omega))).trans ?_)
    rw [applyWord_sieve hn]
  refine ⟨_, hexec, (List.getElem?_modify_eq _ _ _).trans (congrArg _ hy), ⟨_, (List.getElem?_modify_eq _ _ _).trans (congrArg _ hx), rfl, rfl, rfl, rfl⟩,
    fun k hk => ⟨?_, ?_⟩, rfl⟩
  · exact List.getElem?_modify_ne _ _ (Ne.symm hk)
  · exact List.getElem?_modify_ne _ _ (Ne.symm hk)

/-! ## CAN_RESTART and CAN_b_WARN (R302, R307) -/

/-- A bus restarted. -/
def busRestarted (x : CanBus) : CanBus := { x with state := 0, txErr := 0, rxErr := 0, begun := false }

/-- One bus of a restart. -/
def restartStep (mask : Nat) (s : State) (i : Nat) : State :=
  if mask.testBit i ∧ (busState (i + 1) s).state = 4 then busEvents (i + 1) (modBus (i + 1) busRestarted s) else s

theorem restartStep_spec (mask i : Nat) (s : State) (hi : i < s.fld.buses.length) : BusesOnly s (restartStep mask s i) ∧
    (restartStep mask s i).fld.buses.length = s.fld.buses.length ∧
    busState (i + 1) (restartStep mask s i) =
      (if mask.testBit i ∧ (busState (i + 1) s).state = 4 then busRestarted (busState (i + 1) s) else busState (i + 1) s) ∧
    ∀ b, 1 ≤ b → b ≠ i + 1 → busState b (restartStep mask s i) = busState b s := by
  unfold restartStep
  split
  · have hevents := EventsOnly.busEvents (i + 1) (modBus (i + 1) busRestarted s)
    have hlen : (busEvents (i + 1) (modBus (i + 1) busRestarted s)).fld = (modBus (i + 1) busRestarted s).fld :=
      (congrArg State.fld hevents.eq).trans rfl
    refine ⟨(BusesOnly.modBus (i + 1) busRestarted s).trans (.of_events hevents), ?_, ?_, fun b hb hne => ?_⟩
    · rw [hlen, length_modBus]
    · rw [busState_of_events hevents, busState_modBus_same (by omega) hi]
    · rw [busState_of_events hevents, busState_modBus_other hb hne]
  · exact ⟨.refl s, rfl, rfl, fun b _ _ => rfl⟩

/-- A restart takes the named buses that are held off, and no other. -/
theorem foldl_restartStep (mask : Nat) (l : List Nat) : ∀ s : State, l.Nodup → (∀ i ∈ l, i < s.fld.buses.length) →
    BusesOnly s (l.foldl (restartStep mask) s) ∧
    ∀ b, 1 ≤ b → busState b (l.foldl (restartStep mask) s) =
      if b - 1 ∈ l ∧ mask.testBit (b - 1) ∧ (busState b s).state = 4 then busRestarted (busState b s) else busState b s := by
  induction l with
  | nil => exact fun s _ _ => ⟨.refl s, fun b _ => by simp⟩
  | cons i l ih =>
    intro s hnodup hlt
    obtain ⟨hi, hnodup⟩ := List.nodup_cons.mp hnodup
    obtain ⟨honly, hlen, hsame, hother⟩ := restartStep_spec mask i s (hlt i List.mem_cons_self)
    obtain ⟨hionly, hibus⟩ := ih (restartStep mask s i) hnodup (fun j hj => hlen ▸ hlt j (List.mem_cons_of_mem i hj))
    refine ⟨honly.trans hionly, fun b hb => ?_⟩
    rw [List.foldl_cons, hibus b hb]
    by_cases hbi : b = i + 1
    · subst hbi
      rw [if_neg (fun h => hi h.1), hsame]
      simp
    · have hne : b - 1 ≠ i := by omega
      simp only [hother b hb hbi, List.mem_cons, hne, false_or]

theorem canRestart_takesEffect {c : Command} {s : State} {m : Word} (hlen : s.fld.buses.length = 8) (hdue : dueIs 0x800014 [m] c s) :
    ∃ t, exec (.canRestart .effect m) s = .next t ∧
      (∀ b, 1 ≤ b → b ≤ 8 → busState b t = if m.toNat.testBit (b - 1) ∧ (busState b s).state = 4
        then { busState b s with state := 0, txErr := 0, rxErr := 0, begun := false } else busState b s) ∧
      t = withEvents { taken c s with fld := { s.fld with buses := t.fld.buses } } t := by
  have hexec : exec (.canRestart .effect m) s = .next (landed c ((List.range 8).foldl (restartStep m.toNat) (noneDue s))) :=
    congrArg Host.Outcome.next (exactCommand_of_word hdue (by decide))
  obtain ⟨honly, hbus⟩ := foldl_restartStep m.toNat (List.range 8) (noneDue s) List.nodup_range
    (fun i hi => hlen.symm ▸ List.mem_range.mp hi)
  generalize (List.range 8).foldl (restartStep m.toNat) (noneDue s) = u at *
  obtain ⟨bs, e, rfl⟩ : ∃ bs e, u = withEvents { noneDue s with fld := { s.fld with buses := bs } } e := ⟨_, _, honly.eq⟩
  refine ⟨_, hexec, fun b h1 h8 => (hbus b h1).trans ?_, rfl⟩
  have hmem : b - 1 ∈ List.range 8 := List.mem_range.mpr (by omega)
  simp only [hmem, true_and]
  rfl

/-- Bus b with new warning thresholds. -/
def warnWritten (b : Nat) (w : Word) (s : State) : State :=
  { s with mir := { s.mir with fld := { s.mir.fld with warn := modAt s.mir.fld.warn b (fun _ => w) } } }

/-- A bus that is not off takes the state of its counters. -/
def busJudged (warn : Nat × Nat) (x : CanBus) : CanBus := if x.state < 3 then { x with state := counterState warn x.txErr x.rxErr } else x

theorem applyWord_warn {b : Nat} (h1 : 1 ≤ b) (h8 : b ≤ 8) (slot : Nat) (rs : List (Nat × Word)) (w : Word) (s : State) :
    applyWord slot rs (0x800100 + 4 * (b - 1)) w s =
      busEvents b (modBus b (busJudged (warnOf b (warnWritten (b - 1) w s))) (warnWritten (b - 1) w s)) := by
  match b, h1, h8 with
  | 1, _, _ | 2, _, _ | 3, _, _ | 4, _, _ | 5, _, _ | 6, _, _ | 7, _, _ | 8, _, _ => rfl

theorem canWarnWrite_takesEffect {c : Command} {s : State} {b : Nat} {v : Word} (h1 : 1 ≤ b) (h8 : b ≤ 8) (hlen : s.mir.fld.warn.length = 8)
    (hdue : dueIs (0x800100 + 4 * (b - 1)) [v] c s) : ∃ t, exec (.canWarnWrite .effect b v) s = .next t ∧ t.mir.fld.warn[b - 1]? = some v ∧
      (∀ k, k ≠ b - 1 → t.mir.fld.warn[k]? = s.mir.fld.warn[k]?) ∧ (∀ k, 1 ≤ k → k ≠ b → busState k t = busState k s) ∧
      (3 ≤ (busState b s).state → busState b t = busState b s) ∧
      t = withEvents { takenMir c { s.mir with fld := { s.mir.fld with warn := t.mir.fld.warn } } s with
        fld := { s.fld with buses := t.fld.buses } } t := by
  have hexec : exec (.canWarnWrite .effect b v) s = .next (landed c (busEvents b
      (modBus b (busJudged (warnOf b (warnWritten (b - 1) v (noneDue s)))) (warnWritten (b - 1) v (noneDue s))))) := by
    refine congrArg Host.Outcome.next ((exactCommand_of_word hdue (isLocal_of_lt (by omega))).trans ?_)
    rw [applyWord_warn h1 h8]
  generalize warnOf b (warnWritten (b - 1) v (noneDue s)) = warn at hexec
  have honly := (BusesOnly.modBus b (busJudged warn) (warnWritten (b - 1) v (noneDue s))).trans
    (.of_events (EventsOnly.busEvents b (modBus b (busJudged warn) (warnWritten (b - 1) v (noneDue s)))))
  have hevents := EventsOnly.busEvents b (modBus b (busJudged warn) (warnWritten (b - 1) v (noneDue s)))
  have hother (k : Nat) (hk : 1 ≤ k) (hne : k ≠ b) :
      busState k (busEvents b (modBus b (busJudged warn) (warnWritten (b - 1) v (noneDue s)))) = busState k s := by
    rw [busState_of_events hevents, busState_modBus_other hk hne]
    rfl
  have hsame (hoff : 3 ≤ (busState b s).state) :
      busState b (busEvents b (modBus b (busJudged warn) (warnWritten (b - 1) v (noneDue s)))) = busState b s := by
    rw [busState_of_events hevents]
    by_cases hin : b ≤ s.fld.buses.length
    · rw [busState_modBus_same (s := warnWritten (b - 1) v (noneDue s)) h1 hin]
      exact if_neg (Nat.not_lt.mpr hoff)
    · have hnone (l : List CanBus) (hl : l.length = s.fld.buses.length) : l.getD (b - 1) {} = {} := by
        rw [List.getD_eq_getElem?_getD, List.getElem?_eq_none (by omega)]
        rfl
      exact (hnone _ (length_modBus b (busJudged warn) (warnWritten (b - 1) v (noneDue s)))).trans (hnone _ rfl).symm
  generalize busEvents b (modBus b (busJudged warn) (warnWritten (b - 1) v (noneDue s))) = u at *
  obtain ⟨bs, e, rfl⟩ : ∃ bs e, u = withEvents { warnWritten (b - 1) v (noneDue s) with fld := { s.fld with buses := bs } } e := ⟨_, _, honly.eq⟩
  refine ⟨_, hexec, ?_, fun k hk => ?_, hother, hsame, rfl⟩
  · have hin : b - 1 < (noneDue s).mir.fld.warn.length := by
      rw [show (noneDue s).mir.fld.warn = s.mir.fld.warn from rfl, hlen]
      omega
    exact (List.getElem?_modify_eq _ _ _).trans (by rw [List.getElem?_eq_getElem hin]; rfl)
  · exact List.getElem?_modify_ne _ _ (Ne.symm hk)

/-! ## TRV_RESET and TRV_WIRECHK (R338, R345) -/

/-- The latches of a channel cleared where the mask names it. -/
def latchesCleared (mask k : Nat) (c : SafeChannel) : SafeChannel :=
  if mask.testBit k then { c with slt := false, sts := false, sls := false, estop := false } else c

theorem latchesCleared_latches (mask k : Nat) (c : SafeChannel) : (latchesCleared mask k c).slt = (c.slt && !mask.testBit k) ∧
    (latchesCleared mask k c).sts = (c.sts && !mask.testBit k) ∧ (latchesCleared mask k c).sls = (c.sls && !mask.testBit k) ∧
    (latchesCleared mask k c).estop = (c.estop && !mask.testBit k) := by
  unfold latchesCleared
  cases mask.testBit k <;> simp

theorem safeChannel_applyReset {k : Nat} (mask : Nat) {s : State} (hk : k < s.mir.trv.channels.length) :
    ∃ p, safeChannel k (applyReset mask s) = { latchesCleared mask k (safeChannel k s) with permit := p } := by
  have hchannels : (applyReset mask s).mir.trv.channels = ((s.mir.trv.channels.mapIdx (latchesCleared mask)).mapIdx fun k c =>
      { c with permit := permitOf k c (modTrv (fun t => { t with channels := mapAt t.channels (latchesCleared mask) }) s) }) := rfl
  refine ⟨permitOf k (latchesCleared mask k (safeChannel k s)) (modTrv (fun t => { t with channels := mapAt t.channels (latchesCleared mask) }) s), ?_⟩
  rw [safeChannel, hchannels, List.getD_eq_getElem?_getD, List.getElem?_mapIdx, List.getElem?_mapIdx, List.getElem?_eq_getElem hk, safeChannel,
    List.getD_eq_getElem?_getD, List.getElem?_eq_getElem hk]
  rfl

theorem trvReset_takesEffect {c : Command} {s : State} {m : Word} (hlen : s.mir.trv.channels.length = 8) (hdue : dueIs 0xA0000C [m] c s) :
    ∃ t, exec (.trvReset .effect m) s = .next t ∧
      (∀ k, k < 8 → (safeChannel k t).slt = ((safeChannel k s).slt && !m.toNat.testBit k) ∧
        (safeChannel k t).sts = ((safeChannel k s).sts && !m.toNat.testBit k) ∧
        (safeChannel k t).sls = ((safeChannel k s).sls && !m.toNat.testBit k) ∧
        (safeChannel k t).estop = ((safeChannel k s).estop && !m.toNat.testBit k)) ∧
      t = takenMir c { s.mir with trv := { s.mir.trv with channels := t.mir.trv.channels } } s := by
  have hexec : exec (.trvReset .effect m) s = .next (landed c (applyReset m.toNat (noneDue s))) :=
    congrArg Host.Outcome.next (exactCommand_of_word hdue (by decide))
  refine ⟨_, hexec, fun k hk => ?_, rfl⟩
  obtain ⟨p, hp⟩ := safeChannel_applyReset m.toNat (s := noneDue s) (k := k) (hlen.symm ▸ hk)
  rw [show safeChannel k (landed c (applyReset m.toNat (noneDue s))) = _ from hp]
  exact latchesCleared_latches m.toNat k (safeChannel k s)

/-- The word of TRV_WIRECHK. -/
theorem wirechkWord_fields {k : Nat} (hk : k < 8) : fieldOf (pack [(k, 3, 0), (1, 1, 8)]) 2 0 = k ∧ bitOf (pack [(k, 3, 0), (1, 1, 8)]) 8 = true ∧
    fieldOf (pack [(k, 3, 0)]) 2 0 = k ∧ bitOf (pack [(k, 3, 0)]) 8 = false := by
  have hon : (pack [(k, 3, 0), (1, 1, 8)]).toNat = k + 256 := by
    simp only [pack, List.foldl_cons, List.foldl_nil, BitVec.toNat_ofNat]
    omega
  have hoff : (pack [(k, 3, 0)]).toNat = k := pack_one hk (by decide)
  simp only [bitOf, fieldOf, hon, hoff, decide_eq_true_eq, decide_eq_false_iff_not]
  omega

section
variable {c : Command} {s : State} {k : Nat} (hlen : s.trv.channels.length = 8)
include hlen

theorem wirechk_applied {w : Word} {on : Bool} (hk : k < 8) (hfield : fieldOf w 2 0 = k) (hbit : bitOf w 8 = on) (hdue : dueIs 0xA00010 [w] c s) :
    ∃ t, exactCommand .effect 0xA00010 [w] s = t ∧ channelLocal k t = { channelLocal k s with wirechk := on, wirechkEpochs := 0 } ∧
      (∀ j, j ≠ k → channelLocal j t = channelLocal j s) ∧ t = { taken c s with trv := { s.trv with channels := t.trv.channels } } := by
  have hexec : exactCommand .effect 0xA00010 [w] s =
      landed c (modChannel k (fun c => { c with wirechk := on, wirechkEpochs := 0 }) (noneDue s)) := by
    refine (exactCommand_of_word hdue (by decide)).trans ?_
    have happly (rs : List (Nat × Word)) (u : State) : applyWord c.slot rs 0xA00010 w u =
      modChannel (fieldOf w 2 0) (fun c => { c with wirechk := bitOf w 8, wirechkEpochs := 0 }) u := rfl
    rw [happly, hfield, hbit]
  exact ⟨_, hexec, channelLocal_modChannel_same (s := noneDue s) _ (hlen.symm ▸ hk), fun j hj => channelLocal_modChannel_other (s := noneDue s) _ hj, rfl⟩

end

theorem applyWord_dispute (slot : Nat) (rs : List (Nat × Word)) (w : Word) (s : State) : applyWord slot rs 0x300044 w s = applyDispute w s := rfl

/-- Settles O53: the one due command, by the register that it writes. -/
theorem sensorAndFieldCommandsTakeEffect : Obligations.SensorAndFieldCommandsTakeEffect := by
  intro c s
  refine ⟨fun v hdue => ?_, fun v hdue => ?_, fun v hdue => ?_, fun v hdue => ?_, fun n v x y hn hx hy => sivSetSelect_takesEffect hn hx hy,
    fun m hlen => canRestart_takesEffect hlen, fun b v h1 h8 hlen => canWarnWrite_takesEffect h1 h8 hlen,
    fun m hlen => trvReset_takesEffect hlen, fun k hk hlen => ⟨fun hdue => ?_, fun hdue => ?_⟩⟩
  · refine congrArg Host.Outcome.next ((exactCommand_of_word hdue (by decide)).trans ?_)
    cases hbit : bitOf v 8
    all_goals
      simp only [applyWord_dispute, applyDispute, modWsk, hbit]
      rfl
  · exact congrArg Host.Outcome.next (exactCommand_of_word hdue (by decide))
  · exact congrArg Host.Outcome.next (exactCommand_of_word hdue (by decide))
  · exact congrArg Host.Outcome.next (exactCommand_of_word hdue (by decide))
  · obtain ⟨hfield, hbit, -⟩ := wirechkWord_fields hk
    obtain ⟨t, ht, hspec⟩ := wirechk_applied hlen hk hfield hbit hdue
    exact ⟨t, congrArg Host.Outcome.next ht, hspec⟩
  · obtain ⟨-, -, hfield, hbit⟩ := wirechkWord_fields hk
    obtain ⟨t, ht, hspec⟩ := wirechk_applied hlen hk hfield hbit hdue
    exact ⟨t, congrArg Host.Outcome.next ht, hspec⟩

end Sys2Proof.Machine
end

section
/-! Unit-local writes at their effect (R86, R255, R366, R385, R429, R430, R437): what a write does once it is due, and the restart. -/

namespace Sys2Proof.Machine

/-! ## Taking effect -/

section
variable {addr slot : Nat} {w : Word} {s : State} (h : localIs addr [w] slot s) (haddr : isLocal addr = true)
include h

theorem effectLocal_of_localIs {hit : List Word → Bool} (hhit : hit [w] = true) : effectLocal addr hit s = applyLocal slot addr w (localTaken s) := by
  obtain ⟨e, hdue, hepoch, hmode⟩ := h
  have hmode' : localMode addr (localTaken s) = true := hmode
  unfold effectLocal
  rw [hdue, List.find?_cons_of_pos (by simp [hhit, hepoch])]
  have htaken : modHap (fun p => { p with localDue := p.localDue.erase (addr, [w], e, slot) }) s = localTaken s := by
    rw [modHap, hdue, List.erase_cons_head]
    rfl
  have hregs : regsOf addr [w] = [(addr, w)] := rfl
  dsimp only
  rw [htaken, applyLocalWrite, hregs, List.foldl_cons, List.foldl_nil, if_pos hmode']

include haddr

/-- The one due write of its words takes effect. -/
theorem exactCommand_of_localIs : exactCommand .effect addr [w] s = applyLocal slot addr w (localTaken s) := by
  unfold exactCommand commandPoint
  simp only [haddr, if_true]
  exact effectLocal_of_localIs h (beq_self_eq_true _)

theorem anyWrite_of_localIs : anyWrite .effect addr s = applyLocal slot addr w (localTaken s) := by
  unfold anyWrite commandPoint
  simp only [haddr, if_true]
  exact effectLocal_of_localIs h rfl

end

/-! ## A restart (R65, R385, R440) -/

/-- What a start takes over from the state before it. -/
structure RestartView where
  upd : Update
  dmp : Dump
  life : Life
  mramBad : List MramItem
  lost : Bool
  unit : UnitId

def restartView (s : State) : RestartView :=
  { upd := s.upd, dmp := s.dmp, life := s.life, mramBad := s.evt.mramBad, lost := s.log.closeOutLost, unit := s.um.unit }

theorem EventsOnly.restartView {s t : State} (h : EventsOnly s t) : restartView t = restartView s := (congrArg Machine.restartView h.eq).trans rfl

theorem restartView_changeMode (dst : Mode) (cause : Nat) (s : State) : restartView (changeMode dst cause s) = restartView s := by
  by_cases h : transition s.um.mode dst = true
  · exact (changeMode_events h cause).restartView.trans rfl
  · rw [changeMode, if_neg h]

theorem restartView_writeRecord (d : DueRecord) (s : State) : restartView (writeRecord d s) = restartView s := by
  unfold writeRecord
  split
  · rfl
  · dsimp only
    split
    · rfl
    · split
      · split
        · rfl
        · exact (EventsOnly.setRaised 18 _).restartView.trans rfl
      · rfl

theorem restartView_writeDue (s : State) : restartView (writeDue s) = restartView s := by
  have hfold (l : List DueRecord) : ∀ u : State, restartView (l.foldl (fun s d => writeRecord d s) u) = restartView u := by
    induction l with
    | nil => exact fun u => rfl
    | cons d l ih => exact fun u => (ih (writeRecord d u)).trans (restartView_writeRecord d u)
  exact (rfl : restartView (writeDue s) = restartView ((dueOrder s.evt.due).foldl (fun s d => writeRecord d s) s)).trans (hfold _ s)

theorem writeDue_due (s : State) : (writeDue s).evt.due = [] := rfl

/-- With nothing due, a reset asserted after its line has completed loses nothing. -/
theorem restartView_assertReset {s : State} (hdue : s.evt.due = []) : restartView (assertReset true s) = restartView s := by
  have hline : restartView (closeOutPanel true s) = restartView s ∧ (closeOutPanel true s).evt.due = [] := by
    have hcomplete : ∃ p, completeLine s = { s with pnl := p } := by
      unfold completeLine
      split
      · split
        · exact ⟨_, rfl⟩
        · split <;> exact ⟨_, rfl⟩
      · exact ⟨_, rfl⟩
    unfold closeOutPanel
    split
    · exact ⟨rfl, hdue⟩
    · obtain ⟨p, hp⟩ := hcomplete
      rw [if_pos rfl, hp]
      exact ⟨rfl, hdue⟩
  obtain ⟨hview, hnone⟩ := hline
  have hrecords : closeOutRecords (closeOutPanel true s) = closeOutPanel true s := by
    unfold closeOutRecords
    rw [hnone]
    rfl
  unfold assertReset
  dsimp only
  rw [hrecords]
  exact ((EventsOnly.updateRelays _).restartView.trans rfl).trans hview

/-- The state from which a restart starts the unit. -/
def restartBase (s : State) : State := assertReset true (writeDue (changeMode .boot 0 s))

theorem restartView_restartBase (s : State) : restartView (restartBase s) = restartView s :=
  (restartView_assertReset (writeDue_due _)).trans ((restartView_writeDue _).trans (restartView_changeMode .boot 0 s))

/-- Without a commit record the unit starts in BOOT. -/
theorem restartUnit_of_none {s : State} (h : s.upd.commit = none) : ∃ crack, restartUnit s = resetUnit .locRestart s.um.unit crack (restartBase s) := by
  have hunit : (writeDue (changeMode .boot 0 s)).um.unit = s.um.unit :=
    congrArg RestartView.unit ((restartView_writeDue _).trans (restartView_changeMode .boot 0 s))
  refine ⟨(writeDue (changeMode .boot 0 s)).pnl.crack, ?_⟩
  unfold restartUnit
  rw [h, if_neg (by decide), ← hunit]
  rfl

/-- A planned start with no dump held and nothing lost has no record due. -/
theorem resetUnit_due {s : State} (hdump : s.dmp.valid = false) (hlost : s.log.closeOutLost = false) (unit : UnitId) (crack : Bool) :
    (resetUnit .locRestart unit crack s).evt.due = [] := by
  have hstart : (stateAtStart .locRestart unit crack s).dmp.valid = false := by
    rw [show (stateAtStart .locRestart unit crack s).dmp = startDump s from rfl, startDump, hdump]
    rfl
  unfold resetUnit startEvents
  dsimp only
  rw [hstart, hlost]
  simp only [when, Bool.false_eq_true, if_false]
  refine (congrArg (fun t : State => t.evt.due) (if_neg (by decide))).trans ?_
  split
  · exact setRaised_due 18 _
  · rfl

theorem locRestart_takesEffect {slot : Nat} {s : State} {w : Word} (h : localIs 0xFF0018 [w] slot s) :
    (s.upd.commit = none → ∃ t, exec (.locRestart .effect) s = .next t ∧ t.um = { resetCause := .locRestart, unit := s.um.unit } ∧ t.ex = {} ∧
      t.cfg = {} ∧ t.hap = {} ∧ t.upd.bankA = s.upd.bankA ∧ t.upd.bankB = s.upd.bankB ∧ t.upd.staging = s.upd.staging ∧ t.rng = {} ∧
      (s.dmp.valid = false → s.log.closeOutLost = false → t.evt.due = []) ∧
      (s.evt.mramBad.contains .lifeCycle = false → t.life.state = s.life.state)) ∧
    (s.upd.commit.isSome = true → exec (.locRestart .effect) s = .next { localTaken s with upd := { s.upd with state := 7, progress := 0 } }) := by
  have hexec : exec (.locRestart .effect) s = .next (restartUnit (localTaken s)) := congrArg Host.Outcome.next (anyWrite_of_localIs h (by decide))
  constructor
  · intro hcommit
    obtain ⟨crack, hrestart⟩ := restartUnit_of_none (s := localTaken s) hcommit
    have hview := restartView_restartBase (localTaken s)
    rw [hrestart] at hexec
    generalize restartBase (localTaken s) = b at *
    have hupd : b.upd = s.upd := congrArg RestartView.upd hview
    have hdmp : b.dmp = s.dmp := congrArg RestartView.dmp hview
    have hlost : b.log.closeOutLost = s.log.closeOutLost := congrArg RestartView.lost hview
    have hlife : b.life = s.life := congrArg RestartView.life hview
    have hbad : b.evt.mramBad = s.evt.mramBad := congrArg RestartView.mramBad hview
    have hum := resetUnit_um .locRestart s.um.unit crack b
    obtain ⟨hex, hcfg, hhap, -, hrng, -⟩ := resetUnit_fresh .locRestart s.um.unit crack b
    have hstart := resetUnit_upd .locRestart s.um.unit crack b
    refine ⟨_, hexec, hum, hex, hcfg, hhap, ?_, ?_, ?_, hrng, fun hvalid hnone => ?_, fun hgood => ?_⟩
    · exact (congrArg Update.bankA hstart).trans (congrArg Update.bankA hupd : b.upd.bankA = s.upd.bankA)
    · exact (congrArg Update.bankB hstart).trans (congrArg Update.bankB hupd : b.upd.bankB = s.upd.bankB)
    · exact (congrArg Update.staging hstart).trans (congrArg Update.staging hupd : b.upd.staging = s.upd.staging)
    · exact resetUnit_due (hdmp ▸ hvalid) (hlost.trans hnone) _ _
    · refine (congrArg Life.state (resetUnit_life .locRestart s.um.unit crack b)).trans ?_
      rw [startLife_state, hbad, hgood, hlife]
      rfl
  · intro hcommit
    exact hexec.trans (congrArg Host.Outcome.next (if_pos hcommit))

/-! ## LOC_MAINT and the dump (R86, R366) -/

section
variable {slot : Nat} {s : State}

theorem locMaint_takesEffect {w : Word} (h : localIs 0xFF001C [w] slot s) : ∃ t, exec (.locMaint .effect) s = .next t ∧ t.um.mode = .maintenance ∧
    t.um.maintFromStandby = false ∧ t.mir.mode.func = none ∧ t.cfg = s.cfg ∧ t.ex = s.ex ∧ t.hap = (localTaken s).hap ∧ t.log = s.log := by
  have hmode : s.um.mode = .hold := by
    obtain ⟨e, -, -, htakes⟩ := h
    by_contra hne
    unfold localMode at htakes
    cases hm : s.um.mode
    case hold => exact hne hm
    all_goals
      rw [hm] at htakes
      cases htakes
  have hexec : exec (.locMaint .effect) s = .next (toMaintenance (localTaken s)) := congrArg Host.Outcome.next (anyWrite_of_localIs h (by decide))
  have htransition : transition (endFunction (localTaken s)).um.mode .maintenance = true := by
    rw [show (endFunction (localTaken s)).um.mode = .hold from hmode]
    rfl
  have hevents := changeMode_events htransition 0
  have hto : toMaintenance (localTaken s) = (let u := changeMode .maintenance 0 (endFunction (localTaken s))
    { u with um := { u.um with maintFromStandby := false } }) := rfl
  rw [hto] at hexec
  generalize changeMode .maintenance 0 (endFunction (localTaken s)) = u at *
  obtain ⟨v, rfl⟩ : ∃ v, u = withEvents { endFunction (localTaken s) with um := { s.um with mode := .maintenance } } v := ⟨_, hevents.eq⟩
  exact ⟨_, hexec, rfl, rfl, rfl, rfl, rfl, rfl, rfl⟩

theorem locDmpRelease_takesEffect {w : Word} (h : localIs 0xFF0E48 [w] slot s) : ∃ t, exec (.locDmpRelease .effect) s = .next t ∧
    Cleared 17 { localTaken s with dmp := { s.dmp with valid := false, readRanges := [] } } t :=
  ⟨_, congrArg Host.Outcome.next (anyWrite_of_localIs h (by decide)), cleared_clearEvent 17 _⟩

/-! ## Manual actions and health marks (R429, R430) -/

/-- The word of LOC_KTL_MANUAL. -/
theorem manualWord_fields {code i : Nat} (hcode : code < 16) (hi : i < 256) :
    fieldOf (manualWord code i) 11 8 = code ∧ fieldOf (manualWord code i) 7 0 = i := by
  have hword : (manualWord code i).toNat = code * 256 + i := by
    simp only [manualWord, pack, List.foldl_cons, List.foldl_nil, BitVec.toNat_ofNat]
    omega
  simp only [fieldOf, hword]
  omega

/-- A manual action waits while a slice is in progress. -/
def manualWaits (s : State) : Bool := s.ktl.running.isSome || s.fab.test.isSome || s.fab.variantDue.isSome

/-- Kettle's report of a manual action taken. -/
def manualTaken (code i : Nat) (s : State) : Kettle :=
  { s.ktl with manual := some (code, i), manualHeld := manualWaits s, mResult := 1, mCode := code, mItem := i }

theorem startManual_eq {code i : Nat} (hcode : code < 16) (hi : i < 256) (s : State) : startManual (manualWord code i) s =
    { s with ktl := manualTaken code i s
             fab := if code = 1 ∧ ¬ manualWaits s ∧ s.fab.marked.isEmpty then { s.fab with variantDue := some (some i) } else s.fab
             um := if 8 ≤ code then { s.um with mustRestart := true } else s.um } := by
  obtain ⟨hc, hitem⟩ := manualWord_fields hcode hi
  unfold startManual
  rw [hc, hitem]
  rfl

theorem exactCommand_of_manual {code i : Nat} (h : localIs 0xFF110C [manualWord code i] slot s) :
    exactCommand .effect 0xFF110C [manualWord code i] s = startManual (manualWord code i) (localTaken s) :=
  exactCommand_of_localIs h (by decide)

/-- An action other than the Skillet test leaves the fabric. -/
theorem manual_takesEffect {code i : Nat} (hcode : 1 < code ∧ code < 16) (hi : i < 256) (h : localIs 0xFF110C [manualWord code i] slot s) :
    exactCommand .effect 0xFF110C [manualWord code i] s = { localTaken s with
      ktl := manualTaken code i s, um := if 8 ≤ code then { s.um with mustRestart := true } else s.um } := by
  have hfab : ¬ (code = 1 ∧ ¬ manualWaits (localTaken s) = true ∧ (localTaken s).fab.marked.isEmpty = true) := fun hc => Nat.ne_of_gt hcode.1 hc.1
  rw [exactCommand_of_manual h, startManual_eq hcode.2 hi, if_neg hfab]
  rfl

theorem manualSkillet_takesEffect {i : Nat} (hi : i < 256) (h : localIs 0xFF110C [manualWord 1 i] slot s) :
    exactCommand .effect 0xFF110C [manualWord 1 i] s = { localTaken s with
      ktl := manualTaken 1 i s
      fab := if manualWaits s = false ∧ s.fab.marked = [] then { s.fab with variantDue := some (some i) } else s.fab } := by
  have hcond : (1 = 1 ∧ ¬ manualWaits (localTaken s) = true ∧ (localTaken s).fab.marked.isEmpty = true) ↔ (manualWaits s = false ∧ s.fab.marked = []) := by
    rw [show manualWaits (localTaken s) = manualWaits s from rfl, show (localTaken s).fab = s.fab from rfl, List.isEmpty_iff, Bool.not_eq_true]
    exact and_iff_right rfl
  rw [exactCommand_of_manual h, startManual_eq (by decide) hi]
  by_cases hfree : manualWaits s = false ∧ s.fab.marked = []
  · rw [if_pos (hcond.mpr hfree), if_pos hfree]
    rfl
  · rw [if_neg (mt hcond.mp hfree), if_neg hfree]
    rfl

theorem locKtlClear_takesEffect {v : Word} (h : localIs 0xFF1114 [v] slot s) : ∃ t, exec (.locKtlClear .effect v) s = .next t ∧
    t.ktl.clearSpares = (s.ktl.clearSpares || bitOf v 9) ∧
    (∀ k, k < 8 → (k ∈ t.ktl.clearSkillets ↔ k ∈ s.ktl.clearSkillets ∨ v.toNat.testBit k = true)) ∧
    t = { localTaken s with ktl := { s.ktl with clearSpares := t.ktl.clearSpares, clearSkillets := t.ktl.clearSkillets } } := by
  have hexec : exec (.locKtlClear .effect v) s = .next (clearHealth v (localTaken s)) := congrArg Host.Outcome.next (exactCommand_of_localIs h (by decide))
  have hfold (l : List Nat) (k : Nat) : ∀ m : List Nat, k ∈ l.foldl (fun l k => insertNat k l) m ↔ k ∈ m ∨ k ∈ l := by
    induction l with
    | nil => simp
    | cons a l ih =>
      intro m
      rw [List.foldl_cons, ih, mem_insertNat, List.mem_cons]
      tauto
  refine ⟨_, hexec, rfl, fun k hk => (hfold (bitsOf 8 v.toNat) k s.ktl.clearSkillets).trans ?_, rfl⟩
  rw [bitsOf, List.mem_filter, List.mem_range]
  exact or_congr_right (and_iff_right hk)

end

/-- Settles O54: the one due write, by its register; a manual action by its code. -/
theorem unitLocalWritesTakeEffect : Obligations.UnitLocalWritesTakeEffect := by
  intro slot s
  refine ⟨fun w => locRestart_takesEffect, fun w => locMaint_takesEffect, fun w => locDmpRelease_takesEffect, fun h => ?_,
    fun i hi => ⟨fun h => ?_, fun h => ?_, fun h => ?_, fun h => ?_, fun h => ?_, fun h => ?_⟩, fun v => locKtlClear_takesEffect,
    fun h => ?_, fun h => ?_, fun h => ?_⟩
  · exact congrArg Host.Outcome.next (exactCommand_of_localIs h (by decide))
  · exact congrArg Host.Outcome.next (manualSkillet_takesEffect hi h)
  · exact congrArg Host.Outcome.next (manual_takesEffect (by decide) hi h)
  · exact congrArg Host.Outcome.next (manual_takesEffect (by decide) hi h)
  · exact congrArg Host.Outcome.next (manual_takesEffect (by decide) hi h)
  · exact congrArg Host.Outcome.next (manual_takesEffect (by decide) hi h)
  · exact congrArg Host.Outcome.next (manual_takesEffect (by decide) hi h)
  · exact congrArg Host.Outcome.next (exactCommand_of_localIs h (by decide))
  · exact congrArg Host.Outcome.next (exactCommand_of_localIs h (by decide))
  · exact congrArg Host.Outcome.next (exactCommand_of_localIs h (by decide))

end Sys2Proof.Machine
end

section
/-! Update and recovery: VERIFY, the copy, and the recovery loader (R437, R438, R440, R446). -/

namespace Sys2Proof.Machine

/-! ## Verification (R438) -/

/-- The steps up to `last` looked through for one that fails. -/
def failingStep (last : Nat) (s : State) : Option Nat := ((List.range last).map (· + 1)).find? fun k => !verifyStep k s

theorem failingStep_succ (n : Nat) (s : State) :
    failingStep (n + 1) s = (failingStep n s).or (if verifyStep (n + 1) s then none else some (n + 1)) := by
  unfold failingStep
  rw [List.range_succ, List.map_append, List.find?_append]
  cases h : verifyStep (n + 1) s <;> simp [h]

theorem failingStep_of_all {n : Nat} {s : State} (h : ∀ k, 1 ≤ k → k ≤ n → verifyStep k s = true) : failingStep n s = none := by
  induction n with
  | zero => rfl
  | succ n ih =>
    rw [failingStep_succ, ih (fun k h1 hk => h k h1 (Nat.le_succ_of_le hk)), h (n + 1) (Nat.le_add_left 1 n) (Nat.le_refl _)]
    rfl

theorem failingStep_of_first {n k : Nat} {s : State} (h1 : 1 ≤ k) (hk : k ≤ n) (hfail : verifyStep k s = false)
    (hbefore : ∀ i, 1 ≤ i → i < k → verifyStep i s = true) : failingStep n s = some k := by
  induction n with
  | zero => omega
  | succ n ih =>
    rw [failingStep_succ]
    rcases Nat.lt_or_ge n k with hlast | hlast
    · obtain rfl : k = n + 1 := by omega
      rw [failingStep_of_all (fun i hi hin => hbefore i hi (by omega)), hfail]
      rfl
    · rw [ih hlast]
      rfl

theorem verifyStaging_of_all {n : Nat} {s : State} (h : ∀ k, 1 ≤ k → k ≤ n → verifyStep k s = true) : verifyStaging n s = 0 :=
  congrArg (·.getD 0) (failingStep_of_all h)

theorem verifyStaging_of_first {n k : Nat} {s : State} (h1 : 1 ≤ k) (hk : k ≤ n) (hfail : verifyStep k s = false)
    (hbefore : ∀ i, 1 ≤ i → i < k → verifyStep i s = true) : verifyStaging n s = k :=
  congrArg (·.getD 0) (failingStep_of_first h1 hk hfail hbefore)

theorem stagingVerifyComplete_of_state {s : State} (h : s.upd.state = 3) : exec .stagingVerifyComplete s = .next (finishVerify s) :=
  congrArg Host.Outcome.next (if_pos h)

/-! ## Banks (R68, R440) -/

theorem installBank_spec (b : Side) (byRecovery : Bool) (s : State) : (installBank b byRecovery s).upd.selected = b ∧
    (installBank b byRecovery s).upd.attempts = 0 ∧ bankOf b (installBank b byRecovery s) = newBank byRecovery s ∧
    bankOf (otherSide b) (installBank b byRecovery s) = bankOf (otherSide b) s ∧
    ∃ u, installBank b byRecovery s = { s with upd := u } := by
  generalize hbank : newBank byRecovery s = x
  unfold installBank
  rw [hbank]
  cases b
  · exact ⟨rfl, rfl, rfl, rfl, _, rfl⟩
  · exact ⟨rfl, rfl, rfl, rfl, _, rfl⟩

/-- What a start keeps of the banks. -/
theorem startUpdate_banks {cause : ResetCause} {unit : UnitId} {crack : Bool} {s : State} {u : Update} (h : s.upd = u) :
    (resetUnit cause unit crack s).upd.selected = u.selected ∧ (resetUnit cause unit crack s).upd.attempts = u.attempts ∧
    (resetUnit cause unit crack s).upd.commit = u.commit ∧ (resetUnit cause unit crack s).upd.bankA = u.bankA ∧
    (resetUnit cause unit crack s).upd.bankB = u.bankB := by
  rw [resetUnit_upd, startUpdate, h]
  exact ⟨rfl, rfl, rfl, rfl, rfl⟩

theorem bankCopyComplete_restarts {s : State} (h : s.upd.state = 7) : ∃ t, exec .bankCopyComplete s = .next t ∧
    t.upd.selected = otherSide s.upd.running ∧ t.upd.attempts = 0 ∧ bankOf (otherSide s.upd.running) t = newBank false s ∧
    bankOf s.upd.running t = bankOf s.upd.running s ∧ t.upd.commit = none ∧ t.um = { resetCause := .locRestart, unit := s.um.unit } ∧
    t.cfg = {} ∧ t.ex = {} := by
  have hexec : exec .bankCopyComplete s = .next (finishCopy s) := congrArg Host.Outcome.next (if_pos h)
  obtain ⟨hselected, hattempts, hnew, hold, u, hinstalled⟩ := installBank_spec (otherSide s.upd.running) false s
  rw [otherSide_otherSide] at hold
  have hfinish : finishCopy s = restartUnit { installBank (otherSide s.upd.running) false s with
    upd := { (installBank (otherSide s.upd.running) false s).upd with commit := none, state := 0, staged := 0, slot := none, progress := 0 } } := rfl
  rw [hfinish] at hexec
  rw [hinstalled] at hexec hselected hattempts hnew hold
  obtain ⟨crack, hrestart⟩ := restartUnit_of_none (s := { s with upd := { u with commit := none, state := 0, staged := 0, slot := none, progress := 0 } }) rfl
  have hview := restartView_restartBase { s with upd := { u with commit := none, state := 0, staged := 0, slot := none, progress := 0 } }
  have hupd := congrArg RestartView.upd hview
  rw [hrestart] at hexec
  generalize restartBase _ = b at *
  obtain ⟨hsel, hatt, hcommit, hA, hB⟩ := startUpdate_banks (cause := .locRestart) (unit := s.um.unit) (crack := crack) hupd
  have hbank (c : Side) : bankOf c (resetUnit .locRestart s.um.unit crack b) = bankOf c { s with upd := u } := by
    cases c
    · exact hA
    · exact hB
  obtain ⟨hex, hcfg, -⟩ := resetUnit_fresh .locRestart s.um.unit crack b
  exact ⟨_, hexec, hsel.trans hselected, hatt.trans hattempts, (hbank _).trans hnew, (hbank _).trans hold, hcommit,
    resetUnit_um .locRestart s.um.unit crack b, hcfg, hex⟩

/-! ## The recovery loader (R446) -/

/-- A datagram is a request to this loader. -/
def AskedOf (op : Nat) (r : RecReq) (s : State) : Prop :=
  r.port = .svc ∧ r.dest = (if s.um.unit = .a then 0xA9FE6001 else 0xA9FE6002, 47562) ∧ r.magic = 0x524C ∧ r.crc = crc32c (recoveryOctets op r)

theorem loaderTakes_iff (op : Nat) (r : RecReq) (s : State) : loaderTakes op r s = true ↔ AskedOf op r s := by
  have haddress : loaderAddress s = if s.um.unit = .a then 0xA9FE6001 else 0xA9FE6002 := by
    unfold loaderAddress
    cases s.um.unit <;> rfl
  unfold loaderTakes AskedOf
  rw [haddress]
  simp only [Bool.and_eq_true, beq_iff_eq, and_assoc]
  rfl

section
variable {op : Nat} {r : RecReq} {act : State → State} {s : State} (hrec : s.um.mode = .recovery) (hrun : s.um.inReset = false)

theorem recoveryRequest_of_not (hasked : ¬ AskedOf op r s) : recoveryRequest op r act s = s :=
  if_neg fun h => hasked ((loaderTakes_iff op r s).mp h.2)

include hrec hrun

theorem recovering_of : recovering s = true := by
  rw [recovering, hrec, hrun]
  rfl

theorem recoveryRequest_of_asked (hasked : AskedOf op r s) (hnew : s.upd.recSeq ≠ some r.seq) : recoveryRequest op r act s = act s :=
  (if_pos ⟨recovering_of hrec hrun, (loaderTakes_iff op r s).mpr hasked⟩).trans (if_neg hnew)

theorem recoveryRequest_of_again (hasked : AskedOf op r s) (hseq : s.upd.recSeq = some r.seq) : recoveryRequest op r act s =
    { s with out := sentBy s (.recovery (s.upd.recOp + 0x80) r.seq s.upd.recStatus r.source) :: s.out } :=
  (if_pos ⟨recovering_of hrec hrun, (loaderTakes_iff op r s).mpr hasked⟩).trans (if_pos hseq)

end

/-- The form of a recovery write. -/
theorem recoveryWriteOk_iff (r : RecReq) : recoveryWriteOk r = true ↔
    r.zero = 0 ∧ r.zero2 = 0 ∧ r.length = r.data.length ∧ r.length ≤ 1024 ∧ r.length % 4 = 0 ∧ r.offset + r.length ≤ 48 * 2 ^ 20 := by
  unfold recoveryWriteOk
  simp only [Bool.and_eq_true, beq_iff_eq, decide_eq_true_eq, and_assoc]
  rfl

section
variable {r : RecReq} {s : State} (hrec : s.um.mode = .recovery) (hrun : s.um.inReset = false) (hnew : s.upd.recSeq ≠ some r.seq)
include hrec hrun hnew

theorem recoveryWrite_of_good (hasked : AskedOf 2 r s) (hgood : recoveryWriteOk r = true) (hwf : Memory.wf 0xFF s.upd.staging = true) :
    ∃ t, exec (.recoveryWrite r) s = .next t ∧ t.out = sentBy s (.recovery 0x82 r.seq 0 r.source) :: s.out ∧
      (∀ i, i < r.length → some (memRead 0xFF t.upd.staging (r.offset + i)) = r.data[i]?) ∧
      (∀ a, (a < r.offset ∨ r.offset + r.length ≤ a) → memRead 0xFF t.upd.staging a = memRead 0xFF s.upd.staging a) ∧
      t = { s with out := t.out, upd := { s.upd with recSeq := some r.seq, recOp := 2, recStatus := 0, staging := t.upd.staging, recVerified := false } } := by
  obtain ⟨-, -, hlen, -⟩ := (recoveryWriteOk_iff r).mp hgood
  have hexec : exec (.recoveryWrite r) s = .next (answerRecovery 2 r 0
      { s with upd := { s.upd with staging := memWrites 0xFF r.offset r.data s.upd.staging, recVerified := false } }) :=
    congrArg Host.Outcome.next ((recoveryRequest_of_asked hrec hrun hasked hnew).trans (if_pos hgood))
  refine ⟨_, hexec, rfl, fun i hi => ?_, fun a ha => ?_, rfl⟩
  · exact memRead_writes_same 0xFF r.data r.offset i s.upd.staging hwf (hlen ▸ hi)
  · exact memRead_writes_other 0xFF r.data r.offset a s.upd.staging (hlen ▸ ha)

theorem recoveryVerify_answers (hasked : AskedOf 3 r s) : exec (.recoveryVerify r) s = .next (answerRecovery 3 r
    (if verifyStaging 4 s = 0 then 0 else 0x10 + verifyStaging 4 s) { s with upd := { s.upd with recVerified := verifyStaging 4 s == 0 } }) :=
  congrArg Host.Outcome.next (recoveryRequest_of_asked hrec hrun hasked hnew)

theorem recoveryInstall_of_verified (hasked : AskedOf 4 r s) (hverified : s.upd.recVerified = true) :
    ∃ t, exec (.recoveryInstall r) s = .next t ∧ t.out = sentBy s (.recovery 0x84 r.seq 0 r.source) :: s.out ∧
      t.upd.selected = installTarget s ∧ bankOf (installTarget s) t = newBank true s ∧
      bankOf (otherSide (installTarget s)) t = bankOf (otherSide (installTarget s)) s ∧
      t.um = { resetCause := .endOfRecovery, unit := s.um.unit } ∧ t.cfg = {} ∧ t.ex = {} := by
  obtain ⟨hselected, -, hnewBank, hold, u, hinstalled⟩ := installBank_spec (installTarget s) true s
  rw [hinstalled] at hselected hnewBank hold
  have hexec : exec (.recoveryInstall r) s = .next (
      let v := answerRecovery 4 r 0 (installBank (installTarget s) true s)
      let w := writeDue (changeMode .boot 0 v)
      { resetUnit .endOfRecovery w.um.unit w.pnl.crack (assertReset true w) with out := v.out }) :=
    congrArg Host.Outcome.next ((recoveryRequest_of_asked hrec hrun hasked hnew).trans (if_pos hverified))
  rw [hinstalled] at hexec
  dsimp only at hexec
  have hview := restartView_restartBase (answerRecovery 4 r 0 { s with upd := u })
  have hwritten := (restartView_writeDue (changeMode .boot 0 (answerRecovery 4 r 0 { s with upd := u }))).trans (restartView_changeMode .boot 0 _)
  have hunit : (writeDue (changeMode .boot 0 (answerRecovery 4 r 0 { s with upd := u }))).um.unit = s.um.unit := congrArg RestartView.unit hwritten
  rw [hunit] at hexec
  generalize (writeDue (changeMode .boot 0 (answerRecovery 4 r 0 { s with upd := u }))).pnl.crack = crack at hexec
  rw [restartBase] at hview
  have hupd := congrArg RestartView.upd hview
  generalize assertReset true (writeDue (changeMode .boot 0 (answerRecovery 4 r 0 { s with upd := u }))) = b at *
  obtain ⟨hsel, -, -, hA, hB⟩ := startUpdate_banks (cause := .endOfRecovery) (unit := s.um.unit) (crack := crack) hupd
  have hbank (c : Side) : bankOf c (resetUnit .endOfRecovery s.um.unit crack b) = bankOf c { s with upd := u } := by
    cases c
    · exact hA
    · exact hB
  have hum := resetUnit_um .endOfRecovery s.um.unit crack b
  obtain ⟨hex, hcfg, -⟩ := resetUnit_fresh .endOfRecovery s.um.unit crack b
  exact ⟨_, hexec, rfl, hsel.trans hselected, (hbank _).trans hnewBank, (hbank _).trans hold, hum, hcfg, hex⟩

end

/-- Settles O55: VERIFY by the first step that fails, the copy by the restart, and the loader's requests by their operation. -/
theorem updateAndRecoveryFollowTheirSteps : Obligations.UpdateAndRecoveryFollowTheirSteps := by
  intro s
  refine ⟨fun h => ⟨_, congrArg Host.Outcome.next (if_pos h), fun a => rfl, rfl, rfl⟩, fun h => ⟨fun hall => ?_, fun k h1 hk hfail hbefore => ?_⟩,
    bankCopyComplete_restarts, fun hrec hrun => ⟨fun r hnew => ⟨fun hasked => ⟨?_, ?_⟩, fun hasked => ⟨fun hgood hwf => ?_, fun hbad => ?_⟩,
      fun hasked => ⟨fun hall => ?_, fun k h1 hk hfail hbefore => ?_⟩, fun hasked => ⟨fun hnone => ?_, fun hverified => ?_⟩⟩,
      fun r b hseq => ⟨fun hasked => ?_, fun hasked => ?_, fun hasked => ?_, fun hasked => ?_⟩,
      fun r b => ⟨fun hasked => ?_, fun hasked => ?_, fun hasked => ?_, fun hasked => ?_⟩⟩⟩
  · refine ⟨_, stagingVerifyComplete_of_state h, ?_⟩
    rw [finishVerify, verifyStaging_of_all hall]
    exact raised_raise 21 _
  · rw [stagingVerifyComplete_of_state h, finishVerify, verifyStaging_of_first h1 hk hfail hbefore]
    exact congrArg Host.Outcome.next (if_neg (by omega))
  · exact congrArg Host.Outcome.next (recoveryRequest_of_asked hrec hrun hasked hnew)
  · exact congrArg Host.Outcome.next (recoveryRequest_of_asked hrec hrun hasked hnew)
  · exact recoveryWrite_of_good hrec hrun hnew hasked ((recoveryWriteOk_iff r).mpr hgood) hwf
  · exact congrArg Host.Outcome.next ((recoveryRequest_of_asked hrec hrun hasked hnew).trans (if_neg (mt (recoveryWriteOk_iff r).mp hbad)))
  · rw [recoveryVerify_answers hrec hrun hnew hasked, verifyStaging_of_all hall]
    rfl
  · rw [recoveryVerify_answers hrec hrun hnew hasked, verifyStaging_of_first h1 hk hfail hbefore, if_neg (by omega),
      show (k == 0) = false from beq_eq_false_iff_ne.mpr (by omega)]
    rfl
  · exact congrArg Host.Outcome.next ((recoveryRequest_of_asked hrec hrun hasked hnew).trans (if_neg (by rw [hnone]; decide)))
  · exact recoveryInstall_of_verified hrec hrun hnew hasked hverified
  · exact congrArg Host.Outcome.next (recoveryRequest_of_again hrec hrun hasked hseq)
  · exact congrArg Host.Outcome.next (recoveryRequest_of_again hrec hrun hasked hseq)
  · exact congrArg Host.Outcome.next (recoveryRequest_of_again hrec hrun hasked hseq)
  · exact congrArg Host.Outcome.next (recoveryRequest_of_again hrec hrun hasked hseq)
  · exact congrArg Host.Outcome.next (recoveryRequest_of_not hasked)
  · exact congrArg Host.Outcome.next (recoveryRequest_of_not hasked)
  · exact congrArg Host.Outcome.next (recoveryRequest_of_not hasked)
  · exact congrArg Host.Outcome.next (recoveryRequest_of_not hasked)

end Sys2Proof.Machine
end

section
/-! Kettle: the rotation, its opportunities and what a failure leaves (R421 to R428). -/

namespace Sys2Proof.Machine

/-! ## The rotation (R422) -/

theorem rotation_skillet (q : Nat) : rotation (4 * q) = (0, q % 8) := by
  unfold rotation
  rw [show 4 * q % 4 = 0 by omega, show 4 * q / 4 = q by omega]
  rfl

theorem rotation_slice {q r : Nat} (hr : r = 1 ∨ r = 2) : rotation (4 * q + r) = (1, 128 + (2 * q + r - 1) % 128) := by
  unfold rotation
  rcases hr with rfl | rfl
  · rw [show (4 * q + 1) % 4 = 1 by omega, show (4 * q + 1) / 4 = q by omega]
    rfl
  · rw [show (4 * q + 2) % 4 = 2 by omega, show (4 * q + 2) / 4 = q by omega]
    rfl

theorem rotation_chunk (q : Nat) : rotation (4 * q + 3) = (2, q % 32) := by
  unfold rotation
  rw [show (4 * q + 3) % 4 = 3 by omega, show (4 * q + 3) / 4 = q by omega]
  rfl

/-! ## What an opportunity notes (R428, R434) -/

/-- Each item's count once one of them has been taken. -/
def Waited (i : Nat) (l m : List Nat) : Prop := ∀ j n, l[j]? = some n → m[j]? = some (if j = i then 0 else n + 1)

theorem waited_countUntested (i : Nat) (s : State) : Waited i s.ktl.untested (countUntested (some i) s).ktl.untested := by
  intro j n hj
  refine (List.getElem?_mapIdx ..).trans ?_
  rw [hj, Option.map_some]
  simp only [Option.some.injEq, eq_comm]

theorem countUntested_none (s : State) : countUntested none s = { s with ktl := { s.ktl with untested := s.ktl.untested.map (· + 1) } } := by
  have hmap : (mapAt s.ktl.untested fun i n => if none = some i then 0 else n + 1) = s.ktl.untested.map (· + 1) := by
    apply List.ext_getElem?
    intro j
    simp [mapAt]
  exact congrArg (fun l : List Nat => { s with ktl := { s.ktl with untested := l } }) hmap

/-- An item of the rotation noted, with no slice in progress. -/
def itemNoted (kind item : Nat) (s : State) : State :=
  modKtl (fun k => { k with pos := k.pos + 1 }) (noteOpportunity kind item (modKtl (fun k => { k with running := none }) s))

/-- The state in which the item of the rotation is tested: it has been noted and counted. -/
def itemTaken (kind item : Nat) (s : State) : State := countUntested (some (itemIndex kind item)) (itemNoted kind item s)

/-- A directed test noted, which leaves the rotation where it stands. -/
def directedNoted (item : Nat) (rest : List Nat) (s : State) : State :=
  modKtl (fun x => { x with directed := rest }) (noteOpportunity 0 item (modKtl (fun k => { k with running := none }) s))

def directedTaken (item : Nat) (rest : List Nat) (s : State) : State := countUntested (some (itemIndex 0 item)) (directedNoted item rest s)

/-- What the taking of an item leaves. -/
theorem itemTaken_spec (kind item : Nat) (s : State) : itemTaken kind item s = { s with ktl := (itemTaken kind item s).ktl } ∧
    (itemTaken kind item s).ktl.pos = s.ktl.pos + 1 ∧ (itemTaken kind item s).ktl.running = none ∧
    ((itemTaken kind item s).ktl.lastPos = s.ktl.pos % 256 ∧ (itemTaken kind item s).ktl.lastKind = kind ∧ (itemTaken kind item s).ktl.lastItem = item) ∧
    Waited (itemIndex kind item) s.ktl.untested (itemTaken kind item s).ktl.untested :=
  ⟨rfl, rfl, rfl, ⟨rfl, rfl, rfl⟩, waited_countUntested _ (itemNoted kind item s)⟩

theorem directedTaken_spec (item : Nat) (rest : List Nat) (s : State) : directedTaken item rest s = { s with ktl := (directedTaken item rest s).ktl } ∧
    (directedTaken item rest s).ktl.pos = s.ktl.pos ∧ (directedTaken item rest s).ktl.directed = rest ∧
    Waited item s.ktl.untested (directedTaken item rest s).ktl.untested :=
  ⟨rfl, rfl, rfl, waited_countUntested _ (directedNoted item rest s)⟩

section
variable {s : State} {crc : Nat} (hruns : timerRuns s = true) (hcommits : commits s.um.mode = true) (hepoch : s.ex.epoch % 200 = 0)
include hruns hcommits hepoch

theorem kettleOpportunity_of_manual (hmanual : s.ktl.manual.isSome = true) : exec (.kettleOpportunity crc) s =
    .next { s with ktl := { s.ktl with untested := s.ktl.untested.map (· + 1) } } := by
  rw [← countUntested_none]
  exact congrArg Host.Outcome.next ((if_pos ⟨hruns, hcommits, hepoch⟩).trans (if_pos hmanual))

variable (hmanual : s.ktl.manual = none)
include hmanual

theorem kettleOpportunity_of_none : exec (.kettleOpportunity crc) s = .next (opportunity crc (modKtl (fun k => { k with running := none }) s)) := by
  refine congrArg Host.Outcome.next ((if_pos ⟨hruns, hcommits, hepoch⟩).trans (if_neg ?_))
  rw [hmanual]
  decide

theorem kettleOpportunity_directed {k : Nat} {rest : List Nat} (hdirected : s.ktl.directed = k :: rest) :
    exec (.kettleOpportunity crc) s = .next (skilletOpportunity k true (directedTaken k rest s)) := by
  rw [kettleOpportunity_of_none hruns hcommits hepoch hmanual]
  refine congrArg Host.Outcome.next ?_
  unfold opportunity
  rw [show (modKtl (fun k => { k with running := none }) s).ktl.directed = k :: rest from hdirected]
  rfl

variable (hdirected : s.ktl.directed = [])
include hdirected

/-- With no directed test the item of the rotation is taken. -/
theorem kettleOpportunity_of_rotation {kind item : Nat} (hitem : rotation s.ktl.pos = (kind, item)) : exec (.kettleOpportunity crc) s =
    .next (match (generalizing := false) kind with
      | 0 => skilletOpportunity item false (itemTaken kind item s)
      | 1 => modKtl (fun k => { k with running := some (1, item, s.ex.epoch, false) }) (itemTaken kind item s)
      | _ => flashOpportunity item crc (itemTaken kind item s)) := by
  rw [kettleOpportunity_of_none hruns hcommits hepoch hmanual]
  refine congrArg Host.Outcome.next ?_
  unfold opportunity
  rw [show (modKtl (fun k => { k with running := none }) s).ktl.directed = [] from hdirected]
  dsimp only
  rw [show rotation (modKtl (fun k => { k with running := none }) s).ktl.pos = (kind, item) from hitem]
  match kind with
  | 0 | 1 => rfl
  | _ + 2 => rfl

end

/-! ## A Skillet's opportunity (R423) -/

theorem skilletOpportunity_of_marked {k : Nat} {s : State} (h : k ∈ s.fab.marked) (directed : Bool) : skilletOpportunity k directed s = s :=
  if_pos (List.contains_iff_mem.mpr h)

/-- While none is marked the Skillet goes out of service for its test. -/
theorem skilletOpportunity_of_none {s : State} (h : s.fab.marked = []) (k : Nat) (directed : Bool) : skilletOpportunity k directed s =
    requestVariant (some k) (modKtl (fun x => { x with running := some (0, k, s.ex.epoch, directed) }) s) := by
  have hempty : s.fab.marked.isEmpty = true := List.isEmpty_iff.mpr h
  unfold skilletOpportunity
  exact (if_neg (by simp [h])).trans (if_pos hempty)

/-- While another is marked the Skillet is tested in service. -/
theorem skilletOpportunity_of_other {k : Nat} {s : State} (hne : s.fab.marked ≠ []) (h : k ∉ s.fab.marked) (directed : Bool) :
    skilletOpportunity k directed s = modKtl (fun x => { x with running := some (0, k, s.ex.epoch, directed) }) s := by
  unfold skilletOpportunity
  rw [if_neg (by simpa using h)]
  exact if_neg (by simpa [modKtl] using hne)

/-! ## Failures (R427, R434) -/

/-- A failure noted in Kettle's report, but for its event. -/
def failureNoted (kind item : Nat) (retired : Bool) (s : State) : State :=
  modKtl (fun k => { k with failKind := kind, failStart := false, failRetired := retired, failItem := item, failCount := bump 16 k.failCount }) s

theorem kettleFailure_raised (kind item code : Nat) (retired : Bool) (s : State) :
    Raised 9 (failureNoted kind item retired s) (kettleFailure kind item code false retired s) := raised_raiseWith 9 item code 0 _

/-- A failure found in operation. -/
theorem kettleFailure_spec (kind item code : Nat) (retired : Bool) (s : State) : eventActive 9 (kettleFailure kind item code false retired s) = true ∧
    ∃ e, kettleFailure kind item code false retired s = withEvents (failureNoted kind item retired s) e :=
  ⟨(kettleFailure_raised kind item code retired s).active, _, (kettleFailure_raised kind item code retired s).eq⟩

/-- A chunk that reads otherwise than recorded. -/
theorem flashOpportunity_of_mismatch {c crc : Nat} {s : State} (h : crc ≠ recordedCrc c s) :
    (bankOf s.upd.running (flashOpportunity c crc s)).state = .suspect ∧ eventActive 9 (flashOpportunity c crc s) = true ∧
    (flashOpportunity c crc s).ktl = (failureNoted 2 c false s).ktl ∧ (flashOpportunity c crc s).um = s.um ∧ (flashOpportunity c crc s).ex = s.ex := by
  rw [flashOpportunity, if_neg h]
  obtain ⟨hactive, e, heq⟩ := kettleFailure_spec 2 c 4 false (setBank s.upd.running (fun b => { b with state := .suspect }) s)
  rw [heq] at hactive ⊢
  refine ⟨?_, hactive, ?_⟩
  · cases hside : s.upd.running <;> rfl
  · cases hside : s.upd.running <;> exact ⟨rfl, rfl, rfl⟩

/-- A fatal error found in operation stops the emission, and HOLD is due where a transition leads there. -/
theorem fatalError_spec (cause writer : Nat) (s : State) : (fatalError cause writer s).ex.stopped = true ∧ (fatalError cause writer s).ex.emit = false ∧
    (∀ k, eventActive k s = true → eventActive k (fatalError cause writer s) = true) ∧ (fatalError cause writer s).ktl = s.ktl ∧
    (fatalError cause writer s).fab = s.fab ∧
    (transition s.um.mode .hold = true → (fatalError cause writer s).ex.holdDue = some (s.ex.holdDue.getD cause)) := by
  have hdump (u : State) : ∃ d, (if u.dmp.valid then { u with dmp := { u.dmp with lost := bump 8 u.dmp.lost } }
      else { u with dmp := { u.dmp with due := some (u.dmp.due.getD ⟨cause, writer, u.ex.epoch, u.log.opTime⟩) } }) = { u with dmp := d } := by
    split
    · exact ⟨_, rfl⟩
    · exact ⟨_, rfl⟩
  have hraise (d : Dump) : (raise 11 { s with ex := { s.ex with stopped := true, emit := false }, dmp := d }).ex =
      { s.ex with stopped := true, emit := false } ∧
      (∀ k, eventActive k s = true → eventActive k (raise 11 { s with ex := { s.ex with stopped := true, emit := false }, dmp := d }) = true) ∧
      (raise 11 { s with ex := { s.ex with stopped := true, emit := false }, dmp := d }).ktl = s.ktl ∧
      (raise 11 { s with ex := { s.ex with stopped := true, emit := false }, dmp := d }).fab = s.fab := by
    refine ⟨by simp, fun k hk => ?_, by simp, by simp⟩
    rw [eventActive_raise, show eventActive k { s with ex := { s.ex with stopped := true, emit := false }, dmp := d } = true from hk, Bool.or_true]
  unfold fatalError
  dsimp only
  obtain ⟨d, hd⟩ := hdump { s with ex := { s.ex with stopped := true, emit := false } }
  by_cases hhold : transition s.um.mode .hold = true
  · rw [if_pos hhold, hd]
    exact ⟨rfl, rfl, fun k hk => hk, rfl, rfl, fun _ => rfl⟩
  · rw [if_neg hhold]
    split
    · rw [hd]
      obtain ⟨hex, hactive, hktl, hfab⟩ := hraise d
      exact ⟨by rw [hex], by rw [hex], hactive, hktl, hfab, fun h => absurd h hhold⟩
    · obtain ⟨hex, hactive, hktl, hfab⟩ := hraise s.dmp
      exact ⟨by rw [hex], by rw [hex], hactive, hktl, hfab, fun h => absurd h hhold⟩

end Sys2Proof.Machine
end

section
/-! Kettle, continued: marches, verdicts, retirement and manual actions (R421, R424, R427 to R430). -/

namespace Sys2Proof.Machine

/-! ## A manual action that waited (R35, R429) -/

/-- What the beginning of a manual action may change: that it waits, and the variant due where no Skillet is marked. -/
theorem beginManual_eq (s : State) : ∃ b v, beginManual s = { s with ktl := { s.ktl with manualHeld := b }, fab := { s.fab with variantDue := v } } ∧
    (s.fab.marked ≠ [] → v = s.fab.variantDue) := by
  have hsame : ∃ b v, s = { s with ktl := { s.ktl with manualHeld := b }, fab := { s.fab with variantDue := v } } ∧
    (s.fab.marked ≠ [] → v = s.fab.variantDue) := ⟨_, _, rfl, fun _ => rfl⟩
  unfold beginManual
  split
  · split
    · dsimp only
      split
      · rename_i hskillet
        exact ⟨_, _, rfl, fun h => absurd (List.isEmpty_iff.mp hskillet.2) h⟩
      · exact ⟨false, s.fab.variantDue, rfl, fun _ => rfl⟩
    · exact hsame
  · exact hsame

/-- While a variant is due no manual action begins. -/
theorem beginManual_of_variantDue {s : State} (h : s.fab.variantDue.isSome = true) : beginManual s = s := by
  unfold beginManual
  split
  · refine if_neg fun hbegins => ?_
    rw [Option.isNone_iff_eq_none.mp hbegins.2.2.2] at h
    cases h
  · rfl

/-! ## Marches (R424) -/

/-- A corrected error counted in its memory and in the window of 2000 epochs, but for its event. -/
def errorCounted (n : Nat) (s : State) : State :=
  { s with
    fab := { s.fab with ecc := if n < 128 then bump 32 s.fab.ecc else s.fab.ecc }
    sup := { s.sup with
      eccOther := if n < 128 then s.sup.eccOther else s.sup.eccOther + 1
      eccs := match s.sup.eccs with | k :: r => (k + 1) :: r | [] => [1] } }

theorem countCorrected_eq (n : Nat) (s : State) : countCorrected n s =
    if s.cfg.valid ∧ s.cfg.image.eccRate < (errorCounted n s).sup.eccs.sum then raise 10 (errorCounted n s) else errorCounted n s := by
  by_cases h : n < 128
  · simp only [countCorrected, errorCounted, h, if_true] <;> rfl
  · simp only [countCorrected, errorCounted, h, if_false] <;> rfl

theorem countCorrected_events (n : Nat) (s : State) : EventsOnly (errorCounted n s) (countCorrected n s) := by
  rw [countCorrected_eq]
  split
  · exact .raise 10 _
  · exact .refl _

/-- What the count of a corrected error leaves. -/
theorem countCorrected_spec (n : Nat) (s : State) : ∃ c p e, countCorrected n s = withEvents { s with fab := { s.fab with ecc := c }, sup := p } e :=
  ⟨_, (errorCounted n s).sup, _, (countCorrected_events n s).eq⟩

/-- The state in which a march is judged: its slice's faulty words have been met. -/
def wordsMet (n : Nat) (s : State) : State := spendInjected n (if s.ktl.injected.contains (n, false) then countCorrected n s else s)

theorem endMarch_eq (n : Nat) (pass : Bool) (s : State) : endMarch n pass s = if marchMeets n pass s then wordsMet n s else sliceFails n (wordsMet n s) := rfl

theorem wordsMet_spec (n : Nat) (s : State) : ∃ c p e, wordsMet n s =
    withEvents { s with fab := { s.fab with ecc := c }, sup := p, ktl := { s.ktl with injected := s.ktl.injected.filter (·.1 != n) } } e := by
  unfold wordsMet
  split
  · obtain ⟨c, p, e, h⟩ := countCorrected_spec n s
    rw [h]
    exact ⟨c, p, e, rfl⟩
  · exact ⟨s.fab.ecc, s.sup, s, rfl⟩

/-- Without a faulty word in its slice a march meets none. -/
theorem wordsMet_of_none {n : Nat} {s : State} (htrue : (n, true) ∉ s.ktl.injected) (hfalse : (n, false) ∉ s.ktl.injected) : wordsMet n s = s := by
  have hfilter : s.ktl.injected.filter (·.1 != n) = s.ktl.injected := by
    refine List.filter_eq_self.mpr fun x hx => bne_iff_ne.mpr fun hxn => ?_
    obtain ⟨a, b⟩ := x
    obtain rfl : a = n := hxn
    cases b
    · exact hfalse hx
    · exact htrue hx
  unfold wordsMet
  rw [if_neg (by simpa using hfalse)]
  exact congrArg (fun l : List (Nat × Bool) => { s with ktl := { s.ktl with injected := l } }) hfilter

theorem marchMeets_of_good {n : Nat} {s : State} (h : (n, true) ∉ s.ktl.injected) : marchMeets n true s = true := by
  simpa [marchMeets] using h

theorem marchMeets_of_bad {n : Nat} {pass : Bool} {s : State} (h : pass = false ∨ (n, true) ∈ s.ktl.injected) : marchMeets n pass s = false := by
  rcases h with h | h
  · rw [h]
    rfl
  · rw [marchMeets, List.contains_iff_mem.mpr h]
    exact Bool.and_false _

/-- No slice in progress. -/
def sliceEnded (s : State) : State := modKtl (fun k => { k with running := none }) s

/-- A slice due to be retired. -/
def retireNoted (n : Nat) (s : State) : State := modKtl (fun k => { k with retireDue := some n }) s

section
variable {n e : Nat} {d pass : Bool} {s : State} (hrunning : s.ktl.running = some (1, n, e, d))
include hrunning

theorem sramMarchComplete_of_running : exec (.sramMarchComplete pass) s = .next (beginManual (endMarch n pass (sliceEnded s))) := by
  refine congrArg Host.Outcome.next ?_
  rw [hrunning]
  rfl

theorem march_of_good (hheld : s.ktl.manualHeld = false) (htrue : (n, true) ∉ s.ktl.injected) (hfalse : (n, false) ∉ s.ktl.injected) :
    exec (.sramMarchComplete true) s = .next { s with ktl := { s.ktl with running := none } } := by
  rw [sramMarchComplete_of_running hrunning, endMarch_eq, marchMeets_of_good (s := sliceEnded s) htrue, if_pos rfl,
    wordsMet_of_none (s := sliceEnded s) htrue hfalse, beginManual_of_not_held (s := sliceEnded s) hheld]
  rfl

/-- A retirable slice whose march fails is due to be retired. -/
theorem march_of_retirable (hheld : s.ktl.manualHeld = false) (htrue : (n, true) ∉ s.ktl.injected) (hfalse : (n, false) ∉ s.ktl.injected)
    (h160 : 160 ≤ n) (h251 : n ≤ 251) (hspare : s.ktl.used0 = false ∧ s.ktl.withdrawn0 = false) :
    exec (.sramMarchComplete false) s = .next { s with ktl := { s.ktl with running := none, retireDue := some n } } := by
  have hfree : freeSpare (sliceEnded s) = some 252 := if_pos (by
    rw [show (sliceEnded s).ktl.used0 = false from hspare.1, show (sliceEnded s).ktl.withdrawn0 = false from hspare.2]
    decide)
  have hretire : retirable n ∧ (freeSpare (sliceEnded s)).isSome := by
    rw [hfree]
    simp [retirable, h160, h251]
  have hfails : sliceFails n (sliceEnded s) = retireNoted n (sliceEnded s) := by
    unfold sliceFails
    rw [if_neg (by omega), if_neg (by omega)]
    exact if_pos hretire
  rw [sramMarchComplete_of_running hrunning, endMarch_eq, marchMeets_of_bad (Or.inl rfl), if_neg Bool.false_ne_true,
    wordsMet_of_none (s := sliceEnded s) htrue hfalse, hfails, beginManual_of_not_held (s := retireNoted n (sliceEnded s)) hheld]
  rfl

/-- A slice that cannot be retired is a fatal error. -/
theorem march_of_fatal (hbad : pass = false ∨ (n, true) ∈ s.ktl.injected) (h128 : 128 ≤ n) (h160 : n < 160) :
    ∃ t, exec (.sramMarchComplete pass) s = .next t ∧ t.ex.stopped = true ∧ t.ex.emit = false ∧ eventActive 9 t = true ∧ t.ktl.failKind = 1 ∧
      t.ktl.failItem = n ∧ t.ktl.running = none ∧ (∀ b, (n, b) ∉ t.ktl.injected) ∧
      (transition s.um.mode .hold = true → t.ex.holdDue = some (s.ex.holdDue.getD 2)) := by
  have hexec := sramMarchComplete_of_running (pass := pass) hrunning
  rw [endMarch_eq, marchMeets_of_bad (s := sliceEnded s) hbad, if_neg Bool.false_ne_true] at hexec
  obtain ⟨c, p, e', hmet⟩ := wordsMet_spec n (sliceEnded s)
  have hfails : sliceFails n (wordsMet n (sliceEnded s)) = fatalError 2 1 (kettleFailure 1 n 2 false false (wordsMet n (sliceEnded s))) := by
    unfold sliceFails
    rw [if_neg (by omega), if_neg (by omega)]
    refine if_neg fun h => ?_
    have hlow := h.1
    simp only [retirable, Bool.and_eq_true, decide_eq_true_eq] at hlow
    omega
  rw [hfails] at hexec
  obtain ⟨hex, hum, hktl⟩ : (wordsMet n (sliceEnded s)).ex = s.ex ∧ (wordsMet n (sliceEnded s)).um = s.um ∧
      (wordsMet n (sliceEnded s)).ktl = { s.ktl with running := none, injected := s.ktl.injected.filter (·.1 != n) } := by
    rw [hmet]
    exact ⟨rfl, rfl, rfl⟩
  clear hfails hmet
  generalize wordsMet n (sliceEnded s) = w at *
  obtain ⟨hactive, e'', hfailure⟩ := kettleFailure_spec 1 n 2 false w
  generalize kettleFailure 1 n 2 false false w = f at *
  obtain ⟨hstopped, hemit, hevents, hkettle, -, hhold⟩ := fatalError_spec 2 1 f
  generalize fatalError 2 1 f = g at *
  obtain ⟨b, v, hbegun, -⟩ := beginManual_eq g
  rw [hbegun] at hexec
  have hfk : f.ktl = { w.ktl with failKind := 1, failStart := false, failRetired := false, failItem := n, failCount := bump 16 w.ktl.failCount } := by
    rw [hfailure]
    rfl
  have hfex : f.ex = s.ex := by
    rw [hfailure]
    exact hex
  have hfum : f.um = s.um := by
    rw [hfailure]
    exact hum
  have hg : g.ktl = { s.ktl with
      running := none, injected := s.ktl.injected.filter (·.1 != n), failKind := 1, failStart := false, failRetired := false, failItem := n, failCount := bump 16 s.ktl.failCount } := by
    rw [hkettle, hfk, hktl]
  refine ⟨_, hexec, hstopped, hemit, hevents 9 hactive, ?_, ?_, ?_, fun b => ?_, fun h => ?_⟩
  · rw [hg]
  · rw [hg]
  · rw [hg]
  · rw [hg]
    simp [List.mem_filter]
  · refine (hhold (hfum.symm ▸ h)).trans ?_
    rw [hfex]

/-- A manual action that waited begins when the slice has ended. -/
theorem march_of_waiting {code i : Nat} (hmanual : s.ktl.manual = some (code, i)) (hheld : s.ktl.manualHeld = true) (htest : s.fab.test = none)
    (hdue : s.fab.variantDue = none) (htrue : (n, true) ∉ s.ktl.injected) : ∃ t, exec (.sramMarchComplete true) s = .next t ∧
      t.ktl.manualHeld = false ∧ t.ktl.manual = some (code, i) ∧ (code = 1 → s.fab.marked = [] → t.fab.variantDue = some (some i)) := by
  have hexec := sramMarchComplete_of_running (pass := true) hrunning
  rw [endMarch_eq, marchMeets_of_good (s := sliceEnded s) htrue, if_pos rfl] at hexec
  obtain ⟨c, p, e', hmet⟩ := wordsMet_spec n (sliceEnded s)
  obtain ⟨hm, hh, hr, ht, hd, hk⟩ : (wordsMet n (sliceEnded s)).ktl.manual = some (code, i) ∧ (wordsMet n (sliceEnded s)).ktl.manualHeld = true ∧
      (wordsMet n (sliceEnded s)).ktl.running = none ∧ (wordsMet n (sliceEnded s)).fab.test = none ∧
      (wordsMet n (sliceEnded s)).fab.variantDue = none ∧ (wordsMet n (sliceEnded s)).fab.marked = s.fab.marked := by
    rw [hmet]
    exact ⟨hmanual, hheld, rfl, htest, hdue, rfl⟩
  generalize wordsMet n (sliceEnded s) = w at *
  have hbegin : beginManual w = if code = 1 ∧ w.fab.marked.isEmpty then requestVariant (some i) (modKtl (fun x => { x with manualHeld := false }) w)
      else modKtl (fun x => { x with manualHeld := false }) w := by
    unfold beginManual
    rw [hm]
    refine if_pos ?_
    rw [hr, ht, hd]
    exact ⟨hh, rfl, rfl, rfl⟩
  rw [hbegin] at hexec
  refine ⟨_, hexec, ?_, ?_, fun hcode hmarked => ?_⟩
  · split <;> rfl
  · split <;> exact hm
  · rw [if_pos ⟨hcode, by rw [hk, hmarked]; rfl⟩]
    rfl

end

end Sys2Proof.Machine
end

section
/-! Kettle's verdicts, its retirements and the end of manual actions (R146, R421, R427 to R429, R434). -/

namespace Sys2Proof.Machine

/-! ## Opportunities (R422, R425) -/

section
variable {s : State} {crc : Nat} (hruns : timerRuns s = true) (hcommits : commits s.um.mode = true) (hepoch : s.ex.epoch % 200 = 0)
  (hmanual : s.ktl.manual = none)
include hruns hcommits hepoch hmanual

/-- A directed test comes first, and the rotation stands. -/
theorem kettleOpportunity_of_directed {k : Nat} {rest : List Nat} (hdirected : s.ktl.directed = k :: rest) (hmarked : s.fab.marked = []) :
    ∃ t, exec (.kettleOpportunity crc) s = .next t ∧ t.ktl.pos = s.ktl.pos ∧ t.ktl.directed = rest ∧
      t.ktl.running = some (0, k, s.ex.epoch, true) ∧ Waited k s.ktl.untested t.ktl.untested ∧
      t = { s with ktl := t.ktl, fab := { s.fab with variantDue := some (some k) } } := by
  have hexec := kettleOpportunity_directed (crc := crc) hruns hcommits hepoch hmanual hdirected
  obtain ⟨htaken, hpos, hrest, hwaited⟩ := directedTaken_spec k rest s
  generalize directedTaken k rest s = t at *
  have hfab : t.fab = s.fab := by rw [htaken]
  have hex : t.ex = s.ex := by rw [htaken]
  rw [skilletOpportunity_of_none (by rw [hfab, hmarked])] at hexec
  have hrunning : some (0, k, t.ex.epoch, true) = some (0, k, s.ex.epoch, true) := by rw [hex]
  refine ⟨_, hexec, hpos, hrest, hrunning, hwaited, ?_⟩
  rw [htaken]
  rfl

variable (hdirected : s.ktl.directed = [])
include hdirected

/-- An SRAM slice of the rotation begins. -/
theorem kettleOpportunity_of_slice {q r : Nat} (hr : r = 1 ∨ r = 2) (hpos : s.ktl.pos = 4 * q + r) :
    ∃ t, exec (.kettleOpportunity crc) s = .next t ∧ t = { s with ktl := t.ktl } ∧ t.ktl.pos = s.ktl.pos + 1 ∧
      t.ktl.running = some (1, 128 + (2 * q + r - 1) % 128, s.ex.epoch, false) ∧
      (t.ktl.lastPos = s.ktl.pos % 256 ∧ t.ktl.lastKind = 1 ∧ t.ktl.lastItem = 128 + (2 * q + r - 1) % 128) ∧
      Waited (8 + (2 * q + r - 1) % 128) s.ktl.untested t.ktl.untested := by
  have hitem : rotation s.ktl.pos = (1, 128 + (2 * q + r - 1) % 128) := by
    rw [hpos]
    exact rotation_slice hr
  have hexec := kettleOpportunity_of_rotation (crc := crc) hruns hcommits hepoch hmanual hdirected hitem
  obtain ⟨htaken, hnext, -, hnoted, hwaited⟩ := itemTaken_spec 1 (128 + (2 * q + r - 1) % 128) s
  rw [show itemIndex 1 (128 + (2 * q + r - 1) % 128) = 8 + (2 * q + r - 1) % 128 from congrArg (8 + ·) (Nat.add_sub_cancel_left ..)] at hwaited
  generalize itemTaken 1 (128 + (2 * q + r - 1) % 128) s = t at *
  refine ⟨_, hexec, ?_, hnext, rfl, hnoted, hwaited⟩
  rw [htaken]
  rfl

/-- A Skillet of the rotation is tested, out of service or in it, unless it is the marked one. -/
theorem kettleOpportunity_of_skillet {q : Nat} (hpos : s.ktl.pos = 4 * q) :
    ∃ t, exec (.kettleOpportunity crc) s = .next t ∧ t = { s with ktl := t.ktl, fab := t.fab } ∧ t.ktl.pos = s.ktl.pos + 1 ∧
      (t.ktl.lastPos = s.ktl.pos % 256 ∧ t.ktl.lastKind = 0 ∧ t.ktl.lastItem = q % 8) ∧ Waited (q % 8) s.ktl.untested t.ktl.untested ∧
      (s.fab.marked = [] → t.ktl.running = some (0, q % 8, s.ex.epoch, false) ∧ t.fab = { s.fab with variantDue := some (some (q % 8)) }) ∧
      (s.fab.marked ≠ [] → q % 8 ∉ s.fab.marked → t.ktl.running = some (0, q % 8, s.ex.epoch, false) ∧ t.fab = s.fab) ∧
      (q % 8 ∈ s.fab.marked → t.ktl.running = none ∧ t.fab = s.fab) := by
  have hitem : rotation s.ktl.pos = (0, q % 8) := by
    rw [hpos]
    exact rotation_skillet q
  have hexec : exec (.kettleOpportunity crc) s = .next (skilletOpportunity (q % 8) false (itemTaken 0 (q % 8) s)) :=
    kettleOpportunity_of_rotation hruns hcommits hepoch hmanual hdirected hitem
  obtain ⟨htaken, hnext, hnone, hnoted, hwaited⟩ := itemTaken_spec 0 (q % 8) s
  generalize itemTaken 0 (q % 8) s = t at *
  have hfab : t.fab = s.fab := by rw [htaken]
  have hex : t.ex = s.ex := by rw [htaken]
  have hrunning : some (0, q % 8, t.ex.epoch, false) = some (0, q % 8, s.ex.epoch, false) := by rw [hex]
  by_cases hmarked : s.fab.marked = []
  · rw [skilletOpportunity_of_none (by rw [hfab, hmarked])] at hexec
    have hdue : ({ t.fab with variantDue := some (some (q % 8)) } : Fabric) = { s.fab with variantDue := some (some (q % 8)) } := by rw [hfab]
    refine ⟨_, hexec, ?_, hnext, hnoted, hwaited, fun _ => ⟨hrunning, hdue⟩, fun h => absurd hmarked h, fun h => ?_⟩
    · rw [htaken]
      rfl
    · rw [hmarked] at h
      cases h
  · by_cases hmem : q % 8 ∈ s.fab.marked
    · rw [skilletOpportunity_of_marked (by rw [hfab]; exact hmem)] at hexec
      refine ⟨_, hexec, ?_, hnext, hnoted, hwaited, fun h => absurd h hmarked, fun _ h => absurd hmem h, fun _ => ⟨hnone, hfab⟩⟩
      rw [htaken]
    · rw [skilletOpportunity_of_other (by rw [hfab]; exact hmarked) (by rw [hfab]; exact hmem)] at hexec
      refine ⟨_, hexec, ?_, hnext, hnoted, hwaited, fun h => absurd h hmarked, fun _ _ => ⟨hrunning, hfab⟩, fun h => absurd h hmem⟩
      rw [htaken]
      rfl

/-- A chunk of the rotation that reads otherwise than recorded makes the running bank SUSPECT. -/
theorem kettleOpportunity_of_mismatch {q : Nat} (hpos : s.ktl.pos = 4 * q + 3) (hcrc : crc ≠ recordedCrc (q % 32) s) :
    ∃ t, exec (.kettleOpportunity crc) s = .next t ∧ (bankOf s.upd.running t).state = .suspect ∧ eventActive 9 t = true ∧
      t.ktl.failKind = 2 ∧ t.ktl.failItem = q % 32 ∧ t.ktl.pos = s.ktl.pos + 1 ∧ t.ktl.running = none ∧ t.um = s.um ∧ t.ex = s.ex := by
  have hitem : rotation s.ktl.pos = (2, q % 32) := by
    rw [hpos]
    exact rotation_chunk q
  have hexec : exec (.kettleOpportunity crc) s = .next (flashOpportunity (q % 32) crc (itemTaken 2 (q % 32) s)) :=
    kettleOpportunity_of_rotation hruns hcommits hepoch hmanual hdirected hitem
  obtain ⟨htaken, hnext, hnone, -⟩ := itemTaken_spec 2 (q % 32) s
  generalize itemTaken 2 (q % 32) s = t at *
  have hcrc' : crc ≠ recordedCrc (q % 32) t := by
    rw [htaken]
    exact hcrc
  have hside : t.upd.running = s.upd.running := by rw [htaken]
  obtain ⟨hsuspect, hactive, hktl, hum, hex⟩ := flashOpportunity_of_mismatch hcrc'
  refine ⟨_, hexec, ?_, hactive, ?_, ?_, ?_, ?_, ?_, ?_⟩
  · rw [← hside]
    exact hsuspect
  · exact congrArg Kettle.failKind hktl
  · exact congrArg Kettle.failItem hktl
  · exact (congrArg Kettle.pos hktl).trans hnext
  · exact (congrArg Kettle.running hktl).trans hnone
  · rw [hum, htaken]
  · rw [hex, htaken]

theorem kettleOpportunity_of_match {q : Nat} (hpos : s.ktl.pos = 4 * q + 3) (hcrc : crc = recordedCrc (q % 32) s) :
    ∃ t, exec (.kettleOpportunity crc) s = .next t ∧ t = { s with ktl := t.ktl } ∧ t.ktl.pos = s.ktl.pos + 1 ∧ t.ktl.running = none ∧
      (t.ktl.lastPos = s.ktl.pos % 256 ∧ t.ktl.lastKind = 2 ∧ t.ktl.lastItem = q % 32) ∧ Waited (136 + q % 32) s.ktl.untested t.ktl.untested := by
  have hitem : rotation s.ktl.pos = (2, q % 32) := by
    rw [hpos]
    exact rotation_chunk q
  have hexec : exec (.kettleOpportunity crc) s = .next (flashOpportunity (q % 32) crc (itemTaken 2 (q % 32) s)) :=
    kettleOpportunity_of_rotation hruns hcommits hepoch hmanual hdirected hitem
  obtain ⟨htaken, hnext, hnone, hnoted, hwaited⟩ := itemTaken_spec 2 (q % 32) s
  generalize itemTaken 2 (q % 32) s = t at *
  have hcrc' : crc = recordedCrc (q % 32) t := by
    rw [htaken]
    exact hcrc
  exact ⟨t, hexec.trans (congrArg Host.Outcome.next (if_pos hcrc')), htaken, hnext, hnone, hnoted, hwaited⟩

end

/-! ## Verdicts of a Skillet's test (R146, R147, R427) -/

/-- The state in which Skillet k's test is judged. -/
def testEnded (k : Nat) (s : State) : State := modKtl (fun x => { x with running := none, injectFail := x.injectFail.filter (· != k) }) s

/-- The first Skillet that fails is marked, and the variant leaves it out. -/
theorem skilletFails_of_first {k : Nat} {s : State} (hmarked : s.fab.marked = []) : (skilletFails k s).fab.marked = [k] ∧
    (skilletFails k s).fab.test = none ∧ eventActive 9 (skilletFails k s) = true ∧ (skilletFails k s).ktl = (failureNoted 0 k false s).ktl ∧
    (s.fab.variant ≠ some k → (skilletFails k s).fab.variantDue = some (some k)) ∧ (skilletFails k s).ex = s.ex ∧ (skilletFails k s).um = s.um := by
  obtain ⟨hactive, e, heq⟩ := kettleFailure_spec 0 k 1 false s
  unfold skilletFails
  rw [heq] at hactive ⊢
  dsimp only
  rw [if_neg (by simp [withEvents, failureNoted, modKtl, hmarked]), if_pos (by simp [withEvents, failureNoted, modKtl, hmarked])]
  split
  · rename_i hvariant
    exact ⟨rfl, rfl, hactive, rfl, fun h => absurd hvariant h, rfl, rfl⟩
  · exact ⟨rfl, rfl, hactive, rfl, fun _ => rfl, rfl, rfl⟩

/-- Another Skillet that fails is the loss of a second one. -/
theorem skilletFails_of_second {k m : Nat} {s : State} (hmarked : s.fab.marked = [m]) (hne : m ≠ k) :
    skilletFails k s = findFault 9 (kettleFailure 0 k 1 false false s) := by
  obtain ⟨-, e, heq⟩ := kettleFailure_spec 0 k 1 false s
  unfold skilletFails
  rw [heq]
  dsimp only
  rw [if_neg (by simpa [withEvents, failureNoted, modKtl, hmarked] using hne.symm), if_neg (by simp [withEvents, failureNoted, modKtl, hmarked])]

section
variable {s : State} {k e : Nat} {d p : Bool} (hrunning : s.ktl.running = some (0, k, e, d))
include hrunning

theorem skilletTestVerdict_of_running : exec (.skilletTestVerdict p) s =
    .next (beginManual (if testPasses k p s then returnSkillet (testEnded k s) else skilletFails k (testEnded k s))) := by
  refine congrArg Host.Outcome.next ?_
  rw [hrunning]
  rfl

theorem skilletTestVerdict_of_pass (hmarked : s.fab.marked = []) (hpass : testPasses k p s = true) : exec (.skilletTestVerdict p) s = .next { s with
    ktl := { s.ktl with running := none, injectFail := s.ktl.injectFail.filter (· != k) }, fab := { s.fab with variantDue := some none } } := by
  have hreturn : returnSkillet (testEnded k s) = requestVariant none (testEnded k s) := if_pos (List.isEmpty_iff.mpr hmarked)
  rw [skilletTestVerdict_of_running hrunning, if_pos hpass, hreturn, beginManual_of_variantDue (s := requestVariant none (testEnded k s)) rfl]
  rfl

theorem skilletTestVerdict_of_fail (hmarked : s.fab.marked = []) (hfail : testPasses k p s = false) :
    ∃ t, exec (.skilletTestVerdict p) s = .next t ∧ t.fab.marked = [k] ∧ t.fab.test = none ∧ eventActive 9 t = true ∧ t.ktl.failKind = 0 ∧
      t.ktl.failItem = k ∧ t.ktl.running = none ∧ (s.fab.variant ≠ some k → t.fab.variantDue = some (some k)) ∧ t.ex = s.ex ∧ t.um = s.um := by
  have hexec := skilletTestVerdict_of_running (p := p) hrunning
  rw [hfail, if_neg Bool.false_ne_true] at hexec
  obtain ⟨hmark, htest, hactive, hktl, hdue, hex, hum⟩ := skilletFails_of_first (k := k) (s := testEnded k s) hmarked
  generalize skilletFails k (testEnded k s) = t at *
  obtain ⟨b, v, hbegun, hv⟩ := beginManual_eq t
  rw [hbegun] at hexec
  refine ⟨_, hexec, hmark, htest, hactive, congrArg Kettle.failKind hktl, congrArg Kettle.failItem hktl, congrArg Kettle.running hktl,
    fun h => ?_, hex, hum⟩
  exact (hv (by rw [hmark]; exact List.cons_ne_nil _ _)).trans (hdue h)

theorem knownAnswerFailure_of_second {m : Nat} (hmarked : s.fab.marked = [m]) (hne : m ≠ k) :
    ∃ t, exec (.knownAnswerFailure k) s = .next t ∧ t.ex.holdDue = some (s.ex.holdDue.getD 9) ∧ t.ktl.running = none ∧ eventActive 9 t = true ∧
      t.fab.marked = [m] ∧ t.um = s.um := by
  have hexec : exec (.knownAnswerFailure k) s = .next (skilletFails k (sliceEnded s)) := by
    refine congrArg Host.Outcome.next ?_
    rw [hrunning]
    exact if_pos ⟨rfl, by simp [hmarked]⟩
  rw [skilletFails_of_second (s := sliceEnded s) hmarked hne] at hexec
  obtain ⟨hactive, e', heq⟩ := kettleFailure_spec 0 k 1 false (sliceEnded s)
  refine ⟨_, hexec, ?_, ?_, hactive, ?_, ?_⟩ <;> rw [heq]
  · rfl
  · rfl
  · exact hmarked
  · rfl

end

/-! ## Retirement and overdue slices (R421, R427, R428) -/

/-- A retired slice takes the first spare. -/
theorem sliceRetire_of_due {s : State} {n : Nat} (hdue : s.ktl.retireDue = some n) (hused : s.ktl.used0 = false)
    (hwithdrawn : s.ktl.withdrawn0 = false) : ∃ t, exec .sliceRetire s = .next t ∧ t.ktl.retireDue = none ∧ t.ktl.used0 = true ∧
      t.ktl.slice0 = n ∧ t.ktl.failRetired = true ∧ t.ktl.failItem = n ∧ eventActive 9 t = true ∧ t.ex = s.ex ∧ t.fab = s.fab := by
  have hfree : freeSpare (modKtl (fun k => { k with retireDue := none }) s) = some 252 := if_pos (by simp [modKtl, hused, hwithdrawn])
  have hexec : exec .sliceRetire s =
      .next (kettleFailure 1 n 2 false true (useSpare 252 n (modKtl (fun k => { k with retireDue := none }) s))) := by
    refine congrArg Host.Outcome.next ?_
    rw [hdue]
    dsimp only
    rw [hfree]
  obtain ⟨hactive, e, heq⟩ := kettleFailure_spec 1 n 2 true (useSpare 252 n (modKtl (fun k => { k with retireDue := none }) s))
  refine ⟨_, hexec, ?_, ?_, ?_, ?_, ?_, hactive, ?_, ?_⟩ <;> rw [heq] <;> rfl

theorem kettleSliceOverdue_of_late {s : State} (h : ∃ n ∈ s.ktl.untested, 600 ≤ n) : ∃ t, exec .kettleSliceOverdue s = .next t ∧ Raised 31 s t := by
  refine ⟨_, next_of_pos (List.any_eq_true.mpr ?_) _ _, raised_raise 31 s⟩
  obtain ⟨n, hn, hlate⟩ := h
  exact ⟨n, hn, decide_eq_true hlate⟩

theorem optimeSave_of_runs {s : State} (h : timerRuns s = true) :
    exec .optimeSave s = .next { s with log := { s.log with opSaved := s.log.opTime } } := by
  refine next_of_neg ?_ _ _
  intro hreset
  simp [timerRuns, hreset] at h

/-! ## The end of a manual action (R429, R434) -/

/-- A manual action that waits has not ended. -/
theorem manualActionComplete_of_held {s : State} (hheld : s.ktl.manualHeld = true) (p : Bool) : exec (.manualActionComplete p) s = .next s := by
  refine congrArg Host.Outcome.next ?_
  split
  · exact if_pos hheld
  · rfl

/-- Whether the manual action found its item good. -/
def manualPasses (code item : Nat) (p : Bool) (s : State) : Bool :=
  if code = 1 then testPasses item p s else if code = 2 then marchMeets item p s else p

/-- The manual action over, with its RESULT. -/
def manualEnded (code item : Nat) (ok : Bool) (s : State) : State :=
  modKtl (fun k => { k with
    manual := none, mResult := if code < 8 ∧ ok then 2 else 3
    injectFail := if code = 1 then k.injectFail.filter (· != item) else k.injectFail }) s

section
variable {s : State} {code i : Nat} (hheld : s.ktl.manualHeld = false)
include hheld

theorem manualActionComplete_of_manual (hmanual : s.ktl.manual = some (code, i)) (p : Bool) : exec (.manualActionComplete p) s =
    .next (manualOutcome code i (manualPasses code i p s) (manualEnded code i (manualPasses code i p s) s)) := by
  refine congrArg Host.Outcome.next ?_
  rw [hmanual]
  exact if_neg (by simp [hheld])

theorem manualSkillet_of_pass (hmanual : s.ktl.manual = some (1, i)) (hmarked : s.fab.marked = []) {p : Bool} (hpass : testPasses i p s = true) :
    ∃ t, exec (.manualActionComplete p) s = .next t ∧ i ∈ t.ktl.mPassed ∧ t.ktl.manual = none ∧ t.ktl.mResult = 2 ∧ t = { s with
      ktl := { s.ktl with manual := none, mResult := 2, mPassed := t.ktl.mPassed, injectFail := s.ktl.injectFail.filter (· != i) }
      fab := { s.fab with variantDue := some none } } := by
  have hexec := manualActionComplete_of_manual hheld hmanual p
  rw [show manualPasses 1 i p s = true from hpass] at hexec
  have hreturn : manualOutcome 1 i true (manualEnded 1 i true s) =
      requestVariant none (modKtl (fun k => { k with mPassed := insertNat i k.mPassed }) (manualEnded 1 i true s)) :=
    if_pos (List.isEmpty_iff.mpr hmarked)
  rw [hreturn] at hexec
  exact ⟨_, hexec, (mem_insertNat _ _ _).mpr (Or.inl rfl), rfl, rfl, rfl⟩

theorem manualMarch_of_pass (hmanual : s.ktl.manual = some (2, i)) (htrue : (i, true) ∉ s.ktl.injected) (hfalse : (i, false) ∉ s.ktl.injected) :
    exec (.manualActionComplete true) s = .next { s with ktl := { s.ktl with manual := none, mResult := 2 } } := by
  rw [manualActionComplete_of_manual hheld hmanual true, show manualPasses 2 i true s = true from marchMeets_of_good htrue]
  refine congrArg Host.Outcome.next ((endMarch_eq i true _).trans ?_)
  rw [marchMeets_of_good (s := manualEnded 2 i true s) htrue, if_pos rfl, wordsMet_of_none (s := manualEnded 2 i true s) htrue hfalse]
  rfl

theorem manualOutput_of_pass (hmanual : s.ktl.manual = some (3, i)) (hlt : i < s.trv.channels.length) :
    ∃ t, exec (.manualActionComplete true) s = .next t ∧ channelLocal i t = { channelLocal i s with testAge := 0, overdue := false } ∧
      (∀ j, j ≠ i → channelLocal j t = channelLocal j s) ∧
      t = { s with ktl := { s.ktl with manual := none, mResult := 2 }, trv := { s.trv with channels := t.trv.channels } } := by
  have hexec := manualActionComplete_of_manual hheld hmanual true
  rw [show manualOutcome 3 i (manualPasses 3 i true s) (manualEnded 3 i (manualPasses 3 i true s) s) =
    modChannel i (fun c => { c with testAge := 0, overdue := false }) (manualEnded 3 i true s) from rfl] at hexec
  exact ⟨_, hexec, channelLocal_modChannel_same (s := manualEnded 3 i true s) _ hlt, fun j hj => channelLocal_modChannel_other _ hj, rfl⟩

theorem manualInjection_of_eight (hmanual : s.ktl.manual = some (8, i)) (p : Bool) : exec (.manualActionComplete p) s = .next { s with
    ktl := { s.ktl with manual := none, mResult := 3, injected := s.ktl.injected ++ [(i, false)] } } :=
  manualActionComplete_of_manual hheld hmanual p

theorem manualInjection_of_nine (hmanual : s.ktl.manual = some (9, i)) (p : Bool) : exec (.manualActionComplete p) s = .next { s with
    ktl := { s.ktl with manual := none, mResult := 3, injected := s.ktl.injected ++ [(i, true)] } } :=
  manualActionComplete_of_manual hheld hmanual p

theorem manualInjection_of_ten (hmanual : s.ktl.manual = some (10, i)) (p : Bool) : ∃ t, exec (.manualActionComplete p) s = .next t ∧
    i ∈ t.ktl.injectFail ∧ t = { s with ktl := { s.ktl with manual := none, mResult := 3, injectFail := t.ktl.injectFail } } :=
  ⟨_, manualActionComplete_of_manual hheld hmanual p, (mem_insertNat _ _ _).mpr (Or.inl rfl), rfl⟩

end

/-- Settles O56: a lemma for each opportunity, verdict and manual action. -/
theorem kettleTestsMarkAndRetire : Obligations.KettleTestsMarkAndRetire := by
  unfold Obligations.KettleTestsMarkAndRetire
  intro s
  refine ⟨fun hruns hcommits hepoch crc => ⟨fun hmanual hdirected q => ⟨fun r hr hpos => ?_, fun hpos => ?_, fun hpos => ⟨fun hcrc => ?_, fun hcrc => ?_⟩⟩,
      fun hmanual k rest hdirected hmarked => ?_, fun hmanual => ?_⟩,
    fun n e d hrunning => ⟨fun hheld htrue hfalse => ⟨?_, fun h160 h251 hspare => ?_⟩, fun p hbad h128 h160 => ?_,
      fun code i hmanual hheld htest hdue htrue => ?_⟩,
    fun k e d hrunning => ⟨fun p hmarked hpass => ?_, fun p hmarked hfail => ?_, fun m hmarked hne => ?_⟩,
    fun n hdue hused hwithdrawn => sliceRetire_of_due hdue hused hwithdrawn, kettleSliceOverdue_of_late, optimeSave_of_runs,
    fun _ hheld p => manualActionComplete_of_held hheld p,
    fun hheld => ⟨fun i p hmanual hmarked hpass => ?_, fun i hmanual htrue hfalse => ?_, fun i hmanual hlt => ?_, fun i p hmanual => ?_,
      fun i p hmanual => ?_, fun i p hmanual => ?_⟩⟩
  · exact kettleOpportunity_of_slice hruns hcommits hepoch hmanual hdirected hr hpos
  · exact kettleOpportunity_of_skillet hruns hcommits hepoch hmanual hdirected hpos
  · exact kettleOpportunity_of_mismatch hruns hcommits hepoch hmanual hdirected hpos hcrc
  · exact kettleOpportunity_of_match hruns hcommits hepoch hmanual hdirected hpos hcrc
  · exact kettleOpportunity_of_directed hruns hcommits hepoch hmanual hdirected hmarked
  · exact kettleOpportunity_of_manual hruns hcommits hepoch hmanual
  · exact march_of_good hrunning hheld htrue hfalse
  · exact march_of_retirable hrunning hheld htrue hfalse h160 h251 hspare
  · exact march_of_fatal hrunning hbad h128 h160
  · exact march_of_waiting hrunning hmanual hheld htest hdue htrue
  · exact skilletTestVerdict_of_pass hrunning hmarked hpass
  · exact skilletTestVerdict_of_fail hrunning hmarked hfail
  · exact knownAnswerFailure_of_second hrunning hmarked hne
  · exact manualSkillet_of_pass hheld hmanual hmarked hpass
  · exact manualMarch_of_pass hheld hmanual htrue hfalse
  · exact manualOutput_of_pass hheld hmanual hlt
  · exact manualInjection_of_eight hheld hmanual p
  · exact manualInjection_of_nine hheld hmanual p
  · exact manualInjection_of_ten hheld hmanual p

end Sys2Proof.Machine
end

section
/-! The panel: evaluation, rows, compensation, temperature and the guard of the image (R409 to R414). -/

namespace Sys2Proof.Machine

/-! ## The rows of an update (R409, R412, R413, R416, R417) -/

/-- A row that an evaluation without a full refresh draws. -/
def Drawn (s : State) (r : Nat) : Prop :=
  renderRow (panelFields s) r ≠ frameRow r s ∨ needsCompensation r s = true ∨ r ∈ s.pnl.fullRows ∨
    (s.pnl.first = true ∧ ∃ x ∈ s.pnl.intent, x.1 = r)

theorem updateRows_of_full {s : State} (h : s.pnl.fullPending = true) :
    updateRows s = (List.range 128).map fun r => (r, renderRow (panelFields s) r) := by
  simp [updateRows, h, rowCount]

theorem mem_updateRows_of_partial {s : State} (h : s.pnl.fullPending = false) (r : Nat) (new : List Byte) :
    (r, new) ∈ updateRows s ↔ r < 128 ∧ Drawn s r ∧ new = renderRow (panelFields s) r := by
  have hdrawn (x : Nat) : (s.pnl.fullPending || renderRow (panelFields s) x != frameRow x s || needsCompensation x s || s.pnl.fullRows.contains x ||
      (s.pnl.first && s.pnl.intent.any (·.1 == x))) = true ↔ Drawn s x := by
    simp [h, Drawn, or_assoc]
  unfold updateRows
  dsimp only
  simp only [List.mem_filterMap, List.mem_range, rowCount]
  constructor
  · rintro ⟨x, hx, hsome⟩
    split at hsome
    · rename_i hd
      obtain ⟨rfl, rfl⟩ := Prod.mk.inj (Option.some.inj hsome)
      exact ⟨hx, (hdrawn _).mp hd, rfl⟩
    · cases hsome
  · rintro ⟨hr, hd, rfl⟩
    exact ⟨r, hr, if_pos ((hdrawn r).mpr hd)⟩

/-- The panel once an update with these rows has been decided. -/
def updateDecided (rows : List (Nat × List Byte)) (kind : Nat) (s : State) : State :=
  modPnl (fun p => { p with rows, intent := rows, state := kind, first := false, row := none, compensated := [] }) s

section
variable {s : State} (hruns : panelRuns s = true)
include hruns

section
variable (hepoch : s.ex.epoch % 2000 = 1000) (hstate : s.pnl.state = 0) (hfrozen : s.pnl.frozen = false) (hsuspended : s.pnl.suspended = false)
include hepoch hstate hfrozen hsuspended

theorem panelEvaluation_of_epoch : exec .panelEvaluation s =
    .next (if (updateRows s).isEmpty then s else updateDecided (updateRows s) (if s.pnl.fullPending then 2 else 1) s) :=
  next_of_pos ⟨hruns, hepoch, hstate, by simp [hfrozen], by simp [hsuspended]⟩ _ _

/-- A full refresh draws every row. -/
theorem panelEvaluation_of_full (hfull : s.pnl.fullPending = true) : ∃ t, exec .panelEvaluation s = .next t ∧ t.pnl.rows.length = 128 ∧
    (∀ r, r < 128 → t.pnl.rows[r]? = some (r, renderRow (panelFields s) r)) ∧
    t = { s with pnl := { s.pnl with rows := t.pnl.rows, intent := t.pnl.rows, state := 2, first := false, row := none, compensated := [] } } := by
  have hexec := panelEvaluation_of_epoch hruns hepoch hstate hfrozen hsuspended
  have hrows := updateRows_of_full hfull
  have hlength : (updateRows s).length = 128 := by rw [hrows, List.length_map, List.length_range]
  rw [if_neg (by simp [List.isEmpty_iff, ← List.length_eq_zero_iff, hlength]), if_pos hfull] at hexec
  refine ⟨_, hexec, hlength, fun r hr => ?_, rfl⟩
  refine (congrArg (·[r]?) hrows).trans ?_
  simp [hr]

/-- Where some row is drawn an update of those rows is decided. -/
theorem panelEvaluation_of_partial (hfull : s.pnl.fullPending = false) (hdrawn : ∃ r, r < 128 ∧ Drawn s r) :
    ∃ t, exec .panelEvaluation s = .next t ∧ (∀ r new, (r, new) ∈ t.pnl.rows ↔ r < 128 ∧ Drawn s r ∧ new = renderRow (panelFields s) r) ∧
      t = { s with pnl := { s.pnl with rows := t.pnl.rows, intent := t.pnl.rows, state := 1, first := false, row := none, compensated := [] } } := by
  have hexec := panelEvaluation_of_epoch hruns hepoch hstate hfrozen hsuspended
  obtain ⟨r, hr, hd⟩ := hdrawn
  have hmem : (r, renderRow (panelFields s) r) ∈ updateRows s := (mem_updateRows_of_partial hfull r _).mpr ⟨hr, hd, rfl⟩
  rw [if_neg (by rw [List.isEmpty_iff]; exact List.ne_nil_of_mem hmem), if_neg (by simp [hfull])] at hexec
  exact ⟨_, hexec, mem_updateRows_of_partial hfull, rfl⟩

theorem panelEvaluation_of_undrawn (hfull : s.pnl.fullPending = false) (hundrawn : ∀ r, r < 128 → ¬ Drawn s r) :
    exec .panelEvaluation s = .next s := by
  have hempty : updateRows s = [] := by
    refine List.eq_nil_iff_forall_not_mem.mpr fun x hx => ?_
    obtain ⟨hr, hd, -⟩ := (mem_updateRows_of_partial hfull x.1 x.2).mp hx
    exact hundrawn x.1 hr hd
  rw [panelEvaluation_of_epoch hruns hepoch hstate hfrozen hsuspended, hempty]
  rfl

end

/-! ## Rows (R410, R411) -/

omit hruns in
/-- The first row of an update starts with the band taken. -/
theorem panelEpoch_of_first {r : Nat} {new : List Byte} {rest : List (Nat × List Byte)} (hstate : s.pnl.state ≠ 0) (hrow : s.pnl.row = none)
    (hrows : s.pnl.rows = (r, new) :: rest) (hfrozen : s.pnl.frozen = false) (hsuspended : s.pnl.suspended = false) :
    (panelEpoch s).pnl.row = some r ∧ (panelEpoch s).pnl.rowFor = 0 ∧ (panelEpoch s).pnl.band = s.pnl.bandSeen ∧
      (panelEpoch s).pnl.rows = s.pnl.rows ∧ (panelEpoch s).pnl.frame = s.pnl.frame := by
  have hstart : panelEpoch s = startRow (modPnl (fun p => { p with fullPending := p.fullPending && p.state != 2 }) s) :=
    if_pos ⟨hstate, hrow⟩
  rw [hstart]
  generalize hu : modPnl (fun p => { p with fullPending := p.fullPending && p.state != 2 }) s = u
  obtain ⟨hurow, hurows, hufrozen, hususpended, huband, huframe⟩ : u.pnl.row = none ∧ u.pnl.rows = (r, new) :: rest ∧ u.pnl.frozen = false ∧
      u.pnl.suspended = false ∧ u.pnl.bandSeen = s.pnl.bandSeen ∧ u.pnl.frame = s.pnl.frame := by
    rw [← hu]
    exact ⟨hrow, hrows, hfrozen, hsuspended, rfl, rfl⟩
  unfold startRow
  rw [hurows, hurow]
  dsimp only
  rw [if_neg (by simp [hufrozen, hususpended]), if_pos rfl]
  exact ⟨rfl, rfl, huband, hurows.trans hrows.symm, huframe⟩

theorem panelRowComplete_of_due {r : Nat} {new : List Byte} {rest : List (Nat × List Byte)} (hrow : s.pnl.row = some r)
    (hrows : s.pnl.rows = (r, new) :: rest) (hcomp : s.pnl.compensating = false) (hdue : lineEpochs s ≤ s.pnl.rowFor) :
    exec .panelRowComplete s = .next (startRow (commitRow r new s)) := by
  rw [← completeLine_of_row hrow hrows hcomp]
  exact next_of_pos ⟨hruns, Option.isSome_of_eq_some hrow, by simp [hcomp], hdue⟩ _ _

/-- The last row of an update is committed, and the update ends. -/
theorem panelRowComplete_of_last {r : Nat} {new : List Byte} (hrow : s.pnl.row = some r) (hrows : s.pnl.rows = [(r, new)])
    (hcomp : s.pnl.compensating = false) (hlength : new.length = 74) (hdue : lineEpochs s ≤ s.pnl.rowFor) (hwf : Memory.wf 0 s.pnl.frame = true) :
    ∃ t, exec .panelRowComplete s = .next t ∧ t.pnl.state = 0 ∧ t.pnl.row = none ∧ t.pnl.rows = [] ∧ t.pnl.lines = min (s.pnl.lines + 1) 65535 ∧
      (∀ i, i < 74 → some (memRead 0 t.pnl.frame (74 * r + i)) = new[i]?) ∧
      (∀ a, (a < 74 * r ∨ 74 * r + 74 ≤ a) → memRead 0 t.pnl.frame a = memRead 0 s.pnl.frame a) ∧
      t.pnl.crc = crc32 (memReads 0 t.pnl.frame 0 (74 * 128)) ∧ t = { s with pnl := t.pnl } := by
  have hexec := panelRowComplete_of_due hruns hrow hrows hcomp hdue
  have hnone : (commitRow r new s).pnl.rows = [] := by
    refine (congrArg (List.filter _) hrows).trans ?_
    simp
  have hend : startRow (commitRow r new s) = endUpdate (commitRow r new s) := by
    unfold startRow
    rw [hnone]
  rw [hend] at hexec
  refine ⟨_, hexec, rfl, rfl, rfl, rfl, fun i hi => ?_, fun a ha => ?_, rfl, rfl⟩
  · exact memRead_writes_same 0 new (74 * r) i _ hwf (hlength.symm ▸ hi)
  · exact memRead_writes_other 0 new (74 * r) a _ (by rw [hlength]; exact ha)

/-- The next row of a group follows without a gap. -/
theorem panelRowComplete_of_next {r q : Nat} {new next : List Byte} {rest : List (Nat × List Byte)} (hrow : s.pnl.row = some r)
    (hrows : s.pnl.rows = (r, new) :: (q, next) :: rest) (hcomp : s.pnl.compensating = false) (hfrozen : s.pnl.frozen = false)
    (hgroup : q / 8 = r / 8) (hne : q ≠ r) (hothers : ∀ x ∈ rest, x.1 ≠ r) (hdue : lineEpochs s ≤ s.pnl.rowFor) :
    ∃ t, exec .panelRowComplete s = .next t ∧ t.pnl.row = some q ∧ t.pnl.rows = (q, next) :: rest ∧ t.pnl.rowFor = 0 ∧
      t.pnl.state = s.pnl.state ∧ t.pnl.band = s.pnl.band ∧ t.pnl.lines = min (s.pnl.lines + 1) 65535 ∧ t = { s with pnl := t.pnl } := by
  have hexec := panelRowComplete_of_due hruns hrow hrows hcomp hdue
  have hleft : (commitRow r new s).pnl.rows = (q, next) :: rest := by
    refine (congrArg (List.filter _) hrows).trans ?_
    rw [List.filter_cons_of_neg (by simp), List.filter_cons_of_pos (by simpa using hne), List.filter_eq_self.mpr fun x hx => bne_iff_ne.mpr (hothers x hx)]
  have hstart : startRow (commitRow r new s) = modPnl (fun p => { p with
      row := some q, rowFor := 0, compensating := needsCompensation q (commitRow r new s) && !p.compensated.contains q }) (commitRow r new s) := by
    unfold startRow
    rw [hleft, show (commitRow r new s).pnl.row = some r from hrow, show (commitRow r new s).pnl.frozen = false from hfrozen]
    dsimp only
    rw [if_neg (by simp [hgroup]), if_neg (by simp [hgroup])]
  rw [hstart] at hexec
  exact ⟨_, hexec, rfl, hleft, rfl, rfl, rfl, rfl, rfl⟩

omit hruns in
theorem panelRowComplete_of_early (h : s.pnl.rowFor < lineEpochs s) : exec .panelRowComplete s = .next s :=
  next_of_neg (fun hguard => absurd hguard.2.2.2 (Nat.not_le.mpr h)) _ _

/-! ## Compensation, temperature and the image's check (R411, R413, R414) -/

theorem compensationLineComplete_of_whole {r : Nat} {q : List Byte} {rest : List (Nat × List Byte)} (hrow : s.pnl.row = some r)
    (hrows : s.pnl.rows = (r, q) :: rest) (hcomp : s.pnl.compensating = true) (hfrozen : s.pnl.frozen = false) :
    ∃ t, exec .compensationLineComplete s = .next t ∧ t.pnl.compensating = false ∧ r ∈ t.pnl.compensated ∧
      t.pnl.balance = compensateRow r s.pnl.balance ∧ t = { s with pnl := { s.pnl with
        compensating := false, compensated := t.pnl.compensated, balance := t.pnl.balance, rowFor := 0 } } := by
  have hexec : exec .compensationLineComplete s = .next (modPnl (fun p => { p with rowFor := 0 }) (compensatedRow r s)) := by
    rw [← completeLine_of_compensating hrow hrows hcomp]
    exact congrArg Host.Outcome.next ((if_pos ⟨hruns, Option.isSome_of_eq_some hrow, hcomp⟩).trans (if_neg (by simp [hfrozen])))
  exact ⟨_, hexec, rfl, (mem_insertNat _ _ _).mpr (Or.inl rfl), rfl, rfl⟩

theorem panelTemperatureRead_of_runs (x : Int) : ∃ t, exec (.panelTemperatureRead x) s = .next t ∧ t.pnl.temp = rangeS x ∧
    (x < 0 ∨ 12800 < x → t.pnl.suspended = true) ∧ (128 ≤ x → x ≤ 12672 → t.pnl.suspended = false) ∧
    t = { s with pnl := { s.pnl with temp := t.pnl.temp, bandSeen := t.pnl.bandSeen, suspended := t.pnl.suspended } } := by
  refine ⟨_, next_of_pos hruns _ _, rfl, fun hout => if_pos hout, fun hlow hhigh => ?_, rfl⟩
  exact (if_neg (by omega)).trans (if_pos ⟨hlow, hhigh⟩)

theorem frameMemoryCrcCheck_of_mismatch (hepoch : s.ex.epoch % 2000 = 0) (hcrc : crc32 (memReads 0 s.pnl.frame 0 (74 * 128)) ≠ s.pnl.crc) :
    ∃ t, exec .frameMemoryCrcCheck s = .next t ∧ eventActive 28 t = true ∧ t.pnl.fullPending = true ∧
      t.pnl.mismatches = min (s.pnl.mismatches + 1) 255 ∧ t.pnl.frame = s.pnl.frame ∧
      t = withEvents { s with pnl := { s.pnl with mismatches := t.pnl.mismatches, fullPending := true } } t := by
  have hexec : exec .frameMemoryCrcCheck s =
      .next (raise 28 { s with pnl := { s.pnl with mismatches := min (s.pnl.mismatches + 1) 255, fullPending := true } }) :=
    next_of_pos ⟨hruns, hepoch, hcrc⟩ _ _
  have hraised := raised_raise 28 { s with pnl := { s.pnl with mismatches := min (s.pnl.mismatches + 1) 255, fullPending := true } }
  generalize raise 28 { s with pnl := { s.pnl with mismatches := min (s.pnl.mismatches + 1) 255, fullPending := true } } = t at *
  obtain ⟨hfull, hmismatches, hframe⟩ : t.pnl.fullPending = true ∧ t.pnl.mismatches = min (s.pnl.mismatches + 1) 255 ∧ t.pnl.frame = s.pnl.frame := by
    rw [hraised.eq]
    exact ⟨rfl, rfl, rfl⟩
  refine ⟨t, hexec, hraised.active, hfull, hmismatches, hframe, ?_⟩
  rw [hmismatches]
  exact hraised.eq

end

/-- Settles O57: a lemma for each evaluation, row, line, reading and check. -/
theorem panelDrivesCommitsAndGuards : Obligations.PanelDrivesCommitsAndGuards := by
  unfold Obligations.PanelDrivesCommitsAndGuards
  intro s hruns
  refine ⟨fun hepoch hstate hfrozen hsuspended => ⟨fun hfull => ?_, fun hfull => ⟨fun hdrawn => ?_, fun hundrawn => ?_⟩⟩,
    fun r new rest hstate hrow hrows hfrozen hsuspended => ?_, fun r new hrow hrows hcomp hlength _ hdue hwf => ?_,
    fun r new q next rest hrow hrows hcomp hfrozen hgroup hne hothers hdue => ?_, panelRowComplete_of_early,
    fun r q rest hrow hrows hcomp hfrozen => ?_, panelTemperatureRead_of_runs hruns, frameMemoryCrcCheck_of_mismatch hruns⟩
  · exact panelEvaluation_of_full hruns hepoch hstate hfrozen hsuspended hfull
  · exact panelEvaluation_of_partial hruns hepoch hstate hfrozen hsuspended hfull hdrawn
  · exact panelEvaluation_of_undrawn hruns hepoch hstate hfrozen hsuspended hfull hundrawn
  · exact panelEpoch_of_first hstate hrow hrows hfrozen hsuspended
  · exact panelRowComplete_of_last hruns hrow hrows hcomp hlength hdue hwf
  · exact panelRowComplete_of_next hruns hrow hrows hcomp hfrozen hgroup hne hothers hdue
  · exact compensationLineComplete_of_whole hruns hrow hrows hcomp hfrozen

end Sys2Proof.Machine
end

section
/-! Supply, oscillator, base plate and key socket (R27, R103, R104, R402, R449 to R451, R468). -/

namespace Sys2Proof.Machine

/-- EV_001 and EV_002 follow the inputs' state. -/
theorem inputEvents_of_supply (u : Supply) (s : State) : (inputEvents { s with sup := u }).sup = u ∧
    eventActive 1 (inputEvents { s with sup := u }) = (u.aAbsent || u.aCut) ∧ eventActive 2 (inputEvents { s with sup := u }) = (u.bAbsent || u.bCut) ∧
    inputEvents { s with sup := u } = withEvents { s with sup := (inputEvents { s with sup := u }).sup } (inputEvents { s with sup := u }) := by
  have hevents : EventsOnly { s with sup := u } (inputEvents { s with sup := u }) := (EventsOnly.condition 1 _ _).trans (.condition 2 _ _)
  have hsup : (inputEvents { s with sup := u }).sup = u := by
    rw [hevents.eq]
    rfl
  refine ⟨hsup, ?_, ?_, ?_⟩
  · exact (eventActive_condition 1 2 _ _).trans ((if_neg (by decide)).trans ((eventActive_condition 1 1 _ _).trans (if_pos rfl)))
  · exact (eventActive_condition 2 2 _ _).trans (if_pos rfl)
  · rw [hsup]
    exact hevents.eq

section
variable {s : State} (hruns : timerRuns s = true)
include hruns

/-! ## The bus and its inputs (R449, R450) -/

theorem busWarning_of_low {v : Nat} (h : v ≤ 4044) :
    ∃ t, exec (.busWarning v) s = .next t ∧ Raised 0 { s with sup := { s.sup with bus := v, warn := true } } t :=
  ⟨_, next_of_pos ⟨hruns, h.trans (by decide)⟩ _ _, raised_raise 0 _⟩

theorem busWarningClear_of_high {v : Nat} (h : 4276 ≤ v) :
    ∃ t, exec (.busWarningClear v) s = .next t ∧ Cleared 0 { s with sup := { s.sup with bus := v, warn := false } } t :=
  ⟨_, next_of_pos ⟨hruns, le_trans (by decide) h⟩ _ _, cleared_clearEvent 0 _⟩

theorem inputAbsent_one (h : 200 ≤ s.sup.aLow) : ∃ t, exec (.inputAbsent .one) s = .next t ∧ t.sup = { s.sup with aAbsent := true } ∧
    eventActive 1 t = true ∧ eventActive 2 t = (s.sup.bAbsent || s.sup.bCut) ∧ t = withEvents { s with sup := t.sup } t := by
  obtain ⟨hsup, hone, htwo, honly⟩ := inputEvents_of_supply { s.sup with aAbsent := true } s
  exact ⟨_, next_of_pos ⟨hruns, h⟩ _ _, hsup, hone, htwo, honly⟩

theorem inputAbsent_two (h : 200 ≤ s.sup.bLow) : ∃ t, exec (.inputAbsent .two) s = .next t ∧ t.sup = { s.sup with bAbsent := true } ∧
    eventActive 2 t = true ∧ eventActive 1 t = (s.sup.aAbsent || s.sup.aCut) ∧ t = withEvents { s with sup := t.sup } t := by
  obtain ⟨hsup, hone, htwo, honly⟩ := inputEvents_of_supply { s.sup with bAbsent := true } s
  exact ⟨_, next_of_pos ⟨hruns, h⟩ _ _, hsup, htwo, hone, honly⟩

theorem inputReturn_one (h : 4276 ≤ s.sup.pwrA) : ∃ t, exec (.inputReturn .one) s = .next t ∧ t.sup = { s.sup with aAbsent := false } ∧
    eventActive 1 t = s.sup.aCut ∧ eventActive 2 t = (s.sup.bAbsent || s.sup.bCut) ∧ t = withEvents { s with sup := t.sup } t := by
  obtain ⟨hsup, hone, htwo, honly⟩ := inputEvents_of_supply { s.sup with aAbsent := false } s
  exact ⟨_, next_of_pos ⟨hruns, le_trans (by decide) h⟩ _ _, hsup, hone, htwo, honly⟩

theorem inputReturn_two (h : 4276 ≤ s.sup.pwrB) : ∃ t, exec (.inputReturn .two) s = .next t ∧ t.sup = { s.sup with bAbsent := false } ∧
    eventActive 2 t = s.sup.bCut ∧ eventActive 1 t = (s.sup.aAbsent || s.sup.aCut) ∧ t = withEvents { s with sup := t.sup } t := by
  obtain ⟨hsup, hone, htwo, honly⟩ := inputEvents_of_supply { s.sup with bAbsent := false } s
  exact ⟨_, next_of_pos ⟨hruns, le_trans (by decide) h⟩ _ _, hsup, htwo, hone, honly⟩

theorem overvoltageDisconnect_one (h : 200 < s.sup.aHigh) : ∃ t, exec (.overvoltageDisconnect .one) s = .next t ∧
    t.sup = { s.sup with aCut := true } ∧ eventActive 1 t = true ∧ t = withEvents { s with sup := t.sup } t := by
  obtain ⟨hsup, hone, -, honly⟩ := inputEvents_of_supply { s.sup with aCut := true } s
  exact ⟨_, next_of_pos ⟨hruns, h⟩ _ _, hsup, hone.trans (Bool.or_true _), honly⟩

theorem overvoltageDisconnect_two (h : 200 < s.sup.bHigh) : ∃ t, exec (.overvoltageDisconnect .two) s = .next t ∧
    t.sup = { s.sup with bCut := true } ∧ eventActive 2 t = true ∧ t = withEvents { s with sup := t.sup } t := by
  obtain ⟨hsup, -, htwo, honly⟩ := inputEvents_of_supply { s.sup with bCut := true } s
  exact ⟨_, next_of_pos ⟨hruns, h⟩ _ _, hsup, htwo.trans (Bool.or_true _), honly⟩

theorem overvoltageReconnect_one (h : s.sup.pwrA < 20992) : ∃ t, exec (.overvoltageReconnect .one) s = .next t ∧
    t.sup = { s.sup with aCut := false } ∧ eventActive 1 t = s.sup.aAbsent ∧ t = withEvents { s with sup := t.sup } t := by
  obtain ⟨hsup, hone, -, honly⟩ := inputEvents_of_supply { s.sup with aCut := false } s
  exact ⟨_, next_of_pos ⟨hruns, h.le.trans (by decide)⟩ _ _, hsup, hone.trans (Bool.or_false _), honly⟩

theorem overvoltageReconnect_two (h : s.sup.pwrB < 20992) : ∃ t, exec (.overvoltageReconnect .two) s = .next t ∧
    t.sup = { s.sup with bCut := false } ∧ eventActive 2 t = s.sup.bAbsent ∧ t = withEvents { s with sup := t.sup } t := by
  obtain ⟨hsup, -, htwo, honly⟩ := inputEvents_of_supply { s.sup with bCut := false } s
  exact ⟨_, next_of_pos ⟨hruns, h.le.trans (by decide)⟩ _ _, hsup, htwo.trans (Bool.or_false _), honly⟩

/-! ## Oscillator and base plate (R27, R402, R468) -/

theorem ocxoWarmupOverdue_of_cold (hstable : s.sup.stable = false) (hwarm : 300 ≤ s.sup.warmS) :
    ∃ t, exec .ocxoWarmupOverdue s = .next t ∧ Raised 4 s t :=
  ⟨_, next_of_pos ⟨hruns, by simp [hstable], hwarm⟩ _ _, raised_raise 4 s⟩

theorem temperatureWarning_of_hot {x : Int} (h : 20992 < x) :
    ∃ t, exec (.temperatureWarning x) s = .next t ∧ Raised 8 { s with sup := { s.sup with base := some x, tempWarn := true } } t :=
  ⟨_, next_of_pos ⟨hruns, le_trans (by decide) h.le⟩ _ _, raised_raise 8 _⟩

theorem temperatureLimit_of_hot {x : Int} (h : 23552 < x) :
    ∃ t, exec (.temperatureLimit x) s = .next t ∧ Raised 29 { s with sup := { s.sup with base := some x, tempLimit := true } } t :=
  ⟨_, next_of_pos ⟨hruns, le_trans (by decide) h.le⟩ _ _, raised_raise 29 _⟩

/-- Well below both thresholds both events clear. -/
theorem temperatureFall_of_cool {x : Int} (h : x ≤ 19200) : ∃ t, exec (.temperatureFall x) s = .next t ∧ eventActive 8 t = false ∧
    eventActive 29 t = false ∧ t = withEvents { s with sup := { s.sup with base := some x, tempWarn := false, tempLimit := false } } t := by
  have hexec : exec (.temperatureFall x) s = .next (clearEvent 8 (modSup (fun u => { u with tempWarn := false })
      (clearEvent 29 { s with sup := { s.sup with base := some x, tempLimit := false } }))) :=
    congrArg Host.Outcome.next ((if_pos hruns).trans ((if_pos (h.trans (by decide))).trans
      (congrArg (fun t => clearEvent 8 (modSup (fun u => { u with tempWarn := false }) t)) (if_pos (h.trans (by decide))))))
  have hlimit := cleared_clearEvent 29 { s with sup := { s.sup with base := some x, tempLimit := false } }
  generalize clearEvent 29 { s with sup := { s.sup with base := some x, tempLimit := false } } = t at *
  have hwarn := cleared_clearEvent 8 (modSup (fun u => { u with tempWarn := false }) t)
  refine ⟨_, hexec, hwarn.inactive, (hwarn.others (by decide)).trans hlimit.inactive, ?_⟩
  calc clearEvent 8 (modSup (fun u => { u with tempWarn := false }) t)
      = withEvents (modSup (fun u => { u with tempWarn := false }) t) (clearEvent 8 (modSup (fun u => { u with tempWarn := false }) t)) := hwarn.eq
    _ = withEvents { s with sup := { s.sup with base := some x, tempWarn := false, tempLimit := false } }
          (clearEvent 8 (modSup (fun u => { u with tempWarn := false }) t)) :=
        congrArg (fun u => withEvents (modSup (fun v => { v with tempWarn := false }) u) (clearEvent 8 (modSup (fun v => { v with tempWarn := false }) t))) hlimit.eq

/-! ## The key socket (R103, R104) -/

/-- A contact that has held its new state, after LOAD: it is reported at once. -/
theorem keyPresenceChange_of_after {b : Bool} {n : Nat} (hb : b ≠ s.sup.keyPresent) (hn : 200 ≤ n) (hmode : s.um.mode ≠ .load) :
    ∃ t, exec (.keyPresenceChange b n) s = .next t ∧
      Raised 14 { s with sup := { s.sup with keyPresent := b, keyChanges := min (s.sup.keyChanges + 1) 65535, keyDue := 0 } } t :=
  ⟨_, congrArg Host.Outcome.next ((if_pos ⟨hruns, hb, hn⟩).trans ((if_pos hmode).trans (if_neg Nat.one_ne_zero))), raised_raise 14 _⟩

theorem keyPresenceChange_of_load {b : Bool} {n : Nat} (hb : b ≠ s.sup.keyPresent) (hn : 200 ≤ n) (hmode : s.um.mode = .load)
    (hloaded : s.um.loaded = true) :
    exec (.keyPresenceChange b n) s = .next { s with sup := { s.sup with keyPresent := b, keyDue := s.sup.keyDue + 1 } } :=
  congrArg Host.Outcome.next ((if_pos ⟨hruns, hb, hn⟩).trans ((if_neg (not_not_intro hmode)).trans (if_pos hloaded)))

end

theorem keyPresenceChange_of_short {s : State} (b : Bool) {n : Nat} (h : n < 200) : exec (.keyPresenceChange b n) s = .next s :=
  next_of_neg (fun hguard => absurd hguard.2.2 (Nat.not_le.mpr h)) _ _

/-- Settles O59: a lemma for each input, event and contact. -/
theorem supplyConditionsRaiseAndClear : Obligations.SupplyConditionsRaiseAndClear := by
  unfold Obligations.SupplyConditionsRaiseAndClear
  intro s
  refine ⟨fun hruns => ⟨fun v hv => busWarning_of_low hruns hv, fun v hv => busWarningClear_of_high hruns hv, inputAbsent_one hruns, inputAbsent_two hruns,
    inputReturn_one hruns, inputReturn_two hruns, overvoltageDisconnect_one hruns, overvoltageReconnect_one hruns, overvoltageDisconnect_two hruns,
    overvoltageReconnect_two hruns, ocxoWarmupOverdue_of_cold hruns, fun x hx => temperatureWarning_of_hot hruns hx,
    fun x hx => temperatureLimit_of_hot hruns hx, fun x hx => temperatureFall_of_cool hruns hx,
    fun b n hb hn hmode => keyPresenceChange_of_after hruns hb hn hmode, fun b n hb hn hmode hloaded => keyPresenceChange_of_load hruns hb hn hmode hloaded,
    fun b n hn => keyPresenceChange_of_short b hn⟩, fun hreset => ?_, ⟨_, rfl, cleared_clearEvent 4 _⟩⟩
  exact next_of_neg (by simp [hreset]) _ _

end Sys2Proof.Machine
end

section
/-! Faults of the hardware: fatal errors, memory errors and the dump (R24, R30, R31, R364, R365). -/

namespace Sys2Proof.Machine

/-! ## Fatal errors (R24) -/

/-- A fatal error whose dump is due, in a mode that HOLD follows. -/
theorem fatalError_of_undumped {s : State} (hhold : transition s.um.mode .hold = true) (hvalid : s.dmp.valid = false) (hdue : s.dmp.due = none)
    (cause writer : Nat) : fatalError cause writer s = { s with
      ex := { s.ex with stopped := true, emit := false, holdDue := some (s.ex.holdDue.getD cause), fatalDue := true }
      dmp := { s.dmp with due := some ⟨cause, writer, s.ex.epoch, s.log.opTime⟩ } } := by
  unfold fatalError
  dsimp only
  rw [if_pos hhold, hvalid, if_neg Bool.false_ne_true, hdue]
  rfl

/-- While a valid dump is held another one is lost. -/
theorem fatalError_of_dumped {s : State} (hhold : transition s.um.mode .hold = true) (hvalid : s.dmp.valid = true) (cause writer : Nat) :
    fatalError cause writer s = { s with
      ex := { s.ex with stopped := true, emit := false, holdDue := some (s.ex.holdDue.getD cause), fatalDue := true }
      dmp := { s.dmp with lost := min (s.dmp.lost + 1) 255 } } := by
  unfold fatalError
  dsimp only
  rw [if_pos hhold, hvalid, if_pos rfl]
  rfl

/-- A fatal error leaves the unit's mode and role and its recorder. -/
theorem fatalError_unit (cause writer : Nat) (s : State) : (fatalError cause writer s).um = s.um ∧ (fatalError cause writer s).log = s.log := by
  unfold fatalError
  dsimp only
  split
  · split <;> exact ⟨rfl, rfl⟩
  · split
    · split <;> simp
    · simp

/-- HOLD comes with EV_011 where a transition leads there. -/
theorem fatalError_fatalDue {s : State} (hhold : transition s.um.mode .hold = true) (cause writer : Nat) :
    (fatalError cause writer s).ex.fatalDue = true := by
  unfold fatalError
  dsimp only
  rw [if_pos hhold]

/-! ## Errors in SRAM (R30) -/

/-- The faulty word is no longer an injected one that waits to be met. -/
def wordFound (f : SramFault) (uncorrectable : Bool) (s : State) : State :=
  modKtl (fun k => { k with injected := k.injected.filter (· != (f.offset / 65536, uncorrectable)) }) s

section
variable {s : State} (hruns : timerRuns s = true)
include hruns

/-- Outside the tile stores an uncorrectable error is a fatal one. -/
theorem eccUncorrectable_of_sram {f : SramFault} (hlow : 0x800000 ≤ f.offset) (hhigh : f.offset < 0x1000000) :
    ∃ t, exec (.eccUncorrectable f) s = .next t ∧ t.ex.stopped = true ∧ t.ex.emit = false ∧
      (transition s.um.mode .hold = true → t.ex.holdDue = some (s.ex.holdDue.getD 2) ∧ t.ex.fatalDue = true) ∧ t.um = s.um ∧ t.log = s.log := by
  have hexec : exec (.eccUncorrectable f) s = .next (fatalError 2 1 (wordFound f true s)) := by
    refine congrArg Host.Outcome.next ((if_neg ?_).trans (if_neg ?_))
    · rintro (hnot | hout)
      · exact hnot hruns
      · exact absurd hout (Nat.not_le.mpr hhigh)
    · exact Nat.not_lt.mpr hlow
  obtain ⟨hstopped, hemit, -, -, -, hhold⟩ := fatalError_spec 2 1 (wordFound f true s)
  obtain ⟨hum, hlog⟩ := fatalError_unit 2 1 (wordFound f true s)
  exact ⟨_, hexec, hstopped, hemit, fun h => ⟨hhold h, fatalError_fatalDue (s := wordFound f true s) h 2 1⟩, hum, hlog⟩

/-- Kettle is told to test a Skillet next. -/
def testDirected (k : Nat) (s : State) : State :=
  if ¬ s.ktl.directed.contains k then modKtl (fun x => { x with directed := x.directed ++ [k] }) s else s

omit hruns in
theorem testDirected_spec (k : Nat) (s : State) : k ∈ (testDirected k s).ktl.directed ∧ testDirected k s = { s with ktl := (testDirected k s).ktl } := by
  unfold testDirected
  split
  · exact ⟨List.mem_append_right _ (List.mem_singleton.mpr rfl), rfl⟩
  · rename_i hin
    exact ⟨List.contains_iff_mem.mp (Decidable.not_not.mp hin), rfl⟩

omit hruns in
/-- A run that lies on the Skillet has lost a word of it. -/
theorem mem_lost_loseRun {cls case k : Nat} {s : State} {p : SlowRun} (h : k ∈ lyingOn cls case false [k] s) : k ∈ (loseRun cls case k s p).lost := by
  unfold loseRun
  rw [if_neg (by rw [List.isEmpty_iff]; exact List.ne_nil_of_mem h)]
  exact (mem_insertNat _ _ _).mpr (Or.inl rfl)

/-- In a tile store the Skillet's word is lost, and the Skillet is tested next. -/
theorem eccUncorrectable_of_tile {f : SramFault} (h : f.offset < 0x800000) : ∃ t, exec (.eccUncorrectable f) s = .next t ∧
    f.offset / 0x100000 ∈ t.fab.broken ∧ f.offset / 0x100000 ∈ t.ktl.directed ∧
    (∀ p, s.slow.plan = some p → f.offset / 0x100000 ∈ lyingOn 4 0 false [f.offset / 0x100000] s →
      ∃ q, t.slow.plan = some q ∧ f.offset / 0x100000 ∈ q.lost) ∧ t.ex = s.ex ∧ t.um = s.um ∧ t.evt = s.evt ∧ t.mir = s.mir := by
  have hexec : exec (.eccUncorrectable f) s =
      .next (testDirected (f.offset / 0x100000) (loseWord (f.offset / 0x100000) (wordFound f true s))) := by
    refine congrArg Host.Outcome.next ((if_neg ?_).trans (if_pos h))
    rintro (hnot | hout)
    · exact hnot hruns
    · exact absurd hout (Nat.not_le.mpr (h.trans (by decide)))
  generalize f.offset / 0x100000 = k at *
  obtain ⟨hdirected, honly⟩ := testDirected_spec k (loseWord k (wordFound f true s))
  refine ⟨_, hexec, ?_, hdirected, fun p hp hlies => ?_, ?_, ?_, ?_, ?_⟩ <;> rw [honly]
  · exact (mem_insertNat _ _ _).mpr (Or.inl rfl)
  · exact ⟨_, congrArg (Option.map (loseRun 4 0 k (wordFound f true s))) hp, mem_lost_loseRun (s := wordFound f true s) hlies⟩
  · rfl
  · rfl
  · rfl
  · rfl

/-- A corrected error is counted where it was found, and above the declared rate raises EV_010. -/
theorem eccCorrected_of_sram {f : SramFault} {n : Nat} {r : List Nat} (hhigh : f.offset < 0x1000000) (hwindow : s.sup.eccs = n :: r) :
    ∃ t, exec (.eccCorrected f) s = .next t ∧ t.sup.eccs = (n + 1) :: r ∧
      (f.offset < 0x800000 → t.fab.ecc = min (s.fab.ecc + 1) (2 ^ 32 - 1) ∧ t.sup.eccOther = s.sup.eccOther) ∧
      (0x800000 ≤ f.offset → t.fab = s.fab ∧ t.sup.eccOther = s.sup.eccOther + 1) ∧
      (s.cfg.valid = true → s.cfg.image.eccRate < n + 1 + r.sum → eventActive 10 t = true) ∧
      (n + 1 + r.sum ≤ s.cfg.image.eccRate → t.evt = s.evt) ∧ t.ex = s.ex ∧ t.um = s.um := by
  have hexec : exec (.eccCorrected f) s = .next (countCorrected (f.offset / 65536) (wordFound f false s)) := by
    refine next_of_neg ?_ _ _
    rintro (hnot | hout)
    · exact hnot hruns
    · exact absurd hout (Nat.not_le.mpr hhigh)
  obtain ⟨hfab, hsup⟩ : (errorCounted (f.offset / 65536) (wordFound f false s)).fab =
        { s.fab with ecc := if f.offset / 65536 < 128 then bump 32 s.fab.ecc else s.fab.ecc } ∧
      (errorCounted (f.offset / 65536) (wordFound f false s)).sup =
        { s.sup with eccOther := if f.offset / 65536 < 128 then s.sup.eccOther else s.sup.eccOther + 1, eccs := (n + 1) :: r } := by
    refine ⟨rfl, ?_⟩
    unfold errorCounted
    rw [show (wordFound f false s).sup = s.sup from rfl, hwindow]
  have hevents := countCorrected_events (f.offset / 65536) (wordFound f false s)
  have hcounted := countCorrected_eq (f.offset / 65536) (wordFound f false s)
  have hsum : (errorCounted (f.offset / 65536) (wordFound f false s)).sup.eccs.sum = n + 1 + r.sum := by
    rw [hsup]
    exact List.sum_cons
  rw [hsum] at hcounted
  obtain ⟨hevt, hex, hum⟩ : (errorCounted (f.offset / 65536) (wordFound f false s)).evt = s.evt ∧
      (errorCounted (f.offset / 65536) (wordFound f false s)).ex = s.ex ∧ (errorCounted (f.offset / 65536) (wordFound f false s)).um = s.um :=
    ⟨rfl, rfl, rfl⟩
  generalize errorCounted (f.offset / 65536) (wordFound f false s) = w at *
  refine ⟨_, hexec, ?_, fun hlow => ?_, fun hlow => ?_, fun hvalid hrate => ?_, fun hrate => ?_, ?_, ?_⟩
  · rw [hevents.eq]
    exact congrArg Supply.eccs hsup
  · have hslice : f.offset / 65536 < 128 := by omega
    rw [hevents.eq]
    exact ⟨(congrArg Fabric.ecc hfab).trans (if_pos hslice), (congrArg Supply.eccOther hsup).trans (if_pos hslice)⟩
  · have hslice : ¬ f.offset / 65536 < 128 := by omega
    rw [if_neg hslice] at hfab hsup
    rw [hevents.eq]
    exact ⟨hfab, congrArg Supply.eccOther hsup⟩
  · rw [hcounted, if_pos ⟨hvalid, hrate⟩, raise_active]
  · rw [hcounted, if_neg fun h => absurd h.2 (Nat.not_lt.mpr hrate), hevt]
  · rw [hevents.eq]
    exact hex
  · rw [hevents.eq]
    exact hum

end

/-! ## Errors in MRAM and the dump (R31, R365) -/

section
variable {s : State} (hreset : s.um.inReset = false)
include hreset

/-- A record at fault is marked corrupt. -/
theorem mramUncorrectable_of_record {i : Nat} {r : EvRecord} (hr : s.log.records[i]? = some r) :
    ∃ t, exec (.mramUncorrectable (.record i)) s = .next t ∧ eventActive 20 t = true ∧ t.log.records[i]? = some { r with corrupt := true } ∧
      (∀ k, k ≠ i → t.log.records[k]? = s.log.records[k]?) ∧ t = withEvents { s with log := { s.log with records := t.log.records } } t := by
  have hexec : exec (.mramUncorrectable (.record i)) s =
      .next (raise 20 { s with log := { s.log with records := modAt s.log.records i fun x => { x with corrupt := true } } }) :=
    next_of_neg (by simp [hreset]) _ _
  have hraised := raised_raise 20 { s with log := { s.log with records := modAt s.log.records i fun x => { x with corrupt := true } } }
  generalize raise 20 { s with log := { s.log with records := modAt s.log.records i fun x => { x with corrupt := true } } } = t at *
  have hrecords : t.log.records = modAt s.log.records i fun x => { x with corrupt := true } := by
    rw [hraised.eq]
    rfl
  refine ⟨t, hexec, hraised.active, ?_, fun k hk => ?_, ?_⟩
  · rw [hrecords]
    exact modAt_same hr _
  · rw [hrecords]
    exact modAt_other _ hk _
  · rw [hrecords]
    exact hraised.eq

/-- An item of the journal and state region is noted for the next start. -/
theorem mramUncorrectable_of_item {x : MramItem} (hx : ∀ i, x ≠ .record i) : ∃ t, exec (.mramUncorrectable x) s = .next t ∧
    eventActive 20 t = true ∧ x ∈ t.evt.mramBad ∧ t.log = s.log ∧ t.um = s.um ∧ t.pnl.frame = s.pnl.frame := by
  have hexec : exec (.mramUncorrectable x) s = .next (raise 20 { s with
      evt := { s.evt with mramBad := if s.evt.mramBad.contains x then s.evt.mramBad else s.evt.mramBad ++ [x] } }) := by
    refine next_of_neg (by simp [hreset]) _ _ |>.trans (congrArg Host.Outcome.next ?_)
    cases x with
    | record i => exact absurd rfl (hx i)
    | panel | counters | tileHealth | lifeCycle => rfl
  have hbad : x ∈ (if s.evt.mramBad.contains x then s.evt.mramBad else s.evt.mramBad ++ [x]) := by
    split
    · rename_i hin
      exact List.contains_iff_mem.mp hin
    · exact List.mem_append_right _ (List.mem_singleton.mpr rfl)
  have hraised := raised_raise 20 { s with
      evt := { s.evt with mramBad := if s.evt.mramBad.contains x then s.evt.mramBad else s.evt.mramBad ++ [x] } }
  refine ⟨_, hexec, hraised.active, ?_, ?_, ?_, ?_⟩ <;> rw [hraised.eq]
  · exact hbad
  · rfl
  · rfl
  · rfl

end

/-- Octets written are read back as a slice of them. -/
theorem memReads_writes {d : Byte} {l : List Byte} {m : List (Nat × Byte)} {a k n : Nat} (hm : Memory.wf d m = true) (hk : k + n ≤ l.length) :
    memReads d (memWrites d a l m) (a + k) n = (l.drop k).take n := by
  apply List.ext_getElem?
  intro i
  by_cases hi : i < n
  · rw [memReads, List.getElem?_map, List.getElem?_range hi, List.getElem?_take_of_lt hi, List.getElem?_drop, Option.map_some,
      ← memRead_writes_same d l a (k + i) m hm (by omega), Nat.add_assoc]
  · rw [List.getElem?_eq_none (by simpa [memReads] using hi), List.getElem?_eq_none (by rw [List.length_take]; omega)]

theorem dumpHeader_fields (d : DumpDue) (blocks : Nat) (sections : List Host.Cell) (s : State) : 21 ≤ (dumpHeader d blocks sections s).length ∧
    (dumpHeader d blocks sections s).take 7 = [0x44, 0x4D, 0x50, 0x31, 1, BitVec.ofNat 8 d.cause, BitVec.ofNat 8 d.writer] ∧
    ((dumpHeader d blocks sections s).drop 8).take 6 = beBytes 6 d.epoch ∧ ((dumpHeader d blocks sections s).drop 16).take 5 = beBytes 5 d.opTime := by
  refine ⟨?_, ?_, rfl, rfl⟩
  · simp only [dumpHeader, List.length_append, length_beBytes, List.length_cons, List.length_nil]
    omega
  · simp [dumpHeader, beBytes]

/-- A dump that completes in HOLD is VALID, with its cause, its epoch and its operating time in the header. -/
theorem fatalDumpComplete_of_due {s : State} (hreset : s.um.inReset = false) (hmode : s.um.mode = .hold) {cause writer e op : Nat}
    (hdue : s.dmp.due = some ⟨cause, writer, e, op⟩) (ps : List Byte) : ∃ t, exec (.fatalDumpComplete ps) s = .next t ∧
      t.dmp.valid = true ∧ t.dmp.cause = cause ∧ t.dmp.epoch = e ∧ t.dmp.blocks = (recentSets e s).length ∧ t.dmp.due = none ∧
      memReads 0 t.dmp.mem 8 6 = beBytes 6 e ∧ memReads 0 t.dmp.mem 16 5 = beBytes 5 op ∧
      memReads 0 t.dmp.mem 0 7 = [0x44, 0x4D, 0x50, 0x31, 1, BitVec.ofNat 8 cause, BitVec.ofNat 8 writer] ∧
      eventActive 17 t = true ∧ t.um = s.um ∧ t.log = s.log ∧ t.ex = s.ex := by
  have hsections := dumpSections_wf ps (recentSets e s) s
  have hexec : exec (.fatalDumpComplete ps) s = .next (finishDump ps s) := next_of_pos ⟨hmode, by simp [hreset]⟩ _ _
  unfold finishDump at hexec
  rw [hdue] at hexec
  dsimp only at hexec
  generalize dumpSections ps (recentSets e s) s = m at *
  obtain ⟨hlength, hstart, hepoch, htime⟩ := dumpHeader_fields ⟨cause, writer, e, op⟩ (recentSets e s).length m s
  generalize dumpHeader ⟨cause, writer, e, op⟩ (recentSets e s).length m s = l at *
  have hread (k n : Nat) (hk : k + n ≤ 21) : memReads 0 (memWrites 0 0 l m) k n = (l.drop k).take n := by
    have hslice := memReads_writes (a := 0) (l := l) hsections (hk.trans hlength)
    rwa [Nat.zero_add] at hslice
  have hraised := raised_raise 17 { s with dmp := { s.dmp with
      valid := true, mem := memWrites 0 0 l m, cause := cause, epoch := e, blocks := (recentSets e s).length, readRanges := [], due := none } }
  generalize raise 17 { s with dmp := { s.dmp with
      valid := true, mem := memWrites 0 0 l m, cause := cause, epoch := e, blocks := (recentSets e s).length, readRanges := [], due := none } } = t at *
  have hactive := hraised.active
  refine ⟨t, hexec, ?_, ?_, ?_, ?_, ?_, ?_, ?_, ?_, hactive, ?_, ?_, ?_⟩ <;> rw [hraised.eq]
  · rfl
  · rfl
  · rfl
  · rfl
  · rfl
  · exact (hread 8 6 (by decide)).trans hepoch
  · exact (hread 16 5 (by decide)).trans htime
  · exact (hread 0 7 (by decide)).trans hstart
  · rfl
  · rfl
  · rfl

/-- Settles O60: a lemma for each fault. -/
theorem hardwareFaultsStopAndAreCounted : Obligations.HardwareFaultsStopAndAreCounted := by
  unfold Obligations.HardwareFaultsStopAndAreCounted
  intro s
  refine ⟨fun hruns => ⟨fun p hhold hvalid hdue => ⟨⟨_, next_of_pos hruns _ _, ?_⟩, ⟨_, next_of_pos hruns _ _, ?_⟩⟩,
      fun p hhold hvalid => ⟨_, next_of_pos hruns _ _, ?_⟩, fun f hlow hhigh => ?_, fun f hlow => ?_, fun f n r hhigh hwindow => ?_⟩,
    fun hreset => ⟨fun i r hr => ?_, fun x hx => ?_, fun ps cause writer e op hmode hdue => ?_⟩⟩
  · exact fatalError_of_undumped hhold hvalid hdue 1 _
  · exact fatalError_of_undumped hhold hvalid hdue 3 _
  · exact fatalError_of_dumped hhold hvalid 1 _
  · exact eccUncorrectable_of_sram hruns hlow hhigh
  · exact eccUncorrectable_of_tile hruns hlow
  · exact eccCorrected_of_sram hruns hhigh hwindow
  · exact mramUncorrectable_of_record hreset hr
  · exact mramUncorrectable_of_item hreset hx
  · exact fatalDumpComplete_of_due hreset hmode hdue ps

end Sys2Proof.Machine
end
